-- ==== Sys2Proof/Word.lean ====
section
/-! DEFINITION. Sys2Proof/Word.lean: words, bytes and big-endian numbers (R6, R7), and the sorted association list that
holds every sparse part of the state. -/

namespace Sys2Proof

/-- a 32-bit register word (R7). -/
abbrev Word := BitVec 32

/-- one byte of a frame on the wire. -/
abbrev Byte := BitVec 8

/-- the number that bytes spell in network byte order, most significant first (R7). -/
def beNat : List Byte → Nat := List.foldl (fun n b => n * 256 + b.toNat) 0

/-- `k` bytes of `n` in network byte order. -/
def beBytes : Nat → Nat → List Byte
  | 0, _ => []
  | k + 1, n => beBytes k (n / 256) ++ [BitVec.ofNat 8 n]

/-- `len` bytes from position `off`. -/
def sub (off len : Nat) (l : List Byte) : List Byte := (l.drop off).take len

/-- the big-endian number of `len` bytes at position `off`. -/
def fieldAt (off len : Nat) (l : List Byte) : Nat := beNat (sub off len l)

/-- bits `[lo + w - 1 : lo]` of `n`. -/
def bitsOf (lo w n : Nat) : Nat := n / 2 ^ lo % 2 ^ w

/-- A sparse map: pairs of a key and a value, keys strictly rising; a key not listed reads as the default the
reader names. -/
abbrev SMap (α : Type) := List (Nat × α)

/-- the value at `k`, or `d` where none is listed. -/
def SMap.get {α : Type} (d : α) (k : Nat) : SMap α → α
  | [] => d
  | (k', v) :: t => if k' = k then v else SMap.get d k t

/-- `k` now holds `v`. -/
def SMap.put {α : Type} (k : Nat) (v : α) : SMap α → SMap α
  | [] => [(k, v)]
  | (k', v') :: t =>
    if k' = k then (k, v) :: t
    else if k < k' then (k, v) :: (k', v') :: t
    else (k', v') :: SMap.put k v t

/-- `k` is listed no more. -/
def SMap.drop {α : Type} (k : Nat) (m : SMap α) : SMap α := m.filter (fun p => p.1 ≠ k)

/-- `k` now reads as `v`; a value equal to the default `d` is not listed. -/
def SMap.set {α : Type} [DecidableEq α] (d : α) (k : Nat) (v : α) (m : SMap α) : SMap α :=
  if v = d then SMap.drop k m else SMap.put k v m

/-- the value at `k`, if one is listed. -/
def SMap.find {α : Type} (k : Nat) : SMap α → Option α
  | [] => none
  | (k', v) :: t => if k' = k then some v else SMap.find k t

/-- the keys rise strictly. -/
def SMap.sorted {α : Type} : SMap α → Bool
  | [] => true
  | [_] => true
  | (k, _) :: (k', v') :: t => decide (k < k') && SMap.sorted ((k', v') :: t)

end Sys2Proof
end

