-- ==== Sys2Proof/Syntax.lean ====
section
/-! DEFINITION. Sys2Proof/Syntax.lean: the commands, one constructor of `Instr` for each row of spec/opcode_table.json.
What the environment decides (the content of a frame, a measured value, what firmware computed) is an operand. -/

namespace Sys2Proof

/-- a port a Harlet frame arrives on (R38). -/
inductive HPort where
  | a | b | m | izt
  deriving DecidableEq, Repr

/-- who asks for an operation: an open session by its index, the domain session (R52), a firing WRITE_AT entry by its
slot (R57), or firmware on the Obrov cores. -/
inductive Origin where
  | session (i : Fin 8)
  | domain
  | wat (slot : Fin 256)
  | firmware
  deriving DecidableEq, Repr

/-- where an operation comes from, and the tag its response carries (R41). -/
structure Req where
  origin : Origin
  tag : BitVec 16
  deriving DecidableEq, Repr

/-- the body of a WRITE_AT (R55). -/
structure WatBody where
  trigger : Byte
  masked : Bool
  refPage : Word
  time : BitVec 48
  ns : Word
  mask : Word
  value : Word
  deriving DecidableEq, Repr
/-- where a Harlet frame was addressed and where its answer goes (R37, R347): the form the frame came in (0 raw Ethernet, 1 UDP
over IPv4, 2 over IPv6), the controller's MAC, UDP port and IP address, for a frame that came wrapped over Iztaub the entry
device and its port, and the address on this device's port that the frame was sent to: its MAC address in the raw form, its IP
address, IPv4 as ::ffff:a.b.c.d, in the UDP forms. -/
structure Peer where
  form : Nat
  mac : BitVec 48
  udp : BitVec 16
  ip : BitVec 128
  entry : BitVec 10
  entryPort : Nat
  dst : BitVec 128
  deriving DecidableEq, Repr


/-- one ancillary packet (R78). -/
structure Anc where
  did : Nat
  sdid : Nat
  words : List Nat
  deriving DecidableEq, Repr

/-- one sample row data run of an ST 2110-20 packet: line, first pixel, second-field bit, and one number per pixel, its
components in 16-bit lanes, first component highest (R83, R96). -/
structure Srd where
  line : Nat
  start : Nat
  second : Bool
  samples : List Nat
  deriving DecidableEq, Repr

/-- the RTP content of a media packet: sequence number (32 bits for video), the media time its RTP timestamp spells, in
ns, its payload, and the PIDs of the TS packets it carries (R206). -/
structure MediaPkt where
  seq : Nat
  media : Nat
  srds : List Srd
  audio : List Nat
  ancs : List Anc
  tsPids : List Nat
  deriving DecidableEq, Repr

/-- the three flows of an ING page (R74). -/
inductive FlowKind where
  | video | audio | anc
  deriving DecidableEq, Repr

/-- a merged flow: of an ING page or of a decode channel. -/
inductive Flow where
  | ing (i : Fin 64) (k : FlowKind)
  | dch (i : Fin 16)
  deriving DecidableEq, Repr

/-- what memory faults do to a stored slice that is read at copy-out (R185): the bytes of header and NAL data that read changed, by
position and difference, the bits changed in the ring copy and in the table copy of its check, whether HBM reports an uncorrectable
error. -/
structure ReadFault where
  flips : List (Nat × Byte)
  ring : BitVec 32
  table : BitVec 32
  uncorrectable : Bool
  deriving DecidableEq, Repr

/-- an entry that reads back as it was stored. -/
def ReadFault.clean : ReadFault := ⟨[], 0, 0, false⟩

/-- what happens beside the rules while a core codes a slice: the CORE cycles for which it waits, whether an error in core state is
corrected (R146), the bytes in which a shadowing spare's slice differs, by position and difference (R139), and how
the entry reads back where it is copied out at once (R130, R185). -/
structure SliceRun where
  stall : Nat
  corrected : Bool
  shadow : List (Nat × Byte)
  read : ReadFault
  deriving DecidableEq, Repr

/-- whose leg (R196). -/
inductive LegOwner where
  | out (n : Fin 32) | snd (n : Fin 16)
  deriving DecidableEq, Repr


/-- what a sequence parameter set states (R203, R209, R213): whether its profile's constraint flags spell HEVC Main 4:2:2 10, its
luma raster, chroma (0 4:2:0, 1 4:2:2, 2 4:4:4), bit depth, field structure, picture buffering, and its codes. -/
structure Sps where
  main422 : Bool
  width : Nat
  height : Nat
  chroma : Nat
  depth : Nat
  field : Bool
  dpb : Nat
  profile : Nat
  level : Nat
  tier : Bool
  ctu : Nat
  deriving DecidableEq, Repr

/-- what a picture parameter set states of the picture's geometry: a VVC picture's own size where it differs from its SPS's
(R203), and the raster addresses of the CTUs in decoding order, by tiles, where that is not raster order (R213). -/
structure Pps where
  size : Option (Nat × Nat)
  scan : List Nat
  deriving DecidableEq, Repr

/-- a reference that a picture's RPS or reference lists name (R210, R211). -/
structure RefName where
  poc : Int
  long : Bool
  deriving DecidableEq, Repr

/-- A slice as the standard decodes it (R208): its picture (time stamp, POC, parity, whether it is an IRAP,
a CRA, a RASL, at which POC a recovery that starts here ends, whether it is output, what it references, which
parameter sets it names), the CTUs it decodes, `count` in decoding order from `first` on, with their samples by line × 2¹⁶ +
column, whether a syntax error ends it, and a run of CTUs whose reference read met an uncorrectable error. -/
structure SliceNal where
  stamp : Nat
  poc : Int
  second : Bool
  irap : Bool
  cra : Bool
  rasl : Bool
  recovery : Option Int
  output : Bool
  refs : List RefName
  sps : Nat
  pps : Nat
  apss : List Nat
  first : Nat
  count : Nat
  samples : List (Nat × Nat)
  error : Bool
  memErr : Option (Nat × Nat)
  deriving DecidableEq, Repr

/-- what a NAL unit is; a parameter set that cannot be parsed has no content. -/
inductive NalKind where
  | sps (id : Nat) (content : Option Sps)
  | pps (id : Nat) (content : Option Pps)
  | aps (id : Nat) (good : Bool)
  | slice (sl : SliceNal)
  | hash (agrees : Bool)
  | other
  deriving DecidableEq, Repr

/-- a NAL unit of a decode channel's stream (R207): the RTP sequence numbers that carry it, whether a TS continuity gap
falls in it, its access unit, its type, its byte offset in the access unit, and, beside the rules, the CORE cycles its decoding stalls
on memory and the errors corrected in core state while it is decoded (R227). -/
structure NalUnit where
  au : Nat
  firstSeq : BitVec 16
  lastSeq : BitVec 16
  gap : Bool
  nalType : Nat
  offset : Nat
  stall : Nat
  corrected : Nat
  kind : NalKind
  deriving DecidableEq, Repr


/-- a message on the twin link: header fields and body (R242, R243). -/
structure TwinMsg where
  kind : Byte
  flags : Byte
  ch : Byte
  row : Byte
  epoch : Word
  picture : Word
  body : List Byte
  deriving DecidableEq, Repr


/-- what an Announce says of its sender (R273, R274): its grandmaster, the comparison key that the best
timeTransmitter algorithm of IEEE 1588 gives it (lower wins), the figures TIM shows, and the receipt timeout. -/
structure Announce where
  gmId : BitVec 64
  rank : Nat
  priority1 : Byte
  clockClass : Byte
  stepsRemoved : BitVec 16
  utcOffset : BitVec 16
  utcValid : Bool
  timeoutMs : Nat
  deriving DecidableEq, Repr

/-- the coefficients that adaptation or training gives a lane (R296): c(−3) to c(1), CTLE code, DFE tap, FFE taps. -/
structure Equaliser where
  fir : List Int
  ctle : Nat
  dfe : Int
  ffe : List Int
  deriving DecidableEq, Repr

/-- how a lane's bring-up or re-acquisition ended well (R295, R299, R300): precoding agreed, a sync word found inverted,
lane numbers read 3, 2, 1, 0, the lowest snr of the trained check, the coefficients. -/
structure Trained where
  precodeTx : Bool
  precodeRx : Bool
  inverted : Bool
  reversed : Bool
  snr : Nat
  eq : Equaliser
  deriving DecidableEq, Repr

/-- what a block of 65,536 symbols measured (R297, R303, R305): snr, ber_est, signal detect, CDR lock, the new FFE and DFE
values of adaptation, and the symbol errors of a running checker. -/
structure LaneBlock where
  snr : Nat
  ber : Nat
  signal : Bool
  cdr : Bool
  ffe : List Int
  dfe : Int
  prbsErrors : Nat
  deriving DecidableEq, Repr

/-- why a lane's training failed (R299, R300, R311): its check or its 10 ms, a lane order that is neither straight nor
reversed, or auto-negotiation. -/
inductive TrainFail where
  | check | order | autoneg
  deriving DecidableEq, Repr


/-- the host protocols a port answers (R319). -/
inductive HostProto where
  | arp | neighbour | echo4 | echo6 | igmp | mld
  deriving DecidableEq, Repr

/-- what a UDP datagram carries. -/
inductive UdpUse where
  | rtp (pt : BitVec 7) (pkt : MediaPkt)
  | other
  deriving DecidableEq, Repr

/-- what a frame carries: a UDP datagram (IPv4 addresses as IPv4-mapped), whether its IP or UDP header fails R318; raw
Harlet (R37); a host protocol with the address it asks for (0 all groups) and what an answer repeats of it; LACP, whether it brings a subport in sync; or nothing anybody
claims. -/
inductive FrameBody where
  | udp (bad : Bool) (src dst : BitVec 128) (dport : BitVec 16) (use : UdpUse)
  | harletRaw
  | host (proto : HostProto) (bad : Bool) (target : BitVec 128) (data : List Nat)
  | lacp (subport : Fin 8) (inSync : Bool)
  | other
  deriving DecidableEq, Repr

/-- a frame as a port received it whole (R317): whether an uncorrectable codeword touched it, whether its FCS is good,
codewords corrected since the frame before, its length with FCS, its VLAN tags (PCP and VID), destination, content. -/
structure PortFrame where
  uncorrectable : Bool
  fcsGood : Bool
  corrected : Nat
  bytes : Nat
  tags : List (Nat × Nat)
  dmac : BitVec 48
  body : FrameBody
  deriving DecidableEq, Repr

/-- why a subport's link goes down (R325). -/
inductive DownCause where
  | alignment | localFault | remoteFault
  deriving DecidableEq, Repr


/-- consecutive uncorrectable codewords of a link, and their symbol errors by logical lane (R342). -/
structure FecRun where
  codewords : Nat
  errors : List Nat
  deriving DecidableEq, Repr

/-- what a control exchange of training says of the partner (R341): device number, link index, CFG.member, the slots it
grants by virtual lane, and whether its link layout version is this device's. -/
structure Exchange where
  device : BitVec 10
  link : Fin 4
  member : Bool
  alloc : List Nat
  sameVersion : Bool
  deriving DecidableEq, Repr


/-- an ECC error in the stacks (R368): corrected, in the frame bytes of a queue's head packet, in a descriptor or pointer
that leaves only the first `reach` packets reachable, or in the free list. -/
inductive StackError where
  | corrected
  | frameBytes (queue : Fin 1024)
  | pointer (queue : Fin 1024) (reach : Nat)
  | freeList
  deriving DecidableEq, Repr


/-- what the ECC finds in a read burst (R401): nothing, one symbol in error in a lane, or an uncorrectable error. -/
inductive Ecc where
  | good
  | corrected (lane : Fin 36)
  | poison
  deriving DecidableEq, Repr

/-- what a burst holds, where its owner acts on an uncorrectable error met by this read (R97, R143, R401): a part of a
channel's shelf, `count` stored pixels of the picture of media time `media` of an ingest page, or anything else. -/
inductive Holds where
  | shelf (channel : Fin 32)
  | pixels (page : Fin 64) (media : Nat) (line column : BitVec 16) (count : Fin 65)
  | other
  deriving DecidableEq, Repr

/-- a memory access (R391, R392): its requester, kind, place and size, what the ECC finds where it reads, and what the
burst holds. -/
structure HbmAccess where
  requester : Fin 64
  write : Bool
  bank : Fin 48
  row : Fin 16384
  column : BitVec 10
  bytes : Fin 33
  ecc : Ecc
  holds : Holds
  deriving DecidableEq, Repr

/-- what a run of the boot ROM or of the loader finds that only the hardware knows (R420, R422, R442): whether each copy
of the loader and of the key section is valid, whether the calibration folio passes its check, whether the stored main
image is free of uncorrectable errors, which catalogue slots have one, whether the main image completes step 6, and which physical encode
cores fail the power-on self-test (R115). -/
structure BootFinds where
  loaderA : Bool
  loaderB : Bool
  keysA : Bool
  keysB : Bool
  folio : Bool
  image : Bool
  badSlots : List (Fin 16)
  completes : Bool
  badCores : List (Fin 17)
  deriving DecidableEq, Repr

/-- the commands of the VT8160 (spec/opcode_table.json), the ones without operands last. -/
inductive Instr where
  | harletFrame (port : HPort) (peer : Peer) (frame : List Byte)
  | sessionOpen (port : HPort) (peer : Peer) (frame : List Byte)
  | sessionConfirm (port : HPort) (peer : Peer) (frame : List Byte)
  | sessionClose (port : HPort) (peer : Peer) (frame : List Byte)
  | acceptExpiry (sid : Word)
  | sessionIdleTimeout (idx : Fin 8)
  | read (r : Req) (addr : Word)
  | readBurst (r : Req) (addr : Word) (count : Byte)
  | write (r : Req) (addr value : Word)
  | writeMasked (r : Req) (addr mask value : Word)
  | writeAt (r : Req) (addr : Word) (body : WatBody)
  | slipPost (r : Req) (queue : Fin 16) (slip : List Byte)
  | subscribe (r : Req) (addr mask : Word) (action : Byte)
  | unknownOpcode (r : Req) (opcode : Byte) (addr : Word) (later : Nat)
  | writeAtFire (slot : Fin 256)
  | watCancel (r : Req) (slot : Byte)
  | dkeyLoad (r : Req)
  | eventSet (r : Req) (page : BitVec 20) (bits : Word)
  | eventFrameSend (idx : Fin 8)
  | eventClear (r : Req) (page : BitVec 20) (bits sets : Word)
  | commit (r : Req) (page : BitVec 20)
  | discard (r : Req) (page : BitVec 20)
  | unitReset (r : Req) (page : BitVec 20)
  | counterLowRead (r : Req) (addr : Word)
  | stateMismatch (page : BitVec 20)
  | registerWrite (r : Req) (addr value : Word)
  | mergeWindowExpiry (flow : Flow)
  | ingestDeadline (idx : Fin 64) (first lines : Nat)
  | frameClockTick (idx : Fin 64)
  | ingestStart (idx : Fin 64)
  | sourceLost (idx : Fin 64)
  | sourceReturned (idx : Fin 64)
  | legLost (flow : Flow) (legB : Bool)
  | slateCapture (r : Req) (idx : Fin 64)
  | slateCopy (r : Req) (idx : Fin 64) (source : Fin 64)
  | ingestStopped (idx : Fin 64)
  | cndOutputRow (u : Fin 4) (m : Fin 16) (row : Nat) (ready : Bool)
  | lutWrite (r : Req) (u : Fin 4) (b : BitVec 16)
  | rowRecord (ch : Fin 32) (row : Nat)
  | rowRelease (ch : Fin 32) (corrected : Bool) (requests misses : Nat) (sourceReady : Bool)
  | sliceClose (ch : Fin 32) (col : Fin 4) (run : SliceRun)
  | ringResume (ch : Fin 32) (col : Fin 4)
  | bookmarkOverrun (ch : Fin 32) (col : Fin 4) (read : ReadFault)
  | windowClose (ch : Fin 32) (reads : List ReadFault)
  | departure (ch : Fin 32)
  | recode (ch : Fin 32) (col : Fin 4) (read : ReadFault)
  | legStallTimeout (owner : LegOwner) (legB : Bool)
  | legDropEnd (owner : LegOwner) (legB : Bool)
  | coreFault (core : Fin 17) (stateError : Bool)
  | overdueRow (ch : Fin 32)
  | coreSwitch (ch : Fin 32)
  | goldenVectorDone (core : Fin 17) (pass : Bool)
  | slackClear (r : Req) (core : Fin 17)
  | departErrRead (r : Req) (ch : Fin 32)
  | channelStart (ch : Fin 32)
  | channelStopped (ch : Fin 32)
  | poolTick (g : Fin 8)
  | lendingMessage (msg : List Byte)
  | homeUnreachable (g : Fin 8)
  | nalDecode (idx : Fin 16) (nal : NalUnit)
  | pictureReady (idx : Fin 16) (poc : Int)
  | decodeTick (idx : Fin 16)
  | decodeCoreFault (core : Fin 8) (stateError : Bool)
  | decodeStopped (idx : Fin 16)
  | decodeGoldenDone (core : Fin 8) (pass : Bool)
  | senderTick (n : Fin 16)
  | lateStart (n : Fin 16)
  | claimFrameReceived (frame : Word)
  | heartbeat (msg : TwinMsg)
  | record (msg : TwinMsg)
  | ack (msg : TwinMsg)
  | recordWaitExpiry (ch : Fin 32)
  | check (msg : TwinMsg)
  | lockstepTimeout (ch : Fin 32)
  | piccheck (msg : TwinMsg)
  | muteNote (msg : TwinMsg)
  | joinReqSend (ch : Fin 32)
  | joinReq (msg : TwinMsg)
  | snapshotTake (ch : Fin 32) (picture : Nat)
  | snapPart (msg : TwinMsg)
  | snapCommit (msg : TwinMsg)
  | snapAbort (msg : TwinMsg)
  | joinDeadline (ch : Fin 32)
  | patchReq (msg : TwinMsg) (packets : List (List Byte))
  | patch (msg : TwinMsg) (pkt : MediaPkt)
  | patchNone (msg : TwinMsg)
  | patchWaitExpiry (ch : Fin 32)
  | yield (r : Req)
  | handover (r : Req)
  | yieldAbort (r : Req)
  | yieldReceived (msg : TwinMsg)
  | yieldAck (msg : Option TwinMsg)
  | sync (port : Fin 2) (domain : Byte) (offset : Int) (age : Nat)
  | delayResp (port : Fin 2) (msg : Byte × Int)
  | pathGuardOpen (port : Fin 2)
  | pathGuardClose (port : Fin 2)
  | announce (port : Fin 2) (domain : Byte) (gm : Announce)
  | announceTimeout (port : Fin 2)
  | delayReqSend (port : Fin 2) (ident : BitVec 16)
  | pdelayReq (port : Fin 2) (msg : Byte × BitVec 16)
  | stepGrant (r : Req)
  | revert (r : Req)
  | nowRead (r : Req)
  | fclkTick (f : Fin 4)
  | tcapEdge (n : Fin 4) (rising : Bool) (sub : Fin 8) (stable gap : Nat)
  | capturePop (r : Req) (n : Fin 4)
  | pulseEdge (n : Fin 2)
  | timerefReturn (vinUp : Bool)
  | txqRead (r : Req) (port : Fin 2)
  | pulseWidthEnd (n : Fin 2)
  | laneTrained (l : Fin 33) (t : Trained)
  | trainFailed (l : Fin 33) (why : TrainFail)
  | trainRetry (l : Fin 33)
  | blockEnd (l : Fin 33) (b : LaneBlock)
  | ctleReevaluate (l : Fin 33) (ctle : Nat) (ffe : List Int)
  | fomWarn (l : Fin 33)
  | fomAlarm (l : Fin 33)
  | fomRecovered (l : Fin 33) (alarm : Bool)
  | fomRead (r : Req) (l : Fin 33)
  | lossOfLock (l : Fin 33)
  | reacquired (l : Fin 33) (t : Trained)
  | calibrationWindow (l : Fin 33)
  | prbsResync (l : Fin 33) (symbols errors : Nat)
  | retrain (r : Req) (l : Fin 33)
  | portFrameReceived (port : Fin 2) (f : PortFrame)
  | portMFrame (f : PortFrame)
  | frameTransmit (port : Fin 2) (subport : Fin 8)
  | linkDown (port : Fin 3) (subport : Fin 8) (cause : DownCause) (midFrame : Bool)
  | linkUp (port : Fin 3) (subport : Fin 8) (speed : Fin 3)
  | pauseFrame (port : Fin 2) (subport : Fin 8) (pfc : Bool) (quanta : List (Nat × Nat))
  | pauseRepeat (port : Fin 2)
  | pauseQuantaExpiry (port : Fin 2) (subport prio : Fin 8)
  | multicastReport (port : Fin 2) (group : BitVec 128) (leave : Bool)
  | dropSelWrite (r : Req) (port : Fin 3) (value : Word)
  | izlFrame (link : Fin 4) (frame : List Byte) (fecCorr fecUncorr : Nat)
  | nak (link : Fin 4) (frame : List Byte)
  | replayTimeout (link : Fin 4)
  | nakRepeat (link : Fin 4)
  | izlFrameSend (link : Fin 4)
  | alignmentMarker (link : Fin 4) (marker : List Byte)
  | alignmentMarkerSend (link : Fin 4)
  | narrow (link : Fin 4) (run : FecRun)
  | widen (link : Fin 4)
  | izlLinkDown (link : Fin 4) (far : Bool)
  | trainingExchange (link : Fin 4) (x : Exchange)
  | routeAnnouncement (link : Fin 4) (routes : List (Nat × Nat))
  | managementMessage (link : Fin 4) (msg : List Byte)
  | stallEnd (side : Fin 6)
  | pop (queue : Fin 1024)
  | queueCongested (queue : Fin 1024)
  | queueReleased (queue : Fin 1024)
  | queueFlush (queue : Fin 1024)
  | stackEccError (e : StackError)
  | rebuild (r : Req)
  | qcfgWrite (r : Req) (value : Word)
  | qwmWrite (r : Req) (value : Word)
  | qpeakClear (r : Req)
  | freeLowRead (r : Req)
  | poolStallAlarm (side : Fin 6)
  | qfcMinHoldExpiry (pin : Fin 4)
  | slipPostAccept (queue : Fin 16)
  | hwSlipPost (channel : Fin 16) (slip : List Byte)
  | fwSlipPost (core : Fin 48) (slip : List Byte)
  | slipTake (queue : Fin 16)
  | slipStart (core : Fin 48)
  | slipComplete (core : Fin 48) (result : Byte) (known : Bool)
  | slipAgeing (cls : Fin 8)
  | runLimit (core : Fin 48)
  | killLimit (core : Fin 48)
  | coreReturn (core : Fin 48)
  | obrovCoreFault (core : Fin 48)
  | cancel (r : Req) (queue : Fin 16)
  | cplStatRead (r : Req)
  | hsqStatRead (r : Req)
  | hbmRequest (stack : Fin 2) (pc : Fin 32) (a : HbmAccess)
  | refreshInterval (stack : Fin 2) (pc : Fin 32)
  | temperatureReading (stack : Fin 2) (temp : Option Byte)
  | tempRead (r : Req) (stack : Fin 2)
  | selfRefreshEntry (stack : Fin 2) (pc : Fin 32)
  | hammerWindow (stack : Fin 2)
  | retrainPause (stack : Fin 2) (pc : Fin 32) (ticks : Fin 301) (eyes : List (Fin 36 × Byte))
  | pauseSkip (stack : Fin 2) (pc : Fin 32)
  | patrolScrub (stack : Fin 2) (pc : Fin 32) (a : HbmAccess)
  | keepApply (stack : Fin 2)
  | hbmTrainingDone (stack : Fin 2) (seedsGood : Bool)
  | chkStart (r : Req) (unit : Fin 8)
  | chkData (r : Req) (unit : Fin 8) (word : Word)
  | chkFinish (r : Req) (unit : Fin 8) (last : BitVec 2)
  | streamEnable (r : Req) (unit : Fin 8) (value : Word)
  | streamPacket (unit : Fin 8)
  | attest (r : Req) (nonce : List Byte)
  | fwOpen (r : Req) (kind : Byte) (length : Word)
  | fwData (r : Req) (offset : Word) (data : List Byte)
  | verify (r : Req)
  | install (r : Req) (flags : Word)
  | installComplete (readBack : Bool)
  | activate (r : Req) (flags : Word) (finds : BootFinds)
  | fwClose (r : Req)
  | cert (r : Req) (part : BitVec 16)
  | raiseFloor (r : Req) (kind : Byte)
  | keySet (r : Req) (slot : Byte) (key : List Byte)
  | extend (r : Req) (value : List Byte)
  | catRead (r : Req) (part : BitVec 16)
  | catDiscard (r : Req)
  | folioExport (r : Req) (part : BitVec 16)
  | bootRom (finds : BootFinds)
  | bootResume (finds : BootFinds)
  | twinSourceServe (link : Fin 4) (cert : List Byte)
  | twinPackage (link : Fin 4) (length : Word) (offset : Word) (data : List Byte) (finds : BootFinds)
  | catalogueSave (r : Req)
  | snapClr (r : Req)
  | governorReading (tj : Option Byte)
  | rearm (r : Req)
  | tjRead (r : Req)
  | annFlush (r : Req)
  | stressIncrement (mv : BitVec 16)
  | decodeCoreTest (core : Fin 8)
  | treq (r : Req) (value : Word)
  | testDone (pass : Bool)
  | vstbyPowerUp (bpos : Fin 8) (bootsel : Fin 4) (uncontrolled : Bool)
  | vinLow (fast : Bool)
  | railFault (good : Byte)
  | avsEvaluation (core fab : BitVec 16)
  | dcmd (r : Req) (target : BitVec 2)
  | dstateChanged (us : BitVec 16)
  | unitWake (cls : Fin 6) (unit : Fin 128)
  | unitWakeDone (cls : Fin 6) (unit : Fin 128)
  | powerMeasure (vinMv : Option (BitVec 16)) (vinMa vstbyMv vstbyMa : BitVec 16)
  | resetNLow (ns : Nat) (taken : Bool)
  | resetRelease (bpos : Fin 8) (bootsel : Fin 4)
  | standbyReset (r : Req)
  | coldReset (r : Req)
  | warmReset (r : Req) (finds : BootFinds)
  | mainWatchdog (finds : BootFinds)
  | uncorrectableStateError (page : BitVec 20)
  | rotationStep
  | shadowStart
  | shadowEnd
  | claimFrameSend
  | partnerDead
  | roleTaken
  | heartbeatSend
  | ackTimeout
  | linkLostVerdict
  | handoverTime
  | crossMismatch
  | locked
  | lockLoss
  | revertTimer
  | grantWithdrawn
  | timerefLost
  | wholeSecond
  | refclkLost
  | refclkReturn
  | routeAnnounceSend
  | rebuildDone
  | stackInitDone
  | carrelFill
  | quoteComplete
  | twinSourceRequest
  | catalogueSaved
  | stocktake
  | governorRestore
  | thermalShutdown
  | annalsWrite
  | vstbyBrownout
  | vioFault
  | vioReturn
  | vinGood
  | vinOver
  | mgmtWatchdog
  deriving DecidableEq, Repr

end Sys2Proof
end

