-- ==== Sys2Proof/Config.lean ====
section
/-! DEFINITION. Sys2Proof/Config.lean: what an implementation fixes and what the spec leaves open. Each constant has no
body, so nothing can lean on its value; each is named in the assumption log. -/

namespace Sys2Proof

/-! ## Cryptography named by outside standards (R40, R44, R45, R424, R427) -/

/-- HMAC-SHA-256 of a message under a key, its first 16 bytes (R40). [DESIGN CHOICE log 30] -/
opaque Config.hmac : List Byte → List Byte → List Byte

/-- SHA-384, 48 bytes (R45, R423). [DESIGN CHOICE log 30] -/
opaque Config.sha384 : List Byte → List Byte

/-- an ECDSA P-384 signature by the device identity key over a digest (R45, R424). [DESIGN CHOICE log 30] -/
opaque Config.identitySign : List Byte → List Byte

/-- whether a signature over a digest verifies under the public key given (R44, R427). [DESIGN CHOICE log 30] -/
opaque Config.ecdsaOk : List Byte → List Byte → List Byte → Bool

/-- the X coordinate of the ECDH result of the n-th ephemeral key and a peer's public key (R45). [DESIGN CHOICE log 30] -/
opaque Config.ecdh : Nat → List Byte → List Byte

/-- HKDF-Extract of a salt and keying material (R45). [DESIGN CHOICE log 30] -/
opaque Config.hkdfExtract : List Byte → List Byte → List Byte

/-- HKDF-Expand of a pseudorandom key and a label to 32 bytes (R45). [DESIGN CHOICE log 30] -/
opaque Config.hkdfExpand : List Byte → List Byte → List Byte

/-- the device's n-th ephemeral public key, 97 bytes (R45). [DESIGN CHOICE log 30] -/
opaque Config.ephemeral : Nat → List Byte

/-- the device's n-th nonce, 32 bytes (R45). [DESIGN CHOICE log 30] -/
opaque Config.nonce : Nat → List Byte

/-- the n-th session_id the device draws, before it is brought into 1–0xFFFF_FFFE (R45). [DESIGN CHOICE log 16] -/
opaque Config.sessionId : Nat → Nat

/-! ## Open numeric forms -/

/-- whether a mean, given as sum and count, that is no whole number is rounded up (R277, R281 state no rounding). [DESIGN CHOICE log 59] -/
opaque Config.roundUp : Int → Nat → Bool

/-- the frequency term after a measurement: old term, change of offset not accounted for, interval, time constant
(R271 states a first-order average and no rounding). [DESIGN CHOICE log 59] -/
opaque Config.freqStep : Int → Int → Nat → Nat → Int

/-- the grid coordinate of a 16-bit component on a LUT axis, in 2⁻¹⁶ of a grid step (R104 names a normalised value and
not how a video-range sample is normalised). [DESIGN CHOICE log 38] -/
opaque Config.lutCoord : Nat → Nat

/-- the bytes of an SMPTE ST 302M access unit that carries 24-bit samples (R192). [DESIGN CHOICE log 47] -/
opaque Config.st302m : List Nat → List Byte

/-! ## Per-device and stored contents (R2, R418, R424, R440, R491) -/

/-- silicon stepping and unique identifier of the device (R491). [DESIGN CHOICE log 29] -/
opaque Config.stepping : Nat
/-- see the log: [DESIGN CHOICE log 29] -/
opaque Config.uid : Nat

/-- the factory-assigned MAC address of port A, B or M (R330). [DESIGN CHOICE log 29] -/
opaque Config.mac : Nat → Nat

/-- the layout version of a block's registers, by block_code (R63). [DESIGN CHOICE log 29] -/
opaque Config.layout : Nat → Nat

/-- the header (R427) and plaintext of the image of each package type that the factory stored (R418). [DESIGN CHOICE log 29] -/
opaque Config.factoryHeader : Nat → List Byte
/-- see the log: [DESIGN CHOICE log 29] -/
opaque Config.factoryImage : Nat → List Byte

/-- the calibration folio as the factory wrote it (R440). [DESIGN CHOICE log 29] -/
opaque Config.factoryFolio : List Byte

/-- the boot ROM's bytes (R420), the release key, and the device's key-agreement public key and certificate (R425, R427). [DESIGN CHOICE log 29] -/
opaque Config.bootRom : List Byte
/-- see the log: [DESIGN CHOICE log 29] -/
opaque Config.releaseKey : List Byte
/-- see the log: [DESIGN CHOICE log 29] -/
opaque Config.agreementKey : List Byte
/-- see the log: [DESIGN CHOICE log 29] -/
opaque Config.certificate : List Byte

/-- whether a partner's certificate chains to Kalfin's root (R434). [DESIGN CHOICE log 30] -/
opaque Config.certOk : List Byte → Bool

/-- the content key that a wrap entry of 160 bytes opens to with the device's key-agreement key (R427, R428). [DESIGN CHOICE log 30] -/
opaque Config.unwrap : List Byte → Option (List Byte)

/-- AES-256-GCM: the plaintext of a key, initialisation vector, ciphertext and tag, if the tag is correct (R427). [DESIGN CHOICE log 30] -/
opaque Config.gcmOpen : List Byte → List Byte → List Byte → List Byte → Option (List Byte)

/-- the rest of a package from byte 176 on, transit part and encrypted image, that re-wraps a plaintext for the key in a
certificate (R427, R434). [DESIGN CHOICE log 30] -/
opaque Config.rewrap : List Byte → List Byte → List Byte

/-- the factor f of the folio's stress table, in 1/1,024: core millivolts, Tj (R455). [DESIGN CHOICE log 77] -/
opaque Config.stressFactor : List Byte → Nat → Nat → Nat

/-- half the stack's rated disturbance limit, from the folio (R396). [DESIGN CHOICE log 77] -/
opaque Config.disturbHalf : List Byte → Nat → Nat

/-- whether a folio's values lie within the hardware limits (R441). [DESIGN CHOICE log 77] -/
opaque Config.folioWithin : List Byte → Bool

/-- the bytes of a catalogue slot: schema, generation and committed settings as the image encodes them (R437). [DESIGN CHOICE log 77] -/
opaque Config.slotBytes : Nat → Nat → List (Nat × Nat) → List Byte

/-- the settings that type-4 settings spell, if their own check is correct: schema and committed settings (R439). [DESIGN CHOICE log 77] -/
opaque Config.readSettings : List Byte → Option (Nat × List (Nat × Nat))

/-! ## The coder (R113, R131, R134, R135, R156)

What R131 lets a decision depend on goes in; the search, the entropy coder of the standards and the estimator of the firmware
release are constants. What comes out is brought within the rules in Machine/Coding.lean. -/

/-- a coding tool that R113 names. -/
inductive Tool where
  | quadtree | binaryTernary | planar | dc | angular33 | angular65 | cclm | merge | mmvd | amvp | amvr | affine4
  | dct32 | dct64 | lfnst | dst7 | deblocking | sao | alf
  | mts | lmcs | bipredLater | dmvr | bdof | rpr | subpictures | palette | ibc
  deriving DecidableEq, Repr

/-- what an effort level searches (R135): motion range in luma samples, multi-type depth, intra candidates to full RD check, affine. -/
structure Search where
  mvX : Nat
  mvY : Nat
  depth : Nat
  intra : Nat
  affine : Bool
  deriving DecidableEq, Repr

/-- What the parameter sets of a channel signal (R111, R112, R113, R120, R123, R159, R175): codec, profile (0 Main 10, 1 Main 10 4:4:4,
2 Main 4:2:2 10), tier, level, chroma, depth, raster, CTU size, fields, tools, tiles and slices, loop filters across them,
reference pictures, recovery_poc_cnt, VUI, HRD. -/
structure Signal where
  vvc : Bool
  profile : Nat
  highTier : Bool
  level : Nat
  chroma422 : Bool
  ten : Bool
  width : Nat
  height : Nat
  ctu : Nat
  field : Bool
  tools : List Tool
  rectSlices : Bool
  tiles : Bool
  tileRows : Nat
  tileCols : Nat
  uniformSpacing : Bool
  sliceRows : Nat
  loopAcrossTiles : Bool
  loopAcrossSlices : Bool
  shelf : Nat
  refs : Nat
  recoveryPocCnt : Option Nat
  vui : List Nat
  nalHrd : Bool
  vclHrd : Bool
  bitRate : Nat
  cpbBits : Nat
  cbr : Bool
  removalDelay : Nat
  deriving DecidableEq, Repr

/-- a motion vector in quarter luma samples, and its place in the list of active references. -/
structure Motion where
  ref : Nat
  dx : Int
  dy : Int
  deriving DecidableEq, Repr

/-- a coding block: place and size in luma samples, multi-type depth, intra mode, motion, affine, residual, and the other tools it
uses. -/
structure CodBlock where
  x : Nat
  y : Nat
  w : Nat
  h : Nat
  depth : Nat
  intra : Option Nat
  motion : List Motion
  affine : Bool
  residual : Bool
  tools : List Tool
  deriving DecidableEq, Repr

/-- what the coding of a CTU depends on (R131): what is signalled, the search, firmware and stepping, slice type (0 I, 1 P, 2 B), whether
it is an intra CTU, its QP, place and size, its source samples, the reference pictures, and the CTUs of the slice coded before it. -/
structure CtuIn where
  signal : Signal
  search : Search
  firmware : Nat
  stepping : Nat
  kind : Nat
  intra : Bool
  qp : Nat
  x : Nat
  y : Nat
  w : Nat
  h : Nat
  source : List Nat
  refs : List (List (Nat × Nat))
  before : List (Nat × List CodBlock)
  deriving DecidableEq, Repr

/-- what the estimator has for a row (R129, R156): firmware and stepping, whether the whole picture is analysed, row and rows,
complexities by picture and row, the picture's expected accrual. -/
structure EstIn where
  firmware : Nat
  stepping : Nat
  whole : Bool
  row : Nat
  rows : Nat
  stats : List (Nat × Nat × Nat)
  accrual : Nat
  deriving DecidableEq, Repr

/-- A NAL unit that is no slice (R149, R159, R194): access unit delimiter; parameter set (0 VPS, 1 SPS, 2 PPS);
picture header; SEI messages of buffering
period (delay), picture timing (picture), recovery point (recovery_poc_cnt). -/
inductive HeadNal where
  | aud (vvc : Bool) (join : Bool)
  | sets (g : Signal) (which : Nat)
  | pictureHeader (g : Signal) (picture : Nat) (gdr : Bool)
  | bufferingPeriod (g : Signal) (delay : Nat)
  | picTiming (g : Signal) (picture : Nat)
  | recoveryPoint (g : Signal) (count : Nat)
  deriving DecidableEq, Repr

/-- the blocks that the search chooses for a CTU (R131, R134). [DESIGN CHOICE log 43] -/
opaque Config.searchCtu : CtuIn → List CodBlock
/-- the bits that a CTU of these blocks takes. [DESIGN CHOICE log 43] -/
opaque Config.ctuBits : CtuIn → List CodBlock → Nat
/-- the bits that a CTU could take at its QP (R157). [DESIGN CHOICE log 43] -/
opaque Config.ctuWorst : CtuIn → Nat
/-- the samples that a CTU of these blocks reconstructs, before the loop filters, in raster order. [DESIGN CHOICE log 43] -/
opaque Config.ctuSamples : CtuIn → List CodBlock → List Nat
/-- the samples of a picture after deblocking, SAO and ALF, from those before and its CTUs (R113, R120, R187). [DESIGN CHOICE log 43] -/
opaque Config.loopFilter : Signal → List (Nat × Nat) → List (Nat × Nat × List CodBlock) → List (Nat × Nat)
/-- the NAL unit of a slice: what is signalled, picture, row, column, slice type, its CTUs. [DESIGN CHOICE log 43] -/
opaque Config.sliceNal : Signal → Nat → Nat → Nat → Nat → List (Nat × List CodBlock) → List Byte
/-- the bytes of a NAL unit that is no slice. [DESIGN CHOICE log 43] -/
opaque Config.headNal : HeadNal → List Byte
/-- the measured complexity of a row's samples (R129, R156). [DESIGN CHOICE log 43] -/
opaque Config.complexity : List Nat → Nat
/-- the QP that the estimator chooses for a row (R156). [DESIGN CHOICE log 43] -/
opaque Config.rowQp : EstIn → Nat
/-- the spend that the estimator expects of a row at a QP (R156). [DESIGN CHOICE log 43] -/
opaque Config.rowSpend : EstIn → Nat → Nat
/-- a group's common QP, from its members' complexities and its per-picture accrual (R156). [DESIGN CHOICE log 43] -/
opaque Config.groupQp : List (List Nat) → Nat → Nat

/-! ## Other values the spec leaves open -/

/-- the n-th free value: a field that the spec fills with no stated value. [DESIGN CHOICE log 31] -/
opaque Config.freeWord : Nat → Nat

/-- which free slip a post takes, given those in use (R374: any free one). [DEDUCED log 71] -/
opaque Config.freeSlip : List Nat → Nat

/-- which free WRITE_AT slot (kind 0, R56) or session index (kind 1, R43) is taken, given those in use (any free one). [DESIGN CHOICE log 16] -/
opaque Config.pickFree : Nat → List Nat → Nat

/-- bytes of one picture in HBM: luma columns, lines, chroma code, depth code (R86, R209 name no storage format). [DESIGN CHOICE log 26] -/
opaque Config.pictureBytes : Nat → Nat → Nat → Nat → Nat

/-- the committed traffic of a page's buffer in MB/s, from its page number and the bytes it holds a second of use
(R390 states no formula). [DESIGN CHOICE log 26] -/
opaque Config.bufTraffic : Nat → Nat → Nat

/-- a limit of ITU-T H.266 (codec 1) or H.265 (0) for a tier and level_idc (R112 names the standards): which one is 0 luma
picture size, 1 luma sample rate, 2 MaxBR, 3 MaxCPB, 4 slices, 5 tile columns. [DESIGN CHOICE log 23] -/
opaque Config.levelLimit : Nat → Nat → Nat → Nat → Nat

/-- CpbNalFactor of the profile that a codec and chroma format signal (R112). [DESIGN CHOICE log 23] -/
opaque Config.nalFactor : Nat → Nat → Nat

/-- the cells of the ST 2110-21 type W receiver buffer of a format (R357 names the standard): width, height, sampling,
depth, rate code. [DESIGN CHOICE log 70] -/
opaque Config.typeWCells : Nat → Nat → Nat → Nat → Nat → Nat

/-- by how much a row-hammer tracker's estimate exceeds the true count at the n-th activation (R396 bounds it). [DESIGN CHOICE log 73] -/
opaque Config.trackerOver : Nat → Nat

end Sys2Proof
end

