-- ==== Sys2Proof/Machine/RegTypes.lean ====
section
/-! DEFINITION. Sys2Proof/Machine/RegTypes.lean: what a register field is (R7, R9, R511), and the fields of the common
page header (R25, R26, R28, R63 to R68). -/

namespace Sys2Proof.Machine

/-- the access codes of R9. -/
inductive Acc where
  | rw | ro | w1c | wo | rwc | rws
  deriving DecidableEq, Repr

/-- what a field's Meaning says of its values (R511). -/
inductive Rng where
  | any
  | between (lo hi : Nat)
  | oneOf (l : List Nat)
  | zeroOr (lo hi : Nat)
  deriving DecidableEq, Repr

/-- `v` lies in the range (R511). -/
def Rng.ok (v : Nat) : Rng → Bool
  | .any => true
  | .between lo hi => decide (lo ≤ v) && decide (v ≤ hi)
  | .oneOf l => l.contains v
  | .zeroOr lo hi => decide (v = 0) || (decide (lo ≤ v) && decide (v ≤ hi))

/-- One field of a field map: the offset of its (lowest) register, its lowest bit there, its width, its value after
cold reset, its access code and its range. A 64-bit pair of registers is one field, low word first (R20). -/
structure Fld where
  off : Nat
  lo : Nat
  width : Nat
  reset : Nat
  acc : Acc
  rng : Rng
  deriving DecidableEq, Repr

/-- where the field starts in its page, in bits. -/
def Fld.loc (f : Fld) : Nat := f.off * 8 + f.lo

/-! ## The common page header (R62) -/

def HDR.unit_reset : Fld := ⟨0x008, 31, 1, 0, .wo, .any⟩
/-- one bit of EVENT (R66). -/
def HDR.EVENT (k : Nat) : Fld := ⟨0x010, k, 1, 0, .w1c, .any⟩
/-- one bit of EVENT_EN (R66). -/
def HDR.EVENT_EN (k : Nat) : Fld := ⟨0x014, k, 1, 0, .rw, .any⟩
def HDR.FIRST_index : Fld := ⟨0x01C, 27, 5, 0, .ro, .any⟩
def HDR.FIRST_valid : Fld := ⟨0x01C, 26, 1, 0, .ro, .any⟩
def HDR.FIRST_time_us : Fld := ⟨0x01C, 0, 26, 0, .ro, .any⟩
def HDR.commit : Fld := ⟨0x020, 31, 1, 0, .wo, .any⟩
def HDR.discard : Fld := ⟨0x020, 30, 1, 0, .wo, .any⟩
def HDR.gen_applied : Fld := ⟨0x020, 12, 12, 0, .ro, .any⟩
def HDR.gen_committed : Fld := ⟨0x020, 0, 12, 0, .ro, .any⟩
def HDR.CMD_state : Fld := ⟨0x024, 0, 4, 2, .rwc, .any⟩
def HDR.ACT_changes : Fld := ⟨0x028, 16, 16, 0, .ro, .any⟩
def HDR.ACT_reason : Fld := ⟨0x028, 8, 8, 0, .ro, .any⟩
def HDR.ACT_prev : Fld := ⟨0x028, 4, 4, 0, .ro, .any⟩
def HDR.ACT_state : Fld := ⟨0x028, 0, 4, 1, .ro, .any⟩

end Sys2Proof.Machine
end

