-- ==== Sys2Proof/Machine/RegsA.lean ====
section
/-! DEFINITION. the block registers of DEV, HAP, ING, CND, ENC and ECH: each field's offset, bits, reset value,
access code and range (R9, R511), made from the field maps of spec/. A reset the field map calls "Per …", "Stored" or
"Strap" stands here as 0 and is computed where it is read. -/

namespace Sys2Proof.Machine

/-! ## DEV (R491) -/

def DEV.IDENT_part : Fld := ⟨0x100, 16, 16, 0x8160, .ro, .any⟩
def DEV.IDENT_family : Fld := ⟨0x100, 8, 8, 86, .ro, .any⟩
def DEV.IDENT_package : Fld := ⟨0x100, 0, 8, 1, .ro, .any⟩
def DEV.STEPPING_stepping : Fld := ⟨0x104, 0, 8, 0, .ro, .any⟩
def DEV.UID_uid : Fld := ⟨0x108, 0, 64, 0, .ro, .any⟩
def DEV.STRAPS_bootsel : Fld := ⟨0x110, 4, 2, 0, .ro, .any⟩
def DEV.STRAPS_bpos : Fld := ⟨0x110, 0, 3, 0, .ro, .any⟩
def DEV.RESET_CAUSE_kind : Fld := ⟨0x114, 8, 8, 0, .ro, .any⟩
def DEV.RESET_CAUSE_cause : Fld := ⟨0x114, 0, 8, 1, .ro, .any⟩
def DEV.RESET_COUNT_count : Fld := ⟨0x118, 0, 32, 0, .ro, .any⟩
def DEV.PIN_DRV_tpulse : Fld := ⟨0x11C, 7, 2, 3, .rw, .any⟩
def DEV.PIN_DRV_qfc : Fld := ⟨0x11C, 3, 4, 0, .rw, .any⟩
def DEV.PIN_DRV_pwr_good : Fld := ⟨0x11C, 2, 1, 1, .rw, .any⟩
def DEV.PIN_DRV_therm_n : Fld := ⟨0x11C, 1, 1, 0, .rw, .any⟩
def DEV.PIN_DRV_fault_n : Fld := ⟨0x11C, 0, 1, 0, .rw, .any⟩
def DEV.WDOG_timeout_ms : Fld := ⟨0x120, 0, 16, 0x3E8, .rw, .zeroOr 10 65535⟩
def DEV.ST_device_number : Fld := ⟨0x00C, 0, 10, 0, .ro, .any⟩
def DEV.ST_timeref_lost : Fld := ⟨0x00C, 11, 1, 0, .ro, .any⟩
def DEV.ST_vio_ok : Fld := ⟨0x00C, 13, 1, 1, .ro, .any⟩
def DEV.ST_rws_valid : Fld := ⟨0x00C, 14, 1, 0, .ro, .any⟩

def DEV.rows0 : List Fld :=
  [DEV.IDENT_part, DEV.IDENT_family, DEV.IDENT_package, DEV.STEPPING_stepping, DEV.UID_uid, DEV.STRAPS_bootsel,
   DEV.STRAPS_bpos, DEV.RESET_CAUSE_kind, DEV.RESET_CAUSE_cause, DEV.RESET_COUNT_count, DEV.PIN_DRV_tpulse,
   DEV.PIN_DRV_qfc, DEV.PIN_DRV_pwr_good, DEV.PIN_DRV_therm_n, DEV.PIN_DRV_fault_n, DEV.WDOG_timeout_ms,
   DEV.ST_device_number, DEV.ST_timeref_lost, DEV.ST_vio_ok, DEV.ST_rws_valid]

/-- every field of the DEV block registers. -/
def DEV.rows : List Fld := DEV.rows0

/-! ## HAP (R72) -/

def HAP.PORT_EN_izt : Fld := ⟨0x100, 3, 1, 1, .rw, .any⟩
def HAP.PORT_EN_m : Fld := ⟨0x100, 2, 1, 1, .rw, .any⟩
def HAP.PORT_EN_b : Fld := ⟨0x100, 1, 1, 0, .rw, .any⟩
def HAP.PORT_EN_a : Fld := ⟨0x100, 0, 1, 0, .rw, .any⟩
def HAP.UDP_PORT_udp_port : Fld := ⟨0x104, 0, 16, 0xBC48, .rw, .any⟩
def HAP.IDLE_TIMEOUT_seconds : Fld := ⟨0x108, 0, 16, 30, .rw, .any⟩
def HAP.GROUP_MASK_groups : Fld := ⟨0x10C, 0, 32, 0, .rw, .any⟩
def HAP.SESSIONS_open : Fld := ⟨0x110, 0, 4, 0, .ro, .any⟩
def HAP.WAT_PENDING_count : Fld := ⟨0x114, 0, 9, 0, .ro, .any⟩
def HAP.WAT_CANCEL_slot : Fld := ⟨0x118, 0, 8, 0, .wo, .any⟩
def HAP.DOM_OK_count : Fld := ⟨0x11C, 0, 32, 0, .ro, .any⟩
def HAP.DOM_ERR_count : Fld := ⟨0x120, 0, 32, 0, .ro, .any⟩
def HAP.DOM_LAST_status : Fld := ⟨0x124, 24, 8, 0, .ro, .any⟩
def HAP.DOM_LAST_addr : Fld := ⟨0x124, 0, 24, 0, .ro, .any⟩
def HAP.DKEY_key (i : Nat) : Fld := ⟨0x140 + 4 * i, 0, 32, 0, .wo, .any⟩
def HAP.DKEY_CTRL_load : Fld := ⟨0x160, 0, 1, 0, .wo, .any⟩

def HAP.rows0 : List Fld :=
  [HAP.PORT_EN_izt, HAP.PORT_EN_m, HAP.PORT_EN_b, HAP.PORT_EN_a, HAP.UDP_PORT_udp_port, HAP.IDLE_TIMEOUT_seconds,
   HAP.GROUP_MASK_groups, HAP.SESSIONS_open, HAP.WAT_PENDING_count, HAP.WAT_CANCEL_slot, HAP.DOM_OK_count,
   HAP.DOM_ERR_count, HAP.DOM_LAST_status, HAP.DOM_LAST_addr, HAP.DKEY_key 0, HAP.DKEY_key 1, HAP.DKEY_key 2,
   HAP.DKEY_key 3, HAP.DKEY_key 4, HAP.DKEY_key 5, HAP.DKEY_key 6, HAP.DKEY_key 7, HAP.DKEY_CTRL_load]

/-- every field of the HAP block registers. -/
def HAP.rows : List Fld := HAP.rows0

/-! ## MATCH (R107, one leg match block based at b) -/

def MATCH.daddr (b i : Nat) : Fld := ⟨b + 0x00 + 4 * i, 0, 32, 0, .rwc, .any⟩
def MATCH.saddr (b i : Nat) : Fld := ⟨b + 0x10 + 4 * i, 0, 32, 0, .rwc, .any⟩
def MATCH.en (b : Nat) : Fld := ⟨b + 0x20, 31, 1, 0, .rwc, .any⟩
def MATCH.port (b : Nat) : Fld := ⟨b + 0x20, 24, 2, 0, .rwc, .between 0 1⟩
def MATCH.pt (b : Nat) : Fld := ⟨b + 0x20, 16, 7, 96, .rwc, .any⟩
def MATCH.udp (b : Nat) : Fld := ⟨b + 0x20, 0, 16, 0, .rwc, .any⟩
def MATCH.vlan_en (b : Nat) : Fld := ⟨b + 0x24, 12, 1, 0, .rwc, .any⟩
def MATCH.vid (b : Nat) : Fld := ⟨b + 0x24, 0, 12, 0, .rwc, .any⟩

def MATCH.rows0 (b : Nat) : List Fld :=
  [MATCH.daddr b 0, MATCH.daddr b 1, MATCH.daddr b 2, MATCH.daddr b 3, MATCH.saddr b 0, MATCH.saddr b 1,
   MATCH.saddr b 2, MATCH.saddr b 3, MATCH.en b, MATCH.port b, MATCH.pt b, MATCH.udp b, MATCH.vlan_en b, MATCH.vid b]

/-- every field of the MATCH block registers. -/
def MATCH.rows (b : Nat) : List Fld := MATCH.rows0 b

/-! ## FCNT (R108, one flow's counters based at b) -/

def FCNT.rx_a (b : Nat) : Fld := ⟨b + 0x00, 0, 64, 0, .ro, .any⟩
def FCNT.rx_b (b : Nat) : Fld := ⟨b + 0x08, 0, 64, 0, .ro, .any⟩
def FCNT.deliv (b : Nat) : Fld := ⟨b + 0x10, 0, 64, 0, .ro, .any⟩
def FCNT.dup (b : Nat) : Fld := ⟨b + 0x18, 0, 64, 0, .ro, .any⟩
def FCNT.drop (b : Nat) : Fld := ⟨b + 0x20, 0, 64, 0, .ro, .any⟩
def FCNT.conceal (b : Nat) : Fld := ⟨b + 0x28, 0, 64, 0, .ro, .any⟩
def FCNT.drop_sel (b : Nat) : Fld := ⟨b + 0x30, 0, 4, 5, .rw, .any⟩
def FCNT.drop_by_reason (b : Nat) : Fld := ⟨b + 0x34, 0, 32, 0, .ro, .any⟩
def FCNT.inflight (b : Nat) : Fld := ⟨b + 0x38, 0, 32, 0, .ro, .any⟩

def FCNT.rows0 (b : Nat) : List Fld :=
  [FCNT.rx_a b, FCNT.rx_b b, FCNT.deliv b, FCNT.dup b, FCNT.drop b, FCNT.conceal b, FCNT.drop_sel b,
   FCNT.drop_by_reason b, FCNT.inflight b]

/-- every field of the FCNT block registers. -/
def FCNT.rows (b : Nat) : List Fld := FCNT.rows0 b

/-! ## SYNC (R108, the synchroniser counters) -/

def SYNC.fed : Fld := ⟨0x4C0, 0, 64, 0, .ro, .any⟩
def SYNC.repeats : Fld := ⟨0x4C8, 0, 32, 0, .ro, .any⟩
def SYNC.fs_drops : Fld := ⟨0x4CC, 0, 32, 0, .ro, .any⟩
def SYNC.losses : Fld := ⟨0x4D0, 0, 32, 0, .ro, .any⟩
def SYNC.map_ovf : Fld := ⟨0x4D4, 0, 32, 0, .ro, .any⟩
def SYNC.leg_losses : Fld := ⟨0x4D8, 0, 32, 0, .ro, .any⟩

def SYNC.rows0 : List Fld :=
  [SYNC.fed, SYNC.repeats, SYNC.fs_drops, SYNC.losses, SYNC.map_ovf, SYNC.leg_losses]

/-- every field of the SYNC block registers. -/
def SYNC.rows : List Fld := SYNC.rows0

/-! ## ING (R106) -/

def ING.VFMT_v_en : Fld := ⟨0x100, 31, 1, 0, .rwc, .any⟩
def ING.VFMT_interlaced : Fld := ⟨0x100, 30, 1, 0, .rwc, .any⟩
def ING.VFMT_sampling : Fld := ⟨0x100, 28, 2, 0, .rwc, .any⟩
def ING.VFMT_depth : Fld := ⟨0x100, 26, 2, 1, .rwc, .between 0 2⟩
def ING.VFMT_colorimetry : Fld := ⟨0x100, 24, 2, 0, .rwc, .between 0 1⟩
def ING.VFMT_tcs : Fld := ⟨0x100, 22, 2, 0, .rwc, .between 0 2⟩
def ING.VFMT_bpm : Fld := ⟨0x100, 21, 1, 0, .rwc, .any⟩
def ING.VFMT_rate : Fld := ⟨0x100, 16, 5, 7, .rwc, .between 1 11⟩
def ING.VDIM_height : Fld := ⟨0x104, 16, 16, 0x438, .rwc, .any⟩
def ING.VDIM_width : Fld := ⟨0x104, 0, 16, 0x780, .rwc, .any⟩
def ING.AFMT_a_en : Fld := ⟨0x108, 31, 1, 0, .rwc, .any⟩
def ING.AFMT_l24 : Fld := ⟨0x108, 30, 1, 1, .rwc, .any⟩
def ING.AFMT_ptime : Fld := ⟨0x108, 29, 1, 0, .rwc, .any⟩
def ING.AFMT_channels : Fld := ⟨0x108, 0, 7, 2, .rwc, .between 1 64⟩
def ING.ANC_anc_en : Fld := ⟨0x10C, 31, 1, 0, .rwc, .any⟩
def ING.ANC_classes : Fld := ⟨0x10C, 0, 6, 63, .rwc, .any⟩
def ING.MERGE_leg_mode : Fld := ⟨0x110, 30, 2, 2, .rwc, .between 0 2⟩
def ING.MERGE_window_us : Fld := ⟨0x110, 0, 18, 0x7D0, .rwc, .between 1 150000⟩
def ING.LEGMON_leg_timeout_ms : Fld := ⟨0x114, 0, 16, 10, .rwc, .between 1 1000⟩
def ING.RING_depth : Fld := ⟨0x118, 0, 5, 2, .rwc, .between 1 16⟩
def ING.FS_PHASE_phase_ns : Fld := ⟨0x11C, 0, 32, 0, .rwc, .any⟩
def ING.FS_GUARD_hyst_us : Fld := ⟨0x120, 16, 16, 100, .rwc, .any⟩
def ING.FS_GUARD_guard_us : Fld := ⟨0x120, 0, 16, 20, .rwc, .any⟩
def ING.LOSS_policy : Fld := ⟨0x124, 30, 2, 0, .rwc, .between 0 2⟩
def ING.LOSS_rejoin_pics : Fld := ⟨0x124, 8, 8, 2, .rwc, .between 1 255⟩
def ING.LOSS_loss_pics : Fld := ⟨0x124, 0, 8, 3, .rwc, .between 1 255⟩
def ING.SLATE_capture : Fld := ⟨0x128, 31, 1, 0, .wo, .any⟩
def ING.SLATE_copy : Fld := ⟨0x128, 30, 1, 0, .wo, .any⟩
def ING.SLATE_copy_from : Fld := ⟨0x128, 0, 6, 0, .rw, .any⟩
def ING.FS_LEAD_lead_ns : Fld := ⟨0x12C, 0, 32, 0, .ro, .any⟩
def ING.PICNUM_picture : Fld := ⟨0x130, 0, 32, 0, .ro, .any⟩
def ING.MAP_PIC_picture : Fld := ⟨0x134, 0, 32, 0, .rw, .any⟩
def ING.MAP_IDX_entry : Fld := ⟨0x138, 0, 10, 0, .rw, .any⟩
def ING.MAP_ENT_entry : Fld := ⟨0x13C, 0, 64, 0, .ro, .any⟩
def ING.ANC_DISC_count : Fld := ⟨0x144, 0, 32, 0, .ro, .any⟩
def ING.ST_src_lost : Fld := ⟨0x00C, 0, 1, 0, .ro, .any⟩
def ING.ST_leg_a_up : Fld := ⟨0x00C, 1, 1, 0, .ro, .any⟩
def ING.ST_leg_b_up : Fld := ⟨0x00C, 2, 1, 0, .ro, .any⟩
def ING.ST_holdover : Fld := ⟨0x00C, 3, 1, 0, .ro, .any⟩
def ING.ST_slate_valid : Fld := ⟨0x00C, 4, 1, 0, .ro, .any⟩

def ING.rows0 : List Fld :=
  [ING.VFMT_v_en, ING.VFMT_interlaced, ING.VFMT_sampling, ING.VFMT_depth, ING.VFMT_colorimetry, ING.VFMT_tcs,
   ING.VFMT_bpm, ING.VFMT_rate, ING.VDIM_height, ING.VDIM_width, ING.AFMT_a_en, ING.AFMT_l24, ING.AFMT_ptime,
   ING.AFMT_channels, ING.ANC_anc_en, ING.ANC_classes, ING.MERGE_leg_mode, ING.MERGE_window_us,
   ING.LEGMON_leg_timeout_ms, ING.RING_depth, ING.FS_PHASE_phase_ns, ING.FS_GUARD_hyst_us, ING.FS_GUARD_guard_us,
   ING.LOSS_policy, ING.LOSS_rejoin_pics, ING.LOSS_loss_pics, ING.SLATE_capture, ING.SLATE_copy, ING.SLATE_copy_from,
   ING.FS_LEAD_lead_ns, ING.PICNUM_picture, ING.MAP_PIC_picture, ING.MAP_IDX_entry, ING.MAP_ENT_entry,
   ING.ANC_DISC_count, ING.ST_src_lost, ING.ST_leg_a_up, ING.ST_leg_b_up, ING.ST_holdover, ING.ST_slate_valid]

/-- every field of the ING block registers. -/
def ING.rows : List Fld := ING.rows0 ++ ([0x200, 0x240, 0x280, 0x2C0, 0x300, 0x340].flatMap MATCH.rows) ++ ([0x400, 0x440, 0x480].flatMap FCNT.rows) ++ SYNC.rows

/-! ## CND (R110) -/

def CND.PATH_en (p : Nat) : Fld := ⟨0x100 + 4 * p, 31, 1, 0, .rwc, .any⟩
def CND.PATH_src_dch (p : Nat) : Fld := ⟨0x100 + 4 * p, 30, 1, 0, .rwc, .any⟩
def CND.PATH_src (p : Nat) : Fld := ⟨0x100 + 4 * p, 16, 6, 0, .rwc, .any⟩
def CND.LUT_ADDR_bank : Fld := ⟨0x180, 16, 2, 0, .rw, .any⟩
def CND.LUT_ADDR_index : Fld := ⟨0x180, 0, 16, 0, .rw, .between 0 35936⟩
def CND.LUT_DATA0_r : Fld := ⟨0x184, 16, 16, 0, .rw, .any⟩
def CND.LUT_DATA0_g : Fld := ⟨0x184, 0, 16, 0, .rw, .any⟩
def CND.LUT_DATA1_b : Fld := ⟨0x188, 0, 16, 0, .rw, .any⟩
def CND.LUT_USE_in_use : Fld := ⟨0x18C, 0, 4, 0, .ro, .any⟩
def CND.LOAD_load_mpix : Fld := ⟨0x190, 0, 13, 0, .ro, .any⟩
def CND.OCTL_en (m : Nat) : Fld := ⟨0x200 + 8 * m, 31, 1, 0, .rwc, .any⟩
def CND.OCTL_path (m : Nat) : Fld := ⟨0x200 + 8 * m, 24, 3, 0, .rwc, .any⟩
def CND.OCTL_lut_en (m : Nat) : Fld := ⟨0x200 + 8 * m, 23, 1, 0, .rwc, .any⟩
def CND.OCTL_lut_bank (m : Nat) : Fld := ⟨0x200 + 8 * m, 20, 2, 0, .rwc, .any⟩
def CND.OCTL_chroma_out (m : Nat) : Fld := ⟨0x200 + 8 * m, 16, 2, 0, .rwc, .between 0 2⟩
def CND.OCTL_depth_out (m : Nat) : Fld := ⟨0x200 + 8 * m, 12, 2, 1, .rwc, .between 0 1⟩
def CND.OCTL_colorimetry_out (m : Nat) : Fld := ⟨0x200 + 8 * m, 8, 2, 0, .rwc, .between 0 1⟩
def CND.OCTL_tcs_out (m : Nat) : Fld := ⟨0x200 + 8 * m, 6, 2, 0, .rwc, .between 0 2⟩
def CND.ODIM_height (m : Nat) : Fld := ⟨0x204 + 8 * m, 16, 16, 0x438, .rwc, .any⟩
def CND.ODIM_width (m : Nat) : Fld := ⟨0x204 + 8 * m, 0, 16, 0x780, .rwc, .any⟩

def CND.rows0 : List Fld :=
  [CND.PATH_en 0, CND.PATH_en 1, CND.PATH_en 2, CND.PATH_en 3, CND.PATH_en 4, CND.PATH_en 5, CND.PATH_en 6,
   CND.PATH_en 7, CND.PATH_src_dch 0, CND.PATH_src_dch 1, CND.PATH_src_dch 2, CND.PATH_src_dch 3, CND.PATH_src_dch 4,
   CND.PATH_src_dch 5, CND.PATH_src_dch 6, CND.PATH_src_dch 7, CND.PATH_src 0, CND.PATH_src 1, CND.PATH_src 2,
   CND.PATH_src 3, CND.PATH_src 4, CND.PATH_src 5, CND.PATH_src 6, CND.PATH_src 7, CND.LUT_ADDR_bank, CND.LUT_ADDR_index,
   CND.LUT_DATA0_r, CND.LUT_DATA0_g, CND.LUT_DATA1_b, CND.LUT_USE_in_use, CND.LOAD_load_mpix, CND.OCTL_en 0,
   CND.OCTL_en 1, CND.OCTL_en 2, CND.OCTL_en 3, CND.OCTL_en 4, CND.OCTL_en 5, CND.OCTL_en 6, CND.OCTL_en 7,
   CND.OCTL_en 8]
def CND.rows1 : List Fld :=
  [CND.OCTL_en 9, CND.OCTL_en 10, CND.OCTL_en 11, CND.OCTL_en 12, CND.OCTL_en 13, CND.OCTL_en 14, CND.OCTL_en 15,
   CND.OCTL_path 0, CND.OCTL_path 1, CND.OCTL_path 2, CND.OCTL_path 3, CND.OCTL_path 4, CND.OCTL_path 5, CND.OCTL_path 6,
   CND.OCTL_path 7, CND.OCTL_path 8, CND.OCTL_path 9, CND.OCTL_path 10, CND.OCTL_path 11, CND.OCTL_path 12,
   CND.OCTL_path 13, CND.OCTL_path 14, CND.OCTL_path 15, CND.OCTL_lut_en 0, CND.OCTL_lut_en 1, CND.OCTL_lut_en 2,
   CND.OCTL_lut_en 3, CND.OCTL_lut_en 4, CND.OCTL_lut_en 5, CND.OCTL_lut_en 6, CND.OCTL_lut_en 7, CND.OCTL_lut_en 8,
   CND.OCTL_lut_en 9, CND.OCTL_lut_en 10, CND.OCTL_lut_en 11, CND.OCTL_lut_en 12, CND.OCTL_lut_en 13, CND.OCTL_lut_en 14,
   CND.OCTL_lut_en 15, CND.OCTL_lut_bank 0]
def CND.rows2 : List Fld :=
  [CND.OCTL_lut_bank 1, CND.OCTL_lut_bank 2, CND.OCTL_lut_bank 3, CND.OCTL_lut_bank 4, CND.OCTL_lut_bank 5,
   CND.OCTL_lut_bank 6, CND.OCTL_lut_bank 7, CND.OCTL_lut_bank 8, CND.OCTL_lut_bank 9, CND.OCTL_lut_bank 10,
   CND.OCTL_lut_bank 11, CND.OCTL_lut_bank 12, CND.OCTL_lut_bank 13, CND.OCTL_lut_bank 14, CND.OCTL_lut_bank 15,
   CND.OCTL_chroma_out 0, CND.OCTL_chroma_out 1, CND.OCTL_chroma_out 2, CND.OCTL_chroma_out 3, CND.OCTL_chroma_out 4,
   CND.OCTL_chroma_out 5, CND.OCTL_chroma_out 6, CND.OCTL_chroma_out 7, CND.OCTL_chroma_out 8, CND.OCTL_chroma_out 9,
   CND.OCTL_chroma_out 10, CND.OCTL_chroma_out 11, CND.OCTL_chroma_out 12, CND.OCTL_chroma_out 13,
   CND.OCTL_chroma_out 14, CND.OCTL_chroma_out 15, CND.OCTL_depth_out 0, CND.OCTL_depth_out 1, CND.OCTL_depth_out 2,
   CND.OCTL_depth_out 3, CND.OCTL_depth_out 4, CND.OCTL_depth_out 5, CND.OCTL_depth_out 6, CND.OCTL_depth_out 7,
   CND.OCTL_depth_out 8]
def CND.rows3 : List Fld :=
  [CND.OCTL_depth_out 9, CND.OCTL_depth_out 10, CND.OCTL_depth_out 11, CND.OCTL_depth_out 12, CND.OCTL_depth_out 13,
   CND.OCTL_depth_out 14, CND.OCTL_depth_out 15, CND.OCTL_colorimetry_out 0, CND.OCTL_colorimetry_out 1,
   CND.OCTL_colorimetry_out 2, CND.OCTL_colorimetry_out 3, CND.OCTL_colorimetry_out 4, CND.OCTL_colorimetry_out 5,
   CND.OCTL_colorimetry_out 6, CND.OCTL_colorimetry_out 7, CND.OCTL_colorimetry_out 8, CND.OCTL_colorimetry_out 9,
   CND.OCTL_colorimetry_out 10, CND.OCTL_colorimetry_out 11, CND.OCTL_colorimetry_out 12, CND.OCTL_colorimetry_out 13,
   CND.OCTL_colorimetry_out 14, CND.OCTL_colorimetry_out 15, CND.OCTL_tcs_out 0, CND.OCTL_tcs_out 1, CND.OCTL_tcs_out 2,
   CND.OCTL_tcs_out 3, CND.OCTL_tcs_out 4, CND.OCTL_tcs_out 5, CND.OCTL_tcs_out 6, CND.OCTL_tcs_out 7,
   CND.OCTL_tcs_out 8, CND.OCTL_tcs_out 9, CND.OCTL_tcs_out 10, CND.OCTL_tcs_out 11, CND.OCTL_tcs_out 12,
   CND.OCTL_tcs_out 13, CND.OCTL_tcs_out 14, CND.OCTL_tcs_out 15, CND.ODIM_height 0]
def CND.rows4 : List Fld :=
  [CND.ODIM_height 1, CND.ODIM_height 2, CND.ODIM_height 3, CND.ODIM_height 4, CND.ODIM_height 5, CND.ODIM_height 6,
   CND.ODIM_height 7, CND.ODIM_height 8, CND.ODIM_height 9, CND.ODIM_height 10, CND.ODIM_height 11, CND.ODIM_height 12,
   CND.ODIM_height 13, CND.ODIM_height 14, CND.ODIM_height 15, CND.ODIM_width 0, CND.ODIM_width 1, CND.ODIM_width 2,
   CND.ODIM_width 3, CND.ODIM_width 4, CND.ODIM_width 5, CND.ODIM_width 6, CND.ODIM_width 7, CND.ODIM_width 8,
   CND.ODIM_width 9, CND.ODIM_width 10, CND.ODIM_width 11, CND.ODIM_width 12, CND.ODIM_width 13, CND.ODIM_width 14,
   CND.ODIM_width 15]

/-- every field of the CND block registers. -/
def CND.rows : List Fld := CND.rows0 ++ CND.rows1 ++ CND.rows2 ++ CND.rows3 ++ CND.rows4

/-! ## ENC (R145) -/

def ENC.LOAD_util_permille : Fld := ⟨0x100, 20, 12, 0, .ro, .any⟩
def ENC.LOAD_load_mpix : Fld := ⟨0x100, 0, 13, 0, .ro, .any⟩
def ENC.CHANS_chans : Fld := ⟨0x104, 0, 32, 0, .ro, .any⟩
def ENC.SLACK_clear : Fld := ⟨0x108, 31, 1, 0, .wo, .any⟩
def ENC.SLACK_slack_min_ns : Fld := ⟨0x108, 0, 24, 0xFFFFFF, .ro, .any⟩
def ENC.STALL_cycles : Fld := ⟨0x10C, 0, 64, 0, .ro, .any⟩
def ENC.CTUS_ctus : Fld := ⟨0x114, 0, 64, 0, .ro, .any⟩
def ENC.LATE_rows : Fld := ⟨0x11C, 0, 32, 0, .ro, .any⟩
def ENC.RR_REQ_requests : Fld := ⟨0x120, 0, 32, 0, .ro, .any⟩
def ENC.RR_MISS_misses : Fld := ⟨0x124, 0, 32, 0, .ro, .any⟩
def ENC.SHADOW_MM_count : Fld := ⟨0x128, 0, 32, 0, .ro, .any⟩
def ENC.ST_logical : Fld := ⟨0x00C, 0, 5, 31, .ro, .any⟩
def ENC.ST_spare : Fld := ⟨0x00C, 5, 1, 0, .ro, .any⟩
def ENC.ST_shadowing : Fld := ⟨0x00C, 6, 1, 0, .ro, .any⟩
def ENC.ST_golden : Fld := ⟨0x00C, 7, 1, 0, .ro, .any⟩
def ENC.ST_suspect : Fld := ⟨0x00C, 8, 1, 0, .ro, .any⟩

def ENC.rows0 : List Fld :=
  [ENC.LOAD_util_permille, ENC.LOAD_load_mpix, ENC.CHANS_chans, ENC.SLACK_clear, ENC.SLACK_slack_min_ns,
   ENC.STALL_cycles, ENC.CTUS_ctus, ENC.LATE_rows, ENC.RR_REQ_requests, ENC.RR_MISS_misses, ENC.SHADOW_MM_count,
   ENC.ST_logical, ENC.ST_spare, ENC.ST_shadowing, ENC.ST_golden, ENC.ST_suspect]

/-- every field of the ENC block registers. -/
def ENC.rows : List Fld := ENC.rows0

/-! ## ECH (R147, R174) -/

def ECH.SRC_src_kind : Fld := ⟨0x100, 30, 2, 0, .rwc, .between 0 2⟩
def ECH.SRC_src : Fld := ⟨0x100, 16, 6, 0, .rwc, .any⟩
def ECH.SRC_unavail_policy : Fld := ⟨0x100, 0, 2, 0, .rwc, .between 0 1⟩
def ECH.FMT_codec : Fld := ⟨0x104, 31, 1, 0, .rwc, .any⟩
def ECH.FMT_chroma : Fld := ⟨0x104, 28, 2, 0, .rwc, .between 0 1⟩
def ECH.FMT_depth10 : Fld := ⟨0x104, 27, 1, 1, .rwc, .any⟩
def ECH.FMT_field : Fld := ⟨0x104, 26, 1, 0, .rwc, .any⟩
def ECH.FMT_ctu128 : Fld := ⟨0x104, 25, 1, 0, .rwc, .any⟩
def ECH.FMT_tier : Fld := ⟨0x104, 24, 1, 0, .rwc, .any⟩
def ECH.FMT_level_idc : Fld := ⟨0x104, 0, 8, 123, .rwc, .any⟩
def ECH.DIM_height : Fld := ⟨0x108, 16, 16, 0x438, .rwc, .any⟩
def ECH.DIM_width : Fld := ⟨0x108, 0, 16, 0x780, .rwc, .any⟩
def ECH.ALLOC_dedicated : Fld := ⟨0x10C, 31, 1, 0, .rwc, .any⟩
def ECH.ALLOC_n_cols : Fld := ⟨0x10C, 24, 3, 1, .rwc, .between 1 4⟩
def ECH.ALLOC_core : Fld := ⟨0x10C, 16, 4, 0, .rwc, .any⟩
def ECH.LAT_frame_plus : Fld := ⟨0x110, 31, 1, 0, .rwc, .any⟩
def ECH.PRED_structure : Fld := ⟨0x114, 30, 2, 0, .rwc, .between 0 1⟩
def ECH.PRED_active_refs : Fld := ⟨0x114, 24, 3, 1, .rwc, .between 1 4⟩
def ECH.PRED_shelf : Fld := ⟨0x114, 16, 4, 2, .rwc, .between 1 8⟩
def ECH.REFRESH_method : Fld := ⟨0x118, 30, 2, 0, .rwc, .any⟩
def ECH.REFRESH_period : Fld := ⟨0x118, 0, 16, 0, .rwc, .any⟩
def ECH.EFFORT_effort_max : Fld := ⟨0x11C, 24, 2, 3, .rwc, .any⟩
def ECH.EFFORT_effort_act : Fld := ⟨0x11C, 8, 2, 3, .ro, .any⟩
def ECH.EFFORT_governed : Fld := ⟨0x11C, 0, 1, 0, .ro, .any⟩
def ECH.VUI_primaries : Fld := ⟨0x120, 16, 8, 1, .rwc, .any⟩
def ECH.VUI_transfer : Fld := ⟨0x120, 8, 8, 1, .rwc, .any⟩
def ECH.VUI_matrix : Fld := ⟨0x120, 0, 8, 1, .rwc, .any⟩
def ECH.FORCE_idr : Fld := ⟨0x124, 31, 1, 0, .rwc, .any⟩
def ECH.ROWINFO_rows : Fld := ⟨0x128, 24, 8, 0, .ro, .any⟩
def ECH.ROWINFO_row_period_ns : Fld := ⟨0x128, 0, 24, 0, .ro, .any⟩
def ECH.LAT_NS_latency_ns : Fld := ⟨0x12C, 0, 32, 0, .ro, .any⟩
def ECH.PICNUM_picture : Fld := ⟨0x130, 0, 32, 0, .ro, .any⟩
def ECH.POSITION_row : Fld := ⟨0x134, 24, 8, 0, .ro, .any⟩
def ECH.POSITION_since_join : Fld := ⟨0x134, 0, 16, 0, .ro, .any⟩
def ECH.DEPART_ERR_max_late_ns : Fld := ⟨0x138, 16, 16, 0, .ro, .any⟩
def ECH.PICS_pictures : Fld := ⟨0x13C, 0, 64, 0, .ro, .any⟩
def ECH.FLOOR_ROWS_rows : Fld := ⟨0x144, 0, 32, 0, .ro, .any⟩
def ECH.LATE_ROWS_rows : Fld := ⟨0x148, 0, 32, 0, .ro, .any⟩
def ECH.FEED_SUBST_pictures : Fld := ⟨0x14C, 0, 32, 0, .ro, .any⟩
def ECH.DREC_header (i : Nat) : Fld := ⟨0x160 + 4 * i, 0, 32, 0, .ro, .any⟩
def ECH.RC_MODE_cbr : Fld := ⟨0x180, 31, 1, 0, .rwc, .any⟩
def ECH.RC_MODE_in_group : Fld := ⟨0x180, 30, 1, 0, .rwc, .any⟩
def ECH.RC_MODE_group : Fld := ⟨0x180, 24, 3, 0, .rwc, .any⟩
def ECH.RC_MODE_share : Fld := ⟨0x180, 0, 11, 0, .rwc, .any⟩
def ECH.RC_RATE_rate_kbps : Fld := ⟨0x184, 0, 32, 0xC350, .rwc, .between 2000 2000000⟩
def ECH.RC_CPB_cpb_tokens : Fld := ⟨0x188, 0, 32, 0x40000, .rwc, .any⟩
def ECH.RC_INIT_init_tokens : Fld := ⟨0x18C, 0, 32, 0x20000, .rwc, .any⟩
def ECH.RC_KEEP_keep_tokens : Fld := ⟨0x190, 0, 32, 0x20000, .rwc, .any⟩
def ECH.RC_QP_qp_max : Fld := ⟨0x194, 24, 6, 51, .rwc, .any⟩
def ECH.RC_QP_qp_min : Fld := ⟨0x194, 16, 6, 10, .rwc, .any⟩
def ECH.RC_LOAN_loan_en : Fld := ⟨0x198, 31, 1, 1, .rwc, .any⟩
def ECH.RC_LOAN_loan_max : Fld := ⟨0x198, 0, 24, 0x10000, .rwc, .any⟩
def ECH.RC_FPIC_I_tokens : Fld := ⟨0x19C, 0, 32, 0, .ro, .any⟩
def ECH.RC_FPIC_P_tokens : Fld := ⟨0x1A0, 0, 32, 0, .ro, .any⟩
def ECH.RC_ACCOUNT_tokens : Fld := ⟨0x1A4, 0, 32, 0, .ro, .any⟩
def ECH.RC_HEAD_tokens : Fld := ⟨0x1A8, 0, 32, 0, .ro, .any⟩
def ECH.RC_RES_tokens : Fld := ⟨0x1AC, 0, 32, 0, .ro, .any⟩
def ECH.RC_DEBT_tokens : Fld := ⟨0x1B0, 0, 32, 0, .ro, .any⟩
def ECH.RC_HRD_tokens : Fld := ⟨0x1B4, 0, 32, 0, .ro, .any⟩
def ECH.RC_ACCRUED_tokens : Fld := ⟨0x1B8, 0, 64, 0, .ro, .any⟩
def ECH.RC_SPENT_tokens : Fld := ⟨0x1C0, 0, 64, 0, .ro, .any⟩
def ECH.RC_LAPSED_tokens : Fld := ⟨0x1C8, 0, 64, 0, .ro, .any⟩
def ECH.RC_FILLER_tokens : Fld := ⟨0x1D0, 0, 32, 0, .ro, .any⟩
def ECH.RC_LOAN_REQ_count : Fld := ⟨0x1D4, 0, 32, 0, .ro, .any⟩
def ECH.RC_LOAN_GRANT_count : Fld := ⟨0x1D8, 0, 32, 0, .ro, .any⟩
def ECH.RC_LOAN_MISS_count : Fld := ⟨0x1DC, 0, 32, 0, .ro, .any⟩
def ECH.RC_LOAN_TOKENS_tokens : Fld := ⟨0x1E0, 0, 32, 0, .ro, .any⟩
def ECH.RC_QP_OVR_rows : Fld := ⟨0x1E4, 0, 32, 0, .ro, .any⟩
def ECH.RC_FLOOR_PICS_pictures : Fld := ⟨0x1E8, 0, 32, 0, .ro, .any⟩
def ECH.RC_RETURNED_tokens : Fld := ⟨0x1EC, 0, 32, 0, .ro, .any⟩
def ECH.ST_src_unavail : Fld := ⟨0x00C, 0, 1, 0, .ro, .any⟩
def ECH.ST_governed : Fld := ⟨0x00C, 1, 1, 0, .ro, .any⟩
def ECH.ST_floor_in_picture : Fld := ⟨0x00C, 2, 1, 0, .ro, .any⟩
def ECH.ST_frame_plus_active : Fld := ⟨0x00C, 3, 1, 0, .ro, .any⟩

def ECH.rows0 : List Fld :=
  [ECH.SRC_src_kind, ECH.SRC_src, ECH.SRC_unavail_policy, ECH.FMT_codec, ECH.FMT_chroma, ECH.FMT_depth10,
   ECH.FMT_field, ECH.FMT_ctu128, ECH.FMT_tier, ECH.FMT_level_idc, ECH.DIM_height, ECH.DIM_width, ECH.ALLOC_dedicated,
   ECH.ALLOC_n_cols, ECH.ALLOC_core, ECH.LAT_frame_plus, ECH.PRED_structure, ECH.PRED_active_refs, ECH.PRED_shelf,
   ECH.REFRESH_method, ECH.REFRESH_period, ECH.EFFORT_effort_max, ECH.EFFORT_effort_act, ECH.EFFORT_governed,
   ECH.VUI_primaries, ECH.VUI_transfer, ECH.VUI_matrix, ECH.FORCE_idr, ECH.ROWINFO_rows, ECH.ROWINFO_row_period_ns,
   ECH.LAT_NS_latency_ns, ECH.PICNUM_picture, ECH.POSITION_row, ECH.POSITION_since_join, ECH.DEPART_ERR_max_late_ns,
   ECH.PICS_pictures, ECH.FLOOR_ROWS_rows, ECH.LATE_ROWS_rows, ECH.FEED_SUBST_pictures, ECH.DREC_header 0]
def ECH.rows1 : List Fld :=
  [ECH.DREC_header 1, ECH.DREC_header 2, ECH.DREC_header 3, ECH.DREC_header 4, ECH.DREC_header 5, ECH.DREC_header 6,
   ECH.DREC_header 7, ECH.RC_MODE_cbr, ECH.RC_MODE_in_group, ECH.RC_MODE_group, ECH.RC_MODE_share, ECH.RC_RATE_rate_kbps,
   ECH.RC_CPB_cpb_tokens, ECH.RC_INIT_init_tokens, ECH.RC_KEEP_keep_tokens, ECH.RC_QP_qp_max, ECH.RC_QP_qp_min,
   ECH.RC_LOAN_loan_en, ECH.RC_LOAN_loan_max, ECH.RC_FPIC_I_tokens, ECH.RC_FPIC_P_tokens, ECH.RC_ACCOUNT_tokens,
   ECH.RC_HEAD_tokens, ECH.RC_RES_tokens, ECH.RC_DEBT_tokens, ECH.RC_HRD_tokens, ECH.RC_ACCRUED_tokens,
   ECH.RC_SPENT_tokens, ECH.RC_LAPSED_tokens, ECH.RC_FILLER_tokens, ECH.RC_LOAN_REQ_count, ECH.RC_LOAN_GRANT_count,
   ECH.RC_LOAN_MISS_count, ECH.RC_LOAN_TOKENS_tokens, ECH.RC_QP_OVR_rows, ECH.RC_FLOOR_PICS_pictures,
   ECH.RC_RETURNED_tokens, ECH.ST_src_unavail, ECH.ST_governed, ECH.ST_floor_in_picture]
def ECH.rows2 : List Fld :=
  [ECH.ST_frame_plus_active]

/-- every field of the ECH block registers. -/
def ECH.rows : List Fld := ECH.rows0 ++ ECH.rows1 ++ ECH.rows2

end Sys2Proof.Machine
end

