-- ==== Sys2Proof/Machine/RegsB.lean ====
section
/-! DEFINITION. the block registers of RCL, MUX, OUT, DEC, DCH, SND, TWN and TIM: each field's offset, bits, reset value,
access code and range (R9, R511), made from the field maps of spec/. A reset the field map calls "Per …", "Stored" or
"Strap" stands here as 0 and is computed where it is read. -/

namespace Sys2Proof.Machine

/-! ## RCL (R176) -/

def RCL.POLICY_proj_rows : Fld := ⟨0x100, 16, 3, 1, .rwc, .any⟩
def RCL.POLICY_qp_conflict : Fld := ⟨0x100, 0, 1, 1, .rwc, .any⟩
def RCL.REMOTE_home_timeout_us : Fld := ⟨0x104, 0, 16, 0x3E8, .rwc, .between 10 65535⟩
def RCL.ACTIVE_groups : Fld := ⟨0x108, 0, 8, 0, .ro, .any⟩
def RCL.MSG_TX_count : Fld := ⟨0x10C, 0, 32, 0, .ro, .any⟩
def RCL.MSG_RX_count : Fld := ⟨0x110, 0, 32, 0, .ro, .any⟩
def RCL.MSG_LATE_count : Fld := ⟨0x114, 0, 32, 0, .ro, .any⟩
def RCL.MSG_BAD_count : Fld := ⟨0x118, 0, 32, 0, .ro, .any⟩
def RCL.FLOOR_HDR_tokens : Fld := ⟨0x11C, 0, 8, 40, .ro, .any⟩

def RCL.rows0 : List Fld :=
  [RCL.POLICY_proj_rows, RCL.POLICY_qp_conflict, RCL.REMOTE_home_timeout_us, RCL.ACTIVE_groups, RCL.MSG_TX_count,
   RCL.MSG_RX_count, RCL.MSG_LATE_count, RCL.MSG_BAD_count, RCL.FLOOR_HDR_tokens]

/-- every field of the RCL block registers. -/
def RCL.rows : List Fld := RCL.rows0

/-! ## MUX (R177) -/

def MUX.CFG_remote : Fld := ⟨0x100, 31, 1, 0, .rwc, .any⟩
def MUX.CFG_home : Fld := ⟨0x100, 16, 10, 0, .rwc, .any⟩
def MUX.CFG_pool_fclk : Fld := ⟨0x100, 12, 2, 0, .rwc, .any⟩
def MUX.CFG_remote_shares : Fld := ⟨0x100, 0, 11, 0, .rwc, .any⟩
def MUX.RATE_rate_kbps : Fld := ⟨0x104, 0, 32, 0, .rwc, .zeroOr 2000 16000000⟩
def MUX.GRANT_grant_min : Fld := ⟨0x108, 0, 24, 0x2000, .rwc, .any⟩
def MUX.POOL_CAP_cap : Fld := ⟨0x10C, 0, 32, 0x400000, .rwc, .any⟩
def MUX.REPAY_repay_eighths : Fld := ⟨0x110, 0, 4, 0, .rwc, .between 0 8⟩
def MUX.MEMBERS_chans : Fld := ⟨0x114, 0, 32, 0, .ro, .any⟩
def MUX.SHARES_pool_share : Fld := ⟨0x118, 16, 11, 0x400, .ro, .any⟩
def MUX.SHARES_local_shares : Fld := ⟨0x118, 0, 11, 0, .ro, .any⟩
def MUX.POOL_tokens : Fld := ⟨0x120, 0, 32, 0, .ro, .any⟩
def MUX.UNSETTLED_tokens : Fld := ⟨0x124, 0, 32, 0, .ro, .any⟩
def MUX.ALLOW_tokens : Fld := ⟨0x128, 0, 64, 0, .ro, .any⟩
def MUX.ACCRUED_tokens : Fld := ⟨0x130, 0, 64, 0, .ro, .any⟩
def MUX.SPENT_tokens : Fld := ⟨0x138, 0, 64, 0, .ro, .any⟩
def MUX.LAPSED_tokens : Fld := ⟨0x140, 0, 64, 0, .ro, .any⟩
def MUX.SENT_tokens : Fld := ⟨0x148, 0, 64, 0, .ro, .any⟩
def MUX.RECV_tokens : Fld := ⟨0x150, 0, 64, 0, .ro, .any⟩
def MUX.GRANTS_count : Fld := ⟨0x158, 0, 32, 0, .ro, .any⟩
def MUX.REFUSALS_count : Fld := ⟨0x15C, 0, 32, 0, .ro, .any⟩
def MUX.LATE_count : Fld := ⟨0x160, 0, 32, 0, .ro, .any⟩
def MUX.DOUBT_tokens : Fld := ⟨0x164, 0, 32, 0, .ro, .any⟩
/-- its value at reset and after OFF, which no rule gives, is 1. [DESIGN CHOICE log 50] -/
def MUX.ST_home_reachable : Fld := ⟨0x00C, 1, 1, 1, .ro, .any⟩

def MUX.rows0 : List Fld :=
  [MUX.CFG_remote, MUX.CFG_home, MUX.CFG_pool_fclk, MUX.CFG_remote_shares, MUX.RATE_rate_kbps, MUX.GRANT_grant_min,
   MUX.POOL_CAP_cap, MUX.REPAY_repay_eighths, MUX.MEMBERS_chans, MUX.SHARES_pool_share, MUX.SHARES_local_shares,
   MUX.POOL_tokens, MUX.UNSETTLED_tokens, MUX.ALLOW_tokens, MUX.ACCRUED_tokens, MUX.SPENT_tokens, MUX.LAPSED_tokens,
   MUX.SENT_tokens, MUX.RECV_tokens, MUX.GRANTS_count, MUX.REFUSALS_count, MUX.LATE_count, MUX.DOUBT_tokens,
   MUX.ST_home_reachable]

/-- every field of the MUX block registers. -/
def MUX.rows : List Fld := MUX.rows0

/-! ## OLEG (R200, one leg block based at b) -/

def OLEG.daddr (b i : Nat) : Fld := ⟨b + 0x00 + 4 * i, 0, 32, 0, .rwc, .any⟩
def OLEG.en (b : Nat) : Fld := ⟨b + 0x10, 31, 1, 0, .rwc, .any⟩
def OLEG.udp_dst (b : Nat) : Fld := ⟨b + 0x10, 0, 16, 0, .rwc, .any⟩
def OLEG.udp_src (b : Nat) : Fld := ⟨b + 0x14, 16, 16, 0, .rwc, .any⟩
def OLEG.dscp (b : Nat) : Fld := ⟨b + 0x14, 0, 6, 34, .rwc, .any⟩
def OLEG.pcp (b : Nat) : Fld := ⟨b + 0x18, 13, 3, 4, .rwc, .any⟩
def OLEG.vlan_en (b : Nat) : Fld := ⟨b + 0x18, 12, 1, 0, .rwc, .any⟩
def OLEG.vid (b : Nat) : Fld := ⟨b + 0x18, 0, 12, 0, .rwc, .any⟩
def OLEG.dmac_auto (b : Nat) : Fld := ⟨b + 0x1C, 31, 1, 1, .rwc, .any⟩
def OLEG.dmac_hi (b : Nat) : Fld := ⟨b + 0x20, 0, 16, 0, .rwc, .any⟩
def OLEG.dmac_lo (b : Nat) : Fld := ⟨b + 0x24, 0, 32, 0, .rwc, .any⟩

def OLEG.rows0 (b : Nat) : List Fld :=
  [OLEG.daddr b 0, OLEG.daddr b 1, OLEG.daddr b 2, OLEG.daddr b 3, OLEG.en b, OLEG.udp_dst b, OLEG.udp_src b,
   OLEG.dscp b, OLEG.pcp b, OLEG.vlan_en b, OLEG.vid b, OLEG.dmac_auto b, OLEG.dmac_hi b, OLEG.dmac_lo b]

/-- every field of the OLEG block registers. -/
def OLEG.rows (b : Nat) : List Fld := OLEG.rows0 b

/-! ## OUT (R199, R201) -/

def OUT.FORM_form : Fld := ⟨0x100, 30, 2, 0, .rwc, .any⟩
def OUT.RING_size_mib : Fld := ⟨0x104, 0, 9, 4, .rwc, .between 4 256⟩
def OUT.PKT_payload_max : Fld := ⟨0x108, 16, 16, 0x578, .rwc, .between 256 8960⟩
def OUT.PKT_pt : Fld := ⟨0x108, 0, 7, 96, .rwc, .any⟩
def OUT.SSRC_ssrc : Fld := ⟨0x10C, 0, 32, 0, .rwc, .any⟩
def OUT.SEQ_seq_init : Fld := ⟨0x110, 0, 16, 0, .rwc, .any⟩
def OUT.TSTAMP_ts_tick : Fld := ⟨0x114, 31, 1, 0, .rwc, .any⟩
def OUT.TS_OFFSET_offset : Fld := ⟨0x118, 0, 32, 0, .rwc, .any⟩
def OUT.PACE_linear : Fld := ⟨0x11C, 31, 1, 0, .rwc, .any⟩
def OUT.PACE_pct : Fld := ⟨0x11C, 16, 8, 110, .rwc, .between 100 200⟩
def OUT.PACE_burst_mbps : Fld := ⟨0x11C, 0, 16, 0x2710, .rwc, .between 100 50000⟩
def OUT.LEG_STALL_us : Fld := ⟨0x120, 0, 16, 100, .rwc, .between 10 10000⟩
def OUT.TS_PID_pmt_pid : Fld := ⟨0x124, 16, 13, 0x100, .rwc, .any⟩
def OUT.TS_PID_video_pid : Fld := ⟨0x124, 0, 13, 0x101, .rwc, .any⟩
def OUT.TS_AUD_audio_pid : Fld := ⟨0x128, 16, 13, 0x102, .rwc, .any⟩
def OUT.TS_AUD_pairs : Fld := ⟨0x128, 0, 3, 0, .rwc, .between 0 4⟩
def OUT.CC_sei_en : Fld := ⟨0x12C, 31, 1, 0, .rwc, .any⟩
def OUT.RING_SEL_col : Fld := ⟨0x130, 0, 2, 0, .rw, .any⟩
def OUT.RING_WP_offset : Fld := ⟨0x134, 0, 28, 0, .ro, .any⟩
def OUT.RING_RP_offset : Fld := ⟨0x138, 0, 28, 0, .ro, .any⟩
def OUT.RING_BM_offset : Fld := ⟨0x13C, 0, 28, 0, .ro, .any⟩
def OUT.RING_PEAK_clear : Fld := ⟨0x140, 31, 1, 0, .wo, .any⟩
def OUT.RING_PEAK_bytes : Fld := ⟨0x140, 0, 28, 0, .ro, .any⟩
def OUT.SLICE_SEQ_next : Fld := ⟨0x144, 0, 32, 0, .ro, .any⟩
def OUT.C_coded : Fld := ⟨0x200, 0, 64, 0, .ro, .any⟩
def OUT.C_transmitted : Fld := ⟨0x208, 0, 64, 0, .ro, .any⟩
def OUT.C_replaced : Fld := ⟨0x210, 0, 32, 0, .ro, .any⟩
def OUT.C_withheld : Fld := ⟨0x214, 0, 32, 0, .ro, .any⟩
def OUT.C_disc_stop : Fld := ⟨0x218, 0, 32, 0, .ro, .any⟩
def OUT.C_pending : Fld := ⟨0x21C, 0, 32, 0, .ro, .any⟩
def OUT.C_overrun : Fld := ⟨0x220, 0, 32, 0, .ro, .any⟩
def OUT.C_chk_only : Fld := ⟨0x224, 0, 32, 0, .ro, .any⟩
def OUT.C_chk_data : Fld := ⟨0x228, 0, 32, 0, .ro, .any⟩
def OUT.C_src_gone : Fld := ⟨0x22C, 0, 32, 0, .ro, .any⟩
def OUT.C_pkt_a : Fld := ⟨0x230, 0, 64, 0, .ro, .any⟩
def OUT.C_pkt_b : Fld := ⟨0x238, 0, 64, 0, .ro, .any⟩
def OUT.C_leg_drop_a : Fld := ⟨0x240, 0, 32, 0, .ro, .any⟩
def OUT.C_leg_drop_b : Fld := ⟨0x244, 0, 32, 0, .ro, .any⟩
def OUT.C_bp_events : Fld := ⟨0x248, 0, 32, 0, .ro, .any⟩

def OUT.rows0 : List Fld :=
  [OUT.FORM_form, OUT.RING_size_mib, OUT.PKT_payload_max, OUT.PKT_pt, OUT.SSRC_ssrc, OUT.SEQ_seq_init,
   OUT.TSTAMP_ts_tick, OUT.TS_OFFSET_offset, OUT.PACE_linear, OUT.PACE_pct, OUT.PACE_burst_mbps, OUT.LEG_STALL_us,
   OUT.TS_PID_pmt_pid, OUT.TS_PID_video_pid, OUT.TS_AUD_audio_pid, OUT.TS_AUD_pairs, OUT.CC_sei_en, OUT.RING_SEL_col,
   OUT.RING_WP_offset, OUT.RING_RP_offset, OUT.RING_BM_offset, OUT.RING_PEAK_clear, OUT.RING_PEAK_bytes,
   OUT.SLICE_SEQ_next, OUT.C_coded, OUT.C_transmitted, OUT.C_replaced, OUT.C_withheld, OUT.C_disc_stop, OUT.C_pending,
   OUT.C_overrun, OUT.C_chk_only, OUT.C_chk_data, OUT.C_src_gone, OUT.C_pkt_a, OUT.C_pkt_b, OUT.C_leg_drop_a,
   OUT.C_leg_drop_b, OUT.C_bp_events]

/-- every field of the OUT block registers. -/
def OUT.rows : List Fld := OUT.rows0 ++ ([0x180, 0x1C0].flatMap OLEG.rows)

/-! ## DEC (R227) -/

def DEC.LOAD_util_permille : Fld := ⟨0x100, 20, 12, 0, .ro, .any⟩
def DEC.LOAD_load_mpix : Fld := ⟨0x100, 0, 13, 0, .ro, .any⟩
def DEC.CHANS_chans : Fld := ⟨0x104, 0, 16, 0, .ro, .any⟩
def DEC.RATE_mbps : Fld := ⟨0x108, 0, 12, 0, .ro, .any⟩
def DEC.STALL_cycles : Fld := ⟨0x10C, 0, 64, 0, .ro, .any⟩
def DEC.CTUS_ctus : Fld := ⟨0x114, 0, 64, 0, .ro, .any⟩
def DEC.ECC_CORR_count : Fld := ⟨0x11C, 0, 32, 0, .ro, .any⟩
def DEC.ST_golden : Fld := ⟨0x00C, 0, 1, 0, .ro, .any⟩

def DEC.rows0 : List Fld :=
  [DEC.LOAD_util_permille, DEC.LOAD_load_mpix, DEC.CHANS_chans, DEC.RATE_mbps, DEC.STALL_cycles, DEC.CTUS_ctus,
   DEC.ECC_CORR_count, DEC.ST_golden]

/-- every field of the DEC block registers. -/
def DEC.rows : List Fld := DEC.rows0

/-! ## DCH (R228, R230) -/

def DCH.FORM_form : Fld := ⟨0x100, 31, 1, 0, .rwc, .any⟩
def DCH.FORM_codec : Fld := ⟨0x100, 30, 1, 0, .rwc, .any⟩
def DCH.FORM_pt : Fld := ⟨0x100, 16, 7, 96, .rwc, .any⟩
def DCH.FORM_video_pid : Fld := ⟨0x100, 0, 13, 0x101, .rwc, .any⟩
def DCH.FMT_interlaced : Fld := ⟨0x104, 30, 1, 0, .rwc, .any⟩
def DCH.FMT_sampling : Fld := ⟨0x104, 28, 2, 0, .rwc, .oneOf [0, 1, 3]⟩
def DCH.FMT_depth : Fld := ⟨0x104, 26, 2, 1, .rwc, .between 0 1⟩
def DCH.FMT_rate : Fld := ⟨0x104, 16, 5, 7, .rwc, .between 1 11⟩
def DCH.DIM_height : Fld := ⟨0x108, 16, 16, 0x438, .rwc, .any⟩
def DCH.DIM_width : Fld := ⟨0x108, 0, 16, 0x780, .rwc, .any⟩
def DCH.ALLOC_n_cores : Fld := ⟨0x10C, 24, 3, 1, .rwc, .between 1 4⟩
def DCH.ALLOC_core : Fld := ⟨0x10C, 16, 3, 0, .rwc, .any⟩
def DCH.BUF_dpb : Fld := ⟨0x110, 24, 5, 6, .rwc, .between 1 16⟩
def DCH.BUF_hold : Fld := ⟨0x110, 16, 3, 2, .rwc, .between 1 4⟩
def DCH.BUF_cpb_mib : Fld := ⟨0x110, 0, 8, 16, .rwc, .between 2 64⟩
def DCH.MODE_hash_en : Fld := ⟨0x114, 4, 1, 0, .rwc, .any⟩
def DCH.MODE_mode : Fld := ⟨0x114, 0, 2, 0, .rwc, .between 0 2⟩
def DCH.MERGE_leg_mode : Fld := ⟨0x118, 30, 2, 2, .rwc, .between 0 2⟩
def DCH.MERGE_window_us : Fld := ⟨0x118, 0, 18, 0x7D0, .rwc, .between 1 150000⟩
def DCH.LEGMON_leg_timeout_ms : Fld := ⟨0x11C, 0, 16, 10, .rwc, .between 1 1000⟩
def DCH.FS_PHASE_phase_ns : Fld := ⟨0x120, 0, 32, 0, .rwc, .any⟩
def DCH.FS_GUARD_hyst_us : Fld := ⟨0x124, 16, 16, 100, .rwc, .any⟩
def DCH.FS_GUARD_guard_us : Fld := ⟨0x124, 0, 16, 20, .rwc, .any⟩
def DCH.LOSS_policy : Fld := ⟨0x128, 30, 2, 0, .rwc, .between 0 1⟩
def DCH.LOSS_rejoin_pics : Fld := ⟨0x128, 8, 8, 2, .rwc, .between 1 255⟩
def DCH.LOSS_loss_pics : Fld := ⟨0x128, 0, 8, 3, .rwc, .between 1 255⟩
def DCH.RATE_max_mbps : Fld := ⟨0x12C, 0, 12, 100, .rwc, .between 1 2000⟩
def DCH.PICNUM_picture : Fld := ⟨0x130, 0, 32, 0, .ro, .any⟩
def DCH.FS_LEAD_lead_ns : Fld := ⟨0x134, 0, 32, 0, .ro, .any⟩
def DCH.POC_poc : Fld := ⟨0x138, 0, 32, 0, .ro, .any⟩
def DCH.STREAM_valid : Fld := ⟨0x13C, 31, 1, 0, .ro, .any⟩
def DCH.STREAM_profile_idc : Fld := ⟨0x13C, 24, 6, 0, .ro, .any⟩
def DCH.STREAM_level_idc : Fld := ⟨0x13C, 16, 8, 0, .ro, .any⟩
def DCH.STREAM_tier : Fld := ⟨0x13C, 15, 1, 0, .ro, .any⟩
def DCH.STREAM_chroma : Fld := ⟨0x13C, 12, 2, 0, .ro, .any⟩
def DCH.STREAM_bit_depth : Fld := ⟨0x13C, 8, 4, 0, .ro, .any⟩
def DCH.STOP0_cause : Fld := ⟨0x140, 24, 8, 0, .ro, .any⟩
def DCH.STOP0_nal_type : Fld := ⟨0x140, 16, 6, 0, .ro, .any⟩
def DCH.STOP1_poc : Fld := ⟨0x144, 0, 32, 0, .ro, .any⟩
def DCH.STOP2_offset : Fld := ⟨0x148, 0, 32, 0, .ro, .any⟩
def DCH.SHELF_SEL_slot : Fld := ⟨0x14C, 0, 5, 0, .rw, .between 0 20⟩
def DCH.SHELF_ENT_mark : Fld := ⟨0x150, 30, 2, 0, .ro, .any⟩
def DCH.SHELF_ENT_awaiting_output : Fld := ⟨0x150, 29, 1, 0, .ro, .any⟩
def DCH.SHELF_ENT_held : Fld := ⟨0x150, 28, 1, 0, .ro, .any⟩
def DCH.SHELF_ENT_concealed : Fld := ⟨0x150, 27, 1, 0, .ro, .any⟩
def DCH.SHELF_ENT_poc : Fld := ⟨0x150, 0, 24, 0, .ro, .any⟩
def DCH.MAP_PIC_picture : Fld := ⟨0x154, 0, 32, 0, .rw, .any⟩
def DCH.MAP_IDX_entry : Fld := ⟨0x158, 0, 10, 0, .rw, .any⟩
def DCH.MAP_ENT_entry : Fld := ⟨0x15C, 0, 64, 0, .ro, .any⟩
def DCH.C_pics_decoded : Fld := ⟨0x500, 0, 64, 0, .ro, .any⟩
def DCH.C_pics_tainted : Fld := ⟨0x508, 0, 32, 0, .ro, .any⟩
def DCH.C_syntax_err : Fld := ⟨0x50C, 0, 32, 0, .ro, .any⟩
def DCH.C_nal_incomplete : Fld := ⟨0x510, 0, 32, 0, .ro, .any⟩
def DCH.C_missing_slice : Fld := ⟨0x514, 0, 32, 0, .ro, .any⟩
def DCH.C_missing_ref : Fld := ⟨0x518, 0, 32, 0, .ro, .any⟩
def DCH.C_unsupported : Fld := ⟨0x51C, 0, 32, 0, .ro, .any⟩
def DCH.C_fmt_mismatch : Fld := ⟨0x520, 0, 32, 0, .ro, .any⟩
def DCH.C_hash_mm : Fld := ⟨0x524, 0, 32, 0, .ro, .any⟩
def DCH.C_pre_rap : Fld := ⟨0x528, 0, 32, 0, .ro, .any⟩
def DCH.C_ts_disc : Fld := ⟨0x52C, 0, 32, 0, .ro, .any⟩
def DCH.ST_src_lost : Fld := ⟨0x00C, 0, 1, 0, .ro, .any⟩
def DCH.ST_leg_a_up : Fld := ⟨0x00C, 1, 1, 0, .ro, .any⟩
def DCH.ST_leg_b_up : Fld := ⟨0x00C, 2, 1, 0, .ro, .any⟩
def DCH.ST_holdover : Fld := ⟨0x00C, 3, 1, 0, .ro, .any⟩
def DCH.ST_synced : Fld := ⟨0x00C, 4, 1, 0, .ro, .any⟩
def DCH.ST_concealing : Fld := ⟨0x00C, 5, 1, 0, .ro, .any⟩
def DCH.ST_strict_active : Fld := ⟨0x00C, 7, 1, 0, .ro, .any⟩

def DCH.rows0 : List Fld :=
  [DCH.FORM_form, DCH.FORM_codec, DCH.FORM_pt, DCH.FORM_video_pid, DCH.FMT_interlaced, DCH.FMT_sampling,
   DCH.FMT_depth, DCH.FMT_rate, DCH.DIM_height, DCH.DIM_width, DCH.ALLOC_n_cores, DCH.ALLOC_core, DCH.BUF_dpb,
   DCH.BUF_hold, DCH.BUF_cpb_mib, DCH.MODE_hash_en, DCH.MODE_mode, DCH.MERGE_leg_mode, DCH.MERGE_window_us,
   DCH.LEGMON_leg_timeout_ms, DCH.FS_PHASE_phase_ns, DCH.FS_GUARD_hyst_us, DCH.FS_GUARD_guard_us, DCH.LOSS_policy,
   DCH.LOSS_rejoin_pics, DCH.LOSS_loss_pics, DCH.RATE_max_mbps, DCH.PICNUM_picture, DCH.FS_LEAD_lead_ns, DCH.POC_poc,
   DCH.STREAM_valid, DCH.STREAM_profile_idc, DCH.STREAM_level_idc, DCH.STREAM_tier, DCH.STREAM_chroma,
   DCH.STREAM_bit_depth, DCH.STOP0_cause, DCH.STOP0_nal_type, DCH.STOP1_poc, DCH.STOP2_offset]
def DCH.rows1 : List Fld :=
  [DCH.SHELF_SEL_slot, DCH.SHELF_ENT_mark, DCH.SHELF_ENT_awaiting_output, DCH.SHELF_ENT_held, DCH.SHELF_ENT_concealed,
   DCH.SHELF_ENT_poc, DCH.MAP_PIC_picture, DCH.MAP_IDX_entry, DCH.MAP_ENT_entry, DCH.C_pics_decoded, DCH.C_pics_tainted,
   DCH.C_syntax_err, DCH.C_nal_incomplete, DCH.C_missing_slice, DCH.C_missing_ref, DCH.C_unsupported, DCH.C_fmt_mismatch,
   DCH.C_hash_mm, DCH.C_pre_rap, DCH.C_ts_disc, DCH.ST_src_lost, DCH.ST_leg_a_up, DCH.ST_leg_b_up, DCH.ST_holdover,
   DCH.ST_synced, DCH.ST_concealing, DCH.ST_strict_active]

/-- every field of the DCH block registers. -/
def DCH.rows : List Fld := DCH.rows0 ++ DCH.rows1 ++ ([0x200, 0x240].flatMap MATCH.rows) ++ FCNT.rows 0x400 ++ SYNC.rows

/-! ## SND (R231) -/

def SND.SRC_src_kind : Fld := ⟨0x100, 30, 2, 0, .rwc, .between 0 1⟩
def SND.SRC_src : Fld := ⟨0x100, 16, 6, 0, .rwc, .any⟩
def SND.SRC_unavail_policy : Fld := ⟨0x100, 0, 2, 1, .rwc, .between 0 1⟩
def SND.TIMING_linear : Fld := ⟨0x104, 31, 1, 0, .rwc, .any⟩
def SND.TRO_tro_ns : Fld := ⟨0x108, 0, 32, 0, .rwc, .any⟩
def SND.PKT_payload_max : Fld := ⟨0x10C, 16, 16, 0x4B0, .rwc, .between 400 8800⟩
def SND.PKT_pt : Fld := ⟨0x10C, 0, 7, 96, .rwc, .any⟩
def SND.SSRC_ssrc : Fld := ⟨0x110, 0, 32, 0, .rwc, .any⟩
def SND.SEQ_seq_init : Fld := ⟨0x114, 0, 32, 0, .rwc, .any⟩
def SND.TS_OFFSET_offset : Fld := ⟨0x118, 0, 32, 0, .rwc, .any⟩
def SND.LEG_STALL_us : Fld := ⟨0x124, 0, 16, 100, .rwc, .between 10 10000⟩
def SND.RATE_mbps : Fld := ⟨0x11C, 0, 18, 0, .ro, .any⟩
def SND.PICS_pictures : Fld := ⟨0x200, 0, 64, 0, .ro, .any⟩
def SND.PKT_A_packets : Fld := ⟨0x208, 0, 64, 0, .ro, .any⟩
def SND.PKT_B_packets : Fld := ⟨0x210, 0, 64, 0, .ro, .any⟩
def SND.SUBST_pictures : Fld := ⟨0x218, 0, 32, 0, .ro, .any⟩
def SND.LEG_DROP_A_packets : Fld := ⟨0x21C, 0, 32, 0, .ro, .any⟩
def SND.LEG_DROP_B_packets : Fld := ⟨0x220, 0, 32, 0, .ro, .any⟩
def SND.ST_src_unavail : Fld := ⟨0x00C, 0, 1, 0, .ro, .any⟩

def SND.rows0 : List Fld :=
  [SND.SRC_src_kind, SND.SRC_src, SND.SRC_unavail_policy, SND.TIMING_linear, SND.TRO_tro_ns, SND.PKT_payload_max,
   SND.PKT_pt, SND.SSRC_ssrc, SND.SEQ_seq_init, SND.TS_OFFSET_offset, SND.LEG_STALL_us, SND.RATE_mbps, SND.PICS_pictures,
   SND.PKT_A_packets, SND.PKT_B_packets, SND.SUBST_pictures, SND.LEG_DROP_A_packets, SND.LEG_DROP_B_packets,
   SND.ST_src_unavail]

/-- every field of the SND block registers. -/
def SND.rows : List Fld := SND.rows0 ++ ([0x180, 0x1C0].flatMap OLEG.rows)

/-! ## TWN (R267, R269) -/

def TWN.CFG_link : Fld := ⟨0x100, 28, 2, 0, .rwc, .any⟩
def TWN.CFG_claim : Fld := ⟨0x100, 16, 8, 0, .rwc, .any⟩
def TWN.CFG_join_idr : Fld := ⟨0x100, 0, 1, 0, .rwc, .any⟩
def TWN.CHANS_chans : Fld := ⟨0x104, 0, 32, 0, .rwc, .any⟩
def TWN.DEAD_dead_us : Fld := ⟨0x108, 0, 14, 200, .rwc, .between 100 10000⟩
def TWN.TIMING_lockstep_us : Fld := ⟨0x10C, 24, 8, 50, .rwc, .between 10 255⟩
def TWN.TIMING_hb_us : Fld := ⟨0x10C, 8, 8, 10, .rwc, .between 2 100⟩
def TWN.TIMING_ack_us : Fld := ⟨0x10C, 0, 8, 10, .rwc, .between 2 20⟩
def TWN.CMD_yield : Fld := ⟨0x110, 31, 1, 0, .wo, .any⟩
def TWN.CMD_handover : Fld := ⟨0x110, 30, 1, 0, .wo, .any⟩
def TWN.CMD_abort : Fld := ⟨0x110, 29, 1, 0, .wo, .any⟩
def TWN.YIELD_AT_lead_us : Fld := ⟨0x114, 0, 24, 0x3E8, .rw, .between 100 16000000⟩
def TWN.ROLE_partner_valid : Fld := ⟨0x118, 31, 1, 0, .ro, .any⟩
def TWN.ROLE_partner_epoch : Fld := ⟨0x118, 16, 6, 0, .ro, .any⟩
def TWN.ROLE_partner_claim : Fld := ⟨0x118, 8, 8, 0, .ro, .any⟩
def TWN.ROLE_partner_role : Fld := ⟨0x118, 2, 2, 0, .ro, .any⟩
def TWN.ROLE_role : Fld := ⟨0x118, 0, 2, 0, .ro, .any⟩
def TWN.EPOCH_epoch : Fld := ⟨0x11C, 0, 32, 0, .ro, .any⟩
def TWN.PARTNER_FW_version : Fld := ⟨0x120, 0, 32, 0, .ro, .any⟩
def TWN.JOINED_chans : Fld := ⟨0x124, 0, 32, 0, .ro, .any⟩
def TWN.WAITING_chans : Fld := ⟨0x128, 0, 32, 0, .ro, .any⟩
def TWN.SETTLING_chans : Fld := ⟨0x12C, 0, 32, 0, .ro, .any⟩
def TWN.AGE_claim_age_us : Fld := ⟨0x130, 16, 16, 0xFFFF, .ro, .any⟩
def TWN.AGE_hb_age_us : Fld := ⟨0x130, 0, 16, 0xFFFF, .ro, .any⟩
def TWN.C_rec_tx : Fld := ⟨0x180, 0, 32, 0, .ro, .any⟩
def TWN.C_rec_rx : Fld := ⟨0x184, 0, 32, 0, .ro, .any⟩
def TWN.C_ack_to : Fld := ⟨0x188, 0, 32, 0, .ro, .any⟩
def TWN.C_chk_to : Fld := ⟨0x18C, 0, 32, 0, .ro, .any⟩
def TWN.C_diverge : Fld := ⟨0x190, 0, 32, 0, .ro, .any⟩
def TWN.C_patch_req : Fld := ⟨0x194, 0, 32, 0, .ro, .any⟩
def TWN.C_patch_rx : Fld := ⟨0x198, 0, 32, 0, .ro, .any⟩
def TWN.C_patch_none : Fld := ⟨0x19C, 0, 32, 0, .ro, .any⟩
def TWN.C_patch_late : Fld := ⟨0x1A0, 0, 32, 0, .ro, .any⟩
def TWN.C_promote : Fld := ⟨0x1A4, 0, 32, 0, .ro, .any⟩
def TWN.C_joins : Fld := ⟨0x1A8, 0, 32, 0, .ro, .any⟩
def TWN.C_join_fail : Fld := ⟨0x1AC, 0, 32, 0, .ro, .any⟩
def TWN.C_claim_bad : Fld := ⟨0x1B0, 0, 32, 0, .ro, .any⟩
def TWN.C_claim_fault : Fld := ⟨0x1B4, 0, 32, 0, .ro, .any⟩
def TWN.C_both_lead : Fld := ⟨0x1B8, 0, 32, 0, .ro, .any⟩
def TWN.C_yields : Fld := ⟨0x1BC, 0, 32, 0, .ro, .any⟩
def TWN.ST_link_up : Fld := ⟨0x00C, 0, 1, 0, .ro, .any⟩
def TWN.ST_solo : Fld := ⟨0x00C, 1, 1, 0, .ro, .any⟩
def TWN.ST_doubt : Fld := ⟨0x00C, 2, 1, 0, .ro, .any⟩
def TWN.ST_fw_match : Fld := ⟨0x00C, 5, 1, 0, .ro, .any⟩
def TWN.ST_claim_conflict : Fld := ⟨0x00C, 6, 1, 0, .ro, .any⟩
def TWN.ST_handover_pending : Fld := ⟨0x00C, 7, 1, 0, .ro, .any⟩

def TWN.rows0 : List Fld :=
  [TWN.CFG_link, TWN.CFG_claim, TWN.CFG_join_idr, TWN.CHANS_chans, TWN.DEAD_dead_us, TWN.TIMING_lockstep_us,
   TWN.TIMING_hb_us, TWN.TIMING_ack_us, TWN.CMD_yield, TWN.CMD_handover, TWN.CMD_abort, TWN.YIELD_AT_lead_us,
   TWN.ROLE_partner_valid, TWN.ROLE_partner_epoch, TWN.ROLE_partner_claim, TWN.ROLE_partner_role, TWN.ROLE_role,
   TWN.EPOCH_epoch, TWN.PARTNER_FW_version, TWN.JOINED_chans, TWN.WAITING_chans, TWN.SETTLING_chans,
   TWN.AGE_claim_age_us, TWN.AGE_hb_age_us, TWN.C_rec_tx, TWN.C_rec_rx, TWN.C_ack_to, TWN.C_chk_to, TWN.C_diverge,
   TWN.C_patch_req, TWN.C_patch_rx, TWN.C_patch_none, TWN.C_patch_late, TWN.C_promote, TWN.C_joins, TWN.C_join_fail,
   TWN.C_claim_bad, TWN.C_claim_fault, TWN.C_both_lead, TWN.C_yields]
def TWN.rows1 : List Fld :=
  [TWN.ST_link_up, TWN.ST_solo, TWN.ST_doubt, TWN.ST_fw_match, TWN.ST_claim_conflict, TWN.ST_handover_pending]

/-- every field of the TWN block registers. -/
def TWN.rows : List Fld := TWN.rows0 ++ TWN.rows1

/-! ## TIM (R289, R290) -/

def TIM.PTP_CFG_sel_mode : Fld := ⟨0x100, 16, 2, 0, .rwc, .any⟩
def TIM.PTP_CFG_en_b : Fld := ⟨0x100, 13, 1, 1, .rwc, .any⟩
def TIM.PTP_CFG_en_a : Fld := ⟨0x100, 12, 1, 1, .rwc, .any⟩
def TIM.PTP_CFG_delay_p2p : Fld := ⟨0x100, 10, 1, 0, .rwc, .any⟩
def TIM.PTP_CFG_transport : Fld := ⟨0x100, 8, 2, 0, .rwc, .between 0 2⟩
def TIM.PTP_CFG_domain : Fld := ⟨0x100, 0, 8, 127, .rwc, .between 0 127⟩
def TIM.PTP_VLAN_a_vlan_en : Fld := ⟨0x104, 28, 1, 0, .rwc, .any⟩
def TIM.PTP_VLAN_a_vid : Fld := ⟨0x104, 16, 12, 0, .rwc, .any⟩
def TIM.PTP_VLAN_b_vlan_en : Fld := ⟨0x104, 12, 1, 0, .rwc, .any⟩
def TIM.PTP_VLAN_b_vid : Fld := ⟨0x104, 0, 12, 0, .rwc, .any⟩
def TIM.SERVO_tau_s : Fld := ⟨0x108, 16, 10, 16, .rwc, .between 1 1000⟩
def TIM.SERVO_slew_ppb : Fld := ⟨0x108, 0, 14, 0x1388, .rwc, .between 100 10000⟩
def TIM.LOCK_lock_ns : Fld := ⟨0x10C, 16, 16, 0x3E8, .rwc, .any⟩
def TIM.LOCK_lock_count : Fld := ⟨0x10C, 0, 8, 16, .rwc, .any⟩
def TIM.GUARD_guard_ns : Fld := ⟨0x110, 16, 16, 0x1F4, .rwc, .between 50 65535⟩
def TIM.GUARD_hold_s : Fld := ⟨0x110, 8, 8, 8, .rwc, .between 1 255⟩
def TIM.GUARD_jump_count : Fld := ⟨0x110, 0, 4, 4, .rwc, .between 1 15⟩
def TIM.CROSS_cross_ns : Fld := ⟨0x114, 16, 16, 0x3E8, .rwc, .any⟩
def TIM.CROSS_cross_count : Fld := ⟨0x114, 0, 8, 8, .rwc, .any⟩
def TIM.STEP_CFG_alarm_us : Fld := ⟨0x118, 16, 16, 0x3E8, .rwc, .any⟩
def TIM.STEP_CFG_grant_ms : Fld := ⟨0x118, 0, 16, 0x3E8, .rwc, .any⟩
def TIM.CMD_step_grant : Fld := ⟨0x11C, 31, 1, 0, .wo, .any⟩
def TIM.CMD_revert : Fld := ⟨0x11C, 30, 1, 0, .wo, .any⟩
def TIM.NOW_NS_ns : Fld := ⟨0x120, 0, 30, 0, .ro, .any⟩
def TIM.NOW_SEC_LO_sec : Fld := ⟨0x124, 0, 32, 0, .ro, .any⟩
def TIM.NOW_SEC_HI_sec : Fld := ⟨0x128, 0, 16, 0, .ro, .any⟩
def TIM.NOW_FRAC_frac : Fld := ⟨0x12C, 0, 32, 0, .ro, .any⟩
def TIM.RATE_adj : Fld := ⟨0x130, 0, 32, 0, .ro, .any⟩
def TIM.OFFSET_ns : Fld := ⟨0x134, 0, 32, 0, .ro, .any⟩
def TIM.UTC_valid : Fld := ⟨0x138, 16, 1, 0, .ro, .any⟩
def TIM.UTC_offset_s : Fld := ⟨0x138, 0, 16, 0, .ro, .any⟩
def TIM.STEP_SEC_sec : Fld := ⟨0x13C, 0, 32, 0, .ro, .any⟩
def TIM.STEP_NS_ns : Fld := ⟨0x140, 0, 31, 0, .ro, .any⟩
def TIM.STEP_AT_time_us : Fld := ⟨0x144, 0, 32, 0, .ro, .any⟩
def TIM.CAP_OVF (n : Nat) : Fld := ⟨0x240, 8 * n, 8, 0, .ro, .any⟩
def TIM.PORT_offset_ns (p : Nat) : Fld := ⟨0x180 + 0x40 * p, 0, 32, 0, .ro, .any⟩
def TIM.PORT_mpd_ns (p : Nat) : Fld := ⟨0x184 + 0x40 * p, 0, 32, 0, .ro, .any⟩
def TIM.PORT_gm_id (p : Nat) : Fld := ⟨0x188 + 0x40 * p, 0, 64, 0, .ro, .any⟩
def TIM.PORT_priority1 (p : Nat) : Fld := ⟨0x190 + 0x40 * p, 24, 8, 0, .ro, .any⟩
def TIM.PORT_clock_class (p : Nat) : Fld := ⟨0x190 + 0x40 * p, 16, 8, 0, .ro, .any⟩
def TIM.PORT_steps_removed (p : Nat) : Fld := ⟨0x190 + 0x40 * p, 0, 16, 0, .ro, .any⟩
def TIM.PORT_sync_rx (p : Nat) : Fld := ⟨0x194 + 0x40 * p, 0, 32, 0, .ro, .any⟩
def TIM.PORT_delay_tx (p : Nat) : Fld := ⟨0x198 + 0x40 * p, 0, 32, 0, .ro, .any⟩
def TIM.PORT_ann_rx (p : Nat) : Fld := ⟨0x19C + 0x40 * p, 0, 32, 0, .ro, .any⟩
def TIM.PORT_jumps (p : Nat) : Fld := ⟨0x1A0 + 0x40 * p, 0, 32, 0, .ro, .any⟩
def TIM.PORT_guard_left_ms (p : Nat) : Fld := ⟨0x1A4 + 0x40 * p, 0, 16, 0, .ro, .any⟩
def TIM.PORT_txq_hwm (p : Nat) : Fld := ⟨0x1A8 + 0x40 * p, 8, 7, 0, .ro, .any⟩
def TIM.PORT_txq_depth (p : Nat) : Fld := ⟨0x1A8 + 0x40 * p, 0, 7, 0, .ro, .any⟩
def TIM.PORT_txq_ovf (p : Nat) : Fld := ⟨0x1AC + 0x40 * p, 0, 32, 0, .ro, .any⟩
def TIM.CAP_count (n : Nat) : Fld := ⟨0x200 + 0x10 * n, 16, 5, 0, .ro, .any⟩
def TIM.CAP_edge (n : Nat) : Fld := ⟨0x200 + 0x10 * n, 0, 2, 0, .rw, .any⟩
def TIM.CAP_valid (n : Nat) : Fld := ⟨0x204 + 0x10 * n, 31, 1, 0, .ro, .any⟩
def TIM.CAP_rising (n : Nat) : Fld := ⟨0x204 + 0x10 * n, 30, 1, 0, .ro, .any⟩
def TIM.CAP_ns (n : Nat) : Fld := ⟨0x204 + 0x10 * n, 0, 30, 0, .ro, .any⟩
def TIM.CAP_sec (n : Nat) : Fld := ⟨0x208 + 0x10 * n, 0, 32, 0, .ro, .any⟩
def TIM.CAP_sec_hi (n : Nat) : Fld := ⟨0x20C + 0x10 * n, 16, 16, 0, .ro, .any⟩
def TIM.CAP_sub (n : Nat) : Fld := ⟨0x20C + 0x10 * n, 0, 3, 0, .ro, .any⟩
def TIM.PLS_en (n : Nat) : Fld := ⟨0x280 + 0x10 * n, 31, 1, 0, .rwc, .any⟩
def TIM.PLS_mode (n : Nat) : Fld := ⟨0x280 + 0x10 * n, 28, 2, 0, .rwc, .between 0 1⟩
/-- code 3, of which no rule says anything, is refused at a commit. [DESIGN CHOICE log 8] -/
def TIM.PLS_gate (n : Nat) : Fld := ⟨0x280 + 0x10 * n, 24, 2, 2, .rwc, .between 0 2⟩
def TIM.PLS_polarity (n : Nat) : Fld := ⟨0x280 + 0x10 * n, 20, 1, 0, .rwc, .any⟩
def TIM.PLS_fclk (n : Nat) : Fld := ⟨0x280 + 0x10 * n, 16, 2, 0, .rwc, .any⟩
def TIM.PLS_div (n : Nat) : Fld := ⟨0x280 + 0x10 * n, 0, 8, 1, .rwc, .between 1 255⟩
def TIM.PLS_width_ns (n : Nat) : Fld := ⟨0x284 + 0x10 * n, 0, 30, 0x989680, .rwc, .any⟩
def TIM.PLS_phase_ns (n : Nat) : Fld := ⟨0x288 + 0x10 * n, 0, 32, 0, .rwc, .any⟩
def TIM.FCLK_rate (f : Nat) : Fld := ⟨0x2C0 + 8 * f, 16, 5, 7, .rwc, .between 1 11⟩
def TIM.FCLK_phase_ns (f : Nat) : Fld := ⟨0x2C4 + 8 * f, 0, 32, 0, .rwc, .any⟩
def TIM.FCLK_picture (f : Nat) : Fld := ⟨0x2E0 + 4 * f, 0, 32, 0, .ro, .any⟩
def TIM.ST_state : Fld := ⟨0x00C, 0, 3, 0, .ro, .any⟩
def TIM.ST_first_lock : Fld := ⟨0x00C, 3, 1, 0, .ro, .any⟩
def TIM.ST_sel_port : Fld := ⟨0x00C, 4, 1, 0, .ro, .any⟩
def TIM.ST_guard_a : Fld := ⟨0x00C, 7, 1, 0, .ro, .any⟩
def TIM.ST_guard_b : Fld := ⟨0x00C, 8, 1, 0, .ro, .any⟩
def TIM.ST_freq_hold : Fld := ⟨0x00C, 9, 1, 0, .ro, .any⟩
def TIM.ST_cross_ok : Fld := ⟨0x00C, 10, 1, 1, .ro, .any⟩
def TIM.ST_grant_armed : Fld := ⟨0x00C, 11, 1, 0, .ro, .any⟩

def TIM.rows0 : List Fld :=
  [TIM.PTP_CFG_sel_mode, TIM.PTP_CFG_en_b, TIM.PTP_CFG_en_a, TIM.PTP_CFG_delay_p2p, TIM.PTP_CFG_transport,
   TIM.PTP_CFG_domain, TIM.PTP_VLAN_a_vlan_en, TIM.PTP_VLAN_a_vid, TIM.PTP_VLAN_b_vlan_en, TIM.PTP_VLAN_b_vid,
   TIM.SERVO_tau_s, TIM.SERVO_slew_ppb, TIM.LOCK_lock_ns, TIM.LOCK_lock_count, TIM.GUARD_guard_ns, TIM.GUARD_hold_s,
   TIM.GUARD_jump_count, TIM.CROSS_cross_ns, TIM.CROSS_cross_count, TIM.STEP_CFG_alarm_us, TIM.STEP_CFG_grant_ms,
   TIM.CMD_step_grant, TIM.CMD_revert, TIM.NOW_NS_ns, TIM.NOW_SEC_LO_sec, TIM.NOW_SEC_HI_sec, TIM.NOW_FRAC_frac,
   TIM.RATE_adj, TIM.OFFSET_ns, TIM.UTC_valid, TIM.UTC_offset_s, TIM.STEP_SEC_sec, TIM.STEP_NS_ns, TIM.STEP_AT_time_us,
   TIM.CAP_OVF 0, TIM.CAP_OVF 1, TIM.CAP_OVF 2, TIM.CAP_OVF 3, TIM.PORT_offset_ns 0, TIM.PORT_offset_ns 1]
def TIM.rows1 : List Fld :=
  [TIM.PORT_mpd_ns 0, TIM.PORT_mpd_ns 1, TIM.PORT_gm_id 0, TIM.PORT_gm_id 1, TIM.PORT_priority1 0,
   TIM.PORT_priority1 1, TIM.PORT_clock_class 0, TIM.PORT_clock_class 1, TIM.PORT_steps_removed 0,
   TIM.PORT_steps_removed 1, TIM.PORT_sync_rx 0, TIM.PORT_sync_rx 1, TIM.PORT_delay_tx 0, TIM.PORT_delay_tx 1,
   TIM.PORT_ann_rx 0, TIM.PORT_ann_rx 1, TIM.PORT_jumps 0, TIM.PORT_jumps 1, TIM.PORT_guard_left_ms 0,
   TIM.PORT_guard_left_ms 1, TIM.PORT_txq_hwm 0, TIM.PORT_txq_hwm 1, TIM.PORT_txq_depth 0, TIM.PORT_txq_depth 1,
   TIM.PORT_txq_ovf 0, TIM.PORT_txq_ovf 1, TIM.CAP_count 0, TIM.CAP_count 1, TIM.CAP_count 2, TIM.CAP_count 3,
   TIM.CAP_edge 0, TIM.CAP_edge 1, TIM.CAP_edge 2, TIM.CAP_edge 3, TIM.CAP_valid 0, TIM.CAP_valid 1, TIM.CAP_valid 2,
   TIM.CAP_valid 3, TIM.CAP_rising 0, TIM.CAP_rising 1]
def TIM.rows2 : List Fld :=
  [TIM.CAP_rising 2, TIM.CAP_rising 3, TIM.CAP_ns 0, TIM.CAP_ns 1, TIM.CAP_ns 2, TIM.CAP_ns 3, TIM.CAP_sec 0,
   TIM.CAP_sec 1, TIM.CAP_sec 2, TIM.CAP_sec 3, TIM.CAP_sec_hi 0, TIM.CAP_sec_hi 1, TIM.CAP_sec_hi 2, TIM.CAP_sec_hi 3,
   TIM.CAP_sub 0, TIM.CAP_sub 1, TIM.CAP_sub 2, TIM.CAP_sub 3, TIM.PLS_en 0, TIM.PLS_en 1, TIM.PLS_mode 0,
   TIM.PLS_mode 1, TIM.PLS_gate 0, TIM.PLS_gate 1, TIM.PLS_polarity 0, TIM.PLS_polarity 1, TIM.PLS_fclk 0,
   TIM.PLS_fclk 1, TIM.PLS_div 0, TIM.PLS_div 1, TIM.PLS_width_ns 0, TIM.PLS_width_ns 1, TIM.PLS_phase_ns 0,
   TIM.PLS_phase_ns 1, TIM.FCLK_rate 0, TIM.FCLK_rate 1, TIM.FCLK_rate 2, TIM.FCLK_rate 3, TIM.FCLK_phase_ns 0,
   TIM.FCLK_phase_ns 1]
def TIM.rows3 : List Fld :=
  [TIM.FCLK_phase_ns 2, TIM.FCLK_phase_ns 3, TIM.FCLK_picture 0, TIM.FCLK_picture 1, TIM.FCLK_picture 2,
   TIM.FCLK_picture 3, TIM.ST_state, TIM.ST_first_lock, TIM.ST_sel_port, TIM.ST_guard_a, TIM.ST_guard_b,
   TIM.ST_freq_hold, TIM.ST_cross_ok, TIM.ST_grant_armed]

/-- every field of the TIM block registers. -/
def TIM.rows : List Fld := TIM.rows0 ++ TIM.rows1 ++ TIM.rows2 ++ TIM.rows3

end Sys2Proof.Machine
end

