-- ==== Sys2Proof/Machine/RegsC.lean ====
section
/-! DEFINITION. the block registers of LNE, ETH, IZL, STK, CIR, HBM, CHK, FWL, HLT and PWR: each field's offset, bits, reset value,
access code and range (R9, R511), made from the field maps of spec/. A reset the field map calls "Per …", "Stored" or
"Strap" stands here as 0 and is computed where it is read. -/

namespace Sys2Proof.Machine

/-! ## LNE (R309) -/

def LNE.CFG_precode_tx : Fld := ⟨0x100, 31, 1, 0, .rwc, .any⟩
def LNE.CFG_precode_rx : Fld := ⟨0x100, 30, 1, 0, .rwc, .any⟩
def LNE.CFG_tx_invert : Fld := ⟨0x100, 29, 1, 0, .rwc, .any⟩
def LNE.CFG_rx_invert : Fld := ⟨0x100, 28, 1, 0, .rwc, .any⟩
def LNE.CFG_kind : Fld := ⟨0x100, 24, 2, 0, .ro, .any⟩
def LNE.CFG_owner_lane : Fld := ⟨0x100, 16, 3, 0, .ro, .any⟩
def LNE.PIN_tx_fir : Fld := ⟨0x104, 3, 1, 0, .rwc, .any⟩
def LNE.PIN_ctle : Fld := ⟨0x104, 2, 1, 0, .rwc, .any⟩
def LNE.PIN_ffe : Fld := ⟨0x104, 1, 1, 0, .rwc, .any⟩
def LNE.PIN_dfe : Fld := ⟨0x104, 0, 1, 0, .rwc, .any⟩
def LNE.TXFIR_cm3 : Fld := ⟨0x108, 26, 6, 0, .ro, .any⟩
def LNE.TXFIR_cm2 : Fld := ⟨0x108, 20, 6, 0, .ro, .any⟩
def LNE.TXFIR_cm1 : Fld := ⟨0x108, 14, 6, 56, .ro, .any⟩
def LNE.TXFIR_c0 : Fld := ⟨0x108, 7, 7, 56, .ro, .any⟩
def LNE.TXFIR_c1 : Fld := ⟨0x108, 0, 6, 0, .ro, .any⟩
def LNE.TXFIR_PIN_cm3 : Fld := ⟨0x10C, 26, 6, 0, .rwc, .any⟩
def LNE.TXFIR_PIN_cm2 : Fld := ⟨0x10C, 20, 6, 0, .rwc, .any⟩
def LNE.TXFIR_PIN_cm1 : Fld := ⟨0x10C, 14, 6, 56, .rwc, .any⟩
def LNE.TXFIR_PIN_c0 : Fld := ⟨0x10C, 7, 7, 56, .rwc, .any⟩
def LNE.TXFIR_PIN_c1 : Fld := ⟨0x10C, 0, 6, 0, .rwc, .any⟩
def LNE.RXEQ_ctle : Fld := ⟨0x110, 8, 5, 0, .ro, .any⟩
def LNE.RXEQ_dfe : Fld := ⟨0x110, 0, 8, 0, .ro, .any⟩
def LNE.RXEQ_PIN_ctle : Fld := ⟨0x114, 8, 5, 16, .rwc, .any⟩
def LNE.RXEQ_PIN_dfe : Fld := ⟨0x114, 0, 8, 0, .rwc, .any⟩
def LNE.FFE_SEL_tap : Fld := ⟨0x118, 0, 4, 4, .rw, .any⟩
def LNE.FFE_TAP_applied : Fld := ⟨0x11C, 16, 16, 0, .ro, .any⟩
def LNE.FFE_TAP_pin : Fld := ⟨0x11C, 0, 16, 0, .rwc, .any⟩
def LNE.THRESH_lol_fom : Fld := ⟨0x120, 16, 8, 0, .rwc, .any⟩
def LNE.THRESH_alarm_fom : Fld := ⟨0x120, 8, 8, 0, .rwc, .any⟩
def LNE.THRESH_warn_fom : Fld := ⟨0x120, 0, 8, 0, .rwc, .any⟩
def LNE.FOM_snr : Fld := ⟨0x124, 24, 8, 0, .ro, .any⟩
def LNE.FOM_snr_min : Fld := ⟨0x124, 16, 8, 255, .ro, .any⟩
def LNE.FOM_ber_est : Fld := ⟨0x124, 8, 8, 0, .ro, .any⟩
def LNE.CAL_cal_en : Fld := ⟨0x128, 31, 1, 1, .rwc, .any⟩
def LNE.CAL_spare : Fld := ⟨0x128, 0, 7, 64, .ro, .any⟩
def LNE.CMD_retrain : Fld := ⟨0x12C, 31, 1, 0, .wo, .any⟩
def LNE.PRBS_gen_en : Fld := ⟨0x130, 31, 1, 0, .rw, .any⟩
def LNE.PRBS_chk_en : Fld := ⟨0x130, 30, 1, 0, .rw, .any⟩
def LNE.PRBS_pattern : Fld := ⟨0x130, 28, 2, 1, .rw, .between 0 2⟩
def LNE.PRBS_ERR_errors : Fld := ⟨0x134, 0, 64, 0, .ro, .any⟩
def LNE.PRBS_SYM_symbols : Fld := ⟨0x13C, 0, 64, 0, .ro, .any⟩
def LNE.LOL_COUNT_count : Fld := ⟨0x144, 0, 32, 0, .ro, .any⟩
def LNE.RETRAINS_count : Fld := ⟨0x148, 0, 32, 0, .ro, .any⟩
def LNE.CAL_COUNT_skipped : Fld := ⟨0x14C, 16, 16, 0, .ro, .any⟩
def LNE.CAL_COUNT_swaps : Fld := ⟨0x14C, 0, 16, 0, .ro, .any⟩
def LNE.ST_signal : Fld := ⟨0x00C, 0, 1, 0, .ro, .any⟩
def LNE.ST_cdr_lock : Fld := ⟨0x00C, 1, 1, 0, .ro, .any⟩
def LNE.ST_trained : Fld := ⟨0x00C, 2, 1, 0, .ro, .any⟩
def LNE.ST_precode_tx : Fld := ⟨0x00C, 3, 1, 0, .ro, .any⟩
def LNE.ST_precode_rx : Fld := ⟨0x00C, 4, 1, 0, .ro, .any⟩
def LNE.ST_pol_corrected : Fld := ⟨0x00C, 5, 1, 0, .ro, .any⟩
def LNE.ST_reversed : Fld := ⟨0x00C, 6, 1, 0, .ro, .any⟩
def LNE.ST_fom_warn : Fld := ⟨0x00C, 8, 1, 0, .ro, .any⟩
def LNE.ST_fom_alarm : Fld := ⟨0x00C, 9, 1, 0, .ro, .any⟩
def LNE.ST_refclk_ok : Fld := ⟨0x00C, 10, 1, 1, .ro, .any⟩
def LNE.ST_in_cal : Fld := ⟨0x00C, 11, 1, 0, .ro, .any⟩
def LNE.ST_logical_lane : Fld := ⟨0x00C, 12, 2, 0, .ro, .any⟩
/-- the pinned value of FFE tap `i`, which FFE_TAP.pin shows while FFE_SEL.tap selects it (R309). It is kept beyond the
page, at an offset that no address reaches. -/
def LNE.FFE_PIN (i : Nat) : Fld := ⟨0x1000 + 4 * i, 0, 16, if i = 4 then 0x4000 else 0, .rwc, .any⟩
/-- the applied value of FFE tap `i`, kept likewise. -/
def LNE.FFE_APPLIED (i : Nat) : Fld := ⟨0x1040 + 4 * i, 0, 16, 0, .ro, .any⟩

def LNE.rows0 : List Fld :=
  [LNE.CFG_precode_tx, LNE.CFG_precode_rx, LNE.CFG_tx_invert, LNE.CFG_rx_invert, LNE.CFG_kind, LNE.CFG_owner_lane,
   LNE.PIN_tx_fir, LNE.PIN_ctle, LNE.PIN_ffe, LNE.PIN_dfe, LNE.TXFIR_cm3, LNE.TXFIR_cm2, LNE.TXFIR_cm1, LNE.TXFIR_c0,
   LNE.TXFIR_c1, LNE.TXFIR_PIN_cm3, LNE.TXFIR_PIN_cm2, LNE.TXFIR_PIN_cm1, LNE.TXFIR_PIN_c0, LNE.TXFIR_PIN_c1,
   LNE.RXEQ_ctle, LNE.RXEQ_dfe, LNE.RXEQ_PIN_ctle, LNE.RXEQ_PIN_dfe, LNE.FFE_SEL_tap, LNE.THRESH_lol_fom,
   LNE.THRESH_alarm_fom, LNE.THRESH_warn_fom, LNE.FOM_snr, LNE.FOM_snr_min, LNE.FOM_ber_est, LNE.CAL_cal_en,
   LNE.CAL_spare, LNE.CMD_retrain, LNE.PRBS_gen_en, LNE.PRBS_chk_en, LNE.PRBS_pattern, LNE.PRBS_ERR_errors,
   LNE.PRBS_SYM_symbols, LNE.LOL_COUNT_count]
def LNE.rows1 : List Fld :=
  [LNE.RETRAINS_count, LNE.CAL_COUNT_skipped, LNE.CAL_COUNT_swaps, LNE.ST_signal, LNE.ST_cdr_lock, LNE.ST_trained,
   LNE.ST_precode_tx, LNE.ST_precode_rx, LNE.ST_pol_corrected, LNE.ST_reversed, LNE.ST_fom_warn, LNE.ST_fom_alarm,
   LNE.ST_refclk_ok, LNE.ST_in_cal, LNE.ST_logical_lane]

/-- every field of the LNE block registers. -/
def LNE.rows : List Fld := LNE.rows0 ++ LNE.rows1 ++ (List.range 16).map LNE.FFE_PIN ++ (List.range 16).map LNE.FFE_APPLIED

/-! ## ETH (R330) -/

def ETH.MODE_split : Fld := ⟨0x100, 16, 2, 0, .rwc, .any⟩
def ETH.MODE_lacp : Fld := ⟨0x100, 12, 1, 0, .rwc, .any⟩
def ETH.MODE_m_speed : Fld := ⟨0x100, 8, 2, 2, .rwc, .between 0 2⟩
def ETH.MODE_m_fec : Fld := ⟨0x100, 5, 1, 1, .rwc, .any⟩
def ETH.MODE_an_en : Fld := ⟨0x100, 4, 1, 1, .rwc, .any⟩
def ETH.MODE_cr : Fld := ⟨0x100, 0, 1, 0, .rwc, .any⟩
def ETH.MAC_HI_mac : Fld := ⟨0x104, 0, 16, 0, .rwc, .any⟩
def ETH.MAC_LO_mac : Fld := ⟨0x108, 0, 32, 0, .rwc, .any⟩
def ETH.MTU_bytes : Fld := ⟨0x10C, 0, 14, 0x5F2, .rwc, .between 1522 9216⟩
def ETH.IPV4_addr : Fld := ⟨0x110, 0, 32, 0, .rwc, .any⟩
def ETH.IPV4_NET_prefix : Fld := ⟨0x114, 0, 6, 0, .rwc, .between 0 32⟩
def ETH.IPV4_GW_addr : Fld := ⟨0x118, 0, 32, 0, .rwc, .any⟩
def ETH.IPV6_addr (i : Nat) : Fld := ⟨0x120 + 4 * i, 0, 32, 0, .rwc, .any⟩
def ETH.IPV6_NET_prefix : Fld := ⟨0x130, 0, 8, 64, .rwc, .between 0 128⟩
def ETH.HOST_pcp : Fld := ⟨0x134, 13, 3, 7, .rwc, .any⟩
def ETH.HOST_vlan_en : Fld := ⟨0x134, 12, 1, 0, .rwc, .any⟩
def ETH.HOST_vid : Fld := ⟨0x134, 0, 12, 0, .rwc, .any⟩
def ETH.FC_quanta : Fld := ⟨0x138, 16, 16, 0xFFFF, .rwc, .any⟩
def ETH.FC_pfc_en : Fld := ⟨0x138, 8, 8, 0, .rwc, .any⟩
def ETH.FC_mode : Fld := ⟨0x138, 0, 2, 0, .rwc, .between 0 2⟩
def ETH.LINK_up_hold_ms : Fld := ⟨0x13C, 0, 10, 10, .rwc, .between 0 1000⟩
def ETH.TS_CORR_rx_ns : Fld := ⟨0x140, 16, 16, 0, .rwc, .any⟩
def ETH.TS_CORR_tx_ns : Fld := ⟨0x140, 0, 16, 0, .rwc, .any⟩
def ETH.MCAST_used : Fld := ⟨0x144, 0, 9, 0, .ro, .any⟩
def ETH.SUBPORTS_active : Fld := ⟨0x148, 16, 4, 0, .ro, .any⟩
def ETH.SUBPORTS_present : Fld := ⟨0x148, 8, 8, 1, .ro, .any⟩
def ETH.SUBPORTS_up : Fld := ⟨0x148, 0, 8, 0, .ro, .any⟩
def ETH.RX_frames : Fld := ⟨0x200, 0, 64, 0, .ro, .any⟩
def ETH.DELIV_frames : Fld := ⟨0x208, 0, 64, 0, .ro, .any⟩
def ETH.DROP_frames : Fld := ⟨0x210, 0, 64, 0, .ro, .any⟩
def ETH.DROP_SEL_reason : Fld := ⟨0x218, 0, 4, 1, .rw, .any⟩
def ETH.DROP_BY_REASON_frames : Fld := ⟨0x21C, 0, 32, 0, .ro, .any⟩
def ETH.INFLIGHT_frames : Fld := ⟨0x220, 0, 32, 0, .ro, .any⟩
def ETH.TX_frames : Fld := ⟨0x228, 0, 64, 0, .ro, .any⟩
def ETH.TX_BYTES_bytes : Fld := ⟨0x230, 0, 64, 0, .ro, .any⟩
def ETH.FEC_CORR_codewords : Fld := ⟨0x238, 0, 64, 0, .ro, .any⟩
def ETH.FEC_UNCORR_codewords : Fld := ⟨0x240, 0, 32, 0, .ro, .any⟩
def ETH.PAUSE_RX_frames : Fld := ⟨0x244, 0, 32, 0, .ro, .any⟩
def ETH.PAUSE_TX_frames : Fld := ⟨0x248, 0, 32, 0, .ro, .any⟩
def ETH.LINK_DOWNS_count : Fld := ⟨0x24C, 0, 32, 0, .ro, .any⟩
def ETH.PAUSE_VIOL_frames : Fld := ⟨0x250, 0, 32, 0, .ro, .any⟩
def ETH.ST_local_fault : Fld := ⟨0x00C, 2, 1, 0, .ro, .any⟩
def ETH.ST_remote_fault : Fld := ⟨0x00C, 3, 1, 0, .ro, .any⟩
def ETH.ST_an_done : Fld := ⟨0x00C, 4, 1, 0, .ro, .any⟩
def ETH.ST_rx_paused : Fld := ⟨0x00C, 5, 1, 0, .ro, .any⟩
def ETH.ST_tx_xoff : Fld := ⟨0x00C, 6, 1, 0, .ro, .any⟩
def ETH.ST_lacp_ok : Fld := ⟨0x00C, 7, 1, 0, .ro, .any⟩
def ETH.ST_m_speed_act : Fld := ⟨0x00C, 8, 2, 0, .ro, .any⟩

def ETH.rows0 : List Fld :=
  [ETH.MODE_split, ETH.MODE_lacp, ETH.MODE_m_speed, ETH.MODE_m_fec, ETH.MODE_an_en, ETH.MODE_cr, ETH.MAC_HI_mac,
   ETH.MAC_LO_mac, ETH.MTU_bytes, ETH.IPV4_addr, ETH.IPV4_NET_prefix, ETH.IPV4_GW_addr, ETH.IPV6_addr 0, ETH.IPV6_addr 1,
   ETH.IPV6_addr 2, ETH.IPV6_addr 3, ETH.IPV6_NET_prefix, ETH.HOST_pcp, ETH.HOST_vlan_en, ETH.HOST_vid, ETH.FC_quanta,
   ETH.FC_pfc_en, ETH.FC_mode, ETH.LINK_up_hold_ms, ETH.TS_CORR_rx_ns, ETH.TS_CORR_tx_ns, ETH.MCAST_used,
   ETH.SUBPORTS_active, ETH.SUBPORTS_present, ETH.SUBPORTS_up, ETH.RX_frames, ETH.DELIV_frames, ETH.DROP_frames,
   ETH.DROP_SEL_reason, ETH.DROP_BY_REASON_frames, ETH.INFLIGHT_frames, ETH.TX_frames, ETH.TX_BYTES_bytes,
   ETH.FEC_CORR_codewords, ETH.FEC_UNCORR_codewords]
def ETH.rows1 : List Fld :=
  [ETH.PAUSE_RX_frames, ETH.PAUSE_TX_frames, ETH.LINK_DOWNS_count, ETH.PAUSE_VIOL_frames, ETH.ST_local_fault,
   ETH.ST_remote_fault, ETH.ST_an_done, ETH.ST_rx_paused, ETH.ST_tx_xoff, ETH.ST_lacp_ok, ETH.ST_m_speed_act]

/-- every field of the ETH block registers. -/
def ETH.rows : List Fld := ETH.rows0 ++ ETH.rows1

/-! ## IZL (R353) -/

def IZL.CFG_member : Fld := ⟨0x100, 31, 1, 1, .rwc, .any⟩
def IZL.CFG_auto_widen : Fld := ⟨0x100, 30, 1, 1, .rwc, .any⟩
def IZL.CFG_fast_narrow : Fld := ⟨0x100, 29, 1, 1, .rwc, .any⟩
def IZL.CFG_max_width : Fld := ⟨0x100, 24, 2, 2, .rwc, .between 0 2⟩
def IZL.VL_ALLOC0_mirror : Fld := ⟨0x104, 16, 11, 0x180, .rwc, .between 32 1024⟩
def IZL.VL_ALLOC0_patch : Fld := ⟨0x104, 0, 11, 128, .rwc, .between 32 1024⟩
def IZL.VL_ALLOC1_mgmt : Fld := ⟨0x108, 16, 11, 128, .rwc, .between 32 1024⟩
def IZL.VL_ALLOC1_bulk : Fld := ⟨0x108, 0, 11, 0x180, .rwc, .between 32 1024⟩
def IZL.REPLAY_timeout_ns : Fld := ⟨0x10C, 0, 16, 0x7D0, .rwc, .between 500 65535⟩
def IZL.WIDEN_hold_ms : Fld := ⟨0x110, 0, 16, 100, .rwc, .between 1 65535⟩
def IZL.PARTNER_valid : Fld := ⟨0x114, 31, 1, 0, .ro, .any⟩
def IZL.PARTNER_member : Fld := ⟨0x114, 16, 1, 0, .ro, .any⟩
def IZL.PARTNER_link : Fld := ⟨0x114, 12, 2, 0, .ro, .any⟩
def IZL.PARTNER_device : Fld := ⟨0x114, 0, 10, 0, .ro, .any⟩
def IZL.WIDTH_rx_mask : Fld := ⟨0x118, 12, 4, 0, .ro, .any⟩
def IZL.WIDTH_tx_mask : Fld := ⟨0x118, 8, 4, 0, .ro, .any⟩
def IZL.WIDTH_rx_width : Fld := ⟨0x118, 4, 2, 0, .ro, .any⟩
def IZL.WIDTH_tx_width : Fld := ⟨0x118, 0, 2, 0, .ro, .any⟩
def IZL.EPOCH_epoch : Fld := ⟨0x11C, 0, 16, 0, .ro, .any⟩
def IZL.CREDIT_credits (v : Nat) : Fld := ⟨0x120 + 4 * v, 16, 11, 0, .ro, .any⟩
def IZL.CREDIT_held (v : Nat) : Fld := ⟨0x120 + 4 * v, 0, 11, 0, .ro, .any⟩
def IZL.FRAMES_TX_frames : Fld := ⟨0x140, 0, 64, 0, .ro, .any⟩
def IZL.FRAMES_RX_frames : Fld := ⟨0x148, 0, 64, 0, .ro, .any⟩
def IZL.CRC_ERR_frames : Fld := ⟨0x150, 0, 32, 0, .ro, .any⟩
def IZL.REPLAYS_count : Fld := ⟨0x154, 0, 32, 0, .ro, .any⟩
def IZL.REPLAY_FRAMES_frames : Fld := ⟨0x158, 0, 32, 0, .ro, .any⟩
def IZL.NARROWS_count : Fld := ⟨0x15C, 0, 32, 0, .ro, .any⟩
def IZL.WIDENS_count : Fld := ⟨0x160, 0, 32, 0, .ro, .any⟩
def IZL.LINK_DOWNS_count : Fld := ⟨0x164, 0, 32, 0, .ro, .any⟩
def IZL.MSG_LOST_count : Fld := ⟨0x168, 0, 32, 0, .ro, .any⟩
def IZL.FEC_UNCORR_codewords : Fld := ⟨0x16C, 0, 32, 0, .ro, .any⟩
def IZL.FEC_CORR_codewords : Fld := ⟨0x170, 0, 64, 0, .ro, .any⟩
def IZL.ROUTE_valid (n : Nat) : Fld := ⟨0x180 + 4 * n, 31, 1, 0, .ro, .any⟩
def IZL.ROUTE_device (n : Nat) : Fld := ⟨0x180 + 4 * n, 16, 10, 0, .ro, .any⟩
def IZL.ROUTE_link (n : Nat) : Fld := ⟨0x180 + 4 * n, 12, 2, 0, .ro, .any⟩
def IZL.ROUTE_hops (n : Nat) : Fld := ⟨0x180 + 4 * n, 8, 3, 0, .ro, .any⟩
def IZL.ST_replaying : Fld := ⟨0x00C, 2, 1, 0, .ro, .any⟩
def IZL.ST_member_ok : Fld := ⟨0x00C, 3, 1, 0, .ro, .any⟩
def IZL.ST_spare : Fld := ⟨0x00C, 4, 1, 0, .ro, .any⟩

def IZL.rows0 : List Fld :=
  [IZL.CFG_member, IZL.CFG_auto_widen, IZL.CFG_fast_narrow, IZL.CFG_max_width, IZL.VL_ALLOC0_mirror,
   IZL.VL_ALLOC0_patch, IZL.VL_ALLOC1_mgmt, IZL.VL_ALLOC1_bulk, IZL.REPLAY_timeout_ns, IZL.WIDEN_hold_ms,
   IZL.PARTNER_valid, IZL.PARTNER_member, IZL.PARTNER_link, IZL.PARTNER_device, IZL.WIDTH_rx_mask, IZL.WIDTH_tx_mask,
   IZL.WIDTH_rx_width, IZL.WIDTH_tx_width, IZL.EPOCH_epoch, IZL.CREDIT_credits 0, IZL.CREDIT_credits 1,
   IZL.CREDIT_credits 2, IZL.CREDIT_credits 3, IZL.CREDIT_held 0, IZL.CREDIT_held 1, IZL.CREDIT_held 2,
   IZL.CREDIT_held 3, IZL.FRAMES_TX_frames, IZL.FRAMES_RX_frames, IZL.CRC_ERR_frames, IZL.REPLAYS_count,
   IZL.REPLAY_FRAMES_frames, IZL.NARROWS_count, IZL.WIDENS_count, IZL.LINK_DOWNS_count, IZL.MSG_LOST_count,
   IZL.FEC_UNCORR_codewords, IZL.FEC_CORR_codewords, IZL.ROUTE_valid 0, IZL.ROUTE_valid 1]
def IZL.rows1 : List Fld :=
  [IZL.ROUTE_valid 2, IZL.ROUTE_valid 3, IZL.ROUTE_valid 4, IZL.ROUTE_valid 5, IZL.ROUTE_valid 6, IZL.ROUTE_valid 7,
   IZL.ROUTE_device 0, IZL.ROUTE_device 1, IZL.ROUTE_device 2, IZL.ROUTE_device 3, IZL.ROUTE_device 4,
   IZL.ROUTE_device 5, IZL.ROUTE_device 6, IZL.ROUTE_device 7, IZL.ROUTE_link 0, IZL.ROUTE_link 1, IZL.ROUTE_link 2,
   IZL.ROUTE_link 3, IZL.ROUTE_link 4, IZL.ROUTE_link 5, IZL.ROUTE_link 6, IZL.ROUTE_link 7, IZL.ROUTE_hops 0,
   IZL.ROUTE_hops 1, IZL.ROUTE_hops 2, IZL.ROUTE_hops 3, IZL.ROUTE_hops 4, IZL.ROUTE_hops 5, IZL.ROUTE_hops 6,
   IZL.ROUTE_hops 7, IZL.ST_replaying, IZL.ST_member_ok, IZL.ST_spare]

/-- every field of the IZL block registers. -/
def IZL.rows : List Fld := IZL.rows0 ++ IZL.rows1

/-! ## STK (R370) -/

def STK.FREE_cells : Fld := ⟨0x100, 0, 19, 0x40000, .ro, .any⟩
def STK.SHARED_cells : Fld := ⟨0x104, 0, 19, 0x40000, .ro, .any⟩
def STK.RESERVED_cells : Fld := ⟨0x108, 0, 19, 0, .ro, .any⟩
def STK.HELD_cells : Fld := ⟨0x10C, 0, 19, 0, .ro, .any⟩
def STK.UNCOMMITTED_cells : Fld := ⟨0x110, 0, 19, 0, .ro, .any⟩
def STK.FREE_LOW_cells : Fld := ⟨0x114, 0, 19, 0x40000, .ro, .any⟩
def STK.POOL_ALARM_stall_us : Fld := ⟨0x118, 16, 16, 100, .rw, .between 1 65535⟩
def STK.POOL_ALARM_low_cells : Fld := ⟨0x118, 0, 16, 0x1000, .rw, .any⟩
def STK.QSEL_queue : Fld := ⟨0x11C, 0, 10, 0, .rw, .any⟩
def STK.QCFG_enabled : Fld := ⟨0x120, 31, 1, 0, .ro, .any⟩
def STK.QCFG_min : Fld := ⟨0x120, 18, 13, 0, .rw, .between 0 8191⟩
def STK.QCFG_max : Fld := ⟨0x120, 0, 18, 0, .rw, .between 1 245752⟩
def STK.QWM_high : Fld := ⟨0x124, 16, 16, 0, .rw, .any⟩
def STK.QWM_low : Fld := ⟨0x124, 0, 16, 0, .rw, .any⟩
def STK.QMAP_prio_mask : Fld := ⟨0x128, 24, 8, 0, .rw, .any⟩
def STK.QMAP_qfc : Fld := ⟨0x128, 20, 3, 0, .rw, .between 0 4⟩
def STK.QMAP_class : Fld := ⟨0x128, 16, 4, 0, .ro, .any⟩
def STK.QMAP_min_hi : Fld := ⟨0x128, 0, 13, 0, .ro, .any⟩
def STK.QCOUNT_frozen : Fld := ⟨0x12C, 31, 1, 0, .ro, .any⟩
def STK.QCOUNT_congested : Fld := ⟨0x12C, 30, 1, 0, .ro, .any⟩
def STK.QCOUNT_cells : Fld := ⟨0x12C, 0, 18, 0, .ro, .any⟩
def STK.QPKTS_packets : Fld := ⟨0x130, 0, 18, 0, .ro, .any⟩
def STK.QPEAK_clear : Fld := ⟨0x134, 31, 1, 0, .wo, .any⟩
def STK.QPEAK_cells : Fld := ⟨0x134, 0, 18, 0, .ro, .any⟩
def STK.QDROP_frames : Fld := ⟨0x138, 0, 32, 0, .ro, .any⟩
def STK.QFC_CFG_pol : Fld := ⟨0x13C, 16, 4, 0, .rw, .any⟩
def STK.QFC_CFG_min_ns : Fld := ⟨0x13C, 0, 16, 100, .rw, .any⟩
def STK.CMD_rebuild : Fld := ⟨0x140, 31, 1, 0, .wo, .any⟩
def STK.LOST_cells : Fld := ⟨0x144, 0, 19, 0, .ro, .any⟩
def STK.ECC_CORR_count : Fld := ⟨0x148, 0, 32, 0, .ro, .any⟩
def STK.COMMITS_packets : Fld := ⟨0x150, 0, 64, 0, .ro, .any⟩
def STK.POPS_packets : Fld := ⟨0x158, 0, 64, 0, .ro, .any⟩
def STK.REWINDS_packets : Fld := ⟨0x160, 0, 32, 0, .ro, .any⟩
def STK.WSTALL_cycles (i : Nat) : Fld := ⟨0x180 + 4 * i, 0, 32, 0, .ro, .any⟩
def STK.CONG_queues (i : Nat) : Fld := ⟨0x200 + 4 * i, 0, 32, 0, .ro, .any⟩
def STK.ST_ready : Fld := ⟨0x00C, 0, 1, 0, .ro, .any⟩
def STK.ST_qfc : Fld := ⟨0x00C, 4, 4, 0, .ro, .any⟩

def STK.rows0 : List Fld :=
  [STK.FREE_cells, STK.SHARED_cells, STK.RESERVED_cells, STK.HELD_cells, STK.UNCOMMITTED_cells, STK.FREE_LOW_cells,
   STK.POOL_ALARM_stall_us, STK.POOL_ALARM_low_cells, STK.QSEL_queue, STK.QCFG_enabled, STK.QCFG_min, STK.QCFG_max,
   STK.QWM_high, STK.QWM_low, STK.QMAP_prio_mask, STK.QMAP_qfc, STK.QMAP_class, STK.QMAP_min_hi, STK.QCOUNT_frozen,
   STK.QCOUNT_congested, STK.QCOUNT_cells, STK.QPKTS_packets, STK.QPEAK_clear, STK.QPEAK_cells, STK.QDROP_frames,
   STK.QFC_CFG_pol, STK.QFC_CFG_min_ns, STK.CMD_rebuild, STK.LOST_cells, STK.ECC_CORR_count, STK.COMMITS_packets,
   STK.POPS_packets, STK.REWINDS_packets, STK.WSTALL_cycles 0, STK.WSTALL_cycles 1, STK.WSTALL_cycles 2,
   STK.WSTALL_cycles 3, STK.WSTALL_cycles 4, STK.WSTALL_cycles 5, STK.CONG_queues 0]
def STK.rows1 : List Fld :=
  [STK.CONG_queues 1, STK.CONG_queues 2, STK.CONG_queues 3, STK.CONG_queues 4, STK.CONG_queues 5, STK.CONG_queues 6,
   STK.CONG_queues 7, STK.CONG_queues 8, STK.CONG_queues 9, STK.CONG_queues 10, STK.CONG_queues 11, STK.CONG_queues 12,
   STK.CONG_queues 13, STK.CONG_queues 14, STK.CONG_queues 15, STK.CONG_queues 16, STK.CONG_queues 17,
   STK.CONG_queues 18, STK.CONG_queues 19, STK.CONG_queues 20, STK.CONG_queues 21, STK.CONG_queues 22,
   STK.CONG_queues 23, STK.CONG_queues 24, STK.CONG_queues 25, STK.CONG_queues 26, STK.CONG_queues 27,
   STK.CONG_queues 28, STK.CONG_queues 29, STK.CONG_queues 30, STK.CONG_queues 31, STK.ST_ready, STK.ST_qfc]

/-- every field of the STK block registers. -/
def STK.rows : List Fld := STK.rows0 ++ STK.rows1

/-! ## CIR (R387) -/

def CIR.CFG_age_us : Fld := ⟨0x100, 16, 16, 0x3E8, .rw, .any⟩
def CIR.CFG_run_us : Fld := ⟨0x100, 0, 16, 100, .rw, .between 1 65535⟩
def CIR.RESERVE_host_floor : Fld := ⟨0x104, 16, 13, 0x400, .rw, .any⟩
def CIR.RESERVE_fw_floor : Fld := ⟨0x104, 0, 13, 0x100, .rw, .any⟩
def CIR.FREE_slips : Fld := ⟨0x108, 0, 13, 0x1000, .ro, .any⟩
def CIR.QUEUED_slips : Fld := ⟨0x10C, 0, 13, 0, .ro, .any⟩
def CIR.READY_slips : Fld := ⟨0x110, 0, 13, 0, .ro, .any⟩
def CIR.PREFETCHED_slips : Fld := ⟨0x114, 0, 13, 0, .ro, .any⟩
def CIR.RUNNING_slips : Fld := ⟨0x118, 0, 13, 0, .ro, .any⟩
def CIR.READYC_odd (i : Nat) : Fld := ⟨0x120 + 4 * i, 16, 13, 0, .ro, .any⟩
def CIR.READYC_even (i : Nat) : Fld := ⟨0x120 + 4 * i, 0, 13, 0, .ro, .any⟩
def CIR.CORE_SEL_core : Fld := ⟨0x130, 0, 6, 0, .rw, .between 0 47⟩
def CIR.CORE_CFG_en : Fld := ⟨0x134, 31, 1, 1, .rw, .any⟩
def CIR.CORE_CFG_kill_ms : Fld := ⟨0x134, 16, 8, 10, .rw, .any⟩
def CIR.CORE_CFG_class_mask : Fld := ⟨0x134, 0, 8, 255, .rw, .any⟩
def CIR.CORE_STAT_state : Fld := ⟨0x138, 30, 2, 0, .ro, .any⟩
def CIR.CORE_STAT_run_class : Fld := ⟨0x138, 24, 3, 0, .ro, .any⟩
def CIR.CORE_STAT_pf_valid : Fld := ⟨0x138, 23, 1, 0, .ro, .any⟩
def CIR.CORE_STAT_pf_class : Fld := ⟨0x138, 20, 3, 0, .ro, .any⟩
def CIR.CORE_STAT_run_slip : Fld := ⟨0x138, 0, 12, 0, .ro, .any⟩
def CIR.HSQ_SEL_queue : Fld := ⟨0x140, 0, 4, 0, .rw, .any⟩
def CIR.HSQ_CFG_en : Fld := ⟨0x144, 31, 1, 1, .rw, .any⟩
def CIR.HSQ_CFG_class_max : Fld := ⟨0x144, 24, 3, 3, .rw, .between 0 6⟩
def CIR.HSQ_CFG_inflight_max : Fld := ⟨0x144, 16, 7, 64, .rw, .between 1 64⟩
def CIR.HSQ_CFG_depth : Fld := ⟨0x144, 0, 7, 16, .rw, .between 1 64⟩
def CIR.HSQ_STAT_stalls : Fld := ⟨0x148, 16, 16, 0, .ro, .any⟩
def CIR.HSQ_STAT_inflight : Fld := ⟨0x148, 8, 7, 0, .ro, .any⟩
def CIR.HSQ_STAT_held : Fld := ⟨0x148, 0, 7, 0, .ro, .any⟩
def CIR.CPL_SEL_queue : Fld := ⟨0x150, 0, 4, 0, .rw, .any⟩
def CIR.CPL_STAT_valid : Fld := ⟨0x154, 31, 1, 0, .ro, .any⟩
def CIR.CPL_STAT_count : Fld := ⟨0x154, 24, 7, 0, .ro, .any⟩
def CIR.CPL_STAT_status : Fld := ⟨0x154, 20, 3, 0, .ro, .any⟩
def CIR.CPL_STAT_core : Fld := ⟨0x154, 8, 6, 0, .ro, .any⟩
def CIR.CPL_STAT_result : Fld := ⟨0x154, 0, 8, 0, .ro, .any⟩
def CIR.CPL_TAG_tag : Fld := ⟨0x158, 0, 32, 0, .ro, .any⟩
def CIR.CANCEL_TAG_tag : Fld := ⟨0x160, 0, 32, 0, .rw, .any⟩
def CIR.CANCEL_go : Fld := ⟨0x164, 31, 1, 0, .wo, .any⟩
def CIR.CANCEL_queue : Fld := ⟨0x164, 0, 4, 0, .wo, .any⟩
def CIR.CANCEL_RES_queued : Fld := ⟨0x168, 24, 8, 0, .ro, .any⟩
def CIR.CANCEL_RES_ready : Fld := ⟨0x168, 16, 8, 0, .ro, .any⟩
def CIR.CANCEL_RES_prefetched : Fld := ⟨0x168, 8, 8, 0, .ro, .any⟩
def CIR.CANCEL_RES_running : Fld := ⟨0x168, 0, 8, 0, .ro, .any⟩
def CIR.DISPATCHED_slips : Fld := ⟨0x180, 0, 64, 0, .ro, .any⟩
def CIR.COMPLETED_slips : Fld := ⟨0x188, 0, 64, 0, .ro, .any⟩
def CIR.CANCELLED : Fld := ⟨0x190, 0, 32, 0, .ro, .any⟩
def CIR.CANCEL_LATE : Fld := ⟨0x194, 0, 32, 0, .ro, .any⟩
def CIR.WITHDRAWN : Fld := ⟨0x198, 0, 32, 0, .ro, .any⟩
def CIR.AGED : Fld := ⟨0x19C, 0, 32, 0, .ro, .any⟩
def CIR.OVERRUN : Fld := ⟨0x1A0, 0, 32, 0, .ro, .any⟩
def CIR.KILLED : Fld := ⟨0x1A4, 0, 32, 0, .ro, .any⟩
def CIR.CORE_FAULTS : Fld := ⟨0x1A8, 0, 32, 0, .ro, .any⟩
def CIR.CLASS_LOWERED : Fld := ⟨0x1AC, 0, 32, 0, .ro, .any⟩
def CIR.BAD_SLIP : Fld := ⟨0x1B0, 0, 32, 0, .ro, .any⟩
def CIR.HW_STALL_cycles : Fld := ⟨0x1B4, 0, 32, 0, .ro, .any⟩
def CIR.ST_ready : Fld := ⟨0x00C, 0, 1, 0, .ro, .any⟩

def CIR.rows0 : List Fld :=
  [CIR.CFG_age_us, CIR.CFG_run_us, CIR.RESERVE_host_floor, CIR.RESERVE_fw_floor, CIR.FREE_slips, CIR.QUEUED_slips,
   CIR.READY_slips, CIR.PREFETCHED_slips, CIR.RUNNING_slips, CIR.READYC_odd 0, CIR.READYC_odd 1, CIR.READYC_odd 2,
   CIR.READYC_odd 3, CIR.READYC_even 0, CIR.READYC_even 1, CIR.READYC_even 2, CIR.READYC_even 3, CIR.CORE_SEL_core,
   CIR.CORE_CFG_en, CIR.CORE_CFG_kill_ms, CIR.CORE_CFG_class_mask, CIR.CORE_STAT_state, CIR.CORE_STAT_run_class,
   CIR.CORE_STAT_pf_valid, CIR.CORE_STAT_pf_class, CIR.CORE_STAT_run_slip, CIR.HSQ_SEL_queue, CIR.HSQ_CFG_en,
   CIR.HSQ_CFG_class_max, CIR.HSQ_CFG_inflight_max, CIR.HSQ_CFG_depth, CIR.HSQ_STAT_stalls, CIR.HSQ_STAT_inflight,
   CIR.HSQ_STAT_held, CIR.CPL_SEL_queue, CIR.CPL_STAT_valid, CIR.CPL_STAT_count, CIR.CPL_STAT_status, CIR.CPL_STAT_core,
   CIR.CPL_STAT_result]
def CIR.rows1 : List Fld :=
  [CIR.CPL_TAG_tag, CIR.CANCEL_TAG_tag, CIR.CANCEL_go, CIR.CANCEL_queue, CIR.CANCEL_RES_queued, CIR.CANCEL_RES_ready,
   CIR.CANCEL_RES_prefetched, CIR.CANCEL_RES_running, CIR.DISPATCHED_slips, CIR.COMPLETED_slips, CIR.CANCELLED,
   CIR.CANCEL_LATE, CIR.WITHDRAWN, CIR.AGED, CIR.OVERRUN, CIR.KILLED, CIR.CORE_FAULTS, CIR.CLASS_LOWERED, CIR.BAD_SLIP,
   CIR.HW_STALL_cycles, CIR.ST_ready]

/-- every field of the CIR block registers. -/
def CIR.rows : List Fld := CIR.rows0 ++ CIR.rows1

/-! ## HBM (R405) -/

def HBM.CFG_scrub_en : Fld := ⟨0x100, 0, 1, 1, .rwc, .any⟩
def HBM.KEEP_kept : Fld := ⟨0x104, 0, 32, 0xFFFFFFFF, .rwc, .any⟩
def HBM.SR_ALLOW_allow : Fld := ⟨0x108, 0, 32, 0xFFFFFFFF, .rwc, .any⟩
def HBM.REFRESH_postpone_max : Fld := ⟨0x10C, 0, 4, 8, .rwc, .between 1 8⟩
def HBM.RH_throttle_ns : Fld := ⟨0x110, 16, 16, 0x3E8, .rwc, .between 100 65535⟩
def HBM.RH_threshold : Fld := ⟨0x110, 0, 16, 0x1000, .rwc, .between 512 32768⟩
def HBM.SR_idle_ns : Fld := ⟨0x114, 0, 16, 0x7D0, .rwc, .between 100 65535⟩
def HBM.REPAIR_min_eye : Fld := ⟨0x118, 16, 8, 30, .rwc, .any⟩
def HBM.REPAIR_sym_limit : Fld := ⟨0x118, 0, 16, 0x3E8, .rwc, .any⟩
def HBM.SCRUB_hours : Fld := ⟨0x11C, 0, 8, 24, .rwc, .between 1 255⟩
def HBM.TEMP_max_c : Fld := ⟨0x120, 8, 8, 0, .ro, .any⟩
def HBM.TEMP_temp_c : Fld := ⟨0x120, 0, 8, 0, .ro, .any⟩
def HBM.PC_SEL_pc : Fld := ⟨0x124, 0, 5, 0, .rw, .any⟩
def HBM.PC_STAT_state : Fld := ⟨0x128, 29, 3, 0, .ro, .any⟩
def HBM.PC_STAT_spares : Fld := ⟨0x128, 27, 2, 2, .ro, .any⟩
def HBM.PC_STAT_inorder : Fld := ⟨0x128, 21, 6, 0, .ro, .any⟩
def HBM.PC_STAT_debt : Fld := ⟨0x128, 16, 5, 0, .ro, .any⟩
def HBM.PC_STAT_committed_mbps : Fld := ⟨0x128, 0, 16, 0, .ro, .any⟩
def HBM.ECC_CORR_bursts : Fld := ⟨0x12C, 0, 32, 0, .ro, .any⟩
def HBM.ECC_UNCORR_bursts : Fld := ⟨0x130, 0, 32, 0, .ro, .any⟩
def HBM.RH_HITS_count : Fld := ⟨0x134, 0, 32, 0, .ro, .any⟩
def HBM.SR_ABORTS_count : Fld := ⟨0x138, 0, 32, 0, .ro, .any⟩
def HBM.REPAIRS_count : Fld := ⟨0x13C, 0, 32, 0, .ro, .any⟩
def HBM.RQ_SEL_requester : Fld := ⟨0x140, 0, 6, 0, .rw, .any⟩
def HBM.RQ_STAT_throttled : Fld := ⟨0x144, 31, 1, 0, .ro, .any⟩
def HBM.RQ_STAT_allotment : Fld := ⟨0x144, 8, 7, 0, .ro, .any⟩
def HBM.RQ_STAT_outstanding : Fld := ⟨0x144, 0, 7, 0, .ro, .any⟩
def HBM.RH_LAST_requester : Fld := ⟨0x148, 26, 6, 0, .ro, .any⟩
def HBM.RH_LAST_pc : Fld := ⟨0x148, 21, 5, 0, .ro, .any⟩
def HBM.RH_LAST_bank : Fld := ⟨0x148, 14, 6, 0, .ro, .any⟩
def HBM.RH_LAST_row : Fld := ⟨0x148, 0, 14, 0, .ro, .any⟩
def HBM.RD_BYTES_bytes : Fld := ⟨0x150, 0, 64, 0, .ro, .any⟩
def HBM.WR_BYTES_bytes : Fld := ⟨0x158, 0, 64, 0, .ro, .any⟩
def HBM.REFRESHES_count : Fld := ⟨0x160, 0, 64, 0, .ro, .any⟩
def HBM.HOT_US_us : Fld := ⟨0x168, 0, 64, 0, .ro, .any⟩
def HBM.THROTTLES_count : Fld := ⟨0x170, 0, 32, 0, .ro, .any⟩
def HBM.PAUSE_SKIP_count : Fld := ⟨0x174, 0, 32, 0, .ro, .any⟩
def HBM.UE_ADDR_pc : Fld := ⟨0x178, 59, 5, 0, .ro, .any⟩
def HBM.UE_ADDR_bank : Fld := ⟨0x178, 52, 6, 0, .ro, .any⟩
def HBM.UE_ADDR_row : Fld := ⟨0x178, 32, 14, 0, .ro, .any⟩
def HBM.UE_ADDR_column : Fld := ⟨0x178, 0, 10, 0, .ro, .any⟩
def HBM.ST_trained : Fld := ⟨0x00C, 0, 1, 0, .ro, .any⟩
def HBM.ST_hot : Fld := ⟨0x00C, 1, 1, 0, .ro, .any⟩
def HBM.ST_temp_fail : Fld := ⟨0x00C, 2, 1, 0, .ro, .any⟩

def HBM.rows0 : List Fld :=
  [HBM.CFG_scrub_en, HBM.KEEP_kept, HBM.SR_ALLOW_allow, HBM.REFRESH_postpone_max, HBM.RH_throttle_ns,
   HBM.RH_threshold, HBM.SR_idle_ns, HBM.REPAIR_min_eye, HBM.REPAIR_sym_limit, HBM.SCRUB_hours, HBM.TEMP_max_c,
   HBM.TEMP_temp_c, HBM.PC_SEL_pc, HBM.PC_STAT_state, HBM.PC_STAT_spares, HBM.PC_STAT_inorder, HBM.PC_STAT_debt,
   HBM.PC_STAT_committed_mbps, HBM.ECC_CORR_bursts, HBM.ECC_UNCORR_bursts, HBM.RH_HITS_count, HBM.SR_ABORTS_count,
   HBM.REPAIRS_count, HBM.RQ_SEL_requester, HBM.RQ_STAT_throttled, HBM.RQ_STAT_allotment, HBM.RQ_STAT_outstanding,
   HBM.RH_LAST_requester, HBM.RH_LAST_pc, HBM.RH_LAST_bank, HBM.RH_LAST_row, HBM.RD_BYTES_bytes, HBM.WR_BYTES_bytes,
   HBM.REFRESHES_count, HBM.HOT_US_us, HBM.THROTTLES_count, HBM.PAUSE_SKIP_count, HBM.UE_ADDR_pc, HBM.UE_ADDR_bank,
   HBM.UE_ADDR_row]
def HBM.rows1 : List Fld :=
  [HBM.UE_ADDR_column, HBM.ST_trained, HBM.ST_hot, HBM.ST_temp_fail]

/-- every field of the HBM block registers. -/
def HBM.rows : List Fld := HBM.rows0 ++ HBM.rows1

/-! ## CHK (R416) -/

def CHK.CFG_width : Fld := ⟨0x100, 24, 7, 32, .rw, .between 8 64⟩
def CHK.CFG_refin : Fld := ⟨0x100, 20, 1, 1, .rw, .any⟩
def CHK.CFG_refout : Fld := ⟨0x100, 19, 1, 1, .rw, .any⟩
def CHK.CFG_chk_lsb : Fld := ⟨0x100, 18, 1, 0, .rw, .any⟩
def CHK.CFG_fold : Fld := ⟨0x100, 16, 2, 0, .rw, .between 0 2⟩
def CHK.CFG_fold64 : Fld := ⟨0x100, 15, 1, 0, .rw, .any⟩
def CHK.CFG_mode : Fld := ⟨0x100, 0, 2, 0, .rw, .any⟩
def CHK.POLY_poly : Fld := ⟨0x104, 0, 64, 0x1EDC6F41, .rw, .any⟩
def CHK.INIT_init : Fld := ⟨0x10C, 0, 64, 0xFFFFFFFF, .rw, .any⟩
def CHK.XOROUT_xorout : Fld := ⟨0x114, 0, 64, 0xFFFFFFFF, .rw, .any⟩
def CHK.FOLD_value : Fld := ⟨0x11C, 0, 64, 0, .rw, .any⟩
def CHK.CMD_start : Fld := ⟨0x124, 31, 1, 0, .wo, .any⟩
def CHK.CMD_finish : Fld := ⟨0x124, 30, 1, 0, .wo, .any⟩
def CHK.CMD_last_bytes : Fld := ⟨0x124, 0, 2, 0, .wo, .any⟩
def CHK.DATA_bytes : Fld := ⟨0x128, 0, 32, 0, .wo, .any⟩
def CHK.RESULT_check : Fld := ⟨0x12C, 0, 64, 0, .ro, .any⟩
def CHK.LEN_bytes : Fld := ⟨0x134, 0, 32, 0, .ro, .any⟩
def CHK.STREAM_en : Fld := ⟨0x138, 31, 1, 0, .rw, .any⟩
def CHK.STREAM_fold_seq : Fld := ⟨0x138, 30, 1, 0, .rw, .any⟩
def CHK.STREAM_src_queue : Fld := ⟨0x138, 16, 10, 0, .rw, .between 288 1023⟩
def CHK.STREAM_dst_queue : Fld := ⟨0x138, 0, 10, 0, .rw, .between 288 1023⟩
def CHK.PASS_count : Fld := ⟨0x13C, 0, 32, 0, .ro, .any⟩
def CHK.FAIL_count : Fld := ⟨0x140, 0, 32, 0, .ro, .any⟩
def CHK.BYTES_bytes : Fld := ⟨0x144, 0, 64, 0, .ro, .any⟩
def CHK.ST_busy : Fld := ⟨0x00C, 0, 1, 0, .ro, .any⟩
def CHK.ST_result_valid : Fld := ⟨0x00C, 1, 1, 0, .ro, .any⟩
def CHK.ST_pass : Fld := ⟨0x00C, 2, 1, 0, .ro, .any⟩
def CHK.ST_stream_active : Fld := ⟨0x00C, 3, 1, 0, .ro, .any⟩

def CHK.rows0 : List Fld :=
  [CHK.CFG_width, CHK.CFG_refin, CHK.CFG_refout, CHK.CFG_chk_lsb, CHK.CFG_fold, CHK.CFG_fold64, CHK.CFG_mode,
   CHK.POLY_poly, CHK.INIT_init, CHK.XOROUT_xorout, CHK.FOLD_value, CHK.CMD_start, CHK.CMD_finish, CHK.CMD_last_bytes,
   CHK.DATA_bytes, CHK.RESULT_check, CHK.LEN_bytes, CHK.STREAM_en, CHK.STREAM_fold_seq, CHK.STREAM_src_queue,
   CHK.STREAM_dst_queue, CHK.PASS_count, CHK.FAIL_count, CHK.BYTES_bytes, CHK.ST_busy, CHK.ST_result_valid, CHK.ST_pass,
   CHK.ST_stream_active]

/-- every field of the CHK block registers. -/
def CHK.rows : List Fld := CHK.rows0

/-! ## FWL (R443) -/

def FWL.IMAGE_version : Fld := ⟨0x100, 0, 32, 0, .ro, .any⟩
def FWL.IMAGE_SVN_svn : Fld := ⟨0x104, 0, 32, 0, .ro, .any⟩
def FWL.LOADER_version : Fld := ⟨0x108, 0, 32, 0, .ro, .any⟩
def FWL.BOOT_state : Fld := ⟨0x10C, 30, 2, 0, .ro, .any⟩
def FWL.BOOT_bootsel : Fld := ⟨0x10C, 28, 2, 0, .ro, .any⟩
def FWL.BOOT_loader_copy : Fld := ⟨0x10C, 27, 1, 0, .ro, .any⟩
def FWL.BOOT_cause : Fld := ⟨0x10C, 16, 8, 0, .ro, .any⟩
def FWL.BOOT_verify : Fld := ⟨0x10C, 0, 8, 0, .ro, .any⟩
def FWL.FLOOR_MAIN : Fld := ⟨0x110, 0, 32, 0, .ro, .any⟩
def FWL.FLOOR_LDR : Fld := ⟨0x114, 0, 32, 0, .ro, .any⟩
def FWL.FLOOR_VEC : Fld := ⟨0x118, 0, 32, 0, .ro, .any⟩
def FWL.LOCK_held : Fld := ⟨0x11C, 31, 1, 0, .ro, .any⟩
def FWL.LOCK_holder : Fld := ⟨0x11C, 28, 3, 0, .ro, .any⟩
def FWL.LOCK_op : Fld := ⟨0x11C, 8, 8, 0, .ro, .any⟩
def FWL.LOCK_session : Fld := ⟨0x11C, 0, 3, 0, .ro, .any⟩
def FWL.PROGRESS_bytes : Fld := ⟨0x120, 0, 32, 0, .ro, .any⟩
def FWL.CAT_SCHEMA_found : Fld := ⟨0x124, 16, 16, 0, .ro, .any⟩
def FWL.CAT_SCHEMA_own : Fld := ⟨0x124, 0, 16, 0, .ro, .any⟩
def FWL.CAT_SLOT_slot : Fld := ⟨0x128, 0, 4, 0, .ro, .any⟩
def FWL.CAT_GEN_generation : Fld := ⟨0x12C, 0, 32, 0, .ro, .any⟩
def FWL.CAT_CMD_save : Fld := ⟨0x130, 31, 1, 0, .wo, .any⟩
def FWL.FOLIO_user : Fld := ⟨0x134, 31, 1, 0, .ro, .any⟩
def FWL.FOLIO_exports : Fld := ⟨0x134, 0, 16, 0, .ro, .any⟩
def FWL.RECOVERY_serve_twin : Fld := ⟨0x138, 31, 1, 0, .rw, .any⟩
def FWL.RECOVERY_link : Fld := ⟨0x138, 28, 2, 0, .rw, .any⟩
def FWL.RECOVERY_twin_wait_s : Fld := ⟨0x138, 0, 16, 30, .rw, .between 1 65535⟩
def FWL.KEYS_slots : Fld := ⟨0x13C, 0, 8, 0, .ro, .any⟩
def FWL.CAT_BASE_base : Fld := ⟨0x140, 0, 10, 0, .rw, .any⟩
def FWL.UPDATES : Fld := ⟨0x144, 0, 32, 0, .ro, .any⟩
def FWL.VERIFY_FAILS : Fld := ⟨0x148, 0, 32, 0, .ro, .any⟩
def FWL.BOOTS : Fld := ⟨0x14C, 0, 32, 0, .ro, .any⟩
def FWL.RECOVERIES : Fld := ⟨0x150, 0, 32, 0, .ro, .any⟩
def FWL.ATTESTS : Fld := ⟨0x154, 0, 32, 0, .ro, .any⟩
def FWL.CAT_SAVES : Fld := ⟨0x158, 0, 32, 0, .ro, .any⟩
def FWL.ST_image_valid : Fld := ⟨0x00C, 0, 1, 0, .ro, .any⟩
def FWL.ST_quarantine : Fld := ⟨0x00C, 1, 1, 0, .ro, .any⟩
def FWL.ST_recovery : Fld := ⟨0x00C, 2, 1, 0, .ro, .any⟩
def FWL.ST_staged_ok : Fld := ⟨0x00C, 4, 1, 0, .ro, .any⟩
def FWL.ST_installing : Fld := ⟨0x00C, 5, 1, 0, .ro, .any⟩
def FWL.ST_folio_ok : Fld := ⟨0x00C, 6, 1, 1, .ro, .any⟩

def FWL.rows0 : List Fld :=
  [FWL.IMAGE_version, FWL.IMAGE_SVN_svn, FWL.LOADER_version, FWL.BOOT_state, FWL.BOOT_bootsel, FWL.BOOT_loader_copy,
   FWL.BOOT_cause, FWL.BOOT_verify, FWL.FLOOR_MAIN, FWL.FLOOR_LDR, FWL.FLOOR_VEC, FWL.LOCK_held, FWL.LOCK_holder,
   FWL.LOCK_op, FWL.LOCK_session, FWL.PROGRESS_bytes, FWL.CAT_SCHEMA_found, FWL.CAT_SCHEMA_own, FWL.CAT_SLOT_slot,
   FWL.CAT_GEN_generation, FWL.CAT_CMD_save, FWL.FOLIO_user, FWL.FOLIO_exports, FWL.RECOVERY_serve_twin,
   FWL.RECOVERY_link, FWL.RECOVERY_twin_wait_s, FWL.KEYS_slots, FWL.CAT_BASE_base, FWL.UPDATES, FWL.VERIFY_FAILS,
   FWL.BOOTS, FWL.RECOVERIES, FWL.ATTESTS, FWL.CAT_SAVES, FWL.ST_image_valid, FWL.ST_quarantine, FWL.ST_recovery,
   FWL.ST_staged_ok, FWL.ST_installing, FWL.ST_folio_ok]

/-- every field of the FWL block registers. -/
def FWL.rows : List Fld := FWL.rows0

/-! ## HLT (R461) -/

def HLT.ANN_IDX_index : Fld := ⟨0x100, 0, 7, 0, .rw, .any⟩
def HLT.ANN_VAL_value : Fld := ⟨0x104, 0, 64, 0, .ro, .any⟩
def HLT.ANN_SEQ_seq : Fld := ⟨0x10C, 0, 64, 0, .ro, .any⟩
def HLT.CALENDAR_locked : Fld := ⟨0x114, 63, 1, 0, .ro, .any⟩
def HLT.CALENDAR_tai_s : Fld := ⟨0x114, 0, 48, 0, .ro, .any⟩
def HLT.LIFE_used_ppm : Fld := ⟨0x11C, 0, 32, 0, .ro, .any⟩
def HLT.CMD_rearm : Fld := ⟨0x120, 31, 1, 0, .wo, .any⟩
def HLT.CMD_ann_flush : Fld := ⟨0x120, 30, 1, 0, .wo, .any⟩
def HLT.TJ_max_c : Fld := ⟨0x124, 8, 8, 0, .ro, .any⟩
def HLT.TJ_tj_c : Fld := ⟨0x124, 0, 8, 0, .ro, .any⟩
def HLT.GOV_t0 : Fld := ⟨0x128, 24, 8, 106, .rwc, .any⟩
def HLT.GOV_t1 : Fld := ⟨0x128, 16, 8, 103, .rwc, .any⟩
def HLT.GOV_t2 : Fld := ⟨0x128, 8, 8, 100, .rwc, .any⟩
def HLT.GOV_hyst_c : Fld := ⟨0x128, 4, 4, 3, .rwc, .between 1 15⟩
def HLT.GOV_dwell_s : Fld := ⟨0x128, 0, 4, 2, .rwc, .between 1 15⟩
def HLT.GOV_STAT_level : Fld := ⟨0x12C, 0, 2, 3, .ro, .any⟩
def HLT.ROT_en : Fld := ⟨0x140, 31, 1, 1, .rw, .any⟩
def HLT.ROT_interval_s : Fld := ⟨0x140, 0, 16, 60, .rw, .between 10 65535⟩
def HLT.ROT_STAT_next : Fld := ⟨0x144, 28, 4, 0, .ro, .any⟩
def HLT.ROT_STAT_last : Fld := ⟨0x144, 26, 2, 0, .ro, .any⟩
def HLT.ROT_STAT_golden_fail : Fld := ⟨0x144, 16, 8, 0, .ro, .any⟩
def HLT.ROT_STAT_steps : Fld := ⟨0x144, 0, 16, 0, .ro, .any⟩
def HLT.ABSENT_logical : Fld := ⟨0x148, 0, 16, 0, .ro, .any⟩
def HLT.TREQ_force : Fld := ⟨0x14C, 31, 1, 0, .wo, .any⟩
def HLT.TREQ_kind : Fld := ⟨0x14C, 24, 3, 0, .wo, .any⟩
def HLT.TREQ_unit : Fld := ⟨0x14C, 0, 6, 0, .wo, .any⟩
def HLT.TRES_pending : Fld := ⟨0x150, 31, 1, 0, .ro, .any⟩
def HLT.TRES_status : Fld := ⟨0x150, 8, 8, 0, .ro, .any⟩
def HLT.TRES_pass : Fld := ⟨0x150, 0, 1, 0, .ro, .any⟩
def HLT.DEC_TEST_interval_h : Fld := ⟨0x154, 0, 8, 24, .rw, .between 1 255⟩
def HLT.PAUSE_STAT_lane_skips : Fld := ⟨0x158, 16, 16, 0, .ro, .any⟩
def HLT.PAUSE_STAT_hbm_skips : Fld := ⟨0x158, 0, 16, 0, .ro, .any⟩
def HLT.STK_SEV (f : Nat) : Fld := ⟨0x180, 2 * f, 2, 2, .rw, .any⟩
def HLT.SNAP_SEL_entry : Fld := ⟨0x184, 0, 3, 0, .rw, .any⟩
def HLT.SNAP_CNT_lost : Fld := ⟨0x188, 8, 8, 0, .ro, .any⟩
def HLT.SNAP_CNT_held : Fld := ⟨0x188, 0, 4, 0, .ro, .any⟩
def HLT.VIOL_us : Fld := ⟨0x18C, 0, 32, 0, .ro, .any⟩
def HLT.SNAP_CLR_clear : Fld := ⟨0x190, 0, 1, 0, .wo, .any⟩
def HLT.ST_throttle : Fld := ⟨0x00C, 0, 1, 0, .ro, .any⟩
def HLT.ST_shutdown : Fld := ⟨0x00C, 1, 1, 0, .ro, .any⟩
def HLT.ST_sensor_fail : Fld := ⟨0x00C, 2, 1, 0, .ro, .any⟩
def HLT.ST_annals_reset : Fld := ⟨0x00C, 3, 1, 0, .ro, .any⟩

def HLT.rows0 : List Fld :=
  [HLT.ANN_IDX_index, HLT.ANN_VAL_value, HLT.ANN_SEQ_seq, HLT.CALENDAR_locked, HLT.CALENDAR_tai_s, HLT.LIFE_used_ppm,
   HLT.CMD_rearm, HLT.CMD_ann_flush, HLT.TJ_max_c, HLT.TJ_tj_c, HLT.GOV_t0, HLT.GOV_t1, HLT.GOV_t2, HLT.GOV_hyst_c,
   HLT.GOV_dwell_s, HLT.GOV_STAT_level, HLT.ROT_en, HLT.ROT_interval_s, HLT.ROT_STAT_next, HLT.ROT_STAT_last,
   HLT.ROT_STAT_golden_fail, HLT.ROT_STAT_steps, HLT.ABSENT_logical, HLT.TREQ_force, HLT.TREQ_kind, HLT.TREQ_unit,
   HLT.TRES_pending, HLT.TRES_status, HLT.TRES_pass, HLT.DEC_TEST_interval_h, HLT.PAUSE_STAT_lane_skips,
   HLT.PAUSE_STAT_hbm_skips, HLT.STK_SEV 0, HLT.STK_SEV 1, HLT.STK_SEV 2, HLT.STK_SEV 3, HLT.STK_SEV 4,
   HLT.SNAP_SEL_entry, HLT.SNAP_CNT_lost, HLT.SNAP_CNT_held]
def HLT.rows1 : List Fld :=
  [HLT.VIOL_us, HLT.SNAP_CLR_clear, HLT.ST_throttle, HLT.ST_shutdown, HLT.ST_sensor_fail, HLT.ST_annals_reset]

/-- every field of the HLT block registers. -/
def HLT.rows : List Fld := HLT.rows0 ++ HLT.rows1

/-! ## PWR (R489) -/

def PWR.DCMD_target : Fld := ⟨0x100, 0, 2, 0, .rw, .any⟩
def PWR.DSTAT_busy : Fld := ⟨0x104, 31, 1, 0, .ro, .any⟩
def PWR.DSTAT_prev : Fld := ⟨0x104, 28, 2, 0, .ro, .any⟩
def PWR.DSTAT_state : Fld := ⟨0x104, 24, 2, 3, .ro, .any⟩
def PWR.DSTAT_last_exit_us : Fld := ⟨0x104, 0, 16, 0, .ro, .any⟩
def PWR.AVS_CORE_ceil_mv : Fld := ⟨0x108, 16, 16, 0x384, .rw, .between 600 900⟩
def PWR.AVS_CORE_floor_mv : Fld := ⟨0x108, 0, 16, 0x258, .rw, .between 600 900⟩
def PWR.AVS_FAB_ceil_mv : Fld := ⟨0x10C, 16, 16, 0x384, .rw, .between 600 900⟩
def PWR.AVS_FAB_floor_mv : Fld := ⟨0x10C, 0, 16, 0x258, .rw, .between 600 900⟩
def PWR.VOLT_CORE_req_mv : Fld := ⟨0x110, 16, 16, 0, .ro, .any⟩
def PWR.VOLT_CORE_applied_mv : Fld := ⟨0x110, 0, 16, 0, .ro, .any⟩
def PWR.VOLT_FAB_req_mv : Fld := ⟨0x114, 16, 16, 0, .ro, .any⟩
def PWR.VOLT_FAB_applied_mv : Fld := ⟨0x114, 0, 16, 0, .ro, .any⟩
def PWR.WAKE_SEL_kind : Fld := ⟨0x118, 6, 2, 0, .rw, .any⟩
def PWR.WAKE_SEL_index : Fld := ⟨0x118, 0, 6, 0, .rw, .any⟩
def PWR.WAKE_TOL_tol_us : Fld := ⟨0x11C, 0, 24, 0xFFFFFF, .rw, .any⟩
def PWR.UNIT_SEL_class : Fld := ⟨0x120, 16, 4, 0, .rw, .between 0 5⟩
def PWR.UNIT_SEL_instance : Fld := ⟨0x120, 0, 7, 0, .rw, .any⟩
def PWR.UNIT_STAT_ustate : Fld := ⟨0x124, 28, 4, 0, .ro, .any⟩
def PWR.UNIT_STAT_eff_tol_us : Fld := ⟨0x124, 0, 24, 0xFFFFFF, .ro, .any⟩
def PWR.VIN_mv : Fld := ⟨0x128, 16, 16, 0, .ro, .any⟩
def PWR.VIN_ma : Fld := ⟨0x128, 0, 16, 0, .ro, .any⟩
def PWR.VSTBY_mv : Fld := ⟨0x12C, 16, 16, 0, .ro, .any⟩
def PWR.VSTBY_ma : Fld := ⟨0x12C, 0, 16, 0, .ro, .any⟩
def PWR.POWER_mw : Fld := ⟨0x130, 0, 20, 0, .ro, .any⟩
def PWR.RAILS_good : Fld := ⟨0x134, 0, 8, 0, .ro, .any⟩
def PWR.OVERRIDES_count : Fld := ⟨0x138, 0, 32, 0, .ro, .any⟩
def PWR.VIN_LOSSES_count : Fld := ⟨0x13C, 0, 32, 0, .ro, .any⟩
def PWR.UNCTRL_count : Fld := ⟨0x140, 0, 32, 0, .ro, .any⟩
def PWR.RAIL_FAULTS_count : Fld := ⟨0x144, 0, 32, 0, .ro, .any⟩
def PWR.ST_vin_good : Fld := ⟨0x00C, 0, 1, 0, .ro, .any⟩
def PWR.ST_main_on : Fld := ⟨0x00C, 1, 1, 0, .ro, .any⟩
def PWR.ST_overridden_core : Fld := ⟨0x00C, 2, 1, 0, .ro, .any⟩
def PWR.ST_overridden_fab : Fld := ⟨0x00C, 3, 1, 0, .ro, .any⟩
def PWR.ST_avs_limit : Fld := ⟨0x00C, 4, 1, 0, .ro, .any⟩
def PWR.ST_power_down : Fld := ⟨0x00C, 5, 1, 0, .ro, .any⟩
def PWR.ST_rail_fault : Fld := ⟨0x00C, 6, 1, 0, .ro, .any⟩

def PWR.rows0 : List Fld :=
  [PWR.DCMD_target, PWR.DSTAT_busy, PWR.DSTAT_prev, PWR.DSTAT_state, PWR.DSTAT_last_exit_us, PWR.AVS_CORE_ceil_mv,
   PWR.AVS_CORE_floor_mv, PWR.AVS_FAB_ceil_mv, PWR.AVS_FAB_floor_mv, PWR.VOLT_CORE_req_mv, PWR.VOLT_CORE_applied_mv,
   PWR.VOLT_FAB_req_mv, PWR.VOLT_FAB_applied_mv, PWR.WAKE_SEL_kind, PWR.WAKE_SEL_index, PWR.WAKE_TOL_tol_us,
   PWR.UNIT_SEL_class, PWR.UNIT_SEL_instance, PWR.UNIT_STAT_ustate, PWR.UNIT_STAT_eff_tol_us, PWR.VIN_mv, PWR.VIN_ma,
   PWR.VSTBY_mv, PWR.VSTBY_ma, PWR.POWER_mw, PWR.RAILS_good, PWR.OVERRIDES_count, PWR.VIN_LOSSES_count, PWR.UNCTRL_count,
   PWR.RAIL_FAULTS_count, PWR.ST_vin_good, PWR.ST_main_on, PWR.ST_overridden_core, PWR.ST_overridden_fab,
   PWR.ST_avs_limit, PWR.ST_power_down, PWR.ST_rail_fault]

/-- every field of the PWR block registers. -/
def PWR.rows : List Fld := PWR.rows0

end Sys2Proof.Machine
end

