-- ==== Sys2Proof/Machine/Pages.lean ====
section
/-! DEFINITION. Sys2Proof/Machine/Pages.lean: the page index (R71), what PAGE_CAPS says of each block (R64), which block
has which fields, and the codes of R23, R27 and R48. -/

namespace Sys2Proof.Machine

/-- the blocks of R71. -/
inductive Block where
  | dev | hap | eth | lne | izl | twn | tim | ing | cnd | enc | ech | rcl | mux | out | dec | dch | snd
  | stk | cir | hbm | chk | pwr | fwl | hlt
  deriving DecidableEq, Repr

/-- block_code: the first page of the block (R63, R71). -/
def Block.first : Block → Nat
  | .dev => 0x000 | .hap => 0x001 | .eth => 0x010 | .lne => 0x020 | .izl => 0x048 | .twn => 0x050 | .tim => 0x058
  | .ing => 0x060 | .cnd => 0x0A0 | .enc => 0x0B0 | .ech => 0x100 | .rcl => 0x120 | .mux => 0x121 | .out => 0x130
  | .dec => 0x150 | .dch => 0x158 | .snd => 0x168 | .stk => 0x180 | .cir => 0x181 | .hbm => 0x188 | .chk => 0x190
  | .pwr => 0x1A0 | .fwl => 0x1A8 | .hlt => 0x1B0

/-- how many instances the block has (R71). -/
def Block.count : Block → Nat
  | .eth => 3 | .lne => 33 | .izl => 4 | .ing => 64 | .cnd => 4 | .enc => 17 | .ech => 32 | .mux => 8 | .out => 32
  | .dec => 8 | .dch => 16 | .snd => 16 | .hbm => 2 | .chk => 8
  | .dev | .hap | .twn | .tim | .rcl | .stk | .cir | .pwr | .fwl | .hlt => 1

def Block.all : List Block :=
  [.dev, .hap, .eth, .lne, .izl, .twn, .tim, .ing, .cnd, .enc, .ech, .rcl, .mux, .out, .dec, .dch, .snd, .stk, .cir,
   .hbm, .chk, .pwr, .fwl, .hlt]

/-- the block a page number belongs to; none where the page index has no such page (R71). -/
def blockOf (p : Nat) : Option Block :=
  Block.all.find? (fun b => decide (b.first ≤ p) && decide (p < b.first + b.count))

/-- PAGE_CAPS.has_state (R25). -/
def Block.hasState : Block → Bool
  | .rcl | .dev | .hap | .pwr | .fwl => false
  | _ => true

/-- PAGE_CAPS.has_shadow (R64): the block has RWC fields of its own. -/
def Block.hasShadow : Block → Bool
  | .hap | .enc | .dec | .stk | .cir | .chk | .pwr | .fwl | .dev => false
  | _ => true

/-- PAGE_CAPS.wat_picture (R64). -/
def Block.watPicture : Block → Bool
  | .ing | .ech | .dch => true
  | _ => false

/-- the EVENT bits below 30 that the block's chapter defines (R109, R110, R146, R148, R175 to R178, R202, R227, R229, R232, R268,
R291, R310, R331, R354, R371, R388, R406, R416, R444, R462, R490, R491; HAP's one by R46); the others are reserved (R8). -/
def Block.events : Block → Nat
  | .dev => 0xF | .hap => 0x1 | .eth => 0x3FF | .lne => 0x7FF | .izl => 0x3FF | .twn => 0x3FFFF | .tim => 0x7FFF
  | .ing => 0x1FFF | .cnd => 0x7 | .enc => 0x3F | .ech => 0x7F01FF | .rcl => 0x3 | .mux => 0x3F | .out => 0xFF
  | .dec => 0xF | .dch => 0xFFFF | .snd => 0x1F | .stk => 0xFF | .cir => 0xFF | .hbm => 0x7FF | .chk => 0x3
  | .pwr => 0x3FF | .fwl => 0x7FF | .hlt => 0xFF

/-- the bits of EVENT, EVENT_EN and EVENT_SET that page `p` has: its block's, cfg_applied and state_mismatch (R66). -/
def eventMask (p : Nat) : Nat :=
  match blockOf p with
  | some b => 0xC0000000 + b.events
  | none => 0

/-- the page is in the standby power domain (R11, R12). -/
def standbyPage (p : Nat) : Bool :=
  [0x000, 0x001, 0x012, 0x040, 0x058, 0x1A0, 0x1A8, 0x1B0].contains p

/-- the block registers of a block. -/
def Block.rows : Block → List Fld
  | .dev => DEV.rows | .hap => HAP.rows | .eth => ETH.rows | .lne => LNE.rows | .izl => IZL.rows | .twn => TWN.rows
  | .tim => TIM.rows | .ing => ING.rows | .cnd => CND.rows | .enc => ENC.rows | .ech => ECH.rows | .rcl => RCL.rows
  | .mux => MUX.rows | .out => OUT.rows | .dec => DEC.rows | .dch => DCH.rows | .snd => SND.rows | .stk => STK.rows
  | .cir => CIR.rows | .hbm => HBM.rows | .chk => CHK.rows | .pwr => PWR.rows | .fwl => FWL.rows | .hlt => HLT.rows

def pgDEV : Nat := 0x000
def pgHAP : Nat := 0x001
def pgETH (i : Nat) : Nat := 0x010 + i
def pgLNE (i : Nat) : Nat := 0x020 + i
def pgIZL (i : Nat) : Nat := 0x048 + i
def pgTWN : Nat := 0x050
def pgTIM : Nat := 0x058
def pgING (i : Nat) : Nat := 0x060 + i
def pgCND (i : Nat) : Nat := 0x0A0 + i
def pgENC (i : Nat) : Nat := 0x0B0 + i
def pgECH (i : Nat) : Nat := 0x100 + i
def pgRCL : Nat := 0x120
def pgMUX (i : Nat) : Nat := 0x121 + i
def pgOUT (i : Nat) : Nat := 0x130 + i
def pgDEC (i : Nat) : Nat := 0x150 + i
def pgDCH (i : Nat) : Nat := 0x158 + i
def pgSND (i : Nat) : Nat := 0x168 + i
def pgSTK : Nat := 0x180
def pgCIR : Nat := 0x181
def pgHBM (i : Nat) : Nat := 0x188 + i
def pgCHK (i : Nat) : Nat := 0x190 + i
def pgPWR : Nat := 0x1A0
def pgFWL : Nat := 0x1A8
def pgHLT : Nat := 0x1B0

/-! ## Codes -/

/-- the state codes of R23. -/
def stOFF : Nat := 0
def stRESET : Nat := 1
def stIDLE : Nat := 2
def stSTARTING : Nat := 3
def stRUNNING : Nat := 4
def stSTOPPING : Nat := 5
def stMUTED : Nat := 6
def stTEST : Nat := 7
def stLOW : Nat := 8
def stFAULT : Nat := 0xE

/-- the codes that may be written to STATE_CMD (R23). -/
def commandable (c : Nat) : Bool := [0, 2, 4, 7, 8].contains c

/-- the status codes of R48. -/
inductive Status where
  | success | unavailable | invalidValue | invalidAddress | accessDenied | busy | tableFull | tooLate
  | refusedInService | cancelled | unsupported
  deriving DecidableEq, Repr

def Status.code : Status → Nat
  | .success => 0 | .unavailable => 1 | .invalidValue => 2 | .invalidAddress => 3 | .accessDenied => 4 | .busy => 5
  | .tableFull => 6 | .tooLate => 7 | .refusedInService => 8 | .cancelled => 9 | .unsupported => 0xA

end Sys2Proof.Machine
end

