-- ==== Sys2Proof/Machine/Types.lean ====
section
/-! DEFINITION. Sys2Proof/Machine/Types.lean: what each block of the device holds that has no register of its own. -/

namespace Sys2Proof.Machine

/-- what a message, frame or level that leaves the device is. -/
inductive OutKind where
  | harlet | forward | media | lending | sender | twin | claim | ptp | pulse | pause | host | link | qfc
  deriving DecidableEq, Repr

/-- one thing the device sent: what it is, which unit sent it, and its content as numbers. -/
structure Output where
  kind : OutKind
  unit : Nat
  data : List Nat
  deriving DecidableEq, Repr

/-! ## Harlet access (chapter 02) -/

/-- one subscription entry: a page range and an event mask (R60). -/
structure Sub where
  first : Nat
  last : Nat
  mask : Nat
  deriving DecidableEq, Repr

/-- an operation's response, waiting to be packed into a response frame (R41, R42). -/
structure OpResp where
  opcode : Nat
  status : Nat
  tag : Nat
  addr : Nat
  body : List Byte
  deriving DecidableEq, Repr

/-- an accept that waits for its confirm (R44, R45). -/
structure Accept where
  sid : Nat
  keyIndex : Nat
  port : HPort
  peer : Peer
  transcript : List Byte
  secret : List Byte
  born : Nat
  deriving DecidableEq, Repr

/-- an open session (R43 to R47, R50, R60): its port and peer, its keys, the replay window of the receiving direction, the next sequence
of the sending one, the held operations outstanding and those answered whose responses have not left, its subscriptions, the responses and event records not yet sent, and
the words that reads have latched for it (R20, R272). -/
structure Session where
  sid : Nat
  port : HPort
  peer : Peer
  provisioning : Bool
  rxKey : List Byte
  txKey : List Byte
  rxHigh : Nat
  rxSeen : List Nat
  txNext : Nat
  lastFrame : Nat
  outstanding : Nat
  unsent : Nat
  subs : List Sub
  resps : List OpResp
  records : List (List Byte)
  latched : SMap Nat
  deriving DecidableEq, Repr

/-- a pending scheduled write (R55, R56). -/
structure WatEntry where
  order : Nat
  picture : Bool
  refPage : Nat
  time : Nat
  masked : Bool
  mask : Nat
  value : Nat
  target : Nat
  tag : Nat
  sid : Nat
  origin : Origin
  deriving DecidableEq, Repr

/-- what HAP holds that has no register of its own. -/
structure HapS where
  sessions : SMap Session
  accepts : List Accept
  dkey : Option Nat
  domHigh : Nat
  domSeen : List Nat
  wats : SMap WatEntry
  watOrder : Nat
  deriving DecidableEq, Repr

def HapS.reset : HapS := ⟨[], [], none, 0, [], [], 0⟩

/-! ## Ingest and conditioning (chapter 03) -/

/-- a delivered copy that the merge still knows (R80, R81): the tick at which its window ends, and, of a video packet, the picture
and the line of its first pixel. -/
structure Got where
  until_ : Nat
  key : Nat
  line : Nat
  deriving DecidableEq, Repr

/-- an undecided sequence number (R81): the tick at which its window ends, and the media time that its place gives it. -/
structure Undecided where
  end_ : Nat
  media : Nat
  deriving DecidableEq, Repr

/-- the ST 2022-7 merge of one flow, sequence numbers counted on without wrapping (R80, R81): the highest delivered, the first one,
the tick until which a number below the first is undecided, the copies delivered, and the undecided numbers between the first and the
highest. A number that is none of these is missing, or lies above the highest. -/
structure Merge where
  started : Bool
  high : Nat
  base : Nat
  baseEnd : Nat
  got : SMap Got
  expiry : SMap Undecided
  deriving DecidableEq, Repr

def Merge.reset : Merge := ⟨false, 0, 0, 0, [], []⟩

/-- a picture in an input ring (R84, R86): its key (twice its media time, and one more for a second field), the PTP ns stamp of its
first packet, its field parity, its pixels by line × 2¹⁶ + column, its concealment map, of how many of its lines the ingest deadline
has passed (R81), how many are final, whether its map is full, the tick at which it was first fed, and who still reads it, as feeds of
which ticks. -/
structure RingSlot where
  key : Nat
  stamp : Nat
  second : Bool
  pix : SMap Nat
  map : List Nat
  dueLines : Nat
  finalLines : Nat
  mapFull : Bool
  fedAs : Option Nat
  readers : List (Nat × Nat)
  deriving DecidableEq, Repr

/-- what an ING or DCH page fed at one tick (R88, R90, R92, R217): the tick's number, not cut to 32 bits, how (0 picture, 1 repeat,
2 black, 3 slate), the key of the picture fed or repeated, or a decoded picture's running number, and the captions carried onto it
(R91). -/
structure FedTick where
  n : Nat
  kind : Nat
  key : Option Nat
  carried : List Anc
  deriving DecidableEq, Repr

/-- what an ING page holds that has no register of its own: the merges of its flows, the tick at which each leg last brought a
packet, the ring oldest first, the pictures dropped or not stored and those overwritten after their feed, the number of its last tick
since it was commanded RUNNING, what it fed at its last 8 ticks, newest first, the picture fed last, the runs of R92 and R93, the
slate, whether a capture is asked for and of which picture and tick it is being stored (R94), the captions waiting for the next fed
picture, the audio samples by 48 kHz sample number, and the ANC packets by media time (R77, R78). -/
structure IngS where
  merges : SMap Merge
  legAt : SMap Nat
  ring : List RingSlot
  dropped : List Nat
  past : List Nat
  tick : Option Nat
  hist : List FedTick
  fed : Option Nat
  missRun : Nat
  foundRun : Nat
  slate : Option (SMap Nat)
  capture : Bool
  slateFrom : Option (Nat × Nat)
  carried : List Anc
  audio : SMap (List Nat)
  ancs : List (Nat × Anc)
  deriving DecidableEq, Repr

/-- see the log: [DESIGN CHOICE log 34] -/
def IngS.reset : IngS := ⟨[], [], [], [], [], none, [], none, 0, 0, none, false, none, [], [], []⟩

/-- a row of a conditioning output: the tick of its source whose feed it is of, its samples. -/
structure CndRow where
  n : Nat
  samples : List Nat
  deriving DecidableEq, Repr

/-- a conditioning unit: its LUT entries by bank × 35,937 + index (R104), which paths have taken the committed
generation (R105), the tick and row that each output gave last, and the output buffers (R129, R186): the rows by (output × 2 + parity of
their tick) × 2¹⁶ + row. -/
structure CndS where
  lut : SMap Nat
  taken : List Nat
  last : SMap (Nat × Nat)
  rows : SMap CndRow
  deriving DecidableEq, Repr

def CndS.reset : CndS := ⟨[], [], [], []⟩

/-! ## Encode channels and cores (chapters 04 to 06) -/

/-- a row's work on a physical core (R118, R127): channel, picture and row, release and window close in thirds of a ns,
and the CORE cycles of each CTU still to code. -/
structure Job where
  ch : Nat
  pic : Nat
  row : Nat
  release : Nat
  close : Nat
  ctus : List Nat
  deriving DecidableEq, Repr

/-- a physical core: the moment (thirds of a ns) up to which its work is accounted for, and its jobs. -/
structure CoreS where
  now : Nat
  jobs : List Job
  deriving DecidableEq, Repr

def CoreS.reset : CoreS := ⟨0, []⟩

/-- A row whose record is formed (R133, R156): picture, row, budget and floor cost, feed (R132), RTP timestamp and its wraps (R193),
release, window close and departure in PTP ns, the source timestamp; what its coding takes from the record and from the generations in
force there: QP chosen, effort, QP bounds, qp_conflict, slice type, active references, place in the refresh cycle; the columns whose
slices are closed, their charges, the physical core of each column, filler bytes, whether it is released, its window has closed, it was
counted late, every slice closed so far is floor, it was counted over qp_max, the columns floor-coded after a core fault, its picture
is an IDR, a join point, whether its record came from the twin lead, and whether it is settled. -/
structure EchRow where
  pic : Nat
  row : Nat
  budget : Nat
  floor : Nat
  feed : Nat
  stamp : Nat
  wraps : Nat
  release : Nat
  close : Nat
  depart : Nat
  source : Nat
  qp : Nat
  effort : Nat
  qpMin : Nat
  qpMax : Nat
  conflict : Bool
  kind : Nat
  refs : Nat
  refresh : Option Nat
  closed : List Nat
  charges : SMap Nat
  phys : SMap Nat
  filler : Nat
  released : Bool
  windowClosed : Bool
  late : Bool
  allFloor : Bool
  overQp : Bool
  forced : List Nat
  idr : Bool
  join : Bool
  fromLead : Bool
  settled : Bool
  deriving DecidableEq, Repr

/-- tokens charged to the row's closed slices. -/
def EchRow.charge (r : EchRow) : Nat := (r.charges.map Prod.snd).sum

/-- A picture on an encode channel's shelf, or being coded (R122, R187): its number, whether it is an IDR, its samples before the loop
filters by line × 2¹⁶ + column, and QP and blocks of its CTUs by row × 2¹⁶ + CTU column. -/
structure RefPic where
  pic : Nat
  idr : Bool
  raw : SMap Nat
  ctus : SMap (Nat × List CodBlock)
  deriving DecidableEq, Repr

/-- a loan asked for (R163 to R165): identifier, tokens asked, the deadline record, the tokens granted, when it was
asked, and whether an answer came. -/
structure Loan where
  ref : Nat
  asked : Nat
  pic : Nat
  row : Nat
  granted : Option Nat
  askedAt : Nat
  answered : Bool
  deriving DecidableEq, Repr

/-- an anchored accrual (R150): rate and share it is anchored for, picture and lines of the anchor, cumulative value. -/
structure Accrual where
  rate : Nat
  share : Nat
  n0 : Nat
  l0 : Nat
  cum : Nat
  deriving DecidableEq, Repr

def Accrual.reset : Accrual := ⟨0, 0, 0, 0, 0⟩

/-- what an ECH page holds that has no register of its own: whether a record is due and which, the clock it keeps
(R137), the accruals of account and hf, the rows not settled (oldest first), floor_only, its loan and the next loan
identifier, pictures begun since RUNNING, an IDR that is due, a picture that is to be one, the position since the last IDR, what the current picture
is, the last IDR, the shelf (newest first), the pictures being coded, the rows' complexities by picture and row (R129), the timestamp
state of R193, the generations of RCL and MUX it took, and the PTP ns at which its last record was formed with another member's. -/
structure EchS where
  live : Bool
  nextPic : Nat
  nextRow : Nat
  rate : Nat
  phase : Int
  acc : Accrual
  hfAcc : Accrual
  rows : List EchRow
  floorOnly : Bool
  loan : Option Loan
  nextLoan : Nat
  pictures : Nat
  idrDue : Bool
  idrAt : Option Nat
  cycle : Nat
  curIdr : Bool
  curJoin : Bool
  lastIdr : Nat
  shelf : List RefPic
  coding : List RefPic
  stats : List (Nat × Nat × Nat)
  tsLast : Option Nat
  tsM : Nat
  tsCur : Nat
  wraps : Nat
  genRcl : Nat
  genMux : Nat
  joint : Option Nat
  deriving DecidableEq, Repr

/-- see the log: [DESIGN CHOICE log 34] -/
def EchS.reset : EchS :=
  ⟨false, 0, 0, 7, 0, Accrual.reset, Accrual.reset, [], false, none, 0, 0, false, none, 0, false, false, 0, [], [], [], none, 0, 0, 0, 0,
   0, none⟩

/-- what a MUX page holds that has no register of its own: the pool's accrual and the reference member it is anchored
for (R160 to R162), the group's common QP (R156), and the tick of the first request to a remote home since its last answer (R172). -/
structure MuxS where
  acc : Accrual
  ref : Option Nat
  qp : Nat
  asked : Option Nat
  deriving DecidableEq, Repr

def MuxS.reset : MuxS := ⟨Accrual.reset, none, 0, none⟩

/-- how an entry read back at copy-out (R185): its check recomputed (none after an uncorrectable error), the copy in the ring, the
copy in the check table. -/
structure ReadBack where
  check : Option Nat
  ring : Nat
  table : Nat
  deriving DecidableEq, Repr

/-- an entry of a slice ring (R180): slice_seq, picture, row, tile column, kind bits, bytes stored with header and
padding, header bytes 0–59, NAL units, stored check, charge, timestamp and its wraps, departure in PTP ns, how
copy-out read it (none before it is read), and the tag of its packets once they are written. -/
structure RingEntry where
  seqNo : Nat
  pic : Nat
  row : Nat
  col : Nat
  kind : Nat
  len : Nat
  header : List Byte
  nals : List (List Byte)
  check : Nat
  charge : Nat
  stamp : Nat
  wraps : Nat
  depart : Nat
  read : Option ReadBack
  tag : Option Nat
  deriving DecidableEq, Repr

/-- its packets are written. -/
def RingEntry.copied (e : RingEntry) : Bool := e.tag.isSome

/-- a ring segment (R179): its three offsets, bytes of closed entries, peak, the entries oldest first, and, while the core is stalled
on it, the tick since which it is (R182). -/
structure Seg where
  wp : Nat
  rp : Nat
  bm : Nat
  used : Nat
  peak : Nat
  entries : List RingEntry
  stalled : Option Nat
  deriving DecidableEq, Repr

def Seg.reset : Seg := ⟨0, 0, 0, 0, 0, [], none⟩

/-- slices whose packets wait in the output queues (R190): picture, row, the departure R125 gives the row, the planned
departure, how many slices, and the first and last tag of their packets. -/
structure Ready where
  pic : Nat
  row : Nat
  due : Nat
  depart : Nat
  slices : Nat
  first : Nat
  last : Nat
  deriving DecidableEq, Repr

/-- the filler of a row that is still to be sent (R191): picture, row, bytes, timestamp. -/
structure Filler where
  pic : Nat
  row : Nat
  bytes : Nat
  stamp : Nat
  deriving DecidableEq, Repr

/-- a re-code that is due (R186): the entry it replaces. -/
structure Recode where
  entry : RingEntry
  deriving DecidableEq, Repr

/-- what an OUT page holds that has no register of its own: whether its ring is allocated, the segments, the channel's slots of the
check table by slice_seq mod 64 (R184), the RTP sequence, what waits for departure and the next tag, fillers to send, re-codes due, legs
that drop, by leg the PTP ns before which no packet leaves (R190), and the transport-stream state (continuity counters by
PID, the ns at which the tables went last, TS packets waiting for their datagram). -/
structure OutS where
  ring : Bool
  segs : SMap Seg
  table : SMap (Nat × Nat)
  seq : Nat
  ready : List Ready
  nextTag : Nat
  fillers : List Filler
  recodes : List Recode
  dropping : List Nat
  slotAt : SMap Nat
  cc : SMap Nat
  tables : Nat
  tsWait : List (List Nat)
  deriving DecidableEq, Repr

/-- see the log: [DESIGN CHOICE log 34] -/
def OutS.reset : OutS := ⟨false, [], [], 0, [], 0, [], [], [], [], [], 0, []⟩

/-- the rotation step (R138, R446): what is under way (0 nothing, 1 waiting for a picture start, 2 shadowing, 3 switching),
the logical core, X and S as physical cores, the last step's slice mismatch by channel, picture and row (R141), the picture at which
the shadowing ends, the channels that have moved, and the tick of the last step. -/
structure RotS where
  phase : Nat
  logical : Nat
  x : Nat
  sp : Nat
  mismatch : Option (Nat × Nat × Nat)
  endPic : Nat
  moved : List Nat
  lastStep : Nat
  deriving DecidableEq, Repr

/-- see the log: [DESIGN CHOICE log 34] -/
def RotS.reset : RotS := ⟨0, 0, 0, 0, none, 0, [], 0⟩

/-! ## Decode channels and senders (chapter 07) -/

/-- A decoded picture on the shelf (R209 to R212): a running number of the channel's own, POC, shelfmark (0 unused,
1 short-term, 2 long-term, 3 substitute) and whether it is listed as long-term, whether it awaits output, whether it may
be fed, taint, whether it opens a clean random-access point, its size, pixels, concealment map, time stamp, parity, the PTP ns at
which it became ready and its place in output order, the tick that fed it, pictures fed since, and who still reads it, as the
feed of which tick. -/
structure DecPic where
  uid : Nat
  poc : Int
  mark : Nat
  long : Bool
  awaiting : Bool
  feedable : Bool
  tainted : Bool
  clean : Bool
  width : Nat
  height : Nat
  pix : SMap Nat
  map : List Nat
  mapFull : Bool
  stamp : Nat
  second : Bool
  ready : Option Nat
  outNo : Nat
  fedAs : Option Nat
  after : Nat
  readers : List (Nat × Nat)
  deriving DecidableEq, Repr

/-- the picture in the decode slot: its access unit, the mode in force at its first slice, whether it is an IRAP, whether
a case of R213 was met in it, the CTUs decoded or concealed and those at which a syntax error began, both in decoding order,
what its PPS gives as that order, and the type and offset of its last slice. -/
structure CurPic where
  pic : DecPic
  au : Nat
  mode : Nat
  irap : Bool
  damaged : Bool
  covered : List Nat
  errs : List Nat
  scan : List Nat
  nalType : Nat
  offset : Nat
  deriving DecidableEq, Repr

/-- what a DCH page holds that has no register of its own: its merge, the numbers of the packets in the compressed buffer, parameter
sets, the active SPS, whether a stream is unsupported, a start at a CRA or at a GDR or recovery-point picture before its
recovery point, the recovery point awaited, the shelf, the picture being decoded, taint, the last packet of the NAL unit passed
last (R207), the access unit before the first random-access point and the NAL units held of it while it is not known to be
discarded (R216), the number of its last tick since it was commanded RUNNING, what it fed at its last 8 ticks, newest first, the
picture fed last, and the runs of R92 and R93. -/
structure DchS where
  merge : Merge
  legAt : SMap Nat
  pkts : List Nat
  spss : SMap Sps
  ppss : SMap Pps
  apss : List Nat
  active : Option Sps
  unsupported : Bool
  craStart : Bool
  rapStart : Bool
  recovery : Option (Int × Bool)
  dpb : SMap DecPic
  hold : SMap DecPic
  cur : Option CurPic
  nextUid : Nat
  nextOut : Nat
  cleanFrom : Nat
  taintOn : Bool
  cleanFed : Bool
  nalNext : Option Nat
  preAu : Option (Nat × Option Nat)
  tick : Option Nat
  hist : List FedTick
  fed : Option Nat
  missRun : Nat
  foundRun : Nat
  deriving DecidableEq, Repr

/-- see the log: [DESIGN CHOICE log 34] -/
def DchS.reset : DchS :=
  ⟨Merge.reset, [], [], [], [], [], none, false, false, false, none, [], [], none, 0, 0, 0, false, false, none, none, none, [], none,
   0, 0⟩

/-- a packet of a sender's picture that has not been formed yet (R224): the PTP ns at which it leaves, marker, extended sequence
number, timestamp, payload bytes. -/
structure SndPkt where
  due : Nat
  marker : Bool
  seq : Nat
  ts : Nat
  payload : List Nat
  deriving DecidableEq, Repr

/-- what an SND page holds that has no register of its own: the next extended sequence number, the rate code and phase
of its source's clock and the last tick on it, the picture sent last by rows, the packets of the picture in progress still to come,
and the legs whose packets it drops (R196). -/
structure SndS where
  seq : Nat
  rate : Nat
  phase : Int
  tick : Nat
  last : Option (List (List Nat))
  todo : List SndPkt
  dropping : List Nat
  deriving DecidableEq, Repr

/-- see the log: [DESIGN CHOICE log 34] -/
def SndS.reset : SndS := ⟨0, 7, 0, 0, none, [], []⟩

/-! ## Twin operation (chapter 08) -/

/-- the join state of a mirrored channel on a follower (R235). -/
inductive Join where
  | waiting | joining | settling | joined | linkLost | diverged
  deriving DecidableEq, Repr

/-- a record received from the lead (R247): header bytes and concealment entries. -/
structure TwRec where
  ch : Nat
  pic : Nat
  row : Nat
  header : List Byte
  entries : List Nat
  deriving DecidableEq, Repr

/-- a CHECK received (R243). -/
structure TwCheck where
  ch : Nat
  col : Nat
  seqNo : Nat
  check : Nat
  replace : Bool
  deriving DecidableEq, Repr

/-- a snapshot as it arrives (R257): the channel, its picture, the bytes so far, whether its commit was verified. -/
structure TwSnap where
  pic : Nat
  bytes : List Byte
  verified : Bool
  deriving DecidableEq, Repr

/-- a yield or handover under way (R260, R261): mode, H in PTP ns, whether this device gives the lead, whether it was
acknowledged, and the tick of its notice. -/
structure Yield where
  mode : Nat
  at_ : Nat
  gives : Bool
  acked : Bool
  since : Nat
  deriving DecidableEq, Repr

/-- what TWN holds that has no register of its own: join states by channel, channels to whose follower a lead sends records, records held,
records a lead awaits the ACK of (channel, picture, row, tick), checks held, picture checks of both sides by channel,
picture and column, the pictures known clean by channel, ticks of the last claim frame and heartbeat and the send time
of the latter, how many non-lead frames followed a lead's, what heartbeats told (governor level, role, firmware,
stepping, sequences by channel), the quarter sent next, the doubt's start, a yield, snapshots and join requests,
input sequences asked for (source × 8 + flow, sequence), since when the page listens, channels moving in a handover, the newest epoch
heard, what a heartbeat must be fresh for to end the doubt, when the next heartbeat leaves, and whether a lead has stopped sending them
for an error in its own state (R266). -/
structure TwnS where
  join : SMap Join
  paired : List Nat
  recs : List TwRec
  awaits : List (Nat × Nat × Nat × Nat)
  checks : List TwCheck
  ownPic : SMap Nat
  leadPic : SMap Nat
  clean : SMap (List Nat)
  claimAt : Option Nat
  hbAt : Option Nat
  hbSent : Nat
  notLead : Nat
  wasLead : Bool
  govLevel : Nat
  hbRole : Nat
  partnerStep : Nat
  seqs : SMap (Nat × Nat)
  quarter : Nat
  doubtAt : Option Nat
  yield : Option Yield
  snaps : SMap TwSnap
  joinReqs : SMap Nat
  patches : List (Nat × Nat)
  listenAt : Nat
  leaving : List Nat
  heardEpoch : Nat
  doubtNs : Nat
  hbNext : Nat
  silent : Bool
  deriving DecidableEq, Repr

/-- see the log: [DESIGN CHOICE log 34] -/
def TwnS.reset : TwnS :=
  ⟨[], [], [], [], [], [], [], [], none, none, 0, 0, false, 3, 0, 0, [], 0, none, none, [], [], [], 0, [], 0, 0, 0, false⟩

/-! ## Time (chapter 09) -/

/-- an entry of a transmit time-stamp queue: identifier and stamp (R286). -/
structure TxEntry where
  ident : Nat
  stamp : Nat
  deriving DecidableEq, Repr

/-- one stamped edge: time counter value in 2⁻³² ns, eighths of a nanosecond, direction (R284). -/
structure CapEntry where
  stamp : Nat
  eighths : Nat
  rising : Bool
  deriving DecidableEq, Repr

/-- one port's PTP instance (R273, R274, R281, R286). -/
structure TimPort where
  chosen : Option Announce
  annEnd : Nat
  samples : List Int
  jumps : Nat
  jumpUp : Bool
  guardEnd : Nat
  holdSamples : List Int
  txq : List TxEntry
  abandoned : Bool
  deriving DecidableEq, Repr

/-- what TIM holds that has no register of its own: the counter in units of 2⁻³² ns (R270), the two terms of adj
(R271), the counts of R276 to R278, the inputs and outputs, the tick at which each pulse ends (R285), the frequency terms of the
last 1,000 s with the tick each was set at, newest first (R277), and since when port A has met what mode 1 asks (R275). -/
structure TimS where
  count : Nat
  freq : Int
  phaseAmount : Int
  phaseLeft : Int
  solAt : Nat
  solOffset : Int
  lockRun : Nat
  unlockRun : Nat
  firstFour : List Int
  crossBad : Nat
  crossGood : Nat
  excursion : Bool
  clamped : Bool
  grantEnd : Nat
  stopAt : Nat
  ports : SMap TimPort
  caps : SMap (List CapEntry)
  pulses : SMap Nat
  pulseEnd : SMap Nat
  freqLog : List (Nat × Int)
  aGood : Option Nat
  deriving DecidableEq, Repr

def TimPort.reset : TimPort := ⟨none, 0, [], 0, false, 0, [], [], false⟩

/-- see the log: [DESIGN CHOICE log 34] -/
def TimS.reset : TimS :=
  ⟨0, 0, 0, 0, 0, 0, 0, 0, [], 0, 0, false, false, 0, 0, [], [], [], [], [], none⟩

/-! ## Serial lanes (chapter 10) -/

/-- what an LNE page holds that has no register of its own: the bring-up step (0 none), whether it is a fast
re-acquisition after a loss of lock, the tick of a failure that waits for its retry, the runs of blocks below and above the
warn and alarm thresholds (R298), bad blocks in a row (R303), blocks since CTLE was re-evaluated (R301), the
tick at which the last calibration window ends, whether its swap is still due, and whether a lane in LOW_POWER returns to RUNNING
at its next block end (R306). -/
structure LneS where
  step : Nat
  fast : Bool
  lost : Bool
  failAt : Option Nat
  warnLow : Nat
  warnHigh : Nat
  alarmLow : Nat
  alarmHigh : Nat
  badRun : Nat
  blocks : Nat
  calEnd : Nat
  swapDue : Bool
  wakeDue : Bool
  deriving DecidableEq, Repr

/-- see the log: [DESIGN CHOICE log 34] -/
def LneS.reset : LneS := ⟨0, false, false, none, 0, 0, 0, 0, 0, 0, 0, false, false⟩

/-! ## Ethernet ports (chapter 11) -/

/-- a frame that waits in the MAC receive buffer (R322, R361): its queue, its flow if it is essence, leg, priority,
content, stamp, length, and the tick from which its write side counts as stalled. -/
structure WaitFrame where
  queue : Nat
  flow : Option Flow
  legB : Bool
  prio : Nat
  pkt : MediaPkt
  stamp : Nat
  bytes : Nat
  since : Nat
  deriving DecidableEq, Repr

/-- what an ETH page holds that has no register of its own: by subport × 8 + priority the tick to which a received pause
holds it, by priority (0 for 802.3x pause) the tick at which XOFF was sent last, the frames that wait, by subport the
tick from which its alignment has held without fault, the subports LACP reports in sync, the tick of the last FEC event, and
the speed that port M's partner shared at link up (R313), and by flow the slice or picture that it sends and the subport that carries
it (R315). -/
structure EthS where
  paused : SMap Nat
  xoff : SMap Nat
  waiting : List WaitFrame
  upFrom : SMap Nat
  inSync : List Nat
  fecAt : Option Nat
  shared : Nat
  steer : SMap (Nat × Option Nat)
  deriving DecidableEq, Repr

/-- see the log: [DESIGN CHOICE log 34] -/
def EthS.reset : EthS := ⟨[], [], [], [], [], none, 0, []⟩

/-! ## Iztaub links (chapter 12) -/

/-- a data frame of the sending side (R335): virtual lane, marks, payload. -/
structure IzlTx where
  vl : Nat
  som : Bool
  eom : Bool
  payload : List Byte
  deriving DecidableEq, Repr

/-- a message accepted whole that its client has not taken yet (R338, R340): virtual lane, frames, bytes. -/
structure IzlMsg where
  vl : Nat
  frames : Nat
  bytes : List Byte
  deriving DecidableEq, Repr

/-- what an IZL page holds that has no register of its own: frames waiting by virtual lane, the replay buffer with its
sequences, the next sequence and the next expected one, the next sequence of a rewind in progress and the ack it rewound
to, the tick ack advanced last, the tick of the last nak while frames are discarded, the partner's and this side's
cumulative credit counts, how long lower virtual lanes have waited (R339), partial and whole messages received, the width request
this side's receiver makes and the one its sender must follow, the marker index, since when each logical lane left out has
been good, the routes the partner announced, and the slots it granted by virtual lane. -/
structure IzlS where
  waiting : SMap (List IzlTx)
  buffer : List (Nat × IzlTx)
  nextSeq : Nat
  expect : Nat
  rewind : Option Nat
  lastNak : Option Nat
  ackAt : Nat
  nakAt : Option Nat
  seen : SMap Nat
  freed : SMap Nat
  skipped : SMap Nat
  part : SMap IzlMsg
  inbox : List IzlMsg
  req : Option (Nat × Nat)
  txReq : Option (Nat × Nat)
  markers : Nat
  goodSince : SMap Nat
  heard : List (Nat × Nat)
  granted : List Nat
  deriving DecidableEq, Repr

/-- see the log: [DESIGN CHOICE log 34] -/
def IzlS.reset : IzlS := ⟨[], [], 0, 0, none, none, 0, none, [], [], [], [], [], none, none, 0, [], [], []⟩

/-- a route (R346): member device, outgoing link, hops. -/
structure Route where
  device : Nat
  link : Nat
  hops : Nat
  deriving DecidableEq, Repr

/-! ## The stacks (chapter 13) -/

/-- a packet in a queue (R356): its cells, and what it carries: a media packet with its leg and stamp for the receive
side, packets with their departure as numbers for the transmit side. -/
structure StkPkt where
  cells : Nat
  media : Option (MediaPkt × Bool × Nat)
  data : List Nat
  deriving DecidableEq, Repr

/-- one queue (R357 to R366): its settings in cells, whether firmware has enabled it, cells held, packets oldest first,
whether it is frozen or congested, its peak, and the frames rewound on refusal. -/
structure QueueS where
  min : Nat
  max : Nat
  high : Nat
  low : Nat
  prio : Nat
  qfc : Nat
  enabledFw : Bool
  count : Nat
  pkts : List StkPkt
  frozen : Bool
  congested : Bool
  peak : Nat
  drops : Nat
  deriving DecidableEq, Repr

/-- a write side that waits for a cell (R361): its queue, the packet, and the tick at which it stalled. -/
structure Stall where
  queue : Nat
  pkt : StkPkt
  since : Nat
  deriving DecidableEq, Repr

/-- what STK holds that has no register of its own: the queues, the stalled write sides by stack port, the tick at which
each QFC pin became active, the stack ports whose stall raised its alarm, and a rebuild that runs. -/
structure StkS where
  queues : SMap QueueS
  stalls : SMap (List Stall)
  qfcAt : SMap Nat
  alarmed : List Nat
  rebuilding : Bool
  deriving DecidableEq, Repr

/-- see the log: [DESIGN CHOICE log 34] -/
def StkS.reset : StkS := ⟨[], [], [], [], false⟩

/-! ## The circulation desk (chapter 14) -/

/-- a slip (R372) with its slip number, and the tick since which it waits in its ready list. -/
structure Slip where
  no : Nat
  cls : Nat
  notify : Bool
  handler : Nat
  tag : Nat
  source : Nat
  posted : Nat
  args : List Byte
  since : Nat
  deriving DecidableEq, Repr

/-- a slip that runs: since which tick, whether a cancel has matched it, whether its run limit has been reported. -/
structure RunSlip where
  slip : Slip
  start : Nat
  late : Bool
  overran : Bool
  deriving DecidableEq, Repr

/-- a completion record (R382). -/
structure CplRec where
  tag : Nat
  result : Nat
  core : Nat
  status : Nat
  deriving DecidableEq, Repr

/-- a host slip queue: its settings (HSQ_CFG), the slips it holds, its in-flight count, the FAB cycles of waiting counted
so far and the tick since which a SLIP_POST waits, and its completion FIFO (R374, R382, R387). -/
structure HostQ where
  en : Bool
  classMax : Nat
  inflightMax : Nat
  depth : Nat
  held : List Slip
  inflight : Nat
  stalls : Nat
  waitSince : Option Nat
  fifo : List CplRec
  deriving DecidableEq, Repr

def HostQ.reset : HostQ := ⟨true, 3, 64, 16, [], 0, 0, none, []⟩

/-- an Obrov core as the desk sees it: its settings (CORE_CFG), whether it is in service (0), resetting (2) or in FAULT (3)
and since which tick, and its two carrels. -/
structure DeskCore where
  en : Bool
  mask : Nat
  phase : Nat
  phaseAt : Nat
  run : Option RunSlip
  pf : Option Slip
  deriving DecidableEq, Repr

def DeskCore.reset : DeskCore := ⟨true, 255, 0, 0, none, none⟩

/-- what CIR holds that has no register of its own: the host slip queues, the ready lists by class, the cores, the
SLIP_POSTs that wait, and the requests that hardware channels hold with the tick of their posting. -/
structure CirS where
  queues : SMap HostQ
  ready : SMap (List Slip)
  cores : SMap DeskCore
  posts : List (Req × Nat × List Byte)
  hwHeld : SMap (List Byte × Nat)
  deriving DecidableEq, Repr

/-- see the log: [DESIGN CHOICE log 34] -/
def CirS.reset : CirS := ⟨[], [], [], [], []⟩

/-! ## The HBM controllers (chapter 15) -/

/-- a request that waits, with the tick at which it arrived. -/
structure HReq where
  a : HbmAccess
  since : Nat
  deriving DecidableEq, Repr

/-- a pseudo-channel: its condition (0 active, 1 entering self-refresh, 2 in it, 3 released), refresh debt and the tick of
its next interval, whether catch-up runs (R395), requests waiting oldest first, open rows by bank with the tick of their
last hit, activation counts by bank × 2¹⁴ + row (R396), throttled requesters by requester × 64 + bank with the tick of
their last activation, closed banks, whether it drains its writes, the tick until which it is closed, since which it is idle, to
which it has been worked through, and at which SRE is issued, the pause slot last served and the tick at which a pause ends (R399), corrected bursts, and by lane: low eyes in
a row, corrected symbols of this period, repairs due (R400), and the bursts written back to read as uncorrectable, by (bank ×
2¹⁴ + row) × 32 + burst (R401). -/
structure PcS where
  mode : Nat
  debt : Nat
  nextRefi : Nat
  catchUp : Bool
  queue : List HReq
  rows : SMap (Nat × Nat)
  counts : SMap Nat
  throttled : SMap Nat
  bankUntil : SMap Nat
  draining : Bool
  closedUntil : Nat
  idleSince : Nat
  seenAt : Nat
  sreAt : Nat
  lastSlot : Option Nat
  pausedUntil : Nat
  corr : Nat
  lowEyes : SMap Nat
  symbols : SMap Nat
  period : Nat
  due : List Nat
  poisoned : List Nat
  deriving DecidableEq, Repr

def PcS.reset : PcS := ⟨0, 0, 0, false, [], [], [], [], [], false, 0, 0, 0, 0, none, 0, 0, [], [], 0, [], []⟩

/-- what an HBM page holds that has no register of its own: its pseudo-channels, the requests whose requester has no
credit, failed temperature readings in a row, since when the doubled rate applies, the tick at which the row-hammer window
opened, the tick of the last corrected-error event, and by pseudo-channel × 4 the counters of R405 that belong to one: uncorrectable
bursts, threshold crossings, aborted entries, repairs. -/
structure HbmS where
  pcs : SMap PcS
  blocked : List (Nat × HReq)
  tempFails : Nat
  hotSince : Nat
  windowAt : Nat
  corrAt : Option Nat
  pcCounts : SMap Nat
  deriving DecidableEq, Repr

/-- see the log: [DESIGN CHOICE log 34] -/
def HbmS.reset : HbmS := ⟨[], [], 0, 0, 0, none, []⟩

/-- a buffer placed in HBM (R390): its stack, its pseudo-channels, its bytes and committed traffic on each of them. -/
structure HbmBuf where
  stack : Nat
  pcs : List Nat
  bytes : Nat
  mbps : Nat
  deriving DecidableEq, Repr

/-! ## The check units (chapter 16) -/

/-- what a CHK page holds that has no register of its own: the message bytes fed so far, the packets processed since
STREAM.en was set (R410, R412), and the low words written to 64-bit pairs, by offset, until their high word is (R416). -/
structure ChkS where
  fed : List Byte
  packets : Nat
  lows : SMap Nat
  deriving DecidableEq, Repr

/-- see the log: [DESIGN CHOICE log 34] -/
def ChkS.reset : ChkS := ⟨[], 0, []⟩

/-! ## Firmware, provenance and settings (chapter 17) -/

/-- an image as stored in the archive store (R426 to R428, R432): the header of its package, the plaintext that its
encryption at rest opens to, and whether it is marked valid. -/
structure StoredImage where
  header : List Byte
  plain : List Byte
  valid : Bool
  deriving DecidableEq, Repr

/-- one slot of the catalogue (R437): its generation, its schema, and the committed RWC fields and STATE_CMD by `Fld.key`. No
chapter marks an RW setting as saved. -/
structure CatSlot where
  gen : Nat
  schema : Nat
  committed : SMap Nat
  deriving DecidableEq, Repr

/-- a staged package, settings or folio (R430, R432): its type and wire length, the parts received newest first, whether a
VERIFY has passed, and the type installed from it in this session. -/
structure Staging where
  kind : Nat
  length : Nat
  parts : List (Nat × List Byte)
  installed : Bool
  deriving DecidableEq, Repr

/-- an INSTALL in progress (R432): the request it answers, if a session made it, with its address word, and what it writes. -/
structure Installing where
  req : Option Req
  addr : Nat
  kind : Nat
  header : List Byte
  plain : List Byte
  deriving DecidableEq, Repr

/-- what FWL holds that has no register of its own. The archive store: controller keys by slot (R44, R436), the stored main
image, the two loader copies, the golden vectors, the folio and the catalogue. Then the provenance slots (R423), how far the
boot has come (0 not run, 3 waiting at step 4, 6 complete), boots in a row that stopped before step 6, the
staging, the install, the quotes being formed and those that wait (R425), the last catalogue save and the one in progress,
and, in recovery, since when the lock has been free and whether the twin source has been asked (R434); last the folio export that
FOLIO_EXPORT reads (R441). -/
structure FwlS where
  keys : SMap (List Byte)
  image : Option StoredImage
  loaderA : Option StoredImage
  loaderB : Option StoredImage
  vectors : Option StoredImage
  folio : List Byte
  catalogue : SMap CatSlot
  prov : SMap (List Byte)
  repairs : SMap (List Nat)
  stage : Nat
  stopped : Nat
  staging : Option Staging
  installing : Option Installing
  closing : Bool
  quotes : List (Req × Nat × List Byte)
  lastSave : Option Nat
  saving : Option CatSlot
  freeSince : Nat
  asked : Bool
  exported : List Byte
  deriving DecidableEq, Repr

/-- the device as it leaves the factory: the archive store's contents are Kalfin's (R418, R440), no controller key and no
catalogue slot is stored, and the boot ROM has not run. [DESIGN CHOICE log 33] -/
def FwlS.reset : FwlS :=
  ⟨[], some ⟨Config.factoryHeader 1, Config.factoryImage 1, true⟩, some ⟨Config.factoryHeader 2, Config.factoryImage 2, true⟩,
    some ⟨Config.factoryHeader 2, Config.factoryImage 2, true⟩, some ⟨Config.factoryHeader 3, Config.factoryImage 3, true⟩,
    Config.factoryFolio, [], [], [], 0, 0, none, none, false, [], none, none, 0, false, []⟩

/-! ## Health and the annals (chapter 18) -/

/-- what the annals hold, and one record of them: sequence, the counters of R454 by index, the calendar in TAI seconds
and whether it was set while locked (R456, R457), and, for a record made while TIME is not locked, its MGT tick stamp (R21). -/
structure AnnRec where
  seq : Nat
  counters : SMap Nat
  calendar : Nat
  calLocked : Bool
  tick : Option Nat
  deriving DecidableEq, Repr

/-- a snapshot of a failing equation: family, instance, TIME µs stamp, terms (R451, R461). -/
structure Snap where
  family : Nat
  inst : Nat
  stamp : Nat
  terms : List Nat
  deriving DecidableEq, Repr

/-- What HLT holds that has no register of its own: the annals, the valid slots of their region, when they were
written and flushed last, fractions of a stress second and of a joule, the last Tj and the second's highest, how thermal cycles
are tracked (their reference 255 before a first reading), the governor's dwell and the levels a stack's heat brought, the snapshots, the instances that fail, FAULT_N held, whether stocktake has stopped, the test
requested, whether a lock has come since standby power-up, and by decode core the tick of its last interval test. -/
structure HltS where
  ann : AnnRec
  slots : SMap AnnRec
  lastWrite : Nat
  lastFlush : Option Nat
  stressFrac : Nat
  energyFrac : Nat
  tjNow : Nat
  tjSecond : Nat
  cycleArmed : Bool
  cycleRef : Nat
  belowSince : Option Nat
  byStack : List Nat
  snaps : List Snap
  failing : List (Nat × Nat)
  faultHeld : Bool
  stocktakeDead : Bool
  testKind : Nat
  testUnit : Nat
  testForce : Bool
  lockSeen : Bool
  decTests : SMap Nat
  deriving DecidableEq, Repr

/-- see the log: [DESIGN CHOICE log 33] -/
def HltS.reset : HltS :=
  ⟨⟨0, [], 0, false, none⟩, [], 0, none, 0, 0, 0, 0, true, 255, none, [], [], [], false, false, 0, 0, false, false, []⟩

/-! ## Power (chapter 19) -/

/-- what PWR holds that has no register of its own: whether the main domain is powered and out of reset, whether a
standby reset holds the device, whether the VIN side has been up since that reset and whether VIN was lost, the wake
tolerances by kind and index (R478), the unit states by class and instance (R477), the units that are waking, and the
voltage of the two adaptive rails (R472), the ticks at which standby power-up ended (R21) and at which the last standby or cold
reset took the states of the pages (R28). -/
structure PwrS where
  mainRun : Bool
  inReset : Bool
  hadVin : Bool
  vinLost : Bool
  fatal : Bool
  tol : SMap Nat
  units : SMap Nat
  waking : List Nat
  railCore : Nat
  railFab : Nat
  moveFrom : Nat
  upAt : Nat
  resetAt : Nat
  deriving DecidableEq, Repr

def PwrS.reset : PwrS := ⟨false, false, false, false, false, [], [], [], 0, 0, 3, 0, 0⟩

/-- the MGT tick stamp: 5 ns ticks since standby power-up (R21). -/
def PwrS.tick (clk : Nat) (p : PwrS) : Nat := (clk - p.upAt) % 2 ^ 64

end Sys2Proof.Machine
end

