-- ==== Sys2Proof/Machine/State.lean ====
section
/-! DEFINITION. Sys2Proof/Machine/State.lean: the state of the device, its reset value, and why a command can stop. -/

namespace Sys2Proof.Machine

/-- Why a command stops with a fault. No command of this model does: everything the spec calls an error is a state, a
status or a counter, so this type names only the one thing the host's interface could not otherwise say. -/
inductive Fault where
  /-- raised by nothing in this model; safe, since a command that never faults hides no behaviour behind it. -/
  | none
  deriving DecidableEq, Repr

/-- Why a command is refused without a meaning. -/
inductive Refusal where
  /-- raised by the dispatch for a command whose meaning is not written; safe, since nothing can be proved of it. -/
  | notModelled (mnemonic : String)
  deriving DecidableEq, Repr

/-- The VT8160. A quantity that has a register lives in `regs` (its one home); the other fields hold what has none. -/
structure State where
  /-- the commands that wait, first in first out. -/
  pending : List Instr
  /-- MGT ticks of 5 ns since standby power-up (R21). -/
  clk : Nat
  /-- every register field's current value, by `Fld.key`; a field not listed holds its reset value. -/
  regs : SMap Nat
  /-- every RWC field's shadow (R9, R68). -/
  shadow : SMap Nat
  /-- every RWC field's last committed value (R68). -/
  committed : SMap Nat
  /-- by page: the tick of STATE_ACT's last change; a page not listed changed last at the reset `pwr.resetAt` (R28). -/
  actAt : SMap Nat
  /-- by page: ticks of the governing frame clock since the states began to differ (R29). -/
  ticks : SMap Nat
  /-- what the device has sent to the outside, oldest first (the model's own trace). -/
  out : List Output
  /-- how many free values the model has drawn (the model's own counter). -/
  free : Nat
  hap : HapS
  ing : SMap IngS
  cnd : SMap CndS
  ech : SMap EchS
  mux : SMap MuxS
  outs : SMap OutS
  cores : SMap CoreS
  rot : RotS
  dch : SMap DchS
  snd : SMap SndS
  twn : TwnS
  tim : TimS
  lne : SMap LneS
  eth : SMap EthS
  izl : SMap IzlS
  /-- the device-wide route table, this device not listed (R346, R353). -/
  routes : List Route
  stk : StkS
  cir : CirS
  hbm : SMap HbmS
  /-- the buffers placed in HBM, by owning page (R390). -/
  bufs : SMap HbmBuf
  chk : SMap ChkS
  fwl : FwlS
  hlt : HltS
  pwr : PwrS
  deriving DecidableEq, Repr

/-- where a field of page `p` lives in the register maps. -/
def Fld.key (p : Nat) (f : Fld) : Nat := p * 2 ^ 20 + f.loc

/-- the states in which a standby reset leaves the standby pages: DEV, HAP and PWR read RUNNING (R72, R489, R491), port M, its
lane, TIM and HLT IDLE (R288, R308, R329), FWL RESET until its loader runs. [DEDUCED log 20; DESIGN CHOICE log 28] -/
def standbyStates : SMap Nat :=
  [(HDR.ACT_state.key pgDEV, stRUNNING), (HDR.ACT_state.key pgHAP, stRUNNING), (HDR.ACT_state.key (pgETH 2), stIDLE),
   (HDR.ACT_state.key (pgLNE 32), stIDLE), (HDR.ACT_state.key pgTIM, stIDLE), (HDR.ACT_state.key pgPWR, stRUNNING),
   (HDR.ACT_state.key pgHLT, stIDLE)]

/-- the device right after the standby reset that follows standby power-up, with VIN off and before its boot ROM runs (R420,
R466, R482, R485): every register at the value its field map gives, no session, no pending write, an empty queue. [DESIGN CHOICE log 28, 33] -/
def State.reset : State where
  pending := []
  clk := 0
  regs := standbyStates
  shadow := []
  committed := []
  actAt := []
  ticks := []
  out := []
  free := 0
  hap := HapS.reset
  ing := []
  cnd := []
  ech := []
  mux := []
  outs := []
  cores := []
  rot := RotS.reset
  dch := []
  snd := []
  twn := TwnS.reset
  tim := TimS.reset
  lne := []
  eth := []
  izl := []
  routes := []
  stk := StkS.reset
  cir := CirS.reset
  hbm := []
  bufs := []
  chk := []
  fwl := FwlS.reset
  hlt := HltS.reset
  pwr := PwrS.reset

end Sys2Proof.Machine
end

