-- ==== Sys2Proof/Machine/Operands.lean ====
section
/-! DEFINITION. Sys2Proof/Machine/Operands.lean: the forms in which operands and messages carry numbers: the one CRC
computation (R407 to R409) and the 8-byte time of R180. -/

namespace Sys2Proof.Machine

/-! ## Check values (R407, R409) -/

/-- the low `w` bits of `n` in reverse order. -/
def reflect (w n : Nat) : Nat := (List.range w).foldl (fun r k => if n.testBit k then r + 2 ^ (w - 1 - k) else r) 0

/-- the settings of a check unit (R407). -/
structure CrcCfg where
  w : Nat
  poly : Nat
  init : Nat
  refin : Bool
  refout : Bool
  xorout : Nat
  deriving DecidableEq, Repr

/-- one shift of the register. -/
def crcShift (c : CrcCfg) (r : Nat) : Nat :=
  if r.testBit (c.w - 1) then Nat.xor (r * 2 % 2 ^ c.w) c.poly else r * 2 % 2 ^ c.w

/-- one byte enters, reflected if refin. -/
def crcByte (c : CrcCfg) (r : Nat) (b : Byte) : Nat :=
  let v := if c.refin then reflect 8 b.toNat else b.toNat
  (List.range 8).foldl (fun r _ => crcShift c r) (Nat.xor r (v * 2 ^ (c.w - 8)))

/-- refout and xorout. -/
def crcEnd (c : CrcCfg) (r : Nat) : Nat := Nat.xor (if c.refout then reflect c.w r else r) c.xorout % 2 ^ c.w

/-- the check of prefix, message and suffix bytes (R407). -/
def crc (c : CrcCfg) (l : List Byte) : Nat := crcEnd c (l.foldl (crcByte c) (c.init % 2 ^ c.w))

def crc8 : CrcCfg := ⟨8, 0x07, 0, false, false, 0⟩
def crc16 : CrcCfg := ⟨16, 0x1021, 0xFFFF, false, false, 0⟩
def crc32 : CrcCfg := ⟨32, 0x04C11DB7, 0xFFFFFFFF, true, true, 0xFFFFFFFF⟩
def crc32c : CrcCfg := ⟨32, 0x1EDC6F41, 0xFFFFFFFF, true, true, 0xFFFFFFFF⟩
def crc64 : CrcCfg := ⟨64, 0x42F0E1EBA9EA3693, 2 ^ 64 - 1, true, true, 2 ^ 64 - 1⟩

/-! ## Times -/

/-- the time form of the slice header (R180): low 34 bits of the PTP seconds, 30 bits of nanoseconds. -/
def timeForm (ns : Nat) : Nat := ns / 10 ^ 9 % 2 ^ 34 * 2 ^ 30 + ns % 10 ^ 9

/-- the ns that such a time spells. -/
def timeOfForm (w : Nat) : Nat := w / 2 ^ 30 * 10 ^ 9 + w % 2 ^ 30

end Sys2Proof.Machine
end

