-- ==== Sys2Proof/Machine/Ops.lean ====
section
/-! DEFINITION. Sys2Proof/Machine/Ops.lean: the named operations over the state that every block shares: reading and
writing register fields, time, events (R10, R60, R61, R66, R67), the state registers (R22 to R29), shadows and
generations (R68, R69), and responses (R41, R42, R48, R52). -/

namespace Sys2Proof.Machine

/-! ## Register fields -/

/-- the figure-of-merit thresholds a lane has at reset (R298): lane 32 has its own. -/
def threshReset (lane32 : Bool) (lo : Nat) : Nat :=
  if lo = 0 then (if lane32 then 160 else 200) else if lo = 8 then (if lane32 then 140 else 185)
  else if lane32 then 100 else 150

/-- the value a field of page `p` has after reset: the field map's, but where that says "Per kind" (R309) or, of a MAC
address, "Per device" (R330). [DESIGN CHOICE log 33] -/
def Fld.resetAt (p : Nat) (f : Fld) : Nat :=
  if f.off = 0x120 ∧ pgLNE 0 ≤ p ∧ p ≤ pgLNE 32 then threshReset (p == pgLNE 32) f.lo
  else if pgETH 0 ≤ p ∧ p ≤ pgETH 2 ∧ f.off = 0x104 then Config.mac (p - pgETH 0) / 2 ^ 32 % 2 ^ 16
  else if pgETH 0 ≤ p ∧ p ≤ pgETH 2 ∧ f.off = 0x108 then Config.mac (p - pgETH 0) % 2 ^ 32
  else f.reset

/-- the current (active) value of a field of page `p`. -/
def getF (p : Nat) (f : Fld) (s : State) : Nat := SMap.get (f.resetAt p) (f.key p) s.regs

/-- the field now holds `v`, cut to its width. -/
def setF (p : Nat) (f : Fld) (v : Nat) (s : State) : State :=
  { s with regs := SMap.set (f.resetAt p) (f.key p) (v % 2 ^ f.width) s.regs }

/-- a counter that wraps (R108 and the like): `n` more. -/
def addF (p : Nat) (f : Fld) (n : Nat) (s : State) : State := setF p f (getF p f s + n) s

/-- a counter that saturates: `n` more. -/
def satF (p : Nat) (f : Fld) (n : Nat) (s : State) : State := setF p f (min (2 ^ f.width - 1) (getF p f s + n)) s

/-- `n` less, not below 0. -/
def subF (p : Nat) (f : Fld) (n : Nat) (s : State) : State := setF p f (getF p f s - n) s

/-- RO block fields back to their reset values: what a page's OFF and every reset lose. -/
def clearFields (p : Nat) (l : List Fld) (s : State) : State := l.foldl (fun s f => setF p f (f.resetAt p) s) s

/-- the field reads 1. -/
def isF (p : Nat) (f : Fld) (s : State) : Bool := getF p f s == 1

/-- the shadow of an RWC field (R9). -/
def getSh (p : Nat) (f : Fld) (s : State) : Nat := SMap.get (f.resetAt p) (f.key p) s.shadow

def setSh (p : Nat) (f : Fld) (v : Nat) (s : State) : State :=
  { s with shadow := SMap.set (f.resetAt p) (f.key p) (v % 2 ^ f.width) s.shadow }

/-- the last committed value of an RWC field (R68). -/
def getCm (p : Nat) (f : Fld) (s : State) : Nat := SMap.get (f.resetAt p) (f.key p) s.committed

def setCm (p : Nat) (f : Fld) (v : Nat) (s : State) : State :=
  { s with committed := SMap.set (f.resetAt p) (f.key p) (v % 2 ^ f.width) s.committed }

/-- the value a two's-complement field of `w` bits holds for `i`. -/
def toTwos (w : Nat) (i : Int) : Nat := (i % (2 ^ w : Nat)).toNat

/-- the integer a two's-complement field of `w` bits spells. -/
def ofTwos (w n : Nat) : Int := if n % 2 ^ w < 2 ^ (w - 1) then (n % 2 ^ w : Nat) else (n % 2 ^ w : Nat) - (2 ^ w : Nat)

/-- `i` brought into the range of a signed field of `w` bits. -/
def satTwos (w : Nat) (i : Int) : Nat := toTwos w (max (-(2 ^ (w - 1) : Nat)) (min ((2 ^ (w - 1) : Nat) - 1) i))

/-- the entry of a typed map at `k`, changed by `f`. -/
def modAt {α : Type} (d : α) (k : Nat) (f : α → α) (m : SMap α) : SMap α := SMap.put k (f (SMap.get d k m)) m

/-- something leaves the device. [DESIGN CHOICE log 32] -/
def emit (k : OutKind) (unit : Nat) (data : List Nat) (s : State) : State := { s with out := s.out ++ [⟨k, unit, data⟩] }

/-- the next free value: the spec gives the quantity no value. [DESIGN CHOICE log 31] -/
def drawFree (s : State) : Nat × State := (Config.freeWord s.free, { s with free := s.free + 1 })

/-- numbers of a byte list. -/
def nats (l : List Byte) : List Nat := l.map BitVec.toNat

/-! ## Time (R21, R270, R271) -/

/-- ticks of 5 ns in a microsecond, a millisecond, a second (R15). [DESIGN CHOICE log 89] -/
def tickUs : Nat := 200
/-- see the log: [DESIGN CHOICE log 89] -/
def tickMs : Nat := 200000
/-- see the log: [DESIGN CHOICE log 89] -/
def tickS : Nat := 200000000

/-- the slew of one TIME cycle in 2⁻³² ns at the slew limit (R271). -/
def slewStep (s : State) : Nat := getF pgTIM TIM.SERVO_slew_ppb s * 2 ^ 32 / 10 ^ 9

/-- adj is limited to ±858,993 (R270). -/
def clampAdj (i : Int) : Int := max (-858993) (min 858993 i)

/-- the phase term that runs now (R271). -/
def phaseTerm (s : State) : Int :=
  if s.tim.phaseLeft = 0 ∨ isF pgTIM TIM.ST_freq_hold s then 0
  else if 0 < s.tim.phaseLeft then (slewStep s : Int) else -(slewStep s : Int)

/-- adj, as TIM.RATE shows it (R270, R271). -/
def adjNow (s : State) : Int := clampAdj (s.tim.freq + phaseTerm s)

/-- the counter and the phase amount after `n` TIME cycles (R270, R271): the phase term runs until the amount has
been removed, then the frequency term runs alone. -/
def runTime (n : Nat) (s : State) : TimS :=
  let t := s.tim
  let ph := phaseTerm s
  let need := if ph = 0 then 0 else (t.phaseLeft.natAbs + ph.natAbs - 1) / ph.natAbs
  let m := min n need
  let step : Int := (n * 2 ^ 32 : Nat) + m * clampAdj (t.freq + ph) + (n - m : Nat) * clampAdj t.freq
  { t with
    count := (t.count + step).toNat
    phaseLeft := if ph = 0 then t.phaseLeft else if m = need then 0 else t.phaseLeft - m * ph }

/-- TIM.STATUS.state (R277). -/
def timSt (s : State) : Nat := getF pgTIM TIM.ST_state s

/-- `n` MGT ticks pass: the tick count runs, and the time counter runs 5 TIME cycles in each unless TIMEREF is absent
(R15, R16, R21, R277). [DESIGN CHOICE log 4] -/
def passTicks (n : Nat) (s : State) : State :=
  if timSt s = 4 then { s with clk := s.clk + n } else { s with clk := s.clk + n, tim := runTime (5 * n) s }

/-- time passes until the tick count is at least `t`: what a timer's running out means. [DESIGN CHOICE log 4] -/
def advanceTo (t : Nat) (s : State) : State := passTicks (t - s.clk) s

/-- the PTP time in whole nanoseconds. -/
def timeNs (s : State) : Nat := s.tim.count / 2 ^ 32

/-- the TIME µs stamp (R21). -/
def timeUs (s : State) : Nat := s.tim.count / (2 ^ 32 * 1000) % 2 ^ 32

/-! ## Events (R10, R60, R61, R66, R67) -/

/-- the word of EVENT (`HDR.EVENT`) or EVENT_EN (`HDR.EVENT_EN`). -/
def bitWord (fld : Nat → Fld) (p : Nat) (s : State) : Nat :=
  (List.range 32).foldl (fun n k => n + getF p (fld k) s * 2 ^ k) 0

/-- EVENT_FIRST as read (R67). -/
def eventFirst (p : Nat) (s : State) : Nat :=
  getF p HDR.FIRST_index s * 2 ^ 27 + getF p HDR.FIRST_valid s * 2 ^ 26 + getF p HDR.FIRST_time_us s

/-- the 16-byte event record (R61). -/
def eventRecord (p bits : Nat) (s : State) : List Byte :=
  beBytes 1 1 ++ beBytes 1 0 ++ beBytes 2 p ++ beBytes 4 bits ++ beBytes 4 (eventFirst p s) ++ beBytes 4 (timeUs s)

/-- a session's subscription covers bit `k` of page `p` (R60). -/
def Session.wants (p k : Nat) (x : Session) : Bool :=
  x.subs.any (fun e => decide (e.first ≤ p) && decide (p ≤ e.last) && e.mask.testBit k)

/-- each subscribing session gets a record of the bit that went from 0 to 1 (R60). -/
def notify (p k : Nat) (s : State) : State :=
  let r := eventRecord p (2 ^ k) s
  { s with hap := { s.hap with
      sessions := s.hap.sessions.map (fun e =>
        if e.2.wants p k then (e.1, { e.2 with records := e.2.records ++ [r] }) else e) } }

/-- EVENT_FIRST latches when a bit sets while EVENT reads all 0 (R67). -/
def latchFirst (p k : Nat) (s : State) : State :=
  if isF p HDR.FIRST_valid s then s
  else setF p HDR.FIRST_index k (setF p HDR.FIRST_valid 1 (setF p HDR.FIRST_time_us (timeUs s) s))

/-- Hardware, or EVENT_SET, sets bit `k` of page `p`'s EVENT (R66): EVENT_FIRST latches (R67), and a bit that was 0 and
is enabled goes to the subscribers (R60). -/
def raise (p k : Nat) (s : State) : State :=
  let s1 := setF p (HDR.EVENT k) 1 (latchFirst p k s)
  if !isF p (HDR.EVENT k) s && isF p (HDR.EVENT_EN k) s then notify p k s1 else s1

/-- bit `k` sets if `c` holds. -/
def raiseIf (c : Bool) (p k : Nat) (s : State) : State := if c then raise p k s else s

/-- each bit of `w` sets, lowest first (R66, R67). -/
def raiseWord (p w : Nat) (s : State) : State :=
  (List.range 32).foldl (fun s k => if w.testBit k then raise p k s else s) s

/-- each 1 of `w` clears its EVENT bit; EVENT_FIRST clears when EVENT returns to all 0 (R9, R67). -/
def clearEvents (p w : Nat) (s : State) : State :=
  let s1 := (List.range 32).foldl (fun s k => if w.testBit k then setF p (HDR.EVENT k) 0 s else s) s
  if bitWord HDR.EVENT p s1 = 0 then
    setF p HDR.FIRST_index 0 (setF p HDR.FIRST_valid 0 (setF p HDR.FIRST_time_us 0 s1))
  else s1

/-! ## The state registers (R22 to R29) -/

/-- STATE_ACT.state of page `p`. -/
def act (p : Nat) (s : State) : Nat := getF p HDR.ACT_state s

/-- the committed STATE_CMD.state. -/
def cmdOf (p : Nat) (s : State) : Nat := getCm p HDR.CMD_state s

/-- the unit is in service (R5, R23). -/
def inService (p : Nat) (s : State) : Bool := act p s == stRUNNING

/-- PAGE_CAPS.has_state of the page. [DEDUCED log 20] -/
def hasState (p : Nat) : Bool := match blockOf p with | some b => b.hasState | none => false

/-- the committed and the actual state count as equal (R24, R29). -/
def statesAgree (p : Nat) (s : State) : Bool :=
  !hasState p || act p s == cmdOf p s || (cmdOf p s == stLOW && act p s == stRUNNING)

/-- the mismatch timer clears once the two states are equal (R29). -/
def settleTimer (p : Nat) (s : State) : State :=
  if statesAgree p s then { s with ticks := SMap.set 0 p 0 s.ticks } else s

/-- STATE_AGE.mismatch_pp: whole picture periods after the first tick of the mismatch (R28, R29). -/
def mismatchPp (p : Nat) (s : State) : Nat := min 127 (SMap.get 0 p s.ticks - 1)

/-- the governing frame clock of page `p` ticks, for its mismatch timer (R29). [DESIGN CHOICE log 6] -/
def mismatchTick (p : Nat) (s : State) : State :=
  if statesAgree p s then s
  else
    let s1 := { s with ticks := SMap.set 0 p (SMap.get 0 p s.ticks + 1) s.ticks }
    raiseIf (mismatchPp p s1 == 2) p 31 s1

/-- a completion record for a WRITE_AT entry (R58, R61). -/
def watRecord (slot status tag sec ns : Nat) : List Byte :=
  beBytes 1 2 ++ beBytes 1 slot ++ beBytes 1 status ++ beBytes 1 0 ++ beBytes 2 tag ++ beBytes 6 sec ++ beBytes 4 ns

/-- the record goes to the session that made the entry, if it is still open (R58). -/
def watNotify (sid : Nat) (r : List Byte) (s : State) : State :=
  { s with hap := { s.hap with
      sessions := s.hap.sessions.map (fun e =>
        if e.2.sid = sid then (e.1, { e.2 with records := e.2.records ++ [r] }) else e) } }

/-- HAP.WAT_PENDING counts the entries held. -/
def setWats (m : SMap WatEntry) (s : State) : State :=
  setF pgHAP HAP.WAT_PENDING_count m.length { s with hap := { s.hap with wats := m } }

/-- the entry in `slot` is withdrawn with status cancelled (R58). -/
def watWithdraw (slot : Nat) (s : State) : State :=
  match SMap.find slot s.hap.wats with
  | none => s
  | some e => watNotify e.sid (watRecord slot Status.cancelled.code e.tag 0 0) (setWats (SMap.drop slot s.hap.wats) s)

/-- the picture entries of a page that leaves RUNNING and MUTED are withdrawn (R58). -/
def watLeave (p : Nat) (s : State) : State :=
  ((s.hap.wats.filter (fun e => e.2.picture && e.2.refPage == p)).map Prod.fst).foldl (fun s k => watWithdraw k s) s

/-- an enabled path of conditioning unit `u` reads page `p` (R99). -/
def unitReads (u p : Nat) (s : State) : Bool :=
  (List.range 8).any (fun k => isF (pgCND u) (CND.PATH_en k) s &&
    (if isF (pgCND u) (CND.PATH_src_dch k) s then pgDCH (getF (pgCND u) (CND.PATH_src k) s) else pgING (getF (pgCND u) (CND.PATH_src k) s)) == p)

/-- page `p` is RUNNING no more: each conditioning unit that reads it raises EVENT bit 0 (R105). -/
def sourceGone (p : Nat) (s : State) : State := (List.range 4).foldl (fun s u => raiseIf (unitReads u p s) (pgCND u) 0 s) s

/-- STATE_ACT of page `p` becomes `st` with `reason` (R26, R27): a change is counted, the previous state kept, the age
restarted, the mismatch timer settled; a page that leaves RUNNING is no source any more (R105), and one that leaves RUNNING and MUTED
loses its picture entries (R58). Without a change of state the reason 0x0C of a refused command stays (R24). -/
def setAct (p st reason : Nat) (s : State) : State :=
  if act p s = st then (if getF p HDR.ACT_reason s = 0x0C then s else setF p HDR.ACT_reason reason s)
  else
    let s1 := setF p HDR.ACT_state st (setF p HDR.ACT_prev (act p s)
      (setF p HDR.ACT_reason reason (addF p HDR.ACT_changes 1 s)))
    let s2 := settleTimer p { s1 with actAt := SMap.put p s.clk s1.actAt }
    let s3 := if act p s = stRUNNING then sourceGone p s2 else s2
    if st = stRUNNING ∨ st = stMUTED then s3 else watLeave p s3

/-- where a unit that has carried its work to the end goes: LOW_POWER if that is what it is commanded to (R24), otherwise IDLE. -/
def restState (p : Nat) (s : State) : Nat := if cmdOf p s = stLOW then stLOW else stIDLE

/-- The state of a unit whose RUNNING follows its work (R24, R110, R145, R227): one that waits in IDLE, or ungated in LOW_POWER,
runs once it is busy; one that runs rests once it is not. -/
def followWork (p : Nat) (busy gated : Bool) (s : State) : State :=
  if busy then (if act p s = stIDLE ∨ (act p s = stLOW ∧ !gated) then setAct p stRUNNING 0 s else s)
  else if act p s = stRUNNING then setAct p (restState p s) 0 s
  else s


/-! ## Shadows and generations (R68, R69) -/

/-- the RWC fields of a page: its block's, and STATE_CMD.state where the page has one (R25). -/
def rwcRows (p : Nat) : List Fld :=
  match blockOf p with
  | none => []
  | some b => (if b.hasState then [HDR.CMD_state] else []) ++ b.rows.filter (fun f => f.acc == Acc.rwc)

/-- CFG_GEN.dirty (R68). -/
def dirty (p : Nat) (s : State) : Bool := (rwcRows p).any (fun f => getSh p f s != getCm p f s)

/-- CFG_GEN.pending (R68). -/
def pendingGen (p : Nat) (s : State) : Bool := getF p HDR.gen_applied s != getF p HDR.gen_committed s

/-- the shadows become the committed generation gen_committed + 1 (R68); a newly committed STATE_CMD restarts the
mismatch timer (R29). -/
def commitShadows (p : Nat) (s : State) : State :=
  let s1 := (rwcRows p).foldl (fun s f => setCm p f (getSh p f s) s) s
  let s2 := addF p HDR.gen_committed 1 s1
  if cmdOf p s = cmdOf p s2 then settleTimer p s2 else { s2 with ticks := SMap.set 0 p 0 s2.ticks }

/-- the unit takes the committed generation at its boundary: the active values are the committed ones, gen_applied
moves to gen_committed, EVENT bit 30 sets once (R69). -/
def takeGen (p : Nat) (s : State) : State :=
  if pendingGen p s then
    let s1 := (rwcRows p).foldl (fun s f => setF p f (getCm p f s) s) s
    raise p 30 (setF p HDR.gen_applied (getF p HDR.gen_committed s1) s1)
  else s

/-- a fault drives the page to FAULT with `reason` (R23, R30); a generation that waited for the unit's boundary is taken, its
command held (R30, R69, R70). [DEDUCED log 85] -/
def toFault (p reason : Nat) (s : State) : State := takeGen p (setAct p stFAULT reason s)

/-- What a newly taken STATE_CMD makes of a unit that has no STARTING or STOPPING of its own: the commanded state, but a
unit that carries work stays RUNNING under LOW_POWER (R24), and FAULT is left only for IDLE or OFF (R23). [DEDUCED log 21] -/
def plainCommand (p : Nat) (s : State) : State :=
  let c := getF p HDR.CMD_state s
  if c = stLOW ∧ act p s = stRUNNING then s
  else if act p s = stFAULT ∧ c ≠ stIDLE ∧ c ≠ stOFF then s
  else setAct p c 0 s

/-- What a newly taken STATE_CMD makes of a unit whose RUNNING follows its work (R110, R145, R222): commanded RUNNING or IDLE it
waits in IDLE, and while it works the command waits with it. [DEDUCED log 21] -/
def followCommand (p : Nat) (s : State) : State :=
  let c := getF p HDR.CMD_state s
  if act p s = stRUNNING then s
  else if act p s = stFAULT ∧ c ≠ stIDLE ∧ c ≠ stOFF then s
  else setAct p (if c = stRUNNING then stIDLE else c) 0 s

/-- The unit takes the committed generation, and `cmd` is what the STATE_CMD in it makes of the unit (R24, R29, R215): a new
value acts, and so does one that finds the unit in FAULT; a value that was in force already is no command. [DEDUCED log 21] -/
def takeWith (p : Nat) (cmd : State → State) (s : State) : State :=
  let s1 := takeGen p s
  if getF p HDR.CMD_state s1 = getF p HDR.CMD_state s ∧ act p s1 ≠ stFAULT then s1 else cmd s1

/-- a generation committed during STOPPING is taken once the unit has reached IDLE or OFF (R69). [DEDUCED log 21] -/
def takeAfterStop (p : Nat) (cmd : State → State) (s : State) : State :=
  if pendingGen p s then takeWith p cmd s else s

/-- CFG_GEN.discard: the active values go back into the shadows (R68). -/
def discardShadows (p : Nat) (s : State) : State :=
  (rwcRows p).foldl (fun s f => setSh p f (getF p f s) s) s

/-! ## Responses (R41, R42, R48, R50, R52) -/

/-- the session at index `i`, if one is open. -/
def sessionAt (i : Nat) (s : State) : Option Session := SMap.find i s.hap.sessions

def putSession (i : Nat) (x : Session) (s : State) : State :=
  { s with hap := { s.hap with sessions := SMap.put i x s.hap.sessions } }

/-- the bytes of one operation response (R41). -/
def OpResp.bytes (r : OpResp) : List Byte :=
  beBytes 1 r.opcode ++ beBytes 1 r.status ++ beBytes 2 r.tag ++ beBytes 4 r.addr ++ r.body

/-- the 16-byte tag of a frame under a key (R40). [DESIGN CHOICE log 30] -/
def frameTag (key b : List Byte) : List Byte := (List.range 16).map (fun k => (Config.hmac key b).getD k 0)

/-- The bytes of a frame of `kind` in session `x` with `n` operations or records, its tag included (R40, R61). The frames that the
device sends hold 0 in flags, dest, group_mask and hops, of which the spec states nothing. [DESIGN CHOICE log 14] -/
def frameBytes (kind n : Nat) (x : Session) (body : List Byte) : List Byte :=
  let b := beBytes 1 (0x10 + kind) ++ beBytes 1 0 ++ beBytes 2 0 ++ beBytes 4 0 ++ beBytes 4 x.sid ++
    beBytes 8 x.txNext ++ beBytes 1 0 ++ beBytes 1 n ++ beBytes 2 body.length ++ body
  b ++ frameTag x.txKey b

/-- the operation answers with `status` and `body` (R41, R48): to its session, or, in the domain session, into the
counters of R52. A firing WRITE_AT entry reports through its completion record, firmware through neither. [DESIGN CHOICE log 15] -/
def reply (r : Req) (opcode addr : Nat) (st : Status) (body : List Byte) (s : State) : State :=
  match r.origin with
  | .session i =>
    match sessionAt i.val s with
    | none => s
    | some x => putSession i.val { x with resps := x.resps ++ [⟨opcode, st.code, r.tag.toNat, addr, body⟩] } s
  | .domain =>
    if st = .success then addF pgHAP HAP.DOM_OK_count 1 s
    else setF pgHAP HAP.DOM_LAST_status st.code (setF pgHAP HAP.DOM_LAST_addr (addr / 256)
      (addF pgHAP HAP.DOM_ERR_count 1 s))
  | .wat _ => s
  | .firmware => s

end Sys2Proof.Machine
end

