-- ==== Sys2Proof/Machine/Flags.lean ====
section
/-! DEFINITION. Sys2Proof/Machine/Flags.lean: what the status words show that is computed, and the fates of frames
(R34, R35), which the counters of every port and flow keep balanced. -/

namespace Sys2Proof.Machine

/-! ## Frame fates (R34, R35, R330) -/

/-- a frame is received on port `i` (0 A, 1 B, 2 M). -/
def ethReceived (i : Nat) (s : State) : State := addF (pgETH i) ETH.RX_frames 1 s

/-- the port's frame is passed on: delivered. -/
def ethDelivered (i : Nat) (s : State) : State := addF (pgETH i) ETH.DELIV_frames 1 s

/-- the port's frame is dropped with `reason`, which DROP_BY_REASON counts if DROP_SEL selects it. [DEDUCED log 63] -/
def ethDropped (i reason : Nat) (s : State) : State :=
  let s1 := addF (pgETH i) ETH.DROP_frames 1 s
  if getF (pgETH i) ETH.DROP_SEL_reason s = reason then addF (pgETH i) ETH.DROP_BY_REASON_frames 1 s1 else s1

/-- a frame comes in on port `i` and is dropped with `reason`. -/
def ethReject (i reason : Nat) (s : State) : State := ethDropped i reason (ethReceived i s)

/-- `n` frames of `bytes` bytes in all are sent on port `i`. -/
def ethSent (i n bytes : Nat) (s : State) : State :=
  addF (pgETH i) ETH.TX_BYTES_bytes bytes (addF (pgETH i) ETH.TX_frames n s)

/-- a subport of port `i` is up (R325, R330). -/
def portUp (i : Nat) (s : State) : Bool := getF (pgETH i) ETH.SUBPORTS_up s != 0

/-! ## TIM (R274, R282, R291) -/

def timPort (i : Nat) (s : State) : TimPort := SMap.get TimPort.reset i s.tim.ports

/-- the port is usable: PTP enabled on it, the port up, a grandmaster chosen whose announce has not timed out (R274). [DEDUCED log 60] -/
def usable (i : Nat) (s : State) : Bool :=
  isF pgTIM (if i = 0 then TIM.PTP_CFG_en_a else TIM.PTP_CFG_en_b) s && portUp i s && (timPort i s).chosen.isSome

/-- the port's path guard is open (R281). -/
def guardOpen (i : Nat) (s : State) : Bool := isF pgTIM (if i = 0 then TIM.ST_guard_a else TIM.ST_guard_b) s

/-- the port is clean: usable, its guard closed, no jump count running (R282). -/
def clean (i : Nat) (s : State) : Bool := usable i s && !guardOpen i s && (timPort i s).jumps == 0

/-- both ports are usable with different grandmasters (R274). [DEDUCED log 60] -/
def gmDiffers (s : State) : Bool :=
  usable 0 s && usable 1 s && (timPort 0 s).chosen.map Announce.gmId != (timPort 1 s).chosen.map Announce.gmId

/-- DEV.STATUS.time_locked (R277). -/
def timeLocked (s : State) : Bool := timSt s == 2

/-! ## What a page waits for -/

/-- the stack that holds the page's buffer, if it has one, is RUNNING (R404). -/
def stacksUp (p : Nat) (s : State) : Bool :=
  match SMap.find p s.bufs with
  | none => true
  | some b => act (pgHBM b.stack) s == stRUNNING

end Sys2Proof.Machine
end

