-- ==== Sys2Proof/Machine/Access.lean ====
section
/-! DEFINITION. Sys2Proof/Machine/Access.lean: whether a page or register answers (R12, R18, R71), whether an operation
may run (R46, R50, R52), and the wrappers for a register with an action of its own. -/

namespace Sys2Proof.Machine

/-! ## Availability -/

/-- the unit state of a unit: class and instance as PWR.UNIT_SEL names them (R477, R489). -/
def unitState (cls inst : Nat) (s : State) : Nat := SMap.get 0 (cls * 128 + inst) s.pwr.units

/-- the unit class and instance of a page that can be gated: encode cores, decode cores, conditioning units (R477). -/
def unitOfPage (p : Nat) : Option (Nat × Nat) :=
  match blockOf p with
  | some .enc => some (0, p - Block.first .enc)
  | some .dec => some (1, p - Block.first .dec)
  | some .cnd => some (2, p - Block.first .cnd)
  | _ => none

/-- the block registers of the page answer: not while its unit is gated, nor, for the blocks that D2 power-gates, in
device state D2, nor those of HBM in D2, nor those of a unit in OFF, which is released (R18, R23, R397, R475). [DEDUCED log 9] -/
def blockAnswers (p : Nat) (s : State) : Bool :=
  !(hasState p && act p s == stOFF) &&
  match unitOfPage p with
  | none => blockOf p != some .hbm || getF pgPWR PWR.DSTAT_state s != 2
  | some (c, i) => unitState c i s != 1 && getF pgPWR PWR.DSTAT_state s != 2

/-- the registers of HLT that live in the main domain (R11, R12, chapter 18). -/
def hltMain (p off : Nat) : Bool := p == pgHLT && decide (0x124 ≤ off)

/-- whether a register answers at all: invalid-address for a page outside the index (R71), unit-unavailable for a
main-domain page while the main domain does not run (R12) and for the block registers of a gated unit (R18). [DEDUCED log 7] -/
def regStatus (p off : Nat) (s : State) : Status :=
  if (blockOf p).isNone then .invalidAddress
  else if !s.pwr.mainRun && (!standbyPage p || hltMain p off) then .unavailable
  else if 0x100 ≤ off ∧ !blockAnswers p s then .unavailable
  else .success

/-! ## Operations -/

/-- An operation starts: in a provisioning session only key installation runs (R46), a session with 64 operations
outstanding gets busy (R50), the domain session carries only WRITE, WRITE_MASKED and WRITE_AT (R52); an index without
an open session names nobody. An operation turned away here answers with its status and no body, which no rule states.
[DESIGN CHOICE log 13] -/
def opStart (r : Req) (opcode addr : Nat) (k : State → State) (s : State) : State :=
  match r.origin with
  | .session i =>
    match sessionAt i.val s with
    | none => s
    | some x =>
      if x.provisioning then reply r (opcode + 128) addr .accessDenied [] s
      else if 64 ≤ x.outstanding + x.unsent then reply r (opcode + 128) addr .busy [] s
      else k s
  | .domain => if [3, 4, 5].contains opcode then k s else reply r (opcode + 128) addr .accessDenied [] s
  | .wat _ => k s
  | .firmware => k s

/-- the 32-bit address of a register (R7). -/
def regAddr (p off : Nat) : Nat := p * 4096 + off

/-- the WRITE of a register whose action is `op`. [DESIGN CHOICE log 6] -/
def asWrite (r : Req) (p off : Nat) (op : State → Status × State) (s : State) : State :=
  opStart r 3 (regAddr p off) (fun s =>
    match regStatus p off s with
    | .success => reply r 0x83 (regAddr p off) (op s).1 [] (op s).2
    | st => reply r 0x83 (regAddr p off) st [] s) s

/-- the READ of a register whose reading is `op`: the word and the state after. [DESIGN CHOICE log 6] -/
def asRead (r : Req) (p off : Nat) (op : State → Nat × State) (s : State) : State :=
  opStart r 1 (regAddr p off) (fun s =>
    match regStatus p off s with
    | .success => reply r 0x81 (regAddr p off) .success (beBytes 4 (op s).1) (op s).2
    | st => reply r 0x81 (regAddr p off) st (beBytes 4 0) s) s

/-- a word latched for the session that read (R20, R272, R387). [DEDUCED log 10] -/
def latchWord (r : Req) (addr v : Nat) (s : State) : State :=
  match r.origin with
  | .session i =>
    match sessionAt i.val s with
    | none => s
    | some x => putSession i.val { x with latched := SMap.put addr v x.latched } s
  | _ => s

/-- the word latched for this session at `addr`, used up by the read (R20). [DEDUCED log 10] -/
def takeLatch (r : Req) (addr : Nat) (s : State) : Option (Nat × State) :=
  match r.origin with
  | .session i =>
    match sessionAt i.val s with
    | none => none
    | some x =>
      match SMap.find addr x.latched with
      | none => none
      | some v => some (v, putSession i.val { x with latched := SMap.drop addr x.latched } s)
  | _ => none

end Sys2Proof.Machine
end

