-- ==== Sys2Proof/Machine/Stacks.lean ====
section
/-! DEFINITION. Sys2Proof/Machine/Stacks.lean: the shared cell pool and its queues (chapter 13, R355 to R371): what every
packet that enters or leaves ports A and B does to them. -/

namespace Sys2Proof.Machine

/-! ## The queues (R357) -/

def totalCells : Nat := 262144

def qVideo (i : Nat) : Nat := i
def qAudio (i : Nat) : Nat := 64 + i
def qAnc (i : Nat) : Nat := 128 + i
def qDch (i : Nat) : Nat := 160 + i
def qOut (leg n : Nat) : Nat := 176 + 32 * leg + n
def qSnd (leg n : Nat) : Nat := 240 + 16 * leg + n
def qPort (port k : Nat) : Nat := 272 + 8 * port + k

/-- QMAP.class of a queue (R370). -/
def qClass (q : Nat) : Nat :=
  if q < 64 then 0 else if q < 128 then 1 else if q < 160 then 2 else if q < 176 then 3 else if q < 240 then 4
  else if q < 272 then 5 else if q < 288 then 6 else 7

/-- the quotas a queue has at reset. [DESIGN CHOICE log 70] -/
def qReset (q : Nat) : Nat × Nat :=
  match qClass q with
  | 0 => (2048, 16384) | 1 => (16, 256) | 2 => (16, 256) | 3 => (512, 8192) | 4 => (256, 8192) | 5 => (512, 8192)
  | 6 => (64, 1024) | _ => (0, 4096)

/-- QMAP.prio_mask at reset (R366). -/
def qPrioReset (q : Nat) : Nat := if q < 176 ∨ [272, 273, 274, 280, 281, 282].contains q then 255 else 0

/-- see the log: [DESIGN CHOICE log 33] -/
def QueueS.reset (q : Nat) : QueueS :=
  let m := (qReset q).2
  ⟨(qReset q).1, m, 3 * m / 4, m / 2, qPrioReset q, 0, false, 0, [], false, false, 0, 0⟩

def queueOf (q : Nat) (s : State) : QueueS := SMap.get (QueueS.reset q) q s.stk.queues

def setQueue (q : Nat) (x : QueueS) (s : State) : State :=
  { s with stk := { s.stk with queues := SMap.put q x s.stk.queues } }

def modQueue (q : Nat) (f : QueueS → QueueS) (s : State) : State := setQueue q (f (queueOf q s)) s

/-- a port runs: its page is not OFF, IDLE, in reset or in FAULT. -/
def portRuns (i : Nat) (s : State) : Bool := [stSTARTING, stRUNNING].contains (act (pgETH i) s)

/-- the owner has enabled what the queue serves (R357). [DEDUCED log 69] -/
def queueEnabled (q : Nat) (s : State) : Bool :=
  let on := fun p => act p s != stOFF && act p s != stRESET
  match qClass q with
  | 0 => isF (pgING q) ING.VFMT_v_en s && on (pgING q)
  | 1 => isF (pgING (q - 64)) ING.AFMT_a_en s && on (pgING (q - 64))
  | 2 => isF (pgING (q - 128)) ING.ANC_anc_en s && on (pgING (q - 128))
  | 3 => (isF (pgDCH (q - 160)) (MATCH.en 0x200) s || isF (pgDCH (q - 160)) (MATCH.en 0x240) s) && on (pgDCH (q - 160))
  | 4 => isF (pgOUT ((q - 176) % 32)) (OLEG.en (0x180 + 0x40 * ((q - 176) / 32))) s && on (pgOUT ((q - 176) % 32))
  | 5 => isF (pgSND ((q - 240) % 16)) (OLEG.en (0x180 + 0x40 * ((q - 240) / 16))) s && on (pgSND ((q - 240) % 16))
  | 6 => portRuns ((q - 272) / 8) s && decide ((q - 272) % 8 < 5)
  | _ => (queueOf q s).enabledFw

/-- the page that owns a queue; none for the ports' and firmware's own. -/
def queueOwner (q : Nat) : Option Nat :=
  match qClass q with
  | 0 => some (pgING q) | 1 => some (pgING (q - 64)) | 2 => some (pgING (q - 128)) | 3 => some (pgDCH (q - 160))
  | 4 => some (pgOUT ((q - 176) % 32)) | 5 => some (pgSND ((q - 240) % 16)) | 6 => some (pgETH ((q - 272) / 8))
  | _ => none

/-- the queues that anyone may have enabled or changed: those of fixed owners, and the firmware queues touched. -/
def knownQueues (s : State) : List Nat :=
  List.range 288 ++ (s.stk.queues.map Prod.fst).filter (fun q => decide (288 ≤ q))

/-! ## The two accounts (R358) -/

def freeCells (s : State) : Nat := getF pgSTK STK.FREE_cells s

/-- reserved_free: Σ max(0, min − count) over the enabled queues. -/
def reservedFree (s : State) : Nat :=
  (knownQueues s).foldl (fun n q => if queueEnabled q s then n + ((queueOf q s).min - (queueOf q s).count) else n) 0

def sharedFree (s : State) : Nat := freeCells s - reservedFree s

/-- Σ of the mins of the enabled queues (R359). [DESIGN CHOICE log 70] -/
def minSum (s : State) : Nat :=
  (knownQueues s).foldl (fun n q => if queueEnabled q s then n + (queueOf q s).min else n) 0

/-- cells of a frame of `n` bytes (R356). -/
def cellsFor (n : Nat) : Nat := (n + 255) / 256

/-- R358 grants the `n` cells of a packet, one after the other: each below the queue's max, each beyond min from a shared
part that stays above its guard of 8. [DEDUCED log 63] -/
def grantCells (q n : Nat) (s : State) : Bool :=
  let x := queueOf q s
  let beyond := x.count + n - max x.count x.min
  !x.frozen && decide (x.count + n ≤ x.max) && decide (n ≤ freeCells s) &&
  (beyond == 0 || decide (8 + beyond ≤ sharedFree s))

/-- SHARED fell below POOL_ALARM.low_cells (R370): EVENT bit 2. -/
def poolAlarm (before : Nat) (s : State) : State :=
  let low := getF pgSTK STK.POOL_ALARM_low_cells s
  raiseIf (decide (low ≤ before) && decide (sharedFree s < low)) pgSTK 2 s

/-- a packet commits to a queue (R360): its cells leave the free list, it joins the queue. [DEDUCED log 63] -/
def commitPkt (q : Nat) (k : StkPkt) (s : State) : State :=
  let before := sharedFree s
  let s1 := addF pgSTK STK.HELD_cells k.cells (setF pgSTK STK.FREE_cells (freeCells s - k.cells) s)
  let s2 := addF pgSTK STK.COMMITS_packets 1 (modQueue q (fun x => { x with
    count := x.count + k.cells, pkts := x.pkts ++ [k], peak := max x.peak (x.count + k.cells) }) s1)
  poolAlarm before (setF pgSTK STK.FREE_LOW_cells (min (getF pgSTK STK.FREE_LOW_cells s2) (freeCells s2)) s2)

/-- a packet of the transmit side is written; refused, the write side of stack port `port` stalls (R361). -/
def writePkt (port q : Nat) (k : StkPkt) (s : State) : State :=
  if grantCells q k.cells s && !(SMap.get [] port s.stk.stalls).any (fun x => x.queue == q) then commitPkt q k s
  else { s with stk := { s.stk with
    stalls := modAt [] port (fun l => l ++ [⟨q, k, s.clk⟩]) s.stk.stalls } }

/-- FAB cycles between tick `t` and now. -/
def fabSince (t : Nat) (s : State) : Nat := 6 * (s.clk - t)

/-- write side `side` was stalled since tick `t` (R361). -/
def countStall (side t : Nat) (s : State) : State :=
  addF pgSTK (STK.WSTALL_cycles side) (fabSince t s)
    { s with stk := { s.stk with alarmed := s.stk.alarmed.filter (· != side) } }

/-- every stall of write side `side` on queue `q` ends without its packet: the cycles up to now count, and what still waits
counts from here (R196, R361). -/
def endStalls (side q : Nat) (s : State) : State :=
  let l := SMap.get [] side s.stk.stalls
  let rest := l.filter (fun x => x.queue != q)
  match l with
  | [] => s
  | x :: _ =>
    if x.queue = q then
      countStall side x.since { s with stk := { s.stk with
        stalls := SMap.put side (rest.map (fun y => { y with since := s.clk })) s.stk.stalls } }
    else { s with stk := { s.stk with stalls := SMap.put side rest s.stk.stalls } }

/-- a frame is rewound (R360). -/
def rewind (s : State) : State := addF pgSTK STK.REWINDS_packets 1 s

/-- the head packet leaves the queue and its cells return to the free list (R362). -/
def popPkt (q : Nat) (s : State) : Option (StkPkt × State) :=
  let x := queueOf q s
  match x.pkts with
  | [] => none
  | k :: rest =>
    if x.frozen then none
    else some (k, addF pgSTK STK.POPS_packets 1 (addF pgSTK STK.FREE_cells k.cells
      (subF pgSTK STK.HELD_cells k.cells (setQueue q { x with count := x.count - k.cells, pkts := rest } s))))

/-- a queue is congested by its count (R365). -/
def overHigh (q : Nat) (s : State) : Bool := decide ((queueOf q s).high ≤ (queueOf q s).count)
def underLow (q : Nat) (s : State) : Bool := decide ((queueOf q s).count < (queueOf q s).low)

/-- A PTP (control queue 0) or Harlet (1) message is taken up: its frame leaves the control queue of the port it waits in
(R357), or, with none waiting, comes in now. On port M a frame waits only in flight (R319). -/
def takeIn (i ctl : Nat) (s : State) : State :=
  if i = 2 then
    if getF (pgETH i) ETH.INFLIGHT_frames s = 0 then ethReceived i s else subF (pgETH i) ETH.INFLIGHT_frames 1 s
  else match popPkt (qPort i ctl) s with
    | some (_, s1) => subF (pgETH i) ETH.INFLIGHT_frames 1 s1
    | none => ethReceived i s

/-- a message of a port's control queue is taken up and dropped with `reason` (R35). -/
def dropIn (i ctl reason : Nat) (s : State) : State := ethDropped i reason (takeIn i ctl s)

/-- a message of a port's control queue is taken up and delivered (R327). -/
def acceptIn (i ctl : Nat) (s : State) : State := ethDelivered i (takeIn i ctl s)

/-! ## Which subport a flow leaves on, and whether a received pause holds it (R315, R321) -/

def ethOf (i : Nat) (s : State) : EthS := SMap.get EthS.reset i s.eth

def modEth (i : Nat) (f : EthS → EthS) (s : State) : State := { s with eth := modAt EthS.reset i f s.eth }

/-- the active subports, ascending: link up and, with lacp, in sync. -/
def activeSubports (i : Nat) (s : State) : List Nat :=
  (List.range 8).filter (fun k => (getF (pgETH i) ETH.SUBPORTS_up s).testBit k &&
    (!isF (pgETH i) ETH.MODE_lacp s || (ethOf i s).inSync.contains k))

def subportOf (i flow : Nat) (s : State) : Option Nat :=
  let l := activeSubports i s
  l[flow % max 1 l.length]?

/-- a received XOFF holds the priority on the subport, while flow control honours it. -/
def prioHeld (i k prio : Nat) (s : State) : Bool :=
  let m := getF (pgETH i) ETH.FC_mode s
  (m == 1 || (m == 2 && (getF (pgETH i) ETH.FC_pfc_en s).testBit prio)) &&
  decide (s.clk < SMap.get 0 (k * 8 + prio) (ethOf i s).paused)


end Sys2Proof.Machine
end

