-- ==== Sys2Proof/Machine/Time.lean ====
section
/-! DEFINITION. Sys2Proof/Machine/Time.lean: the time counter's servo, the path guard, frame clocks, captures, pulses and
transmit time-stamp queues (chapter 09, R270 to R291). -/

namespace Sys2Proof.Machine

/-! ## Shared operations -/

def setTim (t : TimS) (s : State) : State := { s with tim := t }

def modTimPort (i : Nat) (f : TimPort → TimPort) (s : State) : State :=
  setTim { s.tim with ports := modAt TimPort.reset i f s.tim.ports } s

/-- PTP runs: TIM is RUNNING and TIMEREF is there (R288). -/
def ptpRuns (s : State) : Bool := act pgTIM s == stRUNNING && timSt s != 4

/-- a PTP instance runs on port `i` (R273, R274). -/
def ptpTakes (i : Nat) (s : State) : Bool :=
  ptpRuns s && isF pgTIM (if i = 0 then TIM.PTP_CFG_en_a else TIM.PTP_CFG_en_b) s

/-- the governing port (R275). -/
def govPort (s : State) : Nat := getF pgTIM TIM.ST_sel_port s

/-- the governing port changes to `i`, with EVENT bit 8 (R275). [DESIGN CHOICE log 59] -/
def governBy (i : Nat) (s : State) : State :=
  if govPort s = i then s
  else raise pgTIM 8 (setF pgTIM TIM.ST_sel_port i (setTim { s.tim with firstFour := [] } s))

/-- `sel_mode` lets port `i` govern (R275). -/
def mayGovern (i : Nat) (s : State) : Bool :=
  match getF pgTIM TIM.PTP_CFG_sel_mode s with
  | 2 => i == 0
  | 3 => i == 1
  | _ => true

/-- a port that sel_mode allows is usable. -/
def anyUsable (s : State) : Bool := (mayGovern 0 s && usable 0 s) || (mayGovern 1 s && usable 1 s)

/-- since when port A has been usable, its guard closed and the cross-check agreeing (R275). -/
def noteA (s : State) : State :=
  let good := usable 0 s && !guardOpen 0 s && isF pgTIM TIM.ST_cross_ok s
  if !good then setTim { s.tim with aGood := none } s
  else if s.tim.aGood.isNone then setTim { s.tim with aGood := some s.clk } s
  else s

/-- The governing port is chosen again (R275, R282): one that is not usable or has opened its guard gives way to a
clean other port, as does any unclean one in a frequency hold; if its guard is open and it cannot be replaced, the
device holds frequency. -/
def choosePort (s : State) : State :=
  let g := if mayGovern (govPort s) s then govPort s else 1 - govPort s
  let o := 1 - g
  let s0 := governBy g s
  if clean g s0 then setF pgTIM TIM.ST_freq_hold 0 s0
  else if (!usable g s0 || guardOpen g s0 || isF pgTIM TIM.ST_freq_hold s0) && mayGovern o s0 && clean o s0 then
    governBy o (setF pgTIM TIM.ST_freq_hold 0 s0)
  else if guardOpen g s0 then setF pgTIM TIM.ST_freq_hold 1 s0
  else if usable g s0 then s0
  else setF pgTIM TIM.ST_freq_hold 0 s0

/-- The governing port is chosen again, and the time since which A has met what mode 1 asks of it is kept (R275). -/
def reselect (s : State) : State := noteA (choosePort s)

/-- an exact mean, rounded to a whole number in an open direction. [DESIGN CHOICE log 59] -/
def roundMean (sum : Int) (n : Nat) : Int :=
  if n = 0 then 0 else sum / n + (if sum % n ≠ 0 ∧ Config.roundUp sum n then 1 else 0)

/-- the mean of path-delay samples (R281). -/
def meanOf (l : List Int) : Int := roundMean l.sum l.length

/-- the sum over the ticks `from` to `upTo` of the frequency term that held at each, newest entry first; before the first entry it
was 0. -/
def freqSum (start : Nat) : Nat → List (Nat × Int) → Int
  | _, [] => 0
  | upTo, (at_, f) :: l => (upTo - max start at_ : Nat) * f + (if at_ ≤ start then 0 else freqSum start at_ l)

/-- the mean frequency term of the last tau_s seconds, or of the time since the reset where that is shorter (R277). [DESIGN CHOICE log 59] -/
def meanFreq (s : State) : Int :=
  let start := s.clk - getF pgTIM TIM.SERVO_tau_s s * tickS
  if s.clk = start then s.tim.freq else roundMean (freqSum start s.clk s.tim.freqLog) (s.clk - start)

/-- a frequency term comes into force, and is kept for the mean of R277. -/
def setFreq (f : Int) (s : State) : State :=
  let old := s.tim.freqLog
  let lived := old.takeWhile (fun e => decide (s.clk < e.1 + 1000 * tickS))
  setTim { s.tim with freq := f, freqLog := (s.clk, f) :: lived ++ (old.drop lived.length).take 1 } s

/-- a pulse may be produced now (R285). Gate code 3, which R285 leaves without a meaning, is refused at a commit. [DESIGN CHOICE log 8] -/
def pulseGate (n : Nat) (s : State) : Bool :=
  isF pgTIM (TIM.PLS_en n) s && timSt s != 4 &&
  match getF pgTIM (TIM.PLS_gate n) s with
  | 0 => true
  | 1 => timSt s == 2
  | _ => isF pgTIM TIM.ST_first_lock s

/-- the level a pulse output drives: active or not, with the polarity of PLSn_CFG (R285). -/
def pulseLevel (n : Nat) (s : State) : Bool :=
  (SMap.get 0 n s.tim.pulses == 1) != isF pgTIM (TIM.PLS_polarity n) s

def setPulse (n v : Nat) (s : State) : State :=
  let s1 := setTim { s.tim with pulses := SMap.set 0 n v s.tim.pulses } s
  emit .pulse n [if pulseLevel n s1 then 1 else 0] s1

/-- an output whose gate now suppresses pulses, or whose polarity differs from that of `old`, drives the level it now has (R285). -/
def settlePulse (old : State) (n : Nat) (s : State) : State :=
  if SMap.get 0 n s.tim.pulses = 1 ∧ !pulseGate n s then setPulse n 0 s
  else if isF pgTIM (TIM.PLS_polarity n) old != isF pgTIM (TIM.PLS_polarity n) s then setPulse n (SMap.get 0 n s.tim.pulses) s
  else s

def settlePulses (old s : State) : State := settlePulse old 1 (settlePulse old 0 s)

/-- adj is held at the mean frequency term, the phase term ends (R277). -/
def holdFreq (s : State) : State :=
  let s1 := setFreq (meanFreq s) s
  setTim { s1.tim with phaseLeft := 0, phaseAmount := 0, lockRun := 0, unlockRun := 0 } s1

/-- No port that sel_mode allows is within its grandmaster's announce receipt timeout any more: ACQUIRING or LOCKED becomes HOLDOVER
(R277, R288). [DEDUCED log 60] -/
def holdoverIf (s : State) : State :=
  if (timSt s = 1 ∨ timSt s = 2) ∧ !anyUsable s ∧
      [0, 1].all (fun i => !mayGovern i s || (timPort i s).chosen.isNone) then
    settlePulses s (raise pgTIM 1 (setF pgTIM TIM.ST_state 3 (holdFreq s)))
  else s

/-- The counter is stepped by `ns`, recorded with EVENT bit 2 (R278, R280). -/
def stepCounter (ns : Int) (s : State) : State :=
  let s1 := setTim { s.tim with
    count := (s.tim.count + ns * (2 ^ 32 : Nat)).toNat, phaseLeft := 0, phaseAmount := 0, solAt := s.clk,
    solOffset := 0, lockRun := 0, unlockRun := 0, firstFour := [] } s
  raise pgTIM 2 (setF pgTIM TIM.STEP_SEC_sec (toTwos 32 (ns.tdiv 1000000000))
    (setF pgTIM TIM.STEP_NS_ns (toTwos 31 (ns.tmod 1000000000)) (setF pgTIM TIM.STEP_AT_time_us (timeUs s1) s1)))

/-- the median of four offsets: the mean of the second and third, truncated towards zero (R278). -/
def medianOf4 (l : List Int) : Int := (l.sum - l.foldl max (l.headD 0) - l.foldl min (l.headD 0)).tdiv 2

/-- A governing solution updates the frequency term and replaces the amount still to be removed (R271). `age` is how
long ago, in MGT ticks, the solution was stamped. [DESIGN CHOICE log 59] -/
def servo (offset : Int) (age : Nat) (s : State) : State :=
  let t := s.tim
  let cycles := 5 * (s.clk - t.solAt)
  let applied := t.phaseAmount - t.phaseLeft
  let upTo := fun x : Nat => min t.phaseAmount.natAbs (x * slewStep s)
  let since : Int := (upTo cycles - upTo (cycles - 5 * age) : Nat)
  let since := if t.phaseAmount < 0 then -since else since
  let change := (offset - t.solOffset) * (2 ^ 32 : Nat) - applied
  let left := -(offset * (2 ^ 32 : Nat)) - since
  let s1 := setFreq (Config.freqStep t.freq change cycles (getF pgTIM TIM.SERVO_tau_s s)) (setTim { t with
    phaseAmount := left, phaseLeft := left, solAt := s.clk, solOffset := offset } s)
  let hit := adjNow s1 != s1.tim.freq + phaseTerm s1
  raiseIf hit pgTIM 14 (setTim { s1.tim with clamped := hit } s1)

/-- the consecutive solutions inside and outside lock_ns (R277). -/
def countLock (offset : Int) (s : State) : State :=
  if offset.natAbs ≤ getF pgTIM TIM.LOCK_lock_ns s then
    setTim { s.tim with lockRun := s.tim.lockRun + 1, unlockRun := 0 } s
  else setTim { s.tim with lockRun := 0, unlockRun := s.tim.unlockRun + 1 } s

/-- EVENT bit 3 once per excursion beyond alarm_us (R279). -/
def alarmOffset (offset : Int) (s : State) : State :=
  let far := isF pgTIM TIM.ST_first_lock s && decide (getF pgTIM TIM.STEP_CFG_alarm_us s * 1000 < offset.natAbs)
  raiseIf (far && !s.tim.excursion) pgTIM 3 (setTim { s.tim with excursion := far } s)

/-- the offsets of the two ports are compared (R276). -/
def crossCheck (s : State) : State :=
  if usable 0 s && usable 1 s && clean 0 s && clean 1 s then
    let d := ofTwos 32 (getF pgTIM (TIM.PORT_offset_ns 0) s) - ofTwos 32 (getF pgTIM (TIM.PORT_offset_ns 1) s)
    if getF pgTIM TIM.CROSS_cross_ns s < d.natAbs then
      setTim { s.tim with crossBad := s.tim.crossBad + 1, crossGood := 0 } s
    else setTim { s.tim with crossBad := 0, crossGood := s.tim.crossGood + 1 } s
  else s

/-- the pages of R280: ING, DCH, ECH and SND. -/
def grantPages : List Nat :=
  (List.range 64).map pgING ++ (List.range 16).map pgDCH ++ (List.range 32).map pgECH ++ (List.range 16).map pgSND

/-- every such page is out of service, not about to enter it, and not commanded RUNNING (R280). -/
def grantOk (s : State) : Bool :=
  grantPages.all (fun p => !([stSTARTING, stRUNNING, stSTOPPING, stMUTED].contains (act p s)) && cmdOf p s != stRUNNING)

/-- an armed grant is withdrawn, with EVENT bit 4 (R280). -/
def withdrawGrant (s : State) : State :=
  if isF pgTIM TIM.ST_grant_armed s then raise pgTIM 4 (setF pgTIM TIM.ST_grant_armed 0 s) else s

/-- a grant that no longer stands, its time over or a page in service, is withdrawn (R280). -/
def expireGrant (s : State) : State := if grantOk s ∧ s.clk < s.tim.grantEnd then s else withdrawGrant s

/-- what a solution of the governing port does: a granted step (R280), in FREE the first step after four of them
(R278), otherwise the servo (R271, R277, R279). -/
def governSolution (offset : Int) (age : Nat) (s : State) : State :=
  let s0 := expireGrant (alarmOffset offset (setF pgTIM TIM.OFFSET_ns (satTwos 32 offset) s))
  if isF pgTIM TIM.ST_grant_armed s0 then stepCounter (-offset) (setF pgTIM TIM.ST_grant_armed 0 s0)
  else if timSt s0 = 0 then
    let l := s0.tim.firstFour ++ [offset]
    if l.length < 4 then setTim { s0.tim with firstFour := l } s0
    else setF pgTIM TIM.ST_state 1 (setF pgTIM TIM.ST_first_lock 1
      (stepCounter (-(medianOf4 l)) (setTim { s0.tim with firstFour := [] } s0)))
  else
    let s1 := countLock offset (servo offset age s0)
    if timSt s1 = 3 then setF pgTIM TIM.ST_state 1 s1 else s1

/-- an entry goes into port `i`'s transmit time-stamp queue, its stamp with the board correction, or is lost when its 64 entries are
full (R286, R323); answers whether it went in. -/
def pushTx (i ident : Nat) (s : State) : Bool × State :=
  let q := (timPort i s).txq
  if q.length < 64 then
    let stamp := ((timeNs s : Int) + ofTwos 16 (getF (pgETH i) ETH.TS_CORR_tx_ns s)).toNat
    let s1 := modTimPort i (fun p => { p with txq := q ++ [⟨ident, stamp⟩] }) s
    (true, setF pgTIM (TIM.PORT_txq_hwm i) (max (getF pgTIM (TIM.PORT_txq_hwm i) s1) (q.length + 1)) s1)
  else (false, raise pgTIM 12 (addF pgTIM (TIM.PORT_txq_ovf i) 1 s))

/-- picture period of a rate code as a fraction of a second: numerator and denominator (R87). -/
def periodOf : Nat → Nat × Nat
  | 1 => (1001, 24000) | 2 => (1, 24) | 3 => (1, 25) | 4 => (1001, 30000) | 5 => (1, 30) | 6 => (1, 50)
  | 7 => (1001, 60000) | 8 => (1, 60) | 9 => (1, 100) | 10 => (1001, 120000) | _ => (1, 120)

/-- t(n) in ns (R87, R283). -/
def tickTime (rate : Nat) (phase : Int) (n : Nat) : Int :=
  (n * (periodOf rate).1 * 10 ^ 9 / (periodOf rate).2 : Nat) + phase

/-- the number of the last tick at or before `now` ns (R283). -/
def tickIndex (rate : Nat) (phase : Int) (now : Nat) : Nat :=
  (((now - phase + 1).toNat * (periodOf rate).2 - 1)) / ((periodOf rate).1 * 10 ^ 9)

/-- floor(t(n) × hz) of the exact t(n) of R87, as RTP timestamps take it (R193, R224); the tick itself falls at t(n) in whole ns
(R283). [DEDUCED log 45] -/
def tickSteps (rate : Nat) (phase : Int) (hz n : Nat) : Nat :=
  ((((n * (periodOf rate).1 * 10 ^ 9 : Nat) : Int) + phase * (periodOf rate).2) * hz).toNat / ((periodOf rate).2 * 10 ^ 9)

/-- PTP time as FAB carries it: the counter, or, while TIMEREF is lost, its last value and the FAB cycles counted since (R16, R97). -/
def fabNs (s : State) : Nat := if timSt s = 4 then timeNs s + 5 * (s.clk - s.tim.stopAt) else timeNs s

/-- time passes until the counter is at or past `t` ns: the MGT ticks this takes at the slower of the rates that run, or, while
TIMEREF is lost, those that the FAB count takes. [DESIGN CHOICE log 4] -/
def advanceToNs (t : Int) (s : State) : State :=
  if timSt s = 4 then passTicks ((t.toNat - fabNs s + 4) / 5) s
  else
  let gap := t.toNat * 2 ^ 32 - s.tim.count
  let rate := (2 ^ 32 : Nat) + min (adjNow s) (clampAdj s.tim.freq)
  passTicks ((gap + 5 * rate.toNat - 1) / (5 * rate.toNat)) s

/-- the phase of a frame clock whose register holds `w`. -/
def phaseNs (w : Nat) : Int := ofTwos 32 w

/-- PTP stops on both ports: no grandmaster is chosen any more and counts begun end (R288). -/
def stopPtp (s : State) : State :=
  let stop := fun (p : TimPort) => { p with chosen := none, jumps := 0, abandoned := false }
  modTimPort 0 stop (modTimPort 1 stop (setTim { s.tim with firstFour := [] } s))

/-- what a newly taken STATE_CMD makes of TIM (R288). [DEDUCED log 60] -/
def timState (s : State) : State :=
  let c := getF pgTIM HDR.CMD_state s
  if c = act pgTIM s ∨ (act pgTIM s = stFAULT ∧ c ≠ stIDLE ∧ c ≠ stOFF) then s
  else if c = stRUNNING then setAct pgTIM stRUNNING 0 s
  else
    let st := if timSt s = 4 then 4 else if isF pgTIM TIM.ST_first_lock s then 3 else 0
    let enters := st = 3 ∧ timSt s ≠ 3
    raiseIf (decide enters) pgTIM 1 (setAct pgTIM c 0 (setF pgTIM TIM.ST_state st
      (stopPtp (if enters then holdFreq s else setTim { s.tim with phaseLeft := 0, phaseAmount := 0 } s))))

/-- what taking a generation makes of TIM: its state (R288), the governing port under the new sel_mode and enables (R275), and the
pulse outputs under the new gates (R285). -/
def timCommand (s : State) : State := holdoverIf (reselect (timState s))

/-! ## The commands -/

/-- SYNC (R271, R274 to R280): a message of another domain is dropped with reason 0x03 (R273); a solution of a usable
port is formed, is withheld while the port's guard is open or its jump count runs (R281), is compared with the other
port's, and, of the governing port, reaches the servo. -/
def syncOp (i dom : Nat) (offset : Int) (age : Nat) (s : State) : State :=
  if !portUp i s then s
  else if !ptpTakes i s ∨ dom ≠ getF pgTIM TIM.PTP_CFG_domain s then dropIn i 0 3 s
  else if !usable i s then acceptIn i 0 s
  else
    let s := acceptIn i 0 s
    let s1 := addF pgTIM (TIM.PORT_sync_rx i) 1 (setF pgTIM (TIM.PORT_offset_ns i) (satTwos 32 offset) s)
    if !clean i s1 ∨ govPort s1 ≠ i then s1 else governSolution offset age (crossCheck s1)

/-- CROSS_MISMATCH (R276). -/
def execCrossMismatch (s : State) : Host.Outcome State Fault Refusal :=
  let n := getF pgTIM TIM.CROSS_cross_count s
  if isF pgTIM TIM.ST_cross_ok s && decide (n ≤ s.tim.crossBad) then
    .next (noteA (raise pgTIM 9 (setF pgTIM TIM.ST_cross_ok 0 s)))
  else if !isF pgTIM TIM.ST_cross_ok s && decide (n ≤ s.tim.crossGood) then .next (noteA (setF pgTIM TIM.ST_cross_ok 1 s))
  else .next s

/-- LOCKED's own part (R277): not while adj is clamped (R271). -/
def lockedOp (s : State) : State :=
  if timSt s = 1 ∧ getF pgTIM TIM.LOCK_lock_count s ≤ s.tim.lockRun ∧ !s.tim.clamped then
    raise pgTIM 0 (setF pgTIM TIM.ST_state 2 s)
  else s

/-- LOCK_LOSS (R277). -/
def execLockLoss (s : State) : Host.Outcome State Fault Refusal :=
  if timSt s = 2 ∧ getF pgTIM TIM.LOCK_lock_count s ≤ s.tim.unlockRun then
    .next (settlePulses s (setF pgTIM TIM.ST_state 1 (setTim { s.tim with lockRun := 0, unlockRun := 0 } s)))
  else .next s

/-- firmware takes the entries of a transmit time-stamp queue, in order, when an exchange needs its stamp (R286). [DEDUCED log 60] -/
def drainTx (i : Nat) (s : State) : State := modTimPort i (fun p => { p with txq := [] }) s

/-- a path-delay sample enters the filtered mean of the last 16 (R281). [DESIGN CHOICE log 59; DEDUCED log 60] -/
def takeSample (i : Nat) (sample : Int) (s : State) : State :=
  let l := (sample :: (timPort i s).samples).take 16
  setF pgTIM (TIM.PORT_mpd_ns i) (toTwos 32 (meanOf l))
    (modTimPort i (fun p => { p with samples := l, jumps := 0 }) s)

/-- DELAY_RESP (R274, R281, R282): a sample during a hold is kept for the new mean; one that differs from the filtered
mean by more than guard_ns counts towards opening the guard; any other ends the count and enters the mean. The answer to a message
whose stamp was lost yields none (R286). -/
def execDelayResp (port : Fin 2) (msg : Byte × Int) (s : State) : Host.Outcome State Fault Refusal :=
  let i := port.val
  let sample := msg.2
  let p := timPort i s
  let d := sample - ofTwos 32 (getF pgTIM (TIM.PORT_mpd_ns i) s)
  if !portUp i s then .next s
  else if !ptpTakes i s ∨ msg.1.toNat ≠ getF pgTIM TIM.PTP_CFG_domain s then .next (dropIn i 0 3 s)
  else
  let s := drainTx i (acceptIn i 0 s)
  if p.abandoned then .next (modTimPort i (fun p => { p with abandoned := false }) s)
  else if guardOpen i s then .next (modTimPort i (fun p => { p with holdSamples := p.holdSamples ++ [sample] }) s)
  else if p.samples ≠ [] ∧ getF pgTIM TIM.GUARD_guard_ns s < d.natAbs then
    let same := decide (0 < p.jumps) && p.jumpUp == decide (0 < d)
    .next (modTimPort i (fun p => { p with jumps := if same then p.jumps + 1 else 1, jumpUp := decide (0 < d) }) s)
  else .next (reselect (takeSample i sample s))

/-- PATH_GUARD_OPEN (R281, R282, R275). -/
def execPathGuardOpen (port : Fin 2) (s : State) : Host.Outcome State Fault Refusal :=
  let i := port.val
  if !guardOpen i s && decide (getF pgTIM TIM.GUARD_jump_count s ≤ (timPort i s).jumps) then
    let hold := getF pgTIM TIM.GUARD_hold_s s * tickS
    let s1 := modTimPort i (fun p => { p with jumps := 0, guardEnd := s.clk + hold, holdSamples := [] }) s
    .next (reselect (raise pgTIM (5 + i) (addF pgTIM (TIM.PORT_jumps i) 1
      (setF pgTIM (if i = 0 then TIM.ST_guard_a else TIM.ST_guard_b) 1 s1))))
  else .next s

/-- PATH_GUARD_CLOSE (R281, R282): hold_s after it opened, the guard closes and the new path is accepted. -/
def execPathGuardClose (port : Fin 2) (s : State) : Host.Outcome State Fault Refusal :=
  let i := port.val
  if guardOpen i s then
    let p := timPort i s
    let l := if p.holdSamples = [] then p.samples else p.holdSamples
    let s0 := advanceTo p.guardEnd s
    let s1 := modTimPort i (fun p => { p with samples := l.take 16, holdSamples := [], jumps := 0 }) s0
    .next (reselect (raise pgTIM 7 (setF pgTIM (TIM.PORT_mpd_ns i) (toTwos 32 (meanOf l))
      (setF pgTIM (if i = 0 then TIM.ST_guard_a else TIM.ST_guard_b) 0 s1))))
  else .next s

/-- the grandmaster that port `i` shows (R290), and, of the governing port, the UTC offset (R273). -/
def showMaster (i : Nat) (gm : Announce) (s : State) : State :=
  let s1 := setF pgTIM (TIM.PORT_gm_id i) (gm.gmId.toNat % 2 ^ 32 * 2 ^ 32 + gm.gmId.toNat / 2 ^ 32)
    (setF pgTIM (TIM.PORT_priority1 i) gm.priority1.toNat (setF pgTIM (TIM.PORT_clock_class i) gm.clockClass.toNat
      (setF pgTIM (TIM.PORT_steps_removed i) gm.stepsRemoved.toNat s)))
  if govPort s = i then
    setF pgTIM TIM.UTC_valid (if gm.utcValid then 1 else 0) (setF pgTIM TIM.UTC_offset_s gm.utcOffset.toNat s1)
  else s1

/-- ANNOUNCE (R273, R274): the best timeTransmitter algorithm of the port keeps the better of the chosen and the new
one; a changed grandmaster raises EVENT bit 10, ports that now follow different ones EVENT bit 11. -/
def execAnnounce (port : Fin 2) (domain : Byte) (gm : Announce) (s : State) : Host.Outcome State Fault Refusal :=
  let i := port.val
  if !portUp i s then .next s
  else if !ptpTakes i s ∨ domain.toNat ≠ getF pgTIM TIM.PTP_CFG_domain s then .next (dropIn i 0 3 s)
  else
    let s := acceptIn i 0 s
    let s1 := addF pgTIM (TIM.PORT_ann_rx i) 1 s
    let take := match (timPort i s).chosen with
      | none => true
      | some c => c.gmId == gm.gmId || decide (gm.rank < c.rank)
    if take then
      let shown := getF pgTIM (TIM.PORT_gm_id i) s
      let changed := decide (shown ≠ 0 ∧ shown ≠ gm.gmId.toNat % 2 ^ 32 * 2 ^ 32 + gm.gmId.toNat / 2 ^ 32)
      let s2 := showMaster i gm (modTimPort i (fun p =>
        { p with chosen := some gm, annEnd := s.clk + gm.timeoutMs * tickMs }) s1)
      .next (reselect (raiseIf (gmDiffers s2 && !gmDiffers s) pgTIM 11 (raiseIf changed pgTIM 10 s2)))
    else .next s1

/-- ANNOUNCE_TIMEOUT (R274, R277): the port is usable no more; another port governs, or HOLDOVER follows. -/
def execAnnounceTimeout (port : Fin 2) (s : State) : Host.Outcome State Fault Refusal :=
  let i := port.val
  match (timPort i s).chosen with
  | none => .next s
  | some _ =>
    let s1 := advanceTo (timPort i s).annEnd s
    .next (holdoverIf (reselect (modTimPort i (fun p => { p with chosen := none }) s1)))

/-- a PTP message of `n` bytes leaves on port `i`: UDP, IP and Ethernet headers, the port's PTP tag and the FCS. -/
def ptpSent (i n : Nat) (s : State) : State :=
  ethSent i 1 (n + 26 + (if getF pgTIM TIM.PTP_CFG_transport s = 1 then 40 else 20) +
    (if isF pgTIM (if i = 0 then TIM.PTP_VLAN_a_vlan_en else TIM.PTP_VLAN_b_vlan_en) s then 4 else 0)) s

/-- DELAY_REQ_SEND (R273, R290): a Delay_Req, or a Pdelay_Req in peer-to-peer mode, leaves on the port. -/
def execDelayReqSend (port : Fin 2) (ident : BitVec 16) (s : State) : Host.Outcome State Fault Refusal :=
  let i := port.val
  if ptpRuns s && usable i s then
    let p2p := getF pgTIM TIM.PTP_CFG_delay_p2p s
    let r := pushTx i ident.toNat s
    .next (emit .ptp i [p2p, ident.toNat] (ptpSent i (44 + 10 * p2p) (addF pgTIM (TIM.PORT_delay_tx i) 1
      (modTimPort i (fun p => { p with abandoned := !r.1 }) r.2))))
  else .next s

/-- PDELAY_REQ (R273, R286): answered two-step; when the stamp of the Pdelay_Resp is lost, the follow-up is not sent
and the request is dropped with reason 0x08. -/
def execPdelayReq (port : Fin 2) (msg : Byte × BitVec 16) (s : State) : Host.Outcome State Fault Refusal :=
  let i := port.val
  let ident := msg.2
  if !portUp i s then .next s
  else if ptpTakes i s && isF pgTIM TIM.PTP_CFG_delay_p2p s && msg.1.toNat == getF pgTIM TIM.PTP_CFG_domain s then
    let r := pushTx i ident.toNat s
    let s1 := emit .ptp i [2, ident.toNat] (ptpSent i 54 r.2)
    if r.1 then .next (emit .ptp i [3, ident.toNat] (ptpSent i 54 (drainTx i (acceptIn i 0 s1)))) else .next (dropIn i 0 8 s1)
  else .next (dropIn i 0 3 s)

/-- REVERT_TIMER (R275): in mode 1, port A governs again once it has been usable, its guard closed and cross-check agreeing, for
60 s. -/
def execRevertTimer (s : State) : Host.Outcome State Fault Refusal :=
  match s.tim.aGood with
  | none => .next s
  | some t =>
    if getF pgTIM TIM.PTP_CFG_sel_mode s = 1 then .next (governBy 0 (advanceTo (t + 60 * tickS) s)) else .next s

/-- TIM.CMD.step_grant (R280). -/
def stepGrantOp (s : State) : Status × State :=
  if grantOk s then
    (.success, setF pgTIM TIM.ST_grant_armed 1
      (setTim { s.tim with grantEnd := s.clk + getF pgTIM TIM.STEP_CFG_grant_ms s * tickMs } s))
  else (.refusedInService, s)

/-- TIM.CMD.revert (R275). -/
def revertOp (s : State) : State :=
  if getF pgTIM TIM.PTP_CFG_sel_mode s = 0 ∧ usable 0 s ∧ !guardOpen 0 s then governBy 0 s else s

/-- GRANT_WITHDRAWN (R280): no solution came within grant_ms, or a page fails a condition. -/
def execGrantWithdrawn (s : State) : Host.Outcome State Fault Refusal :=
  if isF pgTIM TIM.ST_grant_armed s then
    .next (withdrawGrant (if grantOk s then advanceTo s.tim.grantEnd s else s))
  else .next s

/-- FCLK_TICK (R283): the frame clock's next tick comes, and its picture number is that tick's. -/
def fclkTickOp (f : Nat) (s : State) : State :=
  let rate := getF pgTIM (TIM.FCLK_rate f) s
  let ph := phaseNs (getF pgTIM (TIM.FCLK_phase_ns f) s)
  let n := tickIndex rate ph (timeNs s) + 1
  setF pgTIM (TIM.FCLK_picture f) n (advanceToNs (tickTime rate ph n) s)

/-- the low-speed pins are powered (R466). -/
def vioOk (s : State) : Bool := isF pgDEV DEV.ST_vio_ok s

def capsOf (n : Nat) (s : State) : List CapEntry := SMap.get [] n s.tim.caps

/-- TCAP_EDGE (R284): `stable` and `gap` are the ns for which the input was stable before the edge and since the last
captured one. -/
def execTcapEdge (n : Fin 4) (rising : Bool) (sub : Fin 8) (stable gap : Nat) (s : State) :
    Host.Outcome State Fault Refusal :=
  let sel := getF pgTIM (TIM.CAP_edge n.val) s
  if timSt s = 4 ∨ !vioOk s ∨ !(if rising then sel.testBit 0 else sel.testBit 1) ∨ stable < 2 then .next s
  else if gap < 4 ∨ 16 ≤ (capsOf n.val s).length then .next (raise pgTIM 13 (satF pgTIM (TIM.CAP_OVF n.val) 1 s))
  else .next (setTim { s.tim with
    caps := SMap.set [] n.val (capsOf n.val s ++ [⟨s.tim.count, sub.val, rising⟩]) s.tim.caps } s)

/-- the CAPn_NS word of an entry (R290). -/
def CapEntry.word (e : CapEntry) : Nat :=
  2 ^ 31 + (if e.rising then 2 ^ 30 else 0) + e.stamp / 2 ^ 32 % 10 ^ 9

/-- the tick from `n` on whose picture number, n mod 2^32, is a multiple of `div` (R285, R88). -/
def nextMultiple (div n : Nat) : Nat :=
  let r := n % 2 ^ 32 % div
  let up := if r = 0 then n else n + (div - r)
  if up / 2 ^ 32 = n / 2 ^ 32 then up else (n / 2 ^ 32 + 1) * 2 ^ 32

/-- the next leading edge of pulse output `n` after now, in ns of the counter (R285). -/
def nextEdge (n : Nat) (s : State) : Int :=
  let ph := ofTwos 32 (getF pgTIM (TIM.PLS_phase_ns n) s)
  if getF pgTIM (TIM.PLS_mode n) s = 1 then
    let f := getF pgTIM (TIM.PLS_fclk n) s
    let rate := getF pgTIM (TIM.FCLK_rate f) s
    let tph := phaseNs (getF pgTIM (TIM.FCLK_phase_ns f) s) + ph
    let first := if (timeNs s : Int) < tickTime rate tph 0 then 0 else tickIndex rate tph (timeNs s) + 1
    tickTime rate tph (nextMultiple (getF pgTIM (TIM.PLS_div n) s) first)
  else (((timeNs s : Int) - ph) / 10 ^ 9 + 1) * 10 ^ 9 + ph

/-- PULSE_EDGE (R285): the counter reaches the output's next edge, a whole second plus phase or a tick whose picture number is a
multiple of div plus phase; where the gate lets it, the pulse begins and its end is set. [DESIGN CHOICE log 4] -/
def execPulseEdge (n : Fin 2) (s : State) : Host.Outcome State Fault Refusal :=
  if timSt s = 4 ∨ !isF pgTIM (TIM.PLS_en n.val) s then .next s
  else
    let s1 := advanceToNs (nextEdge n.val s) s
    if pulseGate n.val s1 then
      let fall := s1.clk + (getF pgTIM (TIM.PLS_width_ns n.val) s1 + 4) / 5
      .next (setPulse n.val 1 (setTim { s1.tim with pulseEnd := SMap.set 0 n.val fall s1.tim.pulseEnd } s1))
    else .next s1

/-- PULSE_WIDTH_END (R285): width_ns after its leading edge the output is inactive again. -/
def execPulseWidthEnd (n : Fin 2) (s : State) : Host.Outcome State Fault Refusal :=
  if SMap.get 0 n.val s.tim.pulses = 1 then
    .next (setPulse n.val 0 (advanceTo (SMap.get 0 n.val s.tim.pulseEnd) s))
  else .next s

/-- TIMEREF is lost (R16, R277, R285, R288, R497): TIME stops, pulses are inactive, DEV shows the loss and raises its event. -/
def timerefLostOp (s : State) : State :=
  if timSt s = 4 then s
  else
    let s1 := setF pgTIM TIM.ST_state 4 (setTim { s.tim with stopAt := s.clk, lockRun := 0, unlockRun := 0 } s)
    raise pgDEV 0 (setF pgDEV DEV.ST_timeref_lost 1 (setPulse 0 0 (setPulse 1 0 s1)))

/-- TIMEREF is back (R16, R288): with VIN up throughout, the counter is loaded from the FAB extrapolation and holds over;
after a loss with VIN off it resumes from its stopped value, free and without first lock. -/
def timerefReturnOp (vinUp : Bool) (s : State) : State :=
  if timSt s ≠ 4 then s
  else
    let s0 := raise pgDEV 1 (setF pgDEV DEV.ST_timeref_lost 0 s)
    if vinUp then
      raiseIf (isF pgTIM TIM.ST_first_lock s) pgTIM 1
        (setF pgTIM TIM.ST_state (if isF pgTIM TIM.ST_first_lock s then 3 else 0) (setTim { s.tim with
          count := s.tim.count + 5 * (s.clk - s.tim.stopAt) * 2 ^ 32, phaseLeft := 0, phaseAmount := 0 } s0))
    else setF pgTIM TIM.ST_first_lock 0 (setF pgTIM TIM.ST_state 0
      (setTim { s.tim with phaseLeft := 0, phaseAmount := 0, firstFour := [] } s0))

/-- WHOLE_SECOND (R289, R287): the counter reaches its next whole second, and a committed generation is taken there. -/
def wholeSecondOp (s : State) : State :=
  if timSt s = 4 then s
  else
    let s1 := advanceToNs (((timeNs s / 10 ^ 9 + 1) * 10 ^ 9 : Nat) : Int) s
    if pendingGen pgTIM s1 then settlePulses s1 (takeWith pgTIM timCommand s1) else s1

end Sys2Proof.Machine
end

