-- ==== Sys2Proof/Machine/Ingest.lean ====
section
/-! DEFINITION. Sys2Proof/Machine/Ingest.lean: the ST 2022-7 merge, concealment, the input ring and the frame synchroniser
(chapter 03, R74 to R97, R106 to R109). -/

namespace Sys2Proof.Machine

/-! ## The merge (R80, R81) -/

/-- what the merge makes of a copy. -/
inductive Verdict where
  | deliver | duplicate | late
  deriving DecidableEq, Repr

/-- the running number of a `bits`-wide sequence number, nearest to the highest delivered. [DEDUCED log 35] -/
def Merge.place (bits seq : Nat) (m : Merge) : Nat :=
  if !m.started then seq + 2 ^ bits
  else
    let d := (seq + 2 ^ bits - m.high % 2 ^ bits) % 2 ^ bits
    if d < 2 ^ (bits - 1) then m.high + d else m.high + d - 2 ^ bits

/-- number `u` is still undecided at tick `now` (R81): above the highest delivered, in its own window, or below the first number
delivered while the window that one opened lasts. [DEDUCED log 35] -/
def Merge.undecided (limit now u : Nat) (m : Merge) : Bool :=
  if !m.started || decide (m.high < u) then true
  else match SMap.find u m.expiry with
    | some e => decide (now < e.end_)
    | none => decide (u < m.base) && (SMap.find u m.got).isNone && decide (now < m.baseEnd) && decide (m.high < u + limit)

/-- Number `u`, a packet of picture `key` and line `line` with media time `media`, is delivered at tick `now` (R80, R81): the
numbers it passes over start their windows, `step` ns of media time apart. Answers the merge and the numbers that its limit of
`limit` declares missing. -/
def Merge.deliver (limit window now step u key line media : Nat) (m : Merge) : Merge × List (Nat × Undecided) :=
  let high := if m.started then max m.high u else u
  let lo := if m.started then max (m.high + 1) (u + 1 - limit) else u
  let passed := (List.range (u - lo)).map (fun k => lo + k)
  let exp := passed.foldl (fun e v => SMap.put v ⟨now + window, media - (u - v) * step⟩ e) (SMap.drop u m.expiry)
  ({ started := true, high := high,
     base := if m.started then m.base else u, baseEnd := if m.started then m.baseEnd else now + window,
     got := SMap.put u ⟨now + window, key, line⟩ (m.got.filter (fun e => decide (now < e.2.until_))),
     expiry := exp.filter (fun e => decide (high < e.1 + limit)) },
   exp.filter (fun e => decide (e.1 + limit ≤ high)))

/-- What a copy of `seq` is at tick `now` (R80, R81): the first one, a later one within the merge window of a delivered number, or
one that comes after that window or after its number was declared missing. [DEDUCED log 35] -/
def Merge.verdict (bits limit now seq : Nat) (m : Merge) : Verdict :=
  let u := m.place bits seq
  if m.undecided limit now u then .deliver
  else match SMap.find u m.got with
    | some g => if now < g.until_ then .duplicate else .late
    | none => .late

/-- the end of the window of a number that waits for the twin lead's answer (R249). [DEDUCED log 91] -/
def askedEnd : Nat := 2 ^ 128

/-- the undecided number whose window ends first, with its tick. [DEDUCED log 35] -/
def Merge.next (m : Merge) : Option (Nat × Nat) :=
  (m.expiry.filter (fun e => decide (e.2.end_ < askedEnd))).foldl (fun b e => match b with
    | none => some (e.1, e.2.end_)
    | some c => if e.2.end_ < c.2 then some (e.1, e.2.end_) else some c) none

/-- a number is declared missing (R81). [DEDUCED log 35] -/
def Merge.lose (u : Nat) (m : Merge) : Merge := { m with expiry := SMap.drop u m.expiry }

/-- number `u` is asked of the twin lead instead of being declared missing (R249): it stays undecided. [DEDUCED log 91] -/
def Merge.ask (u : Nat) (m : Merge) : Merge :=
  { m with expiry := match SMap.find u m.expiry with | some e => SMap.put u { e with end_ := askedEnd } m.expiry | none => m.expiry }

/-- the undecided numbers whose pixels lie above line `line` of picture `key`: a delivered number above them does (R81). -/
def Merge.above (key line : Nat) (m : Merge) : List Nat :=
  (m.expiry.filter (fun e => m.got.any (fun g => decide (e.1 < g.1) &&
    (decide (g.2.key < key) || (g.2.key == key && decide (g.2.line < line)))))).map Prod.fst

/-! ## The page's own quantities -/

def ingOf (i : Nat) (s : State) : IngS := SMap.get IngS.reset i s.ing

def modIng (i : Nat) (f : IngS → IngS) (s : State) : State := { s with ing := modAt IngS.reset i f s.ing }

def kindIdx : FlowKind → Nat
  | .video => 0 | .audio => 1 | .anc => 2

/-- the counter block of a flow (R108). -/
def fcBase (k : FlowKind) : Nat := 0x400 + 0x40 * (kindIdx k)

/-- a frame of the flow counted at `b` is dropped with `reason` (R34, R108). -/
def flowDrop (p b reason : Nat) (s : State) : State :=
  let s1 := addF p (FCNT.drop b) 1 s
  if getF p (FCNT.drop_sel b) s = reason then addF p (FCNT.drop_by_reason b) 1 s1 else s1

/-- the page's tick rate: the field rate for an interlaced source (R87). -/
def ingRate (i : Nat) (s : State) : Nat :=
  let c := getF (pgING i) ING.VFMT_rate s
  if isF (pgING i) ING.VFMT_interlaced s then (if c = 3 then 6 else 7) else c

def ingPhase (i : Nat) (s : State) : Int := phaseNs (getF (pgING i) ING.FS_PHASE_phase_ns s)

/-- lines of a picture, or of a field, as the page receives it (R96). -/
def ingLines (i : Nat) (s : State) : Nat :=
  let h := getF (pgING i) ING.VDIM_height s
  if isF (pgING i) ING.VFMT_interlaced s then h / 2 else h

def ingWidth (i : Nat) (s : State) : Nat := getF (pgING i) ING.VDIM_width s

/-- three components as one number. -/
def packPx (a b c : Nat) : Nat := (a * 2 ^ 16 + b) * 2 ^ 16 + c

/-- video-range black in the page's format (R92). -/
def ingBlack (i : Nat) (s : State) : Nat :=
  let d := getF (pgING i) ING.VFMT_depth s
  let y := 16 * 4 ^ d
  let c := 128 * 4 ^ d
  if getF (pgING i) ING.VFMT_sampling s = 2 then packPx y y y else packPx y c c

/-- who reads the pictures of ING `i`: encode channels fed directly, by page, and conditioning paths, as 0x2000 + 8 × unit
+ path (R81, R86). -/
def ingConsumers (i : Nat) (s : State) : List Nat :=
  ((List.range 32).filter (fun c =>
    act (pgECH c) s == stRUNNING && getF (pgECH c) ECH.SRC_src_kind s == 0 && getF (pgECH c) ECH.SRC_src s == i)).map
      pgECH ++
  ((List.range 32).filter (fun q =>
    isF (pgCND (q / 8)) (CND.PATH_en (q % 8)) s && !isF (pgCND (q / 8)) (CND.PATH_src_dch (q % 8)) s &&
    getF (pgCND (q / 8)) (CND.PATH_src (q % 8)) s == i &&
    (List.range 16).any (fun m => isF (pgCND (q / 8)) (CND.OCTL_en m) s &&
      getF (pgCND (q / 8)) (CND.OCTL_path m) s == q % 8))).map (fun q => 0x2000 + q)

/-- picture period of the page in whole ns, rounded up. -/
def ingPeriodNs (i : Nat) (s : State) : Nat :=
  ((periodOf (ingRate i s)).1 * 10 ^ 9 + (periodOf (ingRate i s)).2 - 1) / (periodOf (ingRate i s)).2

def slotOf (key : Nat) (x : IngS) : Option RingSlot := x.ring.find? (fun t => t.key == key)

def modSlot (key : Nat) (f : RingSlot → RingSlot) (x : IngS) : IngS :=
  { x with ring := x.ring.map (fun t => if t.key = key then f t else t) }

/-- the media time of a picture's key. -/
def mediaOf (key : Nat) : Nat := key / 2

/-- the picture to which a run of a packet belongs: of an interlaced page, the field that its header's field bit names (R96). -/
def srdKey (i : Nat) (pkt : MediaPkt) (d : Srd) (s : State) : Nat :=
  2 * pkt.media + (if isF (pgING i) ING.VFMT_interlaced s && d.second then 1 else 0)

/-- the picture of a packet's first run. -/
def pktKey (i : Nat) (pkt : MediaPkt) (s : State) : Nat :=
  match pkt.srds with | d :: _ => srdKey i pkt d s | [] => 2 * pkt.media

/-- what the page fed at tick `n`, if it is among its last ticks. -/
def tickAt (n : Nat) (x : IngS) : Option FedTick := x.hist.find? (fun e => e.n == n)

/-! ## Reception (R79 to R86) -/

/-- the class bit of an ANC packet (R78). -/
def ancClass (a : Anc) : Nat :=
  if a.did = 0x61 ∧ a.sdid = 1 then 0 else if a.did = 0x61 ∧ a.sdid = 2 then 1
  else if a.did = 0x60 ∧ a.sdid = 0x60 then 2 else if a.did = 0x41 ∧ a.sdid = 5 then 3
  else if a.did = 0x41 ∧ a.sdid = 7 then 4 else 5

/-- a caption packet (R78, R91). -/
def isCaption (a : Anc) : Bool := decide (ancClass a ≤ 1)

/-- A picture is dropped, or never stored (R86, R90, R91): counted in FS_DROPS with EVENT bit 3, its captions carried to the next fed
picture, its audio and other ANC packets discarded. -/
def dropPicture (i key : Nat) (s : State) : State :=
  raise (pgING i) 3 (addF (pgING i) SYNC.fs_drops 1 (modIng i (fun x =>
    let mine := x.ancs.filter (fun e => e.1 == mediaOf key)
    { x with
      ring := x.ring.filter (fun t => t.key != key)
      dropped := (key :: x.dropped).take 64
      carried := x.carried ++ (mine.map Prod.snd).filter isCaption
      ancs := x.ancs.filter (fun e => e.1 != mediaOf key) }) s))

/-- the pixels of a picture of the page. -/
def ingPixels (i : Nat) (s : State) : Nat := ingLines i s * ingWidth i s

/-- the capture in progress is stored (R94): the slate holds the picture as it stands, STATUS.slate_valid and EVENT bit 10. -/
def storeSlate (i : Nat) (s : State) : State :=
  match (ingOf i s).slateFrom with
  | none => s
  | some (key, _) =>
    match slotOf key (ingOf i s) with
    | none => modIng i (fun x => { x with slateFrom := none }) s
    | some t => raise (pgING i) 10 (setF (pgING i) ING.ST_slate_valid 1
        (modIng i (fun x => { x with slate := some t.pix, slateFrom := none }) s))

/-- the capture is stored once every pixel of its picture is in its slot, delivered or concealed. -/
def settleSlate (i : Nat) (s : State) : State :=
  match (ingOf i s).slateFrom with
  | none => s
  | some (key, _) =>
    match slotOf key (ingOf i s) with
    | some t => if ingPixels i s ≤ t.pix.length then storeSlate i s else s
    | none => s

/-- a slot is overwritten after its feed: a capture of it ends first. -/
def freeSlot (i key : Nat) (s : State) : State :=
  let s1 := if ((ingOf i s).slateFrom.map Prod.fst) = some key then storeSlate i s else s
  modIng i (fun x => { x with ring := x.ring.filter (fun u => u.key != key), past := (key :: x.past).take 64 }) s1

/-- The first packet of a picture chooses its slot (R86): a free one, else that of the oldest picture that nobody reads and that is
not the previous fed one (a drop if it was never fed); else the picture is not stored, a drop as well. -/
def chooseSlot (i key stamp : Nat) (second : Bool) (s : State) : State :=
  let x := ingOf i s
  let add := fun s => modIng i (fun x => { x with ring := x.ring ++ [⟨key, stamp, second, [], [], 0, 0, false, none, []⟩] }) s
  if x.ring.length < getF (pgING i) ING.RING_depth s + 1 then add s
  else
    match x.ring.find? (fun t => t.readers.isEmpty && x.fed != some t.key) with
    | some t => if t.fedAs.isNone then add (dropPicture i t.key s) else add (freeSlot i t.key s)
    | none => dropPicture i key s

/-- the pixels of a run that its picture still takes: not on lines that are final (R81, R83). -/
def writeSrd (d : Srd) (t : RingSlot) : RingSlot :=
  if d.line < t.finalLines ∨ t.mapFull then t
  else { t with pix := d.samples.zipIdx.foldl (fun m e => SMap.put (d.line * 2 ^ 16 + d.start + e.2) e.1 m) t.pix }

/-- one run of a delivered packet is stored in its picture's slot (R83, R86, R96). -/
def storeSrd (i : Nat) (pkt : MediaPkt) (stamp : Nat) (d : Srd) (s : State) : State :=
  let key := srdKey i pkt d s
  let x := ingOf i s
  let s1 := if (slotOf key x).isNone ∧ !x.dropped.contains key ∧ !x.past.contains key then
    chooseSlot i key stamp (isF (pgING i) ING.VFMT_interlaced s && d.second) s else s
  modIng i (modSlot key (writeSrd d)) s1

/-- a delivered video packet is stored (R83, R86, R96). [PRESUMED log 36] -/
def storeVideo (i : Nat) (pkt : MediaPkt) (stamp : Nat) (s : State) : State :=
  settleSlate i (pkt.srds.foldl (fun s d => storeSrd i pkt stamp d s) s)

/-- a delivered ancillary packet: its selected ANC packets join their picture, at most 256 of them (EVENT bit 8), captions of a
picture already dropped are carried; the unselected ones are counted in ANC_DISC (R78, R91, R109). [PRESUMED log 36] -/
def storeAnc (i : Nat) (pkt : MediaPkt) (s : State) : State :=
  let keep := pkt.ancs.filter (fun a => (getF (pgING i) ING.ANC_classes s).testBit (ancClass a))
  let s1 := addF (pgING i) ING.ANC_DISC_count (pkt.ancs.length - keep.length) s
  let x := ingOf i s
  let held := (x.ancs.filter (fun e => e.1 == pkt.media)).length
  if x.dropped.any (fun k => mediaOf k == pkt.media) then
    modIng i (fun x => { x with carried := x.carried ++ keep.filter isCaption }) s1
  else
    raiseIf (decide (256 < held + keep.length)) (pgING i) 8
      (modIng i (fun x => { x with ancs := x.ancs ++ (keep.take (256 - held)).map (fun a => (pkt.media, a)) }) s1)

/-- the 48 kHz sample nearest to a media time (R77). -/
def audioIndex (ns : Nat) : Nat := (ns * 48000 + 500000000) / 10 ^ 9

/-- the first 48 kHz sample at or after a media time; half a ns of rounding is allowed. [PRESUMED log 36] -/
def audioFirst (ns : Nat) : Nat := (ns * 48000 + (10 ^ 9 - 1 - 24000)) / 10 ^ 9

/-- channels of the audio flow (R77). -/
def audioChannels (i : Nat) (s : State) : Nat := max 1 (getF (pgING i) ING.AFMT_channels s)

/-- a delivered audio packet: its samples, each with its own place on the media clock (R77). [PRESUMED log 36] -/
def storeAudio (i : Nat) (pkt : MediaPkt) (s : State) : State :=
  let ch := audioChannels i s
  let k := audioIndex pkt.media
  modIng i (fun x => { x with audio := (List.range (pkt.audio.length / ch)).foldl (fun m j =>
    SMap.put (k + j) ((pkt.audio.drop (j * ch)).take ch) m) x.audio }) s

/-- sequence width and span limit of a flow (R81). -/
def seqBits : FlowKind → Nat | .video => 32 | _ => 16
def spanLimit : FlowKind → Nat | .video => 2 ^ 21 | _ => 2 ^ 15

/-- a run of the packet lies outside VDIM (R109). -/
def outsideDims (i : Nat) (pkt : MediaPkt) (s : State) : Bool :=
  pkt.srds.any (fun d => decide (ingLines i s ≤ d.line) || decide (ingWidth i s < d.start + d.samples.length))

/-- a copy some of whose pixels are already final (R81). -/
def pastDeadline (i : Nat) (pkt : MediaPkt) (s : State) : Bool :=
  pkt.srds.any (fun d => match slotOf (srdKey i pkt d s) (ingOf i s) with
    | some t => decide (d.line < t.finalLines)
    | none => false)

/-- the fate of a frame at its flow (R34): committed to the flow's queue, duplicate, dropped with a reason, or waiting in
the MAC buffer for a cell under flow control (R361). -/
inductive Fate where
  | queued | duplicate | dropped (reason : Nat) | waits
  deriving DecidableEq, Repr

/-- the queue of a flow of page `i` (R357). -/
def flowQueue (i : Nat) : FlowKind → Nat | .video => qVideo i | .audio => qAudio i | .anc => qAnc i

/-- a frame matched to a leg of an ING flow comes in: the leg is up, the frame counts as received and in flight (R34, R97). -/
def ingSeen (i : Nat) (k : FlowKind) (legB : Bool) (s : State) : State :=
  let p := pgING i
  setF p (if legB then ING.ST_leg_b_up else ING.ST_leg_a_up) 1
    (addF p (FCNT.inflight (fcBase k)) 1 (addF p (if legB then FCNT.rx_b (fcBase k) else FCNT.rx_a (fcBase k)) 1
      (modIng i (fun x => { x with legAt := SMap.put legB.toNat s.clk x.legAt }) s)))

/-- samples per channel of one audio packet (R77, R106). -/
def audioSamples (i : Nat) (s : State) : Nat := if isF (pgING i) ING.AFMT_ptime s then 6 else 48

/-- ns of media time from one number of the flow to the next: an audio packet time (R77). -/
def mediaStep (i : Nat) (k : FlowKind) (s : State) : Nat :=
  if k = .audio then (if isF (pgING i) ING.AFMT_ptime s then 125000 else 1000000) else 0

/-- A number of the flow was declared missing (R81, R83, R108, R109): the samples of a missing audio packet are zero at their own
place, counted per channel, with EVENT bit 9. -/
def concealMissing (i : Nat) (k : FlowKind) (u : Undecided) (s : State) : State :=
  if k = .audio then
    let n := audioSamples i s
    let zero := List.replicate (audioChannels i s) 0
    raise (pgING i) 9 (addF (pgING i) (FCNT.conceal (fcBase k)) n (modIng i (fun x => { x with
      audio := (List.range n).foldl (fun m j => SMap.put (audioIndex u.media + j) zero m) x.audio }) s))
  else s

def ingMerge (i : Nat) (k : FlowKind) (s : State) : Merge := SMap.get Merge.reset (kindIdx k) (ingOf i s).merges

def setIngMerge (i : Nat) (k : FlowKind) (m : Merge) (s : State) : State :=
  modIng i (fun x => { x with merges := SMap.put (kindIdx k) m x.merges }) s

/-- every number of the flow whose window has ended is declared missing (R81). -/
def ingExpire (i : Nat) (k : FlowKind) (s : State) : State :=
  let m := ingMerge i k s
  let gone := m.expiry.filter (fun e => decide (e.2.end_ ≤ s.clk))
  if gone.isEmpty then s
  else gone.foldl (fun s e => concealMissing i k e.2 s)
    (setIngMerge i k { m with expiry := m.expiry.filter (fun e => decide (s.clk < e.2.end_)) } s)

/-- The fate of a frame of `bytes` bytes in flight at an ING flow (R34, R35, R80, R81, R82, R86, R108): checked against VDIM, the
merge and its page's state, the lowest code that applies counting, it is rewound or committed to the flow's queue; without a cell it
waits if its priority is under flow control, else it is dropped with reason 0x06. A window that ends at this tick ends first. -/
def ingArrive (i : Nat) (k : FlowKind) (legB fc : Bool) (pkt : MediaPkt) (stamp bytes : Nat) (s : State) : Fate × State :=
  let p := pgING i
  let b := fcBase k
  let s1 := ingExpire i k (subF p (FCNT.inflight b) 1 s)
  let drop := fun r s => (Fate.dropped r, rewind (flowDrop p b r s))
  let m := ingMerge i k s1
  let v := m.verdict (seqBits k) (spanLimit k) s.clk pkt.seq
  if k = .video ∧ outsideDims i pkt s then drop 2 (raise p 7 s1)
  else if v = .duplicate then (.duplicate, rewind (addF p (FCNT.dup b) 1 s1))
  else if v = .late then drop 5 s1
  else if k = .video ∧ pastDeadline i pkt s then
    drop 5 (setIngMerge i k (m.lose (m.place 32 pkt.seq)) s1)
  else if act p s ≠ stRUNNING then drop 7 s1
  else
    let q := flowQueue i k
    if grantCells q (cellsFor bytes) s1 then
      let r := m.deliver (spanLimit k) (getF p ING.MERGE_window_us s * tickUs) s.clk (mediaStep i k s) (m.place (seqBits k) pkt.seq)
        (pktKey i pkt s) ((pkt.srds.head?.map Srd.line).getD 0) pkt.media
      (.queued, addF p (FCNT.inflight b) 1 (r.2.foldl (fun s e => concealMissing i k e.2 s)
        (setIngMerge i k r.1 (commitPkt q ⟨cellsFor bytes, some (pkt, legB, stamp), []⟩ s1))))
    else if fc then (.waits, s)
    else drop 6 (modQueue q (fun x => { x with drops := x.drops + 1 }) s1)

/-- the page stores a packet of its flow (R77, R78, R83, R86). -/
def ingStore (i : Nat) (k : FlowKind) (pkt : MediaPkt) (stamp : Nat) (s : State) : State :=
  match k with
  | .video => storeVideo i pkt stamp s
  | .audio => storeAudio i pkt s
  | .anc => storeAnc i pkt s

/-- the ingest read side has read a packet of the flow: it is delivered (R34, R108). -/
def ingDeliver (i : Nat) (k : FlowKind) (pkt : MediaPkt) (stamp : Nat) (s : State) : State :=
  ingStore i k pkt stamp (addF (pgING i) (FCNT.deliv (fcBase k)) 1 (subF (pgING i) (FCNT.inflight (fcBase k)) 1 s))

/-- the window of the flow's oldest undecided number ends, and the number is declared missing (R81). -/
def ingMissing (i : Nat) (k : FlowKind) (s : State) : State :=
  match (ingMerge i k s).next with
  | none => s
  | some (_, t) => ingExpire i k (advanceTo t s)

/-! ## Concealment (R83, R84) -/

/-- the maximal runs, in raster order, of the pixels of lines `first` to `first + lines − 1` for which `miss` holds of
line and column: start position (line × width + column) and length. -/
def runsWhere (width first lines : Nat) (miss : Nat → Nat → Bool) : List (Nat × Nat) :=
  ((List.range (lines * width)).foldl (fun r k =>
    let pos := first * width + k
    if !miss (pos / width) (pos % width) then r
    else match r with
      | (st, n) :: t => if st + n = pos then (st, n + 1) :: t else (pos, 1) :: (st, n) :: t
      | [] => [(pos, 1)]) []).reverse

/-- the runs of pixels that are not stored. -/
def missingRuns (width : Nat) (pix : SMap Nat) (first lines : Nat) : List (Nat × Nat) :=
  runsWhere width first lines (fun l c => (SMap.find (l * 2 ^ 16 + c) pix).isNone)

/-- the 8-byte map entry (R84). -/
def mapEntry (width pos count cause : Nat) : Nat :=
  ((pos / width * 2 ^ 16 + pos % width) * 2 ^ 16 + count) * 2 ^ 16 + cause * 2 ^ 8

/-- a region's entries: as many as it needs at 65,535 pixels each; the 1,024th covers the rest of the picture. Answers
the map and whether that entry was made. -/
def addRegion (width : Nat) : Nat → Nat → Nat → Nat → List Nat → List Nat × Bool
  | 0, _, _, _, m => (m, false)
  | fuel + 1, pos, count, cause, m =>
    if count = 0 then (m, false)
    else if m.length = 1023 then (m ++ [mapEntry width pos 0 0xFF], true)
    else
      let n := min count 65535
      addRegion width fuel (pos + n) (count - n) cause (m ++ [mapEntry width pos n cause])

/-- whether an entry of a map covers the pixel at raster position `pos` with cause 0x01: it is stored unreadable (R83,
R84). [DEDUCED log 90] -/
def unreadable (width pos : Nat) (map : List Nat) : Bool :=
  map.any (fun e =>
    let start := e / 2 ^ 48 * width + e / 2 ^ 32 % 2 ^ 16
    e / 2 ^ 8 % 2 ^ 8 == 1 && decide (start ≤ pos) && decide (pos < start + e / 2 ^ 16 % 2 ^ 16))

/-- the tick whose feed supplies the pixels concealed in a picture of tick `n`: the one before, of an interlaced page the one before
that, which had the same parity (R83). -/
def concealTick (i n : Nat) (s : State) : Nat := if isF (pgING i) ING.VFMT_interlaced s then n - 2 else n - 1

/-- the value that a concealed pixel of a picture of tick `n` takes: the co-sited pixel of what was fed at the tick before; or black
(R83). [DEDUCED log 90] -/
def concealPx (i n : Nat) (key : Nat) (s : State) : Nat :=
  let x := ingOf i s
  let src : Option (SMap Nat) := match tickAt (concealTick i n s) x with
    | none => none
    | some e =>
      if e.kind = 2 then none
      else if e.kind = 3 then x.slate
      else (e.key.bind (fun m => slotOf m x)).bind (fun t =>
        if unreadable (ingWidth i s) (key / 2 ^ 16 * ingWidth i s + key % 2 ^ 16) t.map then none else some t.pix)
  match src with
  | none => ingBlack i s
  | some m => SMap.get (ingBlack i s) key m

/-- the tick for which a picture's concealment is made: that of its feed, or the next one. -/
def feedTick (t : RingSlot) (x : IngS) : Nat := t.fedAs.getD ((x.tick.map (· + 1)).getD 0)

/-- One region of picture `key` is concealed (R83, R84): its pixels, its map entries, the counts, EVENT bit 4, and, at the 1,024th
entry, the rest of the picture with MAP_OVF and EVENT bit 11. -/
def concealRegion (i key cause : Nat) (reg : Nat × Nat) (s : State) : State :=
  match slotOf key (ingOf i s) with
  | none => s
  | some t =>
    if t.mapFull then s
    else
      let w := ingWidth i s
      let n := feedTick t (ingOf i s)
      let r := addRegion w (reg.2 / 65535 + 1) reg.1 reg.2 cause t.map
      let len := if r.2 then ingPixels i s - reg.1 else reg.2
      let pix := (List.range len).foldl (fun m k =>
        let at_ := (reg.1 + k) / w * 2 ^ 16 + (reg.1 + k) % w
        SMap.put at_ (concealPx i n at_ s) m) t.pix
      let s1 := raise (pgING i) 4 (addF (pgING i) (FCNT.conceal (fcBase .video)) len
        (modIng i (modSlot key (fun t => { t with pix := pix, map := r.1, mapFull := r.2 })) s))
      if r.2 then raise (pgING i) 11 (addF (pgING i) SYNC.map_ovf 1 s1) else s1

/-- An uncorrectable memory error in `count` stored pixels of the picture of media time `media`: they are concealed with cause 0x01
(R83, R97, R401). [DEDUCED log 90] -/
def poisonPixels (i media line column count : Nat) (s : State) : State :=
  let pos := line * ingWidth i s + column
  let n := min count (ingPixels i s - pos)
  if n = 0 then s
  else match (ingOf i s).ring.find? (fun t => mediaOf t.key == media) with
    | some t => concealRegion i t.key 1 (pos, n) s
    | none => s

/-- Lines `first` to `first + lines − 1` of picture `key` are final (R81, R83, R84): their missing pixels are concealed, and the
numbers that would have brought them are declared missing. -/
def ingestDeadlineOp (i key first lines : Nat) (s : State) : State :=
  match slotOf key (ingOf i s) with
  | none => s
  | some t =>
    let n := min lines (ingLines i s - first)
    let s1 := (missingRuns (ingWidth i s) t.pix first n).foldl (fun s r => concealRegion i key 0 r s) s
    let m := ingMerge i .video s1
    settleSlate i (setIngMerge i .video ((m.above key (first + n)).foldl (fun m u => m.lose u) m)
      (modIng i (modSlot key (fun t => { t with
        dueLines := max t.dueLines (first + n), finalLines := max t.finalLines (first + n) })) s1))

/-! ## The frame synchroniser (R87 to R96) -/

/-- the lead in ns of a picture at a tick at `t` (R89). -/
def leadOf (t : Int) (x : RingSlot) : Int := t - x.stamp

/-- The pictures due at the tick at `t`, oldest first; of an interlaced page, those of the parity the tick carries (R89, R96), so that a
drop or repeat takes a pair of fields: at which tick R96 does not say. [DESIGN CHOICE log 36] -/
def duePics (i : Nat) (t : Int) (odd : Bool) (s : State) : List RingSlot :=
  let g : Int := (getF (pgING i) ING.FS_GUARD_guard_us s * 1000 : Nat)
  (ingOf i s).ring.filter (fun x => x.fedAs.isNone && decide (g ≤ leadOf t x) &&
    (!isF (pgING i) ING.VFMT_interlaced s || x.second == odd))

/-- the picture R90 chooses among the due ones. -/
def choosePic (i : Nat) (t : Int) (due : List RingSlot) (s : State) : Option RingSlot :=
  match due.reverse with
  | [] => none
  | [x] => some x
  | newest :: older :: _ =>
    let g : Int := ((getF (pgING i) ING.FS_GUARD_guard_us s + getF (pgING i) ING.FS_GUARD_hyst_us s) * 1000 : Nat)
    if g ≤ leadOf t newest then some newest else some older

/-- every stored picture that is due and older than the fed one is dropped (R90). -/
def dropOlder (i : Nat) (t : Int) (fed : RingSlot) (s : State) : State :=
  let g : Int := (getF (pgING i) ING.FS_GUARD_guard_us s * 1000 : Nat)
  (((ingOf i s).ring.filter (fun x => x.fedAs.isNone && decide (g ≤ leadOf t x) && decide (x.stamp ≤ fed.stamp) &&
    x.key != fed.key)).map RingSlot.key).foldl (fun s m => dropPicture i m s) s

/-- what the page feeds at a tick joins its last 8. -/
def noteTick (e : FedTick) (x : IngS) : IngS := { x with hist := (e :: x.hist).take 8 }

/-- The page feeds a source picture at tick `n` (R88, R90, R91, R94): the captions carried go with it, and a capture asked for takes
this picture. -/
def feedPicture (i n : Nat) (t : Int) (x : RingSlot) (s : State) : State :=
  let p := pgING i
  let s1 := dropOlder i t x s
  let readers := (ingConsumers i s1).map (fun w => (w, n))
  let y := ingOf i s1
  let s2 := modIng i (fun y => noteTick ⟨n, 0, some x.key, y.carried⟩
    { modSlot x.key (fun t => { t with fedAs := some n, readers := t.readers ++ readers }) y with
      fed := some x.key, missRun := 0, carried := [] }) s1
  let s3 := setF p ING.FS_LEAD_lead_ns (satTwos 32 (leadOf t x)) (addF p SYNC.fed 1 s2)
  if y.capture then settleSlate i (modIng i (fun y => { y with capture := false, slateFrom := some (x.key, n) }) s3) else s3

/-- The page feeds something else at this tick: `kind` 1 a repeat of what was fed last, 2 black, 3 the slate (R90, R92). It carries
silence and no ANC packet (R91). -/
def feedOther (i n : Nat) (kind : Nat) (odd : Bool) (s : State) : State :=
  let p := pgING i
  let x := ingOf i s
  let again := if isF p ING.VFMT_interlaced s then
      ((x.ring.filter (fun t => t.fedAs.isSome && t.second == odd)).getLast?).map RingSlot.key
    else x.fed
  let readers := (ingConsumers i s).map (fun w => (w, n))
  let rd := fun z : IngS => match again with
    | none => z
    | some m => if kind = 1 then { modSlot m (fun t => { t with readers := t.readers ++ readers }) z with fed := again } else z
  raise p 2 (addF p SYNC.repeats 1 (addF p SYNC.fed 1
    (modIng i (fun z => noteTick ⟨n, kind, if kind = 1 then again else none, []⟩ (rd z)) s)))

/-- what the loss policy feeds (R92). -/
def lossKind (i : Nat) (s : State) : Nat :=
  match getF (pgING i) ING.LOSS_policy s with
  | 0 => if (ingOf i s).fed.isSome then 1 else 2
  | 1 => 2
  | _ => if (ingOf i s).slate.isSome then 3 else 2

/-- What the synchroniser does at tick `n` at `t` (R90, R92, R93). -/
def synchronise (i n : Nat) (t : Int) (s : State) : State :=
  let p := pgING i
  let odd := n % 2 == 1
  let due := duePics i t odd s
  let x := ingOf i s
  match choosePic i t due s with
  | some c =>
    if isF p ING.ST_src_lost s then
      if getF p ING.LOSS_rejoin_pics s ≤ x.foundRun + 1 then
        feedPicture i n t c (raise p 1 (setF p ING.ST_src_lost 0 (modIng i (fun y => { y with foundRun := 0 }) s)))
      else
        let s1 := (due.map RingSlot.key).foldl (fun s m => dropPicture i m s) s
        feedOther i n (lossKind i s1) odd (modIng i (fun y => { y with foundRun := x.foundRun + 1 }) s1)
    else feedPicture i n t c s
  | none =>
    if isF p ING.ST_src_lost s then feedOther i n (lossKind i s) odd (modIng i (fun y => { y with foundRun := 0 }) s)
    else
      let s1 := modIng i (fun y => { y with missRun := y.missRun + 1, foundRun := 0 }) s
      if getF p ING.LOSS_loss_pics s ≤ x.missRun + 1 then
        feedOther i n (lossKind i s) odd (addF p SYNC.losses 1 (raise p 0 (setF p ING.ST_src_lost 1
          (modIng i (fun y => { y with missRun := 0 }) s1))))
      else feedOther i n (if x.fed.isSome then 1 else 2) odd s1

/-- the ring, maps and slate are lost (R97). -/
def ingLose (i : Nat) (s : State) : State :=
  setF (pgING i) ING.ST_slate_valid 0 { s with ing := SMap.drop i s.ing }

/-- what a newly taken STATE_CMD makes of the page (R23, R24, R97). -/
def ingCommand (i : Nat) (s : State) : State :=
  let p := pgING i
  let c := getF p HDR.CMD_state s
  let a := act p s
  if a = stFAULT ∧ c ≠ stIDLE ∧ c ≠ stOFF then s
  else if c = stRUNNING then
    if a = stRUNNING ∨ a = stSTARTING then s
    else setAct p stSTARTING (if isF pgTIM TIM.ST_first_lock s && stacksUp p s then 1 else 5)
      (setF p ING.ST_src_lost 0 (modIng i (fun x => { x with
        tick := none, hist := [], fed := none, missRun := 0, foundRun := 0, merges := [] }) s))
  else if a = stRUNNING then (if c = stLOW then s else setAct p stSTOPPING 0 s)
  else if c = stOFF then setAct p stOFF 0 (ingLose i s)
  else setAct p c 0 s

/-- the number of the page's next tick: while it is RUNNING one more than its last, so that none is added or lost (R97); else by the
time that FAB carries. -/
def ingNextTick (i : Nat) (s : State) : Nat :=
  match (ingOf i s).tick with
  | some n => n + 1
  | none => tickIndex (ingRate i s) (ingPhase i s) (fabNs s) + 1

/-- a STARTING page may run from its next tick: PTP has locked, and its queues are up (R97). -/
def ingMayStart (i : Nat) (s : State) : Bool :=
  act (pgING i) s == stSTARTING && isF pgTIM TIM.ST_first_lock s && stacksUp (pgING i) s

/-- audio and ANC packets of pictures long past leave the page. [DESIGN CHOICE log 36] -/
def pruneEssence (i : Nat) (t : Int) (s : State) : State :=
  let old := t.toNat - 64 * ingPeriodNs i s
  modIng i (fun x => { x with
    audio := x.audio.filter (fun e => decide (audioIndex old ≤ e.1))
    ancs := x.ancs.filter (fun e => decide (old ≤ e.1)) }) s

/-- the tick after the next one ends a capture of a picture that never got all its pixels; without readers the next one does (R94). -/
def lateSlate (i n : Nat) (s : State) : State :=
  match (ingOf i s).slateFrom with
  | none => s
  | some (key, m) =>
    let read := match slotOf key (ingOf i s) with | some t => !t.readers.isEmpty | none => false
    if n < (if read then m + 2 else m + 1) then s else storeSlate i s

/-- the time of tick `n` of the page's frame clock (R87). -/
def ingTickNs (i n : Nat) (s : State) : Int := tickTime (ingRate i s) (ingPhase i s) n

/-- Tick `n` of an ING page, at its time (R14, R69, R87, R88, R90, R97): a STARTING page that may run does, a committed generation is
taken, and, while the page is RUNNING, a picture is fed. -/
def ingTick (i n : Nat) (u : State) : State :=
  let p := pgING i
  let t := ingTickNs i n u
  let s0 := if ingMayStart i u then setAct p stRUNNING 0 u else u
  if act p s0 ≠ stRUNNING then s0
  else
    let s1 := setF p ING.ST_holdover (if timSt u = 3 ∨ timSt u = 4 then 1 else 0) (setF p ING.PICNUM_picture n
      (modIng i (fun x => { x with tick := some n }) (lateSlate i n (pruneEssence i t s0))))
    let s2 := if pendingGen p s1 then takeWith p (ingCommand i) s1 else s1
    if act p s2 = stRUNNING then synchronise i n t s2 else s2

/-- whether the page's next tick finds a due picture. -/
def nextTickDue (i : Nat) (s : State) : Bool :=
  let n := ingNextTick i s
  !(duePics i (tickTime (ingRate i s) (ingPhase i s) n) (n % 2 == 1) s).isEmpty

/-- a consumer of an ING page still reads: an encode channel while RUNNING, a conditioning path while its unit is (R97). -/
def stillReads (who : Nat) (s : State) : Bool :=
  if 0x2000 ≤ who then act (pgCND ((who - 0x2000) / 8)) s == stRUNNING else act who s == stRUNNING

/-- INGEST_STOPPED (R97): a STOPPING page becomes IDLE once nobody reads the picture it fed at its last tick; a consumer that has left
RUNNING has finished. -/
def execIngestStopped (i : Fin 64) (s : State) : Host.Outcome State Fault Refusal :=
  let p := pgING i.val
  let last := (ingOf i.val s).hist.head?.map FedTick.n
  let busy := (ingOf i.val s).ring.any (fun t => t.readers.any (fun w => some w.2 == last && stillReads w.1 s))
  if act p s = stSTOPPING ∧ !busy then
    .next (takeAfterStop p (ingCommand i.val) (setAct p (if cmdOf p s = stOFF then stOFF else stIDLE) 0 s))
  else .next s

/-- consumer `who` has finished reading what the page fed up to tick `n` (R86, R97). -/
def doneReading (i who n : Nat) (s : State) : State :=
  modIng i (fun x => { x with ring := x.ring.map (fun t =>
    { t with readers := t.readers.filter (fun w => w.1 != who || decide (n < w.2)) }) }) s

/-- consumer `who` stops reading the page (R97). -/
def quitReading (i who : Nat) (s : State) : State :=
  modIng i (fun x => { x with ring := x.ring.map (fun t => { t with readers := t.readers.filter (fun w => w.1 != who) }) }) s

/-! ## What a tick carries beside its picture (R77, R78, R91, R92) -/

/-- a sample at `g` 48ths of its level, on a fade. [DESIGN CHOICE log 36] -/
def fadeSample (w g v : Nat) : Nat := toTwos w (ofTwos w v * (g : Int) / 48)

/-- The audio of tick `n`, by sample, each as its channels' values (R77, R91, R92): the samples whose media time falls in the period
of the picture fed; silence for one period for anything else. A picture before a silence ends in a linear fade of 1 ms, one after it
begins with one. A page without video has its samples by the tick's own period. [PRESUMED log 36] -/
def tickAudio (i n : Nat) (s : State) : List (List Nat) :=
  let x := ingOf i s
  let ch := audioChannels i s
  let zero := List.replicate ch 0
  let w := if isF (pgING i) ING.AFMT_l24 s then 24 else 16
  let per := periodOf (ingRate i s)
  let from_ := (tickTime (ingRate i s) (ingPhase i s) n).toNat
  let take := fun (m : Nat) =>
    let a := audioFirst m
    let b := audioFirst (m + per.1 * 10 ^ 9 / per.2)
    (List.range (b - a)).map (fun j => SMap.get zero (a + j) x.audio)
  match tickAt n x with
  | none => []
  | some e =>
    match e.kind, e.key with
    | 0, some key =>
      let l := take (mediaOf key)
      let out := match tickAt (n + 1) x with | some f => f.kind != 0 | none => false
      let in_ := match tickAt (n - 1) x with | some f => f.kind != 0 | none => false
      l.zipIdx.map (fun v =>
        let g := min (if in_ then min 48 v.2 else 48) (if out then min 48 (l.length - 1 - v.2) else 48)
        if g = 48 then v.1 else v.1.map (fadeSample w g))
    | _, _ => if isF (pgING i) ING.VFMT_v_en s then (take from_).map (fun _ => zero) else take from_

/-- the ANC packets of tick `n`: those of the picture fed and the captions carried onto it (R78, R91). -/
def tickAncs (i n : Nat) (s : State) : List Anc :=
  match tickAt n (ingOf i s) with
  | none => []
  | some e => e.carried ++ (match e.kind, e.key with
    | 0, some key => ((ingOf i s).ancs.filter (fun a => a.1 == mediaOf key)).map Prod.snd
    | _, _ => [])

/-! ## The slate (R94) -/

/-- see the log: [DEDUCED log 39] -/
def slateCaptureOp (i : Nat) (s : State) : State := modIng i (fun x => { x with capture := true }) s

/-- two pages have equal VFMT and VDIM. [DEDUCED log 39] -/
def sameFormat (i j : Nat) (s : State) : Bool :=
  [ING.VFMT_v_en, ING.VFMT_interlaced, ING.VFMT_sampling, ING.VFMT_depth, ING.VFMT_colorimetry, ING.VFMT_tcs,
   ING.VFMT_bpm, ING.VFMT_rate, ING.VDIM_height, ING.VDIM_width].all
    (fun f => getF (pgING i) f s == getF (pgING j) f s)

/-- see the log: [DEDUCED log 39] -/
def slateCopyOp (i j : Nat) (s : State) : State :=
  if sameFormat i j s ∧ isF (pgING j) ING.ST_slate_valid s then
    raise (pgING i) 10 (setF (pgING i) ING.ST_slate_valid 1
      (modIng i (fun x => { x with slate := (ingOf j s).slate }) s))
  else raise (pgING i) 12 s

/-- SLATE_CAPTURE. -/
def execSlateCapture (r : Req) (i : Fin 64) (s : State) : Host.Outcome State Fault Refusal :=
  .next (asWrite r (pgING i.val) 0x128 (fun s => (.success, slateCaptureOp i.val s)) s)

/-- SLATE_COPY: the write also sets copy_from. -/
def execSlateCopy (r : Req) (i source : Fin 64) (s : State) : Host.Outcome State Fault Refusal :=
  .next (asWrite r (pgING i.val) 0x128 (fun s =>
    (.success, slateCopyOp i.val source.val (setF (pgING i.val) ING.SLATE_copy_from source.val s))) s)

/-! ## Commit checks (R75, R96, R106) -/

/-- the shadows of page `i` describe a format of R75 and a phase below one period. -/
def ingFormatOk (i : Nat) (s : State) : Bool :=
  let p := pgING i
  let w := getSh p ING.VDIM_width s
  let h := getSh p ING.VDIM_height s
  let rate := getSh p ING.VFMT_rate s
  let inter := getSh p ING.VFMT_interlaced s == 1
  let per := periodOf (if inter then (if rate = 3 then 6 else 7) else rate)
  decide (256 ≤ w) && decide (w ≤ 7680) && w % 2 == 0 && decide (144 ≤ h) && decide (h ≤ 4320) && h % 2 == 0 &&
  (getSh p ING.VFMT_sampling s != 3 || h % 4 == 0) &&
  (!inter || (w == 1920 && h == 1080 && (rate == 3 || rate == 4))) &&
  decide (w * h * per.2 ≤ 7680 * 4320 * 120 * per.1) &&
  decide ((ofTwos 32 (getSh p ING.FS_PHASE_phase_ns s)).natAbs * per.2 < per.1 * 10 ^ 9)

/-- the fields that take a commit only while the page is not RUNNING (R106). -/
def ingFrozen : List Fld :=
  [ING.VFMT_v_en, ING.VFMT_interlaced, ING.VFMT_sampling, ING.VFMT_depth, ING.VFMT_colorimetry, ING.VFMT_tcs,
   ING.VFMT_bpm, ING.VFMT_rate, ING.VDIM_height, ING.VDIM_width, ING.AFMT_a_en, ING.AFMT_l24, ING.AFMT_ptime,
   ING.AFMT_channels, ING.RING_depth, ING.FS_PHASE_phase_ns]

/-- no listed field's shadow differs from its last committed value. -/
def unchanged (p : Nat) (l : List Fld) (s : State) : Bool := l.all (fun f => getSh p f s == getCm p f s)

def ingValid (i : Nat) (s : State) : Bool :=
  ingFormatOk i s && (act (pgING i) s != stRUNNING || unchanged (pgING i) ingFrozen s)

end Sys2Proof.Machine
end

