-- ==== Sys2Proof/Machine/DecodeCh.lean ====
section
/-! DEFINITION. Sys2Proof/Machine/DecodeCh.lean: decode channels and decode cores (chapter 07, R203 to R222, R227 to
R230). -/

namespace Sys2Proof.Machine

/-! ## The page's own quantities -/

def dchOf (i : Nat) (s : State) : DchS := SMap.get DchS.reset i s.dch

def modDch (i : Nat) (f : DchS → DchS) (s : State) : State := { s with dch := modAt DchS.reset i f s.dch }

/-- the page's tick rate: the field rate for an interlaced stream (R217). -/
def dchRate (i : Nat) (s : State) : Nat :=
  let c := getF (pgDCH i) DCH.FMT_rate s
  if isF (pgDCH i) DCH.FMT_interlaced s then (if c = 3 then 6 else 7) else c

def dchPhase (i : Nat) (s : State) : Int := phaseNs (getF (pgDCH i) DCH.FS_PHASE_phase_ns s)

/-- lines of a picture, or of a field. -/
def dchLines (i : Nat) (s : State) : Nat :=
  let h := getF (pgDCH i) DCH.DIM_height s
  if isF (pgDCH i) DCH.FMT_interlaced s then h / 2 else h

def dchWidth (i : Nat) (s : State) : Nat := getF (pgDCH i) DCH.DIM_width s

/-- bits of a sample: 8 or 10. -/
def dchBits (i : Nat) (s : State) : Nat := 8 + 2 * getF (pgDCH i) DCH.FMT_depth s

/-- mid-grey (R211). -/
def dchGrey (i : Nat) (s : State) : Nat :=
  let v := 2 ^ (dchBits i s - 1)
  packPx v v v

/-- video-range black (R217). -/
def dchBlack (i : Nat) (s : State) : Nat :=
  let k := 2 ^ (dchBits i s - 8)
  packPx (16 * k) (128 * k) (128 * k)

/-- who reads the pictures of DCH `i`: encode channels and senders by page, conditioning paths as 0x2000 + 8 × unit + path
(R219). -/
def dchConsumers (i : Nat) (s : State) : List Nat :=
  ((List.range 32).filter (fun c =>
    act (pgECH c) s == stRUNNING && getF (pgECH c) ECH.SRC_src_kind s == 2 && getF (pgECH c) ECH.SRC_src s == i)).map
      pgECH ++
  ((List.range 16).filter (fun c =>
    act (pgSND c) s == stRUNNING && getF (pgSND c) SND.SRC_src_kind s == 0 && getF (pgSND c) SND.SRC_src s == i)).map
      pgSND ++
  ((List.range 32).filter (fun q =>
    isF (pgCND (q / 8)) (CND.PATH_en (q % 8)) s && isF (pgCND (q / 8)) (CND.PATH_src_dch (q % 8)) s &&
    getF (pgCND (q / 8)) (CND.PATH_src (q % 8)) s == i &&
    (List.range 16).any (fun m => isF (pgCND (q / 8)) (CND.OCTL_en m) s &&
      getF (pgCND (q / 8)) (CND.OCTL_path m) s == q % 8))).map (fun q => 0x2000 + q)

/-- the decode cores of a channel by the values `g` (R204). -/
def dchCores (g : Nat → Fld → State → Nat) (i : Nat) (s : State) : List Nat :=
  (List.range (g (pgDCH i) DCH.ALLOC_n_cores s)).map (fun k => g (pgDCH i) DCH.ALLOC_core s + k)

/-- the channel is placed (R205, R512). -/
def dchPlaced (i : Nat) (s : State) : Bool :=
  cmdOf (pgDCH i) s == stRUNNING || [stSTARTING, stRUNNING, stSTOPPING, stMUTED].contains (act (pgDCH i) s)

/-- a DEC page reads RUNNING while it serves a RUNNING channel, and IDLE otherwise (R227). -/
def decRefresh (k : Nat) (s : State) : State :=
  let p := pgDEC k
  let busy := (List.range 16).any (fun i => act (pgDCH i) s == stRUNNING && (dchCores getF i s).contains k)
  followWork p busy (unitState 1 k s == 1) s

def decRefreshAll (s : State) : State := (List.range 8).foldl (fun s k => decRefresh k s) s

/-! ## Reception (R206, R207) -/

/-- a frame matched to a leg of the channel comes in, as `ingSeen`. -/
def dchSeen (i : Nat) (legB : Bool) (s : State) : State :=
  let p := pgDCH i
  setF p (if legB then DCH.ST_leg_b_up else DCH.ST_leg_a_up) 1
    (addF p (FCNT.inflight (fcBase .video)) 1
      (addF p (if legB then FCNT.rx_b (fcBase .video) else FCNT.rx_a (fcBase .video)) 1
        (modDch i (fun x => { x with legAt := SMap.put legB.toNat s.clk x.legAt }) s)))

/-- every number of the channel whose window has ended is declared missing (R206). -/
def dchExpire (i : Nat) (s : State) : State :=
  modDch i (fun x => { x with merge := { x.merge with
    expiry := x.merge.expiry.filter (fun e => decide (s.clk < e.2.end_)) } }) s

/-- The fate of a frame of `bytes` bytes in flight at the channel (R34, R35, R80, R82, R206), as `ingArrive`. -/
def dchArrive (i : Nat) (legB fc : Bool) (pkt : MediaPkt) (bytes : Nat) (s : State) : Fate × State :=
  let p := pgDCH i
  let b := fcBase .video
  let s1 := dchExpire i (subF p (FCNT.inflight b) 1 s)
  let drop := fun r s => (Fate.dropped r, rewind (flowDrop p b r s))
  let m := (dchOf i s1).merge
  let v := m.verdict 16 (2 ^ 15) s.clk pkt.seq
  if v = .duplicate then (.duplicate, rewind (addF p (FCNT.dup b) 1 s1))
  else if v = .late then drop 5 s1
  else if act p s ≠ stRUNNING then drop 7 s1
  else
    let q := qDch i
    if grantCells q (cellsFor bytes) s1 then
      let r := m.deliver (2 ^ 15) (getF p DCH.MERGE_window_us s * tickUs) s.clk 0 (m.place 16 pkt.seq) 0 0 pkt.media
      (.queued, addF p (FCNT.inflight b) 1 (modDch i (fun x => { x with merge := r.1 })
        (commitPkt q ⟨cellsFor bytes, some (pkt, legB, 0), []⟩ s1)))
    else if fc then (.waits, s)
    else drop 6 (modQueue q (fun x => { x with drops := x.drops + 1 }) s1)

/-- A packet enters the compressed buffer; its TS packets of other PIDs than FORM.video_pid are counted (R206). -/
def dchStore (i : Nat) (pkt : MediaPkt) (s : State) : State :=
  let p := pgDCH i
  let other := (pkt.tsPids.filter (fun k => k != getF p DCH.FORM_video_pid s)).length
  let u := (dchOf i s).merge.place 16 pkt.seq
  addF p DCH.C_ts_disc (if isF p DCH.FORM_form s then other else 0)
    (modDch i (fun x => { x with pkts := (x.pkts.filter (fun v => v != u && decide (x.merge.high < v + 2 ^ 15))) ++ [u] }) s)

/-- The decode read side has read a packet: it is delivered (R34, R206). -/
def dchDeliver (i : Nat) (pkt : MediaPkt) (s : State) : State :=
  let p := pgDCH i
  addF p (FCNT.deliv (fcBase .video)) 1 (subF p (FCNT.inflight (fcBase .video)) 1 (dchStore i pkt s))

/-- the window of the oldest undecided number ends: it is declared missing (R206). -/
def dchMissing (i : Nat) (s : State) : State :=
  match (dchOf i s).merge.next with
  | none => s
  | some (_, t) => dchExpire i (advanceTo t s)

/-! ## Damage (R213, R215) -/

/-- the counter of a damage case (R230). -/
def caseCounter : Nat → Option Fld
  | 1 => some DCH.C_syntax_err | 2 => some DCH.C_nal_incomplete | 3 => some DCH.C_missing_slice
  | 5 => some DCH.C_missing_ref | 6 => some DCH.C_missing_slice | 7 => some DCH.C_unsupported
  | 8 => some DCH.C_fmt_mismatch | 9 => some DCH.C_hash_mm | _ => none

/-- the event of a damage case (R213). -/
def caseEvent : Nat → Nat
  | 1 => 7 | 2 => 8 | 3 => 8 | 4 => 2 | 5 => 9 | 6 => 8 | 7 => 11 | 8 => 15 | 9 => 12 | _ => 4

/-- STATUS.strict_active: strict mode is in force (R215). [DEDUCED log 51] -/
def setStrict (i : Nat) (s : State) : State :=
  let p := pgDCH i
  let m := getF p DCH.MODE_mode s
  setF p DCH.ST_strict_active
    (if act p s = stRUNNING ∧ (m = 1 ∨ (m = 2 ∧ !(dchOf i s).cleanFed)) then 1 else 0) s

/-- the mode that governs now: the one in force at the first slice of the picture being decoded (R220). -/
def modeNow (i : Nat) (s : State) : Nat :=
  match (dchOf i s).cur with | some c => c.mode | none => getF (pgDCH i) DCH.MODE_mode s

/-- a mode is strict now: 1, or 2 before the first picture of a clean random-access point was fed (R215). -/
def strictMode (i mode : Nat) (s : State) : Bool := mode == 1 || (mode == 2 && !(dchOf i s).cleanFed)

/-- the channel is strict for the picture being decoded (R215, R220). -/
def strictNow (i : Nat) (s : State) : Bool := strictMode i (modeNow i s) s

/-- the POC at which damage is recorded: the damaged picture's, or, where none is being decoded, a value the spec leaves open
(R215). [DESIGN CHOICE log 51] -/
def damagePoc (i : Nat) (s : State) : Int × State :=
  match (dchOf i s).cur with
  | some c => (c.pic.poc, s)
  | none => ((drawFree s).1, (drawFree s).2)

/-- STRICT_STOP (R215): what it records, EVENT bit 10, IDLE with reason 0x0D; the damaged picture is never fed. [DEDUCED log 51] -/
def strictStop (i code nalType : Nat) (poc : Int) (offset : Nat) (s : State) : State :=
  let p := pgDCH i
  setStrict i (decRefreshAll (setAct p stIDLE 0x0D (raise p 10
    (setF p DCH.STOP0_cause code (setF p DCH.STOP0_nal_type nalType (setF p DCH.STOP1_poc (toTwos 32 poc)
      (setF p DCH.STOP2_offset offset (modDch i (fun x => { x with cur := none }) s))))))))

/-- DAMAGE_HANDLING (R213): the case is counted; a strict channel stops, a service channel raises the case's event and
its picture being decoded has met a case. [DEDUCED log 51] -/
def damage (i code nalType : Nat) (poc : Int) (offset : Nat) (s : State) : State :=
  let p := pgDCH i
  let s1 := match caseCounter code with | some f => addF p f 1 s | none => s
  if strictNow i s then strictStop i code nalType poc offset s1
  else raise p (caseEvent code) (modDch i (fun x => { x with
    cur := x.cur.map (fun c => { c with damaged := true }), recovery := x.recovery.map (fun r => (r.1, false)) }) s1)

/-- `k` runs only while the channel still runs (a strict stop ends what follows it). -/
def whileRunning (i : Nat) (k : State → State) (s : State) : State := if act (pgDCH i) s = stRUNNING then k s else s

/-! ## Concealment (R211, R214) -/

/-- the reference pictures on the shelf: short-term, long-term or substitute. -/
def shelfRefs (x : DchS) : List DecPic := (x.dpb.map Prod.snd).filter (fun q => q.mark != 0)

/-- the picture on the shelf with a running number. -/
def picOf (uid : Nat) (x : DchS) : Option DecPic :=
  (x.hold.map Prod.snd ++ x.dpb.map Prod.snd).find? (fun q => q.uid == uid)

/-- the picture nearest to a POC, the lower POC winning a tie (R211, R214). -/
def nearestPic (poc : Int) (l : List DecPic) : Option DecPic :=
  l.foldl (fun b q => match b with
    | none => some q
    | some c =>
      let dq := (q.poc - poc).natAbs
      let dc := (c.poc - poc).natAbs
      if dq < dc ∨ (dq = dc ∧ q.poc < c.poc) then some q else some c) none

/-- CTU columns of a picture. -/
def ctuCols (v : Sps) (q : DecPic) : Nat := (q.width + v.ctu - 1) / v.ctu
def ctuRows (v : Sps) (q : DecPic) : Nat := (q.height + v.ctu - 1) / v.ctu

/-- the raster address of the CTU that comes as the `k`-th in decoding order. -/
def CurPic.at_ (c : CurPic) (k : Nat) : Nat := c.scan.getD k k

/-- REGION_CONCEAL (R214): the CTUs of the region, by raster address, take the co-sited samples of the nearest reference, else of the
last fed picture, else mid-grey; each of its pixel runs is mapped with `cause`, under the overflow rule of R84. -/
def concealCtus (i cause : Nat) (ctus : List Nat) (s : State) : State :=
  match (dchOf i s).cur, (dchOf i s).active with
  | some c, some v =>
    let x := dchOf i s
    let w := c.pic.width
    let src : Option DecPic := match nearestPic c.pic.poc ((shelfRefs x).filter (fun q => q.mark != 3)) with
      | some q => some q
      | none => x.fed.bind (fun u => picOf u x)
    let value := fun k => match src with | some q => SMap.get (dchGrey i s) k q.pix | none => dchGrey i s
    let runs := runsWhere w 0 c.pic.height (fun l col => ctus.contains (l / v.ctu * ctuCols v c.pic + col / v.ctu))
    let fill := fun (pos len : Nat) (pix : SMap Nat) => (List.range len).foldl (fun m k =>
      let key := (pos + k) / w * 2 ^ 16 + (pos + k) % w
      SMap.put key (value key) m) pix
    let pic := runs.foldl (fun (q : DecPic) r =>
      if q.mapFull then q
      else
        let m := addRegion w (r.2 / 65535 + 1) r.1 r.2 cause q.map
        { q with map := m.1, mapFull := m.2, pix := fill r.1 (if m.2 then c.pic.height * w - r.1 else r.2) q.pix })
      c.pic
    let s1 := addF (pgDCH i) (FCNT.conceal (fcBase .video)) ctus.length
      (modDch i (fun x => { x with cur := some { c with pic := { pic with tainted := true } } }) s)
    if pic.mapFull && !c.pic.mapFull then raise (pgDCH i) 14 (addF (pgDCH i) SYNC.map_ovf 1 s1) else s1
  | _, _ => s

/-- CTUs decoded or concealed, by raster address, are counted on the channel's cores, each CTU row on the next of them (R204, R227). -/
def countCtus (i : Nat) (ctus : List Nat) (s : State) : State :=
  match (dchOf i s).cur, (dchOf i s).active with
  | some c, some v =>
    let n := max 1 (getF (pgDCH i) DCH.ALLOC_n_cores s)
    (List.range n).foldl (fun s k =>
      addF (pgDEC (getF (pgDCH i) DCH.ALLOC_core s + k)) DEC.CTUS_ctus
        (ctus.filter (fun a => a / max 1 (ctuCols v c.pic) % n == k)).length s) s
  | _, _ => s

/-- The CTUs below place `upto` of the decoding order that no slice decoded are concealed (R213, R214): those that follow a syntax error
with cause 0x02, any other as a missing slice, found at a NAL unit of this type and offset. -/
def concealSkipped (i upto nalType offset : Nat) (s : State) : State :=
  match (dchOf i s).cur with
  | none => s
  | some c =>
    let bare := (List.range upto).filter (fun k => !c.covered.contains k)
    let tail := bare.filter (fun k => c.errs.any (fun e => decide (e ≤ k) && (List.range (k + 1 - e)).all (fun d => bare.contains (e + d))))
    let gone := bare.filter (fun k => !tail.contains k)
    let s1 := if gone.isEmpty then s else damage i 3 nalType c.pic.poc offset s
    whileRunning i (fun s =>
      let s2 := if tail.isEmpty then s else concealCtus i 2 (tail.map c.at_) s
      let s3 := if gone.isEmpty then s2 else concealCtus i 3 (gone.map c.at_) s2
      modDch i (fun x => { x with cur := x.cur.map (fun c => { c with covered := c.covered ++ bare }) })
        (countCtus i (bare.map c.at_) s3)) s1

/-! ## The shelf (R209 to R212, R219) -/

def freeDpb (i : Nat) (s : State) : Option Nat :=
  (List.range (getF (pgDCH i) DCH.BUF_dpb s)).find? (fun k => (SMap.find k (dchOf i s).dpb).isNone)

def freeHold (i : Nat) (s : State) : Option Nat :=
  (List.range (getF (pgDCH i) DCH.BUF_hold s)).find? (fun k => (SMap.find k (dchOf i s).hold).isNone)

/-- a held picture may be let go: nobody reads it, and `n` later pictures have been fed (R219). -/
def DecPic.spent (n : Nat) (q : DecPic) : Bool := q.readers.isEmpty && decide (n ≤ q.after)

/-- a DPB slot that holds no reference, awaits no output and holds no fed picture that has no hold slot is free (R210, R219). -/
def tidyDpb (n : Nat) (x : DchS) : DchS :=
  { x with dpb := x.dpb.filter (fun e => e.2.mark != 0 || e.2.awaiting ||
      (e.2.fedAs.isSome && !(x.hold.any (fun h => h.2.uid == e.2.uid)) && !e.2.spent n)) }

/-- the held pictures that are spent leave the shelf (R219). -/
def tidyShelf (n : Nat) (x : DchS) : DchS := tidyDpb n { x with hold := x.hold.filter (fun e => !e.2.spent n) }

/-- BUF.hold. -/
def holdOf (i : Nat) (s : State) : Nat := getF (pgDCH i) DCH.BUF_hold s

/-- the ready pictures not yet fed, in output order (R217). -/
def readyPics (x : DchS) : List DecPic :=
  ((x.dpb.map Prod.snd).filter (fun q => q.ready.isSome && q.fedAs.isNone && q.awaiting)).mergeSort
    (fun a b => decide (a.outNo ≤ b.outNo))

/-- the oldest ready picture not yet fed. -/
def oldestReady (x : DchS) : Option DecPic := (readyPics x).head?

/-- a ready picture is dropped (R217, R219): counted in FS_DROPS, EVENT bit 3. -/
def dropReady (i uid : Nat) (s : State) : State :=
  raise (pgDCH i) 3 (addF (pgDCH i) SYNC.fs_drops 1
    (modDch i (fun x => tidyDpb (holdOf i s) { x with dpb := x.dpb.map (fun e =>
      if e.2.uid = uid then (e.1, { e.2 with awaiting := false }) else e) }) s))

/-- a picture takes a free DPB slot; when none is free the oldest ready unfed picture gives way (R219). -/
def storePic (i : Nat) (q : DecPic) (s : State) : State :=
  let put := fun k s => modDch i (fun x => { x with dpb := SMap.put k q x.dpb }) s
  match freeDpb i s with
  | some k => put k s
  | none =>
    match oldestReady (dchOf i s) with
    | none => s
    | some o =>
      let s1 := dropReady i o.uid s
      match freeDpb i s1 with
      | some k => put k s1
      | none => s1

/-- the slot that a substitute takes when none is free: the unused one with the oldest POC that does not await output (R220). -/
def unusedSlot (i : Nat) (s : State) : Option Nat :=
  (((dchOf i s).dpb.filter (fun e => e.2.mark == 0 && !e.2.awaiting)).foldl (fun (b : Option (Nat × Int)) e =>
    match b with
    | none => some (e.1, e.2.poc)
    | some c => if e.2.poc < c.2 then some (e.1, e.2.poc) else b) none).map Prod.fst

/-- REFERENCE_SUBSTITUTE (R211, R220): a listed reference that is not on the shelf is replaced by a copy of the nearest
picture, or by mid-grey; without a slot nothing is stored; it is counted either way, with EVENT bit 9. -/
def substitute (i : Nat) (nal : NalUnit) (poc : Int) (r : RefName) (s : State) : State :=
  let s1 := damage i 5 nal.nalType poc nal.offset s
  whileRunning i (fun s =>
    let x := dchOf i s
    let base : DecPic := match nearestPic r.poc (shelfRefs x) with
      | some q => q
      | none => ⟨0, 0, 0, false, false, false, false, false, dchWidth i s, dchLines i s, [], [], false, 0, false, none, 0, none, 0, []⟩
    let q : DecPic := { base with
      uid := x.nextUid, poc := r.poc, mark := 3, long := r.long, awaiting := false, feedable := false, tainted := true,
      clean := false, map := [], mapFull := false, ready := none, fedAs := none, after := 0, readers := [] }
    match (freeDpb i s).or (unusedSlot i s) with
    | some k => modDch i (fun x => { x with dpb := SMap.put k q x.dpb, nextUid := x.nextUid + 1 }) s
    | none => s) s1

/-- marking by the picture's reference lists (R210). -/
def markRefs (n : Nat) (refs : List RefName) (x : DchS) : DchS :=
  tidyDpb n { x with dpb := x.dpb.map (fun e =>
    match refs.find? (fun r => r.poc == e.2.poc) with
    | none => (e.1, { e.2 with mark := 0 })
    | some r => if e.2.mark = 0 then e else (e.1, { e.2 with mark := if e.2.mark = 3 then 3 else if r.long then 2 else 1 })) }

/-- The picture in the decode slot ends (R212 to R214): CTUs that no slice decoded are concealed, taint is settled, the
picture moves to the DPB. [DEDUCED log 53] -/
def finishPic (i : Nat) (s : State) : State :=
  match (dchOf i s).cur, (dchOf i s).active with
  | some c, some v =>
    whileRunning i (fun s2 =>
      match (dchOf i s2).cur with
      | none => s2
      | some c2 =>
        let x := dchOf i s2
        let recovered := match x.recovery with
          | some (e, ok) => decide (e ≤ c2.pic.poc) && ok && !c2.damaged
          | none => false
        let clean := (c2.irap && !c2.damaged) || recovered
        let pic := { c2.pic with
          mark := 1, tainted := c2.pic.tainted && !clean, clean := clean, awaiting := c2.pic.feedable }
        let s3 := modDch i (fun x => { x with
          cur := none, taintOn := (x.taintOn || pic.tainted) && !clean,
          cleanFrom := if clean then pic.uid else x.cleanFrom,
          rapStart := x.rapStart && (match x.recovery with | some (e, _) => decide (pic.poc < e) | none => false),
          recovery := match x.recovery with | some (e, ok) => if e ≤ pic.poc then none else some (e, ok) | none => none }) s2
        let s4 := raiseIf (clean && x.taintOn) (pgDCH i) 13 (addF (pgDCH i) DCH.C_pics_decoded 1
          (setF (pgDCH i) DCH.ST_synced 1 s3))
        storePic i pic s4)
      (concealSkipped i (ctuCols v c.pic * ctuRows v c.pic) c.nalType c.offset s)
  | _, _ => s

/-! ## NAL_DECODE (R207, R213 to R216) -/

/-- the chroma code of FMT.sampling in the terms of an SPS. -/
def samplingOf (code : Nat) : Nat := if code = 0 then 1 else if code = 1 then 2 else 0

/-- the profiles of R203 by their codes, each with the chroma formats and depths it carries: HEVC Main 1, Main 10 2, Main 4:2:2 10 as
constraint flags of 4; VVC Main 10 1, Main 10 4:4:4 33. [PRESUMED log 24] -/
def profileOk (vvc : Bool) (v : Sps) : Bool :=
  let eight := v.depth == 8
  let ten := eight || v.depth == 10
  if vvc then (v.profile == 1 && v.chroma == 0 && ten) || (v.profile == 33 && decide (v.chroma ≤ 2) && ten)
  else (v.profile == 1 && v.chroma == 0 && eight) || (v.profile == 2 && v.chroma == 0 && ten) ||
    (v.profile == 4 && v.main422 && decide (v.chroma ≤ 1) && ten)

/-- R203 covers the stream: profile, chroma format, depth, a level up to 6.2 in either tier, and the luma raster. [PRESUMED log 24] -/
def spsCovered (vvc : Bool) (v : Sps) : Bool :=
  profileOk vvc v && decide (v.level ≤ if vvc then 102 else 186) && decide (v.width ≤ 8192) && decide (v.height ≤ 4352)

/-- The stream is unsupported (case 0x07): outside R203, or beyond DIM or BUF.dpb. A picture with more chroma or depth than FMT does
not fit the shelf either, and the model handles it so. [DESIGN CHOICE log 51] -/
def spsTooBig (i : Nat) (v : Sps) (s : State) : Bool :=
  let p := pgDCH i
  !spsCovered (isF p DCH.FORM_codec s) v || decide (getF p DCH.DIM_width s < v.width) ||
  decide (getF p DCH.DIM_height s < (if v.field then 2 * v.height else v.height)) || decide (getF p DCH.BUF_dpb s < v.dpb) ||
  decide (samplingOf (getF p DCH.FMT_sampling s) < v.chroma) || decide (dchBits i s < v.depth)

/-- the stream's format, or the size its PPS gives, differs from FMT and DIM but fits the shelf (case 0x08). -/
def spsDiffers (i : Nat) (v : Sps) (size : Nat × Nat) (s : State) : Bool :=
  let p := pgDCH i
  getF p DCH.DIM_width s != size.1 || dchLines i s != size.2 ||
  samplingOf (getF p DCH.FMT_sampling s) != v.chroma || dchBits i s != v.depth ||
  isF p DCH.FMT_interlaced s != v.field

/-- DCH.STREAM shows the active SPS (R228). -/
def showStream (i : Nat) (v : Sps) (s : State) : State :=
  let p := pgDCH i
  setF p DCH.STREAM_valid 1 (setF p DCH.STREAM_profile_idc v.profile (setF p DCH.STREAM_level_idc v.level
    (setF p DCH.STREAM_tier v.tier.toNat (setF p DCH.STREAM_chroma v.chroma (setF p DCH.STREAM_bit_depth v.depth s)))))

/-- the first slice of a picture opens it: references are marked, missing ones substituted, nearest first (R210, R211,
R220); before the recovery point of a start at a GDR or recovery-point picture, a reference that was never received is
mid-grey and no damage (R213). -/
def openPic (i : Nat) (nal : NalUnit) (sl : SliceNal) (v : Sps) (pps : Option Pps) (s : State) : State :=
  let x := dchOf i s
  let size := ((pps.bind Pps.size).getD (v.width, v.height))
  let s1 := modDch i (fun x => markRefs (holdOf i s) sl.refs { x with
    active := some v, unsupported := false,
    craStart := if sl.irap then (sl.cra && (x.unsupported || !isF (pgDCH i) DCH.ST_synced s)) else x.craStart,
    rapStart := if sl.irap then false else x.rapStart || (sl.recovery.isSome && !isF (pgDCH i) DCH.ST_synced s),
    recovery := match x.recovery, sl.recovery with
      | some (e, true), some _ => some (e, true)
      | _, some e => some (e, true)
      | r, none => if sl.irap then none else r,
    taintOn := x.taintOn || (sl.recovery.isSome && !isF (pgDCH i) DCH.ST_synced s),
    cur := some ⟨⟨x.nextUid, sl.poc, 1, false, false, sl.output && !spsDiffers i v size s, false, false, size.1, size.2, [], [], false,
        sl.stamp, sl.second, none, 0, none, 0, []⟩, nal.au, getF (pgDCH i) DCH.MODE_mode s, sl.irap, false, [], [],
        (pps.map Pps.scan).getD [], nal.nalType, nal.offset⟩,
    nextUid := x.nextUid + 1 }) (showStream i v s)
  let absent := (sl.refs.filter (fun r => !(shelfRefs (dchOf i s1)).any (fun q => q.poc == r.poc))).mergeSort
    (fun a b => decide ((a.poc - sl.poc).natAbs ≤ (b.poc - sl.poc).natAbs))
  let starting := (dchOf i s1).rapStart
  let s2 := if starting then s1 else absent.foldl (fun s r => whileRunning i (substitute i nal sl.poc r) s) s1
  whileRunning i (fun s =>
    let y := dchOf i s
    let refTaint := (!starting && !absent.isEmpty) || (shelfRefs y).any (fun q => sl.refs.any (fun r => r.poc == q.poc) &&
      (q.mark == 3 || (q.tainted && decide (y.cleanFrom ≤ q.uid))))
    let s3 := modDch i (fun y => { y with cur := y.cur.map (fun c =>
      { c with pic := { c.pic with tainted := refTaint || (starting && !sl.irap) } }) }) s
    if spsDiffers i v size s then damage i 8 nal.nalType sl.poc nal.offset s3 else s3) s2

/-- The slice's own CTUs: what lies before it undecoded is concealed first; then decoded samples, a memory error, a syntax error after
them (R213). -/
def decodeSlice (i : Nat) (nal : NalUnit) (sl : SliceNal) (s : State) : State :=
  whileRunning i (fun s =>
    let own := (List.range sl.count).map (fun k => sl.first + k)
    let s1 := modDch i (fun x => { x with cur := x.cur.map (fun c => { c with
      pic := if c.pic.mapFull then c.pic else
        { c.pic with pix := sl.samples.foldl (fun m e => SMap.put e.1 e.2 m) c.pic.pix },
      covered := c.covered ++ own, nalType := nal.nalType, offset := nal.offset,
      errs := if sl.error then (sl.first + sl.count) :: c.errs else c.errs }) }) s
    let s2 := match (dchOf i s1).cur with | none => s1 | some c => countCtus i (own.map c.at_) s1
    let s3 := match sl.memErr, (dchOf i s2).cur with
      | some r, some c => whileRunning i (concealCtus i 1 ((List.range r.2).map (fun k => c.at_ (r.1 + k))))
          (damage i 0xA nal.nalType sl.poc nal.offset s2)
      | _, _ => s2
    if sl.error then whileRunning i (damage i 1 nal.nalType sl.poc nal.offset) s3 else s3)
    (concealSkipped i sl.first nal.nalType nal.offset s)

/-- the picture's references have another size than the picture: VVC reference picture resampling (R203). -/
def resamples (i : Nat) (size : Nat × Nat) (sl : SliceNal) (s : State) : Bool :=
  isF (pgDCH i) DCH.FORM_codec s && (shelfRefs (dchOf i s)).any (fun q =>
    sl.refs.any (fun r => r.poc == q.poc) && (q.width != size.1 || q.height != size.2))

/-- no picture is decoded yet: the channel looks for a random-access point, after case 0x07 for an IRAP (R213, R216). -/
def beforeRap (i : Nat) (s : State) : Bool :=
  (dchOf i s).unsupported || ((dchOf i s).cur.isNone && !isF (pgDCH i) DCH.ST_synced s)

/-- the slice belongs to a picture at which decoding may begin (R216). -/
def opensRap (i : Nat) (sl : SliceNal) (s : State) : Bool := sl.irap || (!(dchOf i s).unsupported && sl.recovery.isSome)

/-- `n` NAL units are discarded before the first random-access point (R216). -/
def countPreRap (i n : Nat) (s : State) : State := addF (pgDCH i) DCH.C_pre_rap n s

/-- Before the first random-access point a NAL unit that is no slice is discarded with its access unit: it is counted at once if that is
known to be discarded, else held until the next slice or access unit tells (R216). [DEDUCED log 51] -/
def holdPreRap (i : Nat) (nal : NalUnit) (s : State) : State :=
  match (dchOf i s).preAu with
  | some (au, held) =>
    if au = nal.au then
      match held with
      | none => countPreRap i 1 s
      | some k => modDch i (fun x => { x with preAu := some (au, some (k + 1)) }) s
    else modDch i (fun x => { x with preAu := some (nal.au, some 1) }) (countPreRap i (held.getD 0) s)
  | none => modDch i (fun x => { x with preAu := some (nal.au, some 1) }) s

/-- a slice before the first random-access point that does not open one is discarded, with what is held of its access unit (R216). -/
def discardPreRap (i : Nat) (nal : NalUnit) (s : State) : State :=
  let held := match (dchOf i s).preAu with | some (_, some k) => k | _ => 0
  countPreRap i (held + 1) (modDch i (fun x => { x with preAu := some (nal.au, none) }) s)

/-- a random-access point ends the discarding: what is held of its own access unit was not discarded (R216). -/
def endPreRap (i : Nat) (nal : NalUnit) (s : State) : State :=
  let held := match (dchOf i s).preAu with | some (au, some k) => if au = nal.au then 0 else k | _ => 0
  countPreRap i held (modDch i (fun x => { x with preAu := none }) s)

/-- the stream is unsupported (R213). -/
def refuseStream (i : Nat) (nal : NalUnit) (sl : SliceNal) (s : State) : State :=
  damage i 7 nal.nalType sl.poc nal.offset (modDch i (fun x => { x with unsupported := true }) s)

/-- a whole slice NAL unit (R213, R216). -/
def sliceNal (i : Nat) (nal : NalUnit) (sl : SliceNal) (s : State) : State :=
  let x := dchOf i s
  if beforeRap i s && !opensRap i sl s then discardPreRap i nal s
  else if sl.rasl && x.craStart then s
  else
    let s0 := endPreRap i nal s
    let s1 := if (x.cur.map CurPic.au) = some nal.au then s0 else finishPic i s0
    whileRunning i (fun s =>
      match SMap.find sl.sps x.spss with
      | none => damage i 6 nal.nalType sl.poc nal.offset s
      | some v =>
        let pps := SMap.find sl.pps x.ppss
        if spsTooBig i v s then refuseStream i nal sl s
        else if (dchOf i s).cur.isNone && resamples i ((pps.bind Pps.size).getD (v.width, v.height)) sl s then refuseStream i nal sl s
        else
          let s2 := if (dchOf i s).cur.isSome then s else openPic i nal sl v pps s
          whileRunning i (fun s =>
            if pps.isNone || sl.apss.any (fun a => !(x.apss.contains a)) then
              damage i 6 nal.nalType sl.poc nal.offset s
            else decodeSlice i nal sl s) s2) s1

/-- a parameter set that met case 0x01 or 0x02 is as good as never received (case 0x06). -/
def forgetSet (k : NalKind) (x : DchS) : DchS :=
  match k with
  | .sps id _ => { x with spss := SMap.drop id x.spss }
  | .pps id _ => { x with ppss := SMap.drop id x.ppss }
  | .aps id _ => { x with apss := x.apss.filter (· != id) }
  | _ => x

/-- A NAL unit that cannot be used (case 0x01 or 0x02): a parameter set in it is forgotten; before the first random-access point it is
discarded, which is no damage (R213, R216). -/
def badNal (i code : Nat) (nal : NalUnit) (s : State) : State :=
  let s1 := modDch i (forgetSet nal.kind) s
  match nal.kind with
  | .slice sl =>
    if beforeRap i s && !opensRap i sl s then discardPreRap i nal s1
    else damage i code nal.nalType sl.poc nal.offset s1
  | _ =>
    if beforeRap i s then holdPreRap i nal s1
    else damage i code nal.nalType (damagePoc i s1).1 nal.offset (damagePoc i s1).2

/-- what a whole NAL unit does. -/
def wholeNal (i : Nat) (nal : NalUnit) (s : State) : State :=
  match nal.kind with
  | .sps id (some v) => modDch i (fun x => { x with spss := SMap.put id v x.spss }) s
  | .pps id (some v) => modDch i (fun x => { x with ppss := SMap.put id v x.ppss }) s
  | .aps id true => modDch i (fun x => { x with apss := id :: x.apss.filter (· != id) }) s
  | .sps _ none | .pps _ none | .aps _ false => badNal i 1 nal s
  | .slice sl => sliceNal i nal sl s
  | .hash agrees =>
    if beforeRap i s then holdPreRap i nal s
    else match (dchOf i s).cur with
    | none => s
    | some c =>
      if isF (pgDCH i) DCH.MODE_hash_en s && !agrees then
        whileRunning i (modDch i (fun x => { x with cur := x.cur.map (fun c =>
          { c with pic := { c.pic with tainted := true } }) })) (damage i 9 nal.nalType c.pic.poc nal.offset s)
      else s
  | .other => if beforeRap i s then holdPreRap i nal s else s

/-- the sequence numbers that carry a NAL unit, counted on without wrapping. -/
def nalSeqs (i : Nat) (nal : NalUnit) (s : State) : List Nat :=
  let m := (dchOf i s).merge
  let a := m.place 16 nal.firstSeq.toNat
  (List.range (m.place 16 nal.lastSeq.toNat + 1 - a)).map (fun k => a + k)

/-- a delivered packet of the channel still waits in its queue. -/
def stillQueued (i u : Nat) (s : State) : Bool :=
  (queueOf (qDch i) s).pkts.any (fun k => match k.media with
    | some (pkt, _, _) => (dchOf i s).merge.place 16 pkt.seq == u
    | none => false)

/-- number `u` may still bring its packet: it is undecided, or it waits in the queue. -/
def mayCome (i u : Nat) (s : State) : Bool :=
  (dchOf i s).merge.undecided (2 ^ 15) s.clk u || stillQueued i u s

/-- a packet before number `u`, and after those passed already, may still come: a NAL unit behind it waits (R207). -/
def behindGap (i u : Nat) (s : State) : Bool :=
  ((dchOf i s).merge.expiry.map Prod.fst).any (fun v => decide (v < u) && mayCome i v s) ||
  (queueOf (qDch i) s).pkts.any (fun k => match k.media with
    | some (pkt, _, _) => decide ((dchOf i s).merge.place 16 pkt.seq < u)
    | none => false)

/-- what decoding a NAL unit adds to its core's page (R227): cycles stalled on memory, and errors corrected in core state with EVENT
bit 1. [DESIGN CHOICE log 88] -/
def decCounts (p : Nat) (nal : NalUnit) (s : State) : State :=
  addF p DEC.ECC_CORR_count nal.corrected (addF p DEC.STALL_cycles nal.stall (raiseIf (0 < nal.corrected) p 1 s))

/-- NAL_DECODE (R207): NAL units pass in decoding order, none before one that was passed, none behind a gap that is not decided. One
with a packet declared missing, or with a continuity gap, is discarded whole (case 0x02); one whose packets are all delivered is
decoded; any other still waits. [DESIGN CHOICE log 43; DEDUCED log 51] -/
def nalDecodeOp (i : Nat) (nal : NalUnit) (s : State) : State :=
  if act (pgDCH i) s ≠ stRUNNING then s
  else
    let x := dchOf i s
    let seqs := nalSeqs i nal s
    let first := x.merge.place 16 nal.firstSeq.toNat
    if !x.merge.started || (match x.nalNext with | some v => decide (first < v) | none => false) || behindGap i first s ||
        seqs.any (fun u => !x.pkts.contains u && mayCome i u s) then s
    else
      let s1 := modDch i (fun x => { x with nalNext := some (x.merge.place 16 nal.lastSeq.toNat) }) s
      if nal.gap || seqs.any (fun u => !x.pkts.contains u) then badNal i 2 nal s1
      else wholeNal i nal (decCounts (pgDEC (getF (pgDCH i) DCH.ALLOC_core s)) nal s1)

def execNalDecode (i : Fin 16) (nal : NalUnit) (s : State) : Host.Outcome State Fault Refusal :=
  .next (nalDecodeOp i.val nal s)

/-! ## Output timing (R217, R219) -/

/-- PICTURE_READY (R217): the output process releases the picture with this POC, its last filter complete. -/
def pictureReadyOp (i : Nat) (poc : Int) (s : State) : State :=
  let s0 := match (dchOf i s).cur with
    | some c => if c.pic.poc = poc then finishPic i s else s
    | none => s
  whileRunning i (fun s =>
    let x := dchOf i s
    match (x.dpb.map Prod.snd).find? (fun q => q.poc == poc && q.awaiting && q.ready.isNone) with
    | none => s
    | some q =>
      let s1 := modDch i (fun x => { x with
        nextOut := x.nextOut + 1,
        dpb := x.dpb.map (fun e =>
          if e.2.uid = q.uid then (e.1, { e.2 with ready := some (fabNs s), outNo := x.nextOut }) else e) }) s
      if (freeDpb i s1).isNone && (freeHold i s1).isNone then
        match oldestReady (dchOf i s1) with | some o => dropReady i o.uid s1 | none => s1
      else s1) s0

def execPictureReady (i : Fin 16) (poc : Int) (s : State) : Host.Outcome State Fault Refusal :=
  .next (if act (pgDCH i.val) s = stRUNNING then pictureReadyOp i.val poc s else s)

/-- the pictures due at the tick at `t`, in output order (R89, R96, R217). -/
def dueReady (i : Nat) (t : Int) (odd : Bool) (s : State) : List DecPic :=
  let g : Int := (getF (pgDCH i) DCH.FS_GUARD_guard_us s * 1000 : Nat)
  (readyPics (dchOf i s)).filter (fun q => decide (g ≤ t - q.ready.getD 0) && (!isF (pgDCH i) DCH.FMT_interlaced s || q.second == odd))

/-- the picture R90 chooses, with DCH.FS_GUARD. -/
def chooseReady (i : Nat) (t : Int) (due : List DecPic) (s : State) : Option DecPic :=
  match due.reverse with
  | [] => none
  | [x] => some x
  | newest :: older :: _ =>
    let g : Int := ((getF (pgDCH i) DCH.FS_GUARD_guard_us s + getF (pgDCH i) DCH.FS_GUARD_hyst_us s) * 1000 : Nat)
    if g ≤ t - newest.ready.getD 0 then some newest else some older

/-- the due pictures older than the fed one, which are dropped (R90). -/
def olderDue (i : Nat) (t : Int) (q : DecPic) (s : State) : List Nat :=
  let g : Int := (getF (pgDCH i) DCH.FS_GUARD_guard_us s * 1000 : Nat)
  ((readyPics (dchOf i s)).filter (fun o => decide (g ≤ t - o.ready.getD 0) && decide (o.outNo < q.outNo))).map DecPic.uid

/-- a decoded picture joins what the page fed last, and its hold slot, if one is free once the others have aged (R219). -/
def holdFed (i n : Nat) (q : DecPic) (readers : List (Nat × Nat)) (slots : Nat) (x : DchS) : DchS :=
  let fed := { q with awaiting := false, fedAs := some n, readers := readers, after := 0 }
  let age := fun m : SMap DecPic => m.map (fun e => (e.1, if e.2.fedAs.isSome then { e.2 with after := e.2.after + 1 } else e.2))
  let y := tidyShelf slots { x with hold := age x.hold, dpb := age x.dpb }
  let free := (List.range slots).find? (fun k => (SMap.find k y.hold).isNone)
  tidyShelf slots { y with
    fed := some q.uid, missRun := 0, cleanFed := y.cleanFed || q.clean, hist := (⟨n, 0, some q.uid, []⟩ :: y.hist).take 8,
    hold := match free with | some k => SMap.put k fed y.hold | none => y.hold,
    dpb := y.dpb.map (fun e => if e.2.uid = q.uid then
      (e.1, if free.isSome then { e.2 with awaiting := false, fedAs := some n } else fed) else e) }

/-- A decoded picture is fed at tick `n` (R90, R212, R217, R219). -/
def feedDecoded (i n : Nat) (t : Int) (q : DecPic) (s : State) : State :=
  let p := pgDCH i
  let s1 := (olderDue i t q s).foldl (fun s u => dropReady i u s) s
  let s2 := modDch i (holdFed i n q ((dchConsumers i s1).map (fun w => (w, n))) (holdOf i s1)) s1
  setStrict i (setF p DCH.POC_poc (toTwos 32 q.poc) (setF p DCH.FS_LEAD_lead_ns (satTwos 32 (t - q.ready.getD 0))
    (setF p DCH.ST_concealing q.tainted.toNat (addF p DCH.C_pics_tainted q.tainted.toNat (addF p SYNC.fed 1 s2)))))

/-- the picture that a repeat shows again: the last fed one, of an interlaced stream the last of the tick's parity (R96). -/
def againPic (i : Nat) (odd : Bool) (s : State) : Option Nat :=
  let x := dchOf i s
  if isF (pgDCH i) DCH.FMT_interlaced s then
    ((x.hist.filterMap FedTick.key).find? (fun u => (picOf u x).any (fun q => q.second == odd))).or x.fed
  else x.fed

/-- The page feeds no new picture: `kind` 1 a repeat, 2 black (R90, R92, R96, R217). -/
def feedAgain (i n kind : Nat) (odd : Bool) (s : State) : State :=
  let p := pgDCH i
  let again := if kind = 1 then againPic i odd s else none
  let readers := (dchConsumers i s).map (fun w => (w, n))
  let seen := fun q : DecPic => if again = some q.uid ∧ q.fedAs.isSome then { q with readers := q.readers ++ readers } else q
  raise p 2 (addF p SYNC.repeats 1 (addF p SYNC.fed 1 (modDch i (fun x => { x with
    hist := (⟨n, kind, again, []⟩ :: x.hist).take 8, fed := again.or x.fed,
    hold := x.hold.map (fun e => (e.1, seen e.2)), dpb := x.dpb.map (fun e => (e.1, seen e.2)) }) s)))

/-- What the synchroniser does at tick `n` at `t` (R90, R92, R93, R215, R217). -/
def synchroniseDch (i n : Nat) (t : Int) (s : State) : State :=
  let p := pgDCH i
  let odd := n % 2 == 1
  let due := dueReady i t odd s
  let x := dchOf i s
  let lossK := if getF p DCH.LOSS_policy s = 0 ∧ x.fed.isSome then 1 else 2
  match chooseReady i t due s with
  | some c =>
    if isF p DCH.ST_src_lost s then
      if getF p DCH.LOSS_rejoin_pics s ≤ x.foundRun + 1 then
        feedDecoded i n t c (raise p 1 (setF p DCH.ST_src_lost 0 (modDch i (fun y => { y with foundRun := 0 }) s)))
      else
        feedAgain i n lossK odd (modDch i (fun y => { y with foundRun := x.foundRun + 1 })
          ((due.map DecPic.uid).foldl (fun s u => dropReady i u s) s))
    else feedDecoded i n t c s
  | none =>
    if strictMode i (getF p DCH.MODE_mode s) s && x.fed.isSome then
      let a := drawFree s
      let b := drawFree a.2
      let c := drawFree b.2
      strictStop i 4 (a.1 % 64) b.1 c.1 c.2
    else if isF p DCH.ST_src_lost s then feedAgain i n lossK odd (modDch i (fun y => { y with foundRun := 0 }) s)
    else
      let s1 := modDch i (fun y => { y with missRun := y.missRun + 1, foundRun := 0 }) s
      if getF p DCH.LOSS_loss_pics s ≤ x.missRun + 1 then
        feedAgain i n lossK odd (addF p SYNC.losses 1 (raise p 0 (setF p DCH.ST_src_lost 1
          (modDch i (fun y => { y with missRun := 0 }) s1))))
      else feedAgain i n (if x.fed.isSome then 1 else 2) odd s1

/-- the decode cores of the channel are mapped: none is in FAULT, in TEST or commanded out (R221). -/
def coresMapped (i : Nat) (s : State) : Bool :=
  (dchCores getF i s).all (fun k => decide (k < 8) && (act (pgDEC k) s == stIDLE || act (pgDEC k) s == stRUNNING))

/-- a STARTING channel may run from its next tick (R221). -/
def dchMayStart (i : Nat) (s : State) : Bool :=
  isF pgTIM TIM.ST_first_lock s && coresMapped i s && stacksUp (pgDCH i) s

/-- the pictures that are still read stay on the shelf when the rest of it is emptied (R220, R221). -/
def emptyShelf (x : DchS) : DchS :=
  let keep := fun m : SMap DecPic => m.filter (fun e => !e.2.readers.isEmpty)
  { x with dpb := (keep x.dpb).map (fun e => (e.1, { e.2 with mark := 0, awaiting := false })), hold := keep x.hold, cur := none }

/-- what a newly taken STATE_CMD makes of the page (R23, R24, R215, R220, R221). [DEDUCED log 53] -/
def dchCommand (i : Nat) (s : State) : State :=
  let p := pgDCH i
  let c := getF p HDR.CMD_state s
  let a := act p s
  let fresh := modDch i (fun x => let y := emptyShelf x
    { DchS.reset with nextUid := x.nextUid, dpb := y.dpb, hold := y.hold, hist := x.hist })
  if a = stFAULT ∧ c ≠ stIDLE ∧ c ≠ stOFF then s
  else if c = stRUNNING then
    if a = stRUNNING ∨ a = stSTARTING then s
    else setAct p stSTARTING (if dchMayStart i s then 1 else 5) (setF p DCH.ST_src_lost 0 (setF p DCH.ST_synced 0 (fresh s)))
  else if a = stRUNNING then (if c = stLOW then s else setStrict i (decRefreshAll (setAct p stSTOPPING 0 s)))
  else setAct p c 0 (if c = stOFF then
      clearFields p (DCH.rows.filter (fun f => f.acc == Acc.ro)) { s with dch := SMap.drop i s.dch }
    else if c = stIDLE then modDch i emptyShelf s else s)

/-- the number of the page's next tick: while it is RUNNING one more than its last, so that none is added or lost (R97, R221). -/
def dchNextTick (i : Nat) (s : State) : Nat :=
  match (dchOf i s).tick with
  | some n => n + 1
  | none => tickIndex (dchRate i s) (dchPhase i s) (fabNs s) + 1

/-- the time of tick `n` of the page's frame clock (R87, R217). -/
def dchTickNs (i n : Nat) (s : State) : Int := tickTime (dchRate i s) (dchPhase i s) n

/-- Tick `n` of a DCH page, at its time (R87, R88, R97, R217, R221, R228): a STARTING channel with its dependencies is RUNNING; a
committed generation is taken; a picture is fed. -/
def dchTick (i n : Nat) (s0 : State) : State :=
  let p := pgDCH i
  let t := dchTickNs i n s0
  let s1 := if act p s0 = stSTARTING then
      (if dchMayStart i s0 then setStrict i (decRefreshAll (setAct p stRUNNING 0 s0)) else setAct p stSTARTING 5 s0)
    else s0
  if act p s1 ≠ stRUNNING then s1
  else
    let s2 := setF p DCH.ST_holdover (if timSt s0 = 3 ∨ timSt s0 = 4 then 1 else 0) (setF p DCH.PICNUM_picture n
      (modDch i (fun x => { x with tick := some n }) s1))
    let s3 := if pendingGen p s2 then setStrict i (takeWith p (dchCommand i) s2) else s2
    if act p s3 = stRUNNING then synchroniseDch i n t s3 else s3

/-- the readers of every picture on the shelf that `f` keeps; what is spent then leaves (R219). -/
def keepReaders (i : Nat) (f : Nat × Nat → Bool) (s : State) : State :=
  let drop := fun q : DecPic => { q with readers := q.readers.filter f }
  modDch i (fun x => tidyShelf (holdOf i s) { x with
    hold := x.hold.map (fun e => (e.1, drop e.2)), dpb := x.dpb.map (fun e => (e.1, drop e.2)) }) s

/-- a consumer has finished reading what the page fed up to tick `n` (R219). -/
def doneReadingDch (i who n : Nat) (s : State) : State := keepReaders i (fun w => w.1 != who || decide (n < w.2)) s

/-- a consumer stops reading the page (R221). -/
def quitReadingDch (i who : Nat) (s : State) : State := keepReaders i (fun w => w.1 != who) s

/-- DECODE_CORE_FAULT (R221, R227): the core goes to FAULT, reason 0x08 for an error in its state and 0x07 else; so do
its channels, reason 0x05. -/
def decodeCoreFaultOp (k : Nat) (stateError : Bool) (s : State) : State :=
  let s1 := raise (pgDEC k) 0 (toFault (pgDEC k) (if stateError then 8 else 7) s)
  decRefreshAll ((List.range 16).foldl (fun s i =>
    if (dchCores getF i s).contains k && [stSTARTING, stRUNNING, stSTOPPING].contains (act (pgDCH i) s) then
      setStrict i (toFault (pgDCH i) 5 s) else s) s1)

def execDecodeCoreFault (core : Fin 8) (stateError : Bool) (s : State) : Host.Outcome State Fault Refusal :=
  .next (if act (pgDEC core.val) s = stFAULT then s else decodeCoreFaultOp core.val stateError s)

/-- DECODE_STOPPED (R221): a STOPPING channel whose held pictures nobody reads is IDLE, its shelf emptied; a consumer that has left
RUNNING has finished. -/
def execDecodeStopped (i : Fin 16) (s : State) : Host.Outcome State Fault Refusal :=
  let p := pgDCH i.val
  let x := dchOf i.val s
  let busy := (x.hold ++ x.dpb).any (fun e => e.2.readers.any (fun w => stillReads w.1 s))
  if act p s = stSTOPPING ∧ !busy then
    .next (takeAfterStop p (dchCommand i.val) (setAct p (if cmdOf p s = stOFF then stOFF else stIDLE) 0
      (modDch i.val (fun x => { x with dpb := [], hold := [], cur := none }) s)))
  else .next s

/-- DECODE_GOLDEN_DONE (R222, R227): the run's verdict; a failing core stays in FAULT. -/
def execDecodeGoldenDone (core : Fin 8) (pass : Bool) (s : State) : Host.Outcome State Fault Refusal :=
  let p := pgDEC core.val
  if act p s = stTEST ∧ isF p DEC.ST_golden s then
    let s1 := setF p DEC.ST_golden 0 s
    .next (if pass then raise p 2 (setAct p (restState p s1) 0 s1) else raise p 3 (toFault p 7 s1))
  else .next s

/-! ## Commit checks (R204, R205) -/

/-- pixels per second of a raster at a rate code, rounded up. -/
def pixelRate (w h rate : Nat) : Nat := (w * h * (periodOf rate).2 + (periodOf rate).1 - 1) / (periodOf rate).1

/-- the load a placed channel puts on each of its cores by the values `g`, pixel/s. -/
def dchLoad (g : Nat → Fld → State → Nat) (i : Nat) (s : State) : Nat :=
  let p := pgDCH i
  pixelRate (g p DCH.DIM_width s) (g p DCH.DIM_height s) (g p DCH.FMT_rate s) / max 1 (g p DCH.ALLOC_n_cores s)

/-- the limits of R204 for decode core `k` over the channels `ch`, `g i` giving channel i's values. [DEDUCED log 51] -/
def decLimits (g : Nat → Nat → Fld → State → Nat) (ch : List Nat) (k : Nat) (s : State) : Bool :=
  let here := ch.filter (fun i => (dchCores (g i) i s).contains k)
  decide (here.length ≤ 4) &&
  (decide (here.length ≤ 1) || here.all (fun i => g i (pgDCH i) DCH.ALLOC_n_cores s == 1)) &&
  decide ((here.map (fun i => dchLoad (g i) i s)).sum ≤ 1040000000) &&
  decide (((here.filter (fun i => g i (pgDCH i) DCH.ALLOC_core s == k)).map
    (fun i => g i (pgDCH i) DCH.RATE_max_mbps s)).sum ≤ 2000)

def dchFrozen : List Fld :=
  [DCH.FORM_form, DCH.FORM_codec, DCH.FORM_pt, DCH.FORM_video_pid, DCH.FMT_interlaced, DCH.FMT_sampling, DCH.FMT_depth,
   DCH.FMT_rate, DCH.DIM_height, DCH.DIM_width, DCH.ALLOC_n_cores, DCH.ALLOC_core, DCH.BUF_dpb, DCH.BUF_hold,
   DCH.BUF_cpb_mib, DCH.FS_PHASE_phase_ns]

/-- the commit that is being checked places the channel, or the channel is placed already. -/
def willPlace (p : Nat) (s : State) : Bool :=
  getSh p HDR.CMD_state s == stRUNNING || [stSTARTING, stRUNNING, stSTOPPING, stMUTED].contains (act p s)

/-- see the log: [DEDUCED log 53] -/
def dchValid (i : Nat) (s : State) : Bool :=
  let p := pgDCH i
  let w := getSh p DCH.DIM_width s
  let h := getSh p DCH.DIM_height s
  let rate := getSh p DCH.FMT_rate s
  let inter := getSh p DCH.FMT_interlaced s == 1
  let per := periodOf (if inter then (if rate = 3 then 6 else 7) else rate)
  let n := getSh p DCH.ALLOC_n_cores s
  let c := getSh p DCH.ALLOC_core s
  let samp := getSh p DCH.FMT_sampling s
  decide (1 ≤ w) && decide (w ≤ 8192) && decide (1 ≤ h) && decide (h ≤ 4352) &&
  (samp == 1 || w % 2 == 0) && (samp != 3 || h % 2 == 0) && (samp != 1 || getSh p DCH.FORM_codec s == 1) &&
  (!inter || (w == 1920 && h == 1080 && (rate == 3 || rate == 4))) &&
  decide ((ofTwos 32 (getSh p DCH.FS_PHASE_phase_ns s)).natAbs * per.2 < per.1 * 10 ^ 9) &&
  decide (c + n ≤ 8) &&
  (!willPlace p s || (
    let ch := (List.range 16).filter (fun j => j == i || dchPlaced j s)
    let g := fun j => if j = i then getSh else getCm
    (List.range 8).all (fun k => decLimits g ch k s) &&
    (dchCores getSh i s).all (fun k => act (pgDEC k) s != stFAULT))) &&
  (act p s != stRUNNING || unchanged p dchFrozen s)

end Sys2Proof.Machine
end

