-- ==== Sys2Proof/Machine/Conditioning.lean ====
section
/-! DEFINITION. Sys2Proof/Machine/Conditioning.lean: the conditioning units: paths and outputs, the sample pipeline, the LUT
banks (chapter 03, R98 to R105, R110). -/

namespace Sys2Proof.Machine

/-! ## What a source feeds (R87, R90, R92, R217) -/

/-- what a page fed at a tick, as its readers find it: how (0 picture, 1 repeat, 2 black, 3 slate), the stored pixels, the value of one
that is not stored, the concealment map, and the picture's stamp. -/
structure Feed where
  kind : Nat
  pix : SMap Nat
  dflt : Nat
  map : List Nat
  stamp : Nat
  deriving DecidableEq, Repr

/-- what ING or DCH page `pg` fed at tick `n`, if that is among its last ticks. A picture that has left the shelf since reads mid-grey,
one that has left the ring black. [DEDUCED log 52] -/
def feedOf (pg n : Nat) (s : State) : Option Feed :=
  match blockOf pg with
  | some .dch =>
    let i := pg - Block.first .dch
    let x := dchOf i s
    (x.hist.find? (fun e => e.n == n)).map (fun e =>
      if e.kind = 2 then ⟨2, [], dchBlack i s, [], 0⟩
      else match e.key.bind (fun u => picOf u x) with
        | some q => ⟨e.kind, q.pix, dchGrey i s, q.map, q.stamp⟩
        | none => ⟨e.kind, [], dchGrey i s, [], 0⟩)
  | _ =>
    let i := pg - Block.first .ing
    let x := ingOf i s
    (tickAt n x).map (fun e =>
      if e.kind = 2 then ⟨2, [], ingBlack i s, [], 0⟩
      else if e.kind = 3 then ⟨3, x.slate.getD [], ingBlack i s, [], 0⟩
      else match e.key.bind (fun k => slotOf k x) with
        | some t => ⟨e.kind, t.pix, ingBlack i s, t.map, mediaOf t.key⟩
        | none => ⟨e.kind, [], ingBlack i s, [], 0⟩)

/-- the number of a page's last tick, not cut to 32 bits (R88, R217): while it runs its own count, else what its clock gives. -/
def pageTick (pg : Nat) (s : State) : Nat :=
  match blockOf pg with
  | some .dch =>
    let i := pg - Block.first .dch
    if act pg s = stRUNNING then (dchOf i s).tick.getD 0 else tickIndex (dchRate i s) (dchPhase i s) (fabNs s)
  | _ =>
    let i := pg - Block.first .ing
    if act pg s = stRUNNING then (ingOf i s).tick.getD 0 else tickIndex (ingRate i s) (ingPhase i s) (fabNs s)

/-- consumer `who` has finished what page `pg` fed up to tick `n`. -/
def doneWith (pg who n : Nat) (s : State) : State :=
  match blockOf pg with
  | some .dch => doneReadingDch (pg - Block.first .dch) who n s
  | _ => doneReading (pg - Block.first .ing) who n s

/-- consumer `who` stops reading page `pg`. -/
def quitPage (pg who : Nat) (s : State) : State :=
  match blockOf pg with
  | some .dch => quitReadingDch (pg - Block.first .dch) who s
  | _ => quitReading (pg - Block.first .ing) who s

/-! ## Samples (R101 to R104) -/

/-- the three components of a sample, 16-bit once unpacked: Y, Cb, Cr or R, G, B. -/
structure Px where
  a : Int
  b : Int
  c : Int
  deriving DecidableEq, Repr

/-- the rounding of R101: one half of the last retained step is added and the value truncated. [PRESUMED log 37] -/
def roundDiv (n : Int) (d : Nat) : Int := (n + d / 2) / d

/-- clipped to the video range: luma or R′G′B′ 64–940, chroma 64–960, at 16 bits (R101, R102). [PRESUMED log 37] -/
def clipY (v : Int) : Int := max 4096 (min 60160 v)
/-- see the log: [PRESUMED log 37] -/
def clipC (v : Int) : Int := max 4096 (min 61440 v)

/-- a picture as the pipeline reads it: line, column; outside the raster the edge samples repeat (R103). -/
abbrev Raster := Int → Int → Px

def clampIdx (n : Nat) (v : Int) : Nat := (max 0 (min ((n : Int) - 1) v)).toNat

/-- stage 1: source samples to 16-bit, shifted left by 8, 6 or 4, in the video range of the source's format (R101). [PRESUMED log 37] -/
def unpack (rgb : Bool) (depth w h : Nat) (x : Feed) : Raster := fun l c =>
  let v := SMap.get x.dflt (clampIdx h l * 2 ^ 16 + clampIdx w c) x.pix
  let sh := 2 ^ (8 - 2 * depth)
  let ch := if rgb then clipY else clipC
  ⟨clipY (v / 2 ^ 32 * sh : Nat), ch (v / 2 ^ 16 % 2 ^ 16 * sh : Nat), ch (v % 2 ^ 16 * sh : Nat)⟩

/-- stage 2, vertically: 4:2:0 to 4:2:2 with weights 3/4 and 1/4 (R101). -/
def chromaUpV (h : Nat) (r : Raster) : Raster := fun l x =>
  let row := fun j : Int => r (2 * max 0 (min (((h / 2 : Nat) : Int) - 1) j)) x
  let near := row (l / 2)
  let far := row (if l % 2 = 0 then l / 2 - 1 else l / 2 + 1)
  ⟨(r l x).a, clipC (roundDiv (3 * near.b + far.b) 4), clipC (roundDiv (3 * near.c + far.c) 4)⟩

/-- stage 2, horizontally: 4:2:2 to 4:4:4, co-sited copied, others [−1 9 9 −1]/16 (R101). -/
def chromaUpH (w : Nat) (r : Raster) : Raster := fun l x =>
  if x % 2 = 0 then r l x
  else
    let at_ := fun k : Int => r l (max 0 (min ((w : Int) - 2) (x + k)))
    let f := fun g : Px → Int => clipC (roundDiv (9 * (g (at_ (-1)) + g (at_ 1)) - g (at_ (-3)) - g (at_ 3)) 16)
    ⟨(r l x).a, f Px.b, f Px.c⟩

/-- Kr and Kb in 1/10,000: BT.709 or BT.2020 (R102). [PRESUMED log 37] -/
def kr (bt2020 : Bool) : Int := if bt2020 then 2627 else 2126
/-- see the log: [PRESUMED log 37] -/
def kb (bt2020 : Bool) : Int := if bt2020 then 593 else 722
/-- see the log: [PRESUMED log 37] -/
def kg (bt2020 : Bool) : Int := 10000 - kr bt2020 - kb bt2020

/-- stage 3: YCbCr to R′G′B′, non-constant luminance, video range (R101, R102). [PRESUMED log 37] -/
def toRgb (bt2020 : Bool) (p : Px) : Px :=
  let cb := p.b - 32768
  let cr := p.c - 32768
  -- luma spans 56,064 steps and chroma 57,344
  let k := fun (n d : Int) (v : Int) => (56064 * 2 * n * v, (57344 * d).toNat)
  let r := k (10000 - kr bt2020) 10000 cr
  let b := k (10000 - kb bt2020) 10000 cb
  let g := 56064 * 2 * (kb bt2020 * (10000 - kb bt2020) * cb + kr bt2020 * (10000 - kr bt2020) * cr)
  ⟨clipY (p.a + roundDiv r.1 r.2), clipY (p.a - roundDiv g (57344 * 10000 * (kg bt2020).toNat)),
   clipY (p.a + roundDiv b.1 b.2)⟩

/-- stage 5: R′G′B′ to YCbCr (R101, R102). [PRESUMED log 37] -/
def toYcc (bt2020 : Bool) (p : Px) : Px :=
  let y10k := kr bt2020 * (p.a - 4096) + kg bt2020 * (p.b - 4096) + kb bt2020 * (p.c - 4096)
  let ch := fun (v : Int) (k : Int) =>
    clipC (32768 + roundDiv ((10000 * (v - 4096) - y10k) * 57344) (56064 * 2 * (10000 - k)).toNat)
  ⟨clipY (4096 + roundDiv y10k 10000), ch p.c (kb bt2020), ch p.a (kr bt2020)⟩

/-- an entry of a LUT bank (R104). [DESIGN CHOICE log 38] -/
def lutEntry (lut : SMap Nat) (bank r g b : Nat) : Px :=
  let v := SMap.get 0 (bank * 35937 + 1089 * r + 33 * g + b) lut
  ⟨(v / 2 ^ 32 : Nat), (v / 2 ^ 16 % 2 ^ 16 : Nat), (v % 2 ^ 16 : Nat)⟩

/-- stage 4: tetrahedral interpolation in the 33³ bank (R101, R104): along the axes in falling order of their
fractions. -/
def lutStage (lut : SMap Nat) (bank : Nat) (p : Px) : Px :=
  let q := fun v : Int => Config.lutCoord v.toNat
  let base := fun v : Int => min 31 (q v / 65536)
  let fr := fun v : Int => min 65536 (q v - base v * 65536)
  let at_ := fun (r g b : Nat) => lutEntry lut bank (base p.a + r) (base p.b + g) (base p.c + b)
  let fa := fr p.a; let fb := fr p.b; let fc := fr p.c
  let mix := fun (v1 v2 : Px) (f1 f2 f3 : Nat) (sel : Px → Int) =>
    roundDiv (sel (at_ 0 0 0) * (65536 - f1 : Int) + sel v1 * (f1 - f2 : Int) + sel v2 * (f2 - f3 : Int) +
      sel (at_ 1 1 1) * f3) 65536
  let out := fun v1 v2 f1 f2 f3 => (⟨clipY (mix v1 v2 f1 f2 f3 Px.a), clipY (mix v1 v2 f1 f2 f3 Px.b),
    clipY (mix v1 v2 f1 f2 f3 Px.c)⟩ : Px)
  if fa ≥ fb ∧ fb ≥ fc then out (at_ 1 0 0) (at_ 1 1 0) fa fb fc
  else if fa ≥ fc ∧ fc ≥ fb then out (at_ 1 0 0) (at_ 1 0 1) fa fc fb
  else if fc ≥ fa ∧ fa ≥ fb then out (at_ 0 0 1) (at_ 1 0 1) fc fa fb
  else if fb ≥ fa ∧ fa ≥ fc then out (at_ 0 1 0) (at_ 1 1 0) fb fa fc
  else if fb ≥ fc ∧ fc ≥ fa then out (at_ 0 1 0) (at_ 0 1 1) fb fc fa
  else out (at_ 0 0 1) (at_ 0 1 1) fc fb fa

/-- π in 2⁻⁴⁰. -/
def piFix : Int := 3454217652358

/-- sin(π n / d) in 2⁻⁴⁰: brought into a quarter turn, then thirteen terms of the series. -/
def sinPi (n d : Nat) : Int :=
  let r := n % (2 * d)
  let q := if r < d then r else r - d
  let x : Int := ((if 2 * q ≤ d then q else d - q : Nat) : Int) * piFix / d
  let sum := (List.range 13).foldl (fun (a : Int × Int) k =>
    (a.1 + a.2, -(a.2 * x / 2 ^ 40 * x / 2 ^ 40) / ((2 * k + 2) * (2 * k + 3) : Nat))) (0, x)
  if r < d then sum.1 else -sum.1

/-- sinc(n / d) in 2⁻⁴⁰. -/
def sincFix (n d : Nat) : Int := if n = 0 then 2 ^ 40 else sinPi n d * 2 ^ 40 * d / (piFix * n)

/-- The source position, in 1/64 of a sample, from which output sample `x` of `out` reads in `src` samples (R103), rounded as R101
rounds. [DEDUCED log 38] -/
def scalePos (src out x : Nat) : Int := (((2 * x + 1) * src * 64 : Nat) - (63 * out : Nat) : Int) / ((2 * out : Nat) : Int)

/-- the Lanczos weight, not normalised, of a sample at distance `d64`/64 (R103). -/
def lanczos (a src out d64 : Nat) : Int :=
  if 64 * a ≤ d64 then 0
  else sincFix d64 (64 * a) * (if out < src then sincFix (d64 * out) (64 * src) else sincFix d64 64) / 2 ^ 40

/-- The `2a` coefficients of a phase, which sum to 1,024, the tap nearest to the position making the sum exact (R103). [DEDUCED log 38] -/
def scaleTaps (a src out phase : Nat) : List Int :=
  let w := (List.range (2 * a)).map (fun k => lanczos a src out ((64 * (k : Int) - (64 * (a - 1) + phase : Nat)).natAbs))
  let q := w.map (fun v => roundDiv (v * 1024) w.sum.toNat)
  let c := if phase < 32 then a - 1 else a
  q.zipIdx.map (fun e => if e.2 = c then e.1 + (1024 - q.sum) else e.1)

/-- stage 6 along one axis of one component plane: `2a` taps, 64 phases, edge samples repeated (R103). [DEDUCED log 38] -/
def filterAt (clip : Int → Int) (a src out x : Nat) (f : Nat → Int) : Int :=
  let pos := scalePos src out x
  let b := pos / 64 - (a - 1 : Nat)
  clip (roundDiv ((scaleTaps a src out (pos % 64).toNat).zipIdx.foldl (fun n e => n + e.1 * f (clampIdx src (b + e.2))) 0) 1024)

/-- stage 6 for one component, whose plane has one sample for each `sx` columns and `sy` lines: horizontal, then vertical; a direction
whose size does not change passes (R101, R103). [DEDUCED log 38] -/
def scalePlane (clip : Int → Int) (sx sy w h ow oh : Nat) (f : Int → Int → Int) (l x : Nat) : Int :=
  let hz := fun (line : Nat) =>
    if w = ow then f (line * sy : Nat) (x / sx * sx : Nat)
    else filterAt clip 4 (w / sx) (ow / sx) (x / sx) (fun k => f (line * sy : Nat) (k * sx : Nat))
  if h = oh then hz (l / sy) else filterAt clip 3 (h / sy) (oh / sy) (l / sy) hz

/-- stage 6 on samples of chroma format `at6` (0 4:2:0, 1 4:2:2, 2 4:4:4). [DEDUCED log 38] -/
def scale (at6 w h ow oh : Nat) (r : Raster) : Raster := fun l x =>
  let sx := if at6 = 2 then 1 else 2
  let sy := if at6 = 0 then 2 else 1
  let y := clampIdx oh l
  let c := clampIdx ow x
  ⟨scalePlane clipY 1 1 w h ow oh (fun a b => (r a b).a) y c, scalePlane clipC sx sy w h ow oh (fun a b => (r a b).b) y c,
   scalePlane clipC sx sy w h ow oh (fun a b => (r a b).c) y c⟩

/-- stage 7: 4:4:4 to 4:2:2, co-sited [1 2 1]/4 (R101). -/
def chromaDownH (w : Nat) (r : Raster) : Raster := fun l x =>
  let at_ := fun k : Int => r l (max 0 (min ((w : Int) - 1) (x + k)))
  let f := fun g : Px → Int => clipC (roundDiv (g (at_ (-1)) + 2 * g (at_ 0) + g (at_ 1)) 4)
  ⟨(r l x).a, f Px.b, f Px.c⟩

/-- stage 7: 4:2:2 to 4:2:0, centred between lines, [1 3 3 1]/8 (R101). -/
def chromaDownV (h : Nat) (r : Raster) : Raster := fun l x =>
  let at_ := fun k : Int => r (max 0 (min ((h : Int) - 1) (l / 2 * 2 + k))) x
  let f := fun g : Px → Int => clipC (roundDiv (g (at_ (-1)) + 3 * g (at_ 0) + 3 * g (at_ 1) + g (at_ 2)) 8)
  ⟨(r l x).a, f Px.b, f Px.c⟩

/-- stage 8: rounded to the output depth, 8 or 10 bits, in its video range (R101). [PRESUMED log 37] -/
def packSample (ten : Bool) (p : Px) : Nat :=
  let q := if ten then 64 else 256
  let f := fun (top : Nat) (v : Int) => (max ((4096 / q : Nat) : Int) (min ((top / q : Nat) : Int) (roundDiv v q))).toNat
  packPx (f 60160 p.a) (f 61440 p.b) (f 61440 p.c)

/-! ## Units, paths and outputs -/

def cndOf (u : Nat) (s : State) : CndS := SMap.get CndS.reset u s.cnd

def modCnd (u : Nat) (f : CndS → CndS) (s : State) : State := { s with cnd := modAt CndS.reset u f s.cnd }

/-- the page a path reads: an ING page or a decode channel (R99). -/
def pathSource (u p : Nat) (s : State) : Nat :=
  if isF (pgCND u) (CND.PATH_src_dch p) s then pgDCH (getF (pgCND u) (CND.PATH_src p) s)
  else pgING (getF (pgCND u) (CND.PATH_src p) s)

/-- a source's format: width, lines of a frame, sampling (0 4:2:2, 1 4:4:4, 2 RGB, 3 4:2:0), depth code, whether BT.2020 (a decode
channel carries no colorimetry), interlaced, rate code. -/
structure SrcFmt where
  width : Nat
  height : Nat
  sampling : Nat
  depth : Nat
  bt2020 : Option Bool
  interlaced : Bool
  rate : Nat
  deriving DecidableEq, Repr

/-- lines of a picture, or of a field. -/
def SrcFmt.lines (f : SrcFmt) : Nat := if f.interlaced then f.height / 2 else f.height

/-- the format of source page `pg` by the shadow, committed or active values `g`. -/
def sourceFormat (g : Nat → Fld → State → Nat) (pg : Nat) (s : State) : SrcFmt :=
  match blockOf pg with
  | some .dch =>
    ⟨g pg DCH.DIM_width s, g pg DCH.DIM_height s, g pg DCH.FMT_sampling s, g pg DCH.FMT_depth s, none, g pg DCH.FMT_interlaced s == 1,
     g pg DCH.FMT_rate s⟩
  | _ =>
    ⟨g pg ING.VDIM_width s, g pg ING.VDIM_height s, g pg ING.VFMT_sampling s, g pg ING.VFMT_depth s,
     some (g pg ING.VFMT_colorimetry s == 1), g pg ING.VFMT_interlaced s == 1, g pg ING.VFMT_rate s⟩

/-- the load of an active path in pixel/s (R100). -/
def pathLoad (u p : Nat) (s : State) : Nat :=
  let pg := pgCND u
  if !isF pg (CND.PATH_en p) s then 0
  else
    let f := sourceFormat getF (pathSource u p s) s
    ((List.range 16).filter (fun m => isF pg (CND.OCTL_en m) s && getF pg (CND.OCTL_path m) s == p)).foldl
      (fun n m => max n (pixelRate (getF pg (CND.ODIM_width m) s) (getF pg (CND.ODIM_height m) s) f.rate))
      (pixelRate f.width f.height f.rate)

def unitLoad (u : Nat) (s : State) : Nat := (List.range 8).foldl (fun n p => n + pathLoad u p s) 0

/-- no unit's paths carry more than 4.2 Gpixel/s (R100). -/
def loadsFit (s : State) : Bool := (List.range 4).all (fun u => decide (unitLoad u s ≤ 4200000000))

/-- a bank is in use while the active or committed configuration of an enabled output with lut_en selects it (R104). -/
def bankInUse (u bank : Nat) (s : State) : Bool :=
  let sel := fun (g : Nat → Fld → State → Nat) m =>
    g (pgCND u) (CND.OCTL_en m) s == 1 && g (pgCND u) (CND.OCTL_lut_en m) s == 1 &&
    g (pgCND u) (CND.OCTL_lut_bank m) s == bank
  (List.range 16).any (fun m => sel getF m || sel getCm m)

/-- a conditioning output's source is available: unit and path enabled, not in FAULT, the source RUNNING (R105, R110). -/
def cndAvailable (u m : Nat) (s : State) : Bool :=
  let p := getF (pgCND u) (CND.OCTL_path m) s
  isF (pgCND u) (CND.OCTL_en m) s && isF (pgCND u) (CND.PATH_en p) s && act (pgCND u) s != stFAULT &&
  act (pathSource u p s) s == stRUNNING

/-- some RUNNING encode channel or sender reads conditioned source `n` (R98, R223). -/
def cndRead (n : Nat) (s : State) : Bool :=
  (List.range 32).any (fun c => act (pgECH c) s == stRUNNING && getF (pgECH c) ECH.SRC_src_kind s == 1 &&
    getF (pgECH c) ECH.SRC_src s == n) ||
  (List.range 16).any (fun c => act (pgSND c) s == stRUNNING && getF (pgSND c) SND.SRC_src_kind s == 1 &&
    getF (pgSND c) SND.SRC_src s == n)

/-- the page is RUNNING while any enabled output is being read, and IDLE otherwise (R110). -/
def cndRefresh (u : Nat) (s : State) : State :=
  let p := pgCND u
  let busy := (List.range 16).any (fun m => isF p (CND.OCTL_en m) s && cndRead (16 * u + m) s)
  followWork p busy (unitState 2 u s == 1) s

def cndRefreshAll (s : State) : State := (List.range 4).foldl (fun s u => cndRefresh u s) s

/-- the fields of an output. -/
def outputFields (m : Nat) : List Fld :=
  [CND.OCTL_en m, CND.OCTL_path m, CND.OCTL_lut_en m, CND.OCTL_lut_bank m, CND.OCTL_chroma_out m,
   CND.OCTL_depth_out m, CND.OCTL_colorimetry_out m, CND.OCTL_tcs_out m, CND.ODIM_height m, CND.ODIM_width m]

/-- the fields of a path, and of the outputs that it owns in the committed generation (R105). -/
def pathFields (u p : Nat) (s : State) : List Fld :=
  [CND.PATH_en p, CND.PATH_src_dch p, CND.PATH_src p] ++
  ((List.range 16).filter (fun m => getCm (pgCND u) (CND.OCTL_path m) s == p)).flatMap outputFields

/-- a path that is enabled with a source that is not RUNNING: EVENT bit 0 (R105). -/
def pathDark (u p : Nat) (s : State) : Bool := isF (pgCND u) (CND.PATH_en p) s && act (pathSource u p s) s != stRUNNING

/-- CND_GENERATION_TAKEN (R105): the path takes the committed generation with the outputs it owns in it; once every path
has, the page's gen_applied moves and EVENT bit 30 is set. -/
def takePath (u p : Nat) (s : State) : State :=
  let pg := pgCND u
  if !pendingGen pg s || (cndOf u s).taken.contains p then s
  else
    let s0 := (pathFields u p s).foldl (fun s f => setF pg f (getCm pg f s) s) s
    let s1 := raiseIf (pathDark u p s0) pg 0 (modCnd u (fun x => { x with taken := p :: x.taken }) s0)
    if (cndOf u s1).taken.length = 8 then modCnd u (fun x => { x with taken := [] }) (takeWith pg (followCommand pg) s1)
    else s1

/-- a path carries no work: it is disabled or its source is not RUNNING. -/
def pathIdle (u p : Nat) (s : State) : Bool :=
  !isF (pgCND u) (CND.PATH_en p) s || act (pathSource u p s) s != stRUNNING

/-- an output carries no work: it is disabled, or its path carries none. -/
def outputIdle (u m : Nat) (s : State) : Bool :=
  !isF (pgCND u) (CND.OCTL_en m) s || pathIdle u (getF (pgCND u) (CND.OCTL_path m) s) s

/-- the paths and outputs that carry no work take a committed generation in the next FAB cycle (R105). -/
def takeIdlePaths (u : Nat) (s : State) : State :=
  let pg := pgCND u
  let s1 := (List.range 8).foldl (fun s p => if pathIdle u p s then takePath u p s else s) s
  if pendingGen pg s1 then
    (List.range 16).foldl (fun s m =>
      if outputIdle u m s then (outputFields m).foldl (fun s f => setF pg f (getCm pg f s) s) s else s) s1
  else s1

/-- the paths that read page `pg` take a pending generation at its picture boundary (R105). -/
def takePathsOf (pg : Nat) (s : State) : State :=
  (List.range 32).foldl (fun s q => if pathSource (q / 8) (q % 8) s = pg then takePath (q / 8) (q % 8) s else s) s

/-! ## The output row -/

/-- lines that an output gives at a tick: of an interlaced source, which it does not scale, those of a field (R96). -/
def outLines (u m : Nat) (s : State) : Nat :=
  let f := sourceFormat getF (pathSource u (getF (pgCND u) (CND.OCTL_path m) s) s) s
  if f.interlaced then f.lines else getF (pgCND u) (CND.ODIM_height m) s

/-- the chroma format at stage 6 of output `m` (0 4:2:0, 1 4:2:2, 2 4:4:4) from a source sampling: 4:4:4 where stages 3 to 5 or the
output need it (R101). Of a 4:2:0 source for a 4:2:2 output without a LUT the table states nothing: the model resamples it vertically
in stage 2. [DESIGN CHOICE log 38] -/
def stage6 (u m sampling : Nat) (s : State) : Nat :=
  let chroma := getF (pgCND u) (CND.OCTL_chroma_out m) s
  if isF (pgCND u) (CND.OCTL_lut_en m) s || sampling == 1 || sampling == 2 || chroma == 2 then 2
  else if sampling = 3 ∧ chroma = 0 then 0 else 1

/-- The samples of output `m`'s row, from what its source fed at a tick (R101). A DCH page carries no colorimetry (R119): stage 3 takes its
pictures as BT.709. [DESIGN CHOICE log 38] -/
def cndSamples (u m row : Nat) (x : Feed) (s : State) : List Nat :=
  let pg := pgCND u
  let f := sourceFormat getF (pathSource u (getF pg (CND.OCTL_path m) s) s) s
  let w := f.width
  let h := f.lines
  let samp := f.sampling
  let lut := isF pg (CND.OCTL_lut_en m) s
  let chroma := getF pg (CND.OCTL_chroma_out m) s
  let at6 := stage6 u m samp s
  let r0 := unpack (samp == 2) f.depth w h x
  let r1 := if samp = 3 ∧ at6 ≠ 0 then chromaUpV h r0 else r0
  let r2 := if at6 = 2 ∧ (samp = 0 ∨ samp = 3) then chromaUpH w r1 else r1
  let r3 : Raster := if lut && samp != 2 then fun l x => toRgb (f.bt2020.getD false) (r2 l x) else r2
  let r4 : Raster := if lut then fun l x => lutStage (cndOf u s).lut (getF pg (CND.OCTL_lut_bank m) s) (r3 l x) else r3
  let r5 : Raster := if lut || samp == 2 then fun l x => toYcc (isF pg (CND.OCTL_colorimetry_out m) s) (r4 l x) else r4
  let ow := getF pg (CND.ODIM_width m) s
  let oh := outLines u m s
  let r6 := if ow = w ∧ oh = h then r5 else scale at6 w h ow oh r5
  let r7 := if at6 = 2 ∧ chroma < 2 then chromaDownH ow r6 else r6
  let r8 := if at6 ≠ 0 ∧ chroma = 0 then chromaDownV oh r7 else r7
  (List.range ow).map (fun x => packSample (isF pg (CND.OCTL_depth_out m) s) (r8 row x))

/-- an output resamples chroma vertically (R125). -/
def vertChroma (u m sampling : Nat) (s : State) : Bool :=
  let at6 := stage6 u m sampling s
  (sampling == 3 && at6 != 0) || (at6 != 0 && getF (pgCND u) (CND.OCTL_chroma_out m) s == 0)

/-- the outputs that a path feeds. -/
def pathOutputs (u p : Nat) (s : State) : List Nat :=
  (List.range 16).filter (fun m => isF (pgCND u) (CND.OCTL_en m) s && getF (pgCND u) (CND.OCTL_path m) s == p)

/-- s of R125: how many source lines before a line's nominal end a path reads it. -/
def pathSupport (u p : Nat) (s : State) : Nat :=
  let f := sourceFormat getF (pathSource u p s) s
  if (pathOutputs u p s).any (fun m => outLines u m s != f.lines) then 3
  else if (pathOutputs u p s).any (fun m => vertChroma u m f.sampling s) then 1 else 0

/-- the last source line that an output's row needs (R103). -/
def rowNeeds (u m row : Nat) (s : State) : Nat :=
  let f := sourceFormat getF (pathSource u (getF (pgCND u) (CND.OCTL_path m) s) s) s
  let h := f.lines
  let oh := outLines u m s
  let line := if oh = h then row + (vertChroma u m f.sampling s).toNat else (scalePos h oh row / 64 + 3).toNat
  min (h - 1) line

/-- the key of a row in a unit's output buffer: each output keeps the rows of two ticks (R129, R186). -/
def cndRowKey (m n row : Nat) : Nat := (m * 2 + n % 2) * 2 ^ 16 + row

/-- a row as an output gives it: the tick whose feed it is of, the row, its samples. -/
def putRow (u m n row : Nat) (smp : List Nat) (s : State) : State :=
  modCnd u (fun x => { x with last := SMap.put m (n, row) x.last, rows := SMap.put (cndRowKey m n row) ⟨n, smp⟩ x.rows }) s

/-- The row of tick `n` that stands in the buffer of conditioned source `src`: until its own place is written again, which `two` pictures
take (R129), or, with one, until the same row of the next picture is written (R186). -/
def bufferedRow (two : Bool) (u m n row : Nat) (s : State) : Option (List Nat) :=
  let rows := (cndOf u s).rows
  let next := (SMap.find (cndRowKey m (n + 1) row) rows).any (fun r => r.n == n + 1)
  ((SMap.find (cndRowKey m n row) rows).filter (fun r => r.n == n && (two || !next))).map CndRow.samples

/-- every output of the path has given the last row of what its source fed at tick `n`, or of a later feed. -/
def pathDone (u p n : Nat) (s : State) : Bool :=
  (pathOutputs u p s).all (fun m => match SMap.find m (cndOf u s).last with
    | some r => decide (n < r.1) || (r.1 == n && r.2 + 1 == outLines u m s)
    | none => false)

/-- The tick whose feed an output's row is of: the one it is giving rows of while rows are left and the page has not gone two ticks
further, else the page's last. [DEDUCED log 37] -/
def rowTick (u m row : Nat) (s : State) : Nat :=
  let pg := pathSource u (getF (pgCND u) (CND.OCTL_path m) s) s
  match SMap.find m (cndOf u s).last with
  | some r => if r.2 < row ∧ pageTick pg s ≤ r.1 + 1 then r.1 else pageTick pg s
  | none => pageTick pg s

/-! ## LUT loading (R104) -/

/-- a write of LUT_DATA1 with `b`. -/
def lutWriteOp (u b : Nat) (s : State) : Status × State :=
  let pg := pgCND u
  let bank := getF pg CND.LUT_ADDR_bank s
  let idx := getF pg CND.LUT_ADDR_index s
  if bankInUse u bank s then (.invalidValue, raise pg 1 s)
  else
    let v := (getF pg CND.LUT_DATA0_r s * 2 ^ 16 + getF pg CND.LUT_DATA0_g s) * 2 ^ 16 + b
    (.success, setF pg CND.LUT_ADDR_index (if idx = 35936 then 0 else idx + 1) (setF pg CND.LUT_DATA1_b b
      (modCnd u (fun x => { x with lut := SMap.set 0 (bank * 35937 + idx) v x.lut }) s)))

/-- LUT_WRITE. -/
def execLutWrite (r : Req) (u : Fin 4) (b : BitVec 16) (s : State) : Host.Outcome State Fault Refusal :=
  .next (asWrite r (pgCND u.val) 0x188 (lutWriteOp u.val b.toNat) s)

/-! ## Commit checks (R96, R99, R100, R102, R103, R110) -/

/-- one enabled output agrees with its path's source, `v` being the state with the shadows active. A decode channel carries no
colorimetry that an output could differ from. -/
def outputOk (u m : Nat) (v : State) : Bool :=
  let pg := pgCND u
  let p := getF pg (CND.OCTL_path m) v
  if !isF pg (CND.OCTL_en m) v || !isF pg (CND.PATH_en p) v then true
  else
    let f := sourceFormat getF (pathSource u p v) v
    let h := f.lines
    let ow := getF pg (CND.ODIM_width m) v
    let oh := getF pg (CND.ODIM_height m) v
    (isF pg (CND.OCTL_lut_en m) v || f.bt2020.isNone || f.bt2020 == some (isF pg (CND.OCTL_colorimetry_out m) v)) &&
    (if f.interlaced then ow == f.width && (oh == h || oh == f.height)
     else decide (f.width ≤ 8 * ow) && decide (ow ≤ 2 * f.width) && decide (h ≤ 8 * oh) && decide (oh ≤ 2 * h))

/-- a CND commit, `v` being the state with the page's shadows and every other committed generation active. -/
def cndValid (u : Nat) (v : State) : Bool :=
  (List.range 16).all (fun m => outputOk u m v) &&
  (List.range 8).all (fun p => decide ((pathOutputs u p v).length ≤ 4)) &&
  (List.range 8).all (fun p => !isF (pgCND u) (CND.PATH_src_dch p) v || decide (getF (pgCND u) (CND.PATH_src p) v < 16)) &&
  loadsFit v

end Sys2Proof.Machine
end

