-- ==== Sys2Proof/Machine/Legs.lean ====
section
/-! DEFINITION. Sys2Proof/Machine/Legs.lean: the two legs of an OUT or SND page: addresses, packets, and their way through the output
queues (R190, R195, R196, R200, R224). -/

namespace Sys2Proof.Machine

/-! ## A port's own addresses (R200, R330) -/

def portMac (i : Nat) (s : State) : Nat := getF (pgETH i) ETH.MAC_HI_mac s * 2 ^ 32 + getF (pgETH i) ETH.MAC_LO_mac s

/-- the port's link-local IPv6 address: fe80::/64 and the MAC address as EUI-64 (R330). -/
def linkLocal (i : Nat) (s : State) : Nat :=
  let m := portMac i s
  0xFE80 * 2 ^ 112 + Nat.xor (m / 2 ^ 24) 0x020000 * 2 ^ 40 + 0xFFFE * 2 ^ 24 + m % 2 ^ 24

/-- the port's global IPv6 address; 0 none (R330). -/
def portIpv6 (i : Nat) (s : State) : Nat := (List.range 4).foldl (fun n k => n * 2 ^ 32 + getF (pgETH i) (ETH.IPV6_addr k) s) 0

/-- the MAC address of an IP multicast group. -/
def groupMac (a : Nat) : Nat :=
  if a / 2 ^ 32 = 0xFFFF then 0x01005E000000 + a % 2 ^ 23 else 0x333300000000 + a % 2 ^ 32

/-! ## Leg blocks (R200) -/

def legBase (leg : Nat) : Nat := 0x180 + 0x40 * leg

/-- an enabled leg whose port is up: its block at `b`, port 0 or 1 (R196, R202). -/
def legUsable (p b port : Nat) (s : State) : Bool := isF p (OLEG.en b) s && portUp port s

/-- the destination address of a leg. -/
def legAddr (p leg : Nat) (s : State) : Nat :=
  (List.range 4).foldl (fun n k => n * 2 ^ 32 + getF p (OLEG.daddr (legBase leg) k) s) 0

/-- the leg sends IPv4. -/
def legV4 (p leg : Nat) (s : State) : Bool := legAddr p leg s / 2 ^ 32 == 0xFFFF

/-- The addresses that a leg's packets carry (R200): destination and source MAC, the VLAN tag (0 none), IP version, source and
destination address, DSCP, UDP source and destination port. An IPv6 leg of a port without a global address uses the link-local one.
[PRESUMED log 46] -/
def legHead (p leg : Nat) (s : State) : List Nat :=
  let b := legBase leg
  let d := legAddr p leg s
  let v4 := legV4 p leg s
  let dmac := if isF p (OLEG.dmac_auto b) s then groupMac d
    else getF p (OLEG.dmac_hi b) s * 2 ^ 32 + getF p (OLEG.dmac_lo b) s
  let tag := if isF p (OLEG.vlan_en b) s then 0x81000000 + getF p (OLEG.pcp b) s * 2 ^ 13 + getF p (OLEG.vid b) s else 0
  let src := if v4 then getF (pgETH leg) ETH.IPV4_addr s
    else if portIpv6 leg s = 0 then linkLocal leg s else portIpv6 leg s
  [dmac, portMac leg s, tag, if v4 then 4 else 6, src, if v4 then d % 2 ^ 32 else d, getF p (OLEG.dscp b) s,
   getF p (OLEG.udp_src b) s, getF p (OLEG.udp_dst b) s]

/-- bytes of the frame that carries an RTP payload of `n` bytes on a leg: RTP, UDP, IP, Ethernet, tag and FCS. [PRESUMED log 46] -/
def legFrameBytes (p leg n : Nat) (s : State) : Nat :=
  n + 12 + 8 + (if legV4 p leg s then 20 else 40) + 18 + (if isF p (OLEG.vlan_en (legBase leg)) s then 4 else 0)

/-- A packet as it waits in a leg's queue, without its FCS (R356): its tag, the bytes of its frame, its addresses, marker, payload type,
sequence number, timestamp, SSRC, payload. -/
def legPacket (p leg tag : Nat) (rtp : List Nat) (payload : List Nat) (s : State) : StkPkt :=
  let n := legFrameBytes p leg payload.length s
  ⟨cellsFor (n - 4), none, [tag, n] ++ legHead p leg s ++ rtp ++ payload⟩

def StkPkt.tag (k : StkPkt) : Nat := k.data.headD 0

/-- bytes of the packet's frame. -/
def StkPkt.frame (k : StkPkt) : Nat := (k.data.drop 1).headD 0

/-- the flow number of a page's legs (R315). -/
def legFlow (p : Nat) : Nat := if p < Block.first .snd then p - Block.first .out else 32 + (p - Block.first .snd)

/-- the output queue of a leg. -/
def legQueue (p leg : Nat) : Nat :=
  if p < Block.first .snd then qOut leg (p - Block.first .out) else qSnd leg (p - Block.first .snd)

/-- the subport on which the packet at the head of a leg's queue leaves (R315): the one that carries its slice or picture; a flow moves
to the one that R315 gives with the first packet of the next. -/
def legSubport (p leg : Nat) (s : State) : Option Nat :=
  match (queueOf (legQueue p leg) s).pkts, SMap.find (legFlow p) (ethOf leg s).steer with
  | k :: _, some (t, sub) => if k.tag = t then sub else subportOf leg (legFlow p) s
  | _, _ => subportOf leg (legFlow p) s

/-- the subport is active: its link is up, and LACP has it in sync (R315). -/
def subportActive (i : Nat) (sub : Option Nat) (s : State) : Bool := sub.any (fun k => (activeSubports i s).contains k)

/-- the leg's frames are held by a received pause on their subport (R196, R321). -/
def legHeld (p leg : Nat) (s : State) : Bool :=
  match legSubport p leg s with
  | none => false
  | some k => prioHeld leg k (getF p (OLEG.pcp (legBase leg)) s) s

/-- the write side that fills a page's queues: the packetisers, the senders (R361). -/
def legSide (p : Nat) : Nat := if p < Block.first .snd then 2 else 3

/-- `n` packets of a leg are dropped (R196): counted, with EVENT bit 5 or 6 of OUT, 2 or 3 of SND. -/
def legDrops (p leg n : Nat) (s : State) : State :=
  if p < Block.first .snd then
    raise p (5 + leg) (addF p (if leg = 0 then OUT.C_leg_drop_a else OUT.C_leg_drop_b) n s)
  else raise p (2 + leg) (addF p (if leg = 0 then SND.LEG_DROP_A_packets else SND.LEG_DROP_B_packets) n s)

/-- A leg takes a packet (R190, R195, R196): into its queue, or, while it drops, nowhere; a leg that is off or whose port is down takes
none. -/
def legTakes (p leg tag : Nat) (dropping : Bool) (rtp payload : List Nat) (s : State) : State :=
  if !legUsable p (legBase leg) leg s then s
  else if dropping then legDrops p leg 1 s
  else writePkt (legSide p) (legQueue p leg) (legPacket p leg tag rtp payload s) s

/-- packets of the leg still wait for a cell (R361). -/
def legStalled (p leg : Nat) (s : State) : Bool :=
  (SMap.get [] (legSide p) s.stk.stalls).any (fun x => x.queue == legQueue p leg)

/-- A leg whose port is down stalls nothing (R196, R197): what waited for it goes to the other leg only, uncounted. -/
def legsDown (p : Nat) (s : State) : State :=
  [0, 1].foldl (fun s leg => if legUsable p (legBase leg) leg s then s else endStalls (legSide p) (legQueue p leg) s) s

/-- The head packet of a leg's queue leaves at `at_` ns: it goes out on its subport and is counted on the port and on the page. One
whose subport has gone down meanwhile is lost in that subport's MAC and counts as dropped (R315). [DEDUCED log 46] -/
def legSends (p leg at_ : Nat) (k : OutKind) (cnt : Fld) (s : State) : Option State :=
  let sub := legSubport p leg s
  (popPkt (legQueue p leg) s).map (fun r =>
    let s1 := modEth leg (fun x => { x with steer := SMap.put (legFlow p) (r.1.tag, sub) x.steer }) r.2
    if subportActive leg sub s then
      ethSent leg 1 r.1.frame (addF p cnt 1 (emit k p ([leg, sub.getD 0, at_] ++ r.1.data.drop 2) s1))
    else legDrops p leg 1 s1)

/-- time passes until PTP ns `t`, on the counter or as FAB carries it (R97). [DESIGN CHOICE log 4; DEDUCED log 41] -/
def reachNs (t : Nat) (s : State) : State := advanceToNs t s

end Sys2Proof.Machine
end

