-- ==== Sys2Proof/Machine/Sender.lean ====
section
/-! DEFINITION. Sys2Proof/Machine/Sender.lean: what a page gives to its readers (R87, R98, R217), and the uncompressed
senders (chapter 07, R223 to R226, R231, R232). -/

namespace Sys2Proof.Machine

/-! ## Sources -/

/-- the frame clock of an ING or DCH page: rate code of its ticks and phase (R87, R217). -/
def pageClock (pg : Nat) (s : State) : Nat × Int :=
  match blockOf pg with
  | some .dch => (dchRate (pg - Block.first .dch) s, dchPhase (pg - Block.first .dch) s)
  | _ => (ingRate (pg - Block.first .ing) s, ingPhase (pg - Block.first .ing) s)

/-- a source is read through a conditioning output (R98): the unit and output of a conditioned source number. -/
def cndUnit (n : Nat) : Nat := n / 16
def cndOut (n : Nat) : Nat := n % 16

/-- the page at the root of conditioned source `n`. -/
def cndRoot (n : Nat) (s : State) : Nat :=
  pathSource (cndUnit n) (getF (pgCND (cndUnit n)) (CND.OCTL_path (cndOut n)) s) s

/-! ## The sender's source -/

def sndOf (n : Nat) (s : State) : SndS := SMap.get SndS.reset n s.snd

def modSnd (n : Nat) (f : SndS → SndS) (s : State) : State := { s with snd := modAt SndS.reset n f s.snd }

def sndConditioned (n : Nat) (s : State) : Bool := isF (pgSND n) SND.SRC_src_kind s

def sndRoot (n : Nat) (s : State) : Nat :=
  if sndConditioned n s then cndRoot (getF (pgSND n) SND.SRC_src s) s else pgDCH (getF (pgSND n) SND.SRC_src s)

def sndAvailable (n : Nat) (s : State) : Bool :=
  let c := getF (pgSND n) SND.SRC_src s
  if sndConditioned n s then cndAvailable (cndUnit c) (cndOut c) s else act (pgDCH c) s == stRUNNING

/-- what a sender sends at a tick (R223): width, lines, chroma (0 4:2:0, 1 4:2:2, 2 4:4:4), bits of a sample. -/
structure SndFmt where
  width : Nat
  lines : Nat
  chroma : Nat
  bits : Nat
  deriving DecidableEq, Repr

/-- the source's format, of an interlaced source that of its fields (R96, R223). -/
def sndFormat (n : Nat) (s : State) : SndFmt :=
  let c := getF (pgSND n) SND.SRC_src s
  if sndConditioned n s then
    let pg := pgCND (cndUnit c)
    let m := cndOut c
    ⟨getF pg (CND.ODIM_width m) s, outLines (cndUnit c) m s, getF pg (CND.OCTL_chroma_out m) s, 8 + 2 * getF pg (CND.OCTL_depth_out m) s⟩
  else ⟨dchWidth c s, dchLines c s, samplingOf (getF (pgDCH c) DCH.FMT_sampling s), dchBits c s⟩

/-- bits of payload in a picture. -/
def pictureBits (f : SndFmt) : Nat := f.width * f.lines * f.bits * (match f.chroma with | 0 => 3 | 1 => 4 | _ => 6) / 2

/-- the sender's rate in bit/s (R225). -/
def sndRateBps (n : Nat) (s : State) : Nat :=
  let per := periodOf (pageClock (sndRoot n s) s).1
  let pm := getF (pgSND n) SND.PKT_payload_max s
  pictureBits (sndFormat n s) * per.2 * (pm + 110) / (per.1 * max 1 pm)

/-- the picture that its source fed at a tick, by rows. -/
def sndContent (n : Nat) (x : Feed) (s : State) : List (List Nat) :=
  let c := getF (pgSND n) SND.SRC_src s
  let f := sndFormat n s
  (List.range f.lines).map (fun l =>
    if sndConditioned n s then cndSamples (cndUnit c) (cndOut c) l x s
    else (List.range f.width).map (fun col => SMap.get x.dflt (l * 2 ^ 16 + col) x.pix))

/-- video-range black in the format sent (R226). -/
def sndBlack (n : Nat) (s : State) : List (List Nat) :=
  let f := sndFormat n s
  let k := 2 ^ (f.bits - 8)
  List.replicate f.lines (List.replicate f.width (packPx (16 * k) (128 * k) (128 * k)))

/-! ## Packets (R224) -/

/-- bytes and pixels of a pgroup, and how many lines it spans (ST 2110-20). [PRESUMED log 36] -/
def pgroup (f : SndFmt) : Nat × Nat × Nat :=
  match f.chroma, f.bits with
  | 1, 8 => (4, 2, 1) | 1, _ => (5, 2, 1) | 2, 8 => (3, 1, 1) | 2, _ => (15, 4, 1) | _, 8 => (6, 2, 2) | _, _ => (15, 4, 2)

/-- the samples of the pgroup at pixel `x` of line `l`, in the order sent. [PRESUMED log 36] -/
def pgroupSamples (f : SndFmt) (rows : List (List Nat)) (l x : Nat) : List Nat :=
  let px := fun (a b : Nat) => (rows.getD (min a (f.lines - 1)) []).getD (min b (f.width - 1)) 0
  let y := fun (a b : Nat) => px a b / 2 ^ 32
  let cb := fun (a b : Nat) => px a b / 2 ^ 16 % 2 ^ 16
  let cr := fun (a b : Nat) => px a b % 2 ^ 16
  match f.chroma with
  | 1 => [cb l x, y l x, cr l x, y l (x + 1)]
  | 2 => (List.range (pgroup f).2.1).flatMap (fun k => [cb l (x + k), y l (x + k), cr l (x + k)])
  | _ => (List.range ((pgroup f).2.1 / 2)).flatMap (fun k =>
      [y l (x + 2 * k), y l (x + 2 * k + 1), y (l + 1) (x + 2 * k), y (l + 1) (x + 2 * k + 1), cb l (x + 2 * k), cr l (x + 2 * k)])

/-- values of `bits` bits each, first to last, as bytes. -/
def packBits (bits : Nat) (l : List Nat) : List Nat :=
  (beBytes (bits * l.length / 8) (l.foldl (fun n v => n * 2 ^ bits + v % 2 ^ bits) 0)).map BitVec.toNat

/-- a sample row data segment: line, first pgroup, pgroups. -/
structure Segm where
  line : Nat
  unit : Nat
  count : Nat
  deriving DecidableEq, Repr

/-- the segments of a picture's packets: whole pgroups of `cap` at most, in one or two rows of `units` pgroups, `step` lines apart
(R224). -/
def packSegs (cap units step : Nat) : Nat → Nat → Nat → Nat → List (List Segm)
  | 0, _, _, _ => []
  | fuel + 1, line, off, left =>
    if left = 0 ∨ units = 0 then []
    else
      let a := min (max 1 cap) (units - off)
      let b := min (min (cap - a) units) (left - a)
      let two := off + a = units ∧ 0 < b
      let pkt := if two then [⟨line, off, a⟩, ⟨line + step, 0, b⟩] else [⟨line, off, a⟩]
      let next := if two then (line + step, b) else (line, off + a)
      let next := if next.2 = units then (next.1 + step, 0) else next
      pkt :: packSegs cap units step fuel next.1 next.2 (left - a - (if two then b else 0))

/-- the payload of a packet (R224): extended sequence number, segment headers, pgroups. [PRESUMED log 36] -/
def sndPayload (f : SndFmt) (second : Bool) (rows : List (List Nat)) (seq : Nat) (l : List Segm) : List Nat :=
  let g := pgroup f
  let n := l.length
  nats (beBytes 2 (seq / 2 ^ 16)) ++
  l.zipIdx.flatMap (fun e => nats (beBytes 2 (e.1.count * g.1)) ++ nats (beBytes 2 (second.toNat * 2 ^ 15 + e.1.line)) ++
    nats (beBytes 2 ((if e.2 + 1 < n then 2 ^ 15 else 0) + e.1.unit * g.2.1))) ++
  l.flatMap (fun e => (List.range e.count).flatMap (fun k =>
    packBits f.bits (pgroupSamples f rows e.line ((e.unit + k) * g.2.1))))

/-- The packets of the picture of a tick, the first leaving at `start` ns (R224): spaced as a type N sender spaces them, in the active
part of the period, or evenly over all of it (type NL). [PRESUMED log 36] -/
def sndPackets (n start ts : Nat) (second : Bool) (rows : List (List Nat)) (s : State) : List SndPkt :=
  let x := sndOf n s
  let f := sndFormat n s
  let g := pgroup f
  let units := (f.width + g.2.1 - 1) / g.2.1
  let total := units * (f.lines / g.2.2)
  let l := packSegs (getF (pgSND n) SND.PKT_payload_max s / g.1) units g.2.2 total 0 0 total
  let per := periodOf x.rate
  let at_ := fun k =>
    if isF (pgSND n) SND.TIMING_linear s then k * per.1 * 10 ^ 9 / (per.2 * l.length)
    else k * per.1 * 10 ^ 9 * 1080 / (per.2 * l.length * 1125)
  l.zipIdx.map (fun e =>
    ⟨start + at_ e.2, e.2 + 1 == l.length, (x.seq + e.2) % 2 ^ 32, ts, sndPayload f second rows ((x.seq + e.2) % 2 ^ 32) e.1⟩)

/-! ## Sending (R224, R226) -/

/-- the counters of a sender. -/
def sndCounters : List Fld :=
  [SND.PICS_pictures, SND.PKT_A_packets, SND.PKT_B_packets, SND.SUBST_pictures, SND.LEG_DROP_A_packets,
   SND.LEG_DROP_B_packets]

/-- the counter of a leg's packets. -/
def sndSentCount (leg : Nat) : Fld := if leg = 0 then SND.PKT_A_packets else SND.PKT_B_packets

/-- up to `fuel` packets that wait in a leg's queue leave at `at_` ns; a leg held by a received pause keeps them. -/
def sndDrain (n leg at_ : Nat) : Nat → State → State
  | 0, s => s
  | fuel + 1, s =>
    if legHeld (pgSND n) leg s || !legUsable (pgSND n) (legBase leg) leg s then s
    else match legSends (pgSND n) leg at_ .sender (sndSentCount leg) s with
      | some s1 => sndDrain n leg at_ fuel s1
      | none => s

/-- the next packet of the picture in progress is formed and goes to both legs (R195, R196, R224). -/
def sendNext (n : Nat) (s : State) : State :=
  let p := pgSND n
  let x := sndOf n s
  match x.todo with
  | [] => s
  | k :: rest =>
    let rtp := [k.marker.toNat, getF p SND.PKT_pt s, k.seq % 2 ^ 16, k.ts, getF p SND.SSRC_ssrc s]
    let one := fun (s : State) leg =>
      let s1 := legTakes p leg k.ts (x.dropping.contains leg) rtp k.payload s
      sndDrain n leg k.due (queueOf (qSnd leg n) s1).pkts.length s1
    [0, 1].foldl one (modSnd n (fun x => { x with todo := rest }) (legsDown p s))

/-- the picture in progress is sent to its end. -/
def sendRest (n : Nat) (s : State) : State := (List.range (sndOf n s).todo.length).foldl (fun s _ => sendNext n s) s

/-- POP of a sender's queue (R224, R362): the packet that waits there leaves; with none, the next one does, at its time. -/
def sndPop (n leg : Nat) (s : State) : State :=
  match (queueOf (qSnd leg n) s).pkts, (sndOf n s).todo with
  | [], k :: _ => sendNext n (reachNs k.due s)
  | _, _ => sndDrain n leg (fabNs s) 1 s

/-- what a newly taken STATE_CMD makes of the sender: RUNNING starts its sequence and its timeline (R224, R226), OFF loses
its counters. -/
def sndCommand (n : Nat) (s : State) : State :=
  let p := pgSND n
  let c := getF p HDR.CMD_state s
  if c = stRUNNING ∧ act p s ≠ stRUNNING ∧ act p s ≠ stFAULT then
    let ck := pageClock (sndRoot n s) s
    cndRefreshAll (setAct p stRUNNING 0 (setF p SND.ST_src_unavail 0 (modSnd n (fun _ =>
      ⟨getF p SND.SEQ_seq_init s, ck.1, ck.2, pageTick (sndRoot n s) s, none, [], []⟩) s)))
  else
    let s1 := plainCommand p s
    cndRefreshAll (if act p s1 = stOFF then clearFields p sndCounters { s1 with snd := SMap.drop n s1.snd } else s1)

/-- The sender's next tick and what its source feeds there, if the source is available (R226). Without it the sender counts on, on the
clock that it keeps, and not behind the present tick. -/
def sndNext (n : Nat) (s : State) : Option Feed × Nat :=
  let x := sndOf n s
  let m := pageTick (sndRoot n s) s
  match (if sndAvailable n s then feedOf (sndRoot n s) m s else none) with
  | some f => (some f, m)
  | none => (none, max (x.tick + 1) (tickIndex x.rate x.phase (fabNs s)))

/-- SENDER_TICK (R223, R224, R226): at t(n) + tro_ns of tick n the picture fed at it starts; without its source, the
unavailable policy's picture does. `late`: the read from the shelf is late, and it starts as soon as it can. -/
def senderTickOp (n : Nat) (late : Bool) (s : State) : State :=
  let p := pgSND n
  let r := sendRest n s
  let s0 := if pendingGen p r then takeWith p (sndCommand n) r else r
  if act p s0 ≠ stRUNNING then s0
  else
    let x := sndOf n s0
    let nx := sndNext n s0
    if nx.1.isSome ∧ nx.2 = x.tick ∧ x.last.isSome then s0
    else
      let ck := if nx.1.isSome then pageClock (sndRoot n s0) s0 else (x.rate, x.phase)
      let t := (tickTime ck.1 ck.2 nx.2 + ofTwos 32 (getF p SND.TRO_tro_ns s0)).toNat
      let u := reachNs t s0
      let s1 := if late then reachNs (fabNs u + 5) u else u
      let s2 := if nx.1.isSome then
          (if isF p SND.ST_src_unavail s1 then raise p 1 (setF p SND.ST_src_unavail 0 s1) else s1)
        else
          addF p SND.SUBST_pictures 1
            (if isF p SND.ST_src_unavail s1 then s1 else raise p 0 (setF p SND.ST_src_unavail 1 s1))
      let rows := match nx.1 with
        | some f => sndContent n f s2
        | none => match getF p SND.SRC_unavail_policy s2, x.last with
          | 0, some l => l
          | _, _ => sndBlack n s2
      let ts := (tickSteps ck.1 ck.2 90000 nx.2 + getF p SND.TS_OFFSET_offset s2) % 2 ^ 32
      let s3 := modSnd n (fun x => { x with rate := ck.1, phase := ck.2, tick := nx.2, last := some rows })
        (addF p SND.PICS_pictures 1 s2)
      let inter := (sourceFormat getF (sndRoot n s3) s3).interlaced
      let l := sndPackets n (if late then max t (fabNs s3) else t) ts (inter && nx.2 % 2 == 1) rows s3
      let s4 := sendNext n (modSnd n (fun x => { x with seq := (x.seq + l.length) % 2 ^ 32, todo := l }) s3)
      if nx.1.isSome ∧ !sndConditioned n s4 then doneReadingDch (getF p SND.SRC_src s4) p nx.2 s4 else s4

def execSenderTick (n : Fin 16) (s : State) : Host.Outcome State Fault Refusal := .next (senderTickOp n.val false s)

/-- LATE_START (R226): a picture whose shelf read was late starts as soon as it can, with EVENT bit 4. -/
def execLateStart (n : Fin 16) (s : State) : Host.Outcome State Fault Refusal :=
  .next (if act (pgSND n.val) s = stRUNNING then raise (pgSND n.val) 4 (senderTickOp n.val true s) else s)

/-! ## Commit checks (R224 to R226) -/

def sndFrozen : List Fld := [SND.SRC_src_kind, SND.SRC_src, SND.SRC_unavail_policy, SND.SSRC_ssrc, SND.SEQ_seq_init]

/-- the state as it would be with the page's shadows active: what a commit is checked against. -/
def shadowed (p : Nat) (s : State) : State := (rwcRows p).foldl (fun s f => setF p f (getSh p f s) s) s

/-- every page number of the page index (R71). -/
def allPages : List Nat := Block.all.flatMap (fun b => (List.range b.count).map (fun i => b.first + i))

/-- the state as it would be with every committed generation taken: what other pages' settings a commit is checked with. -/
def inView (s : State) : State :=
  (allPages.filter (fun p => pendingGen p s)).foldl (fun s p =>
    (rwcRows p).foldl (fun s f => setF p f (getCm p f s) s) s) s

/-- a sender is enabled: RUNNING or committed RUNNING. -/
def sndEnabled (n : Nat) (s : State) : Bool := act (pgSND n) s == stRUNNING || cmdOf (pgSND n) s == stRUNNING

/-- the senders that are `on` carry at most 166,000 Mbit/s together (R225). -/
def sendersFit (on : Nat → Bool) (v : State) : Bool :=
  decide ((((List.range 16).filter on).map (fun j => sndRateBps j v)).sum ≤ 166000000000)

def sndValid (n : Nat) (s : State) : Bool :=
  let p := pgSND n
  let v := shadowed p (inView s)
  let per := periodOf (pageClock (sndRoot n v) v).1
  decide ((ofTwos 32 (getSh p SND.TRO_tro_ns s)).natAbs * per.2 < per.1 * 10 ^ 9) &&
  (getSh p SND.SRC_src_kind s == 1 || decide (getSh p SND.SRC_src s < 16)) &&
  sendersFit (fun j => if j = n then willPlace p s else sndEnabled j s) v &&
  (act p s != stRUNNING || unchanged p sndFrozen s)

end Sys2Proof.Machine
end

