-- ==== Sys2Proof/Machine/Cores.lean ====
section
/-! DEFINITION. Sys2Proof/Machine/Cores.lean: the geometry and the row schedule of an encode channel, the cores that code
it, and the mapping of logical cores to physical ones (chapter 04, R111 to R130, R138, R512). -/

namespace Sys2Proof.Machine

/-! ## Typed parts -/

def echOf (c : Nat) (s : State) : EchS := SMap.get EchS.reset c s.ech
def modEch (c : Nat) (f : EchS → EchS) (s : State) : State := { s with ech := modAt EchS.reset c f s.ech }

def outOf (c : Nat) (s : State) : OutS := SMap.get OutS.reset c s.outs
def modOut (c : Nat) (f : OutS → OutS) (s : State) : State := { s with outs := modAt OutS.reset c f s.outs }

def muxOf (g : Nat) (s : State) : MuxS := SMap.get MuxS.reset g s.mux
def modMux (g : Nat) (f : MuxS → MuxS) (s : State) : State := { s with mux := modAt MuxS.reset g f s.mux }

/-! ## Geometry (R114, R116, R120) under the values `g` -/

/-- H of R125: coded lines of a picture, or of a field. -/
def codedLines (g : Nat → Fld → State → Nat) (c : Nat) (s : State) : Nat :=
  let h := g (pgECH c) ECH.DIM_height s
  if g (pgECH c) ECH.FMT_field s = 1 then h / 2 else h

/-- C of R125. -/
def ctuSize (g : Nat → Fld → State → Nat) (c : Nat) (s : State) : Nat :=
  if g (pgECH c) ECH.FMT_ctu128 s = 1 then 128 else 64

def rowCount (g : Nat → Fld → State → Nat) (c : Nat) (s : State) : Nat :=
  (codedLines g c s + ctuSize g c s - 1) / ctuSize g c s

/-- tile columns: n_cols of a dedicated channel, 1 of a shared one (R116, R117). -/
def colCount (g : Nat → Fld → State → Nat) (c : Nat) (s : State) : Nat :=
  if g (pgECH c) ECH.ALLOC_dedicated s = 1 then max 1 (g (pgECH c) ECH.ALLOC_n_cols s) else 1

def tileWidth (g : Nat → Fld → State → Nat) (c : Nat) (s : State) : Nat := g (pgECH c) ECH.DIM_width s / colCount g c s

/-- CTUs in a row of a tile column. -/
def sliceCtus (g : Nat → Fld → State → Nat) (c : Nat) (s : State) : Nat :=
  (tileWidth g c s + ctuSize g c s - 1) / ctuSize g c s

/-- lines(k) of R150: the lines above the end of row `k`; `k` counts from 1 here, so that lines(−1) is at 0. -/
def linesTo (g : Nat → Fld → State → Nat) (c k : Nat) (s : State) : Nat := min (k * ctuSize g c s) (codedLines g c s)

/-- the lines of row `k` alone. -/
def rowLines (g : Nat → Fld → State → Nat) (c k : Nat) (s : State) : Nat := linesTo g c (k + 1) s - linesTo g c k s

/-- the logical cores the channel is allocated (R116, R117). -/
def allocCores (g : Nat → Fld → State → Nat) (c : Nat) (s : State) : List Nat :=
  (List.range (colCount g c s)).map (fun k => g (pgECH c) ECH.ALLOC_core s + k)

/-! ## Sources (R98, R110, R119, R137) -/

/-- the page at the root of the channel's source. -/
def echRoot (g : Nat → Fld → State → Nat) (c : Nat) (s : State) : Nat :=
  let n := g (pgECH c) ECH.SRC_src s
  match g (pgECH c) ECH.SRC_src_kind s with
  | 0 => pgING n
  | 1 => cndRoot n s
  | _ => pgDCH n

/-- the source is available (R137): its page RUNNING, or its conditioning output with all it needs. -/
def echSourceUp (c : Nat) (s : State) : Bool :=
  let n := getF (pgECH c) ECH.SRC_src s
  match getF (pgECH c) ECH.SRC_src_kind s with
  | 1 => cndAvailable (cndUnit n) (cndOut n) s
  | _ => act (echRoot getF c s) s == stRUNNING

/-- a committed conditioning output gives a raster only with its path enabled (R147). -/
def echHasPeriod (g : Nat → Fld → State → Nat) (c : Nat) (s : State) : Bool :=
  let n := g (pgECH c) ECH.SRC_src s
  match g (pgECH c) ECH.SRC_src_kind s with
  | 1 => isF (pgCND (cndUnit n)) (CND.OCTL_en (cndOut n)) s &&
      isF (pgCND (cndUnit n)) (CND.PATH_en (getF (pgCND (cndUnit n)) (CND.OCTL_path (cndOut n)) s)) s
  | _ => true

/-! ## The row schedule (R125), PTP ns on the clock the channel keeps -/

/-- lines × period / H in ns, for `lines` lines from the tick. -/
def spanNs (c lines : Nat) (s : State) : Nat :=
  let per := periodOf (echOf c s).rate
  lines * per.1 * 10 ^ 9 / (per.2 * max 1 (codedLines getF c s))

/-- frame-plus adds a picture period (R129), as lines. -/
def plusLines (c : Nat) (s : State) : Nat := if isF (pgECH c) ECH.LAT_frame_plus s then codedLines getF c s else 0

def tickOf (c n : Nat) (s : State) : Int := tickTime (echOf c s).rate (echOf c s).phase n

def rowEndAt (c n k extra after : Nat) (s : State) : Nat :=
  (tickOf c n s + ((spanNs c (linesTo getF c (k + 1) s + plusLines c s + extra) s + after : Nat) : Int)).toNat

def recordNs (c n k : Nat) (s : State) : Nat := rowEndAt c n k 0 16000 s
/-- see the log: [DEDUCED log 41] -/
def releaseNs (c n k : Nat) (s : State) : Nat := rowEndAt c n k 0 20000 s
/-- see the log: [DEDUCED log 41] -/
def closeNs (c n k : Nat) (s : State) : Nat := rowEndAt c n k (ctuSize getF c s) 20000 s
/-- see the log: [DEDUCED log 41] -/
def departNs (c n k : Nat) (s : State) : Nat := rowEndAt c n k (ctuSize getF c s) 40000 s

/-! ## Logical and physical cores (R115, R138) -/

/-- the physical core that serves a logical core. -/
def physOf (l : Nat) (s : State) : Option Nat :=
  (List.range 17).find? (fun p => getF (pgENC p) ENC.ST_logical s == l)

/-- the spare core (R115): marked so and able to serve. -/
def spareOf (s : State) : Option Nat := (List.range 17).find? (fun p =>
  isF (pgENC p) ENC.ST_spare s && act (pgENC p) s == stIDLE)

/-- the channels on a logical core: those that are not IDLE, OFF, in FAULT or in reset. -/
def chansOn (l : Nat) (s : State) : List Nat :=
  (List.range 32).filter (fun c =>
    [stSTARTING, stRUNNING, stSTOPPING, stMUTED].contains (act (pgECH c) s) && (allocCores getF c s).contains l)

/-- the physical core that takes the next row of the channel's column `col`: a channel that has moved in a switch is with S. -/
def coreOf (c col : Nat) (s : State) : Option Nat :=
  let l := getF (pgECH c) ECH.ALLOC_core s + col
  if s.rot.phase = 3 ∧ s.rot.logical = l ∧ s.rot.moved.contains c then some s.rot.sp else physOf l s

/-- an ENC page reads RUNNING while its logical core carries a RUNNING channel, and IDLE otherwise (R145). -/
def encRefresh (p : Nat) (s : State) : State :=
  let pg := pgENC p
  let l := getF pg ENC.ST_logical s
  let busy := decide (l < 16) && (chansOn l s).any (fun c => act (pgECH c) s == stRUNNING)
  followWork pg busy (unitState 0 p s == 1) s

/-- RCL reads RUNNING while any channel is (R176); leaving RESET it takes a generation committed there (R69). -/
def rclRefresh (s : State) : State :=
  let busy := (List.range 32).any (fun c => act (pgECH c) s == stRUNNING)
  let s1 := setAct pgRCL (if busy then stRUNNING else stIDLE) 0 s
  if act pgRCL s = stRESET then takeGen pgRCL s1 else s1

/-- what a channel's change of state does to the pages that follow it. -/
def echRefresh (s : State) : State :=
  cndRefreshAll (rclRefresh ((List.range 17).foldl (fun s p => encRefresh p s) s))

/-! ## The work of a core (R118, R127) -/

def coreSt (q : Nat) (s : State) : CoreS := SMap.get CoreS.reset q s.cores
def modCore (q : Nat) (f : CoreS → CoreS) (s : State) : State := { s with cores := modAt CoreS.reset q f s.cores }

/-- cycles of a CTU of luma area `a` (R118). -/
def ctuCycles (a : Nat) : Nat := (a * 5904 + 4095) / 4096

/-- the cycles of the CTUs of row `k` in a tile column, left to right. -/
def rowJob (c k : Nat) (s : State) : List Nat :=
  let z := ctuSize getF c s
  let h := rowLines getF c k s
  let w := tileWidth getF c s
  (List.range (sliceCtus getF c s)).map (fun i => ctuCycles (min z (w - i * z) * h))

/-- the released job whose window closes first, ties to the lower channel (R127). -/
def pickJob (now : Nat) (l : List Job) : Option Job :=
  (l.filter (fun j => decide (j.release ≤ now))).foldl (fun b j => match b with
    | none => some j
    | some i => if j.close < i.close ∨ (j.close = i.close ∧ j.ch < i.ch) then some j else some i) none

def Job.same (a b : Job) : Bool := a.ch == b.ch && a.pic == b.pic && a.row == b.row

/-- A core works until the job of channel `ch`, picture `n`, row `k` is done (R127): at each CTU boundary it picks a job
and codes one CTU, a cycle being two thirds of a ns. -/
def runCore (ch n k : Nat) : Nat → CoreS → CoreS
  | 0, c => c
  | fuel + 1, c =>
    if c.jobs.any (fun j => j.ch == ch && j.pic == n && j.row == k) then
      match pickJob c.now c.jobs with
      | none => runCore ch n k fuel { c with now := c.jobs.foldl (fun t j => min t j.release) (c.now + 2 ^ 64) }
      | some j =>
        match j.ctus with
        | [] => runCore ch n k fuel { c with jobs := c.jobs.filter (fun i => !i.same j) }
        | t :: rest =>
          runCore ch n k fuel
            { now := c.now + 2 * t,
              jobs := if rest.isEmpty then c.jobs.filter (fun i => !i.same j)
                else c.jobs.map (fun i => if i.same j then { i with ctus := rest } else i) }
    else c

/-- steps that finish every job of the core. -/
def coreFuel (c : CoreS) : Nat := 2 * (c.jobs.foldl (fun n j => n + j.ctus.length + 2) 2)

/-- `cycles` of stall lengthen a job. -/
def stallJob (ch n k cycles : Nat) (c : CoreS) : CoreS :=
  { c with jobs := c.jobs.map (fun j =>
      if j.ch = ch ∧ j.pic = n ∧ j.row = k then
        { j with ctus := match j.ctus with | [] => [cycles] | t :: r => (t + cycles) :: r } else j) }

/-- physical core `q` codes its slice of the row: it works, and time passes, until it is done (R118, R127). -/
def finishJob (ch q n k stall : Nat) (s : State) : State :=
  let c := stallJob ch n k stall (coreSt q s)
  let d := runCore ch n k (coreFuel c) c
  let s1 := modCore q (fun _ => d) s
  if c.jobs.any (fun j => j.ch == ch && j.pic == n && j.row == k) then reachNs ((d.now + 2) / 3) s1 else s1

/-- the work that physical core `a` still has goes to core `b`. -/
def moveJobs (a b : Nat) (s : State) : State :=
  modCore b (fun x => { x with now := max x.now (coreSt a s).now, jobs := x.jobs ++ (coreSt a s).jobs })
    (modCore a (fun x => { x with jobs := [] }) s)

/-! ## Placement (R512, R116 to R118, R155) -/

/-- an encode channel is placed (R512). -/
def echPlaced (c : Nat) (s : State) : Bool :=
  cmdOf (pgECH c) s == stRUNNING || [stSTARTING, stRUNNING, stSTOPPING, stMUTED].contains (act (pgECH c) s)

/-- the period of the channel's source as committed, numerator and denominator. -/
def echPeriod (g : Nat → Fld → State → Nat) (c : Nat) (s : State) : Nat × Nat :=
  periodOf (pageClock (echRoot g c s) s).1

/-- pixel/s of one tile column, rounded up. -/
def colRate (g : Nat → Fld → State → Nat) (c : Nat) (s : State) : Nat :=
  let per := echPeriod g c s
  let px := g (pgECH c) ECH.DIM_width s * codedLines g c s * per.2
  let d := per.1 * colCount g c s
  (px + d - 1) / d

/-- Σ pixel rate over a core's channels ≤ 1,040 Mpixel/s × (1 − 16 µs / T_min) (R117): against each channel's T. -/
def sharedFits (rates : Nat) (c : Nat) (g : Nat → Fld → State → Nat) (s : State) : Bool :=
  let per := echPeriod g c s
  -- T = per.1 × C / (per.2 × H) seconds
  let tn := per.1 * ctuSize g c s * 10 ^ 6
  let td := per.2 * codedLines g c s
  decide (rates * tn + 1040000000 * 16 * td ≤ 1040000000 * tn)

/-- the limits of R116 and R117 over the placed channels `ch`, `g i` giving channel i's values. -/
def coresFit (g : Nat → Nat → Fld → State → Nat) (ch : List Nat) (s : State) : Bool :=
  (List.range 16).all (fun l =>
    let here := ch.filter (fun c => (allocCores (g c) c s).contains l)
    let ded := here.filter (fun c => g c (pgECH c) ECH.ALLOC_dedicated s == 1)
    let sum := (here.map (fun c => colRate (g c) c s)).sum
    if ded.isEmpty then
      decide (here.length ≤ 8) && here.all (fun c => sharedFits sum c (g c) s)
    else here.length == 1 && decide (sum ≤ 1040000000)) &&
  ch.all (fun c => (allocCores (g c) c s).all (fun l => decide (l < 16) && (physOf l s).isSome) &&
    (g c (pgECH c) ECH.ALLOC_dedicated s != 1 || colCount (g c) c s == 1 ||
      (g c (pgECH c) ECH.DIM_width s % colCount (g c) c s == 0 && tileWidth (g c) c s % ctuSize (g c) c s == 0)))

/-- ENC.LOAD of a physical core: the load of the placed channels in Mpixel/s, and its utilisation in parts per thousand
(R118). -/
def encLoad (p : Nat) (s : State) : Nat × Nat :=
  let l := getF (pgENC p) ENC.ST_logical s
  let here := (List.range 32).filter (fun c => echPlaced c s && decide (l < 16) && (allocCores getCm c s).contains l)
  let sum := (here.map (fun c => colRate getCm c s)).sum
  (sum / 1000000, sum * 5904 / (4096 * 1500000))

end Sys2Proof.Machine
end

