-- ==== Sys2Proof/Machine/Coding.lean ====
section
/-! DEFINITION. Sys2Proof/Machine/Coding.lean: how an encode channel codes its rows: tools, search, signalling, source lines, reference
pictures, floor coding, and a slice's way to its bytes within its budget (R113, R120 to R124, R131, R135, R137, R152, R157, R158,
R187). -/

namespace Sys2Proof.Machine

/-! ## Tools and search (R113, R135) -/

/-- the tools a codec uses (R113). -/
def toolSet (vvc : Bool) : List Tool :=
  if vvc then
    [.quadtree, .binaryTernary, .angular65, .planar, .dc, .cclm, .merge, .mmvd, .amvp, .amvr, .affine4, .dct64, .lfnst, .deblocking,
     .sao, .alf]
  else [.quadtree, .angular33, .planar, .dc, .merge, .amvp, .dct32, .dst7, .deblocking, .sao]

/-- what an effort level searches (R135). -/
def searchOf (vvc : Bool) (effort : Nat) : Search :=
  match effort with
  | 3 => ⟨256, 64, if vvc then 3 else 0, 6, vvc⟩
  | 2 => ⟨128, 48, if vvc then 2 else 0, 4, false⟩
  | 1 => ⟨64, 32, if vvc then 1 else 0, 2, false⟩
  | _ => ⟨32, 16, 0, 1, false⟩

/-- the maximum QP of a codec (R152). -/
def maxQp (vvc : Bool) : Nat := if vvc then 63 else 51

/-- what the channel signals (R111 to R113, R120, R122, R123, R159). -/
def signalOf (c : Nat) (s : State) : Signal :=
  let p := pgECH c
  let vvc := isF p ECH.FMT_codec s
  let c422 := getF p ECH.FMT_chroma s == 1
  let cols := colCount getF c s
  let gdr := getF p ECH.REFRESH_method s != 0 && getF p ECH.REFRESH_period s != 0
  let rate := getF p ECH.RC_RATE_rate_kbps s
  { vvc := vvc, profile := if !c422 then 0 else if vvc then 1 else 2, highTier := isF p ECH.FMT_tier s,
    level := getF p ECH.FMT_level_idc s, chroma422 := c422, ten := isF p ECH.FMT_depth10 s,
    width := getF p ECH.DIM_width s, height := codedLines getF c s, ctu := ctuSize getF c s, field := isF p ECH.FMT_field s,
    tools := toolSet vvc, rectSlices := vvc, tiles := vvc || decide (1 < cols), tileRows := 1, tileCols := cols,
    uniformSpacing := true, sliceRows := 1, loopAcrossTiles := false, loopAcrossSlices := true, shelf := getF p ECH.PRED_shelf s,
    refs := getF p ECH.PRED_active_refs s, recoveryPocCnt := if gdr then some (getF p ECH.REFRESH_period s - 1) else none,
    vui := [getF p ECH.VUI_primaries s, getF p ECH.VUI_transfer s, getF p ECH.VUI_matrix s],
    nalHrd := true, vclHrd := false, bitRate := rate * 1000, cpbBits := getF p ECH.RC_CPB_cpb_tokens s * 8,
    cbr := isF p ECH.RC_MODE_cbr s,
    removalDelay := getF p ECH.RC_INIT_init_tokens s * 8 * 90000 / max 1 (rate * 1000) }

/-! ## Source samples (R98, R129, R131, R137, R186) -/

/-- the row of tick `n` that stands in the output buffer of the channel's conditioned source. -/
def sourceRow (c n row : Nat) (s : State) : Option (List Nat) :=
  let src := getF (pgECH c) ECH.SRC_src s
  bufferedRow (isF (pgECH c) ECH.LAT_frame_plus s) (cndUnit src) (cndOut src) n row s

/-- the samples of line `l` of what the channel's source fed at tick `n`: of a conditioning output as it stands in its buffer, or as its
stages give it (R101). -/
def sourceLine (c n l : Nat) (f : Feed) (s : State) : List Nat :=
  let src := getF (pgECH c) ECH.SRC_src s
  if getF (pgECH c) ECH.SRC_src_kind s = 1 then
    match sourceRow c n l s with
    | some r => r
    | none => cndSamples (cndUnit src) (cndOut src) l f s
  else (List.range (getF (pgECH c) ECH.DIM_width s)).map (fun x => SMap.get f.dflt (l * 2 ^ 16 + x) f.pix)

/-- video-range black in the coded format (R137). -/
def codedBlack (c : Nat) (s : State) : Nat :=
  let k := if isF (pgECH c) ECH.FMT_depth10 s then 4 else 1
  packPx (16 * k) (128 * k) (128 * k)

/-- the samples of CTU row `k`, column range `x0` to `x0 + w − 1`, of tick `n`: black under feed 5 and with nothing fed (R137). -/
def rowSamples (c n k feed x0 w : Nat) (s : State) : List Nat :=
  let lines := (List.range (rowLines getF c k s)).map (fun j => linesTo getF c k s + j)
  let black := List.replicate w (codedBlack c s)
  match (if feed ≤ 3 then feedOf (echRoot getF c s) n s else none) with
  | none => lines.flatMap (fun _ => black)
  | some f => lines.flatMap (fun l => ((sourceLine c n l f s).drop x0).take w)

/-- The source rows of CTU row `k` of tick `n` are still held (R186): in the ring or on the shelf of a direct source, in the output
buffer of a conditioned one. -/
def sourceHeld (c n k : Nat) (s : State) : Bool :=
  let root := echRoot getF c s
  if getF (pgECH c) ECH.SRC_src_kind s = 1 then
    (List.range (rowLines getF c k s)).all (fun j => (sourceRow c n (linesTo getF c k s + j) s).isSome)
  else match blockOf root with
    | some .dch =>
      let x := dchOf (root - Block.first .dch) s
      (x.hist.find? (fun e => e.n == n)).any (fun e => e.kind == 2 || (e.key.bind (fun u => picOf u x)).isSome)
    | _ =>
      let x := ingOf (root - Block.first .ing) s
      (tickAt n x).any (fun e => 2 ≤ e.kind || (e.key.bind (fun q => slotOf q x)).isSome)

/-! ## Reference pictures (R122, R187) -/

/-- the picture of the channel being coded or on its shelf. -/
def refPic (c n : Nat) (s : State) : Option RefPic :=
  ((echOf c s).coding ++ (echOf c s).shelf).find? (fun r => r.pic == n)

def modRefPic (c n : Nat) (f : RefPic → RefPic) (s : State) : State :=
  let g := fun r : RefPic => if r.pic = n then f r else r
  modEch c (fun x => { x with coding := x.coding.map g, shelf := x.shelf.map g }) s

/-- the stored reference: what a decoder reconstructs, after deblocking, SAO and ALF over slice edges and not over tile edges (R120,
R187). -/
def refSamples (g : Signal) (r : RefPic) : SMap Nat := Config.loopFilter g r.raw r.ctus

/-- the numbers of the active references of picture `n` (R122): the most recent pictures since the last IDR, at most `refs`. -/
def activeRefs (c n refs : Nat) (s : State) : List Nat :=
  let last := (echOf c s).lastIdr
  ((List.range (min refs (getF (pgECH c) ECH.PRED_shelf s))).map (fun j => n - 1 - j)).filter
    (fun m => decide (m < n) && decide (last ≤ m) && (refPic c m s).isSome)

/-! ## What a CTU may be (R113, R121, R123, R135) -/

/-- the limits of a CTU's blocks: what is signalled, the search, lists for each block (1 for P, 2 for B), the active references, of each
the first column that is not refreshed (none: no constraint), and the picture's own. -/
structure Limits where
  signal : Signal
  search : Search
  lists : Nat
  refs : Nat
  clean : Option (List Nat × Nat)
  deriving DecidableEq, Repr

def clampInt (lo hi v : Int) : Int := max lo (min hi v)

/-- A motion vector within the search range and the picture (R121, R135), and in the refreshed region within that of its reference
(R123), where one without room there becomes zero motion on reference 0. -/
def admitMotion (m : Limits) (b : CodBlock) (v : Motion) : Motion :=
  let ref := min v.ref (m.refs - 1)
  let right : Nat := match m.clean with
    | some (l, own) => if b.x + b.w ≤ own then l.getD ref 0 else m.signal.width
    | none => m.signal.width
  if right < b.x + b.w ∧ right < m.signal.width then ⟨0, 0, 0⟩
  else
    ⟨ref, clampInt (-4 * (min m.search.mvX b.x : Nat)) (4 * (min m.search.mvX (right - b.x - b.w) : Nat)) v.dx,
     clampInt (-4 * (min m.search.mvY b.y : Nat)) (4 * (min m.search.mvY (m.signal.height - b.y - b.h) : Nat)) v.dy⟩

/-- a block as R113, R121, R123 and R135 allow it. -/
def admitBlock (m : Limits) (intra : Bool) (b : CodBlock) : CodBlock :=
  let inter := !intra && b.intra.isNone
  let modes := if m.signal.vvc then 67 else 35
  { b with
    depth := min b.depth m.search.depth
    intra := if inter then none else some (b.intra.getD 1 % modes)
    motion := if inter then ((b.motion ++ ([⟨0, 0, 0⟩] : List Motion)).take (max 1 (min m.lists b.motion.length))).map (admitMotion m b) else []
    affine := inter && b.affine && m.search.affine
    tools := b.tools.filter m.signal.tools.contains }

/-- a floor CTU (R152): zero-motion skip, or DC intra. -/
def floorBlock (i : CtuIn) (residual : Bool) : CodBlock :=
  if i.intra then ⟨i.x, i.y, i.w, i.h, 0, some 1, [], false, residual, [.dc]⟩
  else ⟨i.x, i.y, i.w, i.h, 0, none, [⟨0, 0, 0⟩], false, false, [.merge]⟩

/-- the samples of a CTU: a zero-motion skip copies the co-sited samples of reference 0. -/
def ctuPixels (i : CtuIn) (skip : Bool) (l : List CodBlock) : List (Nat × Nat) :=
  let keys := (List.range i.h).flatMap (fun y => (List.range i.w).map (fun x => (i.y + y) * 2 ^ 16 + i.x + x))
  if skip && !i.intra then keys.map (fun k => (k, SMap.get 0 k (i.refs.headD [])))
  else keys.zip (Config.ctuSamples i l)

/-! ## A slice (R152, R153, R157, R158) -/

/-- tokens of a slice whose CTUs take `bits` bits: 40, the bits, and what emulation prevention may add (R153). -/
def sliceTokens (bits : Nat) : Nat :=
  let dd := (bits + 7) / 8
  40 + dd + dd / 2

/-- the floor bits of a CTU (R152). -/
def floorBits (intra : Bool) : Nat := if intra then 512 else 48

/-- how a slice is coded: as the search chooses (0), frozen (1, R137), as a floor slice (2, R140, R183, R186), as a floor slice without
residual (3, R186). -/
structure SliceIn where
  how : Nat
  qp : Nat
  maxQp : Nat
  budget : Nat
  limits : Limits
  ctus : List CtuIn
  deriving DecidableEq, Repr

/-- a coded slice: QP and blocks of its CTUs, their bits, its samples, whether every CTU is a floor CTU, the highest QP. -/
structure SliceCode where
  ctus : List (Nat × List CodBlock)
  bits : Nat
  pix : List (Nat × Nat)
  floor : Bool
  top : Nat
  deriving DecidableEq, Repr

def SliceCode.empty : SliceCode := ⟨[], 0, [], true, 0⟩

/-- the lowest QP from `qp` on at which the next CTU cannot exceed what is left, or none (R157). -/
def fittingQp (i : CtuIn) (left : Nat) : Nat → Nat → Option Nat
  | 0, _ => none
  | fuel + 1, qp => if Config.ctuWorst { i with qp := qp } ≤ left then some qp else fittingQp i left fuel (qp + 1)

/-- the bits by which a slice of `bits` may still grow within `budget` tokens. -/
def bitsLeft (budget : Nat) : Nat := 8 * ((2 * (budget - 40) + 1) / 3)

/-- The CTUs of a slice one after the other (R157): before each, the bits so far and the floor bits of the rest are held against the
budget; the QP rises, and past the codec's maximum the rest are floor CTUs. -/
def codeCtus (z : SliceIn) : List CtuIn → Nat → SliceCode → SliceCode
  | [], _, a => a
  | i :: rest, qp, a =>
    let later := (rest.map (fun j => floorBits j.intra)).sum
    let j := { i with qp := qp, before := a.ctus }
    let put := fun (q : Nat) (fl skip : Bool) (bits : Nat) (l : List CodBlock) (a : SliceCode) =>
      { a with ctus := a.ctus ++ [(q, l)], bits := a.bits + bits, pix := a.pix ++ ctuPixels { j with qp := q } skip l,
               floor := a.floor && fl, top := max a.top q }
    let floorOne := fun (res fl : Bool) (q : Nat) =>
      let l := [floorBlock j res]
      put q fl true (min (floorBits j.intra) (Config.ctuBits { j with qp := q } l)) l a
    if z.how = 1 then codeCtus z rest qp (floorOne true false (if j.intra then z.maxQp else qp))
    else if 2 ≤ z.how then codeCtus z rest qp (floorOne (z.how == 2) true (if j.intra then z.maxQp else qp))
    else if z.maxQp < qp then codeCtus z rest qp (floorOne true true z.maxQp)
    else match fittingQp j (bitsLeft z.budget - a.bits - later) (z.maxQp + 1 - qp) qp with
      | none => codeCtus z rest (z.maxQp + 1) (floorOne true true z.maxQp)
      | some q =>
        let k := { j with qp := q }
        let l := (Config.searchCtu k).map (admitBlock z.limits k.intra)
        codeCtus z rest q (put q false false (min (Config.ctuWorst k) (Config.ctuBits k l)) l a)

/-- the slice's NAL unit, whose bytes the bits bound (R153). -/
def codedNal (z : SliceIn) (n k col kind : Nat) (a : SliceCode) : List Byte :=
  (Config.sliceNal z.limits.signal n k col kind a.ctus).take (sliceTokens a.bits)

/-! ## A row's slices (R120, R140, R149, R152 to R154, R157) -/

/-- width of a refresh column in CTUs (R123). -/
def refreshWidth (g : Nat → Fld → State → Nat) (c : Nat) (s : State) : Nat :=
  let per := max 1 (g (pgECH c) ECH.REFRESH_period s)
  (sliceCtus g c s * colCount g c s + per - 1) / per

/-- CTU `j` of the row's tile column `col` is an intra CTU of its picture (R123, R152). -/
def ctuIntra (c col j : Nat) (r : EchRow) (s : State) : Bool :=
  let x := col * sliceCtus getF c s + j
  let w := refreshWidth getF c s
  r.idr || (match r.refresh with | some i => decide (i * w ≤ x) && decide (x < i * w + w) | none => false)

/-- of each active reference the luma column up to which it is refreshed in this cycle, and the picture's own (R123). -/
def cleanColumns (c : Nat) (r : EchRow) (s : State) : Option (List Nat × Nat) :=
  r.refresh.map (fun i =>
    let w := refreshWidth getF c s * ctuSize getF c s
    ((activeRefs c r.pic r.refs s).map (fun m => if r.pic - m ≤ i then (i + 1 - (r.pic - m)) * w else 0), i * w))

/-- the slice type: 0 I, 1 P, 2 B (R122). -/
def EchRow.sliceKind (r : EchRow) : Nat := if r.idr then 0 else r.kind

/-- the CTUs of the row's tile column `col`, left to right; `fi` all intra (R140, R186). -/
def ctuIns (c col : Nat) (fi : Bool) (r : EchRow) (s : State) : List CtuIn :=
  let g := signalOf c s
  let z := ctuSize getF c s
  let tw := tileWidth getF c s
  let refs := (activeRefs c r.pic r.refs s).filterMap (fun m => (refPic c m s).map (refSamples g))
  (List.range (sliceCtus getF c s)).map (fun j =>
    let x := col * tw + j * z
    let w := min z (tw - j * z)
    { signal := g, search := searchOf g.vvc r.effort, firmware := getF pgFWL FWL.IMAGE_version s, stepping := Config.stepping,
      kind := r.sliceKind, intra := fi || ctuIntra c col j r s, qp := r.qp, x := x, y := linesTo getF c r.row s, w := w,
      h := rowLines getF c r.row s, source := rowSamples c r.pic r.row r.feed x w s, refs := refs, before := [] })

/-- the floor bound of the row's slice in column `col` (R153). -/
def sliceFloor (c col : Nat) (r : EchRow) (s : State) : Nat :=
  sliceTokens (((List.range (sliceCtus getF c s)).map (fun j => floorBits (ctuIntra c col j r s))).sum)

/-- what a slice is coded from. -/
def sliceInOf (c col how budget : Nat) (fi : Bool) (r : EchRow) (s : State) : SliceIn :=
  let g := signalOf c s
  { how := how, qp := r.qp, maxQp := maxQp g.vvc, budget := budget,
    limits := ⟨g, searchOf g.vvc r.effort, r.sliceKind, (activeRefs c r.pic r.refs s).length, cleanColumns c r s⟩,
    ctus := ctuIns c col fi r s }

/-- emulation prevention: 0x03 after two zero bytes before a byte of at most 3. -/
def emulate : Nat → List Nat → List Nat
  | _, [] => []
  | z, b :: l =>
    if 2 ≤ z ∧ b ≤ 3 then 3 :: b :: emulate (if b = 0 then 1 else 0) l else b :: emulate (if b = 0 then z + 1 else 0) l

/-- The caption SEI of picture `n` (R194): what the caption packets of its ST 2110-40 flow bring, carried ones included, as one
user_data_registered_itu_t_t35 message of at most 256 bytes. [PRESUMED log 46] -/
def captionSei (c n : Nat) (s : State) : List (List Byte) :=
  let root := echRoot getF c s
  if !isF (pgOUT c) OUT.CC_sei_en s || decide (Block.first .dch ≤ root) then []
  else
    let data := ((tickAncs (root - Block.first .ing) n s).filter isCaption).flatMap (fun a => a.words.map (· % 256))
    if data.isEmpty then []
    else
      let body := ([0xB5, 0x00, 0x31, 0x47, 0x41, 0x39, 0x34, 0x03] ++ data).take 254
      let head := if isF (pgECH c) ECH.FMT_codec s then [0x00, 0xB9] else [0x4E, 0x01]
      [(head ++ emulate 0 ([4, body.length] ++ body ++ [0x80])).map (BitVec.ofNat 8)]

/-- The NAL units ahead of a picture's first slice (R149, R159, R194): delimiter, at a join point parameter sets and buffering period,
picture timing, at a cycle's first picture of method 2 the recovery point, captions. [DEDUCED log 43] -/
def headNals (c : Nat) (r : EchRow) (s : State) : List (List Byte) :=
  let g := signalOf c s
  let cycle := r.refresh == some 0
  ([HeadNal.aud g.vvc r.join] ++ (if r.join then (if g.vvc then [1, 2] else [0, 1, 2]).map (HeadNal.sets g) else []) ++
   (if g.vvc then [HeadNal.pictureHeader g r.pic cycle] else []) ++ (if r.join then [HeadNal.bufferingPeriod g g.removalDelay] else []) ++
   [HeadNal.picTiming g r.pic] ++ (if !g.vvc && cycle then [HeadNal.recoveryPoint g (g.recoveryPocCnt.getD 0)] else [])).map Config.headNal ++
  captionSei c r.pic s

/-- a coded slice with its NAL units and charge. -/
structure SliceOf where
  code : SliceCode
  nals : List (List Byte)
  charge : Nat
  deriving DecidableEq, Repr

/-- how the row's column is coded: frozen under feed 4, as a floor slice after a core fault (R137, R140). -/
def EchRow.how (r : EchRow) (col : Nat) : Nat := if r.forced.contains col then 2 else if r.feed = 4 then 1 else 0

/-- The slice of column `col`, `before` being the tokens of the columns left of it (R157): the floor bounds of the columns to its right
are left for them, and the NAL units ahead of the first slice are charged with it (R149); after a core fault the slice is charged its
part of f(k) (R173). -/
def codeColumn (c col before : Nat) (r : EchRow) (s : State) : SliceOf :=
  let later := ((List.range (colCount getF c s)).filter (fun t => decide (col < t))).map (fun t =>
    match SMap.find t r.charges with | some v => v | none => sliceFloor c t r s)
  let heads := if r.row = 0 ∧ col = 0 then headNals c r s else []
  let room := r.budget - before - later.sum
  let forced := r.forced.contains col
  let z := sliceInOf c col (r.how col) (room - (heads.map List.length).sum) forced r s
  let a := codeCtus z z.ctus z.qp SliceCode.empty
  let nals := heads ++ [codedNal z r.pic r.row col r.sliceKind a]
  let floor := sliceFloor c col r s
  let head := if r.row = 0 ∧ col = 0 then (if r.join then 1024 else 256) else 0
  ⟨a, nals, min room (if forced then floor + head else max (nals.map List.length).sum floor)⟩

/-- The slice of column `col` in the row's budget (R156, R157): the columns take their part from left to right, whichever closes
first. -/
def codeSlice (c col : Nat) (r : EchRow) (s : State) : SliceOf :=
  codeColumn c col ((List.range col).foldl (fun n t =>
    n + (match SMap.find t r.charges with | some v => v | none => (codeColumn c t n r s).charge)) 0) r s

/-- the slice's CTUs enter the picture being coded. -/
def storeCtus (c col : Nat) (r : EchRow) (a : SliceCode) (s : State) : State :=
  let base := r.row * 2 ^ 16 + col * sliceCtus getF c s
  modRefPic c r.pic (fun q => { q with
    raw := a.pix.foldl (fun m e => SMap.put e.1 e.2 m) q.raw
    ctus := a.ctus.zipIdx.foldl (fun m e => SMap.put (base + e.2) e.1 m) q.ctus }) s

/-- CRC-32C of the final samples of a picture's tile column, line by line, each component in two bytes (R258). -/
def columnCheck (c n col : Nat) (s : State) : Nat :=
  match refPic c n s with
  | none => 0
  | some q =>
    let m := refSamples (signalOf c s) q
    let tw := tileWidth getF c s
    crc crc32c ((List.range (codedLines getF c s)).flatMap (fun y => (List.range tw).flatMap (fun x =>
      beBytes 6 (SMap.get 0 (y * 2 ^ 16 + col * tw + x) m))))

end Sys2Proof.Machine
end

