-- ==== Sys2Proof/Machine/LaneBase.lean ====
section
/-! DEFINITION. Sys2Proof/Machine/LaneBase.lean: lanes, their owners and pins, and what an owner's command does to them
(chapter 10, R292, R299, R302, R305, R306, R308). -/

namespace Sys2Proof.Machine

/-- the page that owns lane `l` (R292). -/
def laneOwner (l : Nat) : Nat :=
  if l < 16 then pgETH (l / 8) else if l < 32 then pgIZL ((l - 16) / 4) else pgETH 2

/-- the lane's place in its owner (R292). -/
def laneIn (l : Nat) : Nat := if l < 16 then l % 8 else if l < 32 then l % 4 else 0

/-- the lanes of an owner. -/
def lanesOf (p : Nat) : List Nat := (List.range 33).filter (fun l => laneOwner l == p)

def laneOf (l : Nat) (s : State) : LneS := SMap.get LneS.reset l s.lne

def modLane (l : Nat) (f : LneS → LneS) (s : State) : State := { s with lne := modAt LneS.reset l f s.lne }

/-- the lane's PLL has its reference (R293, R304): REFCLK_PORT, or for lane 32 either TIMEREF or REFCLK_PORT. -/
def laneHasRef (l : Nat) (s : State) : Bool := isF (pgLNE l) LNE.ST_refclk_ok s || (l == 32 && timSt s != 4)

/-- the lane has passed its trained check (R310). -/
def laneTrained (l : Nat) (s : State) : Bool := isF (pgLNE l) LNE.ST_trained s

/-- the applied TX FIR taps, in order c(−3) to c(1). -/
def firApplied : List Fld := [LNE.TXFIR_cm3, LNE.TXFIR_cm2, LNE.TXFIR_cm1, LNE.TXFIR_c0, LNE.TXFIR_c1]
def firPinned : List Fld :=
  [LNE.TXFIR_PIN_cm3, LNE.TXFIR_PIN_cm2, LNE.TXFIR_PIN_cm1, LNE.TXFIR_PIN_c0, LNE.TXFIR_PIN_c1]

/-- each field of `l` takes the value beside it. -/
def setAll (p : Nat) (l : List (Fld × Nat)) (s : State) : State := l.foldl (fun s e => setF p e.1 e.2 s) s

/-- every pinned stage holds its pinned value (R302). -/
def applyPins (l : Nat) (s : State) : State :=
  let p := pgLNE l
  let s1 := if isF p LNE.PIN_tx_fir s then setAll p (firApplied.zip (firPinned.map (fun f => getF p f s))) s else s
  let s2 := if isF p LNE.PIN_ctle s then setF p LNE.RXEQ_ctle (getF p LNE.RXEQ_PIN_ctle s) s1 else s1
  let s3 := if isF p LNE.PIN_ffe s then
      setAll p ((List.range 16).map (fun i => (LNE.FFE_APPLIED i, getF p (LNE.FFE_PIN i) s))) s2 else s2
  if isF p LNE.PIN_dfe s then setF p LNE.RXEQ_dfe (getF p LNE.RXEQ_PIN_dfe s) s3 else s3

/-- adaptation gives FFE taps; lane 32 has its main tap only (R296). [DESIGN CHOICE log 62] -/
def setFfe (l : Nat) (taps : List Int) (s : State) : State :=
  setAll (pgLNE l) ((List.range 16).zip taps |>.filter (fun e => l != 32 || e.1 == 4) |>.map
    (fun e => (LNE.FFE_APPLIED e.1, toTwos 16 e.2))) s

/-- training gives coefficients (R299, R302): pinned stages keep their pinned values, and lane 32 has no c(−3) and
c(−2). [DESIGN CHOICE log 62] -/
def applyEq (l : Nat) (e : Equaliser) (s : State) : State :=
  let p := pgLNE l
  let fir := (firApplied.zip e.fir).map (fun x => (x.1, if l = 32 ∧ (x.1 = LNE.TXFIR_cm3 ∨ x.1 = LNE.TXFIR_cm2) then 0
    else toTwos x.1.width x.2))
  applyPins l (setFfe l e.ffe (setF p LNE.RXEQ_dfe (toTwos 8 e.dfe) (setF p LNE.RXEQ_ctle e.ctle (setAll p fir s))))

/-- STATUS.precode_tx and precode_rx (R295): always on for Iztaub, as trained in CR mode, as set in AUI C2M mode, never on
lane 32. -/
def setPrecode (l : Nat) (tx rx : Bool) (s : State) : State :=
  let p := pgLNE l
  let v := fun (cfg : Fld) (b : Bool) =>
    if l = 32 then 0 else if 16 ≤ l then 1
    else if isF (laneOwner l) ETH.MODE_cr s then b.toNat else getF p cfg s
  setF p LNE.ST_precode_tx (v LNE.CFG_precode_tx tx) (setF p LNE.ST_precode_rx (v LNE.CFG_precode_rx rx) s)

/-- a lane begins its bring-up at `step` (R299). -/
def laneBringUp (l step reason : Nat) (s : State) : State :=
  let p := pgLNE l
  setAct p stSTARTING reason (setF p LNE.ST_trained 0 (setF p LNE.ST_signal 0 (setF p LNE.ST_cdr_lock 0
    (modLane l (fun x => { x with step := step, fast := false, lost := false, failAt := none, badRun := 0 }) s))))

/-- a lane stops: transmitter in electrical idle; OFF loses its coefficients (R308). -/
def laneStop (l st : Nat) (s : State) : State :=
  let p := pgLNE l
  let s1 := setAct p st 0 (setF p LNE.ST_trained 0 (setF p LNE.ST_signal 0 (setF p LNE.ST_cdr_lock 0
    { s with lne := SMap.drop l s.lne })))
  if st = stOFF then
    clearFields p (LNE.rows.filter (fun f => f.acc == .ro && f.off != 0x00C)) s1 else s1

/-- a lane enters LOW_POWER (R306). -/
def laneSleep (l : Nat) (s : State) : State := setAct (pgLNE l) stLOW 0 (modLane l (fun x => { x with wakeDue := false }) s)

/-- a lane in LOW_POWER returns to RUNNING at its next block end (R306). -/
def laneAwake (l : Nat) (s : State) : State :=
  if act (pgLNE l) s = stLOW then modLane l (fun x => { x with wakeDue := true }) s else s

/-- the owner writes the lane's STATE_CMD when it is itself committed (R305), and the lane follows (R306, R308). -/
def laneCommand (l c : Nat) (s : State) : State :=
  let p := pgLNE l
  let s1 := settleTimer p (setCm p HDR.CMD_state c (setSh p HDR.CMD_state c (setF p HDR.CMD_state c s)))
  let a := act p s1
  if c = stRUNNING then
    if a = stLOW then laneAwake l s1
    else if a = stRUNNING ∨ a = stSTARTING ∨ a = stFAULT then s1 else laneBringUp l 1 1 s1
  else if c = stLOW then (if a = stRUNNING then laneSleep l s1 else s1)
  else laneStop l c s1

/-- the owner commands all its lanes. -/
def lanesCommand (owner c : Nat) (s : State) : State := (lanesOf owner).foldl (fun s l => laneCommand l c s) s

end Sys2Proof.Machine
end

