-- ==== Sys2Proof/Machine/IzlBase.lean ====
section
/-! DEFINITION. Sys2Proof/Machine/IzlBase.lean: handing a message to an Iztaub link and taking one from it (chapter 12, R338,
R340, R346 to R349), which the twin, lending and Harlet operations use. -/

namespace Sys2Proof.Machine

def izlOf (j : Nat) (s : State) : IzlS := SMap.get IzlS.reset j s.izl

def modIzl (j : Nat) (f : IzlS → IzlS) (s : State) : State := { s with izl := modAt IzlS.reset j f s.izl }

/-- a message as data frames of 236 bytes (R335, R340). -/
def framesOf (vl : Nat) (msg : List Byte) : List IzlTx :=
  let n := (msg.length + 235) / 236
  (List.range n).map (fun k => ⟨vl, k == 0, k + 1 == n, (msg.drop (236 * k)).take 236⟩)

/-- A client hands a message to virtual lane `vl` of a link (R340): a RUNNING link queues its frames, one longer than
4,096 bytes is refused and counted; a link that is not RUNNING takes nothing. [DEDUCED log 66] -/
def izlPost (j vl : Nat) (msg : List Byte) (s : State) : State :=
  if act (pgIZL j) s ≠ stRUNNING then s
  else if 4096 < msg.length then raise (pgIZL j) 5 (addF (pgIZL j) IZL.MSG_LOST_count 1 s)
  else modIzl j (fun x => { x with waiting := modAt [] vl (fun l => l ++ framesOf vl msg) x.waiting }) s

/-- A client takes the oldest whole message of `vl` that a link holds for it: its slots are freed (R338). [DEDUCED log 66] -/
def takeMsg (j vl : Nat) (s : State) : State :=
  match (izlOf j s).inbox.find? (fun m => m.vl == vl) with
  | none => s
  | some m =>
    subF (pgIZL j) (IZL.CREDIT_held vl) m.frames (modIzl j (fun x => { x with
      inbox := x.inbox.erase m, freed := modAt 0 vl (fun n => (n + m.frames) % 2 ^ 16) x.freed }) s)

/-- this device's number (R53). -/
def deviceNumber (s : State) : Nat := getF pgDEV DEV.ST_device_number s

/-- the link on the route to a member (R346). -/
def routeTo (dev : Nat) (s : State) : Option Nat := (s.routes.find? (fun r => r.device == dev)).map Route.link

/-- the wrapper of a management message (R347). -/
def wrapper (kind hops dest src : Nat) (peer : Peer) (n : Nat) : List Byte :=
  beBytes 1 kind ++ beBytes 1 hops ++ beBytes 2 dest ++ beBytes 2 src ++ beBytes 1 peer.entryPort ++ beBytes 1 peer.form ++
    beBytes 6 peer.mac.toNat ++ beBytes 2 peer.udp.toNat ++ beBytes 16 peer.ip.toNat ++ beBytes 2 n ++ beBytes 2 0

/-- no controller to answer. -/
def noPeer : Peer := ⟨0, 0, 0, 0, 0, 0, 0⟩

/-- a management message leaves on the route to `dest`, if there is one (R348). -/
def sendManagement (kind hops dest : Nat) (peer : Peer) (body : List Byte) (s : State) : State :=
  match routeTo dest s with
  | some j => izlPost j 2 (wrapper kind hops dest (deviceNumber s) peer body.length ++ body) s
  | none => s

end Sys2Proof.Machine
end

