-- ==== Sys2Proof/Machine/RateControl.lean ====
section
/-! DEFINITION. Sys2Proof/Machine/RateControl.lean: tokens, the channel account, floor bounds and reserve, the row budget,
mux groups and the lending pool (chapter 05, R149 to R178). -/

namespace Sys2Proof.Machine

/-! ## Floor bounds (R152, R153) -/

/-- the floor bound of a slice with so many intra and inter CTUs (R153). -/
def floorBound (intra inter : Nat) : Nat := sliceTokens (intra * floorBits true + inter * floorBits false)

/-- CTUs of tile column `t` that lie in the refresh column of cycle position `i` (R123, R152). -/
def refreshCtus (g : Nat → Fld → State → Nat) (c t i : Nat) (s : State) : Nat :=
  let n := sliceCtus g c s
  let w := refreshWidth g c s
  let lo := max (i * w) (t * n)
  let hi := min (i * w + w) (t * n + n)
  hi - lo

/-- f(k) (R153): `idr` a picture all of whose CTUs are intra, `refresh` the cycle position of a refresh picture. -/
def floorRow (g : Nat → Fld → State → Nat) (c k : Nat) (idr join : Bool) (refresh : Option Nat) (s : State) : Nat :=
  let n := sliceCtus g c s
  (List.range (colCount g c s)).foldl (fun f t =>
    let intra := if idr then n else match refresh with | some i => refreshCtus g c t i s | none => 0
    f + floorBound intra (n - intra)) (if k = 0 then (if join then 1024 else 256) else 0)

/-- RC_FPIC_I and RC_FPIC_P (R153, R174). -/
def floorPicture (g : Nat → Fld → State → Nat) (c : Nat) (idr : Bool) (s : State) : Nat :=
  (List.range (rowCount g c s)).foldl (fun f k => f + floorRow g c k idr idr none s) 0

/-- the cycle position of the picture being coded under methods 1 and 2; none for an IDR and under method 0. -/
def refreshAt (c : Nat) (s : State) : Option Nat :=
  let x := echOf c s
  if x.curIdr ∨ getF (pgECH c) ECH.REFRESH_method s = 0 ∨ getF (pgECH c) ECH.REFRESH_period s = 0 then none
  else some (x.cycle % getF (pgECH c) ECH.REFRESH_period s)

/-- f(k) of the current picture. -/
def floorNow (c k : Nat) (s : State) : Nat :=
  floorRow getF c k (echOf c s).curIdr (echOf c s).curJoin (refreshAt c s) s

/-! ## Accrual (R150) -/

/-- the cumulative accrual after `lines` lines of picture `n` (R150). -/
def Accrual.value (x : Accrual) (per : Nat × Nat) (h n lines : Nat) : Nat :=
  x.rate * 1000 * x.share * per.1 * ((n - x.n0) * h + lines - x.l0) / (8 * 1024 * per.2 * max 1 h)

/-- the accrual of row `k` of picture `n` at `rate` and `share`; a new rate or share re-anchors (R150). -/
def Accrual.step (x : Accrual) (rate share c n k : Nat) (s : State) : Nat × Accrual :=
  let per := periodOf (echOf c s).rate
  let h := codedLines getF c s
  let y : Accrual := if x.rate = rate ∧ x.share = share then x else ⟨rate, share, n, linesTo getF c k s, 0⟩
  let v := y.value per h n (linesTo getF c (k + 1) s)
  (v - y.cum, { y with cum := v })

def isMember (c : Nat) (s : State) : Bool := isF (pgECH c) ECH.RC_MODE_in_group s
def groupOf (c : Nat) (s : State) : Nat := getF (pgECH c) ECH.RC_MODE_group s

/-- rate and share by which the channel accrues (R150). -/
def accrualKey (c : Nat) (s : State) : Nat × Nat :=
  if isMember c s then (getF (pgMUX (groupOf c s)) MUX.RATE_rate_kbps s, getF (pgECH c) ECH.RC_MODE_share s)
  else (getF (pgECH c) ECH.RC_RATE_rate_kbps s, 1024)

/-- a(j) of the rows after row `k` of picture `n`, to the end of picture n + 1: picture, row and accrual. -/
def laterAccruals (x : Accrual) (c n k : Nat) (s : State) : List (Nat × Nat × Nat) :=
  let per := periodOf (echOf c s).rate
  let h := codedLines getF c s
  let rows := rowCount getF c s
  let at_ := fun m j => x.value per h m (linesTo getF c (j + 1) s)
  let one := fun m j => (m, j, if j = 0 then at_ m 0 - at_ (m - 1) (rows - 1) else at_ m j - at_ m (j - 1))
  ((List.range rows).filter (fun j => decide (k < j))).map (one n) ++ (List.range rows).map (one (n + 1))

/-- res(k) (R154): the largest running deficit of floor coding over the rest of the picture and the next one, whose rows
are costed as those of a forced IDR. -/
def floorReserve (c n k : Nat) (s : State) : Nat :=
  let x := echOf c s
  ((laterAccruals x.acc c n k s).foldl (fun (r : Int × Int) e =>
    let f := if e.1 = n then floorNow c e.2.1 s else floorRow getF c e.2.1 true true none s
    let sum := r.1 + f - e.2.2
    (sum, max r.2 sum)) (0, 0)).2.toNat

/-! ## Mux groups and the pool (R160, R161, R164, R167) -/

/-- this device holds the group's pool (R170, R177). -/
def muxHome (g : Nat) (s : State) : Bool :=
  !isF (pgMUX g) MUX.CFG_remote s || getF (pgMUX g) MUX.CFG_home s == deviceNumber s

/-- the group's local members. -/
def muxMembers (g : Nat) (s : State) : List Nat :=
  (List.range 32).filter (fun c => isMember c s && groupOf c s == g)

/-- the reference member (R160): the lowest-numbered local member that is RUNNING. -/
def muxRef (g : Nat) (s : State) : Option Nat := (muxMembers g s).find? (fun c => act (pgECH c) s == stRUNNING)

def localShares (g : Nat) (s : State) : Nat := ((muxMembers g s).map (fun c => getF (pgECH c) ECH.RC_MODE_share s)).sum

/-- pool_share (R161). -/
def poolShare (g : Nat) (s : State) : Nat :=
  1024 - localShares g s - (if isF (pgMUX g) MUX.CFG_remote s then getF (pgMUX g) MUX.CFG_remote_shares s else 0)

/-- MUX.ALLOW (R167). -/
def muxAllow (g : Nat) (s : State) : Nat :=
  let p := pgMUX g
  getF p MUX.ACCRUED_tokens s + getF p MUX.RECV_tokens s - getF p MUX.SPENT_tokens s - getF p MUX.LAPSED_tokens s -
    getF p MUX.SENT_tokens s

/-- tokens enter the pool; what would take it above its cap lapses (R166). -/
def poolAdd (g x : Nat) (s : State) : State :=
  let p := pgMUX g
  let room := getF p MUX.POOL_CAP_cap s - getF p MUX.POOL_tokens s
  let s1 := addF p MUX.POOL_tokens (min x room) s
  if room < x then raise p 1 (addF p MUX.LAPSED_tokens (x - room) s1) else s1

/-- tokens of a member, counted in its page and in its group's. -/
def countTokens (c x : Nat) (own group : Fld) (s : State) : State :=
  let s1 := addF (pgECH c) own x s
  if isMember c s then addF (pgMUX (groupOf c s)) group x s1 else s1

/-- tokens lapse (R151): EVENT bit 21. -/
def lapse (c x : Nat) (s : State) : State :=
  raiseIf (decide (0 < x)) (pgECH c) 21 (countTokens c x ECH.RC_LAPSED_tokens MUX.LAPSED_tokens s)

/-- the home device of a group (R169). -/
def homeOf (g : Nat) (s : State) : Nat := getF (pgMUX g) MUX.CFG_home s

/-- the bytes of a lending message (R170). -/
def lendingBytes (kind g dev ch row ref pic tokens deadline : Nat) : List Byte :=
  let b := beBytes 1 kind ++ beBytes 1 g ++ beBytes 2 dev ++ beBytes 1 ch ++ beBytes 1 row ++ beBytes 2 ref ++
    beBytes 4 pic ++ beBytes 4 tokens ++ beBytes 4 deadline
  b ++ beBytes 4 (crc crc32c b)

/-- A lending message leaves for device `dest` (R170, R349); grants, returns and repayments carry tokens. With no link on which it
could leave, no link acknowledges it: its tokens are in doubt (R172). -/
def sendLending (dest kind g ch row ref pic tokens deadline : Nat) (s : State) : State :=
  let m := lendingBytes kind g (deviceNumber s) ch row ref pic tokens deadline
  let s1 := addF pgRCL RCL.MSG_TX_count 1 (sendManagement 4 7 dest noPeer m (emit .lending g (nats m) s))
  if kind = 2 ∨ kind = 4 ∨ kind = 5 then
    let s2 := addF (pgMUX g) MUX.SENT_tokens tokens s1
    if (routeTo dest s).isSome then s2 else raise (pgMUX g) 4 (addF (pgMUX g) MUX.DOUBT_tokens tokens s2)
  else s1

/-- a member gives `x` tokens of its account back: to the pool here, or by message to the home (R151, R166). -/
def giveBack (kind c n k x : Nat) (s : State) : State :=
  if x = 0 then s
  else
    let g := groupOf c s
    let s1 := addF (pgECH c) ECH.RC_RETURNED_tokens x (subF (pgECH c) ECH.RC_ACCOUNT_tokens x s)
    if muxHome g s then poolAdd g x s1 else sendLending (homeOf g s) kind g c k 0 n x 0 s1

/-- A member's excess over its cap returns to the pool (R151); what a pool at its cap does not take lapses, counted on both pages. -/
def giveExcess (c n k x : Nat) (s : State) : State :=
  let g := groupOf c s
  let lost := if muxHome g s then x - (getF (pgMUX g) MUX.POOL_CAP_cap s - getF (pgMUX g) MUX.POOL_tokens s) else 0
  let s1 := giveBack 4 c n k x s
  raiseIf (decide (0 < lost)) (pgECH c) 21
    (addF (pgECH c) ECH.RC_LAPSED_tokens lost (subF (pgECH c) ECH.RC_RETURNED_tokens lost s1))

/-! ## The record's settlement, in the order of R156 and R168 -/

/-- Σ budgets of rows whose slices have not all closed. -/
def heldTokens (c : Nat) (s : State) : Nat :=
  ((echOf c s).rows.filter (fun r => decide (r.closed.length < colCount getF c s))).foldl (fun n r => n + r.budget) 0

/-- ROW_ACCRUAL (R150, R159). -/
def accrueRow (c n k : Nat) (s : State) : State :=
  let x := echOf c s
  let key := accrualKey c s
  let a := x.acc.step key.1 key.2 c n k s
  let h := x.hfAcc.step (getF (pgECH c) ECH.RC_RATE_rate_kbps s) 1024 c n k s
  let s1 := modEch c (fun x => { x with acc := a.2, hfAcc := h.2 }) s
  countTokens c a.1 ECH.RC_ACCRUED_tokens MUX.ACCRUED_tokens
    (addF (pgECH c) ECH.RC_HRD_tokens h.1 (addF (pgECH c) ECH.RC_ACCOUNT_tokens a.1 s1))

/-- the per-picture accrual (R155), with the period of the channel's source. -/
def perPicture (rate share : Nat) (per : Nat × Nat) : Nat := rate * 1000 * share * per.1 / (8 * 1024 * per.2)

/-- the group's common QP for a picture, from the members' complexities of the previous one (R156). [DESIGN CHOICE log 43] -/
def commonQp (g c n : Nat) (s : State) : Nat :=
  Config.groupQp ((muxMembers g s).map (fun m =>
      ((echOf m s).stats.filter (fun e => e.1 + 1 == n)).map (fun e => e.2.2)))
    (perPicture (getF (pgMUX g) MUX.RATE_rate_kbps s) 1024 (periodOf (echOf c s).rate))

/-- GROUP_BOUNDARY (R156, R160, R161): at the reference member's record a MUX generation is taken, at that of row 0 the group's common QP
is set, and, on the home device, the pool accrues. -/
def groupBoundary (c n k : Nat) (s : State) : State :=
  if !isMember c s then s
  else
    let g := groupOf c s
    if muxRef g s ≠ some c then s
    else
      let t := takeGen (pgMUX g) s
      let s1 := if k = 0 then modMux g (fun x => { x with qp := commonQp g c n t }) t else t
      if !muxHome g s1 || act (pgMUX g) s1 != stRUNNING then s1
      else
        let x := muxOf g s1
        let fresh := x.ref != some c
        let key := (getF (pgMUX g) MUX.RATE_rate_kbps s1, poolShare g s1)
        let a := (if fresh then Accrual.reset else x.acc).step key.1 key.2 c n k s1
        poolAdd g a.1 (addF (pgMUX g) MUX.ACCRUED_tokens a.1 (modMux g (fun x => { x with acc := a.2, ref := some c }) s1))

/-- floor_only holds for the rest of the picture (R165): EVENT bits 18 and 19. -/
def missLoan (c : Nat) (s : State) : State :=
  let p := pgECH c
  let first := !(echOf c s).floorOnly
  raiseIf first p 19 (raise p 18 (addF p ECH.RC_FLOOR_PICS_pictures first.toNat (addF p ECH.RC_LOAN_MISS_count 1
    (modEch c (fun x => { x with floorOnly := true, loan := none }) s))))

/-- GRANT_SETTLE (R165): `g` tokens join the balance at the deadline record. [DEDUCED log 50] -/
def takeGrant (c g : Nat) (s : State) : State :=
  let p := pgECH c
  raise p 17 (satF p ECH.RC_DEBT_tokens g (addF p ECH.RC_LOAN_TOKENS_tokens g (addF p ECH.RC_LOAN_GRANT_count 1
    (addF p ECH.RC_ACCOUNT_tokens g (modEch c (fun x => { x with loan := none }) s)))))

/-- the loan due at this record is settled or missed (R165). -/
def settleLoan (c n k : Nat) (s : State) : State :=
  match (echOf c s).loan with
  | none => s
  | some l =>
    if l.pic ≠ n ∨ l.row ≠ k then s
    else match l.granted with
      | some g => takeGrant c g (subF (pgMUX (groupOf c s)) MUX.UNSETTLED_tokens g s)
      | none => missLoan c s

/-- the unspent parts of closed rows come back, but not that of the last row recorded (R156, R159). -/
def returnUnspent (c : Nat) (s : State) : State :=
  let cols := colCount getF c s
  let rows := (echOf c s).rows
  let due := fun r : EchRow => !r.settled && decide (cols ≤ r.closed.length)
  let last := rows.getLast?
  let marked := rows.dropLast.map (fun r => if due r then { r with settled := true } else r)
  let kept := marked.filter (fun r => !(r.settled && r.windowClosed)) ++ last.toList
  let back := (rows.dropLast.filter due).foldl (fun n r => n + (r.budget - r.charge)) 0
  addF (pgECH c) ECH.RC_HRD_tokens back (addF (pgECH c) ECH.RC_ACCOUNT_tokens back
    (modEch c (fun x => { x with rows := kept }) s))

/-- ACCOUNT_CAP (R151, R159): what stands above cpb_tokens becomes filler, lapses, or returns to the pool. Answers the
filler. -/
def capAccount (c n k : Nat) (s : State) : Nat × State :=
  let p := pgECH c
  let cap := getF p ECH.RC_CPB_cpb_tokens s
  let held := heldTokens c s
  let ex := getF p ECH.RC_ACCOUNT_tokens s + held - cap
  let s1 := setF p ECH.RC_HRD_tokens (min (getF p ECH.RC_HRD_tokens s) (cap - held)) s
  if ex = 0 then (0, s1)
  else if isMember c s then (0, giveExcess c n k ex s1)
  else
    let s2 := subF p ECH.RC_ACCOUNT_tokens ex s1
    if isF p ECH.RC_MODE_cbr s then (ex, addF p ECH.RC_FILLER_tokens ex (addF p ECH.RC_SPENT_tokens ex s2))
    else (0, lapse c ex s2)

/-- PICTURE_SETTLEMENT (R166): at row 1 a member repays its debt and returns its surplus. -/
def settlePicture (c n k : Nat) (s : State) : State :=
  if k ≠ 1 ∨ !isMember c s then s
  else
    let p := pgECH c
    let need := floorNow c 1 s + floorReserve c n 1 s
    let above := getF p ECH.RC_ACCOUNT_tokens s - need
    let pay := min (getF p ECH.RC_DEBT_tokens s)
      (above * getF (pgMUX (groupOf c s)) MUX.REPAY_repay_eighths s / 8)
    let s1 := giveBack 5 c n k pay (subF p ECH.RC_DEBT_tokens pay s)
    giveBack 4 c n k (getF p ECH.RC_ACCOUNT_tokens s1 - max (getF p ECH.RC_KEEP_keep_tokens s1) need) s1

/-- the measured complexity of row `k` of what is fed at tick `n` (R129, R156). -/
def rowComplexity (c n k feed : Nat) (s : State) : Nat :=
  Config.complexity (rowSamples c n k feed 0 (getF (pgECH c) ECH.DIM_width s) s)

/-- What the estimator has at the record of row `k` (R129): the rows of the picture before it and the previous picture's, in frame-plus
mode all rows of the picture. -/
def estimatorIn (c n k feed : Nat) (s : State) : EstIn :=
  let x := echOf c s
  let whole := isF (pgECH c) ECH.LAT_frame_plus s
  let rows := rowCount getF c s
  let key := accrualKey c s
  { firmware := getF pgFWL FWL.IMAGE_version s, stepping := Config.stepping, whole := whole, row := k, rows := rows,
    stats := if whole then (List.range rows).map (fun j => (n, j, rowComplexity c n j feed s)) else x.stats,
    accrual := perPicture key.1 key.2 (periodOf x.rate) }

/-- the QP that the estimator chooses for a row (R156, R158): a member's is at least the group's common QP; within RC_QP. -/
def chosenQp (c : Nat) (e : EstIn) (s : State) : Nat :=
  let q := Config.rowQp e
  let m := if isMember c s then max q (muxOf (groupOf c s) s).qp else q
  max (getF (pgECH c) ECH.RC_QP_qp_min s) (min (getF (pgECH c) ECH.RC_QP_qp_max s) m)

/-- d(k) (R156): what the estimator wants, at least f(k); before the channel has a previous picture, max(f(k), a(k)). -/
def desired (c f a qp : Nat) (e : EstIn) (s : State) : Nat :=
  max f (if (echOf c s).pictures ≤ 1 then a else Config.rowSpend e qp)

/-- ROW_BUDGET (R156): b(k) is set and held; RC_HEAD, RC_RES, and EVENT bit 22 where hf sets the headroom. -/
def setBudget (c n k d : Nat) (s : State) : Nat × State :=
  let p := pgECH c
  let f := floorNow c k s
  let res := floorReserve c n k s
  let avail := getF p ECH.RC_ACCOUNT_tokens s
  let hf := getF p ECH.RC_HRD_tokens s
  let head := min avail hf - res - f
  let b := if (echOf c s).floorOnly then f else f + min head (d - f)
  (b, raiseIf (decide (hf < avail)) p 22 (subF p ECH.RC_HRD_tokens b (subF p ECH.RC_ACCOUNT_tokens b
    (setF p ECH.RC_RES_tokens res (setF p ECH.RC_HEAD_tokens head s)))))

/-- a(j) and the lines of the rest of the picture after row `k`. -/
def restOfPicture (c n k : Nat) (s : State) : List (Nat × Nat) :=
  ((laterAccruals (echOf c s).acc c n k s).filter (fun e => e.1 == n)).map (fun e => (e.2.2, rowLines getF c e.2.1 s))

/-- the projected headroom of some of the next rows falls short (R163), in units of a C-th of a token. -/
def fallsShort (c n k d : Nat) (s : State) : Bool :=
  let z : Int := (ctuSize getF c s : Nat)
  let p := pgECH c
  let m := max 1 (getF pgRCL RCL.POLICY_proj_rows s)
  let start : Int := (getF p ECH.RC_ACCOUNT_tokens s : Int) - getF p ECH.RC_RES_tokens s
  (((restOfPicture c n k s).take m).foldl (fun (r : Bool × Int × Int) e =>
    let a := r.2.1 + e.1
    let w := r.2.2 + d * e.2
    (r.1 || decide (z * a < w), a, w)) (false, start, 0)).1

/-- req of R163; d(k) × lines / C, summed where the rule sums, is rounded down to whole tokens. [DESIGN CHOICE log 50] -/
def loanRequest (c n k d : Nat) (s : State) : Int :=
  let p := pgECH c
  let z := ctuSize getF c s
  let rest := restOfPicture c n k s
  let avail : Int := (getF p ECH.RC_ACCOUNT_tokens s : Nat)
  let res : Int := (getF p ECH.RC_RES_tokens s : Nat)
  let spend : Int := (rest.foldl (fun n e => n + d * e.2) 0 / z : Nat)
  let acc : Int := (rest.foldl (fun n e => n + e.1) 0 : Nat)
  let room : Int := (getF p ECH.RC_CPB_cpb_tokens s - heldTokens c s : Nat)
  let per := periodOf (echOf c s).rate
  let h := codedLines getF c s
  -- hf at the last row: accrues at share 1,024 and RC_RATE, capped at each row, spends as projected
  let hx := (echOf c s).hfAcc
  let last := rest.length
  let hf := (List.range last).foldl (fun (v : Int) i =>
    let j := k + 1 + i
    let a : Int := (hx.value per h n (linesTo getF c (j + 1) s) - hx.value per h n (linesTo getF c j s) : Nat)
    min (v + a) room - (d * rowLines getF c j s / z : Nat)) (getF p ECH.RC_HRD_tokens s : Nat)
  let hfRoom := max 0 (hf - (avail + acc - spend))
  min (getF p ECH.RC_LOAN_loan_max s : Nat) (min hfRoom (spend - acc - (avail - res)))

/-- POOL_ANSWER (R164): the pool grants min(req, pool) or refuses; answers the grant. [DEDUCED log 50] -/
def poolAnswer (g req : Nat) (s : State) : Option Nat × State :=
  let p := pgMUX g
  let x := min req (getF p MUX.POOL_tokens s)
  if 1 ≤ x ∧ getF p MUX.GRANT_grant_min s ≤ x then
    (some x, addF p MUX.GRANTS_count 1 (subF p MUX.POOL_tokens x s))
  else (none, raise p 0 (addF p MUX.REFUSALS_count 1 s))

/-- LOAN_REQUEST (R163, R165, R170): at the record of row `k` a member whose headroom falls short asks for a loan, due at
the record of row k + 1: another device's pool is asked by message; on a twin follower (`ask` false) the lead's record
answers (R169). [DEDUCED log 50] -/
def askLoan (ask : Bool) (c n k d : Nat) (s : State) : State :=
  let p := pgECH c
  let x := echOf c s
  let g := groupOf c s
  if !isMember c s || rowCount getF c s ≤ k + 1 || !isF p ECH.RC_LOAN_loan_en s || x.loan.isSome || x.floorOnly ||
      !isF (pgMUX g) MUX.ST_home_reachable s || !fallsShort c n k d s then s
  else
    let req := loanRequest c n k d s
    if req ≤ 0 then s
    else
      let l : Loan := ⟨x.nextLoan, req.toNat, n, k + 1, none, s.clk, false⟩
      let s1 := raise p 16 (addF p ECH.RC_LOAN_REQ_count 1
        (modEch c (fun x => { x with loan := some l, nextLoan := (x.nextLoan + 1) % 2 ^ 16 }) s))
      if !ask || muxHome g s then s1
      else
        sendLending (homeOf g s) 1 g c (k + 1) l.ref n req.toNat (recordNs c n (k + 1) s % 2 ^ 32)
          (modMux g (fun x => { x with asked := x.asked.or (some s.clk) }) s1)

/-- The member's own device answers the request made at this boundary (R164, R168). -/
def answerLoan (c n k : Nat) (s : State) : State :=
  let g := groupOf c s
  match (echOf c s).loan with
  | none => s
  | some l =>
    if l.answered ∨ l.pic ≠ n ∨ l.row ≠ k + 1 ∨ !muxHome g s then s
    else
      let a := poolAnswer g l.asked s
      match a.1 with
      | some t => addF (pgMUX g) MUX.UNSETTLED_tokens t
          (modEch c (fun x => { x with loan := some { l with granted := some t, answered := true } }) a.2)
      | none => modEch c (fun x => { x with loan := some { l with answered := true } }) a.2

/-! ## Entering and leaving RUNNING (R159, R173) -/

/-- INITIAL_CREDIT (R173). -/
def initialCredit (c n : Nat) (s : State) : State :=
  let p := pgECH c
  let i := getF p ECH.RC_INIT_init_tokens s
  let key := accrualKey c s
  countTokens c i ECH.RC_ACCRUED_tokens MUX.ACCRUED_tokens
    (setF p ECH.RC_DEBT_tokens 0 (setF p ECH.RC_HRD_tokens i (setF p ECH.RC_ACCOUNT_tokens i
      (modEch c (fun x => { x with
        acc := ⟨key.1, key.2, n, 0, 0⟩, hfAcc := ⟨getF p ECH.RC_RATE_rate_kbps s, 1024, n, 0, 0⟩,
        floorOnly := false, loan := none }) s))))

/-- the member's group may run: its committed STATE_CMD is IDLE or RUNNING (R142, R173). -/
def groupReady (c : Nat) (s : State) : Bool :=
  !isMember c s || [stIDLE, stRUNNING].contains (cmdOf (pgMUX (groupOf c s)) s)

/-- MUX_START (R173): the group's first member brings MUX to RUNNING. -/
def muxStart (c : Nat) (s : State) : State :=
  if !isMember c s then s
  else
    let g := groupOf c s
    if act (pgMUX g) s = stRUNNING then s
    else setAct (pgMUX g) stRUNNING 0 (modMux g (fun x => { x with ref := none, asked := none }) s)

/-- what the channel holds: the balance and the unspent parts of its rows. -/
def accountOf (c : Nat) (s : State) : Nat :=
  (echOf c s).rows.foldl (fun n r => if r.settled then n else n + (r.budget - r.charge))
    (getF (pgECH c) ECH.RC_ACCOUNT_tokens s)

/-- pool and ledger counters of a group are cleared (R173). -/
def muxClear (g : Nat) (s : State) : State :=
  clearFields (pgMUX g) (MUX.rows.filter (fun f => f.acc == Acc.ro)) { s with mux := SMap.drop g s.mux }

/-- what a newly taken STATE_CMD makes of a MUX page (R162, R173): RUNNING comes with a member or with the pool's clock. -/
def muxCommand (g : Nat) (s : State) : State :=
  let p := pgMUX g
  let c := getF p HDR.CMD_state s
  if act p s = stRUNNING ∧ (c = stRUNNING ∨ c = stLOW ∨ (c = stIDLE ∧ (muxRef g s).isSome)) then s
  else if c = stRUNNING then
    (if act p s = stFAULT then s else if (muxRef g s).isSome then setAct p stRUNNING 0 s else setAct p stIDLE 0 s)
  else
    let s1 := plainCommand p s
    if act p s1 = stOFF then muxClear g s1 else s1

/-- MEMBER_ACCOUNT_RETURN (R173): a channel that reaches IDLE, OFF or FAULT loses its account: a member's goes to the pool
with any grant not settled, a solo channel's lapses; the last local member takes MUX to IDLE. [DEDUCED log 50] -/
def accountLeaves (c : Nat) (s : State) : State :=
  let p := pgECH c
  let x := accountOf c s
  let drop := fun s => setF p ECH.RC_ACCOUNT_tokens 0 (setF p ECH.RC_HRD_tokens 0
    (modEch c (fun x => { x with rows := [], loan := none, live := false }) s))
  if !isMember c s then lapse c x (drop s)
  else
    let g := groupOf c s
    let grant := match (echOf c s).loan with | some l => l.granted.getD 0 | none => 0
    let s0 := subF (pgMUX g) MUX.UNSETTLED_tokens grant s
    let s1 :=
      if muxHome g s then poolAdd g (x + grant) (addF p ECH.RC_RETURNED_tokens x (drop s0))
      else
        let m := x + grant
        (if m = 0 then id else sendLending (homeOf g s) 4 g c 0 0 (echOf c s).nextPic m 0) (addF p ECH.RC_RETURNED_tokens x (drop s0))
    if (muxRef g s1).isNone ∧ act (pgMUX g) s1 = stRUNNING then
      takeAfterStop (pgMUX g) (muxCommand g) (setAct (pgMUX g) stIDLE 0 s1) else s1

/-! ## Commands -/

/-- POOL_TICK (R162): the frame clock of a home device without a RUNNING local member. -/
def poolTickOp (g : Nat) (s : State) : State :=
  let p := pgMUX g
  let f := getF p MUX.CFG_pool_fclk s
  if !isF p MUX.CFG_remote s || !muxHome g s || (muxRef g s).isSome then s
  else
    let s1 := if pendingGen p s then takeWith p (muxCommand g) s else s
    if cmdOf p s1 ≠ stRUNNING then s1
    else
    let n := getF pgTIM (TIM.FCLK_picture f) s1
    let per := periodOf (getF pgTIM (TIM.FCLK_rate f) s1)
    let s2 := if act p s1 = stRUNNING then s1
      else setF p MUX.POOL_tokens 0 (setAct p stRUNNING 0 (modMux g (fun _ => MuxS.reset) s1))
    let x := muxOf g s2
    let rate := getF p MUX.RATE_rate_kbps s2
    let share := poolShare g s2
    let y : Accrual := if x.ref.isNone ∧ x.acc.rate = rate ∧ x.acc.share = share then x.acc else ⟨rate, share, n, 0, 0⟩
    let v := rate * 1000 * share * per.1 * (n - y.n0 + 1) / (8 * 1024 * per.2)
    poolAdd g (v - y.cum) (addF p MUX.ACCRUED_tokens (v - y.cum) (modMux g (fun x => { x with acc := { y with cum := v }, ref := none }) s2))

def execPoolTick (g : Fin 8) (s : State) : Host.Outcome State Fault Refusal := .next (poolTickOp g.val s)

/-- LENDING_MESSAGE_DROP (R172). -/
def dropLending (s : State) : State := raise pgRCL 1 (addF pgRCL RCL.MSG_BAD_count 1 s)

/-- a grant reaches a remote member (R165, R171): for the loan it awaits it is held unsettled; later it goes straight
back. -/
def remoteGrant (g c ref pic row tokens : Nat) (s : State) : State :=
  let s1 := addF (pgMUX g) MUX.RECV_tokens tokens s
  match (echOf c s).loan with
  | some l =>
    if l.ref = ref ∧ l.granted.isNone ∧ isMember c s ∧ groupOf c s = g then
      addF (pgMUX g) MUX.UNSETTLED_tokens tokens
        (modEch c (fun x => { x with loan := some { l with granted := some tokens, answered := true } }) s1)
    else raise (pgMUX g) 2 (addF (pgMUX g) MUX.LATE_count 1 (addF pgRCL RCL.MSG_LATE_count 1
      (sendLending (homeOf g s) 4 g c row ref pic tokens 0 s1)))
  | none => raise (pgMUX g) 2 (addF (pgMUX g) MUX.LATE_count 1 (addF pgRCL RCL.MSG_LATE_count 1
      (sendLending (homeOf g s) 4 g c row ref pic tokens 0 s1)))

/-- a message from the home arrives: it is reachable (R172). -/
def homeAnswers (g : Nat) (s : State) : State := setF (pgMUX g) MUX.ST_home_reachable 1 (modMux g (fun x => { x with asked := none }) s)

/-- LENDING_MESSAGE (R168, R170 to R172). [DEDUCED log 50] -/
def lendingOp (m : List Byte) (s : State) : State :=
  let s0 := addF pgRCL RCL.MSG_RX_count 1 s
  let kind := fieldAt 0 1 m
  let g := fieldAt 1 1 m % 8
  let src := fieldAt 2 2 m % 1024
  let c := fieldAt 4 1 m % 32
  let row := fieldAt 5 1 m
  let ref := fieldAt 6 2 m
  let pic := fieldAt 8 4 m
  let tokens := fieldAt 12 4 m
  let p := pgMUX g
  let toHome := kind = 1 ∨ kind = 4 ∨ kind = 5
  if m.length ≠ 24 ∨ fieldAt 20 4 m ≠ crc crc32c (m.take 20) ∨ !isF p MUX.CFG_remote s ∨ kind = 0 ∨ 5 < kind ∨
      (toHome ∧ !muxHome g s) ∨ (¬toHome ∧ getF p MUX.CFG_home s ≠ src) then dropLending s0
  else
    match kind with
    | 1 =>
      let a := poolAnswer g tokens s0
      (match a.1 with
       | some t => sendLending src 2 g c row ref pic t (fieldAt 16 4 m) a.2
       | none => sendLending src 3 g c row ref pic 0 (fieldAt 16 4 m) a.2)
    | 2 => remoteGrant g c ref pic row tokens (homeAnswers g s0)
    | 3 => modEch c (fun x => { x with loan := x.loan.map (fun l => if l.ref = ref then { l with answered := true } else l) })
        (homeAnswers g s0)
    | _ => poolAdd g tokens (addF p MUX.RECV_tokens tokens s0)

/-- a message of the management lane is taken from the link that holds one. -/
def takeManagement (s : State) : State :=
  match (List.range 4).find? (fun j => (izlOf j s).inbox.any (fun m => m.vl == 2)) with
  | some j => takeMsg j 2 s
  | none => s

def execLendingMessage (msg : List Byte) (s : State) : Host.Outcome State Fault Refusal :=
  .next (lendingOp msg (takeManagement s))

/-- HOME_UNREACHABLE (R172): no request has been answered for home_timeout_us. -/
def homeUnreachableOp (g : Nat) (s : State) : State :=
  let p := pgMUX g
  match (muxOf g s).asked with
  | none => s
  | some t =>
    if !isF p MUX.CFG_remote s ∨ muxHome g s ∨ !isF p MUX.ST_home_reachable s then s
    else
      raise pgRCL 0 (raise p 3 (setF p MUX.ST_home_reachable 0 (modMux g (fun x => { x with asked := none })
        (advanceTo (t + getF pgRCL RCL.REMOTE_home_timeout_us s * tickUs) s))))

def execHomeUnreachable (g : Fin 8) (s : State) : Host.Outcome State Fault Refusal := .next (homeUnreachableOp g.val s)

/-! ## Commit checks (R155, R160, R161, R177) -/

/-- the members of `g` in a state whose registers are the ones to check. -/
def groupValid (g : Nat) (v : State) : Bool :=
  let l := muxMembers g v
  let per := fun c => echPeriod getF c v
  decide (localShares g v + (if isF (pgMUX g) MUX.CFG_remote v then getF (pgMUX g) MUX.CFG_remote_shares v else 0) ≤ 1024) &&
  l.all (fun c => l.all (fun d => !echHasPeriod getF c v || !echHasPeriod getF d v || (per c).1 * (per d).2 == (per d).1 * (per c).2))

/-- R155 for channel `c`, `v` being the state with the shadows active. -/
def rateValid (c : Nat) (v : State) : Bool :=
  let p := pgECH c
  let key := accrualKey c v
  let per := echPeriod getF c v
  let pic := perPicture key.1 key.2 per
  let fi := floorPicture getF c true v
  let maxQp := if isF p ECH.FMT_codec v then 63 else 51
  (!echHasPeriod getF c v || (decide (fi ≤ pic) && decide (pic + fi ≤ getF p ECH.RC_CPB_cpb_tokens v))) &&
  decide (getF p ECH.RC_INIT_init_tokens v ≤ getF p ECH.RC_CPB_cpb_tokens v) &&
  decide (getF p ECH.RC_KEEP_keep_tokens v ≤ getF p ECH.RC_CPB_cpb_tokens v) &&
  decide (getF p ECH.RC_QP_qp_min v ≤ getF p ECH.RC_QP_qp_max v) && decide (getF p ECH.RC_QP_qp_max v ≤ maxQp) &&
  !(isF p ECH.RC_MODE_cbr v && isMember c v) &&
  (!isMember c v || (decide (1 ≤ getF p ECH.RC_MODE_share v) && decide (getF p ECH.RC_MODE_share v ≤ 1024) &&
    decide (key.1 * key.2 ≤ getF p ECH.RC_RATE_rate_kbps v * 1024)))

/-- the rates of the placed channels, kbit/s (R155). -/
def placedRate (placed : Nat → Bool) (v : State) : Nat :=
  let l := (List.range 32).filter placed
  ((l.filter (fun c => !isMember c v)).map (fun c => getF (pgECH c) ECH.RC_RATE_rate_kbps v)).sum +
  (((List.range 8).filter (fun g => l.any (fun c => isMember c v && groupOf c v == g))).map
    (fun g => getF (pgMUX g) MUX.RATE_rate_kbps v)).sum

/-- the first condition of R155 for channel `c`. -/
def floorCovered (c : Nat) (v : State) : Bool :=
  let key := accrualKey c v
  !echHasPeriod getF c v || decide (floorPicture getF c true v ≤ perPicture key.1 key.2 (echPeriod getF c v))

/-- a MUX commit (R155, R160, R161, R177): every member keeps the first condition of R155, a placed one all of it (R512). -/
def muxValid (g : Nat) (s : State) : Bool :=
  let v := shadowed (pgMUX g) (inView s)
  let l := muxMembers g v
  groupValid g v && l.all (fun c => floorCovered c v && (!echPlaced c v || rateValid c v)) &&
  decide (placedRate (fun c => echPlaced c v) v ≤ 24000000) &&
  (getF (pgMUX g) MUX.RATE_rate_kbps v != 0 || l.all (fun c => act (pgECH c) v != stRUNNING))

end Sys2Proof.Machine
end

