-- ==== Sys2Proof/Machine/Clocks.lean ====
section
/-! DEFINITION. Sys2Proof/Machine/Clocks.lean: which frame clock governs the mismatch timer of a page (R29), and what a tick of a
page's frame clock or of TIM's does. -/

namespace Sys2Proof.Machine

/-- of the pages whose clocks serve a unit, the first one with the longest picture period; none serves none. -/
def longestClock (l : List Nat) (s : State) : Option Nat :=
  l.foldl (fun b p => match b with
    | none => some p
    | some q =>
      let x := periodOf (pageClock p s).1
      let y := periodOf (pageClock q s).1
      if y.1 * x.2 < x.1 * y.2 then some p else b) none

/-- the root page of the channel that owns a buffer (R390). -/
def bufferClock (p : Nat) (s : State) : Nat :=
  match blockOf p with
  | some .ech => echRoot getF (p - Block.first .ech) s
  | some .out => echRoot getF (p - Block.first .out) s
  | some .snd => sndRoot (p - Block.first .snd) s
  | _ => p

/-- The page whose frame clock governs page `p`'s mismatch timer, none for frame clock 0 of TIM (R29): a channel's own clock is that
of its root page; a core, unit, mux group or stack serves the channels on it; the twin control serves the mirrored channels; the
other units serve no channel. [DEDUCED log 94] -/
def governor (p : Nat) (s : State) : Option Nat :=
  match blockOf p with
  | some .ing | some .dch => some p
  | some .ech | some .out | some .snd => some (bufferClock p s)
  | some .cnd =>
    let u := p - Block.first .cnd
    longestClock (((List.range 8).filter (fun k => isF p (CND.PATH_en k) s)).map (fun k => pathSource u k s)) s
  | some .enc =>
    let l := getF p ENC.ST_logical s
    if l < 16 then longestClock ((chansOn l s).map (fun c => echRoot getF c s)) s else none
  | some .dec =>
    longestClock (((List.range 16).filter (fun i => act (pgDCH i) s == stRUNNING &&
      (dchCores getF i s).contains (p - Block.first .dec))).map pgDCH) s
  | some .mux => longestClock ((muxMembers (p - Block.first .mux) s).map (fun c => echRoot getF c s)) s
  | some .twn =>
    longestClock (((List.range 32).filter (fun c => (getF pgTWN TWN.CHANS_chans s).testBit c)).map (fun c => echRoot getF c s)) s
  | some .hbm =>
    longestClock ((s.bufs.filter (fun e => e.2.stack == p - Block.first .hbm)).map (fun e => bufferClock e.1 s)) s
  | _ => none

/-- the clock of page `k`, or frame clock 0 of TIM, has ticked: the mismatch timers that it governs count (R29). A page of the
main domain counts only while that domain runs. -/
def tickClock (k : Option Nat) (s : State) : State :=
  (allPages.filter (fun p => (standbyPage p || s.pwr.mainRun) && !statesAgree p s && governor p s == k)).foldl
    (fun s p => mismatchTick p s) s

/-! ## The ticks of the sources (R69, R88, R105, R217) -/

/-- FRAME_CLOCK_TICK with CND_GENERATION_TAKEN, at the time of tick `n`: the tick is a picture boundary for the paths that read the
page. -/
def frameClockTickOp (i n : Nat) (s : State) : State :=
  tickClock (some (pgING i)) (cndRefreshAll (takePathsOf (pgING i) (ingTick i n s)))

/-- DECODE_TICK, likewise. -/
def decodeTickOp (i n : Nat) (s : State) : State :=
  tickClock (some (pgDCH i)) (cndRefreshAll (takePathsOf (pgDCH i) (dchTick i n s)))

/-- FCLK_TICK (R29, R283). -/
def execFclkTick (f : Fin 4) (s : State) : Host.Outcome State Fault Refusal :=
  .next (if timSt s = 4 then s else if f = 0 then tickClock none (fclkTickOp 0 s) else fclkTickOp f.val s)

end Sys2Proof.Machine
end

