-- ==== Sys2Proof/Machine/Frames.lean ====
section
/-! DEFINITION. Sys2Proof/Machine/Frames.lean: how Harlet frames leave the device (R42, R47, R60, R61, R348). -/

namespace Sys2Proof.Machine

/-- the number by which `emit` names a port. -/
def portNum : HPort → Nat
  | .a => 0 | .b => 1 | .m => 2 | .izt => 3

/-- Ethernet, IP and UDP header and FCS bytes around a frame, by the form of R347 (R37). [PRESUMED log 46] -/
def overheadOf (peer : Peer) : Nat := if peer.form = 0 then 18 else if peer.form = 1 then 46 else 66

/-- A Harlet frame leaves towards `peer`: from the port, if its link is up, or wrapped to the entry device while PORT_EN.izt
is 1 (R348). -/
def transmit (port : HPort) (peer : Peer) (frame : List Byte) (s : State) : State :=
  if port = .izt then (if isF pgHAP HAP.PORT_EN_izt s then sendManagement 2 7 peer.entry.toNat peer frame s else s)
  else if portUp (portNum port) s then
    emit .harlet (portNum port) ([peer.form, peer.mac.toNat, peer.udp.toNat, peer.ip.toNat] ++ nats frame)
      (ethSent (portNum port) 1 (max 64 (frame.length + overheadOf peer)) s)
  else s

/-- one frame leaves in session `i`, with the session's next sequence (R47). -/
def sendFrame (i kind n : Nat) (body : List Byte) (s : State) : State :=
  match sessionAt i s with
  | none => s
  | some x => transmit x.port x.peer (frameBytes kind n x body) (putSession i { x with txNext := x.txNext + 1 } s)

/-- operation responses as frames hold them: whole, in order, at most 1,400 bytes in each (R42). [DESIGN CHOICE log 15] -/
def packFrames (l : List OpResp) : List (List OpResp) :=
  let r := l.foldl (fun (a : List (List OpResp) × List OpResp × Nat) x =>
    let n := x.bytes.length
    if a.2.2 + n ≤ 1400 ∨ a.2.1 = [] then (a.1, a.2.1 ++ [x], a.2.2 + n) else (a.1 ++ [a.2.1], [x], n)) ([], [], 0)
  if r.2.1 = [] then r.1 else r.1 ++ [r.2.1]

/-- the session's responses leave in response frames (R42); none waits after. [DESIGN CHOICE log 15] -/
def sendResponses (i : Nat) (s : State) : State :=
  match sessionAt i s with
  | none => s
  | some x =>
    (packFrames x.resps).foldl (fun s l => sendFrame i 2 l.length (l.flatMap OpResp.bytes) s)
      (putSession i { x with resps := [], unsent := 0 } s)

/-- one more, or one fewer, operation of the session is outstanding (R50). [DESIGN CHOICE log 15] -/
def holdOp (r : Req) (s : State) : State :=
  match r.origin with
  | .session i =>
    match sessionAt i.val s with
    | none => s
    | some x => putSession i.val { x with outstanding := x.outstanding + 1 } s
  | _ => s

/-- see the log: [DESIGN CHOICE log 15] -/
def freeOp (r : Req) (s : State) : State :=
  match r.origin with
  | .session i =>
    match sessionAt i.val s with
    | none => s
    | some x => putSession i.val { x with outstanding := x.outstanding - 1 } s
  | _ => s

/-- A held operation completes: its response leaves at once in a later response frame (R42), and it is outstanding no more (R50). [DESIGN CHOICE log 15] -/
def lateReply (r : Req) (opcode addr : Nat) (st : Status) (body : List Byte) (s : State) : State :=
  let s1 := reply r opcode addr st body (freeOp r s)
  match r.origin with
  | .session i => sendResponses i.val s1
  | _ => s1

/-- the responses of every session leave: what goes out before a reset begins (R491). -/
def sendAllResponses (s : State) : State := (List.range 8).foldl (fun s i => sendResponses i s) s

end Sys2Proof.Machine
end

