-- ==== Sys2Proof/Machine/Check.lean ====
section
/-! DEFINITION. Sys2Proof/Machine/Check.lean: the general check units CHK0–7 (chapter 16, R407 to R417). -/

namespace Sys2Proof.Machine

def chkOf (k : Nat) (s : State) : ChkS := SMap.get ChkS.reset k s.chk

def modChk (k : Nat) (f : ChkS → ChkS) (s : State) : State := { s with chk := modAt ChkS.reset k f s.chk }

/-- the unit's settings as one computation (R407). -/
def chkCfg (k : Nat) (s : State) : CrcCfg where
  w := getF (pgCHK k) CHK.CFG_width s
  poly := getF (pgCHK k) CHK.POLY_poly s
  init := getF (pgCHK k) CHK.INIT_init s
  refin := isF (pgCHK k) CHK.CFG_refin s
  refout := isF (pgCHK k) CHK.CFG_refout s
  xorout := getF (pgCHK k) CHK.XOROUT_xorout s

/-- bytes that a check occupies (R408). -/
def chkBytes (k : Nat) (s : State) : Nat := (getF (pgCHK k) CHK.CFG_width s + 7) / 8

/-- a check as it stands in a message: most significant byte first, or in the order of chk_lsb (R408). -/
def chkWrite (k v : Nat) (s : State) : List Byte :=
  let l := beBytes (chkBytes k s) v
  if isF (pgCHK k) CHK.CFG_chk_lsb s then l.reverse else l

/-- the check of a message with fold value `f` (R407). -/
def chkOver (k f : Nat) (msg : List Byte) (s : State) : Nat :=
  let fold := beBytes (if isF (pgCHK k) CHK.CFG_fold64 s then 8 else 4) f
  crc (chkCfg k s) (match getF (pgCHK k) CHK.CFG_fold s with
    | 1 => fold ++ msg
    | 2 => msg ++ fold
    | _ => msg)

/-- what a unit makes of a message (R411): its check, whether it passes (none where it is not checked), whether it is too
short to hold its check, and the message that goes on. -/
structure ChkResult where
  check : Option Nat
  pass : Option Bool
  short : Bool
  out : List Byte
  deriving DecidableEq, Repr

/-- R411. -/
def chkRun (k f : Nat) (msg : List Byte) (s : State) : ChkResult :=
  let n := chkBytes k s
  let mode := getF (pgCHK k) CHK.CFG_mode s
  if mode < 2 then
    let c := chkOver k f msg s
    ⟨some c, none, false, if mode = 1 then msg ++ chkWrite k c s else msg⟩
  else if msg.length ≤ n then ⟨none, some false, true, msg⟩
  else
    let body := msg.take (msg.length - n)
    let c := chkOver k f body s
    ⟨some c, some (msg.drop (msg.length - n) == chkWrite k c s), false, if mode = 3 then body else msg⟩

/-- RESULT, LEN, BYTES, the verdict, the counters and the events of a message (R411, R416, R417). [DEDUCED log 74] -/
def chkRecord (k : Nat) (len : Nat) (x : ChkResult) (s : State) : State :=
  let p := pgCHK k
  let s1 := addF p CHK.BYTES_bytes len (setF p CHK.LEN_bytes len (setF p CHK.ST_result_valid 1 s))
  let s2 := match x.check with
    | some c => setF p CHK.RESULT_check c s1
    | none => s1
  let s3 := match x.pass with
    | none => s2
    | some true => addF p CHK.PASS_count 1 (setF p CHK.ST_pass 1 s2)
    | some false => raise p 0 (addF p CHK.FAIL_count 1 (setF p CHK.ST_pass 0 s2))
  raiseIf x.short p 1 s3

/-- A unit is RUNNING while busy or while STREAM.en is 1, and IDLE otherwise (R415). -/
def chkSettle (k : Nat) (s : State) : State :=
  let p := pgCHK k
  followWork p (isF p CHK.ST_busy s || isF p CHK.STREAM_en s) false s

/-! ## The register path (R410, R414) -/

/-- the unit works: not in FAULT (R415), not commanded OFF. -/
def chkWorks (k : Nat) (s : State) : Bool := [stIDLE, stRUNNING, stLOW].contains (act (pgCHK k) s)

/-- CMD.start. [DEDUCED log 74] -/
def chkStartOp (k : Nat) (s : State) : Status × State :=
  let p := pgCHK k
  if isF p CHK.STREAM_en s then (.busy, s)
  else if !chkWorks k s then (.success, s)
  else (.success, chkSettle k (setF p CHK.ST_busy 1 (setF p CHK.ST_result_valid 0 (modChk k (fun x => { x with fed := [] }) s))))

def execChkStart (r : Req) (unit : Fin 8) (s : State) : Host.Outcome State Fault Refusal :=
  .next (asWrite r (pgCHK unit.val) 0x124 (chkStartOp unit.val) s)

/-- DATA: 4 bytes, [31:24] first; ignored with EVENT bit 1 while not busy. -/
def chkDataOp (k v : Nat) (s : State) : Status × State :=
  if !isF (pgCHK k) CHK.ST_busy s then (.success, raise (pgCHK k) 1 s)
  else (.success, modChk k (fun x => { x with fed := x.fed ++ beBytes 4 v }) s)

def execChkData (r : Req) (unit : Fin 8) (word : Word) (s : State) : Host.Outcome State Fault Refusal :=
  .next (asWrite r (pgCHK unit.val) 0x128 (chkDataOp unit.val word.toNat) s)

/-- the message fed, its last DATA word holding `last` bytes (0 for 4). -/
def chkMessage (last : Nat) (fed : List Byte) : List Byte := if last = 0 then fed else fed.take (fed.length - (4 - last))

/-- CMD.finish: the computation completes. -/
def chkFinishOp (k last : Nat) (s : State) : Status × State :=
  let p := pgCHK k
  if !isF p CHK.ST_busy s then (.success, raise p 1 s)
  else
    let msg := chkMessage last (chkOf k s).fed
    let x := chkRun k (getF p CHK.FOLD_value s) msg s
    (.success, chkSettle k (setF p CHK.ST_busy 0 (chkRecord k msg.length x (modChk k (fun y => { y with fed := [] }) s))))

def execChkFinish (r : Req) (unit : Fin 8) (last : BitVec 2) (s : State) : Host.Outcome State Fault Refusal :=
  .next (asWrite r (pgCHK unit.val) 0x124 (chkFinishOp unit.val last.toNat) s)

/-! ## The stream path (R410 to R412, R414) -/

/-- who writes is firmware (R410). -/
def byFirmware (r : Req) : Bool := match r.origin with | .firmware => true | _ => false

/-- a write of STREAM: firmware only, both queues firmware's, not while a register message is busy; setting en starts the
packet count at 0 (R412). -/
def streamOp (r : Req) (k v : Nat) (s : State) : Status × State :=
  let p := pgCHK k
  let en := v / 2 ^ 31 % 2
  let src := bitsOf 16 10 v
  let dst := bitsOf 0 10 v
  if !byFirmware r then (.accessDenied, s)
  else if isF p CHK.ST_busy s ∨ src < 288 ∨ dst < 288 then (.invalidValue, s)
  else
    let s1 := setF p CHK.STREAM_en en (setF p CHK.STREAM_fold_seq (bitsOf 30 1 v)
      (setF p CHK.STREAM_src_queue src (setF p CHK.STREAM_dst_queue dst s)))
    let s2 := if en = 1 ∧ !isF p CHK.STREAM_en s then modChk k (fun x => { x with packets := 0 }) s1 else s1
    (.success, chkSettle k (setF p CHK.ST_stream_active en s2))

def execStreamEnable (r : Req) (unit : Fin 8) (value : Word) (s : State) : Host.Outcome State Fault Refusal :=
  .next (asWrite r (pgCHK unit.val) 0x138 (streamOp r unit.val value.toNat) s)

/-- the fold value of the next packet (R412). -/
def streamFold (k : Nat) (s : State) : Nat :=
  let p := pgCHK k
  let w := if isF p CHK.CFG_fold64 s then 64 else 32
  if isF p CHK.STREAM_fold_seq s then (getF p CHK.FOLD_value s + (chkOf k s).packets) % 2 ^ w else getF p CHK.FOLD_value s

/-- STREAM_PACKET: the unit pops a packet, computes, and pushes the result, or rewinds a packet that fails; while the
destination refuses the packet the source queue holds it (R414). [DEDUCED log 74] -/
def streamPacketOp (k : Nat) (s : State) : State :=
  let p := pgCHK k
  let dst := getF p CHK.STREAM_dst_queue s
  if !isF p CHK.STREAM_en s ∨ !chkWorks k s then s
  else
    match popPkt (getF p CHK.STREAM_src_queue s) s with
    | none => s
    | some (pkt, s1) =>
      let msg : List Byte := pkt.data.map (BitVec.ofNat 8)
      let x := chkRun k (streamFold k s) msg s
      let s2 := chkRecord k msg.length x (modChk k (fun y => { y with packets := y.packets + 1 }) s1)
      let new : StkPkt := ⟨cellsFor x.out.length, none, nats x.out⟩
      if x.pass = some false ∨ !queueEnabled dst s then rewind s2
      else if grantCells dst new.cells s2 then commitPkt dst new s2
      else s

def execStreamPacket (unit : Fin 8) (s : State) : Host.Outcome State Fault Refusal := .next (streamPacketOp unit.val s)

/-! ## Settings (R414, R416) -/

/-- CFG, POLY, INIT, XOROUT and FOLD are closed while busy or while STREAM.en is 1. [DEDUCED log 74] -/
def chkClosed (k : Nat) (s : State) : Bool := isF (pgCHK k) CHK.ST_busy s || isF (pgCHK k) CHK.STREAM_en s

/-- a polynomial of the unit's width: bit 0 set, no bit at or above the width (R416). [DEDUCED log 74] -/
def polyOk (k v : Nat) (s : State) : Bool := v.testBit 0 && decide (v < 2 ^ getF (pgCHK k) CHK.CFG_width s)

end Sys2Proof.Machine
end

