-- ==== Sys2Proof/Machine/Desk.lean ====
section
/-! DEFINITION. Sys2Proof/Machine/Desk.lean: the circulation desk (chapter 14, R372 to R388): posting, dispatch, completion,
cancellation and the limits on a running slip. A slip's state is the list that holds it, so that the five terms of R373
are counted, never stored. -/

namespace Sys2Proof.Machine

/-! ## The desk's parts -/

def hostQ (q : Nat) (s : State) : HostQ := SMap.get HostQ.reset q s.cir.queues

def modHostQ (q : Nat) (f : HostQ → HostQ) (s : State) : State :=
  { s with cir := { s.cir with queues := modAt HostQ.reset q f s.cir.queues } }

def readyList (c : Nat) (s : State) : List Slip := SMap.get [] c s.cir.ready

def setReady (c : Nat) (l : List Slip) (s : State) : State :=
  { s with cir := { s.cir with ready := SMap.put c l s.cir.ready } }

def deskCore (k : Nat) (s : State) : DeskCore := SMap.get DeskCore.reset k s.cir.cores

def modDeskCore (k : Nat) (f : DeskCore → DeskCore) (s : State) : State :=
  { s with cir := { s.cir with cores := modAt DeskCore.reset k f s.cir.cores } }

/-- the Obrov cores. -/
def deskCores : List Nat := List.range 48

/-- the five terms of R373. -/
def queuedSlips (s : State) : List Slip := s.cir.queues.flatMap (fun e => e.2.held)
def readySlips (s : State) : List Slip := s.cir.ready.flatMap Prod.snd
def prefetchedSlips (s : State) : List Slip := s.cir.cores.filterMap (fun e => e.2.pf)
def runningSlips (s : State) : List Slip := s.cir.cores.filterMap (fun e => e.2.run.map RunSlip.slip)

/-- every slip in use. -/
def usedSlips (s : State) : List Slip := queuedSlips s ++ readySlips s ++ prefetchedSlips s ++ runningSlips s

/-- CIR.FREE (R373). -/
def freeSlips (s : State) : Nat := 4096 - (usedSlips s).length

/-- the desk works: the main domain runs and CIR is RUNNING (R386). [DEDUCED log 71] -/
def deskRuns (s : State) : Bool := s.pwr.mainRun && act pgCIR s == stRUNNING

/-- the core is not gated: in device state D2 only cores 0 to 3 work (R475). -/
def corePowered (k : Nat) (s : State) : Bool := getF pgPWR PWR.DSTAT_state s != 2 || decide (k < 4)

/-- the core takes slips of class `c`: enabled, in service and powered, and its mask admits the class (R378, R475). -/
def admits (c k : Nat) (s : State) : Bool :=
  let x := deskCore k s
  x.en && x.phase == 0 && x.mask.testBit c && corePowered k s

/-- no enabled, unfaulted core admits class `c` (R384). -/
def unserved (c : Nat) (s : State) : Bool :=
  deskCores.all (fun k => !((deskCore k s).en && (deskCore k s).phase != 3 && (deskCore k s).mask.testBit c))

/-- EVENT bit 5 when a class has become unserved (R384). -/
def settleUnserved (before s : State) : State :=
  raiseIf ((List.range 8).any (fun c => unserved c s && !unserved c before)) pgCIR 5 s

/-- EVENT bit 0 when FREE first reaches host_floor (R388). -/
def settleFloor (before s : State) : State :=
  let f := getF pgCIR CIR.RESERVE_host_floor s
  raiseIf (decide (freeSlips s ≤ f) && decide (f < freeSlips before)) pgCIR 0 s

/-! ## Posting (R372 to R377) -/

/-- the ver field (R372, R376). -/
def slipOk (b : List Byte) : Bool := fieldAt 0 1 b == 1

/-- a slip number that is free: any of them (R373). [DEDUCED log 71] -/
def newSlipNo (s : State) : Nat :=
  let used := (usedSlips s).map Slip.no
  let c := Config.freeSlip used % 4096
  if used.contains c then ((List.range 4096).find? (fun n => !used.contains n)).getD 0 else c

/-- the slip the desk takes from its 64 bytes, with the fields it sets (R372). -/
def takeSlip (b : List Byte) (source : Nat) (s : State) : Slip where
  no := newSlipNo s
  cls := fieldAt 1 1 b % 8
  notify := (fieldAt 1 1 b).testBit 3
  handler := fieldAt 2 2 b
  tag := fieldAt 4 4 b
  source := source
  posted := timeUs s
  args := sub 16 48 b
  since := s.clk

/-- the slip joins the tail of its class's ready list (R373, R378). -/
def makeReady (x : Slip) (s : State) : State := setReady x.cls (readyList x.cls s ++ [{ x with since := s.clk }]) s

/-- FAB cycles from tick `t` to now. -/
def fabTicks (t : Nat) (s : State) : Nat := 6 * (s.clk - t)

/-- the held requests of hardware channels take free slips, in ascending order (R375, R377). [DEDUCED log 71] -/
def grantHeld (s : State) : State :=
  s.cir.hwHeld.foldl (fun s e =>
    if freeSlips s = 0 then s
    else
      let s1 := addF pgCIR CIR.HW_STALL_cycles (fabTicks e.2.2 s)
        { s with cir := { s.cir with hwHeld := SMap.drop e.1 s.cir.hwHeld } }
      settleFloor s1 (makeReady (takeSlip e.2.1 (16 + e.1) s1) s1)) s

/-- a slip that its poster may not post is counted (R376). -/
def badSlip (s : State) : State := raise pgCIR 6 (addF pgCIR CIR.BAD_SLIP 1 s)

/-- HW_SLIP_POST (R375): ready at once, or held while no slip is free. A channel that holds a request posts no other. -/
def hwSlipPostOp (ch : Nat) (b : List Byte) (s : State) : State :=
  if !deskRuns s ∨ (SMap.find ch s.cir.hwHeld).isSome then s
  else if !slipOk b then badSlip s
  else if freeSlips s = 0 then
    raise pgCIR 1 { s with cir := { s.cir with hwHeld := SMap.put ch (b, s.clk) s.cir.hwHeld } }
  else settleFloor s (makeReady (takeSlip b (16 + ch) s) s)

def execHwSlipPost (channel : Fin 16) (slip : List Byte) (s : State) : Host.Outcome State Fault Refusal :=
  .next (hwSlipPostOp channel.val slip s)

/-- FW_SLIP_POST (R375): ready at once above fw_floor; else the posting handler gets busy and the desk takes nothing. -/
def fwSlipPostOp (b : List Byte) (s : State) : State :=
  if !deskRuns s then s
  else if !slipOk b then badSlip s
  else if freeSlips s ≤ getF pgCIR CIR.RESERVE_fw_floor s then s
  else settleFloor s (makeReady (takeSlip b 32 s) s)

def execFwSlipPost (_core : Fin 48) (slip : List Byte) (s : State) : Host.Outcome State Fault Refusal :=
  .next (fwSlipPostOp slip s)

/-- the queue can take a slip now (R374). -/
def queueOpen (q : Nat) (s : State) : Bool :=
  let x := hostQ q s
  x.en && decide (x.held.length < x.depth) && decide (x.inflight < x.inflightMax) &&
    decide (getF pgCIR CIR.RESERVE_host_floor s < freeSlips s)

/-- a slip enters host slip queue `q` (R374, R376). -/
def enqueueSlip (q : Nat) (b : List Byte) (s : State) : State :=
  let x := takeSlip b q s
  let m := (hostQ q s).classMax
  let s1 := modHostQ q (fun y => { y with held := y.held ++ [{ x with cls := min x.cls m }], inflight := y.inflight + 1 }) s
  settleFloor s (if m < x.cls then addF pgCIR CIR.CLASS_LOWERED 1 s1 else s1)

/-- a SLIP_POST waits for queue `q` (R374): HSQ_STAT.stalls counts the FAB cycles in which one does. -/
def postWait (q : Nat) (s : State) : State :=
  modHostQ q (fun y => if y.waitSince.isNone then { y with waitSince := some s.clk } else y) s

/-- no SLIP_POST waits for queue `q` any more: its cycles are counted. -/
def postWaitEnd (q : Nat) (s : State) : State :=
  if s.cir.posts.any (fun e => e.2.1 == q) then s
  else
    modHostQ q (fun y => match y.waitSince with
      | none => y
      | some t => { y with stalls := min 65535 (y.stalls + fabTicks t s), waitSince := none }) s

/-- SLIP_POST (R48, R374, R376, R386): unit-unavailable while the desk does not run or firmware is in recovery,
invalid-value for another version; otherwise the slip enters its queue and success is sent, or the operation stays
outstanding. [DEDUCED log 18] -/
def slipPostOp (r : Req) (q : Nat) (b : List Byte) (s : State) : State :=
  if !deskRuns s ∨ isF pgFWL FWL.ST_recovery s then reply r 0x86 q .unavailable [] s
  else if !slipOk b then reply r 0x86 q .invalidValue [] s
  else if queueOpen q s && !s.cir.posts.any (fun e => e.2.1 == q) then reply r 0x86 q .success [] (enqueueSlip q b s)
  else postWait q (holdOp r { s with cir := { s.cir with posts := s.cir.posts ++ [(r, q, b)] } })

def execSlipPost (r : Req) (queue : Fin 16) (slip : List Byte) (s : State) : Host.Outcome State Fault Refusal :=
  .next (opStart r 6 queue.val (slipPostOp r queue.val slip) s)

/-- SLIP_POST_ACCEPT (R374): the oldest SLIP_POST that waits for the queue is accepted, and its response is sent. -/
def slipPostAcceptOp (q : Nat) (s : State) : State :=
  if !deskRuns s ∨ !queueOpen q s then s
  else
    match s.cir.posts.find? (fun e => e.2.1 == q) with
    | none => s
    | some e =>
      let s1 := { s with cir := { s.cir with posts := s.cir.posts.erase e } }
      lateReply e.1 0x86 q .success [] (postWaitEnd q (enqueueSlip q e.2.2 s1))

def execSlipPostAccept (queue : Fin 16) (s : State) : Host.Outcome State Fault Refusal :=
  .next (slipPostAcceptOp queue.val s)

/-- every outstanding SLIP_POST completes with unit-unavailable: VIN off, or a reset of the main domain (R386). [DEDUCED log 71] -/
def dropPosts (s : State) : State :=
  s.cir.posts.foldl (fun s e => lateReply e.1 0x86 e.2.1 .unavailable [] s)
    { s with cir := { s.cir with posts := [] } }

/-- SLIP_TAKE (R373, R374): the head of an enabled host slip queue goes into its ready list. -/
def slipTakeOp (q : Nat) (s : State) : State :=
  if !deskRuns s ∨ !(hostQ q s).en then s
  else
    match (hostQ q s).held with
    | [] => s
    | x :: t => makeReady x (modHostQ q (fun y => { y with held := t }) s)

def execSlipTake (queue : Fin 16) (s : State) : Host.Outcome State Fault Refusal := .next (slipTakeOp queue.val s)

/-! ## Dispatch (R378 to R381) -/

/-- the admitting core of lowest number whose prefetch carrel is empty (R378). [DEDUCED log 71] -/
def carrelFor (c : Nat) (s : State) : Option Nat :=
  deskCores.find? (fun k => admits c k s && (deskCore k s).pf.isNone)

/-- One fill of an empty carrel: the head of the highest class that one admits (R378). -/
def fillOne (s : State) : State :=
  match [7, 6, 5, 4, 3, 2, 1, 0].findSome? (fun c =>
      match readyList c s, carrelFor c s with
      | x :: t, some k => some (c, x, t, k)
      | _, _ => none) with
  | none => s
  | some (c, x, t, k) => modDeskCore k (fun y => { y with pf := some x }) (setReady c t s)

/-- the lowest-class prefetched slip among the cores that admit class `c`, lowest core on ties (R379). -/
def victimFor (c : Nat) (s : State) : Option (Nat × Slip) :=
  deskCores.foldl (fun b k =>
    match (deskCore k s).pf with
    | none => b
    | some x =>
      if !admits c k s ∨ c ≤ x.cls then b
      else match b with
        | none => some (k, x)
        | some v => if x.cls < v.2.cls then some (k, x) else b) none

/-- SLIP_WITHDRAW (R379): for the highest class whose head no empty carrel admits, a prefetched slip of a lower class goes
back to the head of its ready list and the head slip takes its carrel; at most one. [DEDUCED log 71] -/
def withdrawOne (s : State) : State :=
  match [7, 6, 5, 4, 3, 2, 1, 0].findSome? (fun c =>
      match readyList c s, carrelFor c s, victimFor c s with
      | x :: t, none, some v => some (c, x, t, v)
      | _, _, _ => none) with
  | none => s
  | some (c, x, t, v) =>
    let s1 := setReady c t s
    let s2 := setReady v.2.cls ({ v.2 with since := s.clk } :: readyList v.2.cls s1) s1
    addF pgCIR CIR.WITHDRAWN 1 (modDeskCore v.1 (fun y => { y with pf := some x }) s2)

/-- CARREL_FILL (R378, R379): up to two empty carrels, then at most one withdrawal. -/
def execCarrelFill (s : State) : Host.Outcome State Fault Refusal :=
  if deskRuns s then .next (withdrawOne (fillOne (fillOne s))) else .next s

/-- SLIP_START (R380): the prefetched slip of a core that runs none starts. -/
def slipStartOp (k : Nat) (s : State) : State :=
  let x := deskCore k s
  match x.run, x.pf with
  | none, some p =>
    if deskRuns s ∧ x.phase = 0 ∧ corePowered k s then
      addF pgCIR CIR.DISPATCHED_slips 1 (modDeskCore k (fun y => { y with pf := none, run := some ⟨p, s.clk, false, false⟩ }) s)
    else s
  | _, _ => s

def execSlipStart (core : Fin 48) (s : State) : Host.Outcome State Fault Refusal := .next (slipStartOp core.val s)

/-- SLIP_AGEING (R381): a head slip that has waited age_us moves to the tail of the next higher class, class 6 at most. [DEDUCED log 71] -/
def slipAgeingOp (c : Nat) (s : State) : State :=
  let age := getF pgCIR CIR.CFG_age_us s
  match readyList c s with
  | [] => s
  | x :: t =>
    if !deskRuns s ∨ age = 0 ∨ 6 ≤ c then s
    else
      let s1 := advanceTo (x.since + age * tickUs) s
      addF pgCIR CIR.AGED 1 (makeReady { x with cls := c + 1 } (setReady c t s1))

def execSlipAgeing (cls : Fin 8) (s : State) : Host.Outcome State Fault Refusal := .next (slipAgeingOp cls.val s)

/-! ## Completion (R382) -/

/-- a slip that is nowhere any more is free: held requests of hardware channels take it (R377). -/
def finishSlip (x : Slip) (core status result : Nat) (s : State) : State :=
  let s1 := addF pgCIR CIR.COMPLETED_slips 1 s
  let s2 :=
    if 16 ≤ x.source then s1
    else if x.notify then modHostQ x.source (fun y => { y with fifo := y.fifo ++ [⟨x.tag, result, core, status⟩] }) s1
    else modHostQ x.source (fun y => { y with inflight := y.inflight - 1 }) s1
  grantHeld s2

/-- SLIP_COMPLETE (R382, R383): the handler returns; a slip that a cancel has matched completes cancel_late, one whose
handler the firmware does not know handler_unknown, with a result that the spec leaves open. [DESIGN CHOICE log 43; DEDUCED log 71] -/
def slipCompleteOp (k result : Nat) (known : Bool) (s : State) : State :=
  match (deskCore k s).run with
  | none => s
  | some x =>
    if !deskRuns s then s
    else
      let s1 := modDeskCore k (fun y => { y with run := none }) s
      if x.late then finishSlip x.slip k 2 result (addF pgCIR CIR.CANCEL_LATE 1 s1)
      else if known then finishSlip x.slip k 0 result s1
      else finishSlip x.slip k 4 ((drawFree s1).1 % 256) (drawFree s1).2

def execSlipComplete (core : Fin 48) (result : Byte) (known : Bool) (s : State) : Host.Outcome State Fault Refusal :=
  .next (slipCompleteOp core.val result.toNat known s)

/-! ## Run limits and core faults (R384) -/

/-- RUN_LIMIT: a slip still running after run_us, reported once. -/
def runLimitOp (k : Nat) (s : State) : State :=
  match (deskCore k s).run with
  | none => s
  | some x =>
    if !deskRuns s ∨ x.overran then s
    else
      let s1 := advanceTo (x.start + getF pgCIR CIR.CFG_run_us s * tickUs) s
      raise pgCIR 2 (addF pgCIR CIR.OVERRUN 1 (modDeskCore k (fun y => { y with run := some { x with overran := true } }) s1))

def execRunLimit (core : Fin 48) (s : State) : Host.Outcome State Fault Refusal := .next (runLimitOp core.val s)

/-- what becomes of the slips of a core that stops: the running one completes with status fault and a result that the
spec leaves open, the prefetched one returns to the head of its ready list. -/
def stopCore (k phase : Nat) (s : State) : State :=
  let x := deskCore k s
  let s1 := modDeskCore k (fun y => { y with run := none, pf := none, phase := phase, phaseAt := s.clk }) s
  let s2 := match x.pf with
    | none => s1
    | some p => setReady p.cls ({ p with since := s.clk } :: readyList p.cls s1) s1
  match x.run with
  | none => s2
  | some r => finishSlip r.slip k 3 ((drawFree s2).1 % 256) (drawFree s2).2

/-- KILL_LIMIT: a slip still running after kill_ms resets its core; EVENT bit 3. [DEDUCED log 71] -/
def killLimitOp (k : Nat) (s : State) : State :=
  let ms := getF pgCIR CIR.CORE_CFG_kill_ms s
  match (deskCore k s).run with
  | none => s
  | some x =>
    if !deskRuns s ∨ ms = 0 then s
    else raise pgCIR 3 (addF pgCIR CIR.KILLED 1 (stopCore k 2 (advanceTo (x.start + ms * tickMs) s)))

def execKillLimit (core : Fin 48) (s : State) : Host.Outcome State Fault Refusal := .next (killLimitOp core.val s)

/-- CORE_RETURN: 5 µs after its reset the core is in service again. -/
def coreReturnOp (k : Nat) (s : State) : State :=
  let x := deskCore k s
  if !deskRuns s ∨ x.phase ≠ 2 then s
  else modDeskCore k (fun y => { y with phase := 0 }) (advanceTo (x.phaseAt + 5 * tickUs) s)

def execCoreReturn (core : Fin 48) (s : State) : Host.Outcome State Fault Refusal := .next (coreReturnOp core.val s)

/-- OBROV_CORE_FAULT: the core stays in FAULT until a warm or cold reset; EVENT bit 4, and bit 5 for a class left unserved. -/
def obrovCoreFaultOp (k : Nat) (s : State) : State :=
  if !s.pwr.mainRun ∨ (deskCore k s).phase = 3 then s
  else settleUnserved s (raise pgCIR 4 (addF pgCIR CIR.CORE_FAULTS 1 (stopCore k 3 s)))

def execObrovCoreFault (core : Fin 48) (s : State) : Host.Outcome State Fault Refusal := .next (obrovCoreFaultOp core.val s)

/-! ## Cancellation (R383) -/

/-- the slip is the one a cancel names. -/
def Slip.matches (q tag : Nat) (x : Slip) : Bool := x.source == q && x.tag == tag

/-- slips that never ran complete with status cancelled; the record's core and result are values that the spec leaves
open. -/
def cancelAll (l : List Slip) (s : State) : State :=
  l.foldl (fun s x =>
    let a := drawFree s
    let b := drawFree a.2
    finishSlip x (a.1 % 64) 1 (b.1 % 256) (addF pgCIR CIR.CANCELLED 1 b.2)) s

/-- CANCEL: every slip of the queue with the tag, in every state. -/
def cancelOp (q : Nat) (s : State) : State :=
  let tag := getF pgCIR CIR.CANCEL_TAG_tag s
  let m := Slip.matches q tag
  let qs := (hostQ q s).held.filter m
  let rs := (readySlips s).filter m
  let ps := (prefetchedSlips s).filter m
  let runs := (runningSlips s).filter m
  let cores := s.cir.cores.map (fun e => (e.1, { e.2 with
    pf := e.2.pf.filter (fun x => !m x)
    run := e.2.run.map (fun x => if m x.slip then { x with late := true } else x) }))
  let s1 := modHostQ q (fun y => { y with held := y.held.filter (fun x => !m x) }) { s with cir := { s.cir with
    ready := s.cir.ready.map (fun e => (e.1, e.2.filter (fun x => !m x))), cores := cores } }
  let s2 := setF pgCIR CIR.CANCEL_RES_queued qs.length (setF pgCIR CIR.CANCEL_RES_ready rs.length
    (setF pgCIR CIR.CANCEL_RES_prefetched ps.length (setF pgCIR CIR.CANCEL_RES_running runs.length s1)))
  cancelAll (qs ++ rs ++ ps) s2

def execCancel (r : Req) (queue : Fin 16) (s : State) : Host.Outcome State Fault Refusal :=
  .next (asWrite r pgCIR 0x164 (fun s => (.success, cancelOp queue.val s)) s)

/-! ## Reads with an effect (R387) -/

/-- CPL_STAT_READ: the selected FIFO's oldest record is popped, its credit returns (R382), its tag is latched. -/
def cplStatOp (r : Req) (s : State) : Nat × State :=
  let q := getF pgCIR CIR.CPL_SEL_queue s
  match (hostQ q s).fifo with
  | [] => (0, s)
  | x :: t =>
    (2 ^ 31 + t.length % 128 * 2 ^ 24 + x.status % 8 * 2 ^ 20 + x.core % 64 * 2 ^ 8 + x.result % 256,
      latchWord r (regAddr pgCIR 0x158) x.tag (modHostQ q (fun y => { y with fifo := t, inflight := y.inflight - 1 }) s))

def execCplStatRead (r : Req) (s : State) : Host.Outcome State Fault Refusal :=
  .next (asRead r pgCIR 0x154 (cplStatOp r) s)

/-- the FAB cycles that SLIP_POSTs have waited for the queue, those of one that waits now included (R374). [DEDUCED log 71] -/
def stallsNow (q : Nat) (s : State) : Nat :=
  let x := hostQ q s
  min 65535 (x.stalls + (match x.waitSince with | some t => fabTicks t s | none => 0))

/-- HW_STALL (R375): the cycles hardware channels have waited, those that wait now included. -/
def hwStallNow (s : State) : Nat :=
  (getF pgCIR CIR.HW_STALL_cycles s + (s.cir.hwHeld.map (fun e => fabTicks e.2.2 s)).sum) % 2 ^ 32

/-- HSQ_STAT_READ: the read returns the stall count and clears it. -/
def hsqStatOp (s : State) : Nat × State :=
  let q := getF pgCIR CIR.HSQ_SEL_queue s
  let x := hostQ q s
  (stallsNow q s * 2 ^ 16 + x.inflight % 128 * 2 ^ 8 + x.held.length % 128,
    modHostQ q (fun y => { y with stalls := 0, waitSince := y.waitSince.map (fun _ => s.clk) }) s)

def execHsqStatRead (r : Req) (s : State) : Host.Outcome State Fault Refusal := .next (asRead r pgCIR 0x148 hsqStatOp s)

/-! ## Settings of the selected core and queue (R387) -/

/-- a write of CORE_CFG: en and class_mask of the selected core, kill_ms of every core. -/
def coreCfgOp (v : Nat) (s : State) : State :=
  let k := getF pgCIR CIR.CORE_SEL_core s
  settleUnserved s (setF pgCIR CIR.CORE_CFG_kill_ms (bitsOf 16 8 v)
    (modDeskCore k (fun x => { x with en := v.testBit 31, mask := v % 256 }) s))

/-- a write of HSQ_CFG. -/
def hsqCfgOp (v : Nat) (s : State) : State :=
  modHostQ (getF pgCIR CIR.HSQ_SEL_queue s) (fun x => { x with
    en := v.testBit 31, classMax := bitsOf 24 3 v, inflightMax := bitsOf 16 7 v, depth := v % 128 }) s

end Sys2Proof.Machine
end

