-- ==== Sys2Proof/Machine/TwinBase.lean ====
section
/-! DEFINITION. Sys2Proof/Machine/TwinBase.lean: roles, join states and messages of a twin pair (chapter 08, R233 to R245,
R267 to R269), which the encode and output operations consult. -/

namespace Sys2Proof.Machine

/-- the device's role: 0 none, 1 follower, 2 lead (R236). -/
def twinRole (s : State) : Nat := getF pgTWN TWN.ROLE_role s

/-- the channel is mirrored by a pair that runs (R233). -/
def mirrored (c : Nat) (s : State) : Bool := act pgTWN s == stRUNNING && (getF pgTWN TWN.CHANS_chans s).testBit c

/-- this device codes the channel as a follower (R235); a channel that it still has to hand over it codes as its lead
(R261). -/
def follows (c : Nat) (s : State) : Bool := twinRole s == 1 && mirrored c s && !s.twn.leaving.contains c

/-- this device leads the channel (R235). -/
def leads (c : Nat) (s : State) : Bool := twinRole s == 2 && mirrored c s

def modTwn (f : TwnS → TwnS) (s : State) : State := { s with twn := f s.twn }

/-- the channels whose join state satisfies `p`, as a mask. -/
def joinMask (p : Join → Bool) (m : SMap Join) : Nat :=
  (List.range 32).foldl (fun n c => match SMap.find c m with
    | some j => if p j then n + 2 ^ c else n
    | none => n) 0

/-- JOINED, WAITING and SETTLING of a follower show its join states (R235, R267). -/
def showJoins (s : State) : State :=
  let m := s.twn.join
  setF pgTWN TWN.JOINED_chans (joinMask (fun j => j == .joined) m)
    (setF pgTWN TWN.SETTLING_chans (joinMask (fun j => j == .settling) m)
      (setF pgTWN TWN.WAITING_chans (joinMask (fun j => j != .joined && j != .settling) m) s))

def joinOf (c : Nat) (s : State) : Option Join := SMap.find c s.twn.join

def setJoin (c : Nat) (j : Join) (s : State) : State := showJoins (modTwn (fun x => { x with join := SMap.put c j x.join }) s)

def dropJoin (c : Nat) (s : State) : State := showJoins (modTwn (fun x => { x with join := SMap.drop c x.join }) s)

/-- the follower codes the channel: its join transaction runs or is complete (R235). -/
def followsRows (c : Nat) (s : State) : Bool :=
  match joinOf c s with
  | some .joining | some .settling | some .joined => true
  | _ => false

/-- a lead sends records of the channel and awaits their acknowledgement (R246). -/
def paired (c : Nat) (s : State) : Bool := leads c s && s.twn.paired.contains c

/-- the bytes of a twin message: the 16-byte header and the body (R242). -/
def twinBytes (kind flags ch row epoch pic : Nat) (body : List Byte) : List Byte :=
  beBytes 1 kind ++ beBytes 1 flags ++ beBytes 1 ch ++ beBytes 1 row ++ beBytes 4 epoch ++ beBytes 4 pic ++
    beBytes 2 body.length ++ beBytes 2 0 ++ body

/-- the virtual lane of a message kind (R241). -/
def twinLane (kind : Nat) : Nat := if kind < 0x0A then 0 else if kind < 0x10 then 3 else 1

/-- a message leaves on the twin link (R241), in this device's epoch. -/
def twinSend (kind flags ch row pic : Nat) (body : List Byte) (s : State) : State :=
  let j := getF pgTWN TWN.CFG_link s
  let m := twinBytes kind flags ch row (getF pgTWN TWN.EPOCH_epoch s) pic body
  izlPost j (twinLane kind) m (emit .twin j (nats m) s)

/-- the device goes solo for every mirrored channel (R246, R253). -/
def goSolo (s : State) : State := setF pgTWN TWN.ST_solo 1 (modTwn (fun x => { x with paired := [], awaits := [] }) s)

/-- the number of a source in patch messages: ING page, or 0x80 and DCH page (R243). -/
def patchSource (pg : Nat) : Nat :=
  if Block.first .dch ≤ pg then 0x80 + (pg - Block.first .dch) else pg - Block.first .ing

/-- On a follower, a page that feeds a mirrored channel asks the lead instead of declaring a number missing (R249). -/
def asksLead (pg : Nat) (s : State) : Bool :=
  twinRole s == 1 && isF pgTWN TWN.ST_link_up s &&
  (List.range 32).any (fun c => follows c s && followsRows c s && echRoot getF c s == pg)

def flowKind (f : Nat) : FlowKind := if f = 0 then .video else if f = 1 then .audio else .anc

/-- the merge of a source's flow. -/
def sourceMerge (src f : Nat) (s : State) : Merge :=
  if 128 ≤ src then (dchOf (src % 16) s).merge else ingMerge (src % 64) (flowKind f) s

def setSourceMerge (src f : Nat) (m : Merge) (s : State) : State :=
  if 128 ≤ src then modDch (src % 16) (fun x => { x with merge := m }) s else setIngMerge (src % 64) (flowKind f) m s

def sourceBits (src f : Nat) : Nat := if 128 ≤ src ∨ f ≠ 0 then 16 else 32

/-- PATCH_REQ_SEND (R243, R249): one PATCH_REQ for at most 8 sequence numbers, which wait for the lead's answer. [DEDUCED log 91] -/
def askLead (src f : Nat) (seqs : List Nat) (s : State) : State :=
  let s1 := setSourceMerge src f (seqs.foldl (fun m u => m.ask u) (sourceMerge src f s)) s
  addF pgTWN TWN.C_patch_req seqs.length (twinSend 0x10 0 0xFF 0 0
    (beBytes 1 src ++ beBytes 1 f ++ beBytes 2 seqs.length ++
      seqs.flatMap (fun q => beBytes 4 (q % 2 ^ sourceBits src f)))
    (modTwn (fun x => { x with patches := x.patches ++ seqs.map (fun q => (src * 8 + f, q)) }) s1))

/-- the follower has asked the lead for packets of the channel's source (R249). -/
def patchesOf (c : Nat) (s : State) : List (Nat × Nat) :=
  s.twn.patches.filter (fun e => e.1 / 8 == patchSource (echRoot getF c s))

end Sys2Proof.Machine
end

