-- ==== Sys2Proof/Machine/Bands.lean ====
section
/-! DEFINITION. Sys2Proof/Machine/Bands.lean: when the consumers of an ingest page read its lines: the ingest deadlines of its bands, and
the rows of the conditioning outputs (R81, R99, R105, R125, R126, R249). -/

namespace Sys2Proof.Machine

/-! ## Read times (R81, R125) -/

/-- `lines` lines of page `pg`, of `height` to the picture, in ns. -/
def linesNs (pg lines height : Nat) (s : State) : Nat :=
  let per := periodOf (pageClock pg s).1
  lines * per.1 * 10 ^ 9 / (per.2 * max 1 height)

/-- When path `p` of unit `u` reads source line `l` of tick `n` (R125): s source lines before the line's nominal end, plus 4 µs; a read
whose nominal time lies before the tick falls at the tick plus 4 µs. [DEDUCED log 37] -/
def pathReadNs (u p n l : Nat) (s : State) : Nat :=
  let pg := pathSource u p s
  let ck := pageClock pg s
  (tickTime ck.1 ck.2 n).toNat + linesNs pg (l + 1 - pathSupport u p s) (sourceFormat getF pg s).lines s + 4000

/-- when encode channel `c`, fed directly, reads the lines of row `k` of tick `n` (R125). -/
def rowReadNs (c n k : Nat) (s : State) : Nat :=
  (tickOf c n s + ((spanNs c (linesTo getF c (k + 1) s) s + 4000 : Nat) : Int)).toNat

/-- the ingest deadline of line `l` of what page `i` fed at tick `n`: its earliest consumer's read; none without a consumer (R81). -/
def lineDeadline (i n l : Nat) (s : State) : Option Nat :=
  ((ingConsumers i s).map (fun w =>
    if 0x2000 ≤ w then pathReadNs ((w - 0x2000) / 8) ((w - 0x2000) % 8) n l s
    else
      let c := w - Block.first .ech
      rowReadNs c n (l / max 1 (ctuSize getF c s)) s)).min?

/-- a band whose deadline is still to come, or has just come: its deadline, its picture's key, its first line and its lines. -/
structure Band where
  at_ : Nat
  key : Nat
  first : Nat
  lines : Nat
  deriving DecidableEq, Repr

/-- The next band of the picture with `key`, fed at tick `n` (R81): from its first line whose deadline has not come, the lines that share
one deadline. -/
def bandOf (i n key : Nat) (s : State) : Option Band :=
  match slotOf key (ingOf i s) with
  | none => none
  | some t => (lineDeadline i n t.dueLines s).bind (fun at_ =>
      if ingLines i s ≤ t.dueLines then none
      else some ⟨at_, key, t.dueLines, (((List.range (ingLines i s - t.dueLines)).map (fun j => t.dueLines + j)).takeWhile
        (fun l => lineDeadline i n l s == some at_)).length⟩)

/-- the page's band whose deadline comes first. -/
def nextBand (i : Nat) (s : State) : Option Band :=
  (((ingOf i s).hist.reverse.filter (fun e => e.kind == 0)).filterMap (fun e => e.key.bind (fun key => bandOf i e.n key s))).foldl
    (fun b x => match b with
      | none => some x
      | some y => if x.at_ < y.at_ then some x else some y) none

/-! ## Deadlines (R81 to R83, R249) -/

/-- a list in pieces of `n`. -/
def pieces {α : Type} (n : Nat) : Nat → List α → List (List α)
  | 0, _ => []
  | fuel + 1, l => if l.isEmpty then [] else l.take n :: pieces n fuel (l.drop n)

/-- A band's deadline (R81, R83, R84, R249): its lines are final and concealed; on a follower a page that feeds a mirrored channel asks the
lead for the band's undecided packets instead, and leaves concealment to the record (R248). [DEDUCED log 91] -/
def bandDue (i : Nat) (b : Band) (s : State) : State :=
  if asksLead (pgING i) s then
    let m := ingMerge i .video s
    let gaps := (m.above b.key (b.first + b.lines)).filter (fun u => (SMap.find u m.expiry).any (fun e => decide (e.end_ < askedEnd)))
    (pieces 8 gaps.length gaps).foldl (fun s q => askLead i 0 q s)
      (modIng i (modSlot b.key (fun t => { t with dueLines := max t.dueLines (b.first + b.lines) })) s)
  else ingestDeadlineOp i b.key b.first b.lines s

/-- the bands of page `i` whose deadline has come, in the order of their deadlines. -/
def bandsDue (i : Nat) : Nat → State → State
  | 0, s => s
  | fuel + 1, s => match nextBand i s with
    | none => s
    | some b => if b.at_ ≤ fabNs s then bandsDue i fuel (bandDue i b s) else s

/-- Every deadline that has come by now takes effect (R81, R126): before a row is recorded or conditioned its lines are final. -/
def allBandsDue (s : State) : State := (s.ing.map Prod.fst).foldl (fun s i => bandsDue i (8 * ingLines i s) s) s

/-- INGEST_DEADLINE (R81 to R84, R249): time reaches the page's next deadline. The command names its band, the first line and how
many; another than the page's next has no deadline to reach. [DESIGN CHOICE log 4] -/
def ingestDeadline (i first lines : Nat) (s : State) : State :=
  match nextBand i s with
  | none => s
  | some b => if b.first = first ∧ b.lines = lines then bandDue i b (reachNs b.at_ s) else s

def execIngestDeadline (i : Fin 64) (first lines : Nat) (s : State) : Host.Outcome State Fault Refusal :=
  .next (ingestDeadline i.val first lines s)

/-! ## Conditioning rows (R99, R101, R105) -/

/-- black in an output's depth, video range (R105). -/
def cndBlack (u m : Nat) (s : State) : Nat :=
  if isF (pgCND u) (CND.OCTL_depth_out m) s then packPx 64 512 512 else packPx 16 128 128

/-- The row of output `m` that its stages give at tick `n`, and black where it is not ready when its consumer reads it, with EVENT bit 2
(R101, R105). Once every output of the path has given its last row, the path has read the picture (R86, R99). -/
def giveRow (u m n row : Nat) (ready : Bool) (f : Feed) (s : State) : State :=
  let p := getF (pgCND u) (CND.OCTL_path m) s
  let smp := if ready then cndSamples u m row f s else List.replicate (getF (pgCND u) (CND.ODIM_width m) s) (cndBlack u m s)
  let s1 := raiseIf (!ready) (pgCND u) 2 (putRow u m n row smp s)
  if pathDone u p n s1 then doneWith (pathSource u p s1) (0x2000 + 8 * u + p) n s1 else s1

/-- CND_OUTPUT_ROW (R99, R101, R105, R125): once its path has read the last source line that the row needs, an output produces it. An
output that is not available gives none; where its source is not RUNNING the unit raises EVENT bit 0. -/
def cndRowOp (u m row : Nat) (ready : Bool) (s : State) : State :=
  let p := getF (pgCND u) (CND.OCTL_path m) s
  if !isF (pgCND u) (CND.OCTL_en m) s || decide (outLines u m s ≤ row) then s
  else if !cndAvailable u m s then raiseIf (pathDark u p s) (pgCND u) 0 s
  else
    let n := rowTick u m row s
    let s1 := allBandsDue (reachNs (pathReadNs u p n (rowNeeds u m row s) s) s)
    match feedOf (pathSource u p s1) n s1 with
    | none => s1
    | some f => giveRow u m n row ready f s1

def execCndOutputRow (u : Fin 4) (m : Fin 16) (row : Nat) (ready : Bool) (s : State) :
    Host.Outcome State Fault Refusal := .next (cndRowOp u.val m.val row ready s)

end Sys2Proof.Machine
end

