-- ==== Sys2Proof/Machine/Output.lean ====
section
/-! DEFINITION. Sys2Proof/Machine/Output.lean: slice rings, stored checks and packetisation (chapter 06, R179 to R202). -/

namespace Sys2Proof.Machine

/-! ## The slice ring (R179 to R182) -/

def segOf (c col : Nat) (s : State) : Seg := SMap.get Seg.reset col (outOf c s).segs

def modSeg (c col : Nat) (f : Seg → Seg) (s : State) : State :=
  modOut c (fun x => { x with segs := modAt Seg.reset col f x.segs }) s

/-- bytes of a segment: size_mib × 1,048,576 / n_cols (R181). -/
def segBytes (g : Nat → Fld → State → Nat) (c : Nat) (s : State) : Nat :=
  g (pgOUT c) OUT.RING_size_mib s * 1048576 / colCount g c s

/-- the slice cap (R181). -/
def sliceCap (g : Nat → Fld → State → Nat) (c : Nat) (s : State) : Nat := g (pgECH c) ECH.RC_CPB_cpb_tokens s + 64

/-- OUT.STATUS.small_ring (R181). -/
def smallRing (c : Nat) (s : State) : Bool := decide (segBytes getF c s < 2 * sliceCap getF c s)

/-- the largest intra floor entry (R181). -/
def intraFloorEntry (g : Nat → Fld → State → Nat) (c : Nat) (s : State) : Nat :=
  floorBound (sliceCtus g c s) 0 + 1024 + 64

def nalBytes (l : List (List Byte)) : Nat := (l.map List.length).sum

/-- bytes of an entry: the header, the NAL data, padding to 64 bytes (R180). -/
def entryBytes (nals : List (List Byte)) : Nat := 64 + (nalBytes nals + 63) / 64 * 64

/-- the channel's slot of the check table for slice_seq `q` (R184). -/
def tableSlot (q : Nat) : Nat := q % 64

/-- the next slice's slot of the check table is held (R182, R184): by then all 64 are, but for what passed out of order. [DEDUCED log 44] -/
def tableFull (c : Nat) (s : State) : Bool :=
  (SMap.find (tableSlot (getF (pgOUT c) OUT.SLICE_SEQ_next s)) (outOf c s).table).isSome

/-- `n` bytes more would take the write pointer past the read pointer (R182). -/
def segFull (c col n : Nat) (s : State) : Bool := decide (segBytes getF c s < (segOf c col s).used + n)

/-- header bytes 0–59 of an entry (R180). -/
def sliceHeader (kind col row pic seqNo len nalCount stamp depart charge : Nat) : List Byte :=
  beBytes 1 1 ++ beBytes 1 kind ++ beBytes 1 col ++ beBytes 1 row ++ beBytes 4 pic ++ beBytes 4 seqNo ++
    beBytes 4 len ++ beBytes 2 nalCount ++ beBytes 2 0 ++ beBytes 4 stamp ++ beBytes 8 (timeForm depart) ++
    beBytes 4 charge ++ beBytes 24 0

/-- the check of an entry: header and NAL data, slice_seq as a 32-bit suffix (R184). -/
def sliceCheck (data : List Byte) (seqNo : Nat) : Nat := crc crc32c (data ++ beBytes 4 seqNo)

/-- what an entry's check runs over. -/
def RingEntry.bytes (e : RingEntry) : List Byte := e.header ++ e.nals.flatten

/-- kind bits 2 and 3: first and last slice of the picture (R180). -/
def kindBits (c col row : Nat) (s : State) : Nat :=
  (if row = 0 ∧ col = 0 then 4 else 0) +
  (if row + 1 = rowCount getF c s ∧ col + 1 = colCount getF c s then 8 else 0)

/-- the entry of a slice of row `r`. -/
def sliceEntry (c col kind charge depart : Nat) (r : EchRow) (nals : List (List Byte)) (s : State) : RingEntry :=
  let seqNo := getF (pgOUT c) OUT.SLICE_SEQ_next s
  let k := kind + kindBits c col r.row s
  let h := sliceHeader k col r.row r.pic seqNo (nalBytes nals) nals.length r.stamp depart charge
  ⟨seqNo, r.pic, r.row, col, k, entryBytes nals, h, nals, sliceCheck (h ++ nals.flatten) seqNo, charge, r.stamp, r.wraps, depart, none,
   none⟩

/-- A slice closes: it takes its place in the segment, its check is stored in the entry and in the check table, slice_seq and the counts
move (R36, R180, R184, R201). [DEDUCED log 44] -/
def closeSlice (c : Nat) (e : RingEntry) (s : State) : State :=
  let p := pgOUT c
  let z := max 1 (segBytes getF c s)
  addF p OUT.SLICE_SEQ_next 1 (addF p OUT.C_coded 1 (addF p OUT.C_pending 1
    (modOut c (fun x => { x with table := SMap.put (tableSlot e.seqNo) (e.seqNo, e.check) x.table }) (modSeg c e.col (fun g =>
    { g with wp := (g.bm + e.len) % z, bm := (g.bm + e.len) % z, used := g.used + e.len,
             peak := max g.peak (g.used + e.len), entries := g.entries ++ [e] }) s))))

/-- The core stalls on its segment (R182): as much of the open entry as there is room for is written; with the check table full nothing
is. Counted, with EVENT bit 4. [DEDUCED log 44] -/
def stallSeg (c col len : Nat) (s : State) : State :=
  let z := max 1 (segBytes getF c s)
  let room := fun g : Seg => if tableFull c s then 0 else min len (z - g.used)
  addF (pgOUT c) OUT.C_bp_events 1 (raise (pgOUT c) 4 (modSeg c col (fun g =>
    { g with wp := (g.bm + room g) % z, peak := max g.peak (g.used + room g), stalled := some s.clk }) s))

/-- the read pointer passes an entry, and its slot of the check table is free (R179, R184). -/
def passEntry (c : Nat) (e : RingEntry) (s : State) : State :=
  let z := max 1 (segBytes getF c s)
  modOut c (fun x => { x with table := x.table.filter (fun t => t.2.1 != e.seqNo) })
    (modSeg c e.col (fun g => { g with rp := (g.rp + e.len) % z, used := g.used - e.len,
                                       entries := g.entries.filter (fun f => f.seqNo != e.seqNo) }) s)

/-- an entry of the channel changes. -/
def modEntry (c seqNo : Nat) (f : RingEntry → RingEntry) (s : State) : State :=
  modOut c (fun x => { x with segs := x.segs.map (fun g =>
    (g.1, { g.2 with entries := g.2.entries.map (fun e => if e.seqNo = seqNo then f e else e) })) }) s

def entriesOf (c : Nat) (s : State) : List RingEntry := (outOf c s).segs.flatMap (fun g => g.2.entries)

/-- the entries of a row, in column order. -/
def rowEntries (c pic row : Nat) (s : State) : List RingEntry :=
  (entriesOf c s).filter (fun e => e.pic == pic && e.row == row)

/-! ## Packets (R188 to R192, R195) -/

/-- one RTP packet of both legs: the same payload, sequence number, timestamp and SSRC (R195), written into the output queue
of each enabled leg (R190). -/
def queuePacket (c tag : Nat) (marker : Bool) (pt ts : Nat) (payload : List Nat) (s : State) : State :=
  let x := outOf c s
  let rtp := [marker.toNat, pt, x.seq, ts, getF (pgOUT c) OUT.SSRC_ssrc s]
  modOut c (fun x => { x with seq := (x.seq + 1) % 2 ^ 16 })
    ([0, 1].foldl (fun s leg => legTakes (pgOUT c) leg tag (x.dropping.contains leg) rtp payload s) s)

/-- the type of a NAL unit: HEVC (RFC 7798) or VVC (RFC 9328). -/
def nalType (vvc : Bool) (nal : List Nat) : Nat :=
  if vvc then (nal.drop 1).headD 0 / 8 else nal.headD 0 / 2 % 64

/-- the two header bytes of `nal` with another type. -/
def nalHeaderAs (vvc : Bool) (t : Nat) (nal : List Nat) : List Nat :=
  let b0 := nal.headD 0
  let b1 := (nal.drop 1).headD 0
  if vvc then [b0, t * 8 + b1 % 8] else [b0 / 128 * 128 + t * 2 + b0 % 2, b1]

/-- the RTP payloads of one NAL unit (R189): itself where it fits, else fragmentation units. `lastOfPic`: it is the
picture's last, which VVC's P bit says. [PRESUMED log 46] -/
def nalPayloads (vvc lastOfPic : Bool) (cap : Nat) (nal : List Nat) : List (List Nat) :=
  if nal.length ≤ cap then [nal]
  else
    let h := nalHeaderAs vvc (if vvc then 29 else 49) nal
    let parts := pieces (max 1 (cap - 3)) nal.length (nal.drop 2)
    let n := parts.length
    parts.zipIdx.map (fun e =>
      let st := if e.2 = 0 then 128 else 0
      let en := if e.2 + 1 = n then 64 else 0
      let pb := if vvc ∧ lastOfPic ∧ e.2 + 1 = n then 32 else 0
      h ++ [st + en + pb + nalType vvc nal % (if vvc then 32 else 64)] ++ e.1)

/-- the non-slice NAL units of a picture: one aggregation packet, or each in a packet of its own (R189). [PRESUMED log 46] -/
def headPayloads (vvc : Bool) (cap : Nat) (l : List (List Nat)) : List (List Nat) :=
  match l with
  | [] => []
  | [x] => nalPayloads vvc false cap x
  | x :: _ =>
    let body := l.flatMap (fun n => [n.length / 256, n.length % 256] ++ n)
    if body.length + 2 ≤ cap then [nalHeaderAs vvc (if vvc then 28 else 48) x ++ body]
    else l.flatMap (nalPayloads vvc false cap)

/-- the filler data of a row in packets of its own (R191): filler data NAL units of `n` bytes in all. -/
def fillerPayloads (vvc : Bool) (cap n : Nat) : List (List Nat) :=
  (pieces (max 1 cap) n (List.replicate n 0xFF)).map (fun l =>
    ((if vvc then [0, 201] else [76, 1]) ++ List.replicate (l.length - 3) 0xFF ++ [0x80]).take l.length)

/-! ### Transport stream (R192) -/

/-- a TS packet waits for its datagram; the seventh sends it, with the timestamp of the picture that opens it. -/
def tsPush (c tag ts : Nat) (pkt : List Nat) (s : State) : State :=
  let w := (outOf c s).tsWait ++ [ts :: pkt]
  if w.length < 7 then modOut c (fun x => { x with tsWait := w }) s
  else queuePacket c tag false 33 ((w.headD []).headD 0) (w.flatMap (List.drop 1))
    (modOut c (fun x => { x with tsWait := [] }) s)

/-- the six bytes of a PCR at `ns` on the 27 MHz clock. [PRESUMED log 46] -/
def pcrBytes (ns : Nat) : List Nat :=
  let t := ns * 27 / 1000
  nats (beBytes 6 ((t / 300 % 2 ^ 33) * 2 ^ 15 + 0x7E00 + t % 300))

/-- the 188 bytes of a TS packet of at most 184 payload bytes (176 with a PCR), stuffed to its length. [PRESUMED log 46] -/
def tsPacket (pid : Nat) (start : Bool) (cc : Nat) (pcr : Option Nat) (l : List Nat) : List Nat :=
  let head := fun afc => [0x47, (if start then 64 else 0) + pid / 256, pid % 256, afc * 16 + cc % 16]
  match pcr with
  | none =>
    if 184 ≤ l.length then head 1 ++ l
    else if l.length = 183 then head 3 ++ [0] ++ l
    else head 3 ++ [183 - l.length, 0] ++ List.replicate (182 - l.length) 0xFF ++ l
  | some ns => head 3 ++ [183 - l.length, 16] ++ pcrBytes ns ++ List.replicate (176 - l.length) 0xFF ++ l

/-- one TS packet of `pid`, its continuity counter running. -/
def tsSend (c tag ts pid : Nat) (start : Bool) (pcr : Option Nat) (l : List Nat) (s : State) : State :=
  let cc := SMap.get 0 pid (outOf c s).cc
  tsPush c tag ts (tsPacket pid start cc pcr l)
    (modOut c (fun x => { x with cc := SMap.set 0 pid ((cc + 1) % 16) x.cc }) s)

/-- bytes of a PES, or of a part of one, as TS packets; a PCR rides on the first. [PRESUMED log 46] -/
def tsData (c tag ts pid : Nat) (start : Bool) (pcr : Option Nat) (l : List Nat) (s : State) : State :=
  let first := match pcr with | none => 184 | some _ => 176
  let s1 := tsSend c tag ts pid start pcr (l.take first) s
  (pieces 184 l.length (l.drop first)).foldl (fun s part => tsSend c tag ts pid false none part s) s1

/-- the five bytes of a PTS. -/
def ptsBytes (t : Nat) : List Nat :=
  [0x21 + t / 2 ^ 30 % 8 * 2, t / 2 ^ 22 % 256, t / 2 ^ 15 % 128 * 2 + 1, t / 2 ^ 7 % 256, t % 128 * 2 + 1]

/-- see the log: [PRESUMED log 46] -/
def pesHeader (stream len pts : Nat) : List Nat :=
  [0, 0, 1, stream, len / 256 % 256, len % 256, 0x80, 0x80, 5] ++ ptsBytes pts

/-- the CRC of a table section (ISO/IEC 13818-1). -/
def sectionCrc : CrcCfg := ⟨32, 0x04C11DB7, 0xFFFFFFFF, false, false, 0⟩

def tableSection (l : List Nat) : List Nat :=
  let b := l.map (BitVec.ofNat 8)
  (0 :: l) ++ nats (beBytes 4 (crc sectionCrc b))

/-- PAT and PMT of one program, number 1 (R192). [PRESUMED log 46] -/
def patSection (pmt : Nat) : List Nat :=
  tableSection [0, 0xB0, 13, 0, 1, 0xC1, 0, 0, 0, 1, 0xE0 + pmt / 256, pmt % 256]

/-- see the log: [PRESUMED log 46] -/
def pmtSection (vvc : Bool) (video audio pairs : Nat) : List Nat :=
  let es := [if vvc then 0x33 else 0x24, 0xE0 + video / 256, video % 256, 0xF0, 0] ++
    (List.range pairs).flatMap (fun k => [6, 0xE0 + (audio + k) / 256, (audio + k) % 256, 0xF0, 6, 5, 4, 0x42, 0x53, 0x53, 0x44])
  tableSection ([2, 0xB0, 13 + es.length, 0, 1, 0xC1, 0, 0, 0xE0 + video / 256, video % 256, 0xF0, 0] ++ es)

/-- The audio PES of a picture (R91, R192): pairs of the ING page at the root of the source, one PES on each audio PID, of what its tick
carries. [DESIGN CHOICE log 47] -/
def tsAudio (c tag n ts pts : Nat) (s : State) : State :=
  let p := pgOUT c
  let root := echRoot getF c s
  if Block.first .dch ≤ root then s
  else
    let smp := tickAudio (root - Block.first .ing) n s
    (List.range (getF p OUT.TS_AUD_pairs s)).foldl (fun s k =>
      let body := nats (Config.st302m (smp.flatMap (fun v => (v.drop (2 * k)).take 2)))
      tsData c tag ts (getF p OUT.TS_AUD_audio_pid s + k) true none (pesHeader 0xBD (body.length + 8) pts ++ body) s) s

/-- The transport stream of one slice (R192): tables every 100 ms, a PES per picture, a PCR on each slice's first packet,
audio with the picture's last slice, by which its samples have come. [DESIGN CHOICE log 47] -/
def tsSlice (c tag : Nat) (e : RingEntry) (s : State) : State :=
  let p := pgOUT c
  let vvc := isF (pgECH c) ECH.FMT_codec s
  let video := getF p OUT.TS_PID_video_pid s
  let x := outOf c s
  let pts := e.wraps % 2 * 2 ^ 32 + e.stamp
  let due := x.tables = 0 ∨ x.tables + 100000000 ≤ e.depart
  let s1 := if due then
      tsSend c tag e.stamp (getF p OUT.TS_PID_pmt_pid s) true none
        (pmtSection vvc video (getF p OUT.TS_AUD_audio_pid s) (getF p OUT.TS_AUD_pairs s))
        (tsSend c tag e.stamp 0 true none (patSection (getF p OUT.TS_PID_pmt_pid s))
          (modOut c (fun x => { x with tables := e.depart }) s))
    else s
  let first := e.kind.testBit 2
  let data := (if first then pesHeader 0xE0 0 pts else []) ++ e.nals.flatMap (fun n => [0, 0, 0, 1] ++ nats n)
  let s2 := tsData c tag e.stamp video first (some e.depart) data s1
  if e.kind.testBit 3 then tsAudio c tag e.pic e.stamp pts s2 else s2

/-! ### A slice's packets -/

/-- PACKETISE (R189, R190): the packets of one slice. The marker is set on the picture's last packet: the slice's last where `ends`. -/
def sendSlice (c tag : Nat) (ends : Bool) (e : RingEntry) (s : State) : State :=
  let p := pgOUT c
  let vvc := isF (pgECH c) ECH.FMT_codec s
  let cap := getF p OUT.PKT_payload_max s
  if getF p OUT.FORM_form s = 1 then tsSlice c tag e s
  else
    let nals := e.nals.map nats
    let body := headPayloads vvc cap nals.dropLast ++ nals.getLast?.toList.flatMap (nalPayloads vvc ends cap)
    body.zipIdx.foldl (fun s x => queuePacket c tag (ends && x.2 + 1 == body.length) (getF p OUT.PKT_pt s) e.stamp x.1 s) s

/-- the packets of a row's filler, sent after its last slice (R191); `ends`: with the picture's last packet among them. -/
def sendFiller (c tag : Nat) (ends : Bool) (f : Filler) (s : State) : State :=
  let p := pgOUT c
  let fill := fillerPayloads (isF (pgECH c) ECH.FMT_codec s) (getF p OUT.PKT_payload_max s) f.bytes
  if getF p OUT.FORM_form s = 1 then
    tsData c tag f.stamp (getF p OUT.TS_PID_video_pid s) false none (fill.flatMap (fun l => [0, 0, 0, 1] ++ l)) s
  else fill.zipIdx.foldl (fun s x => queuePacket c tag (ends && x.2 + 1 == fill.length) (getF p OUT.PKT_pt s) f.stamp x.1 s) s

/-! ## Copy-out (R185, R190, R196, R198) -/

/-- the read pointer passes the slices whose last packet is in every queue (R190). -/
def releaseCopied (c : Nat) (s : State) : State :=
  let waits := fun e : RingEntry => [0, 1].any (fun leg => (SMap.get [] 2 s.stk.stalls).any (fun x =>
    x.queue == legQueue (pgOUT c) leg && some x.pkt.tag == e.tag))
  ((entriesOf c s).filter (fun e => e.copied && !waits e)).foldl (fun s e => passEntry c e s) s

/-- a slice of the row may still have to be sent: a column is open, an entry is not copied out, a re-code is due. -/
def rowWaits (c pic row : Nat) (s : State) : Bool :=
  (echOf c s).rows.any (fun r => r.pic == pic && r.row == row && decide (r.closed.length < colCount getF c s)) ||
  (rowEntries c pic row s).any (fun e => !e.copied) ||
  (outOf c s).recodes.any (fun x => x.entry.pic == pic && x.entry.row == row)

/-- All rows of picture `pic` are recorded, and nothing of it but entry `seqNo` is still to be sent: what is sent now ends it. -/
def endsPicture (c pic seqNo : Nat) (s : State) : Bool :=
  let x := echOf c s
  x.nextPic != pic && !x.rows.any (fun r => r.pic == pic && decide (r.closed.length < colCount getF c s)) &&
  !(entriesOf c s).any (fun e => e.pic == pic && !e.copied && e.seqNo != seqNo) &&
  !(outOf c s).recodes.any (fun y => y.entry.pic == pic)

/-- a slice is sent: its packets are formed and queued under a tag of their own; with both legs disabled or down EVENT bits 5 and 6 are
raised (R198). -/
def copyOut (c : Nat) (e : RingEntry) (s : State) : State :=
  let p := pgOUT c
  let tag := (outOf c s).nextTag
  let ends := endsPicture c e.pic e.seqNo s && !(outOf c s).fillers.any (fun f => f.pic == e.pic)
  let s1 := modEntry c e.seqNo (fun e => { e with tag := some tag })
    (sendSlice c tag ends e (modOut c (fun x => { x with nextTag := x.nextTag + 1 }) s))
  let none_ := !legUsable p (legBase 0) 0 s && !legUsable p (legBase 1) 1 s
  releaseCopied c (raiseIf none_ p 6 (raiseIf none_ p 5 s1))

/-- The fillers of rows whose last slice has been sent go after it (R191); where nothing was `sent`, the row's slices being withheld,
they are dropped. -/
def sendFillers (c : Nat) (sent : Bool) (s : State) : State :=
  ((outOf c s).fillers.filter (fun f => !rowWaits c f.pic f.row s)).foldl (fun s f =>
    let tag := (outOf c s).nextTag
    let s1 := modOut c (fun x => { x with nextTag := x.nextTag + 1, fillers := x.fillers.filter (· != f) }) s
    if sent then sendFiller c tag (endsPicture c f.pic (2 ^ 32) s1 && !(outOf c s1).fillers.any (fun g => g.pic == f.pic)) f s1
    else s1) s

/-- a slice is withheld (R36). -/
def withhold (c : Nat) (e : RingEntry) (s : State) : State :=
  passEntry c e (addF (pgOUT c) OUT.C_withheld 1 (subF (pgOUT c) OUT.C_pending 1 s))

/-- a check-only failure (R185). -/
def checkOnly (c : Nat) (bad : Bool) (s : State) : State :=
  if bad then raise (pgOUT c) 1 (addF (pgOUT c) OUT.C_chk_only 1 s) else s

/-- what a muted, stopped or faulted channel no longer works on. -/
def dropJobs (c : Nat) (s : State) : State :=
  { s with cores := s.cores.map (fun e => (e.1, { e.2 with jobs := e.2.jobs.filter (fun j => j.ch != c) })) }

/-- a mirrored follower channel mutes (R235, R251, R252, R257): its slices are withheld, its account lapses. -/
def muteChannel (c reason : Nat) (j : Join) (s : State) : State :=
  let p := pgECH c
  let s1 := (entriesOf c s).foldl (fun s e => if e.copied then s else withhold c e s) s
  let left := accountOf c s1
  let s2 := setF p ECH.RC_ACCOUNT_tokens 0 (setF p ECH.RC_HRD_tokens 0
    (modEch c (fun x => { x with rows := [], loan := none, live := false }) (dropJobs c s1)))
  let s3 := modTwn (fun t => { t with
    recs := t.recs.filter (fun r => r.ch != c), checks := t.checks.filter (fun k => k.ch != c),
    ownPic := t.ownPic.filter (fun e => e.1 / 2 ^ 40 != c), leadPic := t.leadPic.filter (fun e => e.1 / 2 ^ 40 != c),
    clean := SMap.drop c t.clean, snaps := SMap.drop c t.snaps })
    (modOut c (fun x => { x with recodes := [], fillers := [] }) (lapse c left s2))
  echRefresh (raise pgTWN 6 (setJoin c j (setAct p stMUTED reason s3)))

/-- DIVERGENCE (R251). -/
def diverge (c : Nat) (s : State) : State :=
  raise pgTWN 5 (addF pgTWN TWN.C_diverge 1
    (twinSend 6 0 c 0 (echOf c s).nextPic (beBytes 4 4) (muteChannel c 4 .diverged s)))

/-! ### Reading back (R185) -/

/-- bytes with differences at positions. -/
def flipBytes (l : List Byte) (d : List (Nat × Byte)) : List Byte :=
  l.zipIdx.map (fun e => (d.filter (fun x => x.1 == e.2)).foldl (fun b x => b ^^^ x.2) e.1)

/-- What copy-out reads of an entry: its check over the bytes as read, none after an uncorrectable error, and the two stored copies. -/
def readBack (c : Nat) (e : RingEntry) (f : ReadFault) (s : State) : ReadBack :=
  let table := match SMap.find (tableSlot e.seqNo) (outOf c s).table with | some t => t.2 | none => e.check
  ⟨if f.uncorrectable then none else some (sliceCheck (flipBytes e.bytes f.flips) e.seqNo), Nat.xor e.check f.ring.toNat,
   Nat.xor table f.table.toNat⟩

/-- CHECK_VERDICT on a solo or lead device (R185): matching one copy the slice is sent, the ring copy rewritten where that is the corrupt
one; matching neither it is re-coded. Answers whether it was sent. -/
def leadCopy (c : Nat) (rd : ReadBack) (e : RingEntry) (s : State) : Bool × State :=
  let p := pgOUT c
  let ring := rd.check == some rd.ring
  let table := rd.check == some rd.table
  if ring || table then
    let s1 := if ring then s else modEntry c e.seqNo (fun e => { e with check := rd.table }) s
    (true, copyOut c e (checkOnly c (!(ring && table)) s1))
  else
    (false, raise p 2 (addF p OUT.C_chk_data 1 (addF p OUT.C_replaced 1 (subF p OUT.C_pending 1
      (modOut c (fun x => { x with recodes := x.recodes ++ [⟨e⟩] }) (passEntry c e s))))))

/-- the lead's CHECK for a slice (R250). -/
def leadCheck (c : Nat) (e : RingEntry) (s : State) : Option TwCheck :=
  s.twn.checks.find? (fun k => k.ch == c && k.col == e.col && k.seqNo == e.seqNo)

/-- CHECK_VERDICT on a twin follower (R185, R235, R250, R251): a channel that has not joined withholds its slices, whatever the lead's
CHECK; without that CHECK a joined channel's slice waits; where the recomputed check matches the lead's it is sent; where only a local copy matches the lead's it is withheld; otherwise the channel
diverges. Of local copies that differ from each other and from the lead's the table says nothing. [DESIGN CHOICE log 44] -/
def followerCopy (c : Nat) (rd : ReadBack) (e : RingEntry) (s : State) : Bool × State :=
  let p := pgOUT c
  match leadCheck c e s with
  | none =>
    if joinOf c s ≠ some .joined then (false, withhold c e s)
    else (false, modEntry c e.seqNo (fun e => { e with read := some rd }) s)
  | some k =>
    let s1 := modTwn (fun t => { t with checks := t.checks.filter (fun x => x != k) }) s
    if joinOf c s ≠ some .joined then (false, withhold c e s1)
    else if rd.check = some k.check then (true, copyOut c e (checkOnly c (rd.ring != k.check || rd.table != k.check) s1))
    else if rd.ring = k.check ∨ rd.table = k.check then
      (false, raise p 7 (addF p OUT.C_chk_data 1 (withhold c e s1)))
    else (false, diverge c s1)

def copyEntry (c : Nat) (rd : ReadBack) (e : RingEntry) (s : State) : Bool × State :=
  if follows c s then followerCopy c rd e s else leadCopy c rd e s

/-- the slices that went out, with tags from `first` on, wait for their departure (R190). -/
def pushReady (c pic row due depart n first : Nat) (s : State) : State :=
  if n = 0 then s
  else modOut c (fun x => { x with ready := x.ready ++ [⟨pic, row, due, depart, n, first, x.nextTag - 1⟩] }) s

/-- some entries of a row are copied out together, in column order; filler goes after the row's last slice (R190, R191). -/
def copyRow (c : Nat) (r : EchRow) (depart : Nat) (l : List (RingEntry × ReadBack)) (s : State) : State :=
  let first := (outOf c s).nextTag
  let res := l.foldl (fun (a : Nat × State) x =>
    let y := copyEntry c x.2 x.1 a.2
    (a.1 + y.1.toNat, y.2)) (0, s)
  pushReady c r.pic r.row r.depart depart res.1 first (sendFillers c (res.1 != 0) res.2)

/-! ## OUT states (R198, R199) -/

/-- the slices that have not left are discarded at stop (R36, R198). [DEDUCED log 49] -/
def discardSlices (c : Nat) (s : State) : State :=
  let p := pgOUT c
  let n := getF p OUT.C_pending s
  setF p OUT.C_pending 0 (addF p OUT.C_disc_stop n (modOut c (fun x => { x with
    segs := [], table := [], ready := [], fillers := [], recodes := [], tsWait := [] }) s))

/-- What a newly taken STATE_CMD makes of an OUT page (R198): a generation taken while the page is not OFF has its ring allocated, without
which a page commanded RUNNING waits in STARTING. [DEDUCED log 49] -/
def outCommand (c : Nat) (s : State) : State :=
  let p := pgOUT c
  let k := getF p HDR.CMD_state s
  let a := act p s
  let s0 := if a = stOFF then s else modOut c (fun x => { x with ring := true }) s
  if a = stFAULT ∧ k ≠ stIDLE ∧ k ≠ stOFF then s0
  else if k = stRUNNING then
    if a = stRUNNING then s0
    else if !(outOf c s0).ring then setAct p stSTARTING 5 s0
    else setAct p stRUNNING 0 (setF p OUT.SLICE_SEQ_next 0
      (modOut c (fun x => { x with seq := getF p OUT.SEQ_seq_init s0, cc := [], tables := 0, tsWait := [], slotAt := [] }) s0))
  else if k = stLOW ∧ a = stRUNNING then s0
  else
    let s1 := setAct p k 0 (if a = stRUNNING then discardSlices c s0 else s0)
    if k = stOFF then clearFields p (OUT.rows.filter (fun f => f.acc == Acc.ro)) { s1 with outs := SMap.drop c s1.outs } else s1

/-- an OUT generation is taken at a slice boundary (R14, R199). -/
def outBoundary (c : Nat) (s : State) : State :=
  if pendingGen (pgOUT c) s then outCommand c (takeGen (pgOUT c) s) else s

/-! ## Departure and leg stalls -/

/-- The ns that a packet of `frame` bytes takes of its leg (R190): back to back at burst_mbps, or an interval slot of the linear rate, one
packet of payload_max bytes each. [DEDUCED log 46] -/
def paceNs (c frame : Nat) (s : State) : Nat :=
  let p := pgOUT c
  if isF p OUT.PACE_linear s then
    getF p OUT.PKT_payload_max s * 8 * 10 ^ 8 / max 1 (getF (pgECH c) ECH.RC_RATE_rate_kbps s * getF p OUT.PACE_pct s)
  else frame * 8 * 1000 / max 1 (getF p OUT.PACE_burst_mbps s)

/-- the packet belongs to a row whose departure is still to come. -/
def awaitsDeparture (c : Nat) (k : StkPkt) (s : State) : Bool :=
  (outOf c s).ready.any (fun r => decide (r.first ≤ k.tag) && decide (k.tag ≤ r.last))

/-- when the leg's next packet may leave (R190). -/
def slotNs (c leg : Nat) (s : State) : Nat := max (fabNs s) (SMap.get 0 leg (outOf c s).slotAt)

/-- the head packet of the leg's queue leaves in its slot, on the leg's port, counted in pkt_a or pkt_b; the next slot follows. -/
def legPop (c leg : Nat) (s : State) : Option State :=
  let at_ := slotNs c leg s
  match (queueOf (legQueue (pgOUT c) leg) s).pkts with
  | [] => none
  | k :: _ => (legSends (pgOUT c) leg at_ .media (if leg = 0 then OUT.C_pkt_a else OUT.C_pkt_b) s).map
      (modOut c (fun x => { x with slotAt := SMap.put leg (at_ + paceNs c k.frame s) x.slotAt }))

/-- the packets at the head of a leg's queue that await no departure leave, each in its slot (R190). -/
def popLeg (c leg : Nat) : Nat → State → State
  | 0, s => s
  | fuel + 1, s =>
    match (queueOf (legQueue (pgOUT c) leg) s).pkts with
    | [] => s
    | k :: _ => if awaitsDeparture c k s then s else match legPop c leg s with | none => s | some t => popLeg c leg fuel t

/-- a leg sends what has departed; one held by a received pause keeps it (R196). -/
def sendLeg (c leg : Nat) (s : State) : State :=
  if legHeld (pgOUT c) leg s then s else popLeg c leg (queueOf (legQueue (pgOUT c) leg) s).pkts.length s

/-- the row that departs next. -/
def nextReady (c : Nat) (s : State) : Option Ready :=
  (outOf c s).ready.foldl (fun b r => match b with
    | none => some r
    | some q => if r.depart < q.depart then some r else some q) none

/-- when the first bit of a row leaves: at once, or in the first free slot of a usable leg. -/
def firstBitNs (c : Nat) (s : State) : Nat :=
  (([0, 1].filter (fun leg => legUsable (pgOUT c) (legBase leg) leg s)).map (fun leg => slotNs c leg s)).min?.getD (fabNs s)

/-- DEPARTURE (R36, R128, R130, R190): at the row's departure time its packets leave, back to back or linearly paced; the lateness of the
first bit against the time R125 gives is recorded. [DEDUCED log 41, 46] -/
def departureOp (c : Nat) (s : State) : State :=
  let p := pgOUT c
  match nextReady c s with
  | none => s
  | some r =>
    let s1 := reachNs r.depart s
    let late := firstBitNs c s1 - r.due
    let s2 := sendLeg c 1 (sendLeg c 0 (modOut c (fun x => { x with ready := x.ready.filter (· != r) }) s1))
    let s3 := if late ≤ 5 then s2
      else setF (pgECH c) ECH.DEPART_ERR_max_late_ns (max (min 0xFFFF late) (getF (pgECH c) ECH.DEPART_ERR_max_late_ns s2)) s2
    addF p OUT.C_transmitted r.slices (subF p OUT.C_pending r.slices s3)

def execDeparture (ch : Fin 32) (s : State) : Host.Outcome State Fault Refusal := .next (departureOp ch.val s)

/-- a leg of page `p` has been stalled for `us` µs (R196): its packets of the slice in hand are dropped. -/
def legTimesOut (p leg us : Nat) (s : State) : State :=
  let mine := (SMap.get [] (legSide p) s.stk.stalls).filter (fun x => x.queue == legQueue p leg)
  let since := (mine.map Stall.since).foldl min s.clk
  legDrops p leg mine.length (endStalls (legSide p) (legQueue p leg) (advanceTo (since + us * tickUs) s))

/-- LEG_STALL_TIMEOUT (R196): a leg whose queue stays full or paused for LEG_STALL.us drops its packets and goes on dropping. -/
def legStallTimeoutOp (o : LegOwner) (leg : Nat) (s : State) : State :=
  match o with
  | .out n =>
    let p := pgOUT n.val
    if (outOf n.val s).dropping.contains leg ∨ !(legStalled p leg s || legHeld p leg s) then s
    else releaseCopied n.val (modOut n.val (fun x => { x with dropping := leg :: x.dropping })
      (legTimesOut p leg (getF p OUT.LEG_STALL_us s) s))
  | .snd n =>
    let p := pgSND n.val
    if (sndOf n.val s).dropping.contains leg ∨ !(legStalled p leg s || legHeld p leg s) then s
    else modSnd n.val (fun x => { x with dropping := leg :: x.dropping }) (legTimesOut p leg (getF p SND.LEG_STALL_us s) s)

def execLegStallTimeout (owner : LegOwner) (legB : Bool) (s : State) : Host.Outcome State Fault Refusal :=
  .next (legStallTimeoutOp owner legB.toNat s)

/-- the leg's queue has fallen to its low watermark. -/
def legDrained (p leg : Nat) (s : State) : Bool :=
  underLow (legQueue p leg) s || (queueOf (legQueue p leg) s).count == (queueOf (legQueue p leg) s).low

/-- LEG_DROP_END (R196): the leg's queue has fallen to its low watermark. -/
def legDropEndOp (o : LegOwner) (leg : Nat) (s : State) : State :=
  match o with
  | .out n =>
    if legDrained (pgOUT n.val) leg s then modOut n.val (fun x => { x with dropping := x.dropping.filter (· != leg) }) s else s
  | .snd n =>
    if legDrained (pgSND n.val) leg s then modSnd n.val (fun x => { x with dropping := x.dropping.filter (· != leg) }) s else s

def execLegDropEnd (owner : LegOwner) (legB : Bool) (s : State) : Host.Outcome State Fault Refusal :=
  .next (legDropEndOp owner legB.toNat s)

/-- RING_PEAK.clear (R199): the peak of the segment that RING_SEL names becomes the bytes it holds. -/
def ringPeakClear (c : Nat) (s : State) : State :=
  modSeg c (getF (pgOUT c) OUT.RING_SEL_col s) (fun g => { g with peak := g.used }) s

end Sys2Proof.Machine
end

