-- ==== Sys2Proof/Machine/Ethernet.lean ====
section
/-! DEFINITION. Sys2Proof/Machine/Ethernet.lean: ports A, B and M (chapter 11, R311 to R331). -/

namespace Sys2Proof.Machine

/-! ## Subports (R311, R313 to R315, R325) -/

/-- the lanes of subport `k` of port `i` (R311). -/
def subportLanes (i k : Nat) (s : State) : List Nat :=
  if i = 2 then (if k = 0 then [32] else [])
  else
    let n := 8 / 2 ^ getF (pgETH i) ETH.MODE_split s
    if k < 2 ^ getF (pgETH i) ETH.MODE_split s then (List.range n).map (fun j => 8 * i + n * k + j) else []

/-- the subport that lane `l` belongs to. -/
def subportOfLane (l : Nat) (s : State) : Nat :=
  if l = 32 then 0 else laneIn l / (8 / 2 ^ getF (laneOwner l) ETH.MODE_split s)

/-- Gbit/s of a subport (R311, R313). -/
def subportRate (i : Nat) (s : State) : Nat :=
  if i = 2 then (match getF (pgETH i) ETH.ST_m_speed_act s with | 0 => 1 | 1 => 10 | _ => 25)
  else 800 / 2 ^ getF (pgETH i) ETH.MODE_split s

/-- MGT ticks of `q` pause quanta of 512 bit times on a subport (R321). -/
def quantaTicks (i q : Nat) (s : State) : Nat := (q * 512 + 5 * subportRate i s - 1) / (5 * subportRate i s)

def subportIsUp (i k : Nat) (s : State) : Bool := (getF (pgETH i) ETH.SUBPORTS_up s).testBit k

/-- the firmware on the Obrov cores runs: main domain up, neither in quarantine nor in recovery (R319, R329). -/
def firmwareRuns (s : State) : Bool :=
  s.pwr.mainRun && !isF pgFWL FWL.ST_quarantine s && !isF pgFWL FWL.ST_recovery s

/-- the governing port after a port's usability changed (R275); HOLDOVER waits for the announce receipt timeout (R288). -/
def ptpAfterPort (i : Nat) (s : State) : State := if i = 2 then s else holdoverIf (reselect s)

/-- the legs of a port that has gone down take no packets and stall nothing (R196, R197). -/
def legsOfPortDown (i : Nat) (s : State) : State :=
  if i = 2 then s
  else (List.range 16).foldl (fun s n => legsDown (pgSND n) s)
    ((List.range 32).foldl (fun s c => releaseCopied c (legsDown (pgOUT c) s)) s)

/-- Subport `k`'s link goes down (R325): counted, with EVENT bit 2; with the last one, EVENT bit 1 and STARTING. -/
def subportDown (i k : Nat) (s : State) : State :=
  let p := pgETH i
  let s0 := modEth i (fun x => { x with
    upFrom := SMap.drop k x.upFrom, inSync := x.inSync.filter (· != k),
    paused := x.paused.filter (fun e => e.1 / 8 != k) }) s
  if !subportIsUp i k s then s0
  else
    let up := getF p ETH.SUBPORTS_up s - 2 ^ k
    let s1 := emit .link p [k, 0] (raise p 2 (addF p ETH.LINK_DOWNS_count 1 (setF p ETH.SUBPORTS_up up s0)))
    if up ≠ 0 then s1
    else
      let s2 := raise p 1 s1
      ptpAfterPort i (legsOfPortDown i (if act p s2 = stRUNNING then setAct p stSTARTING 5 s2 else s2))

/-- all subports go down. -/
def portDown (i : Nat) (s : State) : State := (List.range 8).foldl (fun s k => subportDown i k s) s

/-- the subports of the committed mode (R330). -/
def presentMask (i : Nat) (s : State) : Nat :=
  if i = 2 then 1 else 2 ^ (2 ^ getF (pgETH i) ETH.MODE_split s) - 1

/-- lane `l` of a port has trained: the subport's alignment holds from now on once all its lanes have (R325). -/
def portLaneUp (l : Nat) (s : State) : State :=
  let i := laneOwner l - pgETH 0
  let k := subportOfLane l s
  if (subportLanes i k s).all (fun j => laneTrained j s) then
    modEth i (fun x => { x with upFrom := SMap.put k s.clk x.upFrom }) s
  else s

/-- the speed port M runs at (R16, R293, R313). -/
def mSpeed (s : State) : Nat :=
  if timSt s = 4 then 0
  else if isF (pgETH 2) ETH.MODE_an_en s then min (ethOf 2 s).shared (getF (pgETH 2) ETH.MODE_m_speed s)
  else getF (pgETH 2) ETH.MODE_m_speed s

/-- port M shows the speed it runs at while its link is up. [DEDUCED log 92] -/
def showSpeed (s : State) : State :=
  if subportIsUp 2 0 s then setF (pgETH 2) ETH.ST_m_speed_act (mSpeed s) s else s

/-- LINK_UP (R325): alignment has held without fault for up_hold_ms. [DEDUCED log 65] -/
def linkUpOp (i k speed : Nat) (s : State) : State :=
  let p := pgETH i
  match SMap.find k (ethOf i s).upFrom with
  | none => s
  | some t =>
    if !portRuns i s ∨ subportIsUp i k s ∨ !(presentMask i s).testBit k then s
    else
      let s0 := advanceTo (t + getF p ETH.LINK_up_hold_ms s * tickMs) s
      let first := getF p ETH.SUBPORTS_up s0 == 0
      let an := isF p ETH.MODE_an_en s0 && (i == 2 || isF p ETH.MODE_cr s0)
      let s1 := setF p ETH.ST_an_done an.toNat (setF p ETH.ST_local_fault 0 (setF p ETH.ST_remote_fault 0
        (setF p ETH.SUBPORTS_up (getF p ETH.SUBPORTS_up s0 + 2 ^ k) s0)))
      let s2 := if i = 2 then showSpeed (modEth 2 (fun x => { x with shared := speed }) s1) else s1
      let s3 := raise p 3 s2
      ptpAfterPort i (if first then setAct p stRUNNING 0 (raise p 0 s3) else s3)

def execLinkUp (port : Fin 3) (subport : Fin 8) (speed : Fin 3) (s : State) : Host.Outcome State Fault Refusal :=
  .next (linkUpOp port.val subport.val speed.val s)

/-! ## Flow control (R321, R366) -/

/-- the priority is under flow control on port `i` (R361). -/
def underFc (i prio : Nat) (s : State) : Bool :=
  let m := getF (pgETH i) ETH.FC_mode s
  m == 1 || (m == 2 && (getF (pgETH i) ETH.FC_pfc_en s).testBit prio)

/-- the leg match blocks that feed a queue (R366). -/
def queueBlocks (q : Nat) : Option (Nat × List Nat) :=
  match qClass q with
  | 0 => some (pgING q, [0x200, 0x240]) | 1 => some (pgING (q - 64), [0x280, 0x2C0])
  | 2 => some (pgING (q - 128), [0x300, 0x340]) | 3 => some (pgDCH (q - 160), [0x200, 0x240]) | _ => none

/-- the queue's congestion asks for pause on port `i` (R366). -/
def asksPause (i q : Nat) (s : State) : Bool :=
  match queueBlocks q with
  | some (p, bs) => bs.any (fun b => isF p (MATCH.en b) s && getF p (MATCH.port b) s == i)
  | none => decide (qPort i 0 ≤ q) && decide (q ≤ qPort i 2)

/-- the priorities for which port `i` holds XOFF; 802.3x pause counts as priority 0 (R321). -/
def wantedXoff (i : Nat) (s : State) : List Nat :=
  let masks := ((List.range 288).filter (fun q => (queueOf q s).congested && asksPause i q s)).map (fun q => (queueOf q s).prio)
  match getF (pgETH i) ETH.FC_mode s with
  | 1 => if masks.any (· != 0) then [0] else []
  | 2 => (List.range 8).filter (fun k => masks.any (fun m => m.testBit k) && (getF (pgETH i) ETH.FC_pfc_en s).testBit k)
  | _ => []

/-- each up subport sends a pause or PFC frame for a priority with `quanta` (R321). -/
def sendPause (i prio quanta : Nat) (s : State) : State :=
  ((List.range 8).filter (fun k => subportIsUp i k s)).foldl (fun s k =>
    emit .pause (pgETH i) [k, prio, quanta] (ethSent i 1 64 (addF (pgETH i) ETH.PAUSE_TX_frames 1 s))) s

/-- XOFF is sent for the priorities newly asked for, XON for those asked for no more (R321). -/
def settleXoff (i : Nat) (s : State) : State :=
  let want := wantedXoff i s
  let have_ := (ethOf i s).xoff.map Prod.fst
  let s1 := (want.filter (fun k => !(have_.contains k))).foldl (fun s k =>
    modEth i (fun x => { x with xoff := SMap.put k s.clk x.xoff }) (sendPause i k (getF (pgETH i) ETH.FC_quanta s) s)) s
  let s2 := (have_.filter (fun k => !(want.contains k))).foldl (fun s k =>
    modEth i (fun x => { x with xoff := SMap.drop k x.xoff }) (sendPause i k 0 s)) s1
  setF (pgETH i) ETH.ST_tx_xoff (!want.isEmpty).toNat s2

/-- PAUSE_QUANTA_EXPIRY (R321): the pause time of a received XOFF runs out. -/
def execPauseQuantaExpiry (port : Fin 2) (subport prio : Fin 8) (s : State) : Host.Outcome State Fault Refusal :=
  match SMap.find (subport.val * 8 + prio.val) (ethOf port.val s).paused with
  | none => .next s
  | some t => .next (modEth port.val (fun x => { x with paused := SMap.drop (subport.val * 8 + prio.val) x.paused }) (advanceTo t s))

/-- PAUSE_REPEAT (R321): quanta / 2 quanta after the last, the pause that holds longest is sent again; what is asked for no more ends
with XON first. -/
def execPauseRepeat (port : Fin 2) (u : State) : Host.Outcome State Fault Refusal :=
  let i := port.val
  let s := settleXoff i u
  match (ethOf i s).xoff.foldl (fun b e => match b with
    | none => some e | some c => if e.2 < c.2 then some e else some c) (none : Option (Nat × Nat)) with
  | none => .next s
  | some (k, t) =>
    let q := getF (pgETH i) ETH.FC_quanta s
    let s1 := advanceTo (t + quantaTicks i (q / 2) s) s
    .next (modEth i (fun x => { x with xoff := SMap.put k s1.clk x.xoff }) (sendPause i k q s1))

/-! ## Commands and commits (R311, R329, R330) -/

/-- the RO counters of the page, which OFF loses (R329). -/
def ethCounters : List Fld := ETH.rows.filter (fun f => f.acc == .ro && decide (0x200 ≤ f.off))

/-- What a newly taken generation makes of the port (R311, R329). -/
def ethCommand (i : Nat) (s : State) : State :=
  let p := pgETH i
  let c := getF p HDR.CMD_state s
  let s0 := settleXoff i (setF p ETH.SUBPORTS_present (presentMask i s) s)
  let a := act p s0
  if a = stFAULT ∧ c ≠ stIDLE ∧ c ≠ stOFF then s0
  else if c = stRUNNING then
    if a = stRUNNING then lanesCommand p stRUNNING (if i = 2 then showSpeed s0 else s0)
    else lanesCommand p stRUNNING (setAct p stSTARTING 5 s0)
  else if c = stLOW then plainCommand p (lanesCommand p stLOW s0)
  else
    let s1 := setAct p c 0 (lanesCommand p c (portDown i (setF p ETH.ST_an_done 0 s0)))
    if c = stOFF then modEth i (fun x => { x with waiting := [] }) (clearFields p ethCounters s1) else s1

/-- A changed mode trains every lane afresh (R328). -/
def ethMode (i : Nat) (before : Nat) (s : State) : State :=
  if act (pgETH i) s = stSTARTING ∧ before ≠ getF (pgETH i) ETH.MODE_split s * 2 + getF (pgETH i) ETH.MODE_cr s then
    (lanesOf (pgETH i)).foldl (fun s l => laneBringUp l 1 1 s) s
  else s

/-- The port takes the committed generation, and its mode with it (R311, R328, R329). -/
def ethTake (i : Nat) (s : State) : State :=
  let p := pgETH i
  ethMode i (getF p ETH.MODE_split s * 2 + getF p ETH.MODE_cr s) (ethCommand i (takeGen p s))

/-- a frame boundary of a RUNNING port, where it takes a committed generation (R14, R330). [DEDUCED log 22] -/
def ethBoundary (i : Nat) (s : State) : State :=
  if pendingGen (pgETH i) s && act (pgETH i) s == stRUNNING then ethTake i s else s

/-- a port that has fallen back to STARTING takes the generation that waited for a boundary (R69). [DEDUCED log 22] -/
def ethRestart (i : Nat) (s : State) : State :=
  if pendingGen (pgETH i) s && act (pgETH i) s == stSTARTING then ethTake i s else s

/-- LINK_DOWN (R325): alignment lost or a fault seen; a frame in reception is dropped with reason 0x01. [DEDUCED log 65] -/
def linkDownOp (i k : Nat) (cause : DownCause) (mid : Bool) (s : State) : State :=
  if subportLanes i k s = [] ∨ !standbyPage (pgETH i) && !s.pwr.mainRun then s
  else
    let p := pgETH i
    let s0 := if mid ∧ subportIsUp i k s then ethReject i 1 s else s
    let s1 := match cause with
      | .alignment => s0
      | .localFault => raise p 4 (setF p ETH.ST_local_fault 1 s0)
      | .remoteFault => raise p 5 (setF p ETH.ST_remote_fault 1 s0)
    let s2 := subportDown i k s1
    ethRestart i (if (subportLanes i k s2).all (fun j => laneTrained j s2) then
      modEth i (fun x => { x with upFrom := SMap.put k s2.clk x.upFrom }) s2
    else s2)

def execLinkDown (port : Fin 3) (subport : Fin 8) (cause : DownCause) (midFrame : Bool) (s : State) :
    Host.Outcome State Fault Refusal := .next (linkDownOp port.val subport.val cause midFrame s)

/-- PAUSE_FRAME (R321, R327, R328): counted and delivered; if the port's mode honours it, the traffic of its priorities on
that subport is held, or released by a quanta of 0. -/
def pauseFrameOp (i k : Nat) (pfc : Bool) (quanta : List (Nat × Nat)) (u : State) : State :=
  let s := ethBoundary i u
  if !subportIsUp i k s then s
  else
    let s1 := addF (pgETH i) ETH.PAUSE_RX_frames 1 (ethDelivered i (ethReceived i s))
    if getF (pgETH i) ETH.FC_mode s ≠ (if pfc then 2 else 1) then s1
    else
      let l := if pfc then quanta.filter (fun e => underFc i e.1 s)
        else (List.range 8).map (fun j => (j, (quanta.head?.map Prod.snd).getD 0))
      l.foldl (fun s e => modEth i (fun x => { x with
        paused := SMap.set 0 (k * 8 + e.1 % 8) (if e.2 = 0 then 0 else s.clk + quantaTicks i (e.2 % 65536) s) x.paused }) s) s1

def execPauseFrame (port : Fin 2) (subport : Fin 8) (pfc : Bool) (quanta : List (Nat × Nat)) (s : State) :
    Host.Outcome State Fault Refusal := .next (pauseFrameOp port.val subport.val pfc quanta s)

/-! ## The multicast filter (R317, R320) -/

def isMulticast (a : Nat) : Bool :=
  (a / 2 ^ 32 == 0xFFFF && a / 2 ^ 28 % 16 == 14) || a / 2 ^ 120 == 0xFF

/-- the destination address held in the four words of a leg match block. -/
def matchAddr (p b : Nat) (s : State) : Nat :=
  (List.range 4).foldl (fun n i => n * 2 ^ 32 + getF p (MATCH.daddr b i) s) 0

/-- the source address of a leg match block; 0 matches any. -/
def matchSource (p b : Nat) (s : State) : Nat :=
  (List.range 4).foldl (fun n i => n * 2 ^ 32 + getF p (MATCH.saddr b i) s) 0

/-- the PTP groups a port listens to (R273). [DEDUCED log 64] -/
def ptpGroups (i : Nat) (s : State) : List Nat :=
  if i = 2 ∨ !isF pgTIM (if i = 0 then TIM.PTP_CFG_en_a else TIM.PTP_CFG_en_b) s then []
  else
    let t := getF pgTIM TIM.PTP_CFG_transport s
    (if t = 1 then [] else [0xFFFFE0000181]) ++ (if t = 0 then [] else [0xFF0E0000000000000000000000000181])

/-- every leg match block: page, offset. -/
def allBlocks : List (Nat × Nat) :=
  (List.range 64).flatMap (fun i => [0x200, 0x240, 0x280, 0x2C0, 0x300, 0x340].map (fun b => (pgING i, b))) ++
  (List.range 16).flatMap (fun i => [0x200, 0x240].map (fun b => (pgDCH i, b)))

/-- the groups whose addresses port `i`'s filter holds. [DEDUCED log 64] -/
def filterGroups (i : Nat) (s : State) : List Nat :=
  (((allBlocks.filter (fun e => isF e.1 (MATCH.en e.2) s && getF e.1 (MATCH.port e.2) s == i)).map
    (fun e => matchAddr e.1 e.2 s)).filter isMulticast ++ ptpGroups i s).dedup

/-- the filter entries in use: distinct MAC addresses (R320). -/
def filterUsed (i : Nat) (s : State) : Nat := ((filterGroups i s).map groupMac).dedup.length

/-- entries of a port's filter (R320). -/
def filterSize (i : Nat) : Nat := if i = 2 then 16 else 256

/-- a frame of flow 48 waits for its turn on port `i`'s control queue `k` (R316). -/
def hostSend (i k : Nat) (data : List Nat) (s : State) : State :=
  writePkt 4 (qPort i k) ⟨cellsFor (max 64 (data.length + 18)), none, data⟩ s

/-- What a report for a group says (R320): the group, INCLUDE(saddr) of the block that uses it, or 0 for EXCLUDE, and that block's VLAN
tag, 0 for none. -/
def reportFor (i group : Nat) (s : State) : List Nat :=
  match allBlocks.find? (fun e => isF e.1 (MATCH.en e.2) s && getF e.1 (MATCH.port e.2) s == i && matchAddr e.1 e.2 s == group) with
  | some (p, b) => [group, matchSource p b s, if isF p (MATCH.vlan_en b) s then 0x81000000 + getF p (MATCH.vid b) s else 0]
  | none => [group, 0, 0]

/-- MULTICAST_REPORT (R320): firmware sends a report for a group of the filter, or a leave for one that left it. -/
def execMulticastReport (port : Fin 2) (group : BitVec 128) (leave : Bool) (s : State) :
    Host.Outcome State Fault Refusal :=
  let i := port.val
  if firmwareRuns s && portUp i s && isMulticast group.toNat && ((filterGroups i s).contains group.toNat != leave) then
    .next (hostSend i 4 (leave.toNat :: (if leave then [group.toNat] else reportFor i group.toNat s)) s)
  else .next s

/-! ## Receiving (R317 to R319, R322, R79) -/

/-- the frame's priority: its PCP, 0 untagged (R321). -/
def framePrio (f : PortFrame) : Nat := (f.tags.head?.map Prod.fst).getD 0 % 8

def frameVid (f : PortFrame) : Nat := (f.tags.head?.map Prod.snd).getD 0

/-- the payload type that the block at `b` of page `p` asks for: FORM.pt of a decode channel's form 0, else its own (R107, R206).
[DEDUCED log 63] -/
def matchPt (p b : Nat) (s : State) : Nat :=
  if Block.first .dch ≤ p ∧ p < Block.first .dch + 16 ∧ !isF p DCH.FORM_form s then getF p DCH.FORM_pt s else getF p (MATCH.pt b) s

/-- the block at `b` of page `p` matches (R79). -/
def blockMatches (i p b : Nat) (f : PortFrame) (src dst : Nat) (dport : Nat) (pt : Nat) (s : State) : Bool :=
  isF p (MATCH.en b) s && getF p (MATCH.port b) s == i && matchAddr p b s == dst && getF p (MATCH.udp b) s == dport &&
  (matchSource p b s == 0 || matchSource p b s == src) &&
  (!isF p (MATCH.vlan_en b) s || (!f.tags.isEmpty && getF p (MATCH.vid b) s == frameVid f)) && matchPt p b s == pt

/-- the flow and leg a block belongs to, if the page carries the flow and its leg mode takes the leg (R79, R106). -/
def blockFlow (p b : Nat) (s : State) : Option (Flow × Bool) :=
  let leg := b / 0x40 % 2 == 1
  if h : p - pgING 0 < 64 ∧ pgING 0 ≤ p then
    let m := getF p ING.MERGE_leg_mode s
    let k : FlowKind := if b < 0x280 then .video else if b < 0x300 then .audio else .anc
    let en := match k with
      | .video => isF p ING.VFMT_v_en s | .audio => isF p ING.AFMT_a_en s | .anc => isF p ING.ANC_anc_en s
    if en && (m == 2 || m == leg.toNat) then some (.ing ⟨p - pgING 0, h.1⟩ k, leg) else none
  else if h : p - pgDCH 0 < 16 ∧ pgDCH 0 ≤ p then
    let m := getF p DCH.MERGE_leg_mode s
    if m == 2 || m == leg.toNat then some (.dch ⟨p - pgDCH 0, h.1⟩, leg) else none
  else none

/-- the flow leg a media frame belongs to: the first block in page order that matches (R79). [DEDUCED log 63] -/
def matchFlow (i : Nat) (f : PortFrame) (src dst dport pt : Nat) (s : State) : Option (Flow × Bool) :=
  allBlocks.findSome? (fun e => if blockMatches i e.1 e.2 f src dst dport pt s then blockFlow e.1 e.2 s else none)

/-- the queue of a flow. -/
def queueOfFlow : Flow → Nat
  | .ing i k => flowQueue i.val k
  | .dch i => qDch i.val

def flowSeen (fl : Flow) (legB : Bool) (s : State) : State :=
  match fl with | .ing i k => ingSeen i.val k legB s | .dch i => dchSeen i.val legB s

/-- the flow gives a frame that it holds in flight its fate. -/
def flowArrive (w : WaitFrame) (fl : Flow) (fc : Bool) (s : State) : Fate × State :=
  match fl with
  | .ing i k => ingArrive i.val k w.legB fc w.pkt w.stamp w.bytes s
  | .dch i => dchArrive i.val w.legB fc w.pkt w.bytes s

/-- a frame of a flow in flight is dropped by its port: counted on the flow's page as well (R34). [DEDUCED log 63] -/
def flowReject (fl : Flow) (reason : Nat) (s : State) : State :=
  match fl with
  | .ing i k => flowDrop (pgING i.val) (fcBase k) reason (subF (pgING i.val) (FCNT.inflight (fcBase k)) 1 s)
  | .dch i => flowDrop (pgDCH i.val) (fcBase .video) reason (subF (pgDCH i.val) (FCNT.inflight (fcBase .video)) 1 s)

/-- A frame in flight is written to its queue, or not (R358, R360, R361): its fate, and the state with the port's fate
counted unless it waits. -/
def writeFrame (i : Nat) (w : WaitFrame) (fc : Bool) (s : State) : Fate × State :=
  match w.flow with
  | some fl =>
    let r := flowArrive w fl fc s
    match r.1 with
    | .waits => r
    | .dropped n => (r.1, ethDropped i n (subF (pgETH i) ETH.INFLIGHT_frames 1 r.2))
    | _ => (r.1, ethDelivered i (subF (pgETH i) ETH.INFLIGHT_frames 1 r.2))
  | none =>
    if grantCells w.queue (cellsFor w.bytes) s then
      let s1 := commitPkt w.queue ⟨cellsFor w.bytes, none, []⟩ s
      (.queued, if w.queue = qPort i 2 then ethDelivered i (subF (pgETH i) ETH.INFLIGHT_frames 1 s1) else s1)
    else if fc then (.waits, s)
    else (.dropped 6, ethDropped i 6 (subF (pgETH i) ETH.INFLIGHT_frames 1
      (rewind (modQueue w.queue (fun x => { x with drops := x.drops + 1 }) s))))

/-- bytes in the MAC receive buffer (R322). -/
def bufferBytes (i : Nat) (s : State) : Nat := ((ethOf i s).waiting.map WaitFrame.bytes).sum

/-- the frame stays in the MAC receive buffer, or finds it full: reason 0x06, PAUSE_VIOL, EVENT bit 7 (R322). -/
def bufferFrame (i : Nat) (w : WaitFrame) (s : State) : State :=
  if bufferBytes i s + w.bytes ≤ 262144 then modEth i (fun x => { x with waiting := x.waiting ++ [w] }) s
  else
    let s1 := match w.flow with | some fl => flowReject fl 6 s | none => s
    raise (pgETH i) 7 (addF (pgETH i) ETH.PAUSE_VIOL_frames 1 (ethDropped i 6 (subF (pgETH i) ETH.INFLIGHT_frames 1 s1)))

/-- A checked frame goes to its queue: behind the frames of its priority that wait, else at once if a cell is granted. -/
def takeFrame (i : Nat) (w : WaitFrame) (s : State) : State :=
  let s0 := match w.flow with | some fl => flowSeen fl w.legB s | none => s
  let s1 := addF (pgETH i) ETH.INFLIGHT_frames 1 s0
  let fc := underFc i w.prio s
  if fc ∧ (ethOf i s1).waiting.any (fun x => x.prio == w.prio) then bufferFrame i w s1
  else
    let r := writeFrame i w fc s1
    match r.1 with
    | .waits => bufferFrame i w s1
    | _ => r.2

/-- the destination address is one the port accepts (R317). -/
def acceptsMac (i : Nat) (f : PortFrame) (s : State) : Bool :=
  let d := f.dmac.toNat
  let arp := match f.body with | .host .arp _ _ _ => true | _ => false
  let lacp := match f.body with | .lacp _ _ => true | _ => false
  d == portMac i s || (d == 2 ^ 48 - 1 && arp) || (i != 2 && lacp && d == 0x0180C2000002) ||
  ((filterGroups i s).map groupMac).contains d

/-- R318 fails the frame. [DEDUCED log 63] -/
def badHeader (f : PortFrame) : Bool :=
  decide (2 ≤ f.tags.length) || (match f.body with | .udp bad _ _ _ _ => bad | .host _ bad _ _ => bad | _ => false)

/-- HAP.PORT_EN of port `i` (R38). [DEDUCED log 64] -/
def harletOpen (i : Nat) (s : State) : Bool :=
  isF pgHAP (if i = 0 then HAP.PORT_EN_a else if i = 1 then HAP.PORT_EN_b else HAP.PORT_EN_m) s

/-- `d` is an IP address of the port itself: IPV4 while it is not 0, IPV6, or the link-local one (R37, R330). -/
def ownIp (i d : Nat) (s : State) : Bool :=
  let v4 := getF (pgETH i) ETH.IPV4_addr s
  let v6 := portIpv6 i s
  (v4 != 0 && d == 0xFFFF * 2 ^ 32 + v4) || (v6 != 0 && d == v6) || d == linkLocal i s

/-- a UDP frame to `d` is addressed to the port: its own IP address, or a group of its filter (R37). No register loads a group for
Harlet alone, so these are the groups that R320 puts there for others. [DEDUCED log 64] -/
def ipAdmitted (i d : Nat) (s : State) : Bool := ownIp i d s || (filterGroups i s).contains d

/-- the frame's VLAN is the one of the port's PTP instance (R317). -/
def ptpVlan (i : Nat) (f : PortFrame) (s : State) : Bool :=
  let en := if i = 0 then TIM.PTP_VLAN_a_vlan_en else TIM.PTP_VLAN_b_vlan_en
  let vid := if i = 0 then TIM.PTP_VLAN_a_vid else TIM.PTP_VLAN_b_vid
  !isF pgTIM en s || (!f.tags.isEmpty && getF pgTIM vid s == frameVid f)

/-- the frame's VLAN is that of HOST, for host protocols (R317). -/
def hostVlan (i : Nat) (f : PortFrame) (s : State) : Bool :=
  if isF (pgETH i) ETH.HOST_vlan_en s then !f.tags.isEmpty && getF (pgETH i) ETH.HOST_vid s == frameVid f
  else f.tags.isEmpty || frameVid f == 0

/-- the host protocol is one the port speaks: IPv4 only with an address (R319, R330). [DEDUCED log 64] -/
def hostTakes (i : Nat) (k : HostProto) (s : State) : Bool :=
  let v4 := getF (pgETH i) ETH.IPV4_addr s != 0
  match k with
  | .arp | .echo4 => v4
  | .igmp => v4 && i != 2
  | .mld => i != 2
  | .neighbour | .echo6 => true

/-- the queue of ports A and B, and the flow, that claim a good frame (R318): a flow, a PTP instance, a Harlet binding
or a host protocol. -/
def claimOf (i : Nat) (f : PortFrame) (s : State) : Option (Nat × Option (Flow × Bool × MediaPkt)) :=
  match f.body with
  | .udp _ src dst dport use =>
    let flow : Option (Flow × Bool × MediaPkt) := match use with
      | .rtp pt pkt => (matchFlow i f src.toNat dst.toNat dport.toNat pt.toNat s).map (fun x => (x.1, x.2, pkt))
      | .other => none
    match flow with
    | some x => some (queueOfFlow x.1, some x)
    | none =>
      if (dport.toNat = 319 ∨ dport.toNat = 320) ∧ (ptpGroups i s).contains dst.toNat ∧ ptpTakes i s ∧ ptpVlan i f s then
        some (qPort i 0, none)
      else if dport.toNat = getF pgHAP HAP.UDP_PORT_udp_port s ∧ harletOpen i s ∧ ipAdmitted i dst.toNat s then
        some (qPort i 1, none)
      else none
  | .harletRaw => if harletOpen i s then some (qPort i 1, none) else none
  | .host k _ _ _ => if firmwareRuns s && hostTakes i k s && hostVlan i f s then some (qPort i 2, none) else none
  | .lacp _ _ => if firmwareRuns s && isF (pgETH i) ETH.MODE_lacp s then some (qPort i 2, none) else none
  | .other => none

/-- an uncorrectable codeword: counted, EVENT bit 6 at most once a millisecond (R324). -/
def fecUncorrectable (i : Nat) (s : State) : State :=
  let s1 := addF (pgETH i) ETH.FEC_UNCORR_codewords 1 s
  let due := match (ethOf i s).fecAt with | none => true | some t => decide (t + tickMs ≤ s.clk)
  if due then raise (pgETH i) 6 (modEth i (fun x => { x with fecAt := some s1.clk }) s1) else s1

/-- the receive stamp with its board correction (R323). -/
def rxStamp (i : Nat) (s : State) : Nat := ((timeNs s : Int) + ofTwos 16 (getF (pgETH i) ETH.TS_CORR_rx_ns s)).toNat

/-- the answers to a host-protocol frame (R319): of a request for the port's own address its MAC address, of an echo its data, of a
group membership query, 0 for all groups, a report for each of the filter's groups. [DEDUCED log 64] -/
def hostReplies (i : Nat) (k : HostProto) (target : Nat) (data : List Nat) (s : State) : List (List Nat) :=
  let member := fun (v4 : Bool) => ((filterGroups i s).filter (fun g =>
    (g / 2 ^ 32 == 0xFFFF) == v4 && (target == 0 || target == g))).map (fun g => 0 :: reportFor i g s)
  match k with
  | .arp | .neighbour => if ownIp i target s then [portMac i s :: target :: data] else []
  | .echo4 | .echo6 => if ownIp i target s then [target :: data] else []
  | .igmp => member true
  | .mld => member false

/-- what firmware does with a host-protocol frame besides storing it: it answers, or learns that LACP has a subport in or
out of sync (R314, R319). -/
def hostAnswer (i : Nat) (f : PortFrame) (s : State) : State :=
  match f.body with
  | .host k _ target data => (hostReplies i k target.toNat data s).foldl (fun s r => hostSend i 4 r s) s
  | .lacp k inSync => modEth i (fun x => { x with
      inSync := if inSync then k.val :: x.inSync.filter (· != k.val) else x.inSync.filter (· != k.val) }) s
  | _ => s

/-- PORT_FRAME_RECEIVED (R317 to R319, R79, R360, R361): checked in the order of R35's codes, matched, stored. A frame that fails
a check is not passed to a flow, so no flow page counts it (R34); what a queue had taken of it is rewound. [DEDUCED log 63] -/
def portFrameOp (i : Nat) (f : PortFrame) (u : State) : State :=
  let s := ethBoundary i u
  if !portUp i s then s
  else
    let s0 := addF (pgETH i) ETH.FEC_CORR_codewords f.corrected (ethReceived i s)
    let s1 := if f.uncorrectable then fecUncorrectable i s0 else s0
    let claim := claimOf i f s1
    let bad := fun r (s : State) => ethDropped i r (if claim.isSome then rewind s else s)
    if f.uncorrectable ∨ !f.fcsGood then bad 1 s1
    else if f.bytes < 64 ∨ getF (pgETH i) ETH.MTU_bytes s < f.bytes ∨ badHeader f then bad 2 s1
    else if !acceptsMac i f s1 then ethDropped i 3 s1
    else match claim with
      | none => ethDropped i 3 s1
      | some (q, none) => hostAnswer i f (takeFrame i ⟨q, none, false, framePrio f, ⟨0, 0, [], [], [], []⟩, 0, f.bytes - 4, s1.clk⟩ s1)
      | some (q, some (fl, legB, pkt)) =>
        takeFrame i ⟨q, some fl, legB, framePrio f, pkt, rxStamp i s1, f.bytes - 4, s1.clk⟩ s1

def execPortFrameReceived (port : Fin 2) (f : PortFrame) (s : State) : Host.Outcome State Fault Refusal :=
  .next (portFrameOp port.val f s)

/-- PORT_M_FRAME (R317 to R319, R326): the standby responder answers ARP, neighbour solicitation and ICMP echo; Harlet
goes to the engine; nothing else is claimed on port M. -/
def portMFrameOp (f : PortFrame) (u : State) : State :=
  let s := ethBoundary 2 u
  if !portUp 2 s then s
  else
    let s1 := ethReceived 2 s
    if !f.fcsGood ∨ f.uncorrectable then ethDropped 2 1 s1
    else if f.bytes < 64 ∨ getF (pgETH 2) ETH.MTU_bytes s < f.bytes ∨ badHeader f then ethDropped 2 2 s1
    else if !acceptsMac 2 f s1 then ethDropped 2 3 s1
    else match f.body with
      | .host k _ target data =>
        if [HostProto.arp, .neighbour, .echo4, .echo6].contains k && hostTakes 2 k s && hostVlan 2 f s then
          let s2 := ethDelivered 2 s1
          (hostReplies 2 k target.toNat data s2).foldl (fun s r =>
            emit .host (pgETH 2) r (ethSent 2 1 (max 64 (r.length + 18)) s)) s2
        else ethDropped 2 3 s1
      | .harletRaw => if harletOpen 2 s then addF (pgETH 2) ETH.INFLIGHT_frames 1 s1 else ethDropped 2 3 s1
      | .udp _ _ dst dport .other =>
        if dport.toNat = getF pgHAP HAP.UDP_PORT_udp_port s ∧ harletOpen 2 s ∧ ipAdmitted 2 dst.toNat s then addF (pgETH 2) ETH.INFLIGHT_frames 1 s1
        else ethDropped 2 3 s1
      | _ => ethDropped 2 3 s1

def execPortMFrame (f : PortFrame) (s : State) : Host.Outcome State Fault Refusal := .next (portMFrameOp f s)

/-! ## Sending (R315, R316) -/

/-- the packet at the head of control queue `k` of port `i` is sent; a PTP frame whose descriptor asks for a stamp
pushes it (R286, R316). -/
def sendControl (i k : Nat) (s : State) : Option State :=
  match popPkt (qPort i k) s with
  | none => none
  | some (x, s1) => some (emit (if k = 3 then .ptp else .host) (pgETH i) x.data
      (ethSent i 1 (max 64 (x.data.length + 18)) s1))

/-- the head of leg `i` of OUT page `c` is a packet whose paced time has come: its row has departed, its slot is there (R190, R316). -/
def outDue (i c : Nat) (s : State) : Bool :=
  match (queueOf (qOut i c) s).pkts with
  | [] => false
  | k :: _ => !awaitsDeparture c k s && decide (slotNs c i s ≤ fabNs s)

/-- a packet of sender `n` waits on leg `i`, or its next one is due (R224, R316). -/
def sndDue (i n : Nat) (s : State) : Bool :=
  !(queueOf (qSnd i n) s).pkts.isEmpty || (sndOf n s).todo.head?.any (fun k => decide (k.due ≤ fabNs s))

/-- page `p`'s leg on port `i` sends on subport `k` and no received pause holds it, or its subport has gone down (R315, R321). -/
def legFree (i k p : Nat) (s : State) : Bool :=
  let sub := legSubport p i s
  (sub == some k && !legHeld p i s) || !subportActive i sub s

/-- FRAME_TRANSMIT (R315, R316): on its subport, PTP first, then OUT and SND packets whose time has come, then the rest of flow 48;
frames of a priority that a received pause holds wait. -/
def frameTransmitOp (i k : Nat) (u : State) : State :=
  let s := ethBoundary i u
  let own := subportOf i 48 s == some k && !prioHeld i k (getF (pgETH i) ETH.HOST_pcp s) s
  let ptp := if own then sendControl i 3 s else none
  match ptp with
  | some s1 => s1
  | none =>
    match (List.range 32).find? (fun c => legFree i k (pgOUT c) s && outDue i c s) with
    | some c => (legPop c i s).getD s
    | none => match (List.range 16).find? (fun n => legFree i k (pgSND n) s && sndDue i n s) with
      | some n => sndPop n i s
      | none => if own then (sendControl i 4 s).getD s else s

def execFrameTransmit (port : Fin 2) (subport : Fin 8) (s : State) : Host.Outcome State Fault Refusal :=
  .next (if subportIsUp port.val subport.val s then frameTransmitOp port.val subport.val s else s)

/-! ## Counters, commands and commits (R311, R329, R330) -/

/-- DROP_SEL_WRITE (R330, R511): the reason is selected and its counter cleared; the register's other bits are reserved. -/
def execDropSelWrite (r : Req) (port : Fin 3) (value : Word) (s : State) : Host.Outcome State Fault Refusal :=
  let p := pgETH port.val
  .next (asWrite r p 0x218 (fun s =>
    (.success, setF p ETH.DROP_BY_REASON_frames 0 (setF p ETH.DROP_SEL_reason (value.toNat % 16) s))) s)

/-- the fields a RUNNING port keeps (R311). -/
def ethFrozen : List Fld := [ETH.MODE_split, ETH.MODE_cr, ETH.MODE_an_en]

def ethValid (i : Nat) (s : State) : Bool :=
  act (pgETH i) s != stRUNNING || ethFrozen.all (fun f => getSh (pgETH i) f s == getCm (pgETH i) f s)

end Sys2Proof.Machine
end

