-- ==== Sys2Proof/Machine/Encode.lean ====
section
/-! DEFINITION. Sys2Proof/Machine/Encode.lean: a row's life in an encode channel: its record, its release, its slices, its
window close, and the re-codes (chapters 04 to 06, R122 to R139, R149 to R168, R182 to R191). -/

namespace Sys2Proof.Machine

/-! ## What the row's source fed (R132, R137) -/

/-- the RTP timestamp of a picture whose media time is `ns`. -/
def rtpOf (ns : Nat) : Nat := (ns * 90000 + 10 ^ 9 - 1) / 10 ^ 9 % 2 ^ 32

/-- the RTP timestamp of what page `pg` fed; 0 where that is neither a picture nor a repeat. -/
def feedRtp (pg : Nat) (f : Feed) : Nat :=
  if 1 < f.kind then 0 else if Block.first .dch ≤ pg then f.stamp % 2 ^ 32 else rtpOf f.stamp

/-- the feed code of a row (R132, R137): 4 or 5 where the source is not available or fed nothing at the row's tick. -/
def feedCode (c n : Nat) (s : State) : Nat × Option Feed :=
  match (if echSourceUp c s then feedOf (echRoot getF c s) n s else none) with
  | some f => (f.kind, some f)
  | none => (4 + getF (pgECH c) ECH.SRC_unavail_policy s, none)

/-- the source lines that row `k` reads, first and one past the last, with the filter support of a conditioning path
(R125, R132). -/
def sourceLines (c k : Nat) (s : State) : Nat × Nat :=
  let a := linesTo getF c k s
  let b := linesTo getF c (k + 1) s
  let n := getF (pgECH c) ECH.SRC_src s
  if getF (pgECH c) ECH.SRC_src_kind s ≠ 1 then (a, b)
  else
    let h := (sourceFormat getF (cndRoot n s) s).lines
    let oh := max 1 (codedLines getF c s)
    let sup := pathSupport (cndUnit n) (getF (pgCND (cndUnit n)) (CND.OCTL_path (cndOut n)) s) s
    (a * h / oh - sup, min h ((b * h + oh - 1) / oh + sup))

/-- width of the root page's pictures. -/
def rootWidth (c : Nat) (s : State) : Nat :=
  let pg := echRoot getF c s
  if Block.first .dch ≤ pg then dchWidth (pg - Block.first .dch) s else ingWidth (pg - Block.first .ing) s

/-- a map entry's region, as positions in raster order: the 1,024th covers the rest of the picture (R84). -/
def entryRegion (w e : Nat) : Nat × Nat :=
  let pos := e / 2 ^ 48 * w + e / 2 ^ 32 % 2 ^ 16
  let n := e / 2 ^ 16 % 2 ^ 16
  (pos, if n = 0 then 2 ^ 32 else pos + n)

/-- a map entry meets the lines that row `k` reads. -/
def meetsRow (c k : Nat) (s : State) (e : Nat) : Bool :=
  let l := sourceLines c k s
  let w := rootWidth c s
  decide ((entryRegion w e).1 < l.2 * w) && decide (l.1 * w < (entryRegion w e).2)

/-- the entries of the fed picture that meet the lines the row reads (R132). -/
def rowEntriesOf (c k : Nat) (map : List Nat) (s : State) : List Nat := (map.filter (meetsRow c k s)).take 1024

/-! ## The start of a picture (R14, R122 to R124, R143) -/

/-- the channel reads its source no more (R97). -/
def stopReading (c : Nat) (s : State) : State :=
  if getF (pgECH c) ECH.SRC_src_kind s = 1 then s else quitPage (echRoot getF c s) (pgECH c) s

/-- what OFF leaves: the quantities that follow from the committed configuration and its source alone (R147). -/
def echKept : List Fld :=
  [ECH.ROWINFO_rows, ECH.ROWINFO_row_period_ns, ECH.LAT_NS_latency_ns, ECH.RC_FPIC_I_tokens, ECH.RC_FPIC_P_tokens]

/-- the channel's shelf, records and counters are lost (R143). -/
def echClear (c : Nat) (s : State) : State :=
  clearFields (pgECH c) (ECH.rows.filter (fun f => f.acc == Acc.ro && !echKept.contains f)) { s with ech := SMap.drop c s.ech }

/-- what a newly taken STATE_CMD makes of an encode channel (R23, R24, R142, R143). -/
def echCommand (c : Nat) (s : State) : State :=
  let p := pgECH c
  let k := getF p HDR.CMD_state s
  let a := act p s
  if a = stFAULT ∧ k ≠ stIDLE ∧ k ≠ stOFF then s
  else if k = stRUNNING then
    if [stRUNNING, stSTARTING, stSTOPPING, stMUTED].contains a then s else setAct p stSTARTING 1 s
  else if a = stRUNNING then
    if k = stLOW then s else setAct p stSTOPPING 0 (modEch c (fun x => { x with live := false }) s)
  else if a = stSTOPPING then s
  else
    let s1 := if a = stMUTED then accountLeaves c (dropJoin c s) else s
    let s2 := setAct p k 0 s1
    echRefresh (if k = stOFF then echClear c s2 else s2)

/-- whether picture `n` is an IDR (R123, R124, R143). -/
def picIsIdr (c : Nat) (forced : Bool) (s : State) : Bool :=
  let x := echOf c s
  let per := getF (pgECH c) ECH.REFRESH_period s
  forced || x.idrDue || x.idrAt == some x.nextPic || x.pictures == 0 ||
  (getF (pgECH c) ECH.REFRESH_method s == 0 && per != 0 && decide (per ≤ x.cycle + 1))

/-- the cycle position of the picture after the current one, not being an IDR (R123). -/
def nextCycle (c : Nat) (s : State) : Nat :=
  let x := echOf c s
  let per := max 1 (getF (pgECH c) ECH.REFRESH_period s)
  if getF (pgECH c) ECH.REFRESH_method s = 0 then x.cycle + 1
  else if x.curIdr then 0 else (x.cycle + 1) % per

/-- The picture's kind is settled: IDR, join point, place in the cycle; an IDR empties the shelf (R122, R123). The picture joins those
being coded. -/
def startPicture (c : Nat) (forced : Bool) (s : State) : State :=
  let p := pgECH c
  let idr := picIsIdr c forced s
  let pos := nextCycle c s
  let join := idr || (getF p ECH.REFRESH_method s != 0 && pos == 0)
  let since := if join then 0 else min 0xFFFF (getF p ECH.POSITION_since_join s + 1)
  setF p ECH.ST_floor_in_picture 0 (setF p ECH.POSITION_since_join since
    (modEch c (fun x => { x with
      curIdr := idr, curJoin := join, cycle := if idr then 0 else pos, floorOnly := false, loan := none, idrDue := false,
      pictures := x.pictures + 1, lastIdr := if idr then x.nextPic else x.lastIdr, shelf := if idr then [] else x.shelf,
      coding := x.coding ++ [⟨x.nextPic, idr, [], []⟩] }) s))

/-- GENERATION_TAKEN and FORCE_IDR at the record of row 0 (R69, R124, R147). Answers whether the picture is forced. -/
def takeEchGen (c : Nat) (s : State) : Bool × State :=
  let p := pgECH c
  if !pendingGen p s then (false, s)
  else
    let forced := getCm p ECH.FORCE_idr s == 1
    let s1 := takeWith p (echCommand c) s
    (forced, if forced then raiseIf (act p s1 == stRUNNING) p 3 (setSh p ECH.FORCE_idr 0 s1) else s1)

/-! ## Timestamps (R193) -/

/-- the RTP timestamp of picture `n`, whose row 0 has the feed and source timestamp given. -/
def stampPicture (c n feed rtp : Nat) (s : State) : State :=
  let p := pgOUT c
  let x := echOf c s
  let off := getF p OUT.TS_OFFSET_offset s
  let per := periodOf x.rate
  let tick := (tickSteps x.rate x.phase 90000 n + off) % 2 ^ 32
  let src := (rtp + off) % 2 ^ 32
  let r : Nat × Option Nat × Nat :=
    if feed = 0 then (if isF p OUT.TSTAMP_ts_tick s then tick else src, some src, 0)
    else match x.tsLast with
      | none => (tick, none, 0)
      | some l => (if isF p OUT.TSTAMP_ts_tick s then tick else
          (l + (x.tsM + 1) * 90000 * per.1 / per.2) % 2 ^ 32, some l, x.tsM + 1)
  modEch c (fun x => { x with
    tsCur := r.1, tsLast := r.2.1, tsM := r.2.2,
    wraps := if r.1 < x.tsCur ∧ 1 < x.pictures then x.wraps + 1 else x.wraps }) s

/-! ## The record (R132, R133, R136, R137) -/

/-- the effort the governors allow the channel (R136, R245). -/
def effortNow (c : Nat) (s : State) : Nat :=
  let own := getF pgHLT HLT.GOV_STAT_level s
  if leads c s then min own s.twn.govLevel else own

/-- EFFORT_SAMPLE (R136): `level` is the governor's. -/
def sampleEffort (c eff level : Nat) (s : State) : State :=
  let p := pgECH c
  let governed := decide (level < getF p ECH.EFFORT_effort_max s)
  let was := isF p ECH.EFFORT_governed s
  let fell := governed && decide (eff < getF p ECH.EFFORT_effort_act s)
  setF p ECH.EFFORT_effort_act eff (setF p ECH.EFFORT_governed governed.toNat (setF p ECH.ST_governed governed.toNat
    (raiseIf (!governed && was) p 5 (raiseIf fell p 4 s))))

/-- SOURCE_UNAVAILABLE (R137): the status, and EVENT bits 1 and 2 at its changes. -/
def noteSource (c feed : Nat) (s : State) : State :=
  let p := pgECH c
  let un := decide (4 ≤ feed)
  let was := isF p ECH.ST_src_unavail s
  setF p ECH.ST_src_unavail un.toNat (raiseIf (!un && was) p 2 (raiseIf (un && !was) p 1 s))

/-- what a record holds besides its place. -/
structure RecBody where
  feed : Nat
  rtp : Nat
  effort : Nat
  governed : Bool
  genChange : Bool
  grant : Option (Nat × Nat)
  entries : List Nat
  deriving DecidableEq, Repr

/-- the 32-byte header and the entries of a record (R132). -/
def recordBytes (c n k : Nat) (b : RecBody) (s : State) : List Byte :=
  let p := pgECH c
  let flags := b.genChange.toNat + 2 * b.grant.isSome.toNat + 4 * b.governed.toNat
  let mux := if isMember c s then getF (pgMUX (groupOf c s)) HDR.gen_applied s else 0
  let g := b.grant.getD (0, 0)
  let h := beBytes 1 1 ++ beBytes 1 c ++ beBytes 1 k ++ beBytes 1 flags ++ beBytes 4 n ++ beBytes 1 b.feed ++
    beBytes 1 b.effort ++ beBytes 2 b.entries.length ++ beBytes 4 b.rtp ++ beBytes 2 (getF p HDR.gen_applied s) ++
    beBytes 2 (getF pgRCL HDR.gen_applied s) ++ beBytes 2 mux ++ beBytes 2 g.1 ++ beBytes 4 g.2
  let e := b.entries.flatMap (beBytes 8)
  h ++ beBytes 4 (crc crc32c (h ++ e ++ beBytes 8 (n * 2 ^ 32 + k))) ++ e

/-- the header of the last record stands in DREC0–7 (R133). -/
def showRecord (c : Nat) (bytes : List Byte) (s : State) : State :=
  (List.range 8).foldl (fun s i => setF (pgECH c) (ECH.DREC_header i) (fieldAt (4 * i) 4 bytes) s) s

/-- the record of row k waits until row k − 2 has closed (R156). -/
def recordBlocked (c : Nat) (s : State) : Bool :=
  match (echOf c s).rows.reverse with
  | _ :: r :: _ => decide (r.closed.length < colCount getF c s)
  | _ => false

/-- A record that is being formed, with what its parts settle: channel, picture and row, what the lead's record gives (R248), whether a
generation of the channel is taken here, and, as they come, feed, source timestamp, effort, entries, RC_ACCRUED before the row's accrual,
the grant settled, the filler. -/
structure Plan where
  c : Nat
  n : Nat
  k : Nat
  lead : Option RecBody
  fresh : Bool
  feed : Nat
  rtp : Nat
  eff : Nat
  entries : List Nat
  before : Nat
  grant : Option (Nat × Nat)
  filler : Nat
  deriving DecidableEq, Repr

/-- What the record takes from the channel's own state, or, on a twin follower, from the lead's record (R133, R136, R137, R248): the
generations, at row 0 the start of the picture and its timestamp, feed, effort and concealment. None where the generation taken stops the
channel. -/
def openRecord (c : Nat) (lead : Option RecBody) (s : State) : Option Plan × State :=
  let p := pgECH c
  let n := (echOf c s).nextPic
  let k := (echOf c s).nextRow
  let g := if k = 0 then takeEchGen c s else (false, s)
  let s0 := takeGen pgRCL g.2
  if !(echOf c s0).live then (none, s0)
  else
    let s1 := if k = 0 then startPicture c g.1 s0 else s0
    let own := feedCode c n s1
    let feed := match lead with | none => own.1 | some b => b.feed
    let rtp := match lead with
      | none => (own.2.map (feedRtp (echRoot getF c s1))).getD 0
      | some b => b.rtp
    let level := effortNow c s1
    let eff := match lead with | none => min (getF p ECH.EFFORT_effort_max s1) level | some b => b.effort
    let s2 := sampleEffort c eff (if lead.isNone then level else eff) (noteSource c feed s1)
    let s3 := if k = 0 then
        stampPicture c n feed rtp (addF p ECH.FEED_SUBST_pictures (if 1 ≤ feed then 1 else 0) s2)
      else s2
    let entries := match lead with
      | none => rowEntriesOf c k ((own.2.map Feed.map).getD []) s3
      | some b => b.entries
    (some ⟨c, n, k, lead, decide (k = 0) && pendingGen p s, feed, rtp, eff, entries, getF p ECH.RC_ACCRUED_tokens s3, none, 0⟩, s3)

/-- step 2 of R168: the loan due at this record is settled or missed; a follower takes what the lead's record grants (R169). -/
def planGrant (x : Plan) (s : State) : Plan × State :=
  let due := match (echOf x.c s).loan with
    | some l => if l.pic = x.n ∧ l.row = x.k then l.granted.map (fun t => (l.ref, t)) else none
    | none => none
  match x.lead with
  | some b => match b.grant with
    | some g => ({ x with grant := some g },
        takeGrant x.c g.2 (addF (pgMUX (groupOf x.c s)) MUX.RECV_tokens g.2 s))
    | none => (x, settleLoan x.c x.n x.k s)
  | none => ({ x with grant := due }, settleLoan x.c x.n x.k s)

/-- step 3 of R168: the account is held at its cap and the previous picture settled (R151, R166). -/
def planSettle (x : Plan) (s : State) : Plan × State :=
  let a := capAccount x.c x.n x.k s
  ({ x with filler := a.1 }, settlePicture x.c x.n x.k a.2)

/-- the complexities that the estimator will have of this row (R129): those of this and the previous picture are kept. -/
def noteComplexity (c n k feed : Nat) (s : State) : State :=
  let v := rowComplexity c n k feed s
  modEch c (fun x => { x with stats := x.stats.filter (fun e => decide (n ≤ e.1 + 1)) ++ [(n, k, v)] }) s

/-- the row is formed; a record that comes late delays the core's start to 2 µs after it (R126, R253). -/
def pushRow (x : Plan) (budget qp : Nat) (s : State) : State :=
  let c := x.c
  let p := pgECH c
  let y := echOf c s
  let late := if recordNs c x.n x.k s + 10 < fabNs s then fabNs s + 2000 else 0
  let r : EchRow :=
    { pic := x.n, row := x.k, budget := budget, floor := floorNow c x.k s, feed := x.feed, stamp := y.tsCur, wraps := y.wraps,
      release := max (releaseNs c x.n x.k s) late, close := closeNs c x.n x.k s, depart := departNs c x.n x.k s, source := x.rtp,
      qp := qp, effort := x.eff, qpMin := getF p ECH.RC_QP_qp_min s, qpMax := getF p ECH.RC_QP_qp_max s,
      conflict := isF pgRCL RCL.POLICY_qp_conflict s, kind := 1 + getF p ECH.PRED_structure s, refs := getF p ECH.PRED_active_refs s,
      refresh := refreshAt c s, closed := [], charges := [], phys := [], filler := x.filler, released := false, windowClosed := false,
      late := false, allFloor := true, overQp := false, forced := [], idr := y.curIdr, join := y.curJoin,
      fromLead := x.lead.isSome, settled := false }
  let last := decide (rowCount getF c s ≤ x.k + 1)
  modEch c (fun y => { y with
    rows := y.rows ++ [r], nextPic := if last then x.n + 1 else x.n, nextRow := if last then 0 else x.k + 1 }) s

/-- step 4 of R168: QP, desired spend and budget, the row, and a request for a loan (R156, R163). -/
def planBudget (x : Plan) (s : State) : State :=
  let est := estimatorIn x.c x.n x.k x.feed s
  let qp := chosenQp x.c est s
  let d := desired x.c (floorNow x.c x.k s) (getF (pgECH x.c) ECH.RC_ACCRUED_tokens s - x.before) qp est s
  let b := setBudget x.c x.n x.k d s
  askLoan x.lead.isNone x.c x.n x.k d (pushRow x b.1 qp (noteComplexity x.c x.n x.k x.feed b.2))

/-- the record stands in DREC0–7, and a lead sends it to its follower (R132, R133, R246). -/
def closeRecord (x : Plan) (s : State) : State :=
  let c := x.c
  let y := echOf c s
  let rcl := getF pgRCL HDR.gen_applied s
  let mux := if isMember c s then getF (pgMUX (groupOf c s)) HDR.gen_applied s else 0
  let changed := x.fresh || y.genRcl != rcl || y.genMux != mux
  let b : RecBody := ⟨x.feed, x.rtp, x.eff, isF (pgECH c) ECH.EFFORT_governed s, changed, x.grant, x.entries⟩
  let bytes := recordBytes c x.n x.k b s
  let s1 := showRecord c bytes (modEch c (fun x => { x with genRcl := rcl, genMux := mux }) s)
  if x.lead.isNone && paired c s1 then
    addF pgTWN TWN.C_rec_tx 1 (twinSend 1 0 c x.k x.n bytes
      (modTwn (fun t => { t with awaits := t.awaits ++ [(c, x.n, x.k, s1.clk)] }) s1))
  else s1

/-- a step of R168, over the records of one cycle in ascending channel number. -/
def eachPlan (f : Plan → State → Plan × State) (l : List Plan) (s : State) : List Plan × State :=
  l.foldl (fun a x => let r := f x a.2; (a.1 ++ [r.1], r.2)) ([], s)

/-- The records of one FAB cycle, in ascending channel number, by the steps of R168: MUX generations are in force first, then accruals,
grants, returns and settlements, budgets and requests, answers (R150, R151, R156, R160 to R166). -/
def formRows (l : List (Nat × Option RecBody)) (s : State) : State :=
  let a := l.foldl (fun (a : List Plan × State) e =>
    let r := openRecord e.1 e.2 a.2
    (a.1 ++ r.1.toList, r.2)) ([], s)
  let s1 := a.1.foldl (fun s x => groupBoundary x.c x.n x.k s) a.2
  let s2 := a.1.foldl (fun s x => accrueRow x.c x.n x.k s) s1
  let b := eachPlan planGrant a.1 s2
  let s3 := b.1.foldl (fun s x => returnUnspent x.c s) b.2
  let d := eachPlan planSettle b.1 s3
  let s4 := d.1.foldl (fun s x => planBudget x s) d.2
  let s5 := d.1.foldl (fun s x => if x.lead.isNone then answerLoan x.c x.n x.k s else s) s4
  d.1.foldl (fun s x => closeRecord x s) s5

/-- the next picture on the clock a muted channel keeps, and when its record of row 0 would be due (R69). -/
def nextRow0 (c : Nat) (s : State) : Nat × Nat :=
  let n := tickIndex (echOf c s).rate (echOf c s).phase (fabNs s) - 1
  ((List.range 4).map (fun j => (n + j, recordNs c (n + j) 0 s))).find? (fun e => decide (fabNs s < e.2)) |>.getD (n, fabNs s)

/-- The picture number that the channel is at (R56): that of its row in progress, or, while it codes none, that of the last boundary it
would have taken. [DEDUCED log 17] -/
def echPicture (c : Nat) (s : State) : Nat :=
  if (echOf c s).live then getF (pgECH c) ECH.PICNUM_picture s else (nextRow0 c s).1 - 1

/-- a boundary of a MUTED channel (R69): it takes a pending generation. -/
def mutedBoundary (c : Nat) (s : State) : State := if pendingGen (pgECH c) s then (takeEchGen c s).2 else s

/-! ## Release (R125, R127) -/

/-- the row changes. -/
def modRow (c n k : Nat) (f : EchRow → EchRow) (s : State) : State :=
  modEch c (fun x => { x with rows := x.rows.map (fun r => if r.pic = n ∧ r.row = k then f r else r) }) s

/-- a row's work in one column goes to physical core `q`, from `at_` (thirds of a ns). -/
def pushJob (c q : Nat) (r : EchRow) (at_ : Nat) (s : State) : State :=
  modCore q (fun x => { x with jobs := x.jobs ++ [⟨c, r.pic, r.row, at_, 3 * r.close, rowJob c r.row s⟩] }) s

/-- the physical core of each column of a row that is released now. -/
def rowCores (c : Nat) (s : State) : SMap Nat :=
  (List.range (colCount getF c s)).filterMap (fun col => (coreOf c col s).map (fun q => (col, q)))

/-- the first formed row not yet released. -/
def dueRelease (c : Nat) (s : State) : Option EchRow := (echOf c s).rows.find? (fun r => !r.released)

/-- a lead's core loads a record only after its ACK (R246). -/
def awaitsAck (c n k : Nat) (s : State) : Bool :=
  s.twn.awaits.any (fun a => a.1 == c && a.2.1 == n && a.2.2.1 == k)

/-- the rows of a conditioning output that row `r` reads are not ready: they are black, and the unit raises EVENT bit 2 (R105). -/
def lateSource (c : Nat) (r : EchRow) (s : State) : State :=
  let n := getF (pgECH c) ECH.SRC_src s
  let u := cndUnit n
  let m := cndOut n
  if getF (pgECH c) ECH.SRC_src_kind s ≠ 1 then s
  else
    let black := List.replicate (getF (pgCND u) (CND.ODIM_width m) s) (cndBlack u m s)
    raise (pgCND u) 2 ((List.range (rowLines getF c r.row s)).foldl (fun s j =>
      putRow u m r.pic (linesTo getF c r.row s + j) black s) s)

/-- the window of row `r` opens and its cores load the record (R125, R147); `requests` and `misses` of the reading room (R121), and
whether an error in one of its lines is corrected (R146). [DESIGN CHOICE log 88] -/
def releaseRow (c : Nat) (corrected : Bool) (requests misses : Nat) (ready : Bool) (r : EchRow) (s : State) : State :=
  let p := pgECH c
  let s1 := reachNs r.release s
  let t := fabNs s1
  let at_ := 3 * (if t ≤ r.release + 10 then r.release else t)
  let cores := rowCores c s1
  let s2 := modRow c r.pic r.row (fun x => { x with released := true, phys := cores })
    (cores.foldl (fun s e => pushJob c e.2 r at_ s) (if ready then s1 else lateSource c r s1))
  let s3 := setF p ECH.PICNUM_picture r.pic (setF p ECH.POSITION_row r.row
    (setF p ECH.ST_frame_plus_active (getF p ECH.LAT_frame_plus s2) s2))
  match SMap.find 0 cores with
  | none => s3
  | some q => addF (pgENC q) ENC.RR_REQ_requests requests (addF (pgENC q) ENC.RR_MISS_misses misses (raiseIf corrected (pgENC q) 5 s3))

/-! ### A follower's row (R247, R248) -/

/-- the fields of a received record. -/
def TwRec.body (r : TwRec) : RecBody :=
  let flags := fieldAt 3 1 r.header
  ⟨fieldAt 8 1 r.header % 8, fieldAt 12 4 r.header, fieldAt 9 1 r.header % 4, flags.testBit 2, flags.testBit 0,
   if flags.testBit 1 then some (fieldAt 22 2 r.header, fieldAt 24 4 r.header) else none, r.entries⟩

/-- what page `pg` fed at tick `n` is, on a follower, what the lead's record says (R248): how, and which picture. -/
def feedAs (pg n kind : Nat) (key : Option Nat) (s : State) : State :=
  let put := fun (h : List FedTick) =>
    if h.any (fun e => e.n == n) then h.map (fun e => if e.n = n then { e with kind := kind, key := key } else e)
    else (⟨n, kind, key, []⟩ :: h).take 8
  if Block.first .dch ≤ pg then
    modDch (pg - Block.first .dch) (fun x => { x with hist := put x.hist, fed := if kind = 0 then key else x.fed }) s
  else modIng (pg - Block.first .ing) (fun x => { x with hist := put x.hist, fed := if kind = 0 then key else x.fed }) s

/-- The regions that the record of row `k` names are concealed from what was fed at the tick before, and the map of the picture holds the
lead's entries for the lines that the row reads (R83, R85, R248). -/
def concealFromLead (c i n k key : Nat) (entries : List Nat) (s : State) : State :=
  let w := ingWidth i s
  let t0 := modIng i (modSlot key (fun t => { t with map := t.map.filter (fun e => !meetsRow c k s e && !entries.contains e) ++ entries })) s
  entries.foldl (fun s e =>
    let g := entryRegion w e
    let stop := min g.2 (w * ingLines i s)
    (List.range (stop - g.1)).foldl (fun s j =>
      let at_ := (g.1 + j) / w * 2 ^ 16 + (g.1 + j) % w
      let v := concealPx i n at_ s
      modIng i (modSlot key (fun t => { t with pix := SMap.put at_ v t.pix })) s) s) t0

/-- the pictures before the one fed that were never fed are dropped (R91, R248). -/
def dropBefore (i : Nat) (fed : RingSlot) (s : State) : State :=
  (((ingOf i s).ring.filter (fun t => t.fedAs.isNone && decide (t.stamp < fed.stamp))).map RingSlot.key).foldl
    (fun s m => dropPicture i m s) s

/-- A decoded picture, its concealed regions as the lead's record names them (R248). -/
def concealDchFromLead (c i n k uid : Nat) (entries : List Nat) (s : State) : State :=
  let w := dchWidth i s
  let x := dchOf i s
  let old := ((x.hist.find? (fun e => e.n + 1 == n)).bind (fun e => e.key.bind (fun u => picOf u x))).map DecPic.pix
  let px := entries.flatMap (fun e =>
    let g := entryRegion w e
    (List.range (min g.2 (w * dchLines i s) - g.1)).map (fun j => (g.1 + j) / w * 2 ^ 16 + (g.1 + j) % w))
  let fix := fun q : DecPic => if q.uid ≠ uid then q else
    { q with map := q.map.filter (fun e => !meetsRow c k s e && !entries.contains e) ++ entries,
             pix := px.foldl (fun m a => SMap.put a (match old with | some o => SMap.get (dchGrey i s) a o | none => dchBlack i s) m) q.pix }
  modDch i (fun x => { x with
    dpb := x.dpb.map (fun e => (e.1, fix e.2)), hold := x.hold.map (fun e => (e.1, fix e.2)) }) s

/-- the key of the picture that a repeat at tick `n` repeats. -/
def repeatKey (pg n : Nat) (s : State) : Option Nat :=
  let h := if Block.first .dch ≤ pg then (dchOf (pg - Block.first .dch) s).hist else (ingOf (pg - Block.first .ing) s).hist
  (h.find? (fun e => decide (e.n < n) && decide (e.kind ≤ 1))).bind FedTick.key

/-- The follower feeds what the record of row `k` of tick `n` names, whatever its own synchroniser chose; answers none where it does not
hold the picture (R248). -/
def feedFromLead (c n k : Nat) (b : RecBody) (s : State) : Option State :=
  let pg := echRoot getF c s
  if 4 ≤ b.feed then some s
  else if b.feed ≠ 0 then some (feedAs pg n b.feed (if b.feed = 1 then repeatKey pg n s else none) s)
  else if Block.first .dch ≤ pg then
    let i := pg - Block.first .dch
    let x := dchOf i s
    match ((x.dpb ++ x.hold).map Prod.snd).find? (fun q => q.stamp % 2 ^ 32 == b.rtp) with
    | none => none
    | some q => some (concealDchFromLead c i n k q.uid b.entries (feedAs pg n 0 (some q.uid) s))
  else
    let i := pg - Block.first .ing
    match (ingOf i s).ring.find? (fun t => rtpOf (mediaOf t.key) == b.rtp) with
    | none => none
    | some t => some (concealFromLead c i n k t.key b.entries (feedAs pg n 0 (some t.key)
        (modIng i (modSlot t.key (fun t => { t with fedAs := t.fedAs.or (some n) })) (dropBefore i t s))))

/-- the lead's record of the channel's next row, if it has come. -/
def heldRecord (c : Nat) (s : State) : Option TwRec :=
  let x := echOf c s
  s.twn.recs.find? (fun r => r.ch == c && r.pic == x.nextPic && r.row == x.nextRow)

def dropRecord (r : TwRec) (s : State) : State := modTwn (fun t => { t with recs := t.recs.filter (fun q => q != r) }) s

/-- the follower's next row is loaded from the lead's record, or the channel diverges (R247, R248, R251). -/
def loadLeadRow (c : Nat) (s : State) : State :=
  match heldRecord c s with
  | none => s
  | some r =>
    if recordBlocked c s then s
    else
      match feedFromLead c r.pic r.row r.body (dropRecord r s) with
      | none => diverge c (dropRecord r s)
      | some s2 => formRows [(c, some r.body)] s2

/-- the channel forms its next record from its own state when that is due (R133, R156). -/
def formsOwn (c : Nat) (s : State) : Bool :=
  act (pgECH c) s == stRUNNING && (echOf c s).live && !follows c s && !recordBlocked c s && (heldRecord c s).isNone

/-- The channels whose records fall in the same cycle as that of channel `c`: it alone, or the members of its group whose next records
are due at the same time (R168). -/
def sameCycle (c : Nat) (s : State) : List Nat :=
  let due := fun d => recordNs d (echOf d s).nextPic (echOf d s).nextRow s
  if !isMember c s then [c]
  else (List.range 32).filter (fun d =>
    d == c || (isMember d s && groupOf d s == groupOf c s && formsOwn d s && due d == due c))

/-- the records of a cycle are formed; those of the other members are noted, since their own ROW_RECORD is done with it. -/
def recordCycle (c : Nat) (s : State) : State :=
  let l := sameCycle c s
  let s1 := formRows (l.map (fun d => (d, none))) s
  (l.filter (· != c)).foldl (fun s d => modEch d (fun x => { x with joint := some (fabNs s) }) s) s1

/-- the channel's next record is formed here: it runs, codes, and does not wait for its group's. -/
def mayRecord (c : Nat) (s : State) : Bool :=
  act (pgECH c) s == stRUNNING && (echOf c s).live && !follows c s && !recordBlocked c s && (echOf c s).joint != some (fabNs s)

/-- ROW_RECORD at the record's time (R133, R156, R168): all deadlines before it have passed, and the record is formed, together with those
of its group's other members in that cycle, whose own ROW_RECORD then does nothing more; a device that was promoted codes the rows whose
records it holds with those (R253, R263). [DEDUCED log 50] -/
def rowRecordOp (c : Nat) (s : State) : State :=
  if !mayRecord c s then s
  else
    let t := allBandsDue s
    match heldRecord c t with
    | none => recordCycle c t
    | some r =>
      match feedFromLead c r.pic r.row r.body (dropRecord r t) with
      | none => recordCycle c (dropRecord r t)
      | some u => formRows [(c, some r.body)] u

/-- the row of a snapshot takes the rest of its record (R256, R257). -/
def noteLeadRecord (c : Nat) (r : TwRec) (s : State) : Option State :=
  let b := r.body
  (feedFromLead c r.pic r.row b (dropRecord r s)).map (fun s =>
    showRecord c r.header (sampleEffort c b.effort b.effort (noteSource c b.feed s)))

/-- what a follower does before it releases a row: the record is loaded, also for the row a snapshot has set up; a row waits
while a patch of its source is outstanding (R247, R249, R257). -/
def prepareRow (c : Nat) (s : State) : State :=
  match dueRelease c s with
  | none => loadLeadRow c s
  | some r =>
    match s.twn.recs.find? (fun q => q.ch == c && q.pic == r.pic && q.row == r.row) with
    | none => s
    | some q => match noteLeadRecord c q s with
      | some s1 => modRow c r.pic r.row (fun x => { x with fromLead := true }) s1
      | none => diverge c s

/-- ROW_RELEASE (R125, R246, R247). [DEDUCED log 41] -/
def rowReleaseOp (c : Nat) (corrected : Bool) (requests misses : Nat) (ready : Bool) (s : State) : State :=
  let mine := follows c s && followsRows c s
  if mine && !(patchesOf c s).isEmpty then s
  else
    let s1 := if mine then prepareRow c s else s
    match dueRelease c s1 with
    | none => s1
    | some r =>
      if awaitsAck c r.pic r.row s1 || (mine && !r.fromLead) then s1 else releaseRow c corrected requests misses ready r s1

/-! ## Slices (R127, R130, R139, R149, R157, R158, R184) -/

/-- the row whose slice in column `col` closes next. -/
def openRow (c col : Nat) (s : State) : Option EchRow :=
  (echOf c s).rows.find? (fun r => r.released && !r.closed.contains col)

/-- key of a picture check: channel, picture, column. -/
def picKey (c n col : Nat) : Nat := c * 2 ^ 40 + n * 4 + col

/-- the pictures of the channel known clean (R258). -/
def cleanPics (c : Nat) (s : State) : List Nat := SMap.get [] c s.twn.clean

/-- JOIN_SETTLED (R258): all active references of the current picture are clean. -/
def settleJoin (c : Nat) (s : State) : State :=
  let x := echOf c s
  let refs := if x.curIdr then [] else (x.shelf.take (getF (pgECH c) ECH.PRED_active_refs s)).map RefPic.pic
  if joinOf c s = some .settling ∧ (x.curIdr ∨ !refs.isEmpty) ∧ refs.all (fun n => (cleanPics c s).contains n) then
    echRefresh (addF pgTWN TWN.C_joins 1 (raise pgTWN 7 (setAct (pgECH c) stRUNNING 0 (setJoin c .joined s))))
  else s

/-- the picture checks of both devices are compared once both stand (R251, R258). -/
def comparePics (c n : Nat) (s : State) : State :=
  let cols := List.range (colCount getF c s)
  let own := cols.map (fun k => SMap.find (picKey c n k) s.twn.ownPic)
  let lead := cols.map (fun k => SMap.find (picKey c n k) s.twn.leadPic)
  let bad := cols.any (fun k => match SMap.find (picKey c n k) s.twn.ownPic, SMap.find (picKey c n k) s.twn.leadPic with
    | some a, some b => a != b
    | _, _ => false)
  if bad then (if joinOf c s = some .joined then diverge c s else s)
  else if own.all Option.isSome && lead.all Option.isSome then
    settleJoin c (modTwn (fun t => { t with
      clean := SMap.put c ((n :: SMap.get [] c t.clean).take 16) t.clean,
      ownPic := t.ownPic.filter (fun e => e.1 / 4 != (picKey c n 0) / 4),
      leadPic := t.leadPic.filter (fun e => e.1 / 4 != (picKey c n 0) / 4) }) s)
  else s

/-! ### The rotation of a logical core (R138 to R141) -/

/-- physical core `q` serves logical core `l` now. -/
def mapCore (q l : Nat) (s : State) : State :=
  setF (pgENC q) ENC.ST_logical l (setF (pgENC q) ENC.ST_spare 0 (setF (pgENC q) ENC.ST_golden 0
    (setF (pgENC q) ENC.ST_shadowing 0 s)))

/-- a golden-vector run starts on core `q` (R446, R447). [DEDUCED log 48] -/
def startGolden (q : Nat) (s : State) : State := setAct (pgENC q) stTEST 0x0B (setF (pgENC q) ENC.ST_golden 1 s)

/-- the rotation step ends. [DEDUCED log 48] -/
def endStep (last : Nat) (s : State) : State :=
  setF pgHLT HLT.ROT_STAT_last last { s with rot := { s.rot with phase := 0, moved := [] } }

/-- a channel's core changes (R138): EVENT bit 6. -/
def coreChanged (l : List Nat) (s : State) : State := l.foldl (fun s c => raise (pgECH c) 6 s) s

/-- The step is complete: S is logical L, X is the spare and runs golden vectors; the channels that had not moved change their core with
it (R138, R446). [DEDUCED log 48] -/
def completeStep (s : State) : State :=
  let l := s.rot.logical
  let x := s.rot.x
  let q := s.rot.sp
  let s1 := mapCore q l (setF (pgENC x) ENC.ST_logical 31 (setF (pgENC x) ENC.ST_spare 1
    (coreChanged ((chansOn l s).filter (fun c => !s.rot.moved.contains c)) s)))
  let s2 := raise (pgENC x) 2 (raise (pgENC q) 2 s1)
  let s3 := addF pgHLT HLT.ROT_STAT_steps 1 (setF pgHLT HLT.ROT_STAT_next ((l + 1) % 16) s2)
  endStep 0 (encRefresh q (startGolden x (setAct (pgENC x) stIDLE 0 s3)))

/-- physical core `q` still holds a slice. -/
def coreHolds (q : Nat) (s : State) : Bool :=
  (List.range 32).any (fun c => (echOf c s).rows.any (fun r =>
    r.released && r.phys.any (fun e => e.2 == q && !r.closed.contains e.1)))

/-- In a switch, once the last RUNNING channel has moved and X has finished the rows it held, the step is complete (R138). -/
def finishRotation (s : State) : State :=
  if s.rot.phase = 3 ∧ (chansOn s.rot.logical s).all (fun c => s.rot.moved.contains c || act (pgECH c) s != stRUNNING) ∧
    !coreHolds s.rot.x s then completeStep s else s

/-- SHADOW_COMPARE (R138, R139): S compares the CRC-32C of its slice with that of X's; a mismatch abandons the step. -/
def shadowCompare (c col : Nat) (r : EchRow) (slice : List Byte) (diff : List (Nat × Byte)) (s : State) : State :=
  let l := getF (pgECH c) ECH.ALLOC_core s + col
  if s.rot.phase ≠ 2 ∨ s.rot.logical ≠ l ∨ crc crc32c slice = crc crc32c (flipBytes slice diff) then s
  else
    let x := pgENC s.rot.x
    let q := pgENC s.rot.sp
    let note := fun pg s => addF pg ENC.SHADOW_MM_count 1 (raise pg 4 (raise pg 3 s))
    let s1 := note q (note x (endStep 1 s))
    startGolden s.rot.sp (setF q ENC.ST_suspect 1 (setF q ENC.ST_shadowing 0
      { s1 with rot := { s1.rot with mismatch := some (c, r.pic, r.row) } }))

/-! ### A slice closes -/

/-- the physical core that codes the row's slice in column `col`. -/
def sliceCore (c col : Nat) (r : EchRow) (s : State) : Option Nat := (SMap.find col r.phys).or (coreOf c col s)

/-- the core works until the slice is done (R118, R127). -/
def finishSlice (c col stall : Nat) (r : EchRow) (s : State) : State :=
  match sliceCore c col r s with
  | none => s
  | some q => finishJob c q r.pic r.row stall s

/-- the core's own counts and events of a slice it closed (R130, R145, R146). [DEDUCED log 48; DESIGN CHOICE log 88] -/
def coreCounts (c col : Nat) (run : SliceRun) (r : EchRow) (s : State) : State :=
  match sliceCore c col r s with
  | none => s
  | some q =>
    let p := pgENC q
    let t := fabNs s
    let s1 := addF p ENC.CTUS_ctus (sliceCtus getF c s) (addF p ENC.STALL_cycles run.stall (raiseIf run.corrected p 5 s))
    if r.close + 5 < t then raise p 0 (addF p ENC.LATE_rows 1 s1)
    else setF p ENC.SLACK_slack_min_ns (min (r.close - t) (getF p ENC.SLACK_slack_min_ns s1)) s1

/-- The picture's last slice has closed: it joins the shelf, unless an IDR has emptied that since, and the channel has read its source
(R122, R147). -/
def pictureCompletes (c n : Nat) (s : State) : State :=
  let x := echOf c s
  let cap := getF (pgECH c) ECH.PRED_shelf s
  let done := x.coding.filter (fun q => decide (q.pic ≤ n))
  let kept := done.reverse.filter (fun q => decide (x.lastIdr ≤ q.pic))
  let s1 := addF (pgECH c) ECH.PICS_pictures 1 (modEch c (fun x => { x with
    coding := x.coding.filter (fun q => decide (n < q.pic)), shelf := (kept ++ x.shelf).take cap }) s)
  if getF (pgECH c) ECH.SRC_src_kind s = 1 then s1 else doneWith (echRoot getF c s) (pgECH c) n s1

/-- the row's last slice has closed: floor rows, QP overrides, and, with the picture's last row, its end
(R122, R157, R158). -/
def rowCompletes (c : Nat) (r : EchRow) (s : State) : State :=
  let p := pgECH c
  let fl := r.allFloor && r.forced.isEmpty
  let s1 := setF p ECH.ST_floor_in_picture (if fl then 1 else getF p ECH.ST_floor_in_picture s)
    (addF p ECH.FLOOR_ROWS_rows fl.toNat s)
  let s2 := if r.overQp then raiseIf r.conflict p 20 (addF p ECH.RC_QP_OVR_rows 1 s1) else s1
  if r.row + 1 < rowCount getF c s2 then s2 else pictureCompletes c r.pic s2

/-- rows' statistics as 8-byte numbers. -/
def statBytes (l : List (Nat × Nat × Nat)) : List Byte := l.flatMap (fun e => [e.1, e.2.1, e.2.2].flatMap (beBytes 8))

/-- What both devices of a pair do with a closed slice: the lead's CHECK and PICCHECK leave, the follower compares
(R250, R251, R257, R258). -/
def twinSlice (c col : Nat) (r : EchRow) (e : RingEntry) (replace : Bool) (s : State) : State :=
  let lastRow := r.row + 1 == rowCount getF c s && !replace
  if paired c s || s.twn.leaving.contains c then
    let s1 := if s.twn.leaving.contains c then s else twinSend 3 replace.toNat c r.row r.pic
      (beBytes 1 col ++ beBytes 3 0 ++ beBytes 4 e.seqNo ++ beBytes 4 e.check ++ beBytes 4 (nalBytes e.nals)) s
    let s2 := if lastRow && !s.twn.leaving.contains c then
        twinSend 4 0 c 0 r.pic (beBytes 1 col ++ beBytes 3 0 ++ beBytes 4 (columnCheck c r.pic col s)) s1
      else s1
    match SMap.find c s2.twn.snaps with
    | some sn =>
      if lastRow ∧ sn.pic = r.pic + 1 ∧ colCount getF c s ≤ r.closed.length then
        let stats := (echOf c s).stats.filter (fun e => e.1 == r.pic)
        twinSend 0xB 0 c 0 sn.pic (beBytes 4 sn.bytes.length ++ beBytes 4 (crc crc32c sn.bytes) ++ beBytes 4 r.charge ++
            beBytes 4 stats.length ++ statBytes stats)
          (modTwn (fun t => { t with snaps := SMap.drop c t.snaps }) s2)
      else s2
    | none => s2
  else if follows c s then
    let s1 := if lastRow then
        comparePics c r.pic (modTwn (fun t => { t with
          ownPic := SMap.put (picKey c r.pic col) (columnCheck c r.pic col s) t.ownPic }) s)
      else s
    match leadCheck c e s1 with
    | some k => if k.check ≠ e.check then diverge c s1 else s1
    | none => s1
  else s

/-- An entry of row `r` closes: its samples, charge, counts, comparisons, and, for a row whose window has closed, copy-out at once
(R130, R149, R184). -/
def slotSlice (c col kind depart : Nat) (z : SliceOf) (run : SliceRun) (r : EchRow) (s : State) : State :=
  let e := sliceEntry c col kind z.charge depart r z.nals s
  let s1 := countTokens c z.charge ECH.RC_SPENT_tokens MUX.SPENT_tokens
    (coreCounts c col run r (storeCtus c col r z.code (closeSlice c e s)))
  let excess := r.how col = 0 && kind == 0 && decide (r.qpMax < z.code.top)
  let r1 := { r with
    closed := col :: r.closed, charges := SMap.put col z.charge r.charges, allFloor := r.allFloor && z.code.floor,
    overQp := r.overQp || excess }
  let s2 := modRow c r.pic r.row (fun _ => r1) s1
  let s3 := if colCount getF c s ≤ r1.closed.length then rowCompletes c r1 s2 else s2
  let s4 := finishRotation (shadowCompare c col r z.nals.flatten run.shadow (twinSlice c col r1 e false s3))
  if r.windowClosed then copyRow c r1 (max depart (fabNs s4)) [(e, readBack c e run.read s4)] s4 else s4

/-- SLICE_CLOSE (R127, R149, R157, R180 to R184): the core codes the slice's last CTU. A segment that cannot take the entry, or a full
check table, stalls the core instead (R182); an entry that alone reaches the segment's size is overrun first (R183). [DEDUCED log 44] -/
def sliceCloseOp (c col : Nat) (run : SliceRun) (s : State) : State :=
  match openRow c col s with
  | none => s
  | some r =>
    let g := segOf c col s
    if colCount getF c s ≤ col ∨ g.stalled.isSome then s
    else
      let s0 := finishSlice c col run.stall r (outBoundary c s)
      let z := codeSlice c col r s0
      let len := entryBytes z.nals
      if segBytes getF c s0 ≤ len ∧ g.used = 0 then s0
      else if segFull c col len s0 || tableFull c s0 then stallSeg c col len s0
      else slotSlice c col z.code.floor.toNat r.depart z run r s0

def execSliceClose (ch : Fin 32) (col : Fin 4) (run : SliceRun) (s : State) : Host.Outcome State Fault Refusal :=
  .next (sliceCloseOp ch.val col.val run s)

/-- bytes of the open entry that stand in a stalled segment. -/
def Seg.written (g : Seg) (size : Nat) : Nat := (g.wp + size - g.bm) % size

/-- RING_RESUME (R182): once the read pointer has advanced or a check-table entry is free the core goes on; the stall counts in ENC.STALL,
and the core's time has passed. [DEDUCED log 44] -/
def ringResumeOp (c col : Nat) (s : State) : State :=
  let g := segOf c col s
  let z := max 1 (segBytes getF c s)
  match g.stalled with
  | none => s
  | some t =>
    if z ≤ g.used + g.written z ∨ tableFull c s then s
    else
      let s1 := modSeg c col (fun g => { g with stalled := none }) s
      match (openRow c col s).bind (fun r => sliceCore c col r s) with
      | none => s1
      | some q => addF (pgENC q) ENC.STALL_cycles ((s.clk - t) * 15 / 2) (modCore q (fun x => { x with now := max x.now (3 * fabNs s) }) s1)

def execRingResume (ch : Fin 32) (col : Fin 4) (s : State) : Host.Outcome State Fault Refusal :=
  .next (ringResumeOp ch.val col.val s)

/-! ### Floor re-codes (R118, R183, R186, R187) -/

/-- thirds of a ns that a floor re-code of a slice takes (R118, R186). -/
def recodeThirds (c : Nat) (s : State) : Nat := 2 * 96 * sliceCtus getF c s

/-- The slice of column `col` coded anew as a floor slice, behind the NAL units `heads`, with `charge` (R149): with residual (`how` 2) or
without (3), all intra or as its picture has it (R183, R186). -/
def recodeSlice (c col how : Nat) (intra : Bool) (heads : List (List Byte)) (charge : Nat) (r : EchRow) (s : State) : SliceOf :=
  let z := sliceInOf c col how charge intra r s
  let a := codeCtus z z.ctus z.qp SliceCode.empty
  ⟨a, heads ++ [codedNal z r.pic r.row col r.sliceKind a], charge⟩

/-- BOOKMARK_OVERRUN (R183, R187): the open entry's bytes alone reach the segment's size; the slice vanishes and its region is coded anew
as a floor slice, which repairs the reference and departs with its row, or 20 µs after it closes. [DEDUCED log 45] -/
def bookmarkOverrunOp (c col : Nat) (read : ReadFault) (s : State) : State :=
  match openRow c col s with
  | none => s
  | some r =>
    let p := pgOUT c
    let s0 := finishSlice c col 0 r (outBoundary c s)
    let z := codeSlice c col r s0
    if colCount getF c s ≤ col ∨ !smallRing c s0 ∨ entryBytes z.nals < segBytes getF c s0 ∨ (segOf c col s0).used ≠ 0 then s
    else
      let s1 := match sliceCore c col r s0 with
        | none => s0
        | some q =>
          let t := modCore q (fun x => { x with now := max x.now (3 * fabNs s0) + recodeThirds c s0 }) s0
          reachNs (((coreSt q t).now + 2) / 3) t
      let y := recodeSlice c col 2 false z.nals.dropLast z.charge r s1
      let s2 := raise p 0 (addF p OUT.C_overrun 1 (addF p OUT.C_replaced 1 (addF p OUT.C_coded 1 s1)))
      slotSlice c col 3 (if fabNs s2 ≤ r.depart then r.depart else fabNs s2 + 20000) y ⟨0, false, [], read⟩ r s2

def execBookmarkOverrun (ch : Fin 32) (col : Fin 4) (read : ReadFault) (s : State) :
    Host.Outcome State Fault Refusal := .next (bookmarkOverrunOp ch.val col.val read s)

/-! ## Window close and re-code (R130, R185, R186, R190) -/

/-- the row whose window closes next. -/
def dueClose (c : Nat) (s : State) : Option EchRow :=
  (echOf c s).rows.find? (fun r => r.released && !r.windowClosed)

/-- LATE_ROW (R130). [DEDUCED log 41] -/
def lateRow (c : Nat) (late : Bool) (s : State) : State :=
  if late then addF (pgECH c) ECH.LATE_ROWS_rows 1 (raise (pgECH c) 0 s) else s

/-- the filler of a row waits for the row's last slice (R191). -/
def noteFiller (c : Nat) (r : EchRow) (s : State) : State :=
  if r.filler = 0 then s else modOut c (fun x => { x with fillers := x.fillers ++ [⟨r.pic, r.row, r.filler, r.stamp⟩] }) s

/-- WINDOW_CLOSE (R130, R185, R190): copy-out of the row's closed slices, in column order; `reads` tells what memory faults do to them. -/
def windowCloseOp (c : Nat) (reads : List ReadFault) (s : State) : State :=
  match dueClose c s with
  | none => s
  | some r =>
    let s1 := outBoundary c (reachNs r.close s)
    let open_ := decide (r.closed.length < colCount getF c s1)
    let s2 := noteFiller c r (lateRow c open_ (modRow c r.pic r.row (fun x => { x with windowClosed := true, late := open_ }) s1))
    let l := (rowEntries c r.pic r.row s2).filter (fun e => !e.copied && e.read.isNone)
    copyRow c r r.depart (l.zipIdx.map (fun e => (e.1, readBack c e.1 (reads.getD e.2 .clean) s2))) s2

def execWindowClose (ch : Fin 32) (reads : List ReadFault) (s : State) : Host.Outcome State Fault Refusal :=
  .next (windowCloseOp ch.val reads s)

/-- a core works on until `t` (thirds of a ns), to a CTU boundary. -/
def runUntil (t : Nat) : Nat → CoreS → CoreS
  | 0, c => c
  | fuel + 1, c =>
    if t ≤ c.now then c
    else match pickJob c.now c.jobs with
      | none => { c with now := c.jobs.foldl (fun a j => min a j.release) t }
      | some j => match j.ctus with
        | [] => runUntil t fuel { c with jobs := c.jobs.filter (fun i => !i.same j) }
        | x :: rest => runUntil t fuel { now := c.now + 2 * x,
                                         jobs := c.jobs.map (fun i => if i.same j then { i with ctus := rest } else i) }

/-- the core that serves column `col` does the re-code at its next CTU boundary, which delays its row by that time (R186). -/
def recodeTime (c col : Nat) (s : State) : State :=
  match coreOf c col s with
  | none => s
  | some q =>
    let t := 3 * fabNs s
    let k := runUntil t (coreFuel (coreSt q s)) (coreSt q s)
    let at_ := max t k.now + recodeThirds c s
    reachNs ((at_ + 2) / 3) (modCore q (fun _ => { k with now := at_ }) s)

/-- the row of an entry that is coded anew. -/
def recodeRow (c : Nat) (e : RingEntry) (s : State) : EchRow :=
  { pic := e.pic, row := e.row, budget := e.charge, floor := 0, feed := 0, stamp := e.stamp, wraps := e.wraps, release := 0, close := 0,
    depart := e.depart, source := 0, qp := 0, effort := 0, qpMin := 0, qpMax := 0, conflict := false,
    kind := 1 + getF (pgECH c) ECH.PRED_structure s, refs := getF (pgECH c) ECH.PRED_active_refs s, refresh := none, closed := [],
    charges := [], phys := [], filler := 0, released := true, windowClosed := true, late := true, allFloor := true, overQp := false,
    forced := [], idr := (refPic c e.pic s).any RefPic.idr, join := false, fromLead := false, settled := true }

/-- RECODE (R185 to R187, R197): the re-code runs at the serving core's next CTU boundary: intra floor CTUs from the source rows that are
still held, otherwise DC prediction without residual, which OUT.SRC_GONE and EVENT bit 3 note. It inherits the charge, repairs the
reference, and departs 20 µs after it closes. -/
def recodeOp (c col : Nat) (read : ReadFault) (s : State) : State :=
  match (outOf c s).recodes.find? (fun x => x.entry.col == col) with
  | none => s
  | some x =>
    let p := pgOUT c
    let old := x.entry
    let s1 := recodeTime c col s
    let gone := !sourceHeld c old.pic old.row s1
    let depart := fabNs s1 + 20000
    let r := recodeRow c old s1
    let z := recodeSlice c col (if gone then 3 else 2) true old.nals.dropLast old.charge r s1
    let e := sliceEntry c col 3 old.charge depart r z.nals s1
    let s2 := raiseIf gone p 3 (addF p OUT.C_src_gone gone.toNat (storeCtus c col r z.code (closeSlice c e (modOut c (fun y => { y with
      recodes := y.recodes.filter (fun z => z != x) }) s1))))
    let s3 := twinSlice c col r e true s2
    copyRow c r depart [(e, readBack c e read s3)] s3

def execRecode (ch : Fin 32) (col : Fin 4) (read : ReadFault) (s : State) : Host.Outcome State Fault Refusal :=
  .next (recodeOp ch.val col.val read s)

end Sys2Proof.Machine
end

