-- ==== Sys2Proof/Machine/Tolerance.lean ====
section
/-! DEFINITION. Sys2Proof/Machine/Tolerance.lean: which channels use a unit, its effective wake tolerance, and the state that
it enters (R24, R475 to R479). -/

namespace Sys2Proof.Machine

/-- the wake tolerance set for a class (kind 0) or a channel (1 ECH, 2 DCH, 3 SND), in µs (R478, R489). -/
def toleranceOf (kind idx : Nat) (s : State) : Nat := SMap.get 0xFFFFFF (kind * 64 + idx) s.pwr.tol

/-- the page's buffer lies on pseudo-channel `u` = 32 × stack + number. -/
def bufferOn (p u : Nat) (s : State) : Bool :=
  match SMap.find p s.bufs with
  | none => false
  | some b => act p s != stOFF && b.stack == u / 32 && b.pcs.contains (u % 32)

/-- lane `l` belongs to Ethernet port `i`. -/
def laneOfPort (l i : Nat) : Bool := laneOwner l == pgETH i

/-- a sending page's enabled legs use the lane: leg A's port A, leg B's port B. -/
def legsUse (p u : Nat) (s : State) : Bool :=
  (getCm p (OLEG.en 0x180) s == 1 && laneOfPort u 0) || (getCm p (OLEG.en 0x1C0) s == 1 && laneOfPort u 1)

/-- an encode channel uses the unit of class `cls` (R478). -/
def echUses (c cls u : Nat) (s : State) : Bool :=
  if cls = 0 then (allocCores getCm c s).any (fun l => physOf l s == some u)
  else if cls = 2 then getCm (pgECH c) ECH.SRC_src_kind s == 1 && cndUnit (getCm (pgECH c) ECH.SRC_src s) == u
  else if cls = 3 then bufferOn (pgECH c) u s || bufferOn (pgOUT c) u s
  else cls == 4 && legsUse (pgOUT c) u s

/-- a decode channel does. -/
def dchUses (c cls u : Nat) (s : State) : Bool :=
  if cls = 1 then (dchCores getCm c s).contains u
  else if cls = 3 then bufferOn (pgDCH c) u s
  else cls == 4 && [0x200, 0x240].any (fun b =>
    getCm (pgDCH c) (MATCH.en b) s == 1 && laneOfPort u (getCm (pgDCH c) (MATCH.port b) s))

/-- a sender does. -/
def sndUses (c cls u : Nat) (s : State) : Bool :=
  if cls = 2 then getCm (pgSND c) SND.SRC_src_kind s == 1 && cndUnit (getCm (pgSND c) SND.SRC_src s) == u
  else cls == 4 && legsUse (pgSND c) u s

/-- a committed channel of kind 1 (ECH), 2 (DCH) or 3 (SND) uses the unit of class `cls` (R478): its cores, the conditioning
unit of its paths, the pseudo-channels of its buffers, the lanes of the ports its legs name. -/
def channelUses (kind c cls u : Nat) (s : State) : Bool :=
  if kind = 1 then echUses c cls u s else if kind = 2 then dchUses c cls u s else sndUses c cls u s

/-- the effective tolerance of a unit: the smallest of its class's and of the channels' that use it (R478). -/
def effTol (cls u : Nat) (s : State) : Nat :=
  [(1, 32), (2, 16), (3, 16)].foldl (fun t (e : Nat × Nat) =>
    (List.range e.2).foldl (fun t c => if channelUses e.1 c cls u s then min t (toleranceOf e.1 c s) else t) t)
    (toleranceOf 0 cls s)

/-- the page of an encode core, decode core or conditioning unit. -/
def enginePage (cls u : Nat) : Nat := if cls = 0 then pgENC u else if cls = 1 then pgDEC u else pgCND u

/-- an engine of class 0, 1 or 2 carries work. -/
def engineBusy (cls u : Nat) (s : State) : Bool := [stRUNNING, stTEST, stSTARTING, stSTOPPING].contains (act (enginePage cls u) s)

/-- an engine is put to use: a channel that is placed or in service needs it (R479). -/
def engineWanted (cls u : Nat) (s : State) : Bool :=
  [(1, 32, 0x100), (2, 16, 0x158), (3, 16, 0x168)].any (fun (e : Nat × Nat × Nat) =>
    (List.range e.2.1).any (fun c => channelUses e.1 c cls u s &&
      (cmdOf (e.2.2 + c) s == stRUNNING || [stSTARTING, stRUNNING, stSTOPPING].contains (act (e.2.2 + c) s))))

/-- the engine may be gated (R475, R478): not while it works or is wanted; in D1, and while the governor
throttles (R453), whenever out of service; otherwise if it is
commanded to LOW_POWER and 20 µs fits its effective tolerance. [DEDUCED log 81] -/
def engineGates (cls u : Nat) (s : State) : Bool :=
  !engineBusy cls u s && !engineWanted cls u s && act (enginePage cls u) s != stFAULT &&
  (getF pgPWR PWR.DSTAT_state s == 1 || isF pgHLT HLT.ST_throttle s || (cmdOf (enginePage cls u) s == stLOW && decide (20 ≤ effTol cls u s)))

/-- the engine instances. -/
def engines : List (Nat × Nat) :=
  (List.range 17).map (fun u => (0, u)) ++ (List.range 8).map (fun u => (1, u)) ++ (List.range 4).map (fun u => (2, u))

/-- the unit key of R477's unit states. -/
def unitKey (cls u : Nat) : Nat := cls * 128 + u

def setUnit (cls u v : Nat) (s : State) : State :=
  { s with pwr := { s.pwr with units := SMap.set 0 (unitKey cls u) v s.pwr.units } }

/-- A unit in a reduced state starts to wake (R479). -/
def startWake (cls u : Nat) (s : State) : State :=
  if unitState cls u s = 0 ∨ s.pwr.waking.contains (unitKey cls u) then s
  else { s with pwr := { s.pwr with waking := s.pwr.waking ++ [unitKey cls u] } }

/-- Engines enter the state that R475 and R478 give them, or start to wake from it (R479). [DEDUCED log 81] -/
def settleEngines (s : State) : State :=
  engines.foldl (fun s e =>
    if engineGates e.1 e.2 s then
      if s.pwr.waking.contains (unitKey e.1 e.2) ∨ unitState e.1 e.2 s = 1 then s
      else setAct (enginePage e.1 e.2) stLOW 0 (setUnit e.1 e.2 1 s)
    else startWake e.1 e.2 s) s

end Sys2Proof.Machine
end

