-- ==== Sys2Proof/Machine/Hbm.lean ====
section
/-! DEFINITION. Sys2Proof/Machine/Hbm.lean: the HBM controllers (chapter 15, R389 to R406). A pseudo-channel is worked through
to the present at each command that concerns it (`pcRun`): what its schedule makes it do by then is done in order. What a
buffer holds is with its owner; no operation addresses HBM (R390). -/

namespace Sys2Proof.Machine

/-! ## The parts of a stack -/

def hbmOf (i : Nat) (s : State) : HbmS := SMap.get HbmS.reset i s.hbm

def modHbm (i : Nat) (f : HbmS → HbmS) (s : State) : State := { s with hbm := modAt HbmS.reset i f s.hbm }

def pcOf (i p : Nat) (s : State) : PcS := SMap.get PcS.reset p (hbmOf i s).pcs

def modPc (i p : Nat) (f : PcS → PcS) (s : State) : State :=
  modHbm i (fun x => { x with pcs := modAt PcS.reset p f x.pcs }) s

/-- a counter of one pseudo-channel counts (R405): 0 uncorrectable bursts, 1 threshold crossings, 2 aborted entries, 3 repairs.
[DEDUCED log 72] -/
def countPc (i p k : Nat) (s : State) : State :=
  modHbm i (fun x => { x with pcCounts := modAt 0 (4 * p + k) (fun n => (n + 1) % 2 ^ 32) x.pcCounts }) s

def pcCount (i p k : Nat) (s : State) : Nat := SMap.get 0 (4 * p + k) (hbmOf i s).pcCounts

/-- the pseudo-channels of a stack. -/
def pcs : List Nat := List.range 32

/-- the controller works: the main domain runs and the page is RUNNING. -/
def hbmRuns (i : Nat) (s : State) : Bool := s.pwr.mainRun && act (pgHBM i) s == stRUNNING

/-- device state D2 holds every kept pseudo-channel in self-refresh (R397, R475). -/
def inD2 (s : State) : Bool := getF pgPWR PWR.DSTAT_state s == 2

/-- the pseudo-channel is kept (R398). -/
def kept (i p : Nat) (s : State) : Bool := (getF (pgHBM i) HBM.KEEP_kept s).testBit p

/-- the doubled refresh rate applies (R394, R404). -/
def isHot (i : Nat) (s : State) : Bool := isF (pgHBM i) HBM.ST_hot s

/-- tREFI in ticks (R394): 3.9 µs, or 1.95 µs. -/
def tRefi (i : Nat) (s : State) : Nat := if isHot i s then 390 else 780

/-- tRFC in ticks: 350 ns (R394). -/
def tRfc : Nat := 70

/-- the request credits of a client on each stack (R391). -/
def allotment (r : Nat) : Nat :=
  if r ≤ 16 then 48 else if r ≤ 28 then 32 else if r = 29 then 64 else if r = 30 then 48 else if r = 31 then 32
  else if r = 32 then 48 else if r = 33 then 32 else if r = 34 then 8 else if r = 35 then 4 else 0

/-- the credits that a pseudo-channel's waiting requests of `r` hold: reads, and writes beyond the 32 of the write buffer
(R391, R392). -/
def heldBy (r : Nat) (x : PcS) : Nat :=
  (x.queue.filter (fun q => !q.a.write && q.a.requester.val == r)).length +
    (((x.queue.filter (fun q => q.a.write)).drop 32).filter (fun q => q.a.requester.val == r)).length

/-- RQ_STAT.outstanding (R391, R405). -/
def outstandingOf (i r : Nat) (s : State) : Nat := pcs.foldl (fun n p => n + heldBy r (pcOf i p s)) 0

/-! ## Refresh (R394, R395) -/

/-- refresh outranks reads and writes (R394, R395). -/
def refreshFirst (i : Nat) (x : PcS) (s : State) : Bool :=
  (x.catchUp && decide (4 < x.debt)) || decide (getF (pgHBM i) HBM.REFRESH_postpone_max s + 1 ≤ x.debt)

/-- REF_ISSUE (R394): the open rows close, the pseudo-channel is closed for tRFC, the debt falls by 1. -/
def issueRef (i p : Nat) (s : State) : State :=
  addF (pgHBM i) HBM.REFRESHES_count 1 (modPc i p (fun x => { x with
    closedUntil := max x.closedUntil x.seenAt + tRfc, debt := x.debt - 1, rows := [],
    catchUp := x.catchUp && decide (4 < x.debt - 1) }) s)

/-! ## Scheduling (R392, R393) -/

/-- the row of the request is open: hit within the last 100 ns (R392). -/
def rowHit (x : PcS) (t : Nat) (q : HReq) : Bool :=
  match SMap.find q.a.bank.val x.rows with
  | none => false
  | some e => e.1 == q.a.row.val && decide (t ≤ e.2 + 20)

/-- two requests for the same row of the same bank. -/
def sameRow (a b : HReq) : Bool := a.a.bank == b.a.bank && a.a.row == b.a.row

/-- the banks in in-order mode (R393): a read waits behind an earlier write to its row. -/
def inOrderBanks (l : List HReq) : List Nat :=
  ((l.zipIdx.filter (fun e => !e.1.a.write && (l.take e.2).any (fun w => w.a.write && sameRow w e.1))).map
    (fun e => e.1.a.bank.val)).dedup

/-- a throttled requester's activation has to wait (R396). -/
def throttledNow (i : Nat) (x : PcS) (t : Nat) (q : HReq) (s : State) : Bool :=
  match SMap.find (q.a.requester.val * 64 + q.a.bank.val) x.throttled with
  | none => false
  | some last => !rowHit x t q && decide (5 * t < 5 * last + getF (pgHBM i) HBM.RH_throttle_ns s)

/-- the order of R393 lets the request at place `k` go: in an in-order bank it is the bank's first; a write never passes an
earlier read of its row. -/
def orderLets (l : List HReq) (k : Nat) (q : HReq) : Bool :=
  let before := l.take k
  if (inOrderBanks l).contains q.a.bank.val then !before.any (fun e => e.a.bank == q.a.bank)
  else !q.a.write || !before.any (fun e => !e.a.write && sameRow e q)

/-- the requests that can go at tick `t`, oldest first, with their places in the queue of 64. -/
def candidates (i : Nat) (x : PcS) (t : Nat) (s : State) : List (HReq × Nat) :=
  (x.queue.take 64).zipIdx.filter (fun e =>
    decide (SMap.get 0 e.1.a.bank.val x.bankUntil ≤ t) && !throttledNow i x t e.1 s && orderLets x.queue e.2 e.1)

/-- The request to issue (R392, R393): writes while they drain or where in-order mode calls for one; else the oldest
that has waited 500 ns, the oldest row hit, the oldest. -/
def pickReq (i : Nat) (x : PcS) (t : Nat) (s : State) : Option (HReq × Nat) :=
  let c := candidates i x t s
  let ord := inOrderBanks x.queue
  let reads := c.filter (fun e => !e.1.a.write || ord.contains e.1.a.bank.val)
  let writes := c.filter (fun e => e.1.a.write)
  let held := (x.queue.filter (fun q => q.a.write)).length
  let pool := if (x.draining ∨ reads.isEmpty) ∧ 8 < held then writes else reads
  match pool.find? (fun e => decide (e.1.since + 100 ≤ t)) with
  | some e => some e
  | none => match pool.find? (fun e => rowHit x t e.1) with
    | some e => some e
    | none => pool.head?

/-! ## Row hammer (R396) -/

/-- An activation is counted. A row whose estimate reaches the threshold gets an RFM, which closes the bank for 120 ns, its
count is 0 again, the requester is throttled in that bank, and the event is counted and reported. [DEDUCED log 72; DESIGN CHOICE log 73] -/
def activate (i p t : Nat) (a : HbmAccess) (s : State) : State :=
  let h := pgHBM i
  let key := a.bank.val * 2 ^ 14 + a.row.val
  let x := pcOf i p s
  let n := SMap.get 0 key x.counts + 1
  let excess := Config.trackerOver s.free % 2779
  let tk := a.requester.val * 64 + a.bank.val
  let known := (SMap.find tk x.throttled).isSome
  let s1 := modPc i p (fun x => { x with
    throttled := if known then SMap.put tk t x.throttled else x.throttled }) { s with free := s.free + 1 }
  if n + excess < getF h HBM.RH_threshold s then modPc i p (fun x => { x with counts := SMap.put key n x.counts }) s1
  else
    let s2 := modPc i p (fun x => { x with
      counts := SMap.set 0 key 0 x.counts, bankUntil := SMap.put a.bank.val (t + 24) x.bankUntil,
      throttled := SMap.put tk t x.throttled }) s1
    let s3 := setF h HBM.RH_LAST_requester a.requester.val (setF h HBM.RH_LAST_pc p
      (setF h HBM.RH_LAST_bank a.bank.val (setF h HBM.RH_LAST_row a.row.val (countPc i p 1 s2))))
    raise h 1 (if known then s3 else addF h HBM.THROTTLES_count 1 s3)

/-! ## ECC and lane repair (R400, R401) -/

/-- SHELF_ERROR_IDR (R143): the next picture of the channel is an IDR; ECH EVENT bit 8. -/
def shelfError (c : Nat) (s : State) : State := raise (pgECH c) 8 (modEch c (fun x => { x with idrDue := true }) s)

/-- a burst of a pseudo-channel as one number. -/
def burstKey (a : HbmAccess) : Nat := (a.bank.val * 2 ^ 14 + a.row.val) * 32 + a.column.toNat / 32

/-- what the ECC finds where the access reads: a burst written back as poisoned always reads so (R401). -/
def eccFinds (i p : Nat) (a : HbmAccess) (s : State) : Ecc :=
  if (pcOf i p s).poisoned.contains (burstKey a) then .poison else a.ecc

/-- HBM_ECC_ERROR (R401): what the ECC finds in a burst that is read is counted and reported. -/
def eccOutcome (i p : Nat) (a : HbmAccess) (s : State) : State :=
  let h := pgHBM i
  match eccFinds i p a s with
  | .good => s
  | .corrected l =>
    let per := s.clk / 51200
    let x := pcOf i p s
    let n := (if x.period = per then SMap.get 0 l.val x.symbols else 0) + 1
    let s1 := modPc i p (fun x => { x with
      corr := (x.corr + 1) % 2 ^ 32, period := per,
      symbols := SMap.put l.val n (if x.period = per then x.symbols else []),
      due := if getF h HBM.REPAIR_sym_limit s < n ∧ !x.due.contains l.val then x.due ++ [l.val] else x.due }) s
    match (hbmOf i s).corrAt with
    | some t => if t + tickMs ≤ s.clk then raise h 2 (modHbm i (fun y => { y with corrAt := some s.clk }) s1) else s1
    | none => raise h 2 (modHbm i (fun y => { y with corrAt := some s.clk }) s1)
  | .poison =>
    raise h 6 (countPc i p 0 (setF h HBM.UE_ADDR_pc p (setF h HBM.UE_ADDR_bank a.bank.val
      (setF h HBM.UE_ADDR_row a.row.val (setF h HBM.UE_ADDR_column (a.column.toNat / 32 * 32) s)))))

/-- The requester acts on a poisoned read (R83, R97, R143, R401). [DEDUCED log 90] -/
def ownerActs (a : HbmAccess) (s : State) : State :=
  match a.holds with
  | .shelf c => shelfError c.val s
  | .pixels page media line column count => poisonPixels page.val media line.toNat column.toNat count.val s
  | .other => s

/-- What the access does where it reads, and to the burst's lasting poison (R401): a full write ends it; a partial write that
meets an uncorrectable error writes it back; a read that meets one hands it to the requester. [DEDUCED log 90] -/
def burstEcc (i p : Nat) (a : HbmAccess) (s : State) : State :=
  let rest := fun (x : PcS) => x.poisoned.filter (· != burstKey a)
  if a.write ∧ 32 ≤ a.bytes.val then modPc i p (fun x => { x with poisoned := rest x }) s
  else
    let s1 := eccOutcome i p a s
    if eccFinds i p a s ≠ .poison then s1
    else if a.write then modPc i p (fun x => { x with poisoned := burstKey a :: rest x }) s1
    else ownerActs a s1

/-- The request at place `k` is issued at tick `t`: an activation if its row is not open, its bytes, and the ECC's outcome
where it reads: a read, or the read of a partial write (R392, R401). -/
def issueReq (i p t : Nat) (e : HReq × Nat) (s : State) : State :=
  let a := e.1.a
  let s1 := if rowHit (pcOf i p s) t e.1 then s else activate i p t a s
  let s2 := modPc i p (fun x => { x with
    queue := x.queue.eraseIdx e.2, rows := SMap.put a.bank.val (a.row.val, t) x.rows, idleSince := t }) s1
  let s3 := addF (pgHBM i) (if a.write then HBM.WR_BYTES_bytes else HBM.RD_BYTES_bytes) a.bytes.val s2
  burstEcc i p a s3

/-! ## Working a pseudo-channel through to the present -/

/-- whether writes drain (R392): from 24 held, down to 8. [DEDUCED log 72] -/
def drains (x : PcS) : Bool :=
  let held := (x.queue.filter (fun q => q.a.write)).length
  decide (24 ≤ held) || (x.draining && decide (8 < held))

/-- The next thing the pseudo-channel does by now, if any: SRE at its tick (R397); while it is open, a REF that outranks, a
request, a REF while idle (R394). [DEDUCED log 72] -/
def pcStep (i p : Nat) (s : State) : Option State :=
  let x := pcOf i p s
  if x.mode = 1 then
    if x.sreAt ≤ s.clk then
      some (addF (pgHBM i) HBM.REFRESHES_count x.debt (modPc i p (fun x => { x with
        mode := 2, debt := 0, rows := [], catchUp := false, closedUntil := x.sreAt }) s))
    else none
  else if x.mode ≠ 0 ∨ s.clk < x.closedUntil then none
  else if refreshFirst i x s then some (issueRef i p s)
  else
    let t := max x.closedUntil x.seenAt
    match pickReq i x t s with
    | some e => some (issueReq i p t e (modPc i p (fun x => { x with draining := drains x }) s))
    | none => if 0 < x.debt ∧ x.queue.all (fun q => q.a.write) then some (issueRef i p s) else none

/-- up to `n` steps. -/
def pcRunN (i p : Nat) : Nat → State → State
  | 0, s => s
  | n + 1, s => match pcStep i p s with
    | none => s
    | some t => pcRunN i p n t

/-- the pseudo-channel is worked through to now: no more steps than requests and refreshes it holds. [DEDUCED log 72] -/
def pcRun (i p : Nat) (s : State) : State :=
  let x := pcOf i p s
  modPc i p (fun x => { x with seenAt := max x.seenAt s.clk }) (pcRunN i p (x.queue.length + x.debt + 2) s)

/-! ## Self-refresh (R397) -/

/-- SELF_REFRESH_EXIT: the pseudo-channel is served from 0.5 µs on; the debt restarts at 0. -/
def srExit (i p : Nat) (s : State) : State :=
  modPc i p (fun x => { x with
    mode := 0, debt := 0, catchUp := false, closedUntil := max x.closedUntil s.clk + 100, nextRefi := s.clk + tRefi i s,
    seenAt := s.clk }) s

/-- A request meets a pseudo-channel that is entering self-refresh before SRE: the entry is aborted once the REF in
progress completes (R397, R403). -/
def srAbort (i p : Nat) (s : State) : State :=
  let x := pcOf i p s
  let left := (x.sreAt - s.clk + tRfc - 1) / tRfc
  let paid := x.debt - min x.debt (left - 1)
  countPc i p 2 (addF (pgHBM i) HBM.REFRESHES_count paid (modPc i p (fun x => { x with
    mode := 0, debt := x.debt - paid, rows := [], closedUntil := x.sreAt - (left - 1) * tRfc, seenAt := s.clk }) s))

/-- a request reaches the pseudo-channel. -/
def pcWake (i p : Nat) (s : State) : State :=
  match (pcOf i p s).mode with
  | 1 => srAbort i p s
  | 2 => if inD2 s then s else srExit i p s
  | _ => s

/-! ## Requests (R391, R392) -/

/-- the request joins its pseudo-channel's queue. -/
def joinQueue (i p : Nat) (q : HReq) (s : State) : State :=
  let s1 := pcWake i p (pcRun i p s)
  pcRun i p (modPc i p (fun x => { x with queue := x.queue ++ [q] }) s1)

/-- requests whose requester has credit again go on, oldest first (R391). -/
def unblock (i : Nat) (s : State) : State :=
  let l := (hbmOf i s).blocked
  l.foldl (fun s e =>
    if allotment e.2.a.requester.val ≤ outstandingOf i e.2.a.requester.val s then
      modHbm i (fun x => { x with blocked := x.blocked ++ [e] }) s
    else joinQueue i e.1 e.2 s) (modHbm i (fun x => { x with blocked := [] }) s)

/-- what every command on a stack does first and last: its pseudo-channels are worked through, and credit that came back
is used. [DEDUCED log 72] -/
def hbmSettle (i : Nat) (s : State) : State := unblock i (pcs.foldl (fun s p => pcRun i p s) s)

/-- HBM_REQUEST (R391 to R393, R397, R401): a requester without credit waits. -/
def hbmRequestOp (i p : Nat) (a : HbmAccess) (s : State) : State :=
  if !hbmRuns i s ∨ (pcOf i p s).mode = 3 then s
  else
    let s1 := hbmSettle i s
    if allotment a.requester.val ≤ outstandingOf i a.requester.val s1 then
      modHbm i (fun x => { x with blocked := x.blocked ++ [(p, ⟨a, s.clk⟩)] }) s1
    else unblock i (joinQueue i p ⟨a, s.clk⟩ s1)

def execHbmRequest (stack : Fin 2) (pc : Fin 32) (a : HbmAccess) (s : State) : Host.Outcome State Fault Refusal :=
  .next (hbmRequestOp stack.val pc.val a s)

/-- REFRESH_INTERVAL (R394): tREFI elapses, the debt rises by 1. A pseudo-channel in self-refresh refreshes itself, a
released one is not refreshed. -/
def refreshIntervalOp (i p : Nat) (s : State) : State :=
  if !hbmRuns i s ∨ (pcOf i p s).mode ≠ 0 then s
  else
    let s1 := hbmSettle i (advanceTo (pcOf i p s).nextRefi s)
    pcRun i p (modPc i p (fun x => { x with
      debt := min 31 (x.debt + 1), nextRefi := max x.nextRefi s1.clk + tRefi i s1 }) s1)

def execRefreshInterval (stack : Fin 2) (pc : Fin 32) (s : State) : Host.Outcome State Fault Refusal :=
  .next (refreshIntervalOp stack.val pc.val s)

/-! ## Temperature (R394, R395, R404) -/

/-- DEBT_REVALUE (R395): each pseudo-channel not in self-refresh has its debt re-valued and its interval restarted. -/
def revalue (i : Nat) (hot : Bool) (s : State) : State :=
  let h := pgHBM i
  let s1 := if hot then modHbm i (fun x => { x with hotSince := s.clk }) s
    else addF h HBM.HOT_US_us ((s.clk - (hbmOf i s).hotSince) / tickUs) s
  let s2 := setF h HBM.ST_hot hot.toNat s1
  let s3 := pcs.foldl (fun s p =>
    if (pcOf i p s).mode ≠ 0 then s
    else modPc i p (fun x => { x with
      debt := if hot then min 31 (2 * x.debt) else (x.debt + 1) / 2,
      catchUp := hot && decide (4 < 2 * x.debt), nextRefi := s.clk + tRefi i s }) s) s2
  raise h 0 (pcs.foldl (fun s p => pcRun i p s) s3)

/-- TEMPERATURE_READING (R394, R395, R404): every 1 ms; three failed readings in a row apply the doubled rate. -/
def temperatureOp (i : Nat) (temp : Option Byte) (s : State) : State :=
  let h := pgHBM i
  if !hbmRuns i s then s
  else
    let s1 := hbmSettle i s
    match temp with
    | none =>
      let n := (hbmOf i s1).tempFails + 1
      let s2 := modHbm i (fun x => { x with tempFails := n }) s1
      if n = 3 then raise h 8 (setF h HBM.ST_temp_fail 1 (if isHot i s2 then s2 else revalue i true s2)) else s2
    | some t =>
      let s2 := setF h HBM.TEMP_temp_c t.toNat (setF h HBM.TEMP_max_c (max (getF h HBM.TEMP_max_c s1) t.toNat)
        (setF h HBM.ST_temp_fail 0 (modHbm i (fun x => { x with tempFails := 0 }) s1)))
      let s3 := if !isHot i s2 && decide (85 ≤ t.toNat) then revalue i true s2
        else if isHot i s2 && decide (t.toNat < 83) then revalue i false s2
        else s2
      raiseIf (decide (105 ≤ t.toNat)) h 9 s3

/-- TEMP_READ (R405): the read clears max_c. -/
def tempReadOp (i : Nat) (s : State) : Nat × State :=
  let h := pgHBM i
  (getF h HBM.TEMP_max_c s * 256 + getF h HBM.TEMP_temp_c s, setF h HBM.TEMP_max_c 0 s)

def execTempRead (r : Req) (stack : Fin 2) (s : State) : Host.Outcome State Fault Refusal :=
  .next (asRead r (pgHBM stack.val) 0x120 (tempReadOp stack.val) s)

/-- HOT_US as read: with the time since the doubled rate began, while it applies (R395). -/
def hotUs (i : Nat) (s : State) : Nat :=
  getF (pgHBM i) HBM.HOT_US_us s + (if isHot i s then (s.clk - (hbmOf i s).hotSince) / tickUs else 0)

/-- SELF_REFRESH_ENTRY (R397): an idle permitted pseudo-channel pays its debt and issues SRE; until then it is entering. [DEDUCED log 72] -/
def selfRefreshOp (i p : Nat) (s : State) : State :=
  if !hbmRuns i s then s
  else
    let s0 := hbmSettle i s
    let x0 := pcOf i p s0
    if x0.mode ≠ 0 ∨ !kept i p s0 ∨ !x0.queue.all (fun q => q.a.write) then s0
    else if !inD2 s0 && (!(getF (pgHBM i) HBM.SR_ALLOW_allow s0).testBit p || effTol 3 (32 * i + p) s0 == 0) then s0
    else
      let idle := if inD2 s0 then s0.clk else max x0.idleSince x0.closedUntil + (getF (pgHBM i) HBM.SR_idle_ns s0 + 4) / 5
      let s1 := pcRun i p (advanceTo idle s0)
      let x := pcOf i p s1
      let start := max x.closedUntil s1.clk
      let s2 := x.queue.foldl (fun s q => issueReq i p s1.clk (q, 0) s) s1
      pcRun i p (modPc i p (fun x => { x with mode := 1, rows := [], sreAt := start + tRfc * x.debt }) s2)

def execSelfRefreshEntry (stack : Fin 2) (pc : Fin 32) (s : State) : Host.Outcome State Fault Refusal :=
  .next (selfRefreshOp stack.val pc.val s)

/-- HAMMER_WINDOW (R396, R403): at the boundary the trackers clear and the throttles end. -/
def hammerWindowOp (i : Nat) (s : State) : State :=
  if !hbmRuns i s then s
  else
    let w := (hbmOf i s).windowAt + 32 * tickMs
    let s1 := hbmSettle i (advanceTo w s)
    hbmSettle i (modHbm i (fun x => { x with
      windowAt := w, pcs := x.pcs.map (fun e => (e.1, { e.2 with counts := [], throttled := [] })) }) s1)

def execHammerWindow (stack : Fin 2) (s : State) : Host.Outcome State Fault Refusal := .next (hammerWindowOp stack.val s)

/-! ## Retraining (R399, R400) -/

/-- offset of the pseudo-channel's slot in the period of 256 µs, in ticks. [DEDUCED log 72] -/
def slotOffset (i p : Nat) : Nat := (8 * p + 4 * i) * tickUs

/-- index of the slot that opened last; 0 before the first (its own opening is at `slotOffset`). -/
def slotNow (i p : Nat) (s : State) : Nat := (s.clk - slotOffset i p) / 51200

/-- the tick at which slot `k` opens. -/
def slotAt (i p k : Nat) : Nat := slotOffset i p + 51200 * k

/-- the slot of the pseudo-channel that is to be served next, not one that opened more than 6.5 µs ago. -/
def dueSlot (i p : Nat) (s : State) : Nat :=
  let k := slotNow i p s
  if slotOffset i p ≤ s.clk ∧ ((pcOf i p s).lastSlot = some k ∨ slotAt i p k + 1300 < s.clk) then k + 1 else k

/-- a pause of any pseudo-channel of the device is in progress. -/
def anyPaused (s : State) : Bool :=
  [0, 1].any (fun i => (hbmOf i s).pcs.any (fun e => decide (s.clk < e.2.pausedUntil)))

/-- a pause may start now (R399, R403). -/
def pauseFree (i p : Nat) (s : State) : Bool :=
  let x := pcOf i p s
  !anyPaused s && decide (x.debt ≤ getF (pgHBM i) HBM.REFRESH_postpone_max s) && !refreshFirst i x s &&
    x.mode != 1 && x.bankUntil.all (fun e => decide (e.2 ≤ s.clk))

/-- spare lanes left (R400): repairs are kept with the seeds in the folio. -/
def sparesLeft (i p : Nat) (s : State) : Nat := 2 - (SMap.get [] (32 * i + p) s.fwl.repairs).length

/-- LANE_REPAIR (R400): a lane that was due is remapped onto a spare, or, with none left, stays in service. -/
def repairLane (i p l : Nat) (s : State) : State :=
  if sparesLeft i p s = 0 then raise (pgHBM i) 4 s
  else
    raise (pgHBM i) 3 (countPc i p 3
      { s with fwl := { s.fwl with repairs := modAt [] (32 * i + p) (fun r => r ++ [l]) s.fwl.repairs } })

/-- what a pause measures: each lane's eye, and the lanes that fall due by it at 3 pauses in a row (R400). -/
def measureEyes (i p : Nat) (eyes : List (Fin 36 × Byte)) (s : State) : State :=
  let lim := getF (pgHBM i) HBM.REPAIR_min_eye s
  eyes.foldl (fun s e => modPc i p (fun x =>
    let n := if e.2.toNat < lim then SMap.get 0 e.1.val x.lowEyes + 1 else 0
    { x with lowEyes := SMap.set 0 e.1.val n x.lowEyes,
             due := if 3 ≤ n ∧ !x.due.contains e.1.val then x.due ++ [e.1.val] else x.due }) s) s

/-- a pause of `ticks` starts now. -/
def startPause (i p ticks : Nat) (eyes : List (Fin 36 × Byte)) (s : State) : State :=
  let due := (pcOf i p s).due
  let s1 := modPc i p (fun x => { x with
    due := [], lowEyes := x.lowEyes.filter (fun e => !due.contains e.1), rows := [],
    pausedUntil := s.clk + ticks, closedUntil := max x.closedUntil s.clk + ticks }) s
  measureEyes i p eyes (due.foldl (fun s l => repairLane i p l s) s1)

/-- RETRAIN_PAUSE (R399, R475): the pause starts in its slot, or as soon after as it may. -/
def retrainPauseOp (i p ticks : Nat) (eyes : List (Fin 36 × Byte)) (s : State) : State :=
  if !hbmRuns i s ∨ !kept i p s ∨ inD2 s then s
  else
    let k := dueSlot i p s
    let s1 := hbmSettle i (advanceTo (slotAt i p k) s)
    if pauseFree i p s1 then startPause i p ticks eyes (modPc i p (fun x => { x with lastSlot := some k }) s1) else s1

def execRetrainPause (stack : Fin 2) (pc : Fin 32) (ticks : Fin 301) (eyes : List (Fin 36 × Byte)) (s : State) :
    Host.Outcome State Fault Refusal :=
  .next (retrainPauseOp stack.val pc.val ticks.val eyes s)

/-- PAUSE_SKIP (R399): 6.5 µs after its slot opened the pause still cannot start. -/
def pauseSkipOp (i p : Nat) (s : State) : State :=
  if !hbmRuns i s ∨ !kept i p s ∨ inD2 s then s
  else
    let k := dueSlot i p s
    let s1 := hbmSettle i (advanceTo (slotAt i p k + 1300) s)
    if pauseFree i p s1 then s1
    else raise (pgHBM i) 5 (addF (pgHBM i) HBM.PAUSE_SKIP_count 1 (satF pgHLT HLT.PAUSE_STAT_hbm_skips 1
      (modPc i p (fun x => { x with lastSlot := some k }) s1)))

def execPauseSkip (stack : Fin 2) (pc : Fin 32) (s : State) : Host.Outcome State Fault Refusal :=
  .next (pauseSkipOp stack.val pc.val s)

/-- PATROL_SCRUB (R402, R453): the scrubber reads a burst as requester 35, at the lowest priority: only of a kept, open
pseudo-channel that has nothing else to do; a corrected burst is written back, a poisoned one is logged and left to its
owner's next read. [DEDUCED log 72] -/
def patrolScrubOp (i p : Nat) (a : HbmAccess) (s : State) : State :=
  if !hbmRuns i s ∨ !kept i p s ∨ !isF (pgHBM i) HBM.CFG_scrub_en s ∨ isF pgHLT HLT.ST_throttle s then s
  else
    let s1 := hbmSettle i s
    let x := pcOf i p s1
    let key := a.bank.val * 2 ^ 14 + a.row.val
    if x.mode ≠ 0 ∨ s1.clk < x.closedUntil ∨ !x.queue.isEmpty ∨ 0 < SMap.get 0 key x.counts then s1
    else
      let s2 := issueReq i p s1.clk (⟨{ a with requester := 35, write := false, bytes := 32, holds := .other }, s1.clk⟩, 0) s1
      match eccFinds i p a s1 with
      | .corrected _ => addF (pgHBM i) HBM.WR_BYTES_bytes 32 s2
      | _ => s2

def execPatrolScrub (stack : Fin 2) (pc : Fin 32) (a : HbmAccess) (s : State) : Host.Outcome State Fault Refusal :=
  .next (patrolScrubOp stack.val pc.val a s)

/-! ## Placement (R390) -/

/-- bytes of a pseudo-channel (R389). -/
def pcCapacity : Nat := 805306368

/-- MB/s of a pseudo-channel (R389). -/
def pcBandwidth : Nat := 38400

/-- the buffers that pages hold: OFF gives a page's buffer up (R23, R97, R179). -/
def liveBufs (s : State) : SMap HbmBuf := s.bufs.filter (fun e => act e.1 s != stOFF)

/-- bytes placed on a pseudo-channel, and its committed traffic. -/
def pcUsed (i p : Nat) (s : State) : Nat :=
  (liveBufs s).foldl (fun n e => if e.2.stack = i ∧ e.2.pcs.contains p then n + e.2.bytes else n) 0

/-- see the log: [DESIGN CHOICE log 26] -/
def pcTraffic (i p : Nat) (s : State) : Nat :=
  (liveBufs s).foldl (fun n e => if e.2.stack = i ∧ e.2.pcs.contains p then n + e.2.mbps else n) 0

/-- both the active and the committed KEEP keep the pseudo-channel. -/
def keptNow (i p : Nat) (s : State) : Bool := kept i p s && (getCm (pgHBM i) HBM.KEEP_kept s).testBit p

/-- the least loaded first, lower pseudo-channels first on ties. [DEDUCED log 27] -/
def insertBy (e : Nat × Nat) : List (Nat × Nat) → List (Nat × Nat)
  | [] => [e]
  | x :: t => if e.1 < x.1 then e :: x :: t else x :: insertBy e t

/-- the `k` kept pseudo-channels of stack `i` with room for `n` bytes that carry least, with the load of the last. [DEDUCED log 27] -/
def pcGroup (i k n : Nat) (s : State) : Option (Nat × List Nat) :=
  let l := ((pcs.filter (fun p => keptNow i p s && decide (pcUsed i p s + n ≤ pcCapacity))).foldl
    (fun l p => insertBy (pcTraffic i p s, p) l) []).take k
  if l.length < k then none else (l.getLast?.map Prod.fst).map (fun m => (m, l.map Prod.snd))

/-- the place that R390 gives a buffer: the smallest group whose bandwidth covers the traffic twice over; of the two
stacks the one whose most loaded pseudo-channel carries less, stack 0 on ties. [DEDUCED log 27] -/
def placeFor (bytes mbps : Nat) (s : State) : Option HbmBuf :=
  match [1, 2, 4, 8].find? (fun k => decide (2 * mbps ≤ k * pcBandwidth)) with
  | none => none
  | some k =>
    let n := (bytes + k - 1) / k
    let m := (mbps + k - 1) / k
    match pcGroup 0 k n s, pcGroup 1 k n s with
    | some a, some b => if b.1 < a.1 then some ⟨1, b.2, n, m⟩ else some ⟨0, a.2, n, m⟩
    | some a, none => some ⟨0, a.2, n, m⟩
    | none, some b => some ⟨1, b.2, n, m⟩
    | none, none => none

/-- the buffer that page `p` needs with the settings that `g` reads (R86, R94, R121, R179, R206, R209); none for a page
without one. [DESIGN CHOICE log 26] -/
def bufferNeed (g : Nat → Fld → State → Nat) (p : Nat) (s : State) : Option Nat :=
  match blockOf p with
  | some .ing =>
    some ((g p ING.RING_depth s + 2) *
      Config.pictureBytes (g p ING.VDIM_width s) (g p ING.VDIM_height s) (g p ING.VFMT_sampling s) (g p ING.VFMT_depth s))
  | some .ech =>
    some (g p ECH.PRED_shelf s *
      Config.pictureBytes (g p ECH.DIM_width s) (g p ECH.DIM_height s) (g p ECH.FMT_chroma s) (g p ECH.FMT_depth10 s))
  | some .out => some (g p OUT.RING_size_mib s * 2 ^ 20)
  | some .dch =>
    some ((g p DCH.BUF_dpb s + g p DCH.BUF_hold s + 1) *
      Config.pictureBytes (g p DCH.DIM_width s) (g p DCH.DIM_height s) (g p DCH.FMT_sampling s) (g p DCH.FMT_depth s) +
      g p DCH.BUF_cpb_mib s * 2 ^ 20)
  | _ => none

/-- the page's buffer placed anew, with its present place given up first; none where it cannot be placed. [DEDUCED log 25] -/
def placeBuffer (g : Nat → Fld → State → Nat) (p : Nat) (s : State) : Option State :=
  match bufferNeed g p s with
  | none => some s
  | some n =>
    let s1 := { s with bufs := SMap.drop p s.bufs }
    (placeFor n (Config.bufTraffic p n) s1).map (fun b => { s1 with bufs := SMap.put p b s1.bufs })

/-- the page gives its buffer up (OFF, or its settings lost). [DEDUCED log 25] -/
def dropBuffer (p : Nat) (s : State) : State := { s with bufs := SMap.drop p s.bufs }

/-- the commit of a page that places a buffer can place it (R86, R179, R205, R390). -/
def canPlace (p : Nat) (s : State) : Bool := (placeBuffer getSh p s).isSome

/-- pseudo-channel `p` of stack `i` holds a buffer. -/
def pcHolds (i p : Nat) (s : State) : Bool := (liveBufs s).any (fun e => e.2.stack == i && e.2.pcs.contains p)

/-! ## Kept and released pseudo-channels (R398) and commits -/

/-- What a commit to an HBM page must satisfy beyond its ranges (R396, R398): no pseudo-channel with a buffer released,
no threshold above half the disturbance limit. -/
def hbmValid (i : Nat) (s : State) : Bool :=
  pcs.all (fun p => (getSh (pgHBM i) HBM.KEEP_kept s).testBit p || !pcHolds i p s) &&
    decide (getSh (pgHBM i) HBM.RH_threshold s ≤ Config.disturbHalf s.fwl.folio i)

/-- STATE_CMD to IDLE or OFF is refused while any buffer is placed on the stack (R404). -/
def hbmBusy (i : Nat) (s : State) : Bool := (liveBufs s).any (fun e => e.2.stack == i)

/-- the pseudo-channels whose KEEP bit the pending generation changes. -/
def keepChanges (i : Nat) (s : State) : List Nat :=
  pcs.filter (fun p => (getCm (pgHBM i) HBM.KEEP_kept s).testBit p != kept i p s)

/-- What a newly committed STATE_CMD makes of the controller (R23, R24, R404): RUNNING is reached by training; leaving it loses
the contents. -/
def hbmCommand (i : Nat) (s : State) : State :=
  let h := pgHBM i
  let c := getF h HDR.CMD_state s
  if c = stRUNNING then
    if [stIDLE, stOFF, stTEST, stLOW].contains (act h s) then setAct h stSTARTING 1 s else s
  else if c = stLOW ∧ act h s = stRUNNING then s
  else if act h s = stFAULT ∧ c ≠ stIDLE ∧ c ≠ stOFF then s
  else setAct h c 0 (setF h HBM.ST_trained 0
    { s with hbm := SMap.put i { HbmS.reset with pcCounts := (hbmOf i s).pcCounts } s.hbm })

/-- The generation of an HBM page takes effect (R398, R405): KEEP's changes power pseudo-channels down or bring them back
within 2 µs; a STATE_CMD acts when it is new, or when it takes the page out of FAULT (R23). -/
def takeHbm (i : Nat) (s : State) : State :=
  let l := keepChanges i s
  let old := getF (pgHBM i) HDR.CMD_state s
  let s1 := takeGen (pgHBM i) s
  let s2 := l.foldl (fun s p =>
    if kept i p s then modPc i p (fun x => { PcS.reset with
      corr := x.corr, closedUntil := s.clk + 400, seenAt := s.clk, idleSince := s.clk, nextRefi := s.clk + tRefi i s }) s
    else modPc i p (fun x => { PcS.reset with mode := 3, corr := x.corr }) s) s1
  if getF (pgHBM i) HDR.CMD_state s2 = old ∧ act (pgHBM i) s2 ≠ stFAULT then s2 else hbmCommand i s2

/-- KEEP_APPLY (R398, R403): the commit takes effect once no request for the affected pseudo-channels is outstanding and none
of them is entering self-refresh. -/
def keepApplyOp (i : Nat) (s : State) : State :=
  if !pendingGen (pgHBM i) s then s
  else
    let s1 := hbmSettle i s
    if (keepChanges i s1).all (fun p => (pcOf i p s1).queue.isEmpty && (pcOf i p s1).mode != 1) then takeHbm i s1 else s1

def execKeepApply (stack : Fin 2) (s : State) : Host.Outcome State Fault Refusal := .next (keepApplyOp stack.val s)

/-! ## Start and failure (R404) -/

/-- HBM_TRAINING_DONE (R404): a STARTING stack is trained, from its seeds or in full, and runs; the windows and intervals
start. Where the folio failed its check its seeds are none (R440). -/
def trainingDoneOp (i : Nat) (seedsGood : Bool) (s : State) : State :=
  let h := pgHBM i
  if act h s ≠ stSTARTING then s
  else
    let x : HbmS := { HbmS.reset with
      windowAt := s.clk
      pcCounts := (hbmOf i s).pcCounts
      pcs := pcs.map (fun p => (p, { PcS.reset with
        mode := if !kept i p s then 3 else if inD2 s then 2 else 0, nextRefi := s.clk + tRefi i s, seenAt := s.clk, idleSince := s.clk })) }
    raiseIf (!(seedsGood && isF pgFWL FWL.ST_folio_ok s)) h 7 (setAct h stRUNNING 0 (setF h HBM.ST_trained 1 { s with hbm := SMap.put i x s.hbm }))

def execHbmTrainingDone (stack : Fin 2) (seedsGood : Bool) (s : State) : Host.Outcome State Fault Refusal :=
  .next (trainingDoneOp stack.val seedsGood s)

/-! ## What the selected registers read (R405) -/

/-- PC_STAT. -/
def pcStat (i : Nat) (s : State) : Nat :=
  let p := getF (pgHBM i) HBM.PC_SEL_pc s
  let x := pcOf i p s
  let st := if act (pgHBM i) s = stFAULT then 5 else if s.clk < x.pausedUntil then 4
    else if x.mode = 1 ∧ x.sreAt ≤ s.clk then 2 else x.mode
  st * 2 ^ 29 + sparesLeft i p s * 2 ^ 27 + min 63 (inOrderBanks x.queue).length * 2 ^ 21 +
    x.debt % 32 * 2 ^ 16 + min 65535 (pcTraffic i p s)

/-- RQ_STAT. -/
def rqStat (i : Nat) (s : State) : Nat :=
  let r := getF (pgHBM i) HBM.RQ_SEL_requester s
  let thr := (hbmOf i s).pcs.any (fun e => e.2.throttled.any (fun t => t.1 / 64 == r))
  thr.toNat * 2 ^ 31 + allotment r * 256 + min 127 (outstandingOf i r s)

end Sys2Proof.Machine
end

