-- ==== Sys2Proof/Machine/Iztaub.lean ====
section
/-! DEFINITION. Sys2Proof/Machine/Iztaub.lean: the Iztaub links (chapter 12, R332 to R354). -/

namespace Sys2Proof.Machine

/-! ## Lanes of a link (R300, R342) -/

/-- the physical lane that is logical lane `k` of link `j` (R300). -/
def physLane (j k : Nat) (s : State) : Nat :=
  16 + 4 * j + (if isF (pgLNE (16 + 4 * j)) LNE.ST_reversed s then 3 - k else k)

/-- the logical lanes of a link that are good: trained. -/
def goodLanes (j : Nat) (s : State) : List Nat := (List.range 4).filter (fun k => laneTrained (physLane j k s) s)

/-- the snr of a logical lane. -/
def laneSnr (j k : Nat) (s : State) : Nat := getF (pgLNE (physLane j k s)) LNE.FOM_snr s

/-- a lane joins a list held in order of snr, ties to the lower lane first. -/
def insertLane (snr : Nat → Nat) (k : Nat) : List Nat → List Nat
  | [] => [k]
  | m :: t => if snr m < snr k then k :: m :: t else m :: insertLane snr k t

/-- the width code that `n` lanes allow: 0 width 1, 1 width 2, 2 width 4 (R334). -/
def widthCode (n : Nat) : Nat := if 4 ≤ n then 2 else if 2 ≤ n then 1 else 0

def laneMask (l : List Nat) : Nat := (l.dedup.map (fun k => 2 ^ k)).sum

/-- the best lanes of `l` for a width code (R342). [DEDUCED log 68] -/
def bestLanes (j code : Nat) (l : List Nat) (s : State) : List Nat :=
  (l.foldl (fun a k => insertLane (fun m => laneSnr j m s) k a) []).take (2 ^ code)

/-- logical lanes of a mask. -/
def lanesOfMask (m : Nat) : List Nat := (List.range 4).filter (fun k => m.testBit k)

/-- STATUS.spare: a trained lane is left out (R354). -/
def settleSpare (j : Nat) (s : State) : State :=
  let rx := getF (pgIZL j) IZL.WIDTH_rx_mask s
  setF (pgIZL j) IZL.ST_spare ((act (pgIZL j) s == stRUNNING && (goodLanes j s).any (fun k => !rx.testBit k)).toNat) s

/-! ## Routes (R345, R346) -/

/-- the link carries the board group's management traffic (R345). -/
def memberLink (j : Nat) (s : State) : Bool := act (pgIZL j) s == stRUNNING && isF (pgIZL j) IZL.ST_member_ok s

/-- every route announced over a member link, one hop longer, at most 7 hops, not to this device. [PRESUMED log 67] -/
def routeOffers (s : State) : List Route :=
  ((List.range 4).filter (fun j => memberLink j s)).flatMap (fun j =>
    ((izlOf j s).heard.filter (fun e => e.1 != deviceNumber s && decide (e.2 + 1 ≤ 7))).map (fun e => ⟨e.1, j, e.2 + 1⟩))

/-- the shortest offer for a device, ties to the lower link. -/
def bestRoute (dev : Nat) (l : List Route) : Option Route :=
  (l.filter (fun r => r.device == dev)).foldl (fun b r => match b with
    | none => some r
    | some c => if r.hops < c.hops then some r else some c) none

/-- The route table follows what the partners announce: members known keep their place, new ones enter while it has
room for 8 with this device; a ninth raises EVENT bit 7, a change EVENT bit 6 (R346). -/
def settleRoutes (j : Nat) (s : State) : State :=
  let l := routeOffers s
  let kept := s.routes.filterMap (fun r => bestRoute r.device l)
  let fresh := ((l.map Route.device).dedup.filter (fun d => !(kept.any (fun r => r.device == d)))).filterMap (fun d => bestRoute d l)
  let now := (kept ++ fresh).take 7
  let s1 := if s.routes = now then s else raise (pgIZL j) 6 { s with routes := now }
  raiseIf (decide (7 < (kept ++ fresh).length)) (pgIZL j) 7 s1

/-! ## The frame (R335, R336) -/

/-- one frame as sent: its crc folds `seq` in. -/
def izlBytes (typ vl : Nat) (som eom : Bool) (ack : Nat) (freed : SMap Nat) (epoch seq : Nat) (payload : List Byte) : List Byte :=
  let b := beBytes 1 (typ * 64 + vl * 16 + som.toNat * 8 + eom.toNat * 4) ++ beBytes 1 payload.length ++ beBytes 2 ack ++
    (List.range 4).flatMap (fun v => beBytes 2 (SMap.get 0 v freed)) ++ beBytes 2 epoch ++ beBytes 2 0 ++ payload ++
    List.replicate (236 - payload.length) 0
  b ++ beBytes 4 (crc crc32 (b ++ beBytes 4 seq))

/-- the ack this side sends: the low 16 bits of the last data sequence it received in order. -/
def ackField (x : IzlS) : Nat := (x.expect + 0xFFFF) % 2 ^ 16

/-- a frame leaves on the link. -/
def sendIzl (j typ vl : Nat) (som eom : Bool) (seq : Nat) (payload : List Byte) (s : State) : State :=
  let x := izlOf j s
  emit .link (pgIZL j) (nats (izlBytes typ vl som eom (ackField x) x.freed (getF (pgIZL j) IZL.EPOCH_epoch s) seq payload)) s

/-- the sequence of the data frame that the sender sends next, a replayed one during a rewind; idle and nak frames fold it (R336).
[DEDUCED log 66] -/
def nextData (x : IzlS) : Nat := x.rewind.getD x.nextSeq

/-- NAK_SEND (R337): a nak with ack = E − 1, and frames are discarded from now on. -/
def sendNak (j : Nat) (s : State) : State :=
  modIzl j (fun x => { x with nakAt := some s.clk }) (sendIzl j 2 0 false false (nextData (izlOf j s)) [] s)

/-! ## Replay (R337) -/

/-- the sender rewinds to the oldest frame not acknowledged; one in progress for the same ack goes on (R337, R351). -/
def startRewind (j : Nat) (s : State) : State :=
  let x := izlOf j s
  match x.buffer with
  | [] => s
  | (q, _) :: _ =>
    if x.rewind.isSome ∧ x.lastNak = some q then s
    else
      raise (pgIZL j) 4 (setF (pgIZL j) IZL.ST_replaying 1 (addF (pgIZL j) IZL.REPLAYS_count 1
        (modIzl j (fun x => { x with rewind := some q, lastNak := some q, ackAt := s.clk }) s)))

/-- the ack and credits of a good frame are taken (R336, R338). -/
def takeAck (j : Nat) (f : List Byte) (s : State) : State :=
  let x := izlOf j s
  let base := match x.buffer with | (q, _) :: _ => q | [] => x.nextSeq
  let d := (fieldAt 2 2 f + 2 ^ 32 + 1 - base % 2 ^ 16) % 2 ^ 16
  let n := if d ≤ x.buffer.length then d else 0
  let s1 := (List.range 4).foldl (fun s v =>
    let now := fieldAt (4 + 2 * v) 2 f
    let back := (now + 2 ^ 16 - SMap.get 0 v (izlOf j s).seen) % 2 ^ 16
    addF (pgIZL j) (IZL.CREDIT_credits v) back (modIzl j (fun x => { x with seen := SMap.put v now x.seen }) s)) s
  if n = 0 then s1
  else
    let rest := x.buffer.drop n
    let rw := match x.rewind with
      | some q => if rest.any (fun e => e.1 == q) then some q else rest.head?.map Prod.fst
      | none => none
    setF (pgIZL j) IZL.ST_replaying rw.isSome.toNat
      (modIzl j (fun x => { x with buffer := rest, ackAt := s.clk, rewind := rw }) s1)

/-! ## Receiving (R336 to R340) -/

/-- an accepted data frame joins its message; the eom frame makes it whole for the client (R338, R340). -/
def acceptData (j vl : Nat) (som eom : Bool) (payload : List Byte) (s : State) : State :=
  let x := izlOf j s
  let p := if som then (⟨vl, 0, []⟩ : IzlMsg) else SMap.get ⟨vl, 0, []⟩ vl x.part
  let q : IzlMsg := ⟨vl, p.frames + 1, p.bytes ++ payload⟩
  addF (pgIZL j) (IZL.CREDIT_held vl) 1 (addF (pgIZL j) IZL.FRAMES_RX_frames 1 (modIzl j (fun x =>
    if eom then { x with expect := (x.expect + 1) % 2 ^ 32, nakAt := none, part := SMap.drop vl x.part, inbox := x.inbox ++ [q] }
    else { x with expect := (x.expect + 1) % 2 ^ 32, nakAt := none, part := SMap.put vl q x.part }) s))

/-- A frame is received (R336, R337): its crc is checked against E and its epoch against this link's; a bad one is counted and, the first
time, answered by a nak; a good one gives its ack and credits, a nak rewinds, data is accepted. -/
def izlReceive (j : Nat) (f : List Byte) (s : State) : State :=
  let p := pgIZL j
  if act p s ≠ stRUNNING then s
  else
    let x := izlOf j s
    let typ := fieldAt 0 1 f / 64
    let good := decide (f.length = 256) && fieldAt 252 4 f == crc crc32 (f.take 252 ++ beBytes 4 x.expect) &&
      fieldAt 12 2 f == getF p IZL.EPOCH_epoch s && typ != 3
    if !good then
      let s1 := addF p IZL.CRC_ERR_frames 1 s
      if x.nakAt.isSome then s1 else sendNak j s1
    else
      let s1 := takeAck j f s
      match typ with
      | 1 => acceptData j (bitsOf 4 2 (fieldAt 0 1 f)) ((fieldAt 0 1 f).testBit 3) ((fieldAt 0 1 f).testBit 2)
          (sub 16 (fieldAt 1 1 f) f) s1
      | 2 => startRewind j s1
      | _ => s1

/-- IZL_FRAME (R336), with the codewords corrected and failed since the frame before (R333). -/
def execIzlFrame (link : Fin 4) (frame : List Byte) (fecCorr fecUncorr : Nat) (s : State) : Host.Outcome State Fault Refusal :=
  let p := pgIZL link.val
  .next (izlReceive link.val frame
    (if act p s = stRUNNING then addF p IZL.FEC_CORR_codewords fecCorr (addF p IZL.FEC_UNCORR_codewords fecUncorr s) else s))

/-- NAK (R337): a nak frame is received. -/
def execNak (link : Fin 4) (frame : List Byte) (s : State) : Host.Outcome State Fault Refusal :=
  .next (if fieldAt 0 1 frame / 64 = 2 then izlReceive link.val frame s else s)

/-- ticks of REPLAY.timeout_ns. -/
def replayTicks (j : Nat) (s : State) : Nat := (getF (pgIZL j) IZL.REPLAY_timeout_ns s + 4) / 5

/-- REPLAY_TIMEOUT (R337): ack has not advanced for timeout_ns. -/
def execReplayTimeout (link : Fin 4) (s : State) : Host.Outcome State Fault Refusal :=
  let j := link.val
  .next (if act (pgIZL j) s = stRUNNING ∧ (izlOf j s).buffer ≠ [] ∧ (izlOf j s).rewind = none then
      startRewind j (advanceTo ((izlOf j s).ackAt + replayTicks j s) s)
    else s)

/-- NAK_REPEAT (R337): timeout_ns after the last nak, with no good data frame since. -/
def execNakRepeat (link : Fin 4) (s : State) : Host.Outcome State Fault Refusal :=
  let j := link.val
  .next (match (izlOf j s).nakAt with
    | some t => if act (pgIZL j) s = stRUNNING then sendNak j (advanceTo (t + replayTicks j s) s) else s
    | none => s)

/-! ## Sending (R338, R339) -/

/-- the virtual lane whose new frame goes next (R339): one that has waited through 15 frames of higher lanes, else the
highest with a frame and a credit. -/
def nextLane (j : Nat) (s : State) : Option Nat :=
  let x := izlOf j s
  let able := (List.range 4).filter (fun v => !(SMap.get [] v x.waiting).isEmpty && getF (pgIZL j) (IZL.CREDIT_credits v) s != 0)
  match able.find? (fun v => decide (15 ≤ SMap.get 0 v x.skipped)) with
  | some v => some v
  | none => able.head?

/-- IZL_FRAME_SEND (R339): a replay frame, else a new data frame, else an idle frame. -/
def izlSendOp (j : Nat) (s : State) : State :=
  let p := pgIZL j
  let x := izlOf j s
  if act p s ≠ stRUNNING then s
  else match x.rewind, x.rewind.bind (fun q => x.buffer.find? (fun e => e.1 == q)) with
    | some _, some (q, d) =>
      let next := (x.buffer.find? (fun e => e.1 == (q + 1) % 2 ^ 32)).map Prod.fst
      setF p IZL.ST_replaying next.isSome.toNat (addF p IZL.REPLAY_FRAMES_frames 1 (addF p IZL.FRAMES_TX_frames 1
        (modIzl j (fun x => { x with rewind := next, lastNak := if next.isSome then x.lastNak else none })
          (sendIzl j 1 d.vl d.som d.eom q d.payload s))))
    | _, _ =>
      match (if 1024 ≤ x.buffer.length then none else nextLane j s) with
      | none => sendIzl j 0 0 false false (nextData x) [] s
      | some v =>
        match SMap.get [] v x.waiting with
        | [] => s
        | d :: rest =>
          let lower := (List.range 4).filter (fun w => decide (v < w) && !(SMap.get [] w x.waiting).isEmpty &&
            getF p (IZL.CREDIT_credits w) s != 0)
          addF p IZL.FRAMES_TX_frames 1 (subF p (IZL.CREDIT_credits v) 1 (modIzl j (fun x => { x with
            waiting := SMap.put v rest x.waiting, buffer := x.buffer ++ [(x.nextSeq, d)], nextSeq := (x.nextSeq + 1) % 2 ^ 32,
            ackAt := if x.buffer.isEmpty then s.clk else x.ackAt,
            skipped := lower.foldl (fun m w => modAt 0 w (· + 1) m) (SMap.put v 0 x.skipped) })
            (sendIzl j 1 v d.som d.eom x.nextSeq d.payload s)))

def execIzlFrameSend (link : Fin 4) (s : State) : Host.Outcome State Fault Refusal := .next (izlSendOp link.val s)

/-! ## Link down (R340, R344) -/

/-- messages not yet acknowledged whole. -/
def unsentMessages (x : IzlS) : Nat :=
  ((x.buffer.map Prod.snd ++ x.waiting.flatMap Prod.snd).filter IzlTx.eom).length

/-- the lending messages of this device that the link has not acknowledged and that move tokens: group and tokens (R172). -/
def doubtful (x : IzlS) (s : State) : List (Nat × Nat) :=
  (((x.buffer.map Prod.snd ++ x.waiting.flatMap Prod.snd).filter (fun f => f.vl == 2 && fieldAt 0 1 f.payload == 4 &&
    fieldAt 4 2 f.payload % 1024 == deviceNumber s && [2, 4, 5].contains (fieldAt 36 1 f.payload)))).map
      (fun f => (fieldAt 37 1 f.payload % 8, fieldAt 48 4 f.payload))

/-- their tokens are in doubt (R172): MUX EVENT bit 4. -/
def countDoubt (l : List (Nat × Nat)) (s : State) : State :=
  l.foldl (fun s e => raise (pgMUX e.1) 4 (addF (pgMUX e.1) MUX.DOUBT_tokens e.2 s)) s

/-- the link goes down: `st` is what the page becomes. -/
def izlDown (j st reason : Nat) (s : State) : State :=
  let p := pgIZL j
  if act p s ≠ stRUNNING then s
  else
    let n := unsentMessages (izlOf j s)
    let s1 := modIzl j (fun x => { IzlS.reset with nextSeq := 0, goodSince := x.goodSince }) s
    let s2 := setAll p ([IZL.WIDTH_rx_mask, IZL.WIDTH_tx_mask, IZL.WIDTH_rx_width, IZL.WIDTH_tx_width, IZL.PARTNER_valid,
      IZL.ST_member_ok, IZL.ST_replaying, IZL.ST_spare].map (fun f => (f, 0)) ++
      (List.range 4).flatMap (fun v => [(IZL.CREDIT_credits v, 0), (IZL.CREDIT_held v, 0)])) s1
    let s3 := raise p 1 (addF p IZL.LINK_DOWNS_count 1 (setAct p st reason s2))
    settleRoutes j (countDoubt (doubtful (izlOf j s) s) (raiseIf (decide (0 < n)) p 5 (addF p IZL.MSG_LOST_count n s3)))

/-! ## Widths (R342, R343) -/

/-- the receiver asks for `code` on `mask` (R342). -/
def askWidth (j code mask : Nat) (s : State) : State := modIzl j (fun x => { x with req := some (code, mask) }) s

/-- the lanes the receiver has or has asked for. -/
def rxLanes (j : Nat) (s : State) : List Nat :=
  lanesOfMask (match (izlOf j s).req with | some r => r.2 | none => getF (pgIZL j) IZL.WIDTH_rx_mask s)

/-- The receiver narrows to its best good lanes, or the link goes down for want of one (R342, R344, R351). [DEDUCED log 66] -/
def narrowOp (j : Nat) (bad : List Nat) (s : State) : State :=
  let p := pgIZL j
  if act p s ≠ stRUNNING then s
  else
    let good := (goodLanes j s).filter (fun k => !(bad.contains k))
    if (rxLanes j s).all (fun k => good.contains k) then settleSpare j s
    else if good = [] then izlDown j stSTARTING 5 s
    else
      let code := min (widthCode good.length) (getF p IZL.CFG_max_width s)
      settleSpare j (raise p 2 (addF p IZL.NARROWS_count 1 (askWidth j code (laneMask (bestLanes j code good s)) s)))

/-- the lane that holds at least 90 % of the symbol errors of 64 consecutive uncorrectable codewords (R342). -/
def faultyLane (r : FecRun) : Option Nat :=
  if r.codewords < 64 then none
  else (List.range 4).find? (fun k => decide (0 < r.errors.getD k 0 ∧ 9 * (r.errors.take 4).sum ≤ 10 * r.errors.getD k 0))

/-- NARROW (R342): after a loss of lock, or, with fast_narrow, for the lane that holds the errors. -/
def execNarrow (link : Fin 4) (run : FecRun) (s : State) : Host.Outcome State Fault Refusal :=
  .next (match (if isF (pgIZL link.val) IZL.CFG_fast_narrow s then faultyLane run else none) with
    | none => narrowOp link.val [] s
    | some k => narrowOp link.val [k] s)

/-- WIDEN (R343): left-out lanes have been trained, at or above alarm_fom, for hold_ms. [DEDUCED log 66] -/
def widenOp (j : Nat) (s : State) : State :=
  let p := pgIZL j
  if act p s ≠ stRUNNING ∨ !isF p IZL.CFG_auto_widen s ∨ (izlOf j s).req.isSome then s
  else
    let have_ := lanesOfMask (getF p IZL.WIDTH_rx_mask s)
    let extra := (goodLanes j s).filter (fun k => !(have_.contains k) && (SMap.find k (izlOf j s).goodSince).isSome &&
      decide (getF (pgLNE (physLane j k s)) LNE.THRESH_alarm_fom s ≤ laneSnr j k s))
    let code := min (widthCode (have_.length + extra.length)) (getF p IZL.CFG_max_width s)
    if code ≤ getF p IZL.WIDTH_rx_width s then s
    else
      let add := (extra.foldl (fun a k => insertLane (fun m => laneSnr j m s) k a) []).take (2 ^ code - have_.length)
      let from_ := (add.map (fun k => SMap.get 0 k (izlOf j s).goodSince)).foldl max 0
      let s1 := advanceTo (from_ + getF p IZL.WIDEN_hold_ms s * tickMs) s
      raise p 3 (addF p IZL.WIDENS_count 1 (askWidth j code (laneMask (have_ ++ add)) s1))

def execWiden (link : Fin 4) (s : State) : Host.Outcome State Fault Refusal := .next (widenOp link.val s)

/-- IZL_LINK_DOWN (R344): a direction has no good lane: this side's receiver, or, as the partner's silence shows, the far one. -/
def execIzlLinkDown (link : Fin 4) (far : Bool) (s : State) : Host.Outcome State Fault Refusal :=
  .next (if far || (goodLanes link.val s).isEmpty then izlDown link.val stSTARTING 5 s else s)

/-! ## Markers (R334, R342) -/

/-- ALIGNMENT_MARKER (R334): one with a bad crc is ignored; the width it announces is received from now on, and a
request it carries is followed at this side's next marker. -/
def markerOp (j : Nat) (m : List Byte) (s : State) : State :=
  let p := pgIZL j
  if act p s ≠ stRUNNING ∨ m.length ≠ 16 ∨ fieldAt 15 1 m ≠ crc crc8 (m.take 15) ∨ fieldAt 0 6 m ≠ 0xA5C396F00F69 then s
  else
    let w := fieldAt 6 4 m
    let txw := bitsOf 28 2 w
    let txm := bitsOf 24 4 w
    let rqw := bitsOf 22 2 w
    let rqm := bitsOf 18 4 w
    let s1 := if txw = 3 then s
      else
        let x := izlOf j s
        let done := x.req == some (txw, txm)
        settleSpare j (setF p IZL.WIDTH_rx_width txw (setF p IZL.WIDTH_rx_mask txm
          (modIzl j (fun x => { x with req := if done then none else x.req }) s)))
    if rqw = 3 ∨ (getF p IZL.WIDTH_tx_width s1 = rqw ∧ getF p IZL.WIDTH_tx_mask s1 = rqm) then s1
    else modIzl j (fun x => { x with txReq := some (rqw, rqm) }) s1

def execAlignmentMarker (link : Fin 4) (marker : List Byte) (s : State) : Host.Outcome State Fault Refusal :=
  .next (markerOp link.val marker s)

/-- the bytes of a marker on logical lane `k` (R334). -/
def markerBytes (j k : Nat) (s : State) : List Byte :=
  let p := pgIZL j
  let x := izlOf j s
  let rq := x.req.getD (3, 0)
  let w := k * 2 ^ 30 + getF p IZL.WIDTH_tx_width s * 2 ^ 28 + getF p IZL.WIDTH_tx_mask s * 2 ^ 24 + rq.1 * 2 ^ 22 +
    rq.2 * 2 ^ 18 + x.markers % 256 * 2 ^ 10
  let b := beBytes 6 0xA5C396F00F69 ++ beBytes 4 w ++ beBytes 5 0
  b ++ beBytes 1 (crc crc8 b)

/-- What a newly taken generation makes of the link (R352). -/
def izlCommand (j : Nat) (s : State) : State :=
  let p := pgIZL j
  let c := getF p HDR.CMD_state s
  let a := act p s
  if a = stFAULT ∧ c ≠ stIDLE ∧ c ≠ stOFF then s
  else if c = stRUNNING then
    if a = stRUNNING then lanesCommand p stRUNNING s
    else lanesCommand p stRUNNING (setAct p stSTARTING 5 s)
  else if c = stLOW then plainCommand p (lanesCommand p stLOW s)
  else
    let s1 := lanesCommand p c (izlDown j c 0 s)
    let s2 := setAct p c 0 { s1 with izl := SMap.drop j s1.izl }
    if c = stOFF then clearFields p (IZL.rows.filter (fun f => f.acc == .ro && decide (0x100 ≤ f.off))) s2 else s2

/-- the allocations that the link grants, by virtual lane (R338, R353). -/
def allocFields : List Fld := [IZL.VL_ALLOC0_mirror, IZL.VL_ALLOC0_patch, IZL.VL_ALLOC1_mgmt, IZL.VL_ALLOC1_bulk]

/-- a RUNNING link takes new allocations at its next training only (R338, R351, R353). -/
def keepAlloc (j : Nat) (old s : State) : State :=
  if act (pgIZL j) old = stRUNNING then setAll (pgIZL j) (allocFields.map (fun f => (f, getF (pgIZL j) f old))) s else s

/-- ALIGNMENT_MARKER_SEND (R334, R342, R337, R353): a generation is taken, a requested width change is made and rewound,
every active or trained lane sends its marker. -/
def markerSendOp (j : Nat) (s : State) : State :=
  let p := pgIZL j
  let s0 := if pendingGen p s then izlCommand j (keepAlloc j s (takeGen p s)) else s
  if act p s0 ≠ stRUNNING then s0
  else
    let s1 := match (izlOf j s0).txReq with
      | none => s0
      | some (w, m) =>
        let s1 := setF p IZL.WIDTH_tx_width w (setF p IZL.WIDTH_tx_mask m (modIzl j (fun x => { x with txReq := none }) s0))
        startRewind j (modIzl j (fun x => { x with lastNak := none }) s1)
    let tx := getF p IZL.WIDTH_tx_mask s1
    let lanes := (List.range 4).filter (fun k => tx.testBit k || laneTrained (physLane j k s1) s1)
    modIzl j (fun x => { x with markers := (x.markers + 1) % 256 })
      (lanes.foldl (fun s k => emit .link p (nats (markerBytes j k s)) s) s1)

def execAlignmentMarkerSend (link : Fin 4) (s : State) : Host.Outcome State Fault Refusal := .next (markerSendOp link.val s)

/-! ## Training (R341) -/

/-- this side's part of the exchange, a data frame of sequence 0 on the management lane (R341, R347): device number, link, member, the
allocations it grants, layout version. [PRESUMED log 68] -/
def sendExchange (j : Nat) (s : State) : State :=
  let p := pgIZL j
  let body := beBytes 2 (deviceNumber s) ++ beBytes 1 j ++ beBytes 1 (getF p IZL.CFG_member s) ++
    allocFields.flatMap (fun f => beBytes 2 (getF p f s)) ++ beBytes 2 (Config.layout (Block.first .izl))
  sendIzl j 1 2 true true 0 (wrapper 6 0 0x3FF (deviceNumber s) noPeer body.length ++ body) s

/-- TRAINING_EXCHANGE (R341, R499): with every lane trained, or one at least after 10 ms, the link starts; a partner with this
device's own number is no member. [DEDUCED log 68] -/
def trainingOp (j : Nat) (x : Exchange) (s : State) : State :=
  let p := pgIZL j
  let good := goodLanes j s
  if act p s ≠ stSTARTING ∨ good = [] then s
  else
    let s0 := sendExchange j (setAll p (allocFields.map (fun f => (f, getCm p f s)))
      (if good.length = 4 then s else advanceTo (SMap.get 0 p s.actAt + 10 * tickMs) s))
    if !x.sameVersion then raise p 9 s0
    else
      let own := isF p IZL.CFG_member s0
      let same := x.device.toNat == deviceNumber s0
      let code := min (widthCode good.length) (getF p IZL.CFG_max_width s0)
      let mask := laneMask (bestLanes j code good s0)
      let s1 := setAll p ([(IZL.PARTNER_valid, 1), (IZL.PARTNER_member, x.member.toNat), (IZL.PARTNER_link, x.link.val),
        (IZL.PARTNER_device, x.device.toNat), (IZL.WIDTH_rx_mask, mask), (IZL.WIDTH_tx_mask, mask),
        (IZL.WIDTH_rx_width, code), (IZL.WIDTH_tx_width, code), (IZL.ST_member_ok, (own && x.member && !same).toNat)] ++
        (List.range 4).flatMap (fun v => [(IZL.CREDIT_credits v, x.alloc.getD v 0), (IZL.CREDIT_held v, 0)])) s0
      let s2 := modIzl j (fun y => { IzlS.reset with goodSince := y.goodSince, heard := [(x.device.toNat, 0)], granted := x.alloc })
        (addF p IZL.EPOCH_epoch 1 s1)
      let s3 := good.foldl (fun s k => setAct (pgLNE (physLane j k s)) stRUNNING 0 s) (setAct p stRUNNING 0 s2)
      settleRoutes j (settleSpare j (raiseIf (own != x.member || same) p 8 (raise p 0 s3)))

def execTrainingExchange (link : Fin 4) (x : Exchange) (s : State) : Host.Outcome State Fault Refusal :=
  .next (trainingOp link.val x s)

/-! ## Routes (R346) -/

/-- ROUTE_ANNOUNCE_SEND (R346): at the next millisecond each member link carries what this device can reach otherwise. [PRESUMED log 67] -/
def routeAnnounceOp (s : State) : State :=
  let s1 := advanceTo ((s.clk / tickMs + 1) * tickMs) s
  ((List.range 4).filter (fun j => memberLink j s1)).foldl (fun s j =>
    let l := (s.routes.filter (fun r => r.link != j)).map (fun r => (r.device, r.hops))
    let body := ((deviceNumber s, 0) :: l).flatMap (fun e => beBytes 2 e.1 ++ beBytes 1 e.2)
    izlPost j 2 (wrapper 5 0 0x3FF (deviceNumber s) noPeer body.length ++ body) s) s1

def execRouteAnnounceSend (s : State) : Host.Outcome State Fault Refusal := .next (routeAnnounceOp s)

/-- ROUTE_ANNOUNCEMENT (R346): what the partner reaches, from now on. [PRESUMED log 67] -/
def routeAnnouncementOp (j : Nat) (l : List (Nat × Nat)) (s : State) : State :=
  if !memberLink j s then s
  else settleRoutes j (modIzl j (fun x => { x with heard := l.map (fun e => (e.1 % 1024, e.2 % 8)) }) s)

def execRouteAnnouncement (link : Fin 4) (routes : List (Nat × Nat)) (s : State) : Host.Outcome State Fault Refusal :=
  .next (routeAnnouncementOp link.val routes (takeMsg link.val 2 s))

/-! ## Commits (R338, R353) -/

def izlValid (j : Nat) (s : State) : Bool :=
  let p := pgIZL j
  decide (getSh p IZL.VL_ALLOC0_mirror s + getSh p IZL.VL_ALLOC0_patch s + getSh p IZL.VL_ALLOC1_mgmt s +
    getSh p IZL.VL_ALLOC1_bulk s ≤ 1024)

end Sys2Proof.Machine
end

