-- ==== Sys2Proof/Machine/Lanes.lean ====
section
/-! DEFINITION. Sys2Proof/Machine/Lanes.lean: the serial lanes (chapter 10, R292 to R310). -/

namespace Sys2Proof.Machine

/-- the lane's owner is committed to RUNNING (R299). -/
def ownerWants (l : Nat) (s : State) : Bool := cmdOf (laneOwner l) s == stRUNNING || cmdOf (laneOwner l) s == stLOW

/-- the logical place of an Iztaub lane (R300). -/
def settleOrder (l : Nat) (s : State) : State :=
  if l < 16 ∨ l = 32 then s
  else setF (pgLNE l) LNE.ST_logical_lane (if isF (pgLNE l) LNE.ST_reversed s then 3 - laneIn l else laneIn l) s

/-- POLARITY_CORRECTION (R300): an inverted sync word sets this lane's inversion; lane numbers 3, 2, 1, 0 mark every lane
of the link. -/
def applySync (l : Nat) (inverted reversed : Bool) (s : State) : State :=
  if l < 16 ∨ l = 32 then s
  else
    let s1 := if inverted then raiseIf (!isF (pgLNE l) LNE.ST_pol_corrected s) (pgLNE l) 7 (setF (pgLNE l) LNE.ST_pol_corrected 1 s)
      else setF (pgLNE l) LNE.ST_pol_corrected 0 s
    (lanesOf (laneOwner l)).foldl (fun s m =>
      settleOrder m (raiseIf (reversed && !isF (pgLNE m) LNE.ST_reversed s) (pgLNE m) 8
        (setF (pgLNE m) LNE.ST_reversed reversed.toNat s))) s1

/-- the lane is trained: coefficients, precoding, status (R295, R299). -/
def finishTraining (l : Nat) (t : Trained) (s : State) : State :=
  let p := pgLNE l
  let s1 := applySync l t.inverted t.reversed (setPrecode l t.precodeTx t.precodeRx (applyEq l t.eq s))
  let s2 := setF p LNE.ST_trained 1 (setF p LNE.ST_signal 1 (setF p LNE.ST_cdr_lock 1 (setF p LNE.FOM_snr (min 255 t.snr) s1)))
  modLane l (fun x => { x with step := 0, fast := false, lost := false, failAt := none, badRun := 0 }) s2

/-- the owner takes a lane that has trained: a port at once, a link at its training exchange (R299, R341), where it was
not RUNNING before. [DEDUCED log 61] -/
def ownerTakes (l : Nat) (s : State) : State :=
  let p := pgLNE l
  if 16 ≤ l ∧ l < 32 then
    let j := (l - 16) / 4
    let s1 := modIzl j (fun x => { x with goodSince := SMap.put (getF p LNE.ST_logical_lane s) s.clk x.goodSince }) s
    if act (pgIZL j) s1 = stRUNNING then settleSpare j (setAct p stRUNNING 0 s1) else s1
  else portLaneUp l (setAct p stRUNNING 0 s)

/-- in device state D2 a lane that has come up goes to LOW_POWER (R475). -/
def sleepInD2 (l : Nat) (s : State) : State :=
  if getF pgPWR PWR.DSTAT_state s = 2 ∧ act (pgLNE l) s = stRUNNING then laneSleep l s else s

/-- LANE_TRAINED (R299, R300). [DEDUCED log 61; DESIGN CHOICE log 62] -/
def laneTrainedOp (l : Nat) (t : Trained) (s : State) : State :=
  let p := pgLNE l
  if act p s ≠ stSTARTING ∨ !laneHasRef l s ∨ laneTrained l s ∨ (laneOf l s).failAt.isSome ∨ (laneOf l s).lost ∨
      t.snr < getF p LNE.THRESH_lol_fom s then s
  else sleepInD2 l (ownerTakes l (raise p 5 (finishTraining l t s)))

def execLaneTrained (l : Fin 33) (t : Trained) (s : State) : Host.Outcome State Fault Refusal := .next (laneTrainedOp l.val t s)

/-- one lane's training fails (R299, R303): EVENT bit 6; a fast re-acquisition goes on with full training at once, any
other waits 10 ms. -/
def failLane (l : Nat) (s : State) : State :=
  let fast := (laneOf l s).fast
  raise (pgLNE l) 6 (modLane l (fun x => { x with
    step := 2, fast := false, failAt := if fast then none else some s.clk }) (setF (pgLNE l) LNE.ST_trained 0 s))

/-- TRAIN_FAILED (R299, R300, R311): a wrong lane order fails every lane of the link; failed auto-negotiation is the
port's EVENT bit 9. -/
def trainFailedOp (l : Nat) (why : TrainFail) (s : State) : State :=
  if act (pgLNE l) s ≠ stSTARTING ∨ laneTrained l s then s
  else match why with
    | .check => failLane l s
    | .order => if 16 ≤ l ∧ l < 32 then (lanesOf (laneOwner l)).foldl (fun s m => failLane m s) s else s
    | .autoneg =>
      let o := laneOwner l
      if (l < 16 ∨ l = 32) ∧ isF o ETH.MODE_an_en s ∧ (l = 32 ∨ isF o ETH.MODE_cr s) then raise o 9 (failLane l s) else s

def execTrainFailed (l : Fin 33) (why : TrainFail) (s : State) : Host.Outcome State Fault Refusal :=
  .next (trainFailedOp l.val why s)

/-- TRAIN_RETRY (R299): 10 ms after the failure. -/
def execTrainRetry (l : Fin 33) (s : State) : Host.Outcome State Fault Refusal :=
  .next (match (laneOf l.val s).failAt with
    | none => s
    | some t => if ownerWants l.val s then modLane l.val (fun x => { x with step := 2, failAt := none }) (advanceTo (t + 10 * tickMs) s)
        else s)

/-! ## Blocks (R297, R298, R301, R302, R306) -/

/-- a run of blocks goes on or ends. -/
def runOf (c : Bool) (n : Nat) : Nat := if c then n + 1 else 0

/-- the spare slice that the calibration refreshed enters service; the next in turn becomes the spare (R301). -/
def swapSlice (l : Nat) (s : State) : State :=
  let p := pgLNE l
  addF p LNE.CAL_COUNT_swaps 1 (setF p LNE.CAL_spare ((getF p LNE.CAL_spare s + 1) % 65)
    (modLane l (fun x => { x with swapDue := false }) s))

/-- LNE pages take a generation at a block end (R302, R309). -/
def laneGen (l : Nat) (s : State) : State :=
  let p := pgLNE l
  if !pendingGen p s then s
  else
    let s1 := applyPins l (takeGen p s)
    let c := getF p HDR.CMD_state s1
    let s2 := setPrecode l (isF p LNE.ST_precode_tx s1) (isF p LNE.ST_precode_rx s1) s1
    if act p s2 = c ∨ (c = stLOW ∧ act p s2 = stRUNNING) ∨ (c = stRUNNING) then s2
    else if c = stTEST ∨ c = stIDLE ∨ c = stOFF then laneStop l c s2 else s2

/-- BLOCK_END (R297, R298, R301 to R303, R306): what the block shows, the runs it extends, what adaptation makes of it; a
block with a swap shows nothing, a lane in LOW_POWER reports every 1,024th block, does not adapt, and returns to RUNNING here once it
is to. [DESIGN CHOICE log 62] -/
def blockEndOp (l : Nat) (b : LaneBlock) (s : State) : State :=
  let p := pgLNE l
  let a := act p s
  if !([stRUNNING, stLOW, stSTARTING, stTEST].contains a) then s
  else
    let s0 := laneGen l s
    let swap := (laneOf l s0).swapDue && act p s0 == stRUNNING
    let locked := b.signal && b.cdr && laneHasRef l s0
    let s1 := setF p LNE.ST_signal b.signal.toNat (setF p LNE.ST_cdr_lock locked.toNat (if swap then swapSlice l s0 else s0))
    let snr := min 255 b.snr
    let n := (laneOf l s1).blocks + 1
    let low := act p s1 == stLOW
    let shown := !swap && (!low || n % 1024 == 0)
    let s2 := if shown then
        setF p LNE.FOM_snr snr (setF p LNE.FOM_ber_est (min 255 b.ber) (setF p LNE.FOM_snr_min (min snr (getF p LNE.FOM_snr_min s1)) s1))
      else s1
    let warn := getF p LNE.THRESH_warn_fom s0
    let alarm := getF p LNE.THRESH_alarm_fom s0
    let bad := !locked || decide (snr < getF p LNE.THRESH_lol_fom s0)
    let s3 := modLane l (fun x => if swap then { x with blocks := n } else { x with
      blocks := n, warnLow := runOf (decide (snr < warn)) x.warnLow, warnHigh := runOf (decide (warn + 10 ≤ snr)) x.warnHigh,
      alarmLow := runOf (decide (snr < alarm)) x.alarmLow, alarmHigh := runOf (decide (alarm + 10 ≤ snr)) x.alarmHigh,
      badRun := runOf bad x.badRun }) s2
    let s4 := if 16 ≤ l ∧ l < 32 ∧ snr < alarm then
        modIzl ((l - 16) / 4) (fun x => { x with goodSince := x.goodSince.map (fun (e : Nat × Nat) =>
          if e.1 = getF p LNE.ST_logical_lane s3 then (e.1, s3.clk) else e) }) s3
      else s3
    let s5 := if act p s4 = stRUNNING then
        applyPins l (setFfe l b.ffe (setF p LNE.RXEQ_dfe (toTwos 8 b.dfe) s4)) else s4
    if act p s5 = stTEST ∧ isF p LNE.PRBS_chk_en s5 ∧ locked then
      addF p LNE.PRBS_SYM_symbols 65536 (addF p LNE.PRBS_ERR_errors b.prbsErrors s5)
    else if act p s5 = stLOW ∧ (laneOf l s5).wakeDue then setAct p stRUNNING 0 (modLane l (fun x => { x with wakeDue := false }) s5)
    else s5

def execBlockEnd (l : Fin 33) (b : LaneBlock) (s : State) : Host.Outcome State Fault Refusal := .next (blockEndOp l.val b s)

/-- CTLE_REEVALUATE (R301): after 1,024 blocks CTLE moves by at most one step and the FFE is re-centred. -/
def ctleOp (l ctle : Nat) (ffe : List Int) (s : State) : State :=
  let p := pgLNE l
  if act p s ≠ stRUNNING ∨ (laneOf l s).blocks < 1024 then s
  else
    let now := getF p LNE.RXEQ_ctle s
    let next := min 31 (max (now - 1) (min (now + 1) ctle))
    applyPins l (setFfe l ffe (setF p LNE.RXEQ_ctle next (modLane l (fun x => { x with blocks := 0 }) s)))

def execCtleReevaluate (l : Fin 33) (ctle : Nat) (ffe : List Int) (s : State) : Host.Outcome State Fault Refusal :=
  .next (ctleOp l.val ctle ffe s)

/-- the warning is due: set with EVENT bit 2 (R298). -/
def fomWarnOp (l : Nat) (s : State) : State :=
  if 64 ≤ (laneOf l s).warnLow ∧ !isF (pgLNE l) LNE.ST_fom_warn s then raise (pgLNE l) 2 (setF (pgLNE l) LNE.ST_fom_warn 1 s) else s

/-- FOM_WARN (R298). -/
def execFomWarn (l : Fin 33) (s : State) : Host.Outcome State Fault Refusal := .next (fomWarnOp l.val s)

/-- FOM_ALARM (R298, R307): a warning due in the same block count comes first. -/
def execFomAlarm (l : Fin 33) (s : State) : Host.Outcome State Fault Refusal :=
  .next (if 64 ≤ (laneOf l.val s).alarmLow ∧ !isF (pgLNE l.val) LNE.ST_fom_alarm s then
    raise (pgLNE l.val) 3 (setF (pgLNE l.val) LNE.ST_fom_alarm 1 (fomWarnOp l.val s)) else s)

/-- FOM_RECOVERED (R298): the alarm, with EVENT bit 4, or the warning clears. -/
def execFomRecovered (l : Fin 33) (alarm : Bool) (s : State) : Host.Outcome State Fault Refusal :=
  let p := pgLNE l.val
  .next (if alarm then
      if 1024 ≤ (laneOf l.val s).alarmHigh ∧ isF p LNE.ST_fom_alarm s then raise p 4 (setF p LNE.ST_fom_alarm 0 s) else s
    else if 1024 ≤ (laneOf l.val s).warnHigh then setF p LNE.ST_fom_warn 0 s else s)

/-- the FOM word (R309). -/
def fomWord (l : Nat) (s : State) : Nat :=
  getF (pgLNE l) LNE.FOM_snr s * 2 ^ 24 + getF (pgLNE l) LNE.FOM_snr_min s * 2 ^ 16 + getF (pgLNE l) LNE.FOM_ber_est s * 2 ^ 8

/-- FOM_READ (R309): snr_min is cleared by the read. -/
def execFomRead (r : Req) (l : Fin 33) (s : State) : Host.Outcome State Fault Refusal :=
  .next (asRead r (pgLNE l.val) 0x124 (fun s => (fomWord l.val s, setF (pgLNE l.val) LNE.FOM_snr_min 0xFF s)) s)

/-! ## Loss of lock (R303, R304) -/

/-- A lane loses lock and re-acquires from `step`: fast, with its last good coefficients, or in full (R303, R308). -/
def loseLock (l step : Nat) (fast : Bool) (s : State) : State :=
  let p := pgLNE l
  let s1 := raise p 0 (addF p LNE.LOL_COUNT_count 1 (setF p LNE.ST_trained 0 (setF p LNE.ST_cdr_lock 0 s)))
  let s2 := if act p s = stTEST then s1
    else setAct p stSTARTING 1 (modLane l (fun x => { x with step := step, fast := fast, lost := true, failAt := none, badRun := 0 }) s1)
  let s3 := if (laneOf l s).swapDue then
      raise p 10 (addF p LNE.CAL_COUNT_skipped 1 (satF pgHLT HLT.PAUSE_STAT_lane_skips 1
        (modLane l (fun x => { x with swapDue := false }) s2))) else s2
  if 16 ≤ l ∧ l < 32 then
    narrowOp ((l - 16) / 4) [] (modIzl ((l - 16) / 4) (fun x => { x with
      goodSince := SMap.drop (getF p LNE.ST_logical_lane s3) x.goodSince }) s3)
  else subportDown (laneOwner l - pgETH 0) (subportOfLane l s3) s3

/-- LOSS_OF_LOCK (R303): four bad blocks in a row on a RUNNING lane. -/
def execLossOfLock (l : Fin 33) (s : State) : Host.Outcome State Fault Refusal :=
  .next (if (act (pgLNE l.val) s = stRUNNING ∨ act (pgLNE l.val) s = stLOW) ∧ 4 ≤ (laneOf l.val s).badRun then
    loseLock l.val 2 true s else s)

/-- annals counter `i` counts `n` more (R454). -/
def annalsAdd (i n : Nat) (s : State) : State :=
  { s with hlt := { s.hlt with ann := { s.hlt.ann with counters := modAt 0 i (fun v => min (2 ^ 64 - 1) (v + n)) s.hlt.ann.counters } } }

/-- REACQUIRED (R303): EVENT bit 1, counted in RETRAINS and in the annals. -/
def reacquiredOp (l : Nat) (t : Trained) (s : State) : State :=
  let p := pgLNE l
  if act p s ≠ stSTARTING ∨ !laneHasRef l s ∨ !(laneOf l s).lost ∨ (laneOf l s).failAt.isSome ∨ t.snr < getF p LNE.THRESH_lol_fom s then s
  else sleepInD2 l <| ownerTakes l (raise p 1 (annalsAdd (42 + l) 1 (addF p LNE.RETRAINS_count 1 (finishTraining l t s))))

def execReacquired (l : Fin 33) (t : Trained) (s : State) : Host.Outcome State Fault Refusal := .next (reacquiredOp l.val t s)

/-! ## Calibration (R301, R306, R307) -/

/-- ticks of the schedule's period, of a lane's offset and of a window (R301). -/
def calPeriod : Nat := 65536 * tickUs
/-- see the log: [DEDUCED log 61] -/
def calOffset (l : Nat) : Nat := l * 1984 * tickUs
/-- see the log: [DEDUCED log 61] -/
def calWindow : Nat := 16 * tickUs

/-- the tick at which the lane's next window opens: the first of its slots not before now whose window has not been run. [DEDUCED log 61] -/
def nextWindow (l : Nat) (s : State) : Nat :=
  let from_ := max s.clk ((laneOf l s).calEnd)
  (from_ + calPeriod - 1 - calOffset l) / calPeriod * calPeriod + calOffset l

/-- CALIBRATION_WINDOW (R301, R306, R307). [DEDUCED log 61] -/
def calibrationOp (l : Nat) (s : State) : State :=
  let p := pgLNE l
  let s1 := advanceTo (nextWindow l s) s
  let run := fun due s => modLane l (fun x => { x with calEnd := s1.clk + calWindow, swapDue := due }) s
  if act p s1 = stRUNNING ∧ isF p LNE.CAL_cal_en s1 then run true s1
  else if act p s1 = stRUNNING ∨ act p s1 = stSTARTING then
    run false (raise p 10 (addF p LNE.CAL_COUNT_skipped 1 (satF pgHLT HLT.PAUSE_STAT_lane_skips 1 s1)))
  else s1

def execCalibrationWindow (l : Fin 33) (s : State) : Host.Outcome State Fault Refusal := .next (calibrationOp l.val s)

/-! ## Reference clock (R293, R304, R326) -/

/-- REFCLK_LOST (R304): lanes 0–31 lose lock; with TIMEREF absent too, so does lane 32 (R293). -/
def refclkLostOp (s : State) : State :=
  let s1 := if s.pwr.mainRun then (List.range 32).foldl (fun s l =>
      let p := pgLNE l
      let s1 := setF p LNE.ST_refclk_ok 0 (raiseIf (isF p LNE.ST_refclk_ok s) p 9 s)
      if laneTrained l s ∨ act p s = stTEST then loseLock l 1 false s1
      else if act p s1 = stSTARTING then modLane l (fun x => { x with step := 1 }) s1 else s1) s
    else s
  let s2 := setF (pgLNE 32) LNE.ST_refclk_ok 0 s1
  if timSt s2 = 4 ∧ laneTrained 32 s2 then loseLock 32 1 false s2 else s2

def execRefclkLost (s : State) : Host.Outcome State Fault Refusal := .next (refclkLostOp s)

/-- REFCLK_RETURN (R304): within tolerance for 1 ms; the lanes that wait for it re-acquire from step 1. -/
def execRefclkReturn (s : State) : Host.Outcome State Fault Refusal :=
  if isF (pgLNE 32) LNE.ST_refclk_ok s then .next s
  else
    .next ((List.range 33).foldl (fun s l =>
      if l = 32 ∨ s.pwr.mainRun then
        let s1 := setF (pgLNE l) LNE.ST_refclk_ok 1 s
        if act (pgLNE l) s = stSTARTING ∧ !laneHasRef l s then modLane l (fun x => { x with step := 1, failAt := none }) s1 else s1
      else s) (passTicks tickMs s))

/-! ## TIMEREF (R16, R293, R313) -/

/-- TIMEREF_LOST: besides TIME, port M runs at 1000BASE-KX, and lane 32 loses lock where REFCLK_PORT is absent too. [DEDUCED log 92] -/
def timerefLostAll (s : State) : State :=
  if timSt s = 4 then s
  else
    let s1 := showSpeed (timerefLostOp s)
    if laneTrained 32 s1 && !isF (pgLNE 32) LNE.ST_refclk_ok s1 then loseLock 32 1 false s1 else s1

def execTimerefLost (s : State) : Host.Outcome State Fault Refusal := .next (timerefLostAll s)

/-! ## Test patterns and retraining (R305, R309) -/

/-- PRBS_RESYNC (R305): symbols checked and errors found up to 64 errors in a row. -/
def execPrbsResync (l : Fin 33) (symbols errors : Nat) (s : State) : Host.Outcome State Fault Refusal :=
  let p := pgLNE l.val
  .next (if act p s = stTEST ∧ isF p LNE.PRBS_chk_en s ∧ isF p LNE.ST_cdr_lock s then
    addF p LNE.PRBS_SYM_symbols symbols (addF p LNE.PRBS_ERR_errors errors s) else s)

/-- LNE.CMD.retrain (R309). -/
def retrainOp (l : Nat) (s : State) : Status × State :=
  if act (laneOwner l) s = stRUNNING then (.refusedInService, s)
  else if act (pgLNE l) s = stOFF ∨ act (pgLNE l) s = stRESET then (.refusedInService, s)
  else (.success, laneBringUp l 2 1 s)

def execRetrain (r : Req) (l : Fin 33) (s : State) : Host.Outcome State Fault Refusal :=
  .next (asWrite r (pgLNE l.val) 0x12C (retrainOp l.val) s)

/-! ## Commits (R298, R309) -/

/-- a signed tap's magnitude. -/
def tapAbs (p : Nat) (f : Fld) (s : State) : Nat := (ofTwos f.width (getSh p f s)).natAbs

def laneValid (l : Nat) (s : State) : Bool :=
  let p := pgLNE l
  decide (getSh p LNE.THRESH_lol_fom s < getSh p LNE.THRESH_alarm_fom s) &&
  decide (getSh p LNE.THRESH_alarm_fom s ≤ getSh p LNE.THRESH_warn_fom s) &&
  (firPinned.map (fun f => if f = LNE.TXFIR_PIN_c0 then getSh p f s else tapAbs p f s)).sum == 64 &&
  (l != 32 || (getSh p LNE.TXFIR_PIN_cm3 s == 0 && getSh p LNE.TXFIR_PIN_cm2 s == 0))

end Sys2Proof.Machine
end

