-- ==== Sys2Proof/Machine/EncodeCores.lean ====
section
/-! DEFINITION. Sys2Proof/Machine/EncodeCores.lean: core faults, the rotation of logical cores, channel start and stop
(chapters 04 and 18, R138 to R145, R446 to R448). -/

namespace Sys2Proof.Machine

/-! ## Channel faults and stops (R36, R143, R173) -/

/-- the channel goes to FAULT with `reason`: its slices end at the last that departed, its account leaves (R143, R173). -/
def echFault (c reason : Nat) (s : State) : State :=
  let s1 := toFault (pgECH c) reason (discardSlices c (dropJobs c s))
  let s2 := stopReading c (accountLeaves c s1)
  echRefresh (if (joinOf c s2).isSome then dropJoin c s2 else s2)

/-- Nothing of the channel is left to code or to send: a re-code is waited for only if its row belongs to the picture in progress
(R143, R197). -/
def channelDrained (c : Nat) (s : State) : Bool :=
  (echOf c s).rows.all (fun r => r.released && r.windowClosed && decide (colCount getF c s ≤ r.closed.length)) &&
  (outOf c s).ready.isEmpty && (entriesOf c s).isEmpty &&
  (outOf c s).recodes.all (fun x => x.entry.pic + 1 != (echOf c s).nextPic)

/-- the re-codes that are still due at stop are discarded (R197). -/
def dropRecodes (c : Nat) (s : State) : State := modOut c (fun x => { x with recodes := [], fillers := [] }) s

/-- CHANNEL_STOPPED (R143, R173): a STOPPING channel whose last slice has left becomes IDLE, or OFF; one that is
handed over waits as a follower's (R261). -/
def channelStoppedOp (c : Nat) (s : State) : State :=
  let p := pgECH c
  if s.twn.leaving.contains c ∧ !(echOf c s).live ∧ channelDrained c s then
    muteChannel c 2 .waiting (modTwn (fun t => { t with leaving := t.leaving.filter (· != c) }) s)
  else if act p s ≠ stSTOPPING ∨ !channelDrained c s then s
  else
    let k := getF p HDR.CMD_state s
    let s1 := setAct p (if k = stRUNNING ∨ k = stLOW then stIDLE else k) 0 (stopReading c (dropRecodes c s))
    let s2 := accountLeaves c s1
    let s3 := if (joinOf c s2).isSome then dropJoin c s2 else s2
    echRefresh (takeAfterStop p (echCommand c) (if k = stOFF then echClear c s3 else s3))

def execChannelStopped (ch : Fin 32) (s : State) : Host.Outcome State Fault Refusal := .next (channelStoppedOp ch.val s)

/-! ## Start (R142) -/

/-- the channel's logical cores are mapped to cores that serve (R115, R142). -/
def echCoresMapped (c : Nat) (s : State) : Bool :=
  (allocCores getF c s).all (fun l => match physOf l s with
    | some q => act (pgENC q) s == stIDLE || act (pgENC q) s == stRUNNING
    | none => false)

/-- what a STARTING channel waits for (R142). -/
def channelReady (c : Nat) (s : State) : Bool :=
  isF pgTIM TIM.ST_first_lock s && echSourceUp c s && echCoresMapped c s && act (pgOUT c) s == stRUNNING &&
  (outOf c s).ring && groupReady c s && stacksUp (pgECH c) s && stacksUp (pgOUT c) s

/-- the first picture whose record of row 0 is still to come. [DEDUCED log 42] -/
def firstPicture (c : Nat) (s : State) : Nat :=
  let n := tickIndex (echOf c s).rate (echOf c s).phase (fabNs s) - 2
  n + ((List.range 6).find? (fun j => decide (fabNs s ≤ recordNs c (n + j) 0 s))).getD 6

/-- CHANNEL_START (R142, R143, R159, R173, R235): at the first release of row 0 with everything ready the channel runs, its
first picture an IDR; a mirrored channel of a follower waits for a join point instead. [DEDUCED log 42] -/
def channelStartOp (c : Nat) (s : State) : State :=
  let p := pgECH c
  if act p s ≠ stSTARTING then s
  else if follows c s then setAct p stMUTED 2 (setJoin c .waiting s)
  else if (mirrored c s && twinRole s == 0) || !channelReady c s then setAct p stSTARTING 5 s
  else
    let ck := pageClock (echRoot getF c s) s
    let x := echOf c s
    let s1 := modEch c (fun _ => { EchS.reset with
      live := true, rate := ck.1, phase := ck.2, nextLoan := x.nextLoan, wraps := 0 }) s
    let n := firstPicture c s1
    let s2 := allBandsDue (reachNs (recordNs c n 0 s1) (modEch c (fun x => { x with nextPic := n, nextRow := 0 }) s1))
    let s3 := muxStart c (setAct p stRUNNING 0 (initialCredit c n s2))
    let s4 := formRows [(c, none)] s3
    let s5 := match dueRelease c s4 with
      | none => s4
      | some r => releaseRow c false 0 0 true r s4
    echRefresh { s5 with actAt := SMap.put p s5.clk s5.actAt }

def execChannelStart (ch : Fin 32) (s : State) : Host.Outcome State Fault Refusal := .next (channelStartOp ch.val s)

/-! ## Cores (R138 to R141, R446 to R448) -/

/-- logical core `l` has, or lacks, a physical core (R115). -/
def showAbsent (l : Nat) (absent : Bool) (s : State) : State :=
  let w := getF pgHLT HLT.ABSENT_logical s
  setF pgHLT HLT.ABSENT_logical (if w.testBit l = absent then w else if absent then w + 2 ^ l else w - 2 ^ l) s

/-- a step under way is abandoned without a suspect mark (R141, R459). [DEDUCED log 48] -/
def abandonStep (s : State) : State :=
  if s.rot.phase = 0 then s else endStep 1 (setF (pgENC s.rot.sp) ENC.ST_shadowing 0 s)

/-- the next logical core that has a physical core, from `l` on. -/
def nextLogical (l : Nat) (s : State) : Nat :=
  ((List.range 16).map (fun j => (l + j) % 16)).find? (fun j => (physOf j s).isSome) |>.getD l

/-- ROTATION_STEP (R141, R446, R448, R449): the interval elapses; without a spare the step is skipped, with HLT EVENT bit 7; a logical core that
serves no RUNNING channel moves at once. [DEDUCED log 48, 93] -/
def rotationStepOp (s : State) : State :=
  if !s.pwr.mainRun || !isF pgHLT HLT.ROT_en s then s
  else
    let s0 := advanceTo (s.rot.lastStep + getF pgHLT HLT.ROT_interval_s s * tickS) s
    let s1 := { s0 with rot := { s0.rot with lastStep := s0.clk } }
    if isF pgHLT HLT.ST_throttle s1 || s1.rot.phase != 0 then s1
    else
      let want := if isF pgHLT HLT.TRES_pending s1 ∧ s1.hlt.testKind = 0 then
          getF (pgENC s1.hlt.testUnit) ENC.ST_logical s1 else 31
      let l := if want < 16 then want else nextLogical (getF pgHLT HLT.ROT_STAT_next s1) s1
      match spareOf s1, physOf l s1 with
      | some q, some x =>
        let s2 := { s1 with rot := { s1.rot with phase := 1, logical := l, x := x, sp := q, mismatch := none, moved := [] } }
        if (chansOn l s2).any (fun c => act (pgECH c) s2 == stRUNNING) then s2 else completeStep s2
      | _, _ => raise pgHLT 7 (setF pgHLT HLT.ROT_STAT_last 2 s1)

def execRotationStep (s : State) : Host.Outcome State Fault Refusal := .next (rotationStepOp s)

/-- the lowest RUNNING channel on the logical core of the step. -/
def stepChannel (s : State) : Option Nat := (chansOn s.rot.logical s).find? (fun c => act (pgECH c) s == stRUNNING)

/-- SHADOW_START (R138): at the next picture start of the lowest channel on L. -/
def shadowStartOp (s : State) : State :=
  if s.rot.phase ≠ 1 then s
  else match stepChannel s with
    | none => completeStep s
    | some c =>
      let n := tickIndex (echOf c s).rate (echOf c s).phase (fabNs s) + 1
      let s1 := reachNs (tickOf c n s).toNat s
      setF (pgENC s.rot.sp) ENC.ST_shadowing 1
        { s1 with rot := { s1.rot with phase := 2, endPic := n + (if isF (pgECH c) ECH.LAT_frame_plus s then 2 else 1) } }

def execShadowStart (s : State) : Host.Outcome State Fault Refusal := .next (shadowStartOp s)

/-- SHADOW_END (R138): every slice has matched for one picture period, or two in frame-plus mode, and the switch begins. -/
def shadowEndOp (s : State) : State :=
  if s.rot.phase ≠ 2 then s
  else
    let s1 := match stepChannel s with
      | none => s
      | some c => reachNs (tickOf c s.rot.endPic s).toNat s
    setF (pgENC s.rot.sp) ENC.ST_shadowing 0 { s1 with rot := { s1.rot with phase := 3, moved := [] } }

def execShadowEnd (s : State) : Host.Outcome State Fault Refusal := .next (shadowEndOp s)

/-- CORE_SWITCH (R138, R141): at its next row boundary S takes the channel, that row included, while X finishes the row it holds; with the
last channel moved and X's rows finished, the step is complete. -/
def coreSwitchOp (c : Nat) (s : State) : State :=
  if s.rot.phase ≠ 3 ∨ !(chansOn s.rot.logical s).contains c ∨ s.rot.moved.contains c then s
  else
    let s1 := match dueRelease c s with | some r => reachNs r.release s | none => s
    finishRotation (raise (pgECH c) 6 { s1 with rot := { s1.rot with moved := c :: s1.rot.moved } })

def execCoreSwitch (ch : Fin 32) (s : State) : Host.Outcome State Fault Refusal := .next (coreSwitchOp ch.val s)

/-- a core that may serve: it becomes the spare, or takes the lowest logical number left absent (R115, R140). -/
def offerCore (q : Nat) (s : State) : State :=
  let p := pgENC q
  match (List.range 16).find? (fun l => (getF pgHLT HLT.ABSENT_logical s).testBit l) with
  | some l => encRefresh q (setAct p stIDLE 0 (showAbsent l false (mapCore q l s)))
  | none => setAct p stIDLE 0 (setF p ENC.ST_spare 1 (setF p ENC.ST_golden 0 s))

/-- GOLDEN_VECTOR_DONE (R140, R447). -/
def goldenVectorDoneOp (q : Nat) (pass : Bool) (s : State) : State :=
  let p := pgENC q
  if !isF p ENC.ST_golden s then s
  else if pass then offerCore q s
  else raise pgHLT 2 (satF pgHLT HLT.ROT_STAT_golden_fail 1 (setF pgHLT HLT.ROT_STAT_last 3
    (toFault p 7 (setF p ENC.ST_spare 0 (setF p ENC.ST_golden 0 s)))))

def execGoldenVectorDone (core : Fin 17) (pass : Bool) (s : State) : Host.Outcome State Fault Refusal :=
  .next (goldenVectorDoneOp core.val pass s)

/-- a golden-vector run in progress is abandoned: the core is the spare without a verdict (R448). -/
def abandonGolden (s : State) : State :=
  (List.range 17).foldl (fun s q =>
    if isF (pgENC q) ENC.ST_golden s then setF pgHLT HLT.ROT_STAT_last 1 (offerCore q s) else s) s

/-- A core that can take over a faulted one's logical number: the spare, or the core under golden-vector test (R140); not one that a
switch has already given channels. -/
def standIn (s : State) : Option Nat :=
  let free := fun q => !(s.rot.phase == 3 && s.rot.sp == q)
  match (List.range 17).find? (fun q => isF (pgENC q) ENC.ST_spare s && act (pgENC q) s == stIDLE && free q) with
  | some q => some q
  | none => (List.range 17).find? (fun q => isF (pgENC q) ENC.ST_golden s && act (pgENC q) s == stTEST)

/-- the columns of a row that physical core `q` still holds. -/
def heldColumns (q : Nat) (r : EchRow) : List Nat :=
  if r.released then (r.phys.filter (fun e => e.2 == q && !r.closed.contains e.1)).map Prod.fst else []

/-- what physical core `a` held goes to core `b` as it stands (R141). -/
def passRows (a b : Nat) (s : State) : State :=
  (List.range 32).foldl (fun s c => modEch c (fun x => { x with rows := x.rows.map (fun r =>
    { r with phys := r.phys.map (fun e => if e.2 = a ∧ !r.closed.contains e.1 then (e.1, b) else e) }) }) s) (moveJobs a b s)

/-- One row of channel `c` that was in progress on core `a` is coded by core `b` anew, its open columns as floor slices (R140). -/
def floorHeld (c a b : Nat) (r : EchRow) (s : State) : State :=
  let cols := heldColumns a r
  if cols.isEmpty then s
  else
    let s1 := modRow c r.pic r.row (fun x => { x with
      forced := x.forced ++ cols, phys := cols.foldl (fun m k => SMap.put k b m) x.phys }) s
    let s2 := cols.foldl (fun s _ => pushJob c b r (3 * fabNs s) s) s1
    if r.forced.isEmpty then
      setF (pgECH c) ECH.ST_floor_in_picture 1 (raise (pgECH c) 7 (addF (pgECH c) ECH.FLOOR_ROWS_rows 1 s2))
    else s2

/-- The rows in progress on core `a` are floor-coded by core `b` (R140): counted, with EVENT bit 7. [DEDUCED log 49] -/
def floorRows (a b : Nat) (s : State) : State :=
  let s1 := modCore b (fun x => { x with now := max x.now (3 * fabNs s) }) (modCore a (fun x => { x with jobs := [] }) s)
  (List.range 32).foldl (fun s c => (echOf c s).rows.foldl (fun s r => floorHeld c a b r s) s) s1

/-- SPARE_TAKEOVER (R140): core `q` has left logical core `l`; another core takes it, or every channel on it goes to FAULT. -/
def takeOver (q l : Nat) (s : State) : State :=
  match standIn s with
  | some b => encRefresh b (coreChanged (chansOn l s) (floorRows q b (mapCore b l (setAct (pgENC b) stIDLE 0 s))))
  | none => (chansOn l s).foldl (fun s c => echFault c 5 s) (showAbsent l true s)

/-- S takes logical core `l` of the faulted X, whose rows it has coded too: none is floor-coded (R141). -/
def shadowTakes (x q l : Nat) (s : State) : State :=
  encRefresh q (coreChanged (chansOn l s) (passRows x q (mapCore q l s)))

/-- the slice mismatch that ended the last step lies in a row that its channel has not got past (R141). -/
def mismatchNow (s : State) : Bool :=
  match s.rot.mismatch with
  | none => false
  | some (c, n, k) => s.rot.phase == 0 && !(echOf c s).rows.any (fun r =>
      r.released && (decide (n < r.pic) || (r.pic == n && decide (k < r.row))))

/-- CORE_FAULT (R140, R141): the core goes to FAULT; its logical core moves. A fault of S ends the step; one of X in the shadow phase, or
after a mismatch in the same row, gives L to S unmarked; one of X in a switch gives S all of L. [DEDUCED log 49] -/
def coreFaultOp (q reason : Nat) (s : State) : State :=
  let p := pgENC q
  if !([stIDLE, stRUNNING, stTEST].contains (act p s)) then s
  else
    let l := getF p ENC.ST_logical s
    let r := s.rot
    let s1 := raise p 1 (toFault p reason (setF p ENC.ST_logical 31 (setF p ENC.ST_spare 0 (setF p ENC.ST_golden 0
      (setF p ENC.ST_shadowing 0 s)))))
    if r.phase ≠ 0 ∧ r.sp = q then
      if r.phase = 3 then endStep 1 (coreChanged r.moved (floorRows q r.x s1)) else endStep 1 s1
    else if r.phase = 2 ∧ r.x = q then shadowTakes q r.sp l (endStep 0 s1)
    else if mismatchNow s ∧ r.x = q ∧ l = r.logical ∧ act (pgENC r.sp) s = stTEST then
      shadowTakes q r.sp l (setAct (pgENC r.sp) stIDLE 0 (setF (pgENC r.sp) ENC.ST_suspect 0 s1))
    else if r.phase = 3 ∧ r.x = q then
      let left := (chansOn l s).filter (fun c => !r.moved.contains c)
      encRefresh r.sp (coreChanged left (floorRows q r.sp (mapCore r.sp l (endStep 0 s1))))
    else if l < 16 then takeOver q l (if r.phase = 1 ∨ r.phase = 2 then abandonStep s1 else s1)
    else s1

def execCoreFault (core : Fin 17) (stateError : Bool) (s : State) : Host.Outcome State Fault Refusal :=
  .next (coreFaultOp core.val (if stateError then 8 else 7) s)

/-- OVERDUE_ROW (R140): a row still open T after its window closed faults the core that holds it. -/
def overdueRowOp (c : Nat) (s : State) : State :=
  match (echOf c s).rows.find? (fun r => r.windowClosed && decide (r.closed.length < colCount getF c s)) with
  | none => s
  | some r =>
    let t := r.close + spanNs c (ctuSize getF c s) s
    match (List.range (colCount getF c s)).find? (fun k => !r.closed.contains k) with
    | none => s
    | some col => match sliceCore c col r s with
      | none => s
      | some q => coreFaultOp q 7 (reachNs t s)

def execOverdueRow (ch : Fin 32) (s : State) : Host.Outcome State Fault Refusal := .next (overdueRowOp ch.val s)

/-- what a newly taken STATE_CMD makes of an encode core (R140, R145, R447): IDLE takes a faulted core to golden vectors,
one that tests or slept back to the mapping. -/
def encCommand (q : Nat) (s : State) : State :=
  let p := pgENC q
  let k := getF p HDR.CMD_state s
  let a := act p s
  if a = stFAULT then
    if k = stIDLE then startGolden q s else if k = stOFF then setAct p stOFF 0 s else s
  else if a = stRUNNING then s
  else if a = stOFF ∧ k = stIDLE ∧ getF p ENC.ST_logical s = 31 ∧ !isF p ENC.ST_spare s then startGolden q s
  else if k = stRUNNING then encRefresh q (setAct p stIDLE 0 s)
  else setAct p k 0 s

/-! ## Registers with an action (R145, R147) -/

/-- SLACK_CLEAR (R145): slack_min returns to its saturated value. -/
def execSlackClear (r : Req) (core : Fin 17) (s : State) : Host.Outcome State Fault Refusal :=
  .next (asWrite r (pgENC core.val) 0x108 (fun s =>
    (.success, setF (pgENC core.val) ENC.SLACK_slack_min_ns 0xFFFFFF s)) s)

/-- DEPART_ERR_READ (R147): the read clears the figure. -/
def execDepartErrRead (r : Req) (ch : Fin 32) (s : State) : Host.Outcome State Fault Refusal :=
  .next (asRead r (pgECH ch.val) 0x138 (fun s =>
    (getF (pgECH ch.val) ECH.DEPART_ERR_max_late_ns s * 2 ^ 16,
     setF (pgECH ch.val) ECH.DEPART_ERR_max_late_ns 0 s)) s)

end Sys2Proof.Machine
end

