-- ==== Sys2Proof/Machine/Twin.lean ====
section
/-! DEFINITION. Sys2Proof/Machine/Twin.lean: the claim line, heartbeats, two-phase records, lockstep, joins, patches and
handover of a twin pair (chapter 08, R233 to R269), and the ends of a merge window and of a leg (R81, R97). -/

namespace Sys2Proof.Machine

/-! ## Messages in (R242) -/

def msgChan (m : TwinMsg) : Nat := m.ch.toNat % 32

/-- messages whose epoch the receiver adopts, rather than checks: heartbeats, handover and snapshot messages (R242). -/
def anyEpoch (kind : Nat) : Bool := [5, 8, 9, 0xA, 0xB, 0xC].contains kind

/-- a message reaches the page: one of another epoch is discarded and counted (R242). -/
def twinIn (m : TwinMsg) (f : State → State) (s : State) : State :=
  let s := takeMsg (getF pgTWN TWN.CFG_link s) (twinLane m.kind.toNat) s
  if act pgTWN s ≠ stRUNNING then s
  else if m.epoch.toNat ≠ getF pgTWN TWN.EPOCH_epoch s ∧ !anyEpoch m.kind.toNat then addF pgTWN TWN.C_claim_bad 1 s
  else f s

def deadTicks (s : State) : Nat := getF pgTWN TWN.DEAD_dead_us s * tickUs
def ackTicks (s : State) : Nat := getF pgTWN TWN.TIMING_ack_us s * tickUs
def ackNs (s : State) : Nat := getF pgTWN TWN.TIMING_ack_us s * 1000

def mirroredChans (s : State) : List Nat := (List.range 32).filter (fun c => mirrored c s)

/-! ## Roles (R236 to R240, R253, R259) -/

/-- the epoch nearest to `own` whose low six bits are `e` (R236). [DEDUCED log 55] -/
def epochFrom6 (own e : Nat) : Nat :=
  let b := own / 64 * 64 + e
  if b + 32 < own then b + 64 else if own + 32 < b ∧ 64 ≤ b then b - 64 else b

/-- the device takes a role; requests to join its channels go with the old one. -/
def setRole (r : Nat) (s : State) : State := setF pgTWN TWN.ROLE_role r (modTwn (fun t => { t with joinReqs := [] }) s)

/-- the epoch is written, and with it the retention store (R483). [DEDUCED log 55] -/
def setEpoch (e : Nat) (s : State) : State := setF pgDEV DEV.ST_rws_valid 1 (setF pgTWN TWN.EPOCH_epoch e s)

/-- the device becomes lead under a new epoch (R238). [DEDUCED log 55] -/
def takeLead (s : State) : State := setRole 2 (setEpoch (max (getF pgTWN TWN.EPOCH_epoch s) s.twn.heardEpoch + 1) s)

/-- the frame of R236 that this device sends now. -/
def claimFrame (s : State) : List Byte :=
  let role := if s.pwr.mainRun && act pgTWN s == stRUNNING then twinRole s else 0
  let b := beBytes 1 (getF pgTWN TWN.CFG_claim s) ++ beBytes 1 (role * 64 + getF pgTWN TWN.EPOCH_epoch s % 64)
  beBytes 1 0xB4 ++ b ++ beBytes 1 (crc crc8 b)

/-- CLAIM_FRAME_SEND (R236, R497): 32 µs on the line, while a claim number is set and VIO drives the pin. -/
def claimFrameSendOp (s : State) : State :=
  if getF pgTWN TWN.CFG_claim s = 0 ∨ s.pwr.inReset ∨ !isF pgDEV DEV.ST_vio_ok s then s
  else emit .claim 0 (nats (claimFrame s)) (passTicks (32 * tickUs) s)

def execClaimFrameSend (s : State) : Host.Outcome State Fault Refusal := .next (claimFrameSendOp s)

/-- BOTH_LEAD_YIELD (R239): role follower; every mirrored channel muted with reason 0x04. -/
def bothLeadYield (s : State) : State :=
  let s1 := raise pgTWN 1 (raise pgTWN 10 (addF pgTWN TWN.C_both_lead 1 (setRole 1 (goSolo
    (setF pgTWN TWN.ST_handover_pending 0 (modTwn (fun t => { t with yield := none }) s))))))
  (mirroredChans s1).foldl (fun s c =>
    if [stRUNNING, stSTARTING, stMUTED].contains (act (pgECH c) s) then muteChannel c 4 .diverged s else s)
    (setF pgTWN TWN.ST_solo 0 s1)

/-- the partner's lead frames are ignored for 64 µs after H (R265). [DEDUCED log 58] -/
def afterHandover (s : State) : Bool :=
  match s.twn.yield with
  | some y => y.acked && decide (timeNs s < y.at_ + 64000) && decide (y.at_ ≤ timeNs s)
  | none => false

/-- what a valid claim frame tells (R236 to R239). [DEDUCED log 55] -/
def takeClaim (claim role e6 : Nat) (s : State) : State :=
  let s1 := setF pgTWN TWN.ROLE_partner_valid 1 (setF pgTWN TWN.ROLE_partner_epoch e6
    (setF pgTWN TWN.ROLE_partner_claim claim (setF pgTWN TWN.ROLE_partner_role role
      (modTwn (fun t => { t with
        claimAt := some s.clk, heardEpoch := epochFrom6 (max t.heardEpoch (getF pgTWN TWN.EPOCH_epoch s)) e6,
        wasLead := t.wasLead || role == 2, notLead := if role = 2 then 0 else t.notLead + 1 }) s))))
  if act pgTWN s1 ≠ stRUNNING then s1
  else
    let own := getF pgTWN TWN.CFG_claim s1
    if twinRole s1 = 0 then
      if claim = own then
        (if isF pgTWN TWN.ST_claim_conflict s1 then s1
         else raise pgTWN 11 (setF pgTWN TWN.ST_claim_conflict 1 s1))
      else
        let s2 := setF pgTWN TWN.ST_claim_conflict 0 s1
        if role = 2 then setRole 1 s2 else s2
    else if twinRole s1 = 2 ∧ role = 2 ∧ own < claim ∧ !afterHandover s1 then bothLeadYield s1
    else s1

/-- CLAIM_FRAME_RECEIVED (R236, R497): a frame with the sync whose crc fails is counted; without VIO the pin reads nothing. -/
def claimFrameReceivedOp (w : Word) (s : State) : State :=
  let b := beBytes 4 w.toNat
  if fieldAt 0 1 b ≠ 0xB4 ∨ !isF pgDEV DEV.ST_vio_ok s then s
  else if fieldAt 3 1 b ≠ crc crc8 (sub 1 2 b) then addF pgTWN TWN.C_claim_bad 1 s
  else if fieldAt 1 1 b = 0 then s
  else takeClaim (fieldAt 1 1 b) (fieldAt 2 1 b / 64) (fieldAt 2 1 b % 64) s

def execClaimFrameReceived (frame : Word) (s : State) : Host.Outcome State Fault Refusal :=
  .next (claimFrameReceivedOp frame s)

/-- CHANNEL_RESTART (R259): the channel starts afresh, its sequence numbers 4,096 beyond the last heard. -/
def restartChannel (c : Nat) (s : State) : State :=
  let h := SMap.get (0, 0) c s.twn.seqs
  let s1 := dropJoin c (muteChannel c 2 .waiting s)
  setAct (pgECH c) stSTARTING 1 (setF (pgOUT c) OUT.SLICE_SEQ_next (h.2 + 4096)
    (modOut c (fun x => { x with seq := (h.1 + 4096) % 2 ^ 16 }) s1))

/-- the held slices of a channel leave as a lead's (R253): late. -/
def sendHeld (c : Nat) (s : State) : State :=
  (entriesOf c s).foldl (fun s e =>
    match e.read with
    | some rd => if e.copied then s else copyRow c (recodeRow c e s) (max e.depart (fabNs s)) [(e, rd)] s
    | none => s) s

/-- PROMOTION (R253, R259): the follower takes the lead and continues its joined channels; each mirrored group's pool is
cleared (R169). -/
def promote (s : State) : State :=
  let chans := mirroredChans s
  let joined := chans.filter (fun c => joinOf c s == some .joined)
  let s1 := takeLead (modTwn (fun t => { t with yield := none, doubtAt := none }) s)
  let s2 := joined.foldl (fun s c => sendHeld c (dropJoin c s)) s1
  let others := chans.filter (fun c => !joined.contains c && cmdOf (pgECH c) s == stRUNNING &&
    [stMUTED, stSTARTING, stRUNNING].contains (act (pgECH c) s))
  let s3 := others.foldl (fun s c => restartChannel c s) s2
  let groups := (List.range 8).filter (fun g => chans.any (fun c => isMember c s && groupOf c s == g))
  let s4 := groups.foldl (fun s g =>
    setF (pgMUX g) MUX.POOL_tokens 0 (addF (pgMUX g) MUX.LAPSED_tokens (getF (pgMUX g) MUX.POOL_tokens s) s)) s3
  raise pgTWN 0 (addF pgTWN TWN.C_promote 1 (setF pgTWN TWN.ST_doubt 0 (setF pgTWN TWN.ST_handover_pending 0
    (setF pgTWN TWN.ST_solo 1 (showJoins s4)))))

/-- a heartbeat has come within dead_us (R240). -/
def heartbeats (s : State) : Bool :=
  match s.twn.hbAt with | some t => decide (s.clk < t + deadTicks s) | none => false

/-- PARTNER_DEAD (R237, R240, R253): silence for dead_us, or two frames of a former lead that no longer leads. A lead that loses the claim
line, and a follower that still hears a lead's heartbeats, count a claim-line fault. -/
def partnerDeadOp (s : State) : State :=
  if act pgTWN s ≠ stRUNNING ∨ twinRole s = 0 then s
  else
    let quit := s.twn.wasLead && decide (2 ≤ s.twn.notLead)
    let s1 := if quit then s else match s.twn.claimAt with
      | some t => setF pgTWN TWN.ROLE_partner_valid 0 (advanceTo (t + deadTicks s) s)
      | none => advanceTo (s.twn.listenAt + deadTicks s) s
    let s2 := modTwn (fun t => { t with wasLead := false, notLead := 0 }) s1
    let s3 := if twinRole s2 = 2 ∨ (heartbeats s2 ∧ s2.twn.hbRole = 2) then raise pgTWN 9 (addF pgTWN TWN.C_claim_fault 1 s2) else s2
    if heartbeats s3 then s3
    else
      let s4 := raise pgTWN 3 (setF pgTWN TWN.ST_link_up 0 s3)
      if twinRole s4 = 1 then promote s4 else s4

def execPartnerDead (s : State) : Host.Outcome State Fault Refusal := .next (partnerDeadOp s)

/-- ROLE_TAKEN (R238): after dead_us of listening, silence makes a lead, and so does the higher claim number against frames
that do not lead. -/
def roleTakenOp (s : State) : State :=
  if act pgTWN s ≠ stRUNNING ∨ twinRole s ≠ 0 ∨ isF pgTWN TWN.ST_claim_conflict s then s
  else
    let s1 := advanceTo (s.twn.listenAt + deadTicks s) s
    let silent : Bool := match s1.twn.claimAt with
      | some t => decide (t + deadTicks s1 ≤ s1.clk) | none => true
    if silent || decide (getF pgTWN TWN.ROLE_partner_claim s1 < getF pgTWN TWN.CFG_claim s1) then
      setF pgTWN TWN.ST_solo 1 (takeLead s1)
    else s1

def execRoleTaken (s : State) : Host.Outcome State Fault Refusal := .next (roleTakenOp s)

/-! ## Heartbeats (R244, R245) -/

/-- the body of this device's next heartbeat (R244). -/
def heartbeatBody (s : State) : List Byte :=
  let q := s.twn.quarter % 4
  beBytes 4 (getF pgFWL FWL.IMAGE_version s) ++ beBytes 1 (getF pgDEV DEV.STEPPING_stepping s) ++ beBytes 1 (twinRole s) ++
    beBytes 1 (getF pgTWN TWN.CFG_claim s) ++ beBytes 1 (getF pgHLT HLT.GOV_STAT_level s * 16 + q) ++
    beBytes 8 (timeForm (timeNs s)) ++ beBytes 4 (getF pgTWN TWN.CHANS_chans s) ++
    beBytes 4 (getF pgTWN TWN.JOINED_chans s) ++
    (List.range 8).flatMap (fun j =>
      beBytes 2 (outOf (8 * q + j) s).seq ++ beBytes 4 (getF (pgOUT (8 * q + j)) OUT.SLICE_SEQ_next s) ++ beBytes 2 0)

/-- HEARTBEAT_SEND (R244); a lead whose own state has an uncorrectable error sends none (R266). -/
def heartbeatSendOp (s : State) : State :=
  if act pgTWN s ≠ stRUNNING ∨ s.twn.silent then s
  else
    let s1 := advanceTo s.twn.hbNext s
    modTwn (fun t => { t with quarter := (t.quarter + 1) % 4, hbNext := s1.clk + getF pgTWN TWN.TIMING_hb_us s1 * tickUs })
      (twinSend 5 0 0xFF 0 0 (heartbeatBody s1) s1)

def execHeartbeatSend (s : State) : Host.Outcome State Fault Refusal := .next (heartbeatSendOp s)

/-- the next record of the channel has not come by its wait's end. -/
def recordMissing (c : Nat) (s : State) : Bool :=
  let x := echOf c s
  x.live && !s.twn.recs.any (fun r => r.ch == c && r.pic == x.nextPic && r.row == x.nextRow) &&
  decide (recordNs c x.nextPic x.nextRow s + ackNs s ≤ timeNs s)

/-- the lead is alive and has gone solo (R252): doubt ends, channels without their record are muted. -/
def endDoubtAlive (s : State) : State :=
  let s1 := setF pgTWN TWN.ST_doubt 0 (modTwn (fun t => { t with doubtAt := none }) s)
  (mirroredChans s1).foldl (fun s c =>
    if joinOf c s = some .joined ∧ recordMissing c s then muteChannel c 3 .linkLost s else s) s1

/-- HEARTBEAT (R242, R244, R245, R252): what it tells is taken; the receiver adopts a lead's epoch. [DEDUCED log 55] -/
def takeHeartbeat (m : TwinMsg) (s : State) : State :=
  let b := m.body
  let role := fieldAt 5 1 b
  let q := fieldAt 7 1 b % 4
  let ver := fieldAt 0 4 b
  let same := ver == getF pgFWL FWL.IMAGE_version s && fieldAt 4 1 b == getF pgDEV DEV.STEPPING_stepping s
  let s1 := modTwn (fun t => { t with
    hbAt := some s.clk, hbSent := timeOfForm (fieldAt 8 8 b), govLevel := fieldAt 7 1 b / 16, hbRole := role,
    partnerStep := fieldAt 4 1 b, heardEpoch := max t.heardEpoch m.epoch.toNat,
    seqs := (List.range 8).foldl (fun z j => SMap.put (8 * q + j) (fieldAt (24 + 8 * j) 2 b, fieldAt (26 + 8 * j) 4 b) z) t.seqs }) s
  let s2 := setF pgTWN TWN.PARTNER_FW_version ver (setF pgTWN TWN.ST_fw_match same.toNat (setF pgTWN TWN.ST_link_up 1 s1))
  let first := !same && (s.twn.hbAt.isNone || isF pgTWN TWN.ST_fw_match s)
  let s3 := raiseIf first pgTWN 12 s2
  let s4 := if role = 2 ∧ twinRole s3 = 1 then setEpoch m.epoch.toNat s3
    else if twinRole s3 = 2 then setF pgTWN TWN.JOINED_chans (Nat.land (fieldAt 20 4 b) (getF pgTWN TWN.CHANS_chans s3)) s3
    else s3
  if s4.twn.doubtAt.isSome ∧ s4.twn.doubtNs ≤ s4.twn.hbSent then endDoubtAlive s4 else s4

def execHeartbeat (msg : TwinMsg) (s : State) : Host.Outcome State Fault Refusal :=
  .next (twinIn msg (takeHeartbeat msg) s)

/-! ## Two-phase records (R246, R247, R252) -/

/-- RECORD (R247): a record whose crc verifies is stored and acknowledged. [DEDUCED log 57] -/
def recordOp (m : TwinMsg) (s : State) : State :=
  let c := msgChan m
  let n := m.picture.toNat
  let k := m.row.toNat
  let h := m.body.take 28
  let e := m.body.drop 32
  let sum := fieldAt 28 4 m.body
  if !(follows c s && followsRows c s) || m.body.length < 32 ||
      sum != crc crc32c (h ++ e ++ beBytes 8 (n * 2 ^ 32 + k)) then s
  else
    let ents := (List.range (e.length / 8)).map (fun i => fieldAt (8 * i) 8 e)
    addF pgTWN TWN.C_rec_rx 1 (twinSend 2 0 c k n (beBytes 4 sum)
      (modTwn (fun t => { t with recs := t.recs ++ [⟨c, n, k, m.body.take 32, ents⟩] }) s))

def execRecord (msg : TwinMsg) (s : State) : Host.Outcome State Fault Refusal := .next (twinIn msg (recordOp msg) s)

/-- ACK (R246): the matching acknowledgement lets the lead's core load the record. -/
def ackOp (m : TwinMsg) (s : State) : State :=
  let c := msgChan m
  if fieldAt 0 4 m.body ≠ getF (pgECH c) (ECH.DREC_header 7) s then s
  else modTwn (fun t => { t with awaits := t.awaits.filter (fun a =>
    !(a.1 == c && a.2.1 == m.picture.toNat && a.2.2.1 == m.row.toNat)) }) s

def execAck (msg : TwinMsg) (s : State) : Host.Outcome State Fault Refusal := .next (twinIn msg (ackOp msg) s)

/-- ACK_TIMEOUT (R246, R264): the lead goes solo for every mirrored channel; snapshots under way are discarded. -/
def ackTimeoutOp (s : State) : State :=
  match s.twn.awaits with
  | [] => s
  | a :: _ => raise pgTWN 2 (addF pgTWN TWN.C_ack_to 1 (goSolo (modTwn (fun t => { t with
      snaps := t.snaps.filter (fun e => t.leaving.contains e.1) }) (advanceTo (a.2.2.2 + ackTicks s) s))))

def execAckTimeout (s : State) : Host.Outcome State Fault Refusal := .next (ackTimeoutOp s)

/-- DOUBT (R252): `m` is the moment that a heartbeat would have to be fresh for. -/
def enterDoubt (m : Nat) (s : State) : State :=
  if s.twn.doubtAt.isSome then s
  else raise pgTWN 17 (setF pgTWN TWN.ST_doubt 1 (modTwn (fun t => { t with doubtAt := some s.clk, doubtNs := m }) s))

/-- RECORD_WAIT_EXPIRY (R247, R252). -/
def recordWaitExpiryOp (c : Nat) (s : State) : State :=
  let x := echOf c s
  if !(follows c s && followsRows c s && x.live) || (dueRelease c s).isSome ||
      s.twn.recs.any (fun r => r.ch == c && r.pic == x.nextPic && r.row == x.nextRow) then s
  else
    let due := recordNs c x.nextPic x.nextRow s
    let s1 := reachNs (due + ackNs s) s
    if due ≤ s1.twn.hbSent then muteChannel c 3 .linkLost s1 else enterDoubt due s1

def execRecordWaitExpiry (ch : Fin 32) (s : State) : Host.Outcome State Fault Refusal :=
  .next (recordWaitExpiryOp ch.val s)

/-- LINK_LOST_VERDICT (R252): lead frames have continued for dead_us of doubt without a heartbeat. -/
def linkLostVerdictOp (s : State) : State :=
  match s.twn.doubtAt with
  | none => s
  | some t =>
    if !isF pgTWN TWN.ROLE_partner_valid s ∨ getF pgTWN TWN.ROLE_partner_role s ≠ 2 ∨ s.twn.hbAt.any (fun h => decide (t ≤ h)) then s
    else
      let s1 := advanceTo (t + deadTicks s) s
      let s2 := setF pgTWN TWN.ST_link_up 0 (setF pgTWN TWN.ST_doubt 0 (modTwn (fun x => { x with doubtAt := none }) s1))
      raise pgTWN 4 ((mirroredChans s2).foldl (fun s c =>
        if joinOf c s = some .joined then muteChannel c 3 .linkLost s else s) s2)

def execLinkLostVerdict (s : State) : Host.Outcome State Fault Refusal := .next (linkLostVerdictOp s)

/-! ## Lockstep (R250, R251) -/

/-- a held slice whose CHECK matches leaves at its departure time, or at once if that has passed (R250). -/
def releaseHeld (c : Nat) (e : RingEntry) (s : State) : State :=
  match e.read with
  | none => s
  | some rd => copyRow c (recodeRow c e s) (max e.depart (fabNs s)) [(e, rd)] s

/-- CHECK (R185, R186, R250, R251): the lead's check is kept, compared with a closed slice and releases a held one; with the
replace mark the region is re-coded here too. [DEDUCED log 57] -/
def checkOp (m : TwinMsg) (s : State) : State :=
  let c := msgChan m
  let b := m.body
  if !(follows c s && followsRows c s) || b.length != 16 then s
  else
    let k : TwCheck := ⟨c, fieldAt 0 1 b, fieldAt 4 4 b, fieldAt 8 4 b, m.flags.toNat.testBit 0⟩
    let s1 := modTwn (fun t => { t with checks := t.checks ++ [k] }) s
    if k.replace then
      let x := echOf c s
      let blank : RingEntry := ⟨k.seqNo, m.picture.toNat, m.row.toNat, k.col, 0, 0, [], [], 0, 0, x.tsCur, x.wraps, 0, none, none⟩
      let old := ((entriesOf c s).find? (fun e => e.pic == m.picture.toNat && e.row == m.row.toNat && e.col == k.col)).getD blank
      modOut c (fun x => { x with recodes := x.recodes ++ [⟨old⟩] }) s1
    else
      match (entriesOf c s1).find? (fun e => e.seqNo == k.seqNo && e.col == k.col && !e.copied) with
      | none => s1
      | some e =>
        if e.read.isSome then releaseHeld c e s1
        else if k.check ≠ e.check ∧ joinOf c s1 = some .joined then diverge c s1
        else s1

def execCheck (msg : TwinMsg) (s : State) : Host.Outcome State Fault Refusal := .next (twinIn msg (checkOp msg) s)

/-- LOCKSTEP_TIMEOUT (R251, R252): withheld where the lead is alive, else held in doubt. -/
def lockstepTimeoutOp (c : Nat) (s : State) : State :=
  match (entriesOf c s).find? (fun e => e.read.isSome && !e.copied) with
  | none => s
  | some e =>
    if !follows c s then s
    else
      let s1 := reachNs (e.depart + getF pgTWN TWN.TIMING_lockstep_us s * 1000) s
      if e.depart ≤ s1.twn.hbSent then raise pgTWN 15 (addF pgTWN TWN.C_chk_to 1 (withhold c e s1))
      else enterDoubt e.depart s1

def execLockstepTimeout (ch : Fin 32) (s : State) : Host.Outcome State Fault Refusal := .next (lockstepTimeoutOp ch.val s)

/-- PICCHECK (R251, R258). -/
def piccheckOp (m : TwinMsg) (s : State) : State :=
  let c := msgChan m
  if !(follows c s && followsRows c s) || m.body.length != 8 then s
  else comparePics c m.picture.toNat (modTwn (fun t => { t with
    leadPic := SMap.put (picKey c m.picture.toNat (fieldAt 0 1 m.body)) (fieldAt 4 4 m.body) t.leadPic }) s)

def execPiccheck (msg : TwinMsg) (s : State) : Host.Outcome State Fault Refusal := .next (twinIn msg (piccheckOp msg) s)

/-- the lead codes the channel solo (R251): no record of it is awaited (R265). -/
def unpair (c : Nat) (s : State) : State :=
  let w := getF pgTWN TWN.JOINED_chans s
  setF pgTWN TWN.JOINED_chans (if w.testBit c then w - 2 ^ c else w)
    (modTwn (fun t => { t with
      paired := t.paired.filter (· != c), awaits := t.awaits.filter (fun a => a.1 != c), snaps := SMap.drop c t.snaps }) s)

/-- MUTE_NOTE (R251). -/
def execMuteNote (msg : TwinMsg) (s : State) : Host.Outcome State Fault Refusal :=
  .next (twinIn msg (fun s => if twinRole s = 2 then unpair (msgChan msg) s else s) s)

/-! ## Joining (R255 to R258) -/

/-- JOIN_REQ_SEND (R255). -/
def joinReqSendOp (c : Nat) (s : State) : State :=
  let p := pgECH c
  let idle := match joinOf c s with
    | some .waiting | some .linkLost | some .diverged => true
    | _ => false
  if !follows c s || !idle || act p s != stMUTED || cmdOf p s != stRUNNING || !isF pgTWN TWN.ST_link_up s ||
      !isF pgTWN TWN.ST_fw_match s then s
  else twinSend 7 0 c 0 0 [] (setAct p stMUTED 2 (setJoin c .waiting s))

def execJoinReqSend (ch : Fin 32) (s : State) : Host.Outcome State Fault Refusal := .next (joinReqSendOp ch.val s)

/-- the first picture whose row-0 record falls at least 100 µs from now (R255); a request that comes while the lead yields is
held until H has passed (R264). -/
def joinPicture (c : Nat) (s : State) : Nat :=
  let x := echOf c s
  let n := if x.nextRow = 0 then x.nextPic else x.nextPic + 1
  let from_ := max (timeNs s + 100000) ((s.twn.yield.map (fun y => y.at_)).getD 0)
  ((List.range 4096).map (fun k => n + k)).find? (fun k => decide (from_ ≤ recordNs c k 0 s)) |>.getD (n + 4096)

/-- JOIN_REQ (R255): with join_idr an IDR is forced on that picture. -/
def joinReqOp (c : Nat) (s : State) : State :=
  if !leads c s then s
  else
    let n := joinPicture c s
    let s1 := modTwn (fun t => { t with joinReqs := SMap.put c n t.joinReqs }) s
    if isF pgTWN TWN.CFG_join_idr s then modEch c (fun x => { x with idrAt := some n }) s1 else s1

def execJoinReq (msg : TwinMsg) (s : State) : Host.Outcome State Fault Refusal :=
  .next (twinIn msg (joinReqOp (msgChan msg)) s)

/-- the configuration digest of a channel (R256). -/
def configDigest (c : Nat) (s : State) : Nat :=
  let page := fun p => (rwcRows p).flatMap (fun f => beBytes 8 (getCm p f s))
  let n := getCm (pgECH c) ECH.SRC_src s
  let u := pgCND (cndUnit n)
  let m := cndOut n
  let cnd := if getCm (pgECH c) ECH.SRC_src_kind s = 1 then
      [CND.OCTL_en m, CND.OCTL_path m, CND.OCTL_lut_en m, CND.OCTL_lut_bank m, CND.OCTL_chroma_out m, CND.OCTL_depth_out m,
       CND.OCTL_colorimetry_out m, CND.OCTL_tcs_out m, CND.ODIM_height m, CND.ODIM_width m].flatMap
        (fun f => beBytes 8 (getCm u f s))
    else []
  crc crc32c (page (pgECH c) ++ page (pgOUT c) ++ page pgRCL ++
    (if isMember c s then page (pgMUX (groupOf c s)) else []) ++ cnd ++ beBytes 2 (getF (pgECH c) HDR.gen_applied s) ++
    beBytes 2 (getF pgRCL HDR.gen_applied s) ++
    (if isMember c s then beBytes 2 (getF (pgMUX (groupOf c s)) HDR.gen_applied s) else []))

/-- `n` rows' statistics from byte `o` on. -/
def statsAt (o n : Nat) (b : List Byte) : List (Nat × Nat × Nat) :=
  (List.range n).map (fun i => (fieldAt (o + 24 * i) 8 b, fieldAt (o + 24 * i + 8) 8 b, fieldAt (o + 24 * i + 16) 8 b))

/-- the words of a snapshot that stand before its lists. -/
def snapWords : Nat := 44

/-- the snapshot of a channel at picture `n` (R256), in this model's own byte layout, version 1: 8-byte numbers, then the
continuity counters, then the statistics of rows. `before`: it stands before the record of row 0 (R261). [DESIGN CHOICE log 56] -/
def snapshotBytes (c n : Nat) (before : Bool) (s : State) : List Byte :=
  let x := echOf c s
  let o := outOf c s
  let p := pgECH c
  let budget := fun l : List EchRow => (l.map EchRow.budget).headD 0
  let loan := x.loan.getD ⟨0, 0, 0, 0, none, 0, false⟩
  let w := [1, 0, c, n, getF pgTWN TWN.EPOCH_epoch s, getF pgFWL FWL.IMAGE_version s, configDigest c s,
    before.toNat, getF p ECH.RC_ACCOUNT_tokens s, getF p ECH.RC_HRD_tokens s,
    budget (x.rows.filter (fun r => r.pic == n)), budget (x.rows.filter (fun r => r.pic + 1 == n)).reverse,
    getF p ECH.RC_DEBT_tokens s, x.floorOnly.toNat, x.acc.rate, x.acc.share, x.acc.n0, x.acc.l0, x.acc.cum,
    x.hfAcc.rate, x.hfAcc.share, x.hfAcc.n0, x.hfAcc.l0, x.hfAcc.cum, x.nextLoan, x.loan.isSome.toNat, loan.ref, loan.asked,
    loan.pic, loan.row, o.seq, getF (pgOUT c) OUT.SLICE_SEQ_next s, (x.tsLast.map (· + 1)).getD 0, x.tsM, x.tsCur, x.wraps,
    x.cycle, x.curIdr.toNat, x.curJoin.toNat, x.pictures, x.lastIdr, if isMember c s then (muxOf (groupOf c s) s).qp else 0,
    o.cc.length, x.stats.length]
  w.flatMap (beBytes 8) ++ o.cc.flatMap (fun e => beBytes 8 e.1 ++ beBytes 8 e.2) ++ statBytes x.stats

/-- the parts of a snapshot leave (R257). -/
def sendParts (c n : Nat) (bytes : List Byte) (s : State) : State :=
  (pieces 1024 bytes.length bytes).foldl (fun s part => twinSend 0xA 0 c 0 n part s) s

/-- SNAPSHOT_TAKE (R255 to R257, R261): at the row-0 record of the join point, or, for a channel that is handed over, in its
place. -/
def snapshotTakeOp (c : Nat) (s : State) : State :=
  let x := echOf c s
  if s.twn.leaving.contains c then
    match s.twn.yield with
    | none => s
    | some y =>
      if !x.live ∨ x.nextRow ≠ 0 ∨ recordNs c x.nextPic 0 s < y.at_ then s
      else
        let s1 := reachNs (recordNs c x.nextPic 0 s) s
        let b := snapshotBytes c x.nextPic true s1
        modEch c (fun x => { x with live := false })
          (modTwn (fun t => { t with snaps := SMap.put c ⟨x.nextPic, b, false⟩ t.snaps }) (sendParts c x.nextPic b s1))
  else
    match SMap.find c s.twn.joinReqs with
    | none => s
    | some n =>
      if !leads c s ∨ x.nextRow ≠ 1 ∨ !x.curJoin ∨ x.nextPic < n then s
      else
        let b := snapshotBytes c x.nextPic false s
        let s1 := modTwn (fun t => { t with
          snaps := SMap.put c ⟨x.nextPic, b, false⟩ t.snaps, joinReqs := SMap.drop c t.joinReqs,
          paired := c :: t.paired.filter (· != c) }) (sendParts c x.nextPic b s)
        -- the record of row 0 of J is the first that the follower is sent (R257)
        let hdr := (List.range 8).flatMap (fun i => beBytes 4 (getF (pgECH c) (ECH.DREC_header i) s1))
        addF pgTWN TWN.C_rec_tx 1 (setF pgTWN TWN.ST_solo 0 (twinSend 1 0 c 0 x.nextPic
          (hdr ++ (rowEntriesOf c 0 (((feedOf (echRoot getF c s1) x.nextPic s1).map Feed.map).getD []) s1).flatMap (beBytes 8)) s1))

/-- SNAPSHOT_TAKE names the picture of its join point; another than the channel's next has none. [DESIGN CHOICE log 4] -/
def execSnapshotTake (ch : Fin 32) (picture : Nat) (s : State) : Host.Outcome State Fault Refusal :=
  .next (if picture = (echOf ch.val s).nextPic then snapshotTakeOp ch.val s else s)

/-- a join fails (R257): everything coded since row 0 of J is discarded, the channel waits, a MUTE_NOTE leaves; on a new
lead the channel starts afresh (R261). -/
def joinFails (c : Nat) (s : State) : State :=
  let s1 := raise pgTWN 8 (addF pgTWN TWN.C_join_fail 1 s)
  if twinRole s1 = 2 then restartChannel c s1
  else twinSend 6 0 c 0 0 (beBytes 4 2) (muteChannel c 2 .waiting s1)

/-- the words of a snapshot. -/
def snapWord (b : List Byte) (i : Nat) : Nat := fieldAt (8 * i) 8 b

/-- all bytes of the snapshot have come. [DESIGN CHOICE log 56] -/
def snapWhole (b : List Byte) : Bool :=
  decide (8 * snapWords ≤ b.length) && decide (b.length = 8 * (snapWords + 2 * snapWord b 42 + 3 * snapWord b 43))

/-- the parts are applied provisionally (R256, R257): the channel stands as the lead's does at J. [DESIGN CHOICE log 56] -/
def applySnapshot (c : Nat) (b : List Byte) (s : State) : State :=
  let w := snapWord b
  let n := w 3
  let before := w 7 == 1
  let ck := pageClock (echRoot getF c s) s
  let ccs := (List.range (w 42)).foldl (fun m i => SMap.put (w (snapWords + 2 * i)) (w (snapWords + 1 + 2 * i)) m) ([] : SMap Nat)
  let stats := statsAt (8 * (snapWords + 2 * w 42)) (w 43) b
  let idr := w 37 == 1
  let loan : Option Loan := if w 25 = 1 then some ⟨w 26, w 27, w 28, w 29, none, s.clk, true⟩ else none
  let s1 := modEch c (fun x => { x with
    live := true, nextPic := n, nextRow := 0, rate := ck.1, phase := ck.2,
    acc := ⟨w 14, w 15, w 16, w 17, w 18⟩, hfAcc := ⟨w 19, w 20, w 21, w 22, w 23⟩, rows := [], floorOnly := w 13 == 1,
    loan := loan, nextLoan := w 24, pictures := w 39, idrDue := before, cycle := w 36, curIdr := idr,
    curJoin := w 38 == 1, tsLast := if w 32 = 0 then none else some (w 32 - 1), tsM := w 33, tsCur := w 34, wraps := w 35,
    lastIdr := w 40, stats := stats, shelf := if idr then [] else x.shelf, coding := if before then [] else [⟨n, idr, [], []⟩] })
    (if isMember c s then modMux (groupOf c s) (fun x => { x with qp := w 41 }) s else s)
  let s2 := countTokens c (w 8 + w 10) ECH.RC_ACCRUED_tokens MUX.RECV_tokens (setF (pgECH c) ECH.RC_ACCOUNT_tokens (w 8)
    (setF (pgECH c) ECH.RC_HRD_tokens (w 9) (setF (pgECH c) ECH.RC_DEBT_tokens (w 12) s1)))
  let s3 := setF (pgOUT c) OUT.SLICE_SEQ_next (w 31) (modOut c (fun x => { x with seq := w 30 % 2 ^ 16, cc := ccs }) s2)
  if before then s3
  else
    let p := pgECH c
    let r : EchRow :=
      { pic := n, row := 0, budget := w 10, floor := floorNow c 0 s3, feed := 0, stamp := w 34, wraps := w 35,
        release := releaseNs c n 0 s3, close := closeNs c n 0 s3, depart := departNs c n 0 s3, source := 0,
        qp := chosenQp c (estimatorIn c n 0 0 s3) s3, effort := 0, qpMin := getF p ECH.RC_QP_qp_min s3,
        qpMax := getF p ECH.RC_QP_qp_max s3, conflict := isF pgRCL RCL.POLICY_qp_conflict s3,
        kind := 1 + getF p ECH.PRED_structure s3, refs := getF p ECH.PRED_active_refs s3, refresh := refreshAt c s3, closed := [],
        charges := [], phys := [], filler := 0, released := false, windowClosed := false, late := false, allFloor := true,
        overQp := false, forced := [], idr := idr, join := w 38 == 1, fromLead := false, settled := false }
    let last := decide (rowCount getF c s3 ≤ 1)
    modEch c (fun x => { x with rows := [r], nextPic := if last then n + 1 else n, nextRow := if last then 0 else 1 }) s3

/-- SNAP_PART (R256, R257): a whole snapshot is applied, or aborted where the digest or the layout differs. -/
def snapPartOp (m : TwinMsg) (s : State) : State :=
  let c := msgChan m
  let idle := match joinOf c s with | some .joined => false | some _ => true | none => twinRole s == 2
  if !mirrored c s || !idle || act (pgECH c) s != stMUTED then s
  else
    let old := match SMap.find c s.twn.snaps with
      | some x => if x.pic = m.picture.toNat then x.bytes else []
      | none => []
    let b := old ++ m.body
    let s1 := setAct (pgECH c) stMUTED 2 (setJoin c .joining
      (modTwn (fun t => { t with snaps := SMap.put c ⟨m.picture.toNat, b, false⟩ t.snaps }) s))
    if !snapWhole b then s1
    else if snapWord b 0 ≠ 1 ∨ snapWord b 6 ≠ configDigest c s1 then
      twinSend 0xC 0 c 0 m.picture.toNat [] (joinFails c s1)
    else applySnapshot c b s1

def execSnapPart (msg : TwinMsg) (s : State) : Host.Outcome State Fault Refusal := .next (twinIn msg (snapPartOp msg) s)

/-- the tail settles the open row of J − 1 and brings that picture's statistics (R256, R257). [DEDUCED log 57] -/
def settleTail (c : Nat) (b body : List Byte) (s0 : State) : State :=
  let back := snapWord b 11 - fieldAt 8 4 body
  let n := snapWord b 3
  let s := modEch c (fun x => { x with
    stats := statsAt 16 (fieldAt 12 4 body) body ++ x.stats.filter (fun e => decide (n ≤ e.1)) }) s0
  countTokens c back ECH.RC_ACCRUED_tokens MUX.RECV_tokens
    (addF (pgECH c) ECH.RC_HRD_tokens back (addF (pgECH c) ECH.RC_ACCOUNT_tokens back s))

/-- SNAP_COMMIT (R257, R258, R264): verified before the record time of row 1 of J it completes the join; at or after it the
deadline comes first. -/
def snapCommitOp (m : TwinMsg) (s : State) : State :=
  let c := msgChan m
  match SMap.find c s.twn.snaps with
  | none => s
  | some x =>
    if joinOf c s ≠ some .joining ∨ x.pic ≠ m.picture.toNat then s
    else if fieldAt 0 4 m.body ≠ x.bytes.length ∨ fieldAt 4 4 m.body ≠ crc crc32c x.bytes ∨ !snapWhole x.bytes ∨
        recordNs c x.pic 1 s ≤ timeNs s then joinFails c s
    else
      let s1 := settleTail c x.bytes m.body (modTwn (fun t => { t with snaps := SMap.drop c t.snaps }) s)
      if twinRole s1 = 2 then echRefresh (setAct (pgECH c) stRUNNING 0 (dropJoin c s1))
      else settleJoin c (setJoin c .settling s1)

def execSnapCommit (msg : TwinMsg) (s : State) : Host.Outcome State Fault Refusal :=
  .next (twinIn msg (snapCommitOp msg) s)

/-- SNAP_ABORT (R257). -/
def execSnapAbort (msg : TwinMsg) (s : State) : Host.Outcome State Fault Refusal :=
  .next (twinIn msg (fun s =>
    if joinOf (msgChan msg) s = some .joining then joinFails (msgChan msg) s
    else if (SMap.find (msgChan msg) s.twn.snaps).isSome then unpair (msgChan msg) s else s) s)

/-- JOIN_DEADLINE (R257, R264). -/
def joinDeadlineOp (c : Nat) (s : State) : State :=
  match SMap.find c s.twn.snaps with
  | none => s
  | some x => if joinOf c s = some .joining then joinFails c (reachNs (recordNs c x.pic 1 s) s) else s

def execJoinDeadline (ch : Fin 32) (s : State) : Host.Outcome State Fault Refusal := .next (joinDeadlineOp ch.val s)

/-! ## Patches (R249) and the ends of windows and legs (R81, R97, R206, R221) -/

/-- the page number of a source of patch messages. -/
def sourcePage (n : Nat) : Nat := if 128 ≤ n then pgDCH (n % 16) else pgING (n % 64)

/-- PATCH_REQ (R249): the lead answers from its own input; `packets` are those it holds, in the order asked. [DEDUCED log 58] -/
def patchReqOp (m : TwinMsg) (packets : List (List Byte)) (s : State) : State :=
  let src := fieldAt 0 1 m.body
  let f := fieldAt 1 1 m.body
  let n := min 8 (fieldAt 2 2 m.body)
  if twinRole s ≠ 2 then s
  else ((List.range n).foldl (fun (a : List (List Byte) × State) i =>
    let seq := fieldAt (4 + 4 * i) 4 m.body
    let g := sourceMerge src f a.2
    let head := beBytes 1 src ++ beBytes 1 f ++ beBytes 2 0 ++ beBytes 4 seq
    match a.1 with
    | p :: rest =>
      if (SMap.find (g.place (sourceBits src f) (seq % 2 ^ sourceBits src f)) g.got).isSome then
        (rest, twinSend 0x11 0 0xFF 0 0 (head ++ p) a.2)
      else (a.1, twinSend 0x12 0 0xFF 0 0 head a.2)
    | [] => ([], twinSend 0x12 0 0xFF 0 0 head a.2)) (packets, s)).2

def execPatchReq (msg : TwinMsg) (packets : List (List Byte)) (s : State) : Host.Outcome State Fault Refusal :=
  .next (twinIn msg (patchReqOp msg packets) s)

/-- the outstanding request a patch message answers. -/
def patchAsked (m : TwinMsg) (s : State) : Option (Nat × Nat) :=
  let src := fieldAt 0 1 m.body
  let f := fieldAt 1 1 m.body
  let bits := sourceBits src f
  s.twn.patches.find? (fun e => e.1 == src * 8 + f && e.2 % 2 ^ bits == fieldAt 4 4 m.body % 2 ^ bits)

def dropPatch (e : Nat × Nat) (s : State) : State :=
  modTwn (fun t => { t with patches := t.patches.filter (· != e) }) s

/-- a packet that the lead sends is stored as though it had come on a leg (R249): the first copy of its number goes on. -/
def storePatch (src f u : Nat) (pkt : MediaPkt) (s : State) : State :=
  let m := sourceMerge src f s
  if 128 ≤ src then
    let i := src % 16
    if !m.undecided (2 ^ 15) s.clk u then s
    else dchStore i pkt (setSourceMerge src f
      (m.deliver (2 ^ 15) (getF (pgDCH i) DCH.MERGE_window_us s * tickUs) s.clk 0 u 0 0 pkt.media).1 s)
  else
    let i := src % 64
    let k := flowKind f
    if !m.undecided (spanLimit k) s.clk u then s
    else
      let r := m.deliver (spanLimit k) (getF (pgING i) ING.MERGE_window_us s * tickUs) s.clk (mediaStep i k s) u (pktKey i pkt s)
        ((pkt.srds.head?.map Srd.line).getD 0) pkt.media
      ingStore i k pkt (fabNs s) (r.2.foldl (fun s e => concealMissing i k e.2 s) (setSourceMerge src f r.1 s))

/-- PATCH (R249): the packet is stored, and counted only here. -/
def patchOp (m : TwinMsg) (pkt : MediaPkt) (s : State) : State :=
  match patchAsked m s with
  | none => s
  | some e => addF pgTWN TWN.C_patch_rx 1 (storePatch (e.1 / 8) (e.1 % 8) e.2 { pkt with seq := fieldAt 4 4 m.body } (dropPatch e s))

def execPatch (msg : TwinMsg) (pkt : MediaPkt) (s : State) : Host.Outcome State Fault Refusal :=
  .next (twinIn msg (patchOp msg pkt) s)

/-- a number that the lead does not have either is missing: its samples are concealed, its pixels by the record's map (R83, R249). -/
def loseAsked (e : Nat × Nat) (s : State) : State :=
  let src := e.1 / 8
  let f := e.1 % 8
  let m := sourceMerge src f s
  let s1 := setSourceMerge src f (m.lose e.2) (dropPatch e s)
  match SMap.find e.2 m.expiry with
  | some u => if 128 ≤ src then s1 else concealMissing (src % 64) (flowKind f) u s1
  | none => s1

/-- PATCH_NONE (R249): the packet is left to the record's concealment. -/
def patchNoneOp (m : TwinMsg) (s : State) : State :=
  match patchAsked m s with
  | none => s
  | some e => addF pgTWN TWN.C_patch_none 1 (loseAsked e s)

def execPatchNone (msg : TwinMsg) (s : State) : Host.Outcome State Fault Refusal :=
  .next (twinIn msg (patchNoneOp msg) s)

/-- PATCH_WAIT_EXPIRY (R249): the row is coded without the patch. -/
def patchWaitExpiryOp (c : Nat) (s : State) : State :=
  let l := patchesOf c s
  if l.isEmpty ∨ !follows c s then s
  else
    let x := echOf c s
    let r := (dueRelease c s).map (fun r => (r.pic, r.row)) |>.getD (x.nextPic, x.nextRow)
    let s1 := reachNs (recordNs c r.1 r.2 s + ackNs s) s
    raise pgTWN 16 (addF pgTWN TWN.C_patch_late 1
      (l.foldl (fun s e => loseAsked e s) s1))

def execPatchWaitExpiry (ch : Fin 32) (s : State) : Host.Outcome State Fault Refusal := .next (patchWaitExpiryOp ch.val s)

/-- MERGE_WINDOW_EXPIRY (R81, R206, R207, R249): the window of the flow's oldest undecided number ends; on a follower the lead is asked
for it instead. [DEDUCED log 91] -/
def mergeWindowExpiryOp (f : Flow) (s : State) : State :=
  match f with
  | .ing i k =>
    (match (ingMerge i.val k s).next with
     | some (u, t) => if asksLead (pgING i.val) s then askLead i.val (kindIdx k) [u] (advanceTo t s) else ingMissing i.val k s
     | none => s)
  | .dch i =>
    (match (dchOf i.val s).merge.next with
     | some (u, t) => if asksLead (pgDCH i.val) s then askLead (0x80 + i.val) 0 [u] (advanceTo t s) else dchMissing i.val s
     | none => s)

def execMergeWindowExpiry (flow : Flow) (s : State) : Host.Outcome State Fault Refusal :=
  .next (mergeWindowExpiryOp flow s)

/-- the time a leg may stay without packets before it is lost (R97): LEGMON.leg_timeout_ms of its page. -/
def legLostOp (p timeout : Nat) (legB : Bool) (up e : Fld) (at_ : Option Nat) (s : State) : State :=
  if !isF p up s then s
  else raise p (if legB then 6 else 5) (addF p e 1 (setF p up 0 (advanceTo (at_.getD s.clk + timeout) s)))

/-- LEG_LOST (R97, R221). -/
def execLegLost (flow : Flow) (legB : Bool) (s : State) : Host.Outcome State Fault Refusal :=
  .next (match flow with
    | .ing i _ => legLostOp (pgING i.val) (getF (pgING i.val) ING.LEGMON_leg_timeout_ms s * tickMs) legB
        (if legB then ING.ST_leg_b_up else ING.ST_leg_a_up) SYNC.leg_losses
        (SMap.find legB.toNat (ingOf i.val s).legAt) s
    | .dch i => legLostOp (pgDCH i.val) (getF (pgDCH i.val) DCH.LEGMON_leg_timeout_ms s * tickMs) legB
        (if legB then DCH.ST_leg_b_up else DCH.ST_leg_a_up) SYNC.leg_losses
        (SMap.find legB.toNat (dchOf i.val s).legAt) s)

/-! ## Changing roles on purpose (R260, R261, R267) -/

/-- the notice of a yield or handover leaves (R260, R261), or is refused with EVENT bit 14. [DEDUCED log 58] -/
def startYield (mode : Nat) (ok : Bool) (s : State) : State :=
  if twinRole s ≠ 2 then s
  else if !ok then raise pgTWN 14 s
  else
    let h := timeNs s + getF pgTWN TWN.YIELD_AT_lead_us s * 1000
    setF pgTWN TWN.ST_handover_pending 1 (twinSend 8 0 0xFF 0 0 (beBytes 1 mode ++ beBytes 7 0 ++ beBytes 8 (timeForm h))
      (modTwn (fun t => { t with yield := some ⟨mode, h, true, false, s.clk⟩ }) s))

/-- a yield is accepted with the link up, equal firmware and every mirrored channel joined (R260). -/
def yieldOk (s : State) : Bool :=
  isF pgTWN TWN.ST_link_up s && isF pgTWN TWN.ST_fw_match s &&
  getF pgTWN TWN.JOINED_chans s == getF pgTWN TWN.CHANS_chans s

def yieldOp (s : State) : State := startYield 0 (yieldOk s) s

def execYield (r : Req) (s : State) : Host.Outcome State Fault Refusal :=
  .next (asWrite r pgTWN 0x110 (fun s => (.success, yieldOp s)) s)

def handoverOp (s : State) : State := startYield 1 (isF pgTWN TWN.ST_link_up s && s.twn.hbRole == 1) s

def execHandover (r : Req) (s : State) : Host.Outcome State Fault Refusal :=
  .next (asWrite r pgTWN 0x110 (fun s => (.success, handoverOp s)) s)

/-- the yield or handover is void. -/
def dropYield (s : State) : State :=
  setF pgTWN TWN.ST_handover_pending 0 (modTwn (fun t => { t with yield := none }) s)

/-- YIELD_ABORT (R267): before H. -/
def yieldAbortOp (s : State) : State :=
  match s.twn.yield with
  | some y => if timeNs s < y.at_ then dropYield s else s
  | none => s

def execYieldAbort (r : Req) (s : State) : Host.Outcome State Fault Refusal :=
  .next (asWrite r pgTWN 0x110 (fun s => (.success, yieldAbortOp s)) s)

/-- YIELD_RECEIVED (R260, R261): the follower answers with YIELD_ACK. -/
def yieldReceivedOp (m : TwinMsg) (s : State) : State :=
  if twinRole s ≠ 1 ∨ m.body.length ≠ 16 then s
  else
    setF pgTWN TWN.ST_handover_pending 1 (twinSend 9 0 0xFF 0 0 []
      (modTwn (fun t => { t with yield := some ⟨fieldAt 0 1 m.body, timeOfForm (fieldAt 8 8 m.body), false, true, s.clk⟩ }) s))

def execYieldReceived (msg : TwinMsg) (s : State) : Host.Outcome State Fault Refusal :=
  .next (twinIn msg (yieldReceivedOp msg) s)

/-- YIELD_ACK (R260): received, or refused with EVENT bit 14 once ack_us has passed. [DEDUCED log 57] -/
def execYieldAck (msg : Option TwinMsg) (s : State) : Host.Outcome State Fault Refusal :=
  .next (match s.twn.yield with
    | none => s
    | some y =>
      if !y.gives ∨ y.acked then s
      else match msg with
        | some m => twinIn m (modTwn (fun t => { t with yield := some { y with acked := true } })) s
        | none => raise pgTWN 14 (dropYield (advanceTo (y.since + ackTicks s) s)))

/-- HANDOVER_TIME (R260, R261): at H the roles change; channels that move at an IDR stay with the old lead until J. [DEDUCED log 58] -/
def handoverTimeOp (s : State) : State :=
  match s.twn.yield with
  | none => s
  | some y =>
    if !y.acked || !isF pgTWN TWN.ST_handover_pending s then s
    else
      let s1 := setF pgTWN TWN.ST_handover_pending 0 (addF pgTWN TWN.C_yields 1 (raise pgTWN 13 (reachNs y.at_ s)))
      let chans := mirroredChans s1
      let run := chans.filter (fun c => act (pgECH c) s1 == stRUNNING)
      if y.gives then
        let s2 := setRole 1 (setF pgTWN TWN.ST_solo 0 (modTwn (fun t => { t with paired := [], awaits := [] }) s1))
        if y.mode = 0 then run.foldl (fun s c => setJoin c .joined s) s2
        else modTwn (fun t => { t with leaving := run }) s2
      else
        let s2 := takeLead s1
        if y.mode = 0 then
          showJoins (modTwn (fun t => { t with
            paired := chans.filter (fun c => joinOf c s1 == some .joined),
            join := t.join.filter (fun e => !chans.contains e.1) }) s2)
        else
          chans.foldl (fun s c =>
            if [stRUNNING, stMUTED].contains (act (pgECH c) s) then muteChannel c 2 .waiting s else s)
            (setF pgTWN TWN.ST_solo 1 s2)

def execHandoverTime (s : State) : Host.Outcome State Fault Refusal := .next (handoverTimeOp s)

/-! ## TWN states (R266) -/

/-- what a newly taken STATE_CMD makes of the TWN page (R238, R266). -/
def twnCommand (s : State) : State :=
  let k := getF pgTWN HDR.CMD_state s
  let a := act pgTWN s
  if a = stFAULT ∧ k ≠ stIDLE ∧ k ≠ stOFF then s
  else if k = stRUNNING then
    if a = stRUNNING then s
    else setAct pgTWN stRUNNING 0 (setRole 0 (modTwn (fun t => { t with listenAt := s.clk, hbNext := s.clk, silent := false }) s))
  else if k = stLOW ∧ a = stRUNNING then s
  else
    let mine := if twinRole s = 1 then mirroredChans s else []
    let s1 := mine.foldl (fun s c =>
      if [stRUNNING, stMUTED, stSTARTING].contains (act (pgECH c) s) then
        setAct (pgECH c) stIDLE 0 (dropJoin c (muteChannel c 2 .waiting s)) else s) s
    let s2 := setRole 0 (setF pgTWN TWN.ST_doubt 0 (setF pgTWN TWN.ST_claim_conflict 0 (dropYield
      (modTwn (fun t => { t with paired := [], awaits := [], recs := [], checks := [], doubtAt := none, leaving := [] }) s1))))
    echRefresh (setAct pgTWN k 0 (if k = stOFF then
      clearFields pgTWN (TWN.rows.filter (fun f => f.acc == Acc.ro && f.off != 0x11C)) s2 else s2))

end Sys2Proof.Machine
end

