-- ==== Sys2Proof/Machine/StackCmds.lean ====
section
/-! DEFINITION. Sys2Proof/Machine/StackCmds.lean: the commands of the stacks (chapter 13, R355 to R371). -/

namespace Sys2Proof.Machine

/-! ## Stalls (R361, R364) -/

/-- a frame of port `i`'s buffer that is the first of its priority and can be written now. -/
def writable (i : Nat) (l : List WaitFrame) (s : State) : Option (WaitFrame × State) :=
  (l.zipIdx).findSome? (fun e =>
    if (l.take e.2).any (fun x => x.prio == e.1.prio) then none
    else
      let r := writeFrame i e.1 true s
      match r.1 with
      | .waits => none
      | _ => some (e.1, r.2))

/-- STALL_END (R361): a stalled write side is granted its cells and the write continues; its stalled cycles count up to here, and
what still waits counts from here. -/
def stallEndOp (side : Nat) (s : State) : State :=
  if side < 2 then
    let l := (ethOf side s).waiting
    match writable side l s with
    | none => s
    | some (w, s1) =>
      let rest := l.erase w
      let head := (l.head?.map (fun x => x == w)).getD false
      let s2 := if head then countStall side w.since s1 else s1
      modEth side (fun x => { x with waiting := if head then rest.map (fun y => { y with since := s.clk }) else rest }) s2
  else
    let l := SMap.get [] side s.stk.stalls
    match l.zipIdx.find? (fun e => grantCells e.1.queue e.1.pkt.cells s && !(l.take e.2).any (fun x => x.queue == e.1.queue)) with
    | none => s
    | some (x, k) =>
      let rest := if k = 0 then (l.eraseIdx k).map (fun y => { y with since := s.clk }) else l.eraseIdx k
      let s1 := commitPkt x.queue x.pkt { s with stk := { s.stk with stalls := SMap.put side rest s.stk.stalls } }
      let s2 := if k = 0 then countStall side x.since s1 else s1
      if 176 ≤ x.queue ∧ x.queue < 240 then releaseCopied ((x.queue - 176) % 32) s2 else s2

def execStallEnd (side : Fin 6) (s : State) : Host.Outcome State Fault Refusal := .next (stallEndOp side.val s)

/-- the tick since which write side `side` has stalled. -/
def stalledSince (side : Nat) (s : State) : Option Nat :=
  if side < 2 then (ethOf side s).waiting.head?.map WaitFrame.since
  else (SMap.get [] side s.stk.stalls).head?.map Stall.since

/-- WSTALL (R361, R370): the cycles of ended stalls and of the one that lasts. -/
def stallCycles (side : Nat) (s : State) : Nat :=
  (getF pgSTK (STK.WSTALL_cycles side) s + (match stalledSince side s with | some t => fabSince t s | none => 0)) % 2 ^ 32

/-- POOL_STALL_ALARM (R370): a stall has lasted stall_us; EVENT bit 3, once for a stall. -/
def execPoolStallAlarm (side : Fin 6) (s : State) : Host.Outcome State Fault Refusal :=
  match stalledSince side.val s with
  | none => .next s
  | some t =>
    if s.stk.alarmed.contains side.val then .next s
    else
      let s1 := advanceTo (t + getF pgSTK STK.POOL_ALARM_stall_us s * tickUs) s
      .next (raise pgSTK 3 { s1 with stk := { s1.stk with alarmed := side.val :: s1.stk.alarmed } })

/-! ## Reading (R362, R363, R369) -/

/-- the frame of a receive queue's packet is dropped with `reason` after its commit: on the flow's page (R34). -/
def queuedDrop (q reason : Nat) (s : State) : State :=
  match qClass q with
  | 0 => flowDrop (pgING q) (fcBase .video) reason (subF (pgING q) (FCNT.inflight (fcBase .video)) 1 s)
  | 1 => flowDrop (pgING (q - 64)) (fcBase .audio) reason (subF (pgING (q - 64)) (FCNT.inflight (fcBase .audio)) 1 s)
  | 2 => flowDrop (pgING (q - 128)) (fcBase .anc) reason (subF (pgING (q - 128)) (FCNT.inflight (fcBase .anc)) 1 s)
  | 3 => flowDrop (pgDCH (q - 160)) (fcBase .video) reason (subF (pgDCH (q - 160)) (FCNT.inflight (fcBase .video)) 1 s)
  | 6 =>
    let i := (q - 272) / 8
    if (q - 272) % 8 < 2 then ethDropped i reason (subF (pgETH i) ETH.INFLIGHT_frames 1 s) else s
  | _ => s

/-- a transmit queue's packet that is not sent counts in its leg's LEG_DROP (R364, R368). -/
def legDropPacket (q : Nat) (s : State) : State :=
  match qClass q with
  | 4 => legDrops (pgOUT ((q - 176) % 32)) ((q - 176) / 32) 1 s
  | 5 => legDrops (pgSND ((q - 240) % 16)) ((q - 240) / 16) 1 s
  | _ => s

/-- the read side of an owner works only while the owner runs (R369). -/
def readerRuns (q : Nat) (s : State) : Bool :=
  match qClass q with
  | 0 | 1 | 2 | 3 => (queueOwner q).any (fun p => act p s == stRUNNING)
  | _ => true

/-- POP (R362): the head packet is read and its cells are freed: delivered to the input ring or the decode buffer, sent by
a port, or taken by the Harlet engine or firmware. -/
def popOp (q : Nat) (s : State) : State :=
  if !readerRuns q s then s
  else
    match qClass q with
    | 4 =>
      let c := (q - 176) % 32
      let leg := (q - 176) / 32
      if outDue leg c s ∧ portUp leg s ∧ !legHeld (pgOUT c) leg s then (legPop c leg s).getD s else s
    | 5 => sndPop ((q - 240) % 16) ((q - 240) / 16) s
    | 6 =>
      let i := (q - 272) / 8
      let k := (q - 272) % 8
      if k = 3 ∨ k = 4 then (if portUp i s then (sendControl i k s).getD s else s)
      else match popPkt q s with
        | none => s
        | some (_, s1) => if k < 2 then ethDelivered i (subF (pgETH i) ETH.INFLIGHT_frames 1 s1) else s1
    | _ =>
      match popPkt q s with
      | none => s
      | some (x, s1) =>
        match x.media with
        | none => s1
        | some (pkt, _, stamp) =>
          match qClass q with
          | 0 => ingDeliver q .video pkt stamp s1
          | 1 => ingDeliver (q - 64) .audio pkt stamp s1
          | 2 => ingDeliver (q - 128) .anc pkt stamp s1
          | 3 => dchDeliver (q - 160) pkt s1
          | _ => s1

def execPop (queue : Fin 1024) (s : State) : Host.Outcome State Fault Refusal := .next (popOp queue.val s)

/-! ## Watermarks (R365 to R367) -/

/-- the QFC pin of a queue, if it is mapped to one (R367). -/
def qfcPin (q : Nat) (s : State) : Option Nat := if (queueOf q s).qfc = 0 then none else some ((queueOf q s).qfc - 1)

/-- a queue mapped to the pin is congested. [DEDUCED log 86] -/
def pinWanted (n : Nat) (s : State) : Bool :=
  (knownQueues s).any (fun q => (queueOf q s).congested && qfcPin q s == some n)

/-- the level that pin QFCn drives: active or not, with the polarity of QFC_CFG (R367). -/
def qfcLevel (n : Nat) (s : State) : Bool :=
  (getF pgSTK STK.ST_qfc s).testBit n == (getF pgSTK STK.QFC_CFG_pol s).testBit n

/-- the pin drives its level. -/
def drivePin (n : Nat) (s : State) : State := emit .qfc pgSTK [n, (qfcLevel n s).toNat] s

/-- the pin's level follows its queues, but not before its minimum time (R367). -/
def settlePin (n : Nat) (s : State) : State :=
  let v := getF pgSTK STK.ST_qfc s
  let on := v.testBit n
  if pinWanted n s then
    if on then s
    else drivePin n { setF pgSTK STK.ST_qfc (v + 2 ^ n) s with stk := { s.stk with qfcAt := SMap.put n s.clk s.stk.qfcAt } }
  else if on ∧ SMap.get 0 n s.stk.qfcAt * 5 + getF pgSTK STK.QFC_CFG_min_ns s ≤ s.clk * 5 then
    drivePin n (setF pgSTK STK.ST_qfc (v - 2 ^ n) s)
  else s

/-- every consumer of congestion follows: both ports' pause and the pins. -/
def settleCongestion (s : State) : State :=
  (List.range 4).foldl (fun s n => settlePin n s) (settleXoff 1 (settleXoff 0 s))

/-- QUEUE_CONGESTED (R365): the count reached the high watermark. -/
def execQueueCongested (queue : Fin 1024) (s : State) : Host.Outcome State Fault Refusal :=
  let q := queue.val
  if overHigh q s && !(queueOf q s).congested then
    .next (settleCongestion (raise pgSTK 0 (modQueue q (fun x => { x with congested := true }) s)))
  else .next s

/-- QUEUE_RELEASED (R365): the count fell below the low watermark. -/
def execQueueReleased (queue : Fin 1024) (s : State) : Host.Outcome State Fault Refusal :=
  let q := queue.val
  if underLow q s && (queueOf q s).congested then
    .next (settleCongestion (raise pgSTK 1 (modQueue q (fun x => { x with congested := false }) s)))
  else .next s

/-- QFC_MIN_HOLD_EXPIRY (R367): min_ns after the pin became active. -/
def execQfcMinHoldExpiry (pin : Fin 4) (s : State) : Host.Outcome State Fault Refusal :=
  match SMap.find pin.val s.stk.qfcAt with
  | none => .next s
  | some t => .next (settlePin pin.val (advanceTo (t + (getF pgSTK STK.QFC_CFG_min_ns s + 4) / 5) s))

/-! ## Flush (R364) -/

/-- every packet of a queue goes: its cells return to the free list and its fate is counted. -/
def flushPackets (q : Nat) : Nat → State → State
  | 0, s => s
  | fuel + 1, s =>
    match popPkt q s with
    | none => s
    | some (_, s1) =>
      let s2 := subF pgSTK STK.POPS_packets 1 s1
      let stopped := (queueOwner q).any (fun p => act p s != stRUNNING)
      let s3 := if q < 176 ∨ qClass q = 6 then queuedDrop q 7 s2 else if stopped then s2 else legDropPacket q s2
      flushPackets q fuel s3

/-- QUEUE_FLUSH (R364): a disabled queue's packets go, 8 cells in a FAB cycle. -/
def execQueueFlush (queue : Fin 1024) (s : State) : Host.Outcome State Fault Refusal :=
  let q := queue.val
  if queueEnabled q s ∨ (queueOf q s).pkts = [] then .next s
  else .next (flushPackets q (queueOf q s).pkts.length (passTicks (((queueOf q s).count + 47) / 48) s))

/-! ## Memory errors (R368) -/

/-- every page with an enabled queue goes to FAULT, reason 0x05. -/
def faultOwners (s : State) : State :=
  (((List.range 288).filter (fun q => queueEnabled q s)).filterMap queueOwner).dedup.foldl (fun s p => toFault p 5 s) s

/-- STACK_ECC_ERROR (R368). [DEDUCED log 69] -/
def stackErrorOp (e : StackError) (s : State) : State :=
  match e with
  | .corrected => raise pgSTK 4 (addF pgSTK STK.ECC_CORR_count 1 s)
  | .frameBytes q =>
    match popPkt q.val s with
    | none => s
    | some (_, s1) => if q.val < 176 ∨ qClass q.val = 6 then queuedDrop q.val 9 s1 else legDropPacket q.val s1
  | .pointer q reach =>
    let x := queueOf q.val s
    let gone := x.pkts.drop reach
    let cells := (gone.map StkPkt.cells).sum
    let s1 := setQueue q.val { x with frozen := true, pkts := x.pkts.take reach, count := x.count - cells } s
    let s2 := addF pgSTK STK.LOST_cells cells (subF pgSTK STK.HELD_cells cells s1)
    let s3 := gone.foldl (fun s _ => if q.val < 176 ∨ qClass q.val = 6 then queuedDrop q.val 9 s else legDropPacket q.val s) s2
    raise pgSTK 5 (match queueOwner q.val with | some p => toFault p 8 s3 | none => s3)
  | .freeList => raise pgSTK 6 (faultOwners (toFault pgSTK 8 s))

def execStackEccError (e : StackError) (s : State) : Host.Outcome State Fault Refusal := .next (stackErrorOp e s)

/-- what a newly taken STATE_CMD makes of STK: a free-list fault is left by a warm or cold reset only (R368). -/
def stkCommand (s : State) : State :=
  if act pgSTK s = stFAULT ∧ getF pgSTK HDR.ACT_reason s = 8 then s else plainCommand pgSTK s

/-- STK.CMD.rebuild (R368): refused while the owner of a frozen queue is RUNNING. [DEDUCED log 69] -/
def rebuildOp (s : State) : Status × State :=
  if (knownQueues s).any (fun q => (queueOf q s).frozen && (queueOwner q).any (fun p => act p s == stRUNNING)) then
    (.refusedInService, s)
  else (.success, { s with stk := { s.stk with rebuilding := true } })

/-- REBUILD (R368). -/
def execRebuild (r : Req) (s : State) : Host.Outcome State Fault Refusal := .next (asWrite r pgSTK 0x140 rebuildOp s)

/-- REBUILD_DONE (R368): unreachable cells return, queues thaw, LOST clears. -/
def execRebuildDone (s : State) : Host.Outcome State Fault Refusal :=
  if s.stk.rebuilding then
    let s1 := { s with stk := { s.stk with
      rebuilding := false, queues := s.stk.queues.map (fun e => (e.1, { e.2 with frozen := false })) } }
    .next (setF pgSTK STK.LOST_cells 0 (addF pgSTK STK.FREE_cells (getF pgSTK STK.LOST_cells s) s1))
  else .next s

/-! ## Settings (R359, R370) -/

/-- the sum of mins that R359 allows. -/
def minLimit : Nat := 245752

/-- controllers may not write firmware queues' settings (R357). -/
def queueWritable (r : Req) (q : Nat) : Bool := decide (q < 288) || (match r.origin with | .firmware => true | _ => false)

/-- the settings of a queue hold R359. -/
def queueSettingsOk (q : Nat) (x : QueueS) (s : State) : Bool :=
  decide (x.min ≤ x.max) && decide (1 ≤ x.max) && decide (x.max ≤ minLimit) && decide (1 ≤ x.low) && decide (x.low < x.high) &&
  decide (x.high ≤ x.max) && decide (minSum (setQueue q x s) ≤ minLimit)

/-- STK.QCFG written with `v` (R359): quotas of the queue in QSEL; a changed max resets its watermarks. [DEDUCED log 69] -/
def qcfgOp (r : Req) (v : Nat) (s : State) : Status × State :=
  let q := getF pgSTK STK.QSEL_queue s
  let x := queueOf q s
  let m := bitsOf 0 18 v
  let hi := if m = x.max then x.high else 3 * m / 4
  let lo := if m = x.max then x.low else m / 2
  let y := { x with min := bitsOf 18 13 v, max := m, high := hi, low := lo, enabledFw := x.enabledFw || decide (288 ≤ q) }
  if !queueWritable r q then (.accessDenied, s)
  else if !queueSettingsOk q y s then (.invalidValue, s)
  else (.success, setQueue q y s)

def execQcfgWrite (r : Req) (value : Word) (s : State) : Host.Outcome State Fault Refusal :=
  .next (asWrite r pgSTK 0x120 (qcfgOp r value.toNat) s)

/-- STK.QWM written with `v`, in units of 4 cells (R359, R370). -/
def qwmOp (r : Req) (v : Nat) (s : State) : Status × State :=
  let q := getF pgSTK STK.QSEL_queue s
  let y := { queueOf q s with high := 4 * bitsOf 16 16 v, low := 4 * bitsOf 0 16 v }
  if !queueWritable r q then (.accessDenied, s)
  else if !queueSettingsOk q y s then (.invalidValue, s)
  else (.success, setQueue q y s)

def execQwmWrite (r : Req) (value : Word) (s : State) : Host.Outcome State Fault Refusal :=
  .next (asWrite r pgSTK 0x124 (qwmOp r value.toNat) s)

/-- STK.QMAP written with `v`: priorities and pin of the queue in QSEL (R366, R367). -/
def qmapOp (r : Req) (v : Nat) (s : State) : Status × State :=
  let q := getF pgSTK STK.QSEL_queue s
  if !queueWritable r q then (.accessDenied, s)
  else if 4 < bitsOf 20 3 v then (.invalidValue, s)
  else (.success, settleCongestion (modQueue q (fun x => { x with prio := bitsOf 24 8 v, qfc := bitsOf 20 3 v }) s))

/-- QPEAK.clear (R370): the peak of the queue in QSEL becomes its count. -/
def qpeakClearOp (s : State) : State := modQueue (getF pgSTK STK.QSEL_queue s) (fun x => { x with peak := x.count }) s

/-- QPEAK_CLEAR (R370). -/
def execQpeakClear (r : Req) (s : State) : Host.Outcome State Fault Refusal :=
  .next (asWrite r pgSTK 0x134 (fun s => (.success, qpeakClearOp s)) s)

/-- FREE_LOW_READ (R370). -/
def execFreeLowRead (r : Req) (s : State) : Host.Outcome State Fault Refusal :=
  .next (asRead r pgSTK 0x114 (fun s =>
    (getF pgSTK STK.FREE_LOW_cells s, setF pgSTK STK.FREE_LOW_cells (freeCells s) s)) s)

/-! ## Start-up (R369) -/

/-- STACK_INIT_DONE (R369). -/
def execStackInitDone (s : State) : Host.Outcome State Fault Refusal :=
  if act pgSTK s = stSTARTING then .next (setF pgSTK STK.ST_ready 1 (setAct pgSTK stRUNNING 0 s)) else .next s

end Sys2Proof.Machine
end

