-- ==== Sys2Proof/Machine/Commit.lean ====
section
/-! DEFINITION. Sys2Proof/Machine/Commit.lean: CFG_GEN.commit (R24, R68, R69): which commits a page refuses, which
combinations are invalid, and when and how the unit takes the generation. -/

namespace Sys2Proof.Machine

/-! ## Refusals (R24) -/

/-- The new STATE_CMD in the shadow is refused (R24, R305, R369, R404): TEST and OFF for a unit in service, IDLE and OFF for stacks
with an enabled queue and for an HBM stack that holds a buffer, TEST, IDLE and OFF for a lane whose owner is RUNNING. [DEDUCED log 21] -/
def commitRefused (p : Nat) (s : State) : Bool :=
  let c := getSh p HDR.CMD_state s
  let out := c == stIDLE || c == stOFF
  match blockOf p with
  | none => false
  | some b =>
    b.hasState && c != cmdOf p s && (
      (act p s == stRUNNING && (c == stTEST || c == stOFF)) ||
      (b == .stk && out && (knownQueues s).any (fun q => queueEnabled q s)) ||
      (b == .hbm && out && hbmBusy (p - Block.first .hbm) s) ||
      (b == .lne && (out || c == stTEST) && act (laneOwner (p - Block.first .lne)) s == stRUNNING))

/-! ## Combinations (R69 and the chapters' commit checks) -/

/-- every shadow lies in its field's range (R511). [DEDUCED log 8] -/
def rangesOk (p : Nat) (s : State) : Bool := (rwcRows p).all (fun f => f.rng.ok (getSh p f s))

/-- the level codes of levels 4.1 to 6.2 (R111): 30 times the level in HEVC, 16 × major + 3 × minor in VVC. [PRESUMED log 24] -/
def levelCodes (vvc : Bool) : List Nat :=
  if vvc then [67, 80, 83, 86, 96, 99, 102] else [123, 150, 153, 156, 180, 183, 186]

/-- the limits of R112, `v` being the state with the shadows active. [DESIGN CHOICE log 23; PRESUMED log 24] -/
def levelOk (c : Nat) (v : State) : Bool :=
  let p := pgECH c
  let codec := getF p ECH.FMT_codec v
  let lim := Config.levelLimit codec (getF p ECH.FMT_tier v) (getF p ECH.FMT_level_idc v)
  let nal := Config.nalFactor codec (getF p ECH.FMT_chroma v)
  let px := getF p ECH.DIM_width v * codedLines getF c v
  let per := echPeriod getF c v
  decide (px ≤ lim 0) && (!echHasPeriod getF c v || decide (px * per.2 ≤ lim 1 * per.1)) &&
  decide (getF p ECH.RC_RATE_rate_kbps v * 1000 ≤ nal * lim 2) &&
  decide (getF p ECH.RC_CPB_cpb_tokens v * 8 ≤ nal * lim 3) &&
  decide (rowCount getF c v * colCount getF c v ≤ lim 4) && decide (colCount getF c v ≤ lim 5)

/-- The source of channel `c` fits the coded format (R98, R114, R119, R129). [DEDUCED log 25] -/
def sourceOk (c : Nat) (v : State) : Bool :=
  let p := pgECH c
  let n := getF p ECH.SRC_src v
  let kind := getF p ECH.SRC_src_kind v
  let w := getF p ECH.DIM_width v
  let h := getF p ECH.DIM_height v
  let root := echRoot getF c v
  let f := sourceFormat getF root v
  let field := isF p ECH.FMT_field v
  let sampling := if getF p ECH.FMT_chroma v = 0 then 3 else 0
  if kind = 1 then
    let pg := pgCND (cndUnit n)
    let oh := getF pg (CND.ODIM_height (cndOut n)) v
    isF pg (CND.OCTL_en (cndOut n)) v && w == getF pg (CND.ODIM_width (cndOut n)) v &&
      (h == oh || (field && h == 2 * oh)) && field == f.interlaced
  else if kind = 0 then
    let vui := if f.bt2020 = some true then 9 else 1
    w == f.width && h == f.height && field == f.interlaced && f.sampling == sampling && f.depth == getF p ECH.FMT_depth10 v &&
      getF p ECH.VUI_primaries v == vui && getF p ECH.VUI_matrix v == vui &&
      (!isF p ECH.LAT_frame_plus v || decide (2 ≤ getF root ING.RING_depth v))
  else
    decide (n < 16) && w == f.width && h == f.height && field == f.interlaced && f.sampling == sampling &&
      f.depth == getF p ECH.FMT_depth10 v &&
      (!isF p ECH.LAT_frame_plus v || decide (2 ≤ getF root DCH.BUF_hold v))

/-- R122, R123: shelf, method and period. -/
def predictionOk (p : Nat) (v : State) : Bool :=
  let m := getF p ECH.REFRESH_method v
  let per := getF p ECH.REFRESH_period v
  decide (getF p ECH.PRED_active_refs v ≤ getF p ECH.PRED_shelf v) &&
  (m == 0 || (m == (if isF p ECH.FMT_codec v then 1 else 2) && decide (2 ≤ per) && decide (per ≤ 1024)))

/-- what a RUNNING channel keeps (R119, R155). -/
def echFrozen : List Fld :=
  [ECH.SRC_src_kind, ECH.SRC_src, ECH.SRC_unavail_policy, ECH.FMT_codec, ECH.FMT_chroma, ECH.FMT_depth10, ECH.FMT_field,
   ECH.FMT_ctu128, ECH.FMT_tier, ECH.FMT_level_idc, ECH.DIM_height, ECH.DIM_width, ECH.ALLOC_dedicated, ECH.ALLOC_n_cols,
   ECH.ALLOC_core, ECH.LAT_frame_plus, ECH.RC_MODE_in_group, ECH.RC_MODE_group]

/-- An ECH commit (R111 to R119, R155, R160, R161, R512). -/
def echValid (c : Nat) (s : State) : Bool :=
  let p := pgECH c
  let v := shadowed p (inView s)
  let vvc := isF p ECH.FMT_codec v
  let placed := fun d => if d = c then willPlace p s else echPlaced d s
  (levelCodes vvc).contains (getF p ECH.FMT_level_idc v) && (vvc || !isF p ECH.FMT_ctu128 v) &&
  levelOk c v && sourceOk c v && predictionOk p v && rateValid c v &&
  (!isMember c v || groupValid (groupOf c v) v) &&
  (!willPlace p s || (coresFit (fun _ => getF) ((List.range 32).filter placed) v &&
    decide (placedRate placed v ≤ 24000000))) &&
  (act p s != stRUNNING || unchanged p echFrozen s)

/-- what a RUNNING output keeps (R198). -/
def outFrozen : List Fld :=
  [OUT.FORM_form, OUT.RING_size_mib, OUT.SSRC_ssrc, OUT.SEQ_seq_init, OUT.TS_PID_pmt_pid, OUT.TS_PID_video_pid]

/-- the legs that a page's enabled flows use: leg A port A, leg B port B, none faster than a subport (R315). -/
def legsFit (p bps : Nat) (v : State) : Bool :=
  (!isF p (OLEG.en 0x180) v || decide (bps ≤ subportRate 0 v * 10 ^ 9)) &&
  (!isF p (OLEG.en 0x1C0) v || decide (bps ≤ subportRate 1 v * 10 ^ 9))

/-- An OUT commit (R181, R188, R192, R198, R315). [DEDUCED log 54] -/
def outValid (c : Nat) (s : State) : Bool :=
  let p := pgOUT c
  let e := pgECH c
  let v := shadowed p (inView s)
  let form := getF p OUT.FORM_form v
  let pairs := getF p OUT.TS_AUD_pairs v
  let root := echRoot getF c v
  form != 3 &&
  decide (floorBound (sliceCtus getF c v) 0 + 1024 + 64 ≤ getF p OUT.RING_size_mib v * 2 ^ 20 / colCount getF c v) &&
  (form != 2 || (isF e ECH.RC_MODE_cbr v && isF p OUT.PACE_linear v)) &&
  (pairs == 0 || (blockOf root == some .ing && decide (2 * pairs ≤ getF root ING.AFMT_channels v))) &&
  legsFit p (getF e ECH.RC_RATE_rate_kbps v * 1000) v &&
  (act p s != stRUNNING || unchanged p outFrozen s)

/-- A TIM commit (R283, R285): phases and widths against the periods they belong to. -/
def timValid (s : State) : Bool :=
  let v := shadowed pgTIM s
  (List.range 4).all (fun f =>
    let per := periodOf (getF pgTIM (TIM.FCLK_rate f) v)
    decide ((ofTwos 32 (getF pgTIM (TIM.FCLK_phase_ns f) v)).natAbs * per.2 < per.1 * 10 ^ 9)) &&
  (List.range 2).all (fun n =>
    let per := periodOf (getF pgTIM (TIM.FCLK_rate (getF pgTIM (TIM.PLS_fclk n) v)) v)
    let w := getF pgTIM (TIM.PLS_width_ns n) v
    if getF pgTIM (TIM.PLS_mode n) v = 0 then
      decide (w < 10 ^ 9) && decide ((ofTwos 32 (getF pgTIM (TIM.PLS_phase_ns n) v)).natAbs < 500000000)
    else decide (w * per.2 < getF pgTIM (TIM.PLS_div n) v * per.1 * 10 ^ 9))

/-- A TWN commit (R233, R266, R267): a claim number, link and claim as they are while RUNNING, no mux group split, no
channel that works added or removed. -/
def twnValid (s : State) : Bool :=
  let now := getCm pgTWN TWN.CHANS_chans s
  let new := getSh pgTWN TWN.CHANS_chans s
  (getSh pgTWN HDR.CMD_state s != stRUNNING || getSh pgTWN TWN.CFG_claim s != 0) &&
  (act pgTWN s != stRUNNING || unchanged pgTWN [TWN.CFG_link, TWN.CFG_claim] s) &&
  (now == new ||
    ((List.range 32).all (fun c => now.testBit c == new.testBit c ||
      [stIDLE, stOFF].contains (act (pgECH c) s)) &&
    (List.range 8).all (fun g =>
      let l := muxMembers g (inView s)
      l.all (fun c => new.testBit c) || l.all (fun c => !new.testBit c))))

/-- an HLT commit (R452). -/
def hltValid (s : State) : Bool :=
  decide (getSh pgHLT HLT.GOV_t2 s < getSh pgHLT HLT.GOV_t1 s) && decide (getSh pgHLT HLT.GOV_t1 s < getSh pgHLT HLT.GOV_t0 s) &&
  decide (getSh pgHLT HLT.GOV_t0 s < 110)

/-- a channel that the commit places may not use a decode core in TEST (R222, R459). -/
def decCoresFree (i : Nat) (s : State) : Bool :=
  !willPlace (pgDCH i) s || (dchCores getSh i s).all (fun k => act (pgDEC k) s != stTEST)

/-- the min that the ING commit gives its video queue (R357). -/
def videoMin (i : Nat) (v : State) : Nat :=
  let p := pgING i
  let f := sourceFormat getF p v
  max 2048 (Config.typeWCells f.width f.height f.sampling f.depth f.rate)

/-- the commit raises the video queue's min where the format needs it (R357). -/
def raiseVideoMin (i : Nat) (s : State) : State :=
  if isF (pgING i) ING.VFMT_v_en s then
    modQueue (qVideo i) (fun x => { x with min := max x.min (videoMin i s) }) s
  else s

/-- the filters of ports A and B hold the groups of the page's blocks (R320). -/
def filtersFit (v : State) : Bool := [0, 1].all (fun i => decide (filterUsed i v ≤ filterSize i))

/-- the queues that the page enables keep the sum of R359. -/
def queuesFit (p : Nat) (v : State) : Bool :=
  match blockOf p with
  | some .ing => decide (minSum (raiseVideoMin (p - Block.first .ing) v) ≤ minLimit)
  | some .dch | some .out | some .snd => decide (minSum v ≤ minLimit)
  | _ => true

/-- What a commit of a source or conditioning page may not break elsewhere (R100, R160, R225): the load of the conditioning units, equal
periods in each mux group, the sum of the senders' rates. -/
def readersFit (v : State) : Bool :=
  loadsFit v && (List.range 8).all (fun g => groupValid g v) && sendersFit (fun n => sndEnabled n v) v

/-- the chapter's own checks. -/
def blockValid (p : Nat) (s : State) : Bool :=
  let v := shadowed p (inView s)
  match blockOf p with
  | some .ing => ingValid (p - Block.first .ing) s && readersFit v
  | some .cnd => cndValid (p - Block.first .cnd) v && readersFit v
  | some .ech => echValid (p - Block.first .ech) s
  | some .mux => muxValid (p - Block.first .mux) s
  | some .out => outValid (p - Block.first .out) s
  | some .dch => dchValid (p - Block.first .dch) s && decCoresFree (p - Block.first .dch) s && readersFit v
  | some .snd => sndValid (p - Block.first .snd) s &&
      legsFit p (sndRateBps (p - Block.first .snd) v) v
  | some .eth => ethValid (p - Block.first .eth) s
  | some .lne => laneValid (p - Block.first .lne) s
  | some .izl => izlValid (p - Block.first .izl) s
  | some .twn => twnValid s
  | some .tim => timValid s
  | some .hbm => hbmValid (p - Block.first .hbm) s
  | some .hlt => hltValid s
  | _ => true

/-- the commit needs a buffer placed: none is placed, or its size changed; an OFF page holds none. [DEDUCED log 25] -/
def placesBuffer (p : Nat) (s : State) : Bool :=
  getSh p HDR.CMD_state s != stOFF &&
    ((SMap.find p s.bufs).isNone || act p s == stOFF || bufferNeed getSh p s != bufferNeed getCm p s)

/-- the commit is valid (R69), but for the filters of R320, which also raise the port's event. [DEDUCED log 8] -/
def commitValid (p : Nat) (s : State) : Bool :=
  rangesOk p s && blockValid p s && queuesFit p (shadowed p (inView s)) && (!placesBuffer p s || canPlace p s)

/-! ## Taking a generation (R69) -/

/-- The unit takes the committed generation now. [DEDUCED log 22] -/
def takeNow (p : Nat) (s : State) : State :=
  match blockOf p with
  | some .ing => takeWith p (ingCommand (p - Block.first .ing)) s
  | some .dch => setStrict (p - Block.first .dch) (takeWith p (dchCommand (p - Block.first .dch)) s)
  | some .cnd => takeIdlePaths (p - Block.first .cnd) s
  | some .ech => (takeEchGen (p - Block.first .ech) s).2
  | some .mux => takeWith p (muxCommand (p - Block.first .mux)) s
  | some .out => outCommand (p - Block.first .out) (takeGen p s)
  | some .snd => takeWith p (sndCommand (p - Block.first .snd)) s
  | some .enc => takeWith p (encCommand (p - Block.first .enc)) s
  | some .dec => decRefreshAll (takeWith p (followCommand p) s)
  | some .twn =>
    let s1 := takeGen p s
    twnCommand (if getF p TWN.CFG_claim s1 = 0 then s1 else setF pgDEV DEV.ST_rws_valid 1 s1)
  | some .tim => settlePulses s (takeWith p timCommand s)
  | some .eth => ethTake (p - Block.first .eth) s
  | some .izl => izlCommand (p - Block.first .izl) (takeGen p s)
  | some .lne => laneGen (p - Block.first .lne) s
  | some .hbm => takeHbm (p - Block.first .hbm) s
  | some .chk => chkSettle (p - Block.first .chk) (takeWith p (followCommand p) s)
  | some .cir => if act p s = stFAULT then takeGen p s else takeWith p (plainCommand p) s
  | some .stk => takeWith p stkCommand s
  | some .hlt => takeWith p (plainCommand p) s
  | some .rcl | some .dev | some .hap | some .pwr | some .fwl | none => takeGen p s

/-- The unit has a boundary at which it takes generations, and it is not there: a unit that carries work (R14, R69), one in
STOPPING, MUTED or RESET, and KEEP changes of an HBM page (R398). [DEDUCED log 22] -/
def waitsBoundary (p : Nat) (s : State) : Bool :=
  let a := act p s
  match blockOf p with
  | none => false
  | some b =>
    if (b.hasState && a == stSTOPPING) || a == stRESET then true
    else match b with
      | .ing | .dch | .out | .snd | .izl | .lne | .eth | .tim | .hlt => a == stRUNNING
      | .ech => a == stRUNNING || a == stMUTED
      | .mux => a == stRUNNING && ((muxRef (p - Block.first .mux) s).isSome ||
          (isF p MUX.CFG_remote s && muxHome (p - Block.first .mux) s))
      | .rcl => (List.range 32).any (fun c => act (pgECH c) s == stRUNNING)
      | .hbm => !(keepChanges (p - Block.first .hbm) s).isEmpty
      | _ => false

/-- A gated unit that the commit puts to use wakes first and takes the generation then (R69, R479). [DEDUCED log 22] -/
def waitsWake (p : Nat) (s : State) : Bool :=
  match unitOfPage p with
  | some (c, u) => unitState c u s == 1 && !engineGates c u s
  | none => false

/-- a gated unit that stays gated takes the values and stays in LOW_POWER. [DEDUCED log 22] -/
def staysGated (p : Nat) (s : State) : Bool :=
  match unitOfPage p with
  | some (c, u) => unitState c u s == 1 && engineGates c u s
  | none => false

/-- ROWINFO.rows, RC_FPIC_I and RC_FPIC_P follow the committed FMT and DIM (R147, R153). -/
def showRows (c : Nat) (s : State) : State :=
  setF (pgECH c) ECH.ROWINFO_rows (rowCount getCm c s) (setF (pgECH c) ECH.RC_FPIC_I_tokens (floorPicture getCm c true s)
    (setF (pgECH c) ECH.RC_FPIC_P_tokens (floorPicture getCm c false s) s))

/-- what a valid commit does once its shadows are committed. [DEDUCED log 22] -/
def afterCommit (p : Nat) (s : State) : State :=
  let s0 := match blockOf p with
    | some .ech => showRows (p - Block.first .ech) s
    | some .ing => raiseVideoMin (p - Block.first .ing) (shadowed p s) |> fun v => { s with stk := v.stk }
    | some .cnd => modCnd (p - Block.first .cnd) (fun x => { x with taken := [] }) s
    | _ => s
  let s1 :=
    if staysGated p s0 then takeGen p s0
    else if waitsWake p s0 || waitsBoundary p s0 then s0
    else takeNow p s0
  let s2 := match blockOf p with
    | some .cnd | some .ech | some .snd | some .ing | some .dch => cndRefreshAll s1
    | _ => s1
  settleEngines s2

/-- CFG_GEN.commit (R24, R68, R69). -/
def commitOp (p : Nat) (s : State) : Status × State :=
  if commitRefused p s then (.refusedInService, setF p HDR.ACT_reason 0x0C s)
  else if !commitValid p s then (.invalidValue, s)
  else
    let v := shadowed p (inView s)
    let filters := match blockOf p with | some .ing | some .dch => true | _ => false
    if filters && !filtersFit v then
      (.invalidValue, [0, 1].foldl (fun s i => raiseIf (decide (filterSize i < filterUsed i v)) (pgETH i) 8 s) s)
    else
      let s1 := if placesBuffer p s then (placeBuffer getSh p s).getD s else s
      (.success, afterCommit p (commitShadows p s1))

end Sys2Proof.Machine
end

