-- ==== Sys2Proof/Machine/Reset.lean ====
section
/-! DEFINITION. Sys2Proof/Machine/Reset.lean: what each kind of reset loses and keeps (R58, R65, R115, R308, R386, R467, R482,
R483, R485). -/

namespace Sys2Proof.Machine

/-! ## The main domain -/

/-- the page of a register key. -/
def keyPage (k : Nat) : Nat := k / 2 ^ 20

/-- the main-domain keys that every reset but a standby or cold one keeps: TWN.EPOCH and the claim number (R483), and the suspect
marks of the encode cores (R145, R447). [DEDUCED log 84] -/
def retentionKeys : List Nat :=
  [TWN.EPOCH_epoch.key pgTWN, TWN.CFG_claim.key pgTWN] ++ (List.range 17).map (fun q => ENC.ST_suspect.key (pgENC q))

/-- the entries of a register map that a reset of the main domain keeps. -/
def keepStandby (m : SMap Nat) : SMap Nat :=
  m.filter (fun e =>
    (standbyPage (keyPage e.1) && !hltMain (keyPage e.1) (e.1 % 2 ^ 20 / 8)) || retentionKeys.contains e.1)

/-- what the claim line has heard, which lives in the standby domain (R11, R236). [DEDUCED log 84] -/
def twinStandby (t : TwnS) : TwnS :=
  { TwnS.reset with claimAt := t.claimAt, notLead := t.notLead, wasLead := t.wasLead, heardEpoch := t.heardEpoch }

/-- the entries of the one key. [DEDUCED log 84] -/
def keepKey {α : Type} (k : Nat) (m : SMap α) : SMap α := m.filter (fun e => e.1 == k)

/-- the picture entries of every channel page are withdrawn, since every channel leaves RUNNING and MUTED (R58). -/
def withdrawPictures (s : State) : State :=
  ((s.hap.wats.filter (fun e => e.2.picture)).map Prod.fst).foldl (fun s k => watWithdraw k s) s

/-- every entry is discarded without completion (R58). -/
def discardWats (s : State) : State := setWats [] s

/-- An INSTALL that the loss of its staging stops (R432): it completes with unit-unavailable, and a main image half written is
marked invalid. -/
def loseStaging (s : State) : State :=
  match s.fwl.installing with
  | some i =>
    if 3 < i.kind then s
    else
      let f := { s.fwl with
        installing := none, staging := none,
        image := if i.kind = 1 then s.fwl.image.map (fun x => { x with valid := false }) else s.fwl.image }
      let s1 := setF pgFWL FWL.ST_installing 0 (setF pgFWL FWL.ST_staged_ok 0 (setF pgFWL FWL.LOCK_op 0 { s with fwl := f }))
      match i.req with
      | some r => lateReply r 0x89 i.addr .unavailable [] s1
      | none => s1
  | none =>
    match s.fwl.staging with
    | some x => if 3 < x.kind then s else setF pgFWL FWL.ST_staged_ok 0 { s with fwl := { s.fwl with staging := none } }
    | none => s

/-- A reset takes page `p` from the state it has in `old` to RESET, a change like any other: counted since cold reset, the state
before kept, the age restarted (R26, R28). [DEDUCED log 84] -/
def noteReset (old : State) (p : Nat) (s : State) : State :=
  if act p old = stRESET then
    setF p HDR.ACT_changes (getF p HDR.ACT_changes old) (setF p HDR.ACT_prev (getF p HDR.ACT_prev old)
      { s with actAt := SMap.put p (SMap.get old.pwr.resetAt p old.actAt) s.actAt })
  else
    setF p HDR.ACT_changes (getF p HDR.ACT_changes old + 1) (setF p HDR.ACT_prev (act p old)
      { s with actAt := SMap.put p s.clk s.actAt })

/-- The main domain goes into reset (R482): its registers and what its blocks hold are lost; the standby domain keeps
everything. Outstanding SLIP_POSTs complete with unit-unavailable (R386). [DEDUCED log 82] -/
def mainReset (s0 : State) : State :=
  let s := loseStaging (dropPosts s0)
  let s1 := { State.reset with
    pending := s.pending, clk := s.clk, out := s.out, free := s.free, hap := s.hap, tim := s.tim
    regs := keepStandby s.regs, shadow := keepStandby s.shadow, committed := keepStandby s.committed
    actAt := s.actAt.filter (fun e => standbyPage e.1), ticks := s.ticks.filter (fun e => standbyPage e.1)
    hlt := { s.hlt with
      belowSince := none, byStack := [], snaps := [], failing := [], faultHeld := false, stocktakeDead := false
      testKind := 0, testUnit := 0, testForce := false, decTests := [] }
    pwr := { s.pwr with units := [], waking := [], mainRun := false }
    eth := keepKey 2 s.eth, lne := keepKey 32 s.lne, fwl := s.fwl, twn := twinStandby s.twn }
  let s2 := (allPages.filter (fun p => !standbyPage p)).foldl (fun t p => noteReset s p t) s1
  setF pgHLT HLT.ST_throttle 0 (setF pgHLT HLT.ST_sensor_fail 0 (setF pgFWL FWL.IMAGE_version 0 (setF pgFWL FWL.IMAGE_SVN_svn 0 s2)))

/-- the encode cores' mapping after reset (R115): ENCn serves logical core n, ENC16 is the spare. -/
def mapCores (s : State) : State :=
  setF (pgENC 16) ENC.ST_spare 1 ((List.range 16).foldl (fun s q => setF (pgENC q) ENC.ST_logical q s) s)

/-- The main-domain reset is released (R308, R369, R386, R404, R460, R467, R470): its pages read RESET with `reason`; the stacks,
the circulation desk and the HBM controllers start by themselves; the rotation and the decode-core tests count their
intervals from here. [DEDUCED log 93] -/
def mainUp (reason : Nat) (s : State) : State :=
  let s1 := { s with
    pwr := { s.pwr with mainRun := true }, rot := { s.rot with lastStep := s.clk }
    hlt := { s.hlt with decTests := (List.range 8).map (fun k => (k, s.clk)) } }
  let s2 := (allPages.filter (fun p => !standbyPage p)).foldl (fun s p => setF p HDR.ACT_reason reason s) s1
  [pgSTK, pgCIR, pgHBM 0, pgHBM 1].foldl (fun s p => setAct p stSTARTING 1 s) (mapCores s2)

/-- The reset is recorded: its kind and cause, one more in RESET_COUNT, DEV EVENT bit 2 (R485). [DEDUCED log 83] -/
def recordReset (kind cause : Nat) (s : State) : State :=
  raise pgDEV 2 (addF pgDEV DEV.RESET_COUNT_count 1 (setF pgDEV DEV.RESET_CAUSE_kind kind
    (setF pgDEV DEV.RESET_CAUSE_cause cause s)))

/-! ## The whole device -/

/-- the fields of FWL that live in the key section or the folio (R443). -/
def storedFields : List Fld :=
  [FWL.FLOOR_MAIN, FWL.FLOOR_LDR, FWL.FLOOR_VEC, FWL.FOLIO_user, FWL.RECOVERY_serve_twin, FWL.RECOVERY_link,
   FWL.RECOVERY_twin_wait_s, FWL.KEYS_slots, FWL.CAT_BASE_base]

/-- fields that show what a pin or a supply is, or that R485 holds through the reset. -/
def heldFields : List (Nat × Fld) :=
  storedFields.map (fun f => (pgFWL, f)) ++
  [(pgDEV, DEV.RESET_COUNT_count), (pgDEV, DEV.ST_timeref_lost), (pgDEV, DEV.ST_vio_ok), (pgDEV, DEV.STRAPS_bootsel),
   (pgDEV, DEV.STRAPS_bpos), (pgDEV, DEV.ST_device_number), (pgHLT, HLT.ST_shutdown)]

/-- what the archive store and its caches keep (R418, R482). -/
def keepArchive (f : FwlS) : FwlS :=
  { FwlS.reset with
    keys := f.keys, image := f.image, loaderA := f.loaderA, loaderB := f.loaderB, vectors := f.vectors, folio := f.folio
    catalogue := f.catalogue, repairs := f.repairs, stopped := f.stopped }

/-- the page's entries of a register map. -/
def pageEntries (pages : List Nat) (m : SMap Nat) : SMap Nat := m.filter (fun e => pages.contains (keyPage e.1))

/-- Everything returns to its reset value but the archive store, and, with `portM`, port M and its lane (R482). The annals go
on where they stand. [DEDUCED log 82] -/
def fullReset (portM : Bool) (s : State) : State :=
  let keep := if portM then [pgETH 2, pgLNE 32] else []
  let s1 := { State.reset with
    pending := s.pending, clk := s.clk, out := s.out, free := s.free
    fwl := keepArchive s.fwl
    hlt := { HltS.reset with
      ann := s.hlt.ann, slots := s.hlt.slots, lastWrite := s.hlt.lastWrite
      stressFrac := s.hlt.stressFrac, energyFrac := s.hlt.energyFrac, tjNow := s.hlt.tjNow, cycleArmed := s.hlt.cycleArmed
      cycleRef := s.hlt.cycleRef }
    tim := { TimS.reset with stopAt := s.clk }
    pwr := { PwrS.reset with upAt := s.pwr.upAt, resetAt := s.clk }
    eth := if portM then keepKey 2 s.eth else []
    lne := if portM then keepKey 32 s.lne else []
    shadow := pageEntries keep s.shadow, committed := pageEntries keep s.committed
    actAt := s.actAt.filter (fun e => keep.contains e.1), ticks := s.ticks.filter (fun e => keep.contains e.1) }
  let fresh := s1.regs.filter (fun e => !keep.contains (keyPage e.1))
  let s2 := { s1 with regs := (pageEntries keep s.regs).foldl (fun m e => SMap.put e.1 e.2 m) fresh }
  let s3 := heldFields.foldl (fun x e => setF e.1 e.2 (getF e.1 e.2 s) x) s2
  if isF pgDEV DEV.ST_timeref_lost s then setF pgTIM TIM.ST_state 4 s3 else s3

/-- the device number (R53): (catalogue base + BPOS) mod 1,024. -/
def takeDeviceNumber (s : State) : State :=
  setF pgDEV DEV.ST_device_number ((getF pgFWL FWL.CAT_BASE_base s + getF pgDEV DEV.STRAPS_bpos s) % 1024) s

/-- the straps are sampled (R53, R484). [DEDUCED log 83] -/
def sampleStraps (bpos bootsel : Nat) (s : State) : State :=
  takeDeviceNumber (setF pgDEV DEV.STRAPS_bpos bpos (setF pgDEV DEV.STRAPS_bootsel bootsel s))

/-! ## Unit reset (R65) -/

/-- what a page's unit holds beside its registers is lost. -/
def dropUnit (p : Nat) (s : State) : State :=
  match blockOf p with
  | some .ing => { s with ing := SMap.drop (p - Block.first .ing) s.ing }
  | some .cnd => { s with cnd := SMap.drop (p - Block.first .cnd) s.cnd }
  | some .ech =>
    let c := p - Block.first .ech
    let s1 := if [stMUTED, stSTOPPING].contains (act p s) then accountLeaves c s else s
    let s2 := dropJoin c (stopReading c s1)
    { s2 with ech := SMap.drop c s2.ech }
  | some .mux => { s with mux := SMap.drop (p - Block.first .mux) s.mux }
  | some .out => { s with outs := SMap.drop (p - Block.first .out) s.outs }
  | some .dch => { s with dch := SMap.drop (p - Block.first .dch) s.dch }
  | some .snd => { s with snd := SMap.drop (p - Block.first .snd) s.snd }
  | some .twn => { s with twn := twinStandby s.twn }
  | some .tim => { s with tim := TimS.reset }
  | some .eth => let s1 := lanesCommand p stIDLE (portDown (p - Block.first .eth) s)
    { s1 with eth := SMap.drop (p - Block.first .eth) s1.eth }
  | some .izl => let s1 := lanesCommand p stIDLE s
    { s1 with izl := SMap.drop (p - Block.first .izl) s1.izl }
  | some .lne => { s with lne := SMap.drop (p - Block.first .lne) s.lne }
  | some .stk => { s with stk := StkS.reset }
  | some .cir => { dropPosts s with cir := CirS.reset }
  | some .hbm => { s with hbm := SMap.drop (p - Block.first .hbm) s.hbm }
  | some .chk => { s with chk := SMap.drop (p - Block.first .chk) s.chk }
  | some .hlt => { s with hlt := { s.hlt with
      belowSince := none, byStack := [], snaps := [], failing := [], faultHeld := false, stocktakeDead := false } }
  | _ => s

/-- the registers that a unit reset keeps: what the retention store and the suspect marks hold, the encode cores' mapping, and
the state with its count of changes since cold reset (R26). [DEDUCED log 82] -/
def unitKeeps (p k : Nat) : Bool :=
  retentionKeys.contains k || k == ENC.ST_logical.key p || k == ENC.ST_spare.key p ||
    [HDR.ACT_state, HDR.ACT_prev, HDR.ACT_changes].any (fun f => k == f.key p)

/-- The unit of page `p` returns to its cold-reset values and is IDLE (R65, R482). [DEDUCED log 82] -/
def resetUnit (p : Nat) (s : State) : State :=
  let s1 := dropUnit p s
  let keep := fun (m : SMap Nat) => m.filter (fun e => keyPage e.1 != p || unitKeeps p e.1)
  let s2 := watLeave p { s1 with
    regs := keep s1.regs, shadow := keep s1.shadow, committed := keep s1.committed, ticks := SMap.drop p s1.ticks
    bufs := SMap.drop p s1.bufs }
  let s3 := setAct p stIDLE 0 s2
  settleEngines (echRefresh (decRefreshAll s3))

/-- CTRL.unit_reset (R24, R65, R487, R489, R491): refused while RUNNING, unsupported on DEV and PWR; a gated unit wakes first. [DEDUCED log 81] -/
def unitResetOp (p : Nat) (s : State) : Status × State :=
  if p = pgDEV ∨ p = pgPWR then (.unsupported, s)
  else if act p s = stRUNNING then (.refusedInService, s)
  else
    let s1 := match unitOfPage p with
      | some (c, u) => { setUnit c u 0 s with pwr := { (setUnit c u 0 s).pwr with
          waking := s.pwr.waking.filter (· != unitKey c u) } }
      | none => s
    (.success, resetUnit p s1)

/-- UNIT_RESET: the CTRL write that sets unit_reset. -/
def execUnitReset (r : Req) (page : BitVec 20) (s : State) : Host.Outcome State Fault Refusal :=
  .next (asWrite r page.toNat 0x008 (unitResetOp page.toNat) s)

end Sys2Proof.Machine
end

