-- ==== Sys2Proof/Machine/Firmware.lean ====
section
/-! DEFINITION. Sys2Proof/Machine/Firmware.lean: the archive store, boot, the provenance record, update sessions and the
catalogue (chapter 17, R418 to R444). -/

namespace Sys2Proof.Machine

/-! ## The provenance record (R423) -/

def provSlot (n : Nat) (s : State) : List Byte := SMap.get (List.replicate 48 0) n s.fwl.prov

/-- slot := SHA-384(slot ‖ m). -/
def extendSlot (n : Nat) (m : List Byte) (s : State) : State :=
  { s with fwl := { s.fwl with prov := SMap.put n (Config.sha384 (provSlot n s ++ m)) s.fwl.prov } }

/-- FWL.BOOT.state: 0 normal, 1 quarantine, 2 recovery. -/
def bootState (s : State) : Nat := getF pgFWL FWL.BOOT_state s

def inRecovery (s : State) : Bool := bootState s == 2

/-- slot 3: the floors, BOOTSEL and the boot state. [DEDUCED log 75] -/
def measureFloors (s : State) : State :=
  extendSlot 3 (Config.sha384 (beBytes 4 (getF pgFWL FWL.FLOOR_MAIN s) ++ beBytes 4 (getF pgFWL FWL.FLOOR_LDR s) ++
    beBytes 4 (getF pgFWL FWL.FLOOR_VEC s) ++ beBytes 1 (getF pgFWL FWL.BOOT_bootsel s) ++ beBytes 1 (bootState s))) s

/-- slot 5: the controller keys and the catalogue base. -/
def measureKeys (s : State) : State :=
  extendSlot 5 (Config.sha384 ((List.range 8).flatMap (fun k => SMap.get [] k s.fwl.keys) ++
    beBytes 2 (getF pgFWL FWL.CAT_BASE_base s))) s

/-- the boot state changes; a change extends slot 3. -/
def setBootState (n : Nat) (s : State) : State :=
  let s1 := setF pgFWL FWL.BOOT_state n (setF pgFWL FWL.ST_quarantine (n == 1).toNat (setF pgFWL FWL.ST_recovery (n == 2).toNat s))
  if bootState s = n then s1 else measureFloors s1

/-- writes to the archive store, in lines of 64 bytes, count in the annals (R454). -/
def storeWritten (bytes : Nat) (s : State) : State := annalsAdd 39 ((bytes + 63) / 64) s

/-! ## Packages (R426 to R429) -/

def hdrVersion (h : List Byte) : Nat := fieldAt 8 4 h
def hdrSvn (h : List Byte) : Nat := fieldAt 12 4 h
def hdrSchema (h : List Byte) : Nat := fieldAt 26 2 h
def hdrLength (h : List Byte) : Nat := fieldAt 20 4 h

/-- the rollback floor of a package type (R429). -/
def floorField (kind : Nat) : Fld := if kind = 1 then FWL.FLOOR_MAIN else if kind = 2 then FWL.FLOOR_LDR else FWL.FLOOR_VEC

/-- the most bytes of image a type may have (R426). -/
def imageMax (kind : Nat) : Nat := if kind = 1 then 33550336 else if kind = 2 then 2 ^ 21 - 4096 else 2 ^ 26 - 4096

/-- checks 0x05 to 0x08 of an image against its header (R428): 0 where all pass. -/
def imageChecks (kind : Nat) (h plain : List Byte) (s : State) : Nat :=
  if Config.sha384 plain ≠ sub 32 48 h then 5
  else if !Config.ecdsaOk Config.releaseKey (Config.sha384 (h.take 80)) (sub 80 96 h) then 6
  else if !(fieldAt 16 4 h).testBit Config.stepping then 7
  else if hdrSvn h < getF pgFWL (floorField kind) s then 8
  else 0

/-- a stored image at boot (R428): a store that cannot be read, or is marked invalid, fails check 0x05. -/
def storedChecks (kind : Nat) (readable : Bool) (x : Option StoredImage) (s : State) : Nat :=
  match x with
  | none => 5
  | some x => if !readable || !x.valid then 5 else imageChecks kind x.header x.plain s

/-! ## The staging (R430, R432) -/

/-- the parts without what they hold of bytes `lo` to `hi − 1`. -/
def dropRange (lo hi : Nat) (l : List (Nat × List Byte)) : List (Nat × List Byte) :=
  (l.flatMap (fun e => [(e.1, e.2.take (lo - e.1)), (max hi e.1, e.2.drop (hi - e.1))])).filter (fun e => !e.2.isEmpty)

/-- the staged bytes of a range, if all are present. -/
def stagedRange (lo len : Nat) (l : List (Nat × List Byte)) : Option (List Byte) :=
  (List.range len).mapM (fun i =>
    (l.find? (fun e => decide (e.1 ≤ lo + i) && decide (lo + i < e.1 + e.2.length))).bind (fun e => e.2[lo + i - e.1]?))

/-- the bytes of a block with its check, on the wire (R426). -/
def wireBlock : Nat := 65540

/-- the content of block `b`, if it is present and its check is correct (R409, R426). -/
def stagedBlock (b : Nat) (l : List (Nat × List Byte)) : Option (List Byte) :=
  (stagedRange (b * wireBlock) wireBlock l).bind (fun w =>
    if crc crc32c (beBytes 4 b ++ w.take 65536) = beNat (w.drop 65536) then some (w.take 65536) else none)

/-- the first block that is absent or fails, or the whole package. -/
def stagedPackage (n : Nat) (l : List (Nat × List Byte)) : Except Nat (List Byte) :=
  (List.range n).foldl (fun r b => match r with
    | .error e => .error e
    | .ok p => match stagedBlock b l with | some x => .ok (p ++ x) | none => .error b) (.ok [])

/-- What VERIFY finds of a staged package of types 1 to 3 (R428): result, failing block, header and plaintext. -/
def verifyPackage (x : Staging) (s : State) : Nat × Nat × List Byte × List Byte :=
  let h := (stagedRange 0 4096 x.parts).getD []
  let n := fieldAt 24 2 h
  let len := hdrLength h
  let count := fieldAt 204 1 h
  if !(fieldAt 0 4 h == 0x56574650 && fieldAt 4 2 h == 1 && fieldAt 6 1 h == x.kind && decide (len ≤ imageMax x.kind) &&
      n == (4096 + len + 65535) / 65536 && x.length == n * wireBlock && decide (1 ≤ count) && decide (count ≤ 16)) then
    (1, 0, [], [])
  else
    match stagedPackage n x.parts with
    | .error b => (2, b, [], [])
    | .ok p =>
      let entries := (List.range count).map (fun k => sub (208 + 160 * k) 160 p)
      match (entries.find? (fun e => e.take 16 == (Config.sha384 Config.agreementKey).take 16)).bind Config.unwrap with
      | none => (3, 0, [], [])
      | some key =>
        match Config.gcmOpen key (sub 176 12 p) (sub 4096 len p) (sub 188 16 p) with
        | none => (4, 0, [], [])
        | some plain => (imageChecks x.kind (p.take 176) plain s, 0, p.take 176, plain)

/-- What VERIFY finds of any staging: packages by R428, settings and a folio by their own checks (R439, R441). -/
def verifyStaging (x : Staging) (s : State) : Nat × Nat × List Byte × List Byte :=
  if x.kind ≤ 3 then verifyPackage x s
  else
    match stagedRange 0 x.length x.parts with
    | none => (2, 0, [], [])
    | some b =>
      if x.kind = 4 then (if (Config.readSettings b).isSome then (0, 0, [], b) else (1, 0, [], []))
      else (if Config.folioWithin b then (0, 0, [], b) else (1, 0, [], []))

/-- a verification's result is shown, and a failure counted (R428). -/
def showVerify (n : Nat) (s : State) : State :=
  let s1 := setF pgFWL FWL.ST_staged_ok (n == 0).toNat (setF pgFWL FWL.BOOT_verify n s)
  if n = 0 then s1 else raise pgFWL 3 (addF pgFWL FWL.VERIFY_FAILS 1 s1)

/-! ## The lock (R431) -/

def lockHeld (s : State) : Bool := isF pgFWL FWL.LOCK_held s

/-- the operation comes from the session that holds the lock. -/
def holdsLock (r : Req) (s : State) : Bool :=
  match r.origin with
  | .session i => lockHeld s && getF pgFWL FWL.LOCK_holder s == 1 && getF pgFWL FWL.LOCK_session s == i.val
  | _ => false

/-- the lock is released and the staging discarded. -/
def releaseLock (s : State) : State :=
  let s1 := { s with fwl := { s.fwl with staging := none, closing := false, freeSince := s.clk } }
  setF pgFWL FWL.LOCK_held 0 (setF pgFWL FWL.LOCK_holder 0 (setF pgFWL FWL.LOCK_session 0 (setF pgFWL FWL.LOCK_op 0
    (setF pgFWL FWL.PROGRESS_bytes 0 (setF pgFWL FWL.ST_staged_ok 0 (dropBuffer pgFWL s1))))))

/-- the holder is done with the lock: an INSTALL in progress completes first. -/
def closeLock (s : State) : State :=
  if s.fwl.installing.isSome then { s with fwl := { s.fwl with closing := true } } else releaseLock s

/-- the holding session closes (R431). -/
def lockSessionClosed (i : Nat) (s : State) : State :=
  if lockHeld s && getF pgFWL FWL.LOCK_holder s == 1 && getF pgFWL FWL.LOCK_session s == i then closeLock s else s

/-- a FW_SESSION operation (R430): its address word, the sub-command in [7:0], comes back in the response (R41), and the loader
serves it. -/
def fwOp (r : Req) (addr : Nat) (op : State → Status × List Byte × State) (s : State) : State :=
  opStart r 9 addr (fun s =>
    if s.fwl.stage = 0 then reply r 0x89 addr .unavailable [] s
    else reply r 0x89 addr (op s).1 (op s).2.1 (op s).2.2) s

/-- one that only the holder of the lock may run. -/
def fwHeld (r : Req) (addr : Nat) (op : State → Status × List Byte × State) (s : State) : State :=
  fwOp r addr (fun s => if holdsLock r s then op s else (.busy, [], s)) s

/-- the staging buffer of a package in HBM0 (R390, R432). -/
def placeStaging (n : Nat) (s : State) : Option State :=
  (pcGroup 0 1 n s).map (fun g => { s with bufs := SMap.put pgFWL ⟨0, g.2, n, 0⟩ s.bufs })

/-- the lock is taken for a staging of `kind` and `n` wire bytes: `holder` 1 a session, 2 the twin source. -/
def takeLock (holder session kind n : Nat) (s : State) : State :=
  let s1 := { s with fwl := { s.fwl with staging := some ⟨kind, n, [], false⟩ } }
  setF pgFWL FWL.LOCK_held 1 (setF pgFWL FWL.LOCK_holder holder (setF pgFWL FWL.LOCK_session session
    (setF pgFWL FWL.PROGRESS_bytes 0 (setF pgFWL FWL.ST_staged_ok 0 s1))))

/-- OPEN (R430 to R432). -/
def fwOpenOp (r : Req) (kind n : Nat) (s : State) : Status × List Byte × State :=
  let twin := inRecovery s && lockHeld s && getF pgFWL FWL.LOCK_holder s == 2
  if kind < 1 ∨ 5 < kind then (.invalidValue, [], s)
  else if lockHeld s && !twin then (.busy, [], s)
  else
    let s1 := if twin then raise pgFWL 5 (releaseLock s) else s
    let i := match r.origin with | .session i => i.val | _ => 0
    if kind ≤ 3 then
      if !s.pwr.mainRun then (.unavailable, [], s1)
      else match placeStaging n s1 with
        | none => (.invalidValue, [], s1)
        | some s2 => (.success, [], takeLock 1 i kind n s2)
    else (.success, [], takeLock 1 i kind n s1)

def execFwOpen (r : Req) (kind : Byte) (length : Word) (s : State) : Host.Outcome State Fault Refusal :=
  .next (fwOp r 1 (fwOpenOp r kind.toNat length.toNat) s)

/-- bytes enter the staging at `off`; answers whether every block they complete is correct. -/
def stageBytes (off : Nat) (b : List Byte) (x : Staging) : Bool × Staging :=
  let l := (off, b) :: dropRange off (off + b.length) x.parts
  if 3 < x.kind then (true, { x with parts := l })
  else
    let touched := (List.range ((off + b.length - 1) / wireBlock + 1)).filter (fun k => decide (off / wireBlock ≤ k))
    let bad := touched.filter (fun k =>
      (stagedRange (k * wireBlock) wireBlock l).isSome && (stagedBlock k l).isNone)
    (bad.isEmpty, { x with parts := bad.foldl (fun l k => dropRange (k * wireBlock) ((k + 1) * wireBlock) l) l })

/-- DATA (R430): a block whose check fails is to be sent again. -/
def fwDataOp (off : Nat) (b : List Byte) (s : State) : Status × List Byte × State :=
  match s.fwl.staging with
  | none => (.invalidValue, [], s)
  | some x =>
    if b.isEmpty ∨ 1024 < b.length ∨ x.length < off + b.length ∨ s.fwl.installing.isSome then (.invalidValue, [], s)
    else
      let y := stageBytes off b x
      let s1 := setF pgFWL FWL.ST_staged_ok 0 { s with fwl := { s.fwl with staging := some y.2 } }
      let s2 := setF pgFWL FWL.PROGRESS_bytes ((y.2.parts.map (fun e => e.2.length)).sum) s1
      (if y.1 then .success else .invalidValue, [], s2)

def execFwData (r : Req) (offset : Word) (data : List Byte) (s : State) : Host.Outcome State Fault Refusal :=
  .next (fwHeld r 2 (fwDataOp offset.toNat data) s)

/-- VERIFY (R428, R430). -/
def verifyOp (s : State) : Status × List Byte × State :=
  match s.fwl.staging with
  | none => (.invalidValue, [], s)
  | some x =>
    let v := verifyStaging x s
    (.success, beBytes 1 v.1 ++ beBytes 1 0 ++ beBytes 2 v.2.1, showVerify v.1 s)

def execVerify (r : Req) (s : State) : Host.Outcome State Fault Refusal := .next (fwHeld r 3 verifyOp s)

/-- INSTALL (R432, R441): the package is checked again, and the write begins; the operation stays outstanding until it is
done. -/
def installOp (r : Req) (addr flags : Nat) (s : State) : State :=
  opStart r 9 addr (fun s =>
    let fail := fun (st : Status) (s : State) => reply r 0x89 addr st [] s
    if s.fwl.stage = 0 then fail .unavailable s
    else if !holdsLock r s then fail .busy s
    else match s.fwl.staging with
      | none => fail .invalidValue s
      | some x =>
        if s.fwl.installing.isSome ∨ (x.kind = 5 ∧ flags % 2 = 0) then fail .invalidValue s
        else
          let v := verifyStaging x s
          let s1 := showVerify v.1 s
          if v.1 ≠ 0 then fail .invalidValue s1
          else holdOp r (setF pgFWL FWL.ST_installing 1 (setF pgFWL FWL.LOCK_op 4
            { s1 with fwl := { s1.fwl with installing := some ⟨some r, addr, x.kind, v.2.2.1, v.2.2.2⟩ } }))) s

def execInstall (r : Req) (flags : Word) (s : State) : Host.Outcome State Fault Refusal := .next (installOp r 4 flags.toNat s)

/-! ## The catalogue (R436 to R439) -/

/-- the schema of the running image. -/
def ownSchema (s : State) : Nat := getF pgFWL FWL.CAT_SCHEMA_own s

/-- the valid slot with the highest generation. -/
def newestSlot (bad : List Nat) (s : State) : Option (Nat × CatSlot) :=
  (s.fwl.catalogue.filter (fun e => !bad.contains e.1)).foldl (fun r e => match r with
    | none => some e
    | some x => if x.2.gen < e.2.gen then some e else some x) none

/-- what a save stores (R437): every committed RWC value and STATE_CMD, under the next generation. -/
def nextSlot (committed : SMap Nat) (s : State) : CatSlot :=
  ⟨((s.fwl.catalogue.map (fun e => e.2.gen)).foldl max 0 + 1) % 2 ^ 32, ownSchema s, committed⟩

/-- see the log: [DESIGN CHOICE log 77] -/
def catBytes (x : CatSlot) : List Byte := Config.slotBytes x.schema x.gen x.committed

/-- a slot is written in rotation, and shown (R437, R443). -/
def writeSlot (x : CatSlot) (s : State) : State :=
  let k := if s.fwl.catalogue.isEmpty then 0 else (getF pgFWL FWL.CAT_SLOT_slot s + 1) % 16
  let s1 := { s with fwl := { s.fwl with catalogue := SMap.put k x s.fwl.catalogue } }
  storeWritten 524288 (setF pgFWL FWL.CAT_SLOT_slot k (setF pgFWL FWL.CAT_GEN_generation x.gen
    (setF pgFWL FWL.CAT_SCHEMA_found x.schema s1)))

/-- the settings of a slot go into the shadows of page `p` and are committed: all of them but STATE_CMD, or with it. [DEDUCED log 75] -/
def loadPage (withCmd : Bool) (x : CatSlot) (p : Nat) (s : State) : State :=
  let l := (rwcRows p).filter (fun f => withCmd || f != HDR.CMD_state)
  let s1 := l.foldl (fun s f => setSh p f (SMap.get (f.resetAt p) (f.key p) x.committed) s) s
  if dirty p s1 then
    let s2 := if placesBuffer p s1 then (placeBuffer getSh p s1).getD s1 else s1
    afterCommit p (commitShadows p s2)
  else s1

/-- CATALOGUE_LOAD (R438): each page's settings are committed, and then each STATE_CMD. [DEDUCED log 75; DESIGN CHOICE log 77] -/
def loadSlot (x : CatSlot) (s : State) : State :=
  allPages.foldl (fun s p => loadPage true x p s) (allPages.foldl (fun s p => loadPage false x p s) s)

/-- QUARANTINE (R439): reset values, no channel started. -/
def enterQuarantine (s : State) : State :=
  raise pgFWL 1 (setF pgFWL HDR.ACT_reason 9 (setBootState 1 s))

/-- quarantine ends (R439). -/
def endQuarantine (s : State) : State :=
  if bootState s = 1 then raise pgFWL 2 (setF pgFWL HDR.ACT_reason 0 (setBootState 0 s)) else s

/-! ## Boot (R420 to R422) -/

/-- the pages of the main domain leave RESET (R420, R470). [DEDUCED log 82] -/
def leaveReset (s : State) : State :=
  let l := allPages.filter (fun p => !standbyPage p && act p s == stRESET)
  echRefresh (l.foldl (fun s p => takeAfterStop p id (setAct p stIDLE 0 s)) s)

/-- in recovery the Obrov cores, the stacks and HBM1 stay in reset; the link for the twin's package comes up (R422). -/
def recoveryUnits (s : State) : State :=
  if !s.pwr.mainRun then s
  else
    let s1 := [pgSTK, pgCIR, pgHBM 1].foldl (fun s p => setAct p stRESET 0 s) s
    let j := getF pgFWL FWL.RECOVERY_link s
    let p := pgIZL j
    let s2 := (p :: (lanesOf p).map pgLNE).foldl (fun s q => setAct q stIDLE 0 s) s1
    izlCommand j (setF p HDR.CMD_state stRUNNING (setCm p HDR.CMD_state stRUNNING (setSh p HDR.CMD_state stRUNNING s2)))

/-- RECOVERY_ENTRY (R422, R423). [DEDUCED log 82] -/
def enterRecovery (cause : Nat) (s : State) : State :=
  let s1 := setBootState 2 (extendSlot 2 (List.replicate 48 0xFF) s)
  let s2 := setF pgFWL FWL.BOOT_cause cause (addF pgFWL FWL.RECOVERIES 1 s1)
  let s3 := setF pgFWL FWL.IMAGE_version 0 (setF pgFWL FWL.IMAGE_SVN_svn 0 s2)
  recoveryUnits (raise pgFWL 0 { s3 with fwl := { s3.fwl with stage := 3, freeSince := s.clk, asked := false } })

/-- The physical cores that failed their power-on self-test are left out of the mapping (R115): they stand in FAULT with reason 0x07,
the spare takes the first lost logical number if it is good, and the others are absent in HLT. [DEDUCED log 48] -/
def leaveOut (bad : List Nat) (s : State) : State :=
  let s1 := bad.foldl (fun s q =>
    toFault (pgENC q) 7 (setF (pgENC q) ENC.ST_logical 31 (setF (pgENC q) ENC.ST_spare 0 s))) s
  let lost := (List.range 16).filter bad.contains
  match lost with
  | [] => s1
  | l :: rest =>
    if bad.contains 16 then lost.foldl (fun s l => showAbsent l true s) s1
    else rest.foldl (fun s l => showAbsent l true s) (mapCore 16 l s1)

/-- step 6 (R420, R438, R439): the main image starts, loads the catalogue, measures slot 6 and sets CIR to RUNNING. [DEDUCED log 75] -/
def bootStep6 (f : BootFinds) (s : State) : State :=
  let bad := f.badSlots.map Fin.val
  let s1 := setAct pgCIR stRUNNING 0 (leaveOut (f.badCores.map Fin.val) (leaveReset { s with fwl := { s.fwl with stage := 6, stopped := 0 } }))
  let zero := extendSlot 6 (Config.sha384 [])
  let unread := getF pgFWL FWL.BOOT_bootsel s == 2
  match newestSlot bad s1 with
  | none => if unread then zero (enterQuarantine s1) else zero (setF pgFWL HDR.ACT_reason 0 (setBootState 0 s1))
  | some (k, x) =>
    let s2 := setF pgFWL FWL.CAT_SCHEMA_found x.schema s1
    if unread || x.schema / 256 != ownSchema s / 256 || decide (ownSchema s % 256 < x.schema % 256) then
      zero (enterQuarantine s2)
    else
      loadSlot x (extendSlot 6 (Config.sha384 (catBytes x)) (setF pgFWL FWL.CAT_SLOT_slot k
        (setF pgFWL FWL.CAT_GEN_generation x.gen (setF pgFWL HDR.ACT_reason 0 (setBootState 0 s2)))))

/-- steps 5 and 6 from the stored image (R420, R428): a failed check enters recovery; so does the third boot in a row whose main
image stops before step 6 completes. `activated`: the restart is an activation, which ends recovery. -/
def bootMain (activated : Bool) (f : BootFinds) (s : State) : State :=
  if inRecovery s && !activated then recoveryUnits s
  else
    let n := storedChecks 1 f.image s.fwl.image s
    let s1 := setF pgFWL FWL.BOOT_verify n s
    if n ≠ 0 then
      enterRecovery (if n = 7 then 3 else if n = 8 then 4 else 2) (raise pgFWL 3 (addF pgFWL FWL.VERIFY_FAILS 1
        (setF pgFWL FWL.ST_image_valid 0 s1)))
    else
      let h := match s.fwl.image with | some x => x.header | none => []
      let s2 := setF pgFWL FWL.ST_image_valid 1 (setF pgFWL FWL.IMAGE_version (hdrVersion h)
        (setF pgFWL FWL.IMAGE_SVN_svn (hdrSvn h) (setF pgFWL FWL.CAT_SCHEMA_own (hdrSchema h)
          (extendSlot 2 (Config.sha384 (h.take 80)) s1))))
      let s3 := if inRecovery s then setF pgFWL FWL.BOOT_cause 0 (setBootState 0 s2) else s2
      if f.completes then bootStep6 f s3
      else
        let k := s.fwl.stopped + 1
        let s4 := { s3 with fwl := { s3.fwl with stage := 3, stopped := k } }
        if 3 ≤ k then enterRecovery 5 { s4 with fwl := { s4.fwl with stopped := 0 } } else s4

/-- step 4 (R420, R440), and on from there while VIN is up. -/
def bootFrom4 (f : BootFinds) (s : State) : State :=
  if !s.pwr.mainRun then { s with fwl := { s.fwl with stage := 3 } }
  else
    let s1 := extendSlot 4 (Config.sha384 s.fwl.folio) { s with fwl := { s.fwl with stage := 3 } }
    let s2 := if f.folio then setF pgFWL FWL.ST_folio_ok 1 s1 else raise pgFWL 10 (setF pgFWL FWL.ST_folio_ok 0 s1)
    let b := getF pgFWL FWL.BOOT_bootsel s2
    if (b == 1 || b == 3) && !inRecovery s2 then enterRecovery 1 s2 else bootMain false f s2

/-- the loader copy that step 2 starts: the valid one of higher version, A on a tie. The boot ROM checks digest and signature
against the release key (R420 step 2), and neither stepping nor security version. [DEDUCED log 76] -/
def chooseLoader (f : BootFinds) (s : State) : Option (Nat × StoredImage) :=
  let ok := fun (readable : Bool) (x : Option StoredImage) =>
    if storedChecks 2 readable x s ∈ [0, 7, 8] then x else none
  match ok f.loaderA s.fwl.loaderA, ok f.loaderB s.fwl.loaderB with
  | some a, some b => if hdrVersion a.header < hdrVersion b.header then some (1, b) else some (0, a)
  | some a, none => some (0, a)
  | none, some b => some (1, b)
  | none, none => none

/-- port M runs, so that Harlet is served on it (R420 step 3). [DEDUCED log 82] -/
def raisePortM (s : State) : State :=
  let p := pgETH 2
  ethCommand 2 (setF p HDR.CMD_state stRUNNING (setCm p HDR.CMD_state stRUNNING (setSh p HDR.CMD_state stRUNNING s)))

/-- steps 1 to 3, and 4 to 6 while VIN is up (R420, R421, R423, R442). [DESIGN CHOICE log 76] -/
def bootRomOp (f : BootFinds) (s : State) : State :=
  if s.pwr.inReset ∨ s.fwl.stage ≠ 0 ∨ act pgDEV s = stFAULT then s
  else
    let s1 := extendSlot 0 (Config.sha384 Config.bootRom) { s with fwl := { s.fwl with prov := [] } }
    let s2 := addF pgFWL FWL.BOOTS 1 (setF pgFWL FWL.BOOT_bootsel (getF pgDEV DEV.STRAPS_bootsel s) s1)
    match chooseLoader f s2 with
    | none => toFault pgDEV 0 s2
    | some (k, x) =>
      if !f.keysA && !f.keysB then toFault pgDEV 0 s2
      else
        let s3 := setAct pgFWL stRUNNING 0 (setF pgFWL FWL.BOOT_loader_copy k (setF pgFWL FWL.LOADER_version (hdrVersion x.header)
          (extendSlot 1 (Config.sha384 x.plain) s2)))
        bootFrom4 f (raisePortM (measureKeys (measureFloors s3)))

def execBootRom (finds : BootFinds) (s : State) : Host.Outcome State Fault Refusal := .next (bootRomOp finds s)

/-- BOOT_RESUME (R420): a loader that waits at step 4 goes on once VIN is up. -/
def bootResumeOp (f : BootFinds) (s : State) : State :=
  if s.fwl.stage ≠ 3 ∨ !s.pwr.mainRun then s else bootFrom4 f s

def execBootResume (finds : BootFinds) (s : State) : Host.Outcome State Fault Refusal := .next (bootResumeOp finds s)

/-! ## INSTALL_COMPLETE, ACTIVATE, CLOSE -/

/-- what INSTALL writes (R432, R439, R441): the region of its type. Settings end a quarantine only where their schema is one the
image reads (R438, R439). A loader package goes to the copy that does not run. [DEDUCED log 75] -/
def writeInstall (i : Installing) (s : State) : State :=
  let x : StoredImage := ⟨i.header, i.plain, true⟩
  let f := s.fwl
  if i.kind = 1 then storeWritten (hdrLength i.header + 4096) (setF pgFWL FWL.ST_image_valid 1 { s with fwl := { f with image := some x } })
  else if i.kind = 2 then
    storeWritten (hdrLength i.header + 4096)
      (if isF pgFWL FWL.BOOT_loader_copy s then { s with fwl := { f with loaderA := some x } }
       else { s with fwl := { f with loaderB := some x } })
  else if i.kind = 3 then storeWritten (hdrLength i.header + 4096) { s with fwl := { f with vectors := some x } }
  else if i.kind = 4 then
    match Config.readSettings i.plain with
    | none => s
    | some (schema, l) =>
      let c := { nextSlot (l.foldl (fun m e => SMap.put e.1 e.2 m) []) s with schema := schema }
      let s1 := extendSlot 6 (Config.sha384 (catBytes c)) (writeSlot c s)
      if bootState s = 1 ∧ schema / 256 = ownSchema s / 256 ∧ schema % 256 ≤ ownSchema s % 256 then loadSlot c (endQuarantine s1) else s1
  else
    raise pgFWL 6 (setF pgFWL FWL.FOLIO_user 1 (storeWritten i.plain.length
      (extendSlot 4 (Config.sha384 i.plain) { s with fwl := { f with folio := i.plain } })))

/-- INSTALL_COMPLETE (R428, R432): the write is done and read back. [DEDUCED log 75] -/
def installCompleteOp (good : Bool) (s : State) : State :=
  match s.fwl.installing with
  | none => s
  | some i =>
    let s0 := setF pgFWL FWL.ST_installing 0 (setF pgFWL FWL.LOCK_op 0 { s with fwl := { s.fwl with installing := none } })
    let s1 :=
      if good then
        let w := raise pgFWL 4 (annalsAdd 75 1 (addF pgFWL FWL.UPDATES 1 (writeInstall i s0)))
        setF pgFWL FWL.PROGRESS_bytes i.plain.length { w with fwl := { w.fwl with
          staging := w.fwl.staging.map (fun x => { x with installed := x.installed || i.kind == 1 || i.kind == 4 }) } }
      else
        let s2 := showVerify 9 s0
        if i.kind = 1 then { s2 with fwl := { s2.fwl with image := some ⟨i.header, i.plain, false⟩ } } else s2
    let s3 := match i.req with
      | some r => lateReply r 0x89 i.addr (if good then .success else .invalidValue) [] s1
      | none => s1
    if s3.fwl.closing then releaseLock s3 else s3

def execInstallComplete (readBack : Bool) (s : State) : Host.Outcome State Fault Refusal :=
  .next (installCompleteOp readBack s)

/-- the pages whose service ACTIVATE and the deeper device states respect (R433, R476). -/
def essencePages : List Nat := [Block.ing, .dch, .ech, .snd].flatMap (fun b => (List.range b.count).map (fun i => b.first + i))

def essenceRuns (s : State) : Bool := essencePages.any (fun p => inService p s)

/-- a catalogue save in progress completes (R435, R437). -/
def saveDone (s : State) : State :=
  match s.fwl.saving with
  | none => s
  | some x =>
    raise pgFWL 9 (addF pgFWL FWL.CAT_SAVES 1 (writeSlot x { s with fwl := { s.fwl with saving := none } }))

/-- a main-domain reset in which VIN stays up (R433, R482): its causes go into RESET_CAUSE, and steps 5 and 6 follow. -/
def restartMain (kind cause : Nat) (activated : Bool) (f : BootFinds) (s : State) : State :=
  let s1 := recordReset kind cause (mainReset s)
  let s2 := { s1 with fwl := { s1.fwl with stage := min 3 s1.fwl.stage } }
  if s.pwr.mainRun then bootMain activated f (mainUp 0 s2)
  else if activated ∧ inRecovery s2 then setBootState 0 s2 else s2

/-- ACTIVATE (R430, R433, R435): the response goes out, a save completes, and the control plane restarts. -/
def activateOp (r : Req) (addr flags : Nat) (f : BootFinds) (s : State) : State :=
  opStart r 9 addr (fun s =>
    let fail := fun (st : Status) => reply r 0x89 addr st [] s
    if s.fwl.stage = 0 then fail .unavailable
    else if !holdsLock r s then fail .busy
    else if !(match s.fwl.staging with | some x => x.installed | none => false) then fail .invalidValue
    else if essenceRuns s ∧ flags % 2 = 0 then fail .refusedInService
    else restartMain 3 0x0C true f (withdrawPictures (saveDone (reply r 0x89 addr .success [] s)))) s

def execActivate (r : Req) (flags : Word) (finds : BootFinds) (s : State) : Host.Outcome State Fault Refusal :=
  .next (activateOp r 5 flags.toNat finds s)

def execFwClose (r : Req) (s : State) : Host.Outcome State Fault Refusal :=
  .next (fwHeld r 6 (fun s => (.success, [], closeLock s)) s)

/-! ## Sub-commands without the lock (R424, R425, R429, R430) -/

/-- part `k` of a list in parts of 1,024 bytes, with the number of parts before it. -/
def partOf (k : Nat) (l : List Byte) : Option (List Byte) :=
  let n := (l.length + 1023) / 1024
  if k < n then some (beBytes 2 n ++ sub (1024 * k) 1024 l) else none

def partReply (k : Nat) (l : List Byte) (s : State) : Status × List Byte × State :=
  match partOf k l with
  | some b => (.success, b, s)
  | none => (.invalidValue, [], s)

def execCert (r : Req) (part : BitVec 16) (s : State) : Host.Outcome State Fault Refusal :=
  .next (fwOp r 7 (fun s => partReply part.toNat Config.certificate s) s)

/-- the stored image of a package type: of the two loader copies the newer. -/
def installedImage (kind : Nat) (s : State) : Option StoredImage :=
  if kind = 1 then s.fwl.image
  else if kind = 2 then
    match s.fwl.loaderA, s.fwl.loaderB with
    | some a, some b => if hdrVersion a.header < hdrVersion b.header then some b else some a
    | some a, none => some a
    | none, b => b
  else s.fwl.vectors

/-- RAISE_FLOOR (R423, R429): to the installed image's svn, and never down. -/
def raiseFloorOp (kind : Nat) (s : State) : Status × List Byte × State :=
  if kind < 1 ∨ 3 < kind then (.invalidValue, [], s)
  else match installedImage kind s with
    | none => (.invalidValue, [], s)
    | some x =>
      let f := floorField kind
      let old := getF pgFWL f s
      let new := max old (hdrSvn x.header)
      let s1 := if old < new then raise pgFWL 7 (measureFloors (storeWritten 64 (setF pgFWL f new s))) else s
      (.success, beBytes 4 new, s1)

def execRaiseFloor (r : Req) (kind : Byte) (s : State) : Host.Outcome State Fault Refusal :=
  .next (fwOp r 8 (raiseFloorOp kind.toNat) s)

/-- KEY_SET (R423, R430, R436). -/
def keySetOp (k : Nat) (key : List Byte) (s : State) : Status × List Byte × State :=
  if 8 ≤ k ∨ (key.length ≠ 97 ∧ key.length ≠ 0) then (.invalidValue, [], s)
  else
    let m := if key.isEmpty then SMap.drop k s.fwl.keys else SMap.put k key s.fwl.keys
    let mask := m.foldl (fun n e => n + 2 ^ e.1) 0
    (.success, [], raise pgFWL 8 (measureKeys (storeWritten 128 (setF pgFWL FWL.KEYS_slots mask
      { s with fwl := { s.fwl with keys := m } }))))

/-- KEY_SET is the one operation that a provisioning session may run (R46). -/
def keySetRun (r : Req) (addr k : Nat) (key : List Byte) (s : State) : State :=
  let prov := match r.origin with
    | .session i => (match sessionAt i.val s with | some x => x.provisioning | none => false)
    | _ => false
  if prov && s.fwl.stage != 0 then
    reply r 0x89 addr (keySetOp k key s).1 (keySetOp k key s).2.1 (keySetOp k key s).2.2
  else fwOp r addr (keySetOp k key) s

def execKeySet (r : Req) (slot : Byte) (key : List Byte) (s : State) : Host.Outcome State Fault Refusal :=
  .next (keySetRun r 9 slot.toNat key s)

/-- EXTEND (R423, R430). -/
def extendOp (v : List Byte) (s : State) : Status × List Byte × State :=
  if v.length ≠ 48 then (.invalidValue, [], s)
  else
    let s1 := extendSlot 7 v s
    (.success, provSlot 7 s1, s1)

def execExtend (r : Req) (value : List Byte) (s : State) : Host.Outcome State Fault Refusal :=
  .next (fwOp r 0x0A (extendOp value) s)

/-- CAT_READ (R430, R439): a part of the newest catalogue slot. -/
def catReadOp (k : Nat) (s : State) : Status × List Byte × State :=
  partReply k (match newestSlot [] s with
    | some (_, x) => catBytes x
    | none => []) s

def execCatRead (r : Req) (part : BitVec 16) (s : State) : Host.Outcome State Fault Refusal :=
  .next (fwOp r 0x0B (catReadOp part.toNat) s)

/-- CAT_DISCARD (R430, R439): a slot of reset values in the running image's schema. [DEDUCED log 75] -/
def catDiscardOp (s : State) : Status × List Byte × State :=
  if s.fwl.stage ≠ 6 then (.unavailable, [], s)
  else (.success, [], endQuarantine (writeSlot (nextSlot [] s) s))

def execCatDiscard (r : Req) (s : State) : Host.Outcome State Fault Refusal := .next (fwOp r 0x0C catDiscardOp s)

/-- the 8-byte time of R424: PTP ns when time is locked, otherwise the MGT tick. [DEDUCED log 75] -/
def quoteStamp (s : State) : List Byte := beBytes 8 (if timeLocked s then timeNs s else s.pwr.tick s.clk)

/-- the export that FOLIO_EXPORT reads (R441): formed anew when its first part is read. [DEDUCED log 75] -/
def folioExportOp (k : Nat) (s : State) : Status × List Byte × State :=
  let s1 :=
    if k = 0 then
      let body := beBytes 2 (deviceNumber s) ++ beBytes 1 Config.stepping ++ quoteStamp s ++ s.fwl.folio
      addF pgFWL FWL.FOLIO_exports 1 { s with fwl := { s.fwl with
        exported := s.fwl.folio ++ Config.identitySign (Config.sha384 body) } }
    else s
  partReply k s1.fwl.exported s1

def execFolioExport (r : Req) (part : BitVec 16) (s : State) : Host.Outcome State Fault Refusal :=
  .next (fwOp r 0x0D (folioExportOp part.toNat) s)

/-! ## Quotes (R424, R425) -/

/-- bytes 0 to 455 of a quote. -/
def quoteBody (nonce : List Byte) (s : State) : List Byte :=
  beBytes 1 1 ++ beBytes 1 (bootState s + 4 * (timeLocked s).toNat) ++ beBytes 2 (deviceNumber s) ++
  beBytes 4 (getF pgFWL FWL.IMAGE_version s) ++ beBytes 4 (getF pgFWL FWL.IMAGE_SVN_svn s) ++
  beBytes 4 (getF pgFWL FWL.FLOOR_MAIN s) ++ beBytes 1 Config.stepping ++ List.replicate 15 0 ++ nonce ++ quoteStamp s ++
  (List.range 8).flatMap (fun k => provSlot k s)

/-- ATTEST: the request waits, four at most being formed at once. -/
def attestOp (r : Req) (addr : Nat) (nonce : List Byte) (s : State) : State :=
  opStart r 8 addr (fun s =>
    if s.fwl.stage = 0 then reply r 0x88 addr .unavailable [] s
    else holdOp r { s with fwl := { s.fwl with quotes := s.fwl.quotes ++ [(r, addr, nonce)] } }) s

def execAttest (r : Req) (nonce : List Byte) (s : State) : Host.Outcome State Fault Refusal := .next (attestOp r 0 nonce s)

/-- QUOTE_COMPLETE: the oldest quote is signed and sent. -/
def quoteCompleteOp (s : State) : State :=
  match s.fwl.quotes with
  | [] => s
  | (r, addr, nonce) :: t =>
    let b := quoteBody nonce s
    lateReply r 0x88 addr .success (b ++ Config.identitySign (Config.sha384 b))
      (addF pgFWL FWL.ATTESTS 1 { s with fwl := { s.fwl with quotes := t } })

def execQuoteComplete (s : State) : Host.Outcome State Fault Refusal := .next (quoteCompleteOp s)

/-! ## Saving (R437) -/

/-- FWL.CAT_CMD.save (R437, R439). -/
def catalogueSaveOp (s : State) : Status × State :=
  if bootState s = 1 then (.accessDenied, s)
  else if s.fwl.stage ≠ 6 then (.unavailable, s)
  else if s.fwl.saving.isSome || (match s.fwl.lastSave with | some t => decide (s.clk < t + 10 * tickS) | none => false) then
    (.busy, s)
  else (.success, { s with fwl := { s.fwl with saving := some (nextSlot s.committed s), lastSave := some s.clk } })

def execCatalogueSave (r : Req) (s : State) : Host.Outcome State Fault Refusal := .next (asWrite r pgFWL 0x130 catalogueSaveOp s)

def execCatalogueSaved (s : State) : Host.Outcome State Fault Refusal := .next (saveDone s)

/-! ## The twin source (R434) -/

/-- TWIN_SOURCE_REQUEST: a device in recovery whose lock has stayed free asks its partner. [DESIGN CHOICE log 76] -/
def twinSourceRequestOp (s : State) : State :=
  if !inRecovery s || lockHeld s then s
  else
    let s1 := advanceTo (s.fwl.freeSince + getF pgFWL FWL.RECOVERY_twin_wait_s s * tickS) s
    izlPost (getF pgFWL FWL.RECOVERY_link s) 3 (beBytes 4 Config.certificate.length ++ Config.certificate)
      { s1 with fwl := { s1.fwl with asked := true, freeSince := s1.clk } }

def execTwinSourceRequest (s : State) : Host.Outcome State Fault Refusal := .next (twinSourceRequestOp s)

/-- the stored main package re-wrapped for the key in `cert`, as blocks on the wire. [DESIGN CHOICE log 76] -/
def rewrapped (x : StoredImage) (cert : List Byte) : List Byte :=
  let n := fieldAt 24 2 x.header
  let p := x.header.take 176 ++ Config.rewrap x.plain cert
  let p1 := (p ++ List.replicate (n * 65536 - p.length) 0).take (n * 65536)
  (List.range n).flatMap (fun b => sub (b * 65536) 65536 p1 ++ beBytes 4 (crc crc32c (beBytes 4 b ++ sub (b * 65536) 65536 p1)))

/-- TWIN_SOURCE_SERVE: the partner re-wraps its main package and sends it in parts of 1,024 bytes. [DESIGN CHOICE log 76] -/
def twinSourceServeOp (j : Nat) (cert : List Byte) (s : State) : State :=
  if !isF pgFWL FWL.RECOVERY_serve_twin s || inRecovery s || !Config.certOk cert then s
  else match s.fwl.image with
    | none => s
    | some x =>
      let w := rewrapped x cert
      (List.range ((w.length + 1023) / 1024)).foldl (fun s k =>
        izlPost j 3 (beBytes 4 w.length ++ beBytes 4 (1024 * k) ++ sub (1024 * k) 1024 w) s) s

def execTwinSourceServe (link : Fin 4) (cert : List Byte) (s : State) : Host.Outcome State Fault Refusal :=
  .next (twinSourceServeOp link.val cert (takeMsg link.val 3 s))

/-- the twin transfer fails: the requester waits again. -/
def twinFails (s : State) : State := releaseLock { s with fwl := { s.fwl with asked := false } }

/-- TWIN_PACKAGE: a part arrives; with the last the loader checks the package, installs it and activates it. [DESIGN CHOICE log 76] -/
def twinPackageOp (j n off : Nat) (b : List Byte) (f : BootFinds) (s : State) : State :=
  let mine := lockHeld s && getF pgFWL FWL.LOCK_holder s == 2
  if !inRecovery s || getF pgFWL FWL.RECOVERY_link s != j || !s.fwl.asked || (lockHeld s && !mine) then s
  else
    let s0 := if mine then some s else (placeStaging n s).map (takeLock 2 0 1 n)
    match s0 with
    | none => twinFails s
    | some s1 =>
      match s1.fwl.staging with
      | none => twinFails s1
      | some x =>
        if b.isEmpty || decide (x.length < off + b.length) then twinFails s1
        else
          let y := stageBytes off b x
          let got := (y.2.parts.map (fun e => e.2.length)).sum
          let s2 := setF pgFWL FWL.PROGRESS_bytes got { s1 with fwl := { s1.fwl with staging := some y.2 } }
          if !y.1 then twinFails (showVerify 2 s2)
          else if got < x.length then s2
          else
            let v := verifyPackage y.2 s2
            let s3 := showVerify v.1 s2
            if v.1 ≠ 0 then twinFails s3
            else
              let s4 := { s3 with fwl := { s3.fwl with installing := some ⟨none, 4, 1, v.2.2.1, v.2.2.2⟩ } }
              let s5 := installCompleteOp f.image s4
              if f.image then restartMain 3 0x0C true f (withdrawPictures (releaseLock s5)) else twinFails s5

def execTwinPackage (link : Fin 4) (length offset : Word) (data : List Byte) (finds : BootFinds) (s : State) :
    Host.Outcome State Fault Refusal :=
  .next (twinPackageOp link.val length.toNat offset.toNat data finds (takeMsg link.val 3 s))

end Sys2Proof.Machine
end

