-- ==== Sys2Proof/Machine/Health.lean ====
section
/-! DEFINITION. Sys2Proof/Machine/Health.lean: stocktake, the thermal governor, tests on request and the annals (chapter 18,
R445 to R462). -/

namespace Sys2Proof.Machine

/-! ## Unit faults -/

/-- a source or client page goes to FAULT, an encode channel as R143 says. [DEDUCED log 85] -/
def clientFault (p reason : Nat) (s : State) : State :=
  match blockOf p with
  | some .ech => echFault (p - Block.first .ech) reason s
  | _ => toFault p reason s

/-- The unit of page `p` goes to FAULT with `reason`, and what its chapter says follows (R101, R143, R191, R226, R268, R288, R330,
R344, R368, R404, R414). [DEDUCED log 85] -/
def unitFault (p reason : Nat) (s : State) : State :=
  match blockOf p with
  | some .ech => echFault (p - Block.first .ech) reason s
  | some .out =>
    let c := p - Block.first .out
    let s1 := toFault p reason s
    if [stSTARTING, stRUNNING, stSTOPPING, stMUTED].contains (act (pgECH c) s) then echFault c reason s1 else s1
  | some .ing => cndRefreshAll (toFault p reason s)
  | some .dch => setStrict (p - Block.first .dch) (decRefreshAll (toFault p reason s))
  | some .twn =>
    if twinRole s = 2 then setF p HDR.ACT_reason reason (goSolo (modTwn (fun t => { t with silent := true }) s))
    else toFault p reason ((if twinRole s = 1 then mirroredChans s else []).foldl (fun s c =>
      if [stSTARTING, stRUNNING, stMUTED].contains (act (pgECH c) s) then muteChannel c 3 .linkLost s else s) s)
  | some .tim =>
    settlePulses s (setF p TIM.ST_state (if timSt s = 4 then 4 else if isF p TIM.ST_first_lock s then 3 else 0)
      (setTim { s.tim with phaseLeft := 0, phaseAmount := 0 } (toFault p reason s)))
  | some .lne => loseLock (p - Block.first .lne) 2 false s
  | some .eth => toFault p reason (portDown (p - Block.first .eth) s)
  | some .izl => let j := p - Block.first .izl
    if act p s = stRUNNING then izlDown j stFAULT reason s else toFault p reason s
  | some .stk => faultOwners (toFault p reason s)
  | some .hbm =>
    let i := p - Block.first .hbm
    (liveBufs s).foldl (fun s e => if e.2.stack = i then clientFault e.1 5 s else s) (toFault p reason s)
  | some .chk => setF p CHK.STREAM_en 0 (setF p CHK.ST_busy 0 (toFault p reason s))
  | _ => toFault p reason s

/-! ## Stocktake (R31 to R33, R450, R451) -/

/-- the instances of a family (R450). -/
def familyCount (f : Nat) : Nat := [1, 1, 16, 8, 72, 179, 32].getD f 0

/-- the flows of the ING pages as stocktake numbers them (R450): 64 video, 64 audio, 32 ancillary flows; page and counter base. -/
def ingFlow (n : Nat) : Nat × Nat :=
  if n < 64 then (pgING n, 0x400) else if n < 128 then (pgING (n - 64), 0x440) else (pgING (n - 128), 0x480)

/-- the page that owns an instance: link × 4 + virtual lane, stack × 36 + requester, ports before flows. -/
def familyPage (f k : Nat) : Nat :=
  if f = 0 then pgSTK else if f = 1 then pgCIR else if f = 2 then pgIZL (k / 4) else if f = 3 then pgMUX k
  else if f = 4 then pgHBM (k / 36)
  else if f = 5 then (if k < 3 then pgETH k else if k < 163 then (ingFlow (k - 3)).1 else pgDCH (k - 163))
  else pgOUT k

/-- the two sides of the fates of a merged flow (R34). -/
def flowTerms (p b : Nat) (s : State) : List Nat × List Nat :=
  ([getF p (FCNT.rx_a b) s, getF p (FCNT.rx_b b) s],
   [getF p (FCNT.deliv b) s, getF p (FCNT.dup b) s, getF p (FCNT.drop b) s, getF p (FCNT.inflight b) s])

/-- the ledger of a mux group on this device (R167). -/
def muxTerms (g : Nat) (s : State) : List Nat × List Nat :=
  let p := pgMUX g
  ([((muxMembers g s).map (fun c => accountOf c s)).sum, getF p MUX.POOL_tokens s, getF p MUX.UNSETTLED_tokens s],
   [getF p MUX.ACCRUED_tokens s, getF p MUX.SPENT_tokens s, getF p MUX.LAPSED_tokens s, getF p MUX.SENT_tokens s,
    getF p MUX.RECV_tokens s])

/-- the credits of a virtual lane: here, in flight, and, as the counts returned say, with the partner (R338). [DEDUCED log 79] -/
def creditTerms (j v : Nat) (s : State) : List Nat × List Nat :=
  let x := izlOf j s
  let c := getF (pgIZL j) (IZL.CREDIT_credits v) s
  let flying := (x.buffer.filter (fun e => e.2.vl == v)).length
  let a := x.granted.getD v 0
  if act (pgIZL j) s = stRUNNING then ([c, flying, a - c - flying], [a]) else ([], [])

/-- the slices of an output (R36). [DEDUCED log 79] -/
def sliceTerms (c : Nat) (s : State) : List Nat × List Nat :=
  let p := pgOUT c
  ([getF p OUT.C_coded s], [getF p OUT.C_transmitted s, getF p OUT.C_replaced s, getF p OUT.C_withheld s,
    getF p OUT.C_disc_stop s, getF p OUT.C_pending s])

/-- the terms of an instance's equation, left side and right (R31, R34, R36, R167, R338, R373, R391). -/
def stockTerms (f k : Nat) (s : State) : List Nat × List Nat :=
  if f = 0 then
    ([getF pgSTK STK.FREE_cells s, getF pgSTK STK.HELD_cells s, getF pgSTK STK.UNCOMMITTED_cells s], [totalCells])
  else if f = 1 then
    ([freeSlips s, (queuedSlips s).length, (readySlips s).length, (prefetchedSlips s).length, (runningSlips s).length], [4096])
  else if f = 2 then creditTerms (k / 4) (k % 4) s
  else if f = 3 then muxTerms k s
  else if f = 4 then
    let n := outstandingOf (k / 36) (k % 36) s
    ([allotment (k % 36) - n, n], [allotment (k % 36)])
  else if f = 5 then
    if k < 3 then
      ([getF (pgETH k) ETH.RX_frames s],
       [getF (pgETH k) ETH.DELIV_frames s, getF (pgETH k) ETH.DROP_frames s, getF (pgETH k) ETH.INFLIGHT_frames s])
    else if k < 163 then flowTerms (ingFlow (k - 3)).1 (ingFlow (k - 3)).2 s
    else flowTerms (pgDCH (k - 163)) 0x400 s
  else sliceTerms k s

/-- the equation holds; in a group's allowance SPENT, LAPSED and SENT are taken off. -/
def balances (f : Nat) (t : List Nat × List Nat) : Bool :=
  if f = 3 then
    let r := fun k => t.2.getD k 0
    t.1.sum + r 1 + r 2 + r 3 == r 0 + r 4
  else t.1.sum == t.2.sum

/-- an uncorrectable error has suspended the instance's quantity (R32, R368). -/
def suspended (f k : Nat) (s : State) : Bool :=
  let p := familyPage f k
  (act p s == stFAULT && getF p HDR.ACT_reason s == 8) || (f == 0 && getF pgSTK STK.LOST_cells s != 0) ||
    (f == 3 && (muxMembers k s).any (fun c => act (pgECH c) s == stFAULT && getF (pgECH c) HDR.ACT_reason s == 8))

/-- the instances that fail in this evaluation, ascending family, then instance (R459). -/
def stockFailures (s : State) : List (Nat × Nat) :=
  (List.range 7).flatMap (fun f =>
    ((List.range (familyCount f)).filter (fun k => !suspended f k s && !balances f (stockTerms f k s))).map (fun k => (f, k)))

/-- the owning page's own event, where it defines one (R176, R366, R388, R406). -/
def mismatchEvent (f k : Nat) (s : State) : State :=
  if f = 0 then raise pgSTK 7 s else if f = 1 then raise pgCIR 7 s
  else if f = 3 then raise (pgMUX k) 5 s else if f = 4 then raise (pgHBM (k / 36)) 10 s else s

/-- the snapshot of a first failure (R451, R461). [DEDUCED log 79] -/
def takeSnap (f k : Nat) (s : State) : State :=
  let t := stockTerms f k s
  if s.hlt.snaps.length < 8 then
    setF pgHLT HLT.SNAP_CNT_held (s.hlt.snaps.length + 1)
      { s with hlt := { s.hlt with snaps := s.hlt.snaps ++ [⟨f, k, timeUs s, (t.1 ++ t.2).map (· % 2 ^ 32)⟩] } }
  else satF pgHLT HLT.SNAP_CNT_lost 1 s

/-- what a first failure does at its family's severity (R451). -/
def stockFailure (f k : Nat) (s : State) : State :=
  let sev := getF pgHLT (HLT.STK_SEV f) s
  let s1 := takeSnap f k s
  let s2 := if 1 ≤ sev then mismatchEvent f k (raise pgHLT 4 s1) else s1
  let s3 := if 2 ≤ sev then { s2 with hlt := { s2.hlt with faultHeld := true } } else s2
  if sev = 3 then unitFault (familyPage f k) 7 s3 else s3

/-- stocktake runs: from the first evaluation after STK and CIR are RUNNING, until its own state fails (R460). -/
def stocktakeRuns (s : State) : Bool :=
  s.pwr.mainRun && act pgSTK s == stRUNNING && act pgCIR s == stRUNNING && !s.hlt.stocktakeDead

/-- STOCKTAKE (R33, R450, R451): the next whole microsecond's evaluation; a failing instance that has not balanced since counts in VIOL. [DEDUCED log 78] -/
def stocktakeOp (s : State) : State :=
  if !stocktakeRuns s then s
  else
    let s0 := advanceTo ((s.clk / tickUs + 1) * tickUs) s
    let l := stockFailures s0
    let old := s0.hlt.failing
    let s1 := { s0 with hlt := { s0.hlt with failing := l } }
    l.foldl (fun s e => if old.contains e then satF pgHLT HLT.VIOL_us 1 s else stockFailure e.1 e.2 s) s1

def execStocktake (s : State) : Host.Outcome State Fault Refusal := .next (stocktakeOp s)

/-- SNAP_CLR (R451, R461). -/
def snapClrOp (s : State) : Status × State :=
  (.success, setF pgHLT HLT.SNAP_CNT_held 0 { s with hlt := { s.hlt with snaps := [], faultHeld := false } })

def execSnapClr (r : Req) (s : State) : Host.Outcome State Fault Refusal := .next (asWrite r pgHLT 0x190 snapClrOp s)

/-- the SNAP words of the selected entry (R461). -/
def stockWord (i : Nat) (s : State) : Nat :=
  match s.hlt.snaps[getF pgHLT HLT.SNAP_SEL_entry s]? with
  | none => 0
  | some x => ([x.family * 2 ^ 28 + x.inst * 2 ^ 16, x.stamp] ++ x.terms).getD i 0

/-! ## The governor (R452, R453) -/

/-- the level that a junction temperature allows. -/
def levelFor (tj : Nat) (s : State) : Nat :=
  if getF pgHLT HLT.GOV_t0 s ≤ tj then 0 else if getF pgHLT HLT.GOV_t1 s ≤ tj then 1
  else if getF pgHLT HLT.GOV_t2 s ≤ tj then 2 else 3

def govLevel (s : State) : Nat := getF pgHLT HLT.GOV_STAT_level s

/-- the junction threshold of the level as it stands. -/
def lowThreshold (s : State) : Nat :=
  match govLevel s with
  | 0 => getF pgHLT HLT.GOV_t0 s
  | 1 => getF pgHLT HLT.GOV_t1 s
  | _ => getF pgHLT HLT.GOV_t2 s

/-- a stack reads `t` °C or above (R404, R452). -/
def stacksReach (t : Nat) (s : State) : Bool :=
  (List.range 2).any (fun i => act (pgHBM i) s == stRUNNING && decide (t ≤ getF (pgHBM i) HBM.TEMP_temp_c s))

/-- what lowered the level has fallen below its threshold minus hyst_c: the stacks where a reading of theirs brought this level,
else Tj (R452). [DEDUCED log 78] -/
def belowThreshold (tj : Nat) (s : State) : Bool :=
  let hyst := getF pgHLT HLT.GOV_hyst_c s
  if s.hlt.byStack.contains (govLevel s) then !stacksReach (105 - hyst) s else decide (tj + hyst < lowThreshold s)

/-- the level falls to `n`, and stays down until the dwell of a restoration. -/
def lowerLevel (n : Nat) (s : State) : State :=
  if n < govLevel s then setF pgHLT HLT.GOV_STAT_level n { s with hlt := { s.hlt with belowSince := none } } else s

/-- a stack's reading of 105 °C or above lowers the level by one step (R404, R452). -/
def stackStep (s : State) : State :=
  let n := govLevel s - 1
  if govLevel s = 0 then s else lowerLevel n { s with hlt := { s.hlt with byStack := n :: s.hlt.byStack.filter (· != n) } }

/-- TEMPERATURE_READING (R394, R395, R404, R452): the stack's refresh follows it, and the governor from 105 °C on. -/
def execTemperatureReading (stack : Fin 2) (temp : Option Byte) (s : State) : Host.Outcome State Fault Refusal :=
  let hot := hbmRuns stack.val s && (match temp with | some t => decide (105 ≤ t.toNat) | none => false)
  .next ((if hot then stackStep else id) (temperatureOp stack.val temp s))

/-- THROTTLE begins (R448, R453): level 0, rotation and golden vectors stop, engines out of service are gated. -/
def startThrottle (s : State) : State :=
  if isF pgHLT HLT.ST_throttle s then lowerLevel 0 s
  else settleEngines (abandonGolden (abandonStep (raise pgHLT 0 (setF pgHLT HLT.ST_throttle 1 (lowerLevel 0 s)))))

/-- throttling ends below 107 °C. -/
def endThrottle (s : State) : State :=
  if isF pgHLT HLT.ST_throttle s then settleEngines (setF pgHLT HLT.ST_throttle 0 s) else s

/-- the dwell below the restoring temperature starts, goes on or is broken. -/
def trackDwell (tj : Nat) (s : State) : State :=
  if govLevel s = 3 then { s with hlt := { s.hlt with belowSince := none } }
  else if belowThreshold tj s then
    (if s.hlt.belowSince.isSome then s else { s with hlt := { s.hlt with belowSince := some s.clk } })
  else { s with hlt := { s.hlt with belowSince := none } }

/-- thermal cycles (R454): a rise of 40 °C from a minimum, tracked with 40 °C of hysteresis. -/
def trackCycle (tj : Nat) (s : State) : State :=
  let h := s.hlt
  if h.cycleArmed then
    let low := min h.cycleRef tj
    if low + 40 ≤ tj then annalsAdd 2 1 { s with hlt := { h with cycleArmed := false, cycleRef := tj } }
    else { s with hlt := { h with cycleRef := low } }
  else
    let high := max h.cycleRef tj
    if tj + 40 ≤ high then { s with hlt := { h with cycleArmed := true, cycleRef := tj } }
    else { s with hlt := { h with cycleRef := high } }

/-- TJ shows the reading, and its highest since the last read. -/
def showTj (tj : Nat) (s : State) : State :=
  setF pgHLT HLT.TJ_tj_c tj (setF pgHLT HLT.TJ_max_c (max tj (getF pgHLT HLT.TJ_max_c s))
    { s with hlt := { s.hlt with tjNow := tj, tjSecond := max tj s.hlt.tjSecond } })

/-- GOVERNOR_READING (R452, R453, R460, R461): pending thresholds take effect; the level falls to what Tj allows; with
every sensor failed it is 0. While the main domain is off, Tj alone is followed. [DEDUCED log 78, 93] -/
def governorReadingOp (tj : Option Byte) (s : State) : State :=
  if !s.pwr.mainRun then
    match tj with
    | none => s
    | some t => trackCycle t.toNat { s with hlt := { s.hlt with tjNow := t.toNat } }
  else
    let s0 := if pendingGen pgHLT s then takeWith pgHLT (plainCommand pgHLT) s else s
    match tj with
    | none => lowerLevel 0 (raiseIf (!isF pgHLT HLT.ST_sensor_fail s0) pgHLT 6 (setF pgHLT HLT.ST_sensor_fail 1
        { s0 with hlt := { s0.hlt with belowSince := none } }))
    | some t =>
      let c := t.toNat
      let s1 := trackCycle c (showTj c (setF pgHLT HLT.ST_sensor_fail 0 s0))
      let n := levelFor c s1
      let s2 := lowerLevel n { s1 with hlt := { s1.hlt with byStack := s1.hlt.byStack.filter (· < n) } }
      let s3 := if 110 ≤ c then startThrottle s2 else if c < 107 then endThrottle s2 else s2
      trackDwell c s3

def execGovernorReading (tj : Option Byte) (s : State) : Host.Outcome State Fault Refusal := .next (governorReadingOp tj s)

/-- GOVERNOR_RESTORE (R452): the dwell is over; one step per dwell. [DEDUCED log 78] -/
def governorRestoreOp (s : State) : State :=
  match s.hlt.belowSince with
  | none => s
  | some t =>
    if govLevel s = 3 ∨ isF pgHLT HLT.ST_throttle s ∨ isF pgHLT HLT.ST_sensor_fail s then s
    else
      let s1 := advanceTo (t + getF pgHLT HLT.GOV_dwell_s s * tickS) s
      let s2 := setF pgHLT HLT.GOV_STAT_level (govLevel s + 1) { s1 with hlt := { s1.hlt with belowSince := none } }
      trackDwell s.hlt.tjNow s2

def execGovernorRestore (s : State) : Host.Outcome State Fault Refusal := .next (governorRestoreOp s)

/-- TJ_READ (R461). -/
def execTjRead (r : Req) (s : State) : Host.Outcome State Fault Refusal :=
  .next (asRead r pgHLT 0x124 (fun s =>
    (getF pgHLT HLT.TJ_max_c s * 256 + getF pgHLT HLT.TJ_tj_c s, setF pgHLT HLT.TJ_max_c 0 s)) s)

/-! ## The annals (R454 to R458) -/

/-- the calendar at a record (R456). -/
def calendarNow (s : State) : Nat × Bool :=
  if timeLocked s then (timeNs s / 10 ^ 9 % 2 ^ 48, true)
  else ((s.hlt.ann.calendar + (s.clk / tickS - s.hlt.lastWrite / tickS)) % 2 ^ 48, false)

/-- a record goes to the next of the 64 slots (R454, R456, R457). -/
def writeAnnals (s : State) : State :=
  let cal := calendarNow s
  let s1 := annalsAdd 39 16 (annalsAdd 0 (s.clk / tickS - s.hlt.lastWrite / tickS) s)
  let a : AnnRec := { s1.hlt.ann with
    seq := s1.hlt.ann.seq + 1, calendar := cal.1, calLocked := cal.2,
    tick := if timeLocked s then none else some (s.pwr.tick s.clk) }
  let k := a.seq % 64
  { s1 with hlt := { s1.hlt with
      ann := a, slots := SMap.put k a s1.hlt.slots, lastWrite := s.clk } }

/-- ANNALS_WRITE (R457): 10 s of MGT time after the record before. -/
def execAnnalsWrite (s : State) : Host.Outcome State Fault Refusal :=
  .next (writeAnnals (advanceTo (s.hlt.lastWrite + 10 * tickS) s))

/-- CMD.ann_flush (R457): at most once per second. [DEDUCED log 78] -/
def annFlushOp (s : State) : Status × State :=
  match s.hlt.lastFlush with
  | some t => if s.clk < t + tickS then (.busy, s)
      else (.success, writeAnnals { s with hlt := { s.hlt with lastFlush := some s.clk } })
  | none => (.success, writeAnnals { s with hlt := { s.hlt with lastFlush := some s.clk } })

def execAnnFlush (r : Req) (s : State) : Host.Outcome State Fault Refusal := .next (asWrite r pgHLT 0x120 annFlushOp s)

/-- Standby power-up loads the valid record with the highest sequence; with none the annals restart from 0 (R457, R458). [DEDUCED log 78] -/
def loadAnnals (s : State) : State :=
  let best := s.hlt.slots.foldl (fun (b : Option AnnRec) e => match b with
    | some x => if x.seq < e.2.seq then some e.2 else b
    | none => some e.2) none
  let h := { s.hlt with lastWrite := s.clk, lastFlush := none, lockSeen := false }
  match best with
  | some a => { s with hlt := { h with ann := a } }
  | none => raise pgHLT 5 (setF pgHLT HLT.ST_annals_reset 1 { s with hlt := { h with ann := HltS.reset.ann } })

/-- annals counter `i`. -/
def annal (i : Nat) (s : State) : Nat := SMap.get 0 i s.hlt.ann.counters

/-- the histogram bin of a temperature (R454). -/
def tjBin (tj : Nat) : Nat := if tj < 40 then 3 else if 120 ≤ tj then 12 else 4 + (tj - 40) / 10

/-- what one second of main-domain power adds beside the stress: Tj's bin, the active time of the cores, the time at doubled
refresh (R454). [DEDUCED log 78] -/
def secondCounters (s : State) : State :=
  let s1 := annalsAdd (tjBin s.hlt.tjNow) 1 s
  let s2 := (List.range 17).foldl (fun s q => if act (pgENC q) s = stRUNNING then annalsAdd (13 + q) 1 s else s) s1
  let s3 := (List.range 8).foldl (fun s q => if act (pgDEC q) s = stRUNNING then annalsAdd (30 + q) 1 s else s) s2
  (List.range 2).foldl (fun s i => if isHot i s then annalsAdd (40 + i) 1 s else s) s3

/-- STRESS_INCREMENT (R454, R455): a second of main-domain power passes; its stress, in 1/1,024, adds to counter 38. [DESIGN CHOICE log 77; DEDUCED log 78] -/
def stressOp (mv : Nat) (s : State) : State :=
  if !s.pwr.mainRun then s
  else
    let s1 := passTicks tickS s
    let f := s1.hlt.stressFrac + Config.stressFactor s1.fwl.folio mv s1.hlt.tjSecond
    let s2 := annalsAdd 38 (f / 1024) { s1 with hlt := { s1.hlt with stressFrac := f % 1024, tjSecond := s1.hlt.tjNow } }
    let s3 := setF pgHLT HLT.LIFE_used_ppm (min (2 ^ 32 - 1) (annal 38 s2 * 10 ^ 6 / 1262304000)) s2
    secondCounters s3

def execStressIncrement (mv : BitVec 16) (s : State) : Host.Outcome State Fault Refusal := .next (stressOp mv.toNat s)

/-- LOCKED (R277, R456): the counter enters LOCKED; at the first lock since standby power-up a calendar more than 10 s behind
counts one gap. -/
def lockOp (s : State) : State :=
  let s1 := lockedOp s
  if timeLocked s1 && !s.hlt.lockSeen then
    let s2 := { s1 with hlt := { s1.hlt with lockSeen := true } }
    if (calendarNow s).1 + 10 < timeNs s / 10 ^ 9 then annalsAdd 77 1 s2 else s2
  else s1

def execLocked (s : State) : Host.Outcome State Fault Refusal := .next (lockOp s)

/-! ## Tests (R222, R445 to R449) -/

/-- a decode core out of service starts its golden vectors. -/
def startDecGolden (k : Nat) (s : State) : State := setAct (pgDEC k) stTEST 0x0B (setF (pgDEC k) DEC.ST_golden 1 s)

/-- DECODE_CORE_TEST (R222, R445, R448): interval_h has passed; only an idle core is tested, and none while throttled. [DEDUCED log 78, 93] -/
def decodeCoreTestOp (k : Nat) (s : State) : State :=
  if !s.pwr.mainRun then s
  else
    let s1 := advanceTo (SMap.get 0 k s.hlt.decTests + getF pgHLT HLT.DEC_TEST_interval_h s * 3600 * tickS) s
    let s2 := { s1 with hlt := { s1.hlt with decTests := SMap.put k s1.clk s1.hlt.decTests } }
    if act (pgDEC k) s2 = stIDLE ∧ !isF pgHLT HLT.ST_throttle s2 then startDecGolden k s2 else s2

def execDecodeCoreTest (core : Fin 8) (s : State) : Host.Outcome State Fault Refusal := .next (decodeCoreTestOp core.val s)

/-- how many units a test kind has (R449, R461). [DEDUCED log 79] -/
def testUnits (kind : Nat) : Nat := [17, 8, 33, 33, 64, 64, 4].getD kind 0

/-- the unit of a test is in service: for a lane its owner, for a pseudo-channel unless it is released (R5, R398). -/
def testServes (kind u : Nat) (s : State) : Bool :=
  if kind = 0 then inService (pgENC u) s else if kind = 1 then inService (pgDEC u) s
  else if kind = 2 ∨ kind = 3 then inService (laneOwner u) s
  else if kind = 4 ∨ kind = 5 then hbmRuns (u / 32) s && (pcOf (u / 32) (u % 32) s).mode != 3
  else inService (pgCND u) s

/-- the rotation step that a forced test of an idle core takes at once (R446, R449). -/
def forceStep (q : Nat) (s : State) : State :=
  if isF (pgENC q) ENC.ST_spare s ∧ act (pgENC q) s = stIDLE then startGolden q s
  else
    let l := getF (pgENC q) ENC.ST_logical s
    match spareOf s with
    | some x => if l < 16 ∧ s.rot.phase = 0 then
        completeStep { s with rot := { s.rot with phase := 1, logical := l, x := q, sp := x, moved := [] } } else s
    | none => s

/-- what a granted test does at once: a decode core or a conditioning unit goes to TEST, a lane trains; the others join the
rotation or the schedule unless forced. [DEDUCED log 79] -/
def startTest (kind u : Nat) (force : Bool) (s : State) : State :=
  let free := fun p => act p s == stIDLE || act p s == stLOW
  if kind = 0 then (if force then forceStep u s else s)
  else if kind = 1 then (if free (pgDEC u) then startDecGolden u s else s)
  else if kind = 3 then laneBringUp u 2 1 s
  else if kind = 6 then (if free (pgCND u) then setAct (pgCND u) stTEST 0 s else s)
  else s

/-- HLT.TREQ (R449). [DEDUCED log 79] -/
def treqOp (v : Nat) (s : State) : Status × State :=
  let kind := bitsOf 24 3 v
  let u := bitsOf 0 6 v
  let force := v.testBit 31
  if isF pgHLT HLT.TRES_pending s then (.busy, s)
  else if testUnits kind ≤ u then (.invalidValue, s)
  else if testServes kind u s && (force || [1, 3, 5, 6].contains kind) then
    (.refusedInService, raise pgHLT 3 (setF pgHLT HLT.TRES_pass 0 (setF pgHLT HLT.TRES_status Status.refusedInService.code s)))
  else
    let s1 := setF pgHLT HLT.TRES_pending 1 (setF pgHLT HLT.TRES_status 0 (setF pgHLT HLT.TRES_pass 0
      { s with hlt := { s.hlt with testKind := kind, testUnit := u, testForce := force } }))
    (.success, startTest kind u force s1)

def execTreq (r : Req) (value : Word) (s : State) : Host.Outcome State Fault Refusal :=
  .next (asWrite r pgHLT 0x14C (treqOp value.toNat) s)

/-- the verdict of a test that took its unit to TEST: an encode core's and a decode core's as R447 and R222 say; a conditioning
unit is idle again. [DEDUCED log 79] -/
def endTest (kind u : Nat) (pass : Bool) (s : State) : State :=
  if kind = 0 then goldenVectorDoneOp u pass s
  else if kind = 1 ∧ act (pgDEC u) s = stTEST ∧ isF (pgDEC u) DEC.ST_golden s then
    let s1 := setF (pgDEC u) DEC.ST_golden 0 s
    if pass then raise (pgDEC u) 2 (setAct (pgDEC u) (restState (pgDEC u) s1) 0 s1) else raise (pgDEC u) 3 (toFault (pgDEC u) 7 s1)
  else if kind = 6 ∧ act (pgCND u) s = stTEST then cndRefresh u (setAct (pgCND u) (restState (pgCND u) s) 0 s)
  else s

/-- TEST_DONE (R449): TRES shows the verdict, HLT EVENT bit 3. -/
def testDoneOp (pass : Bool) (s : State) : State :=
  if !isF pgHLT HLT.TRES_pending s then s
  else
    let s1 := endTest s.hlt.testKind s.hlt.testUnit pass s
    raise pgHLT 3 (setF pgHLT HLT.TRES_pending 0 (setF pgHLT HLT.TRES_status 0 (setF pgHLT HLT.TRES_pass pass.toNat s1)))

def execTestDone (pass : Bool) (s : State) : Host.Outcome State Fault Refusal := .next (testDoneOp pass s)

end Sys2Proof.Machine
end

