-- ==== Sys2Proof/Machine/Power.lean ====
section
/-! DEFINITION. Sys2Proof/Machine/Power.lean: supplies, the power sequencer, adaptive voltage, device and unit power states, and
the resets (chapter 19, R453, R463 to R492). -/

namespace Sys2Proof.Machine

/-! ## The VIN side (R465 to R471) -/

def dstate (s : State) : Nat := getF pgPWR PWR.DSTAT_state s

/-- DSTAT shows the new state and the one before. -/
def showState (n : Nat) (s : State) : State :=
  if dstate s = n then s else setF pgPWR PWR.DSTAT_state n (setF pgPWR PWR.DSTAT_prev (dstate s) s)

/-- the applied voltage of both adaptive rails, and what the loops show, with the VIN side off. -/
def railsDown (s : State) : State :=
  let s1 := [PWR.RAILS_good, PWR.VOLT_CORE_applied_mv, PWR.VOLT_CORE_req_mv, PWR.VOLT_FAB_applied_mv, PWR.VOLT_FAB_req_mv,
    PWR.ST_main_on, PWR.ST_overridden_core, PWR.ST_overridden_fab, PWR.ST_avs_limit, PWR.DSTAT_busy].foldl
    (fun s f => setF pgPWR f 0 s) s
  { s1 with pwr := { s1.pwr with railCore := 0, railFab := 0 } }

/-- The VIN side goes off (R469, R470): the main domain is held in reset and loses everything; a loader that runs waits again
at step 4. [DEDUCED log 80] -/
def vinSideOff (s : State) : State :=
  if !s.pwr.mainRun then s
  else
    let s1 := showState 3 (railsDown (mainReset (withdrawPictures s)))
    { s1 with fwl := { s1.fwl with stage := min 3 s1.fwl.stage } }

/-- POWER_DOWN_SEQUENCE (R469): the main domain is in reset at once, the rails are down 250 µs later. [DEDUCED log 80] -/
def powerDown (s : State) : State := if s.pwr.mainRun then passTicks (250 * tickUs) (vinSideOff s) else s

/-- the conditions under which the sequencer enables the VIN side (R466, R471, R488). -/
def vinSideMay (s : State) : Bool :=
  !s.pwr.inReset && isF pgPWR PWR.ST_vin_good s && getF pgPWR PWR.DCMD_target s != 3 && !isF pgHLT HLT.ST_shutdown s &&
  !isF pgPWR PWR.ST_rail_fault s && !s.pwr.fatal

/-- what entering D2 does: engines power-gated, kept pseudo-channels in self-refresh, lanes in LOW_POWER. [DEDUCED log 81] -/
def enterD2 (s : State) : State :=
  let s1 := engines.foldl (fun s e =>
    let p := enginePage e.1 e.2
    setUnit e.1 e.2 1 (if act p s = stIDLE then setAct p stLOW 0 s else s)) { s with pwr := { s.pwr with waking := [] } }
  let s2 := (List.range 64).foldl (fun s u =>
    if (pcOf (u / 32) (u % 32) s).mode < 2 ∧ hbmRuns (u / 32) s then modPc (u / 32) (u % 32) (fun x => { x with mode := 2 }) s
    else s) s1
  (List.range 33).foldl (fun s l => if act (pgLNE l) s = stRUNNING then laneSleep l s else s) s2

/-- POWER_UP_SEQUENCE (R467, R470, R482): the rails ramp, the main-domain reset is released, and the device is in the state its
target names; after the first power-up since a standby reset it is a main-domain reset with `cause`. [DEDUCED log 80] -/
def powerUp (cause : Nat) (s : State) : State :=
  if !vinSideMay s || s.pwr.mainRun then s
  else
    let again := s.pwr.hadVin
    let s1 := passTicks 440000 (setF pgPWR PWR.RAILS_good 0xFF (setF pgPWR PWR.ST_main_on 1
      (setF pgPWR PWR.VOLT_CORE_applied_mv 800 (setF pgPWR PWR.VOLT_FAB_applied_mv 800
        { s with pwr := { s.pwr with railCore := 800, railFab := 800, hadVin := true } }))))
    let t := getF pgPWR PWR.DCMD_target s
    let s2 := showState t (mainUp (if again && cause == 9 then 0x0A else 0) s1)
    let s3 := if t = 2 then enterD2 s2 else s2
    if again then recordReset 3 cause s3 else s3

/-- VIN_LOW (R468 to R470): the loss is counted; a collapse too fast for the sequence is uncontrolled. -/
def vinLowOp (fast : Bool) (s : State) : State :=
  if !isF pgPWR PWR.ST_vin_good s || s.pwr.inReset then s
  else
    let s1 := raise pgPWR 3 (addF pgPWR PWR.VIN_LOSSES_count 1 (setF pgPWR PWR.ST_vin_good 0
      { s with pwr := { s.pwr with vinLost := true } }))
    if fast && s.pwr.mainRun then raise pgPWR 6 (addF pgPWR PWR.UNCTRL_count 1 (vinSideOff s1)) else powerDown s1

def execVinLow (fast : Bool) (s : State) : Host.Outcome State Fault Refusal := .next (vinLowOp fast s)

/-- VIN_GOOD (R466 to R468, R470): VIN has stood at or above 10.6 V for 1 ms. [DEDUCED log 80] -/
def vinGoodOp (s : State) : State :=
  if isF pgPWR PWR.ST_vin_good s || s.pwr.inReset || act pgPWR s == stFAULT then s
  else
    let s1 := setF pgPWR PWR.ST_vin_good 1 (passTicks tickMs s)
    let s2 := if s.pwr.vinLost then raise pgPWR 4 { s1 with pwr := { s1.pwr with vinLost := false } } else s1
    powerUp 9 s2

def execVinGood (s : State) : Host.Outcome State Fault Refusal := .next (vinGoodOp s)

/-- VIN_OVER (R468): every rail off at once. [DEDUCED log 80] -/
def vinOverOp (s : State) : State :=
  if s.pwr.inReset then s
  else
    raise pgPWR 5 (addF pgPWR PWR.UNCTRL_count 1 (vinSideOff (setF pgPWR PWR.ST_vin_good 0
      { s with pwr := { s.pwr with vinLost := s.pwr.vinLost || isF pgPWR PWR.ST_vin_good s } })))

def execVinOver (s : State) : Host.Outcome State Fault Refusal := .next (vinOverOp s)

/-- RAIL_FAULT (R471): the good bits of that moment are held. -/
def railFaultOp (good : Nat) (s : State) : State :=
  if !s.pwr.mainRun then s
  else setF pgPWR PWR.RAILS_good good (powerDown (raise pgPWR 7 (addF pgPWR PWR.RAIL_FAULTS_count 1 (setF pgPWR PWR.ST_rail_fault 1 s))))

def execRailFault (good : Byte) (s : State) : Host.Outcome State Fault Refusal := .next (railFaultOp good.toNat s)

/-! ## Thermal shutdown (R453) -/

/-- THERMAL_SHUTDOWN (R453): every main-domain unit in service is in FAULT with reason 0x06, then the VIN side goes off. -/
def thermalShutdownOp (s : State) : State :=
  if !s.pwr.mainRun then s
  else
    let s1 := (allPages.filter (fun p => !standbyPage p && hasState p)).foldl (fun s p =>
      if inService p s then unitFault p 6 s else s) s
    powerDown (annalsAdd 76 1 (raise pgHLT 1 (setF pgHLT HLT.ST_shutdown 1 s1)))

def execThermalShutdown (s : State) : Host.Outcome State Fault Refusal := .next (thermalShutdownOp s)

/-- HLT.CMD.rearm (R453). -/
def rearmOp (s : State) : Status × State :=
  if isF pgHLT HLT.ST_shutdown s ∧ s.hlt.tjNow < 95 then (.success, powerUp 0x0A (setF pgHLT HLT.ST_shutdown 0 s))
  else (.invalidValue, s)

def execRearm (r : Req) (s : State) : Host.Outcome State Fault Refusal := .next (asWrite r pgHLT 0x120 rearmOp s)

/-! ## Adaptive voltage (R472 to R474) -/

/-- the registers of a loop: requirement, applied voltage, floor, ceiling, STATUS bit. -/
structure AvsLoop where
  req : Fld
  applied : Fld
  floor : Fld
  ceil : Fld
  overBit : Fld
  deriving DecidableEq, Repr

def avsCore : AvsLoop :=
  ⟨PWR.VOLT_CORE_req_mv, PWR.VOLT_CORE_applied_mv, PWR.AVS_CORE_floor_mv, PWR.AVS_CORE_ceil_mv, PWR.ST_overridden_core⟩

def avsFab : AvsLoop :=
  ⟨PWR.VOLT_FAB_req_mv, PWR.VOLT_FAB_applied_mv, PWR.AVS_FAB_floor_mv, PWR.AVS_FAB_ceil_mv, PWR.ST_overridden_fab⟩

/-- AVS_OVERRIDE, AVS_LIMIT: what follows from a requirement, a floor and a ceiling (R473, R474). -/
def avsSettle (l : AvsLoop) (s : State) : State :=
  if !s.pwr.mainRun then s
  else
    let req := getF pgPWR l.req s
    let s1 := setF pgPWR l.applied (max (min req 900) (getF pgPWR l.floor s)) s
    let above := decide (getF pgPWR l.ceil s < req)
    let s2 := if above && !isF pgPWR l.overBit s then raise pgPWR 1 (addF pgPWR PWR.OVERRIDES_count 1 s1) else s1
    setF pgPWR l.overBit above.toNat s2

/-- the rail moves towards the applied voltage by 1 mV/µs for 10 µs. [DEDUCED log 80] -/
def slewRail (rail want : Nat) : Nat := if rail < want then min want (rail + 10) else max want (rail - 10)

/-- AVS_EVALUATION (R472): every 10 µs, in steps of 5 mV. [DEDUCED log 80] -/
def avsOp (core fab : Nat) (s : State) : State :=
  if !s.pwr.mainRun then s
  else
    let step := fun v => (v + 4) / 5 * 5
    let s1 := setF pgPWR PWR.VOLT_CORE_req_mv (step core) (setF pgPWR PWR.VOLT_FAB_req_mv (step fab) (passTicks (10 * tickUs) s))
    let s2 := avsSettle avsFab (avsSettle avsCore s1)
    let lim := decide (900 < step core) || decide (900 < step fab)
    let s3 := setF pgPWR PWR.ST_avs_limit lim.toNat (raiseIf (lim && !isF pgPWR PWR.ST_avs_limit s2) pgPWR 2 s2)
    { s3 with pwr := { s3.pwr with
        railCore := slewRail s.pwr.railCore (getF pgPWR PWR.VOLT_CORE_applied_mv s3)
        railFab := slewRail s.pwr.railFab (getF pgPWR PWR.VOLT_FAB_applied_mv s3) } }

def execAvsEvaluation (core fab : BitVec 16) (s : State) : Host.Outcome State Fault Refusal :=
  .next (avsOp core.toNat fab.toNat s)

/-- a write of AVS_CORE or AVS_FAB (R473, R474): the floor may not exceed the ceiling. -/
def avsWrite (l : AvsLoop) (v : Nat) (s : State) : Status × State :=
  let lo := bitsOf 0 16 v
  let hi := bitsOf 16 16 v
  if 600 ≤ lo ∧ lo ≤ hi ∧ hi ≤ 900 then (.success, avsSettle l (setF pgPWR l.floor lo (setF pgPWR l.ceil hi s)))
  else (.invalidValue, s)

/-! ## Unit states (R475 to R479) -/

/-- an engine that has woken (R24, R69, R478, R479): its page is IDLE, or shows LOW_POWER while it is commanded there and not
wanted, and takes the generation that waited for it. -/
def engineAwake (cls u : Nat) (s : State) : State :=
  let p := enginePage cls u
  let s1 := setUnit cls u 0 { s with pwr := { s.pwr with waking := s.pwr.waking.filter (· != unitKey cls u) } }
  let s2 := if act p s1 = stLOW ∧ (cmdOf p s1 ≠ stLOW ∨ engineWanted cls u s1) then setAct p stIDLE 0 s1 else s1
  let s3 := if pendingGen p s2 then takeNow p s2 else s2
  echRefresh (decRefreshAll s3)

/-- UNIT_WAKE (R479): a unit in a reduced state starts to wake; a pseudo-channel and a lane serve at once. -/
def unitWakeOp (cls u : Nat) (s : State) : State :=
  if !s.pwr.mainRun then s
  else if cls < 3 then (if engines.contains (cls, u) ∧ dstate s ≠ 2 then startWake cls u s else s)
  else if cls = 3 then (if u < 64 ∧ (pcOf (u / 32) (u % 32) s).mode = 2 then pcWake (u / 32) (u % 32) s else s)
  else if cls = 4 ∧ u < 33 ∧ dstate s ≠ 2 then laneAwake u s
  else s

def execUnitWake (cls : Fin 6) (unit : Fin 128) (s : State) : Host.Outcome State Fault Refusal :=
  .next (unitWakeOp cls.val unit.val s)

/-- UNIT_WAKE_DONE (R479, R487): the exit latency is over; the unit then enters the state its tolerance allows now. -/
def unitWakeDoneOp (cls u : Nat) (s : State) : State :=
  if s.pwr.waking.contains (unitKey cls u) then settleEngines (engineAwake cls u s) else s

def execUnitWakeDone (cls : Fin 6) (unit : Fin 128) (s : State) : Host.Outcome State Fault Refusal :=
  .next (unitWakeDoneOp cls.val unit.val s)

/-- units whose reduced state no longer fits their effective tolerance wake, with EVENT bit 9 (R477, R479). -/
def wakeUnmet (s : State) : State :=
  let s1 := engines.foldl (fun s e =>
    if unitState e.1 e.2 s = 1 ∧ !s.pwr.waking.contains (unitKey e.1 e.2) ∧ effTol e.1 e.2 s < 20 ∧ dstate s = 0 ∧
        !isF pgHLT HLT.ST_throttle s then
      raise pgPWR 9 (startWake e.1 e.2 s) else s) s
  let s2 := (List.range 64).foldl (fun s u =>
    if (pcOf (u / 32) (u % 32) s).mode = 2 ∧ effTol 3 u s = 0 ∧ dstate s ≠ 2 then
      raise pgPWR 9 (pcWake (u / 32) (u % 32) s) else s) s1
  (List.range 33).foldl (fun s l =>
    if act (pgLNE l) s = stLOW ∧ !(laneOf l s).wakeDue ∧ effTol 4 l s < (if l = 32 then 53 else 2) ∧ dstate s ≠ 2 then raise pgPWR 9 (laneAwake l s) else s) s2

/-- the entries of a wake-tolerance kind: 6 unit classes, 32 ECH, 16 DCH, 16 SND pages (R489). -/
def wakeKinds (kind : Nat) : Nat := [6, 32, 16, 16].getD kind 0

/-- a write of WAKE_TOL (R478, R479, R489): the entry that WAKE_SEL selects; no such entry, no effect. -/
def wakeTolWrite (v : Nat) (s : State) : Status × State :=
  let kind := getF pgPWR PWR.WAKE_SEL_kind s
  let i := getF pgPWR PWR.WAKE_SEL_index s
  if i < wakeKinds kind then
    let s1 := { s with pwr := { s.pwr with tol := SMap.set 0xFFFFFF (kind * 64 + i) (v % 2 ^ 24) s.pwr.tol } }
    (.success, if s.pwr.mainRun then settleEngines (wakeUnmet s1) else s1)
  else (.success, s)

/-- the state of a unit as UNIT_STAT shows it (R475, R477, R489). [DEDUCED log 81] -/
def unitShown (cls u : Nat) (s : State) : Nat :=
  if !s.pwr.mainRun then 0
  else if cls < 3 then (if dstate s = 2 then 1 else unitState cls u s)
  else if cls = 3 then (if u < 64 then (let m := (pcOf (u / 32) (u % 32) s).mode; if m = 2 then 2 else if m = 3 then 3 else 0) else 0)
  else if cls = 4 then (if u < 33 ∧ act (pgLNE u) s = stLOW then 4 else 0)
  else if cls = 5 then (if dstate s = 2 ∧ 4 ≤ u ∧ u < 48 then 1 else 0)
  else 0

/-! ## Device states (R475, R476) -/

/-- what leaving D1 or D2 does: the engines are ungated, kept pseudo-channels leave self-refresh and go through one retraining
pause, lanes return to RUNNING. -/
def leaveLow (old : Nat) (s : State) : State :=
  let s1 := (List.range 64).foldl (fun s u =>
    if (pcOf (u / 32) (u % 32) s).mode < 3 ∧ hbmRuns (u / 32) s then
      let s1 := if (pcOf (u / 32) (u % 32) s).mode = 2 then srExit (u / 32) (u % 32) s else s
      modPc (u / 32) (u % 32) (fun x => { x with closedUntil := max x.closedUntil s.clk + 300 }) s1
    else s) s
  let s2 := if old = 2 then (List.range 33).foldl (fun s l =>
      if cmdOf (pgLNE l) s = stLOW then s else laneAwake l s) s1 else s1
  engines.foldl (fun s e => if unitState e.1 e.2 s = 1 ∧ !engineGates e.1 e.2 s then engineAwake e.1 e.2 s else s) s2

/-- PWR.DCMD (R471, R476, R487): D2 and D3 are refused while essence is in service. -/
def dcmdOp (t : Nat) (s : State) : Status × State :=
  if 2 ≤ t ∧ essenceRuns s then (.refusedInService, raise pgPWR 8 s)
  else
    let fault := isF pgPWR PWR.ST_rail_fault s
    let s1 := setF pgPWR PWR.DCMD_target t (setF pgPWR PWR.ST_rail_fault 0
      (if fault then setF pgPWR PWR.RAILS_good 0 s else s))
    let cur := dstate s
    let move := fun (s : State) => setF pgPWR PWR.DSTAT_busy 1 { s with pwr := { s.pwr with moveFrom := cur } }
    if t = 3 then (.success, if s.pwr.mainRun then move (powerDown s1) else s1)
    else if s.pwr.mainRun then (.success, if cur = t then setF pgPWR PWR.DSTAT_busy 0 s1 else move s1)
    else if vinSideMay s1 then (.success, move (powerUp (if fault then 0x0D else 0x0B) s1))
    else (.success, s1)

def execDcmd (r : Req) (target : BitVec 2) (s : State) : Host.Outcome State Fault Refusal :=
  .next (asWrite r pgPWR 0x100 (dcmdOp target.toNat) s)

/-- DSTATE_CHANGED (R475, R476): the move completes; an exit's measured time is kept. -/
def dstateChangedOp (us : Nat) (s : State) : State :=
  if !isF pgPWR PWR.DSTAT_busy s then s
  else
    let t := getF pgPWR PWR.DCMD_target s
    let old := s.pwr.moveFrom
    let s1 := setF pgPWR PWR.DSTAT_prev old (setF pgPWR PWR.DSTAT_state t (setF pgPWR PWR.DSTAT_busy 0 s))
    let s2 := if t < old then setF pgPWR PWR.DSTAT_last_exit_us us s1 else s1
    let s3 := if !s.pwr.mainRun then s2
      else if t = 2 then enterD2 s2
      else if old = 1 ∨ old = 2 then settleEngines (leaveLow old s2)
      else settleEngines s2
    raise pgPWR 0 s3

def execDstateChanged (us : BitVec 16) (s : State) : Host.Outcome State Fault Refusal := .next (dstateChangedOp us.toNat s)

/-! ## Measurement (R454, R481) -/

/-- what a measurement shows, in mV and mA, and adds to annals counter 1, in joules (R454, R481). -/
def measured (vinMv vinMa sbyMv sbyMa : Nat) (s : State) : State :=
  let uw := vinMv * vinMa + sbyMv * sbyMa
  let e := s.hlt.energyFrac + uw
  let s1 := setF pgPWR PWR.VIN_mv vinMv (setF pgPWR PWR.VIN_ma vinMa (setF pgPWR PWR.VSTBY_mv sbyMv (setF pgPWR PWR.VSTBY_ma sbyMa
    (setF pgPWR PWR.POWER_mw (min (2 ^ 20 - 1) (uw / 1000)) s))))
  annalsAdd 1 (e / 10 ^ 10) { s1 with hlt := { s1.hlt with energyFrac := e % 10 ^ 10 } }

/-- the measurement of VIN fails (R488): vin_good is 0, the VIN side off, PWR in FAULT with reason 0x0A. -/
def measureFails (s : State) : State :=
  toFault pgPWR 0x0A (powerDown (setF pgPWR PWR.ST_vin_good 0 s))

/-- POWER_MEASURE (R481, R488): every 100 µs; a measurement that succeeds again ends the fault of one that failed. [DEDUCED log 80] -/
def powerMeasureOp (vin : Option (Nat × Nat)) (sbyMv sbyMa : Nat) (s : State) : State :=
  match vin with
  | none => if act pgPWR s = stFAULT then s else measureFails s
  | some v =>
    measured v.1 v.2 sbyMv sbyMa
      (if act pgPWR s = stFAULT ∧ getF pgPWR HDR.ACT_reason s = 0x0A then setAct pgPWR stRUNNING 0 s else s)

def execPowerMeasure (vinMv : Option (BitVec 16)) (vinMa vstbyMv vstbyMa : BitVec 16) (s : State) :
    Host.Outcome State Fault Refusal :=
  .next (powerMeasureOp (vinMv.map (fun v => (v.toNat, vinMa.toNat))) vstbyMv.toNat vstbyMa.toNat s)

/-! ## Resets (R482 to R485) -/

/-- a standby or cold reset by `cause` (R482, R485); the sequence of R469 switches the VIN side off first. -/
def deviceReset (kind cause : Nat) (s : State) : State :=
  takeDeviceNumber (recordReset kind cause (fullReset (kind == 1) (powerDown s)))

/-- VSTBY_POWER_UP (R457, R466, R484, R485, R488): the standby reset ends, with the straps sampled and the annals loaded; after a
brown-out the cause stays the brown-out's. [DEDUCED log 83] -/
def vstbyPowerUpOp (bpos bootsel : Nat) (uncontrolled : Bool) (s : State) : State :=
  let brown := s.pwr.inReset && getF pgDEV DEV.RESET_CAUSE_cause s == 2
  let s1 := if brown then s else
    raise pgDEV 2 (setF pgDEV DEV.RESET_COUNT_count 0 (setF pgDEV DEV.RESET_CAUSE_kind 0
      (setF pgDEV DEV.RESET_CAUSE_cause 1 (fullReset false s))))
  let s2 := loadAnnals (sampleStraps bpos bootsel { s1 with pwr := { s1.pwr with inReset := false, upAt := s1.clk } })
  if uncontrolled then addF pgPWR PWR.UNCTRL_count 1 s2 else s2

def execVstbyPowerUp (bpos : Fin 8) (bootsel : Fin 4) (uncontrolled : Bool) (s : State) : Host.Outcome State Fault Refusal :=
  .next (vstbyPowerUpOp bpos.val bootsel.val uncontrolled s)

/-- a standby reset that holds until it is released. [DEDUCED log 83] -/
def heldReset (cause : Nat) (s : State) : State :=
  let s1 := deviceReset 0 cause s
  { s1 with pwr := { s1.pwr with inReset := true } }

/-- VSTBY_BROWNOUT (R482). -/
def execVstbyBrownout (s : State) : Host.Outcome State Fault Refusal := .next (heldReset 2 s)

/-- RESET_N_LOW (R466, R484): below 1 µs ignored, from 10 µs a reset, between as it was taken; unseen while VIO is out of its
range, which reads every receiver as inactive. [DEDUCED log 83] -/
def execResetNLow (ns : Nat) (taken : Bool) (s : State) : Host.Outcome State Fault Refusal :=
  .next (if !isF pgDEV DEV.ST_vio_ok s ∨ ns < 1000 ∨ (ns < 10000 ∧ !taken) then s else heldReset 3 s)

/-- RESET_RELEASE (R484): 50 µs after RESET_N rises, with the power-on reset over. -/
def execResetRelease (bpos : Fin 8) (bootsel : Fin 4) (s : State) : Host.Outcome State Fault Refusal :=
  .next (if s.pwr.inReset ∧ getF pgDEV DEV.RESET_CAUSE_cause s ≠ 2 then
    sampleStraps bpos.val bootsel.val (passTicks (50 * tickUs) { s with pwr := { s.pwr with inReset := false } }) else s)

/-- the CTRL write of DEV that resets: the response goes out first (R491). [DEDUCED log 83] -/
def devReset (r : Req) (op : State → State) (s : State) : State :=
  opStart r 3 (regAddr pgDEV 0x008) (fun s => op (sendAllResponses (reply r 0x83 (regAddr pgDEV 0x008) .success [] s))) s

def execStandbyReset (r : Req) (s : State) : Host.Outcome State Fault Refusal := .next (devReset r (deviceReset 0 4) s)

def execColdReset (r : Req) (s : State) : Host.Outcome State Fault Refusal := .next (devReset r (deviceReset 1 6) s)

/-- a warm reset (R53, R58, R482): every WRITE_AT entry is discarded, the device number recomputed, the main domain reset without
switching the VIN side. -/
def warmOp (cause : Nat) (f : BootFinds) (s : State) : State := restartMain 2 cause false f (takeDeviceNumber (discardWats s))

def execWarmReset (r : Req) (finds : BootFinds) (s : State) : Host.Outcome State Fault Refusal :=
  .next (devReset r (warmOp 7 finds) s)

/-- MAIN_WATCHDOG (R482, R491): while the watchdog is on and a main image runs. -/
def execMainWatchdog (finds : BootFinds) (s : State) : Host.Outcome State Fault Refusal :=
  .next (if getF pgDEV DEV.WDOG_timeout_ms s ≠ 0 ∧ s.pwr.mainRun ∧ s.fwl.stage = 6 then warmOp 8 finds s else s)

/-- MGMT_WATCHDOG (R482). -/
def execMgmtWatchdog (s : State) : Host.Outcome State Fault Refusal :=
  .next (if s.pwr.inReset then s else deviceReset 0 5 s)

/-! ## VIO (R466, R488, R497) -/

/-- VIO_FAULT: the low-speed pins are Hi-Z, TIMEREF stops at its pin. -/
def execVioFault (s : State) : Host.Outcome State Fault Refusal :=
  .next (if isF pgDEV DEV.ST_vio_ok s then timerefLostAll (raise pgDEV 3 (setF pgDEV DEV.ST_vio_ok 0 s)) else s)

/-- VIO_RETURN. -/
def execVioReturn (s : State) : Host.Outcome State Fault Refusal := .next (setF pgDEV DEV.ST_vio_ok 1 s)

/-! ## Uncorrectable errors in a unit's state (R32) -/

/-- UNCORRECTABLE_STATE_ERROR (R32 and the failure table of each chapter). [DEDUCED log 85] -/
def stateErrorOp (p : Nat) (s : State) : State :=
  if (blockOf p).isNone ∨ (!s.pwr.mainRun ∧ !standbyPage p) then s
  else match blockOf p with
    | some .enc => coreFaultOp (p - Block.first .enc) 8 s
    | some .dec => if act p s = stFAULT then s else decodeCoreFaultOp (p - Block.first .dec) true s
    | some .izl =>
      if act p s = stRUNNING then izlDown (p - Block.first .izl) stSTARTING 5 s
      else if act p s = stSTARTING then toFault p 8 s else s
    | some .stk => stackErrorOp .freeList s
    | some .hlt => toFault p 8 { s with hlt := { s.hlt with stocktakeDead := true } }
    | some .pwr => toFault p 8 (powerDown { s with pwr := { s.pwr with fatal := true } })
    | some .rcl | some .dev | some .hap | some .fwl => setF p HDR.ACT_reason 8 s
    | _ => unitFault p 8 s

def execUncorrectableStateError (page : BitVec 20) (s : State) : Host.Outcome State Fault Refusal :=
  .next (stateErrorOp page.toNat s)

/-! ## The output pins (R367, R451, R453, R471, R474, R486, R488) -/

/-- a configurable output: undriven, driven inactive or driven active. -/
inductive Pin where
  | hiZ | inactive | active
  deriving DecidableEq, Repr

/-- a pin that shows `c` while VIO is good and no standby reset holds: as push-pull if `push`, which PIN_DRV says, else as
open-drain, which an inactive signal leaves undriven (R486). [DEDUCED log 86] -/
def pin (push c : Bool) (s : State) : Pin :=
  if !isF pgDEV DEV.ST_vio_ok s || s.pwr.inReset then .hiZ else if c then .active else if push then .inactive else .hiZ

/-- PWR_GOOD: every rail in regulation and the main domain out of reset. [DEDUCED log 86] -/
def pinPwrGood (s : State) : Pin := pin (isF pgDEV DEV.PIN_DRV_pwr_good s) (s.pwr.mainRun && getF pgPWR PWR.RAILS_good s == 0xFF) s

/-- FAULT_N: a stocktake failure held, stocktake stopped, a shutdown, a rail fault, the AVS limit, the sequencer's own error, or a
boot that found no loader or no key section (R442). [DEDUCED log 86] -/
def pinFaultN (s : State) : Pin :=
  pin (isF pgDEV DEV.PIN_DRV_fault_n s) (s.hlt.faultHeld || s.hlt.stocktakeDead || isF pgHLT HLT.ST_shutdown s || isF pgPWR PWR.ST_rail_fault s ||
    isF pgPWR PWR.ST_avs_limit s || s.pwr.fatal || act pgDEV s == stFAULT) s

/-- THERM_N: while throttling, and while a shutdown is latched. [DEDUCED log 86] -/
def pinThermN (s : State) : Pin := pin (isF pgDEV DEV.PIN_DRV_therm_n s) (isF pgHLT HLT.ST_throttle s || isF pgHLT HLT.ST_shutdown s) s

/-- QFC0 to QFC3: undriven without the main domain. [DEDUCED log 86] -/
def pinQfc (n : Nat) (s : State) : Pin :=
  if s.pwr.mainRun then pin ((getF pgDEV DEV.PIN_DRV_qfc s).testBit n) ((getF pgSTK STK.ST_qfc s).testBit n) s else .hiZ

end Sys2Proof.Machine
end

