-- ==== Sys2Proof/Machine/ShowA.lean ====
section
/-! DEFINITION. Sys2Proof/Machine/ShowA.lean: what the read-only fields of DEV, HAP, ING, CND, ENC, ECH, RCL, MUX and OUT show
where they follow from other state (R72, R84, R108, R110, R145, R147, R176 to R178, R199, R202, R491). -/

namespace Sys2Proof.Machine

/-- a bit as a register shows it. -/
def bit (b : Bool) : Nat := if b then 1 else 0

/-- a field of STATUS (R65). -/
def stField (lo width : Nat) : Fld := ⟨0x00C, lo, width, 0, .ro, .any⟩

/-- DEV (R277, R491): identity, straps, lock, main domain, retention store. -/
def showDev (s : State) : List (Fld × Nat) :=
  [(DEV.STEPPING_stepping, Config.stepping), (DEV.UID_uid, Config.uid), (stField 10 1, bit (timeLocked s)),
   (stField 12 1, getF pgPWR PWR.ST_main_on s)]

/-- HAP (R72). -/
def showHap (s : State) : List (Fld × Nat) := [(HAP.SESSIONS_open, s.hap.sessions.length)]

/-- the picture in the ring that MAP_PIC names (R106). -/
def mapSlot (i : Nat) (s : State) : Option RingSlot :=
  (ingOf i s).ring.find? (fun t => t.fedAs.map (fun n => n % 2 ^ 32) == some (getF (pgING i) ING.MAP_PIC_picture s))

/-- ING (R84, R106). -/
def showIng (i : Nat) (s : State) : List (Fld × Nat) :=
  [(ING.MAP_ENT_entry, match mapSlot i s with
     | some t => t.map.getD (getF (pgING i) ING.MAP_IDX_entry s) 0
     | none => 0),
   (stField 5 1, bit (mapSlot i s).isSome)]

/-- CND (R100, R104, R110): banks in use, committed load, outputs and paths active. -/
def showCnd (u : Nat) (s : State) : List (Fld × Nat) :=
  let p := pgCND u
  [(CND.LUT_USE_in_use, ((List.range 4).map (fun b => bit (bankInUse u b s) * 2 ^ b)).sum),
   (CND.LOAD_load_mpix, unitLoad u (inView s) / 1000000),
   (stField 0 16, ((List.range 16).map (fun m => bit (isF p (CND.OCTL_en m) s) * 2 ^ m)).sum),
   (stField 16 8, ((List.range 8).map (fun k => bit (isF p (CND.PATH_en k) s) * 2 ^ k)).sum)]

/-- ENC (R118, R145). [DEDUCED log 87] -/
def showEnc (p : Nat) (s : State) : List (Fld × Nat) :=
  let l := getF (pgENC p) ENC.ST_logical s
  [(ENC.LOAD_util_permille, (encLoad p s).2), (ENC.LOAD_load_mpix, (encLoad p s).1),
   (ENC.CHANS_chans, (((List.range 32).filter (fun c => echPlaced c s && decide (l < 16) &&
     (allocCores getCm c s).contains l)).map (fun c => 2 ^ c)).sum)]

/-- T of the committed configuration in ns, to the nearest (R125); none while the source gives no picture period (R147). [DEDUCED log 40] -/
def rowPeriodNs (c : Nat) (s : State) : Option Nat :=
  if echHasPeriod getCm c s ∧ codedLines getCm c s ≠ 0 then
    let per := echPeriod getCm c s
    let d := per.2 * codedLines getCm c s
    some ((ctuSize getCm c s * per.1 * 10 ^ 9 * 2 + d) / (2 * d))
  else none

/-- the latency constant: 2 × T + 40 µs, in frame-plus mode one picture period more (R128, R129), to the nearest ns. [DEDUCED log 40] -/
def latencyNs (c : Nat) (s : State) : Nat :=
  let per := echPeriod getCm c s
  let d := per.2 * codedLines getCm c s
  let lines := 2 * ctuSize getCm c s + (if getCm (pgECH c) ECH.LAT_frame_plus s = 1 then codedLines getCm c s else 0)
  (lines * per.1 * 10 ^ 9 * 2 + d) / (2 * d) + 40000

/-- ECH (R128, R147): the row period and the latency of a configuration that has been committed. [DEDUCED log 40] -/
def showEch (c : Nat) (s : State) : List (Fld × Nat) :=
  match if getF (pgECH c) ECH.ROWINFO_rows s = 0 then none else rowPeriodNs c s with
  | some t => [(ECH.ROWINFO_row_period_ns, min (2 ^ 24 - 1) t), (ECH.LAT_NS_latency_ns, min (2 ^ 32 - 1) (latencyNs c s))]
  | none => [(ECH.ROWINFO_row_period_ns, 0), (ECH.LAT_NS_latency_ns, 0)]

/-- RCL (R176). -/
def showRcl (s : State) : List (Fld × Nat) :=
  [(RCL.ACTIVE_groups, ((List.range 8).map (fun g => bit (act (pgMUX g) s == stRUNNING) * 2 ^ g)).sum)]

/-- MUX (R161, R167, R177, R178). -/
def showMux (g : Nat) (s : State) : List (Fld × Nat) :=
  let p := pgMUX g
  [(MUX.MEMBERS_chans, ((muxMembers g s).map (fun c => 2 ^ c)).sum), (MUX.SHARES_pool_share, poolShare g s),
   (MUX.SHARES_local_shares, localShares g s), (MUX.ALLOW_tokens, muxAllow g s), (stField 0 1, bit (muxHome g s)),
   (stField 2 1, bit (muxHome g s && getF p MUX.POOL_tokens s == getF p MUX.POOL_CAP_cap s))]

/-- a leg is up: enabled, and its port up (R202). -/
def legShown (p b port : Nat) (s : State) : Nat := bit (isF p (OLEG.en b) s && portUp port s)

/-- OUT (R179, R181, R199, R202): the segment that RING_SEL names. -/
def showOut (c : Nat) (s : State) : List (Fld × Nat) :=
  let p := pgOUT c
  let g := segOf c (getF p OUT.RING_SEL_col s) s
  [(OUT.RING_WP_offset, g.wp), (OUT.RING_RP_offset, g.rp), (OUT.RING_BM_offset, g.bm),
   (OUT.RING_PEAK_bytes, min (2 ^ 28 - 1) g.peak), (stField 0 1, bit (smallRing c s)),
   (stField 1 1, legShown p 0x180 0 s), (stField 2 1, legShown p 0x1C0 1 s),
   (stField 3 1, bit (!(outOf c s).recodes.isEmpty))]

end Sys2Proof.Machine
end

