-- ==== Sys2Proof/Machine/ShowB.lean ====
section
/-! DEFINITION. Sys2Proof/Machine/ShowB.lean: what the read-only fields of the other blocks show where they follow from other
state: decoding and senders, twin, time, lanes, ports, links, stacks, desk, HBM, firmware, health and power. -/

namespace Sys2Proof.Machine

/-- DEC (R204, R227): the load and the channels of the core as committed. -/
def showDec (k : Nat) (s : State) : List (Fld × Nat) :=
  let here := (List.range 16).filter (fun i => dchPlaced i s && (dchCores getCm i s).contains k)
  let load := (here.map (fun i => dchLoad getCm i s)).sum
  [(DEC.LOAD_util_permille, load * 5904 / (4096 * 1500000)), (DEC.LOAD_load_mpix, load / 1000000),
   (DEC.CHANS_chans, (here.map (fun i => 2 ^ i)).sum),
   (DEC.RATE_mbps, ((here.filter (fun i => getCm (pgDCH i) DCH.ALLOC_core s == k)).map
     (fun i => getCm (pgDCH i) DCH.RATE_max_mbps s)).sum)]

/-- the picture in a shelf slot (R209): the DPB slots first, then the hold slots, last the decode slot; and whether it is held. [PRESUMED log 52] -/
def shelfSlot (i k : Nat) (s : State) : Option (DecPic × Bool) :=
  let d := getF (pgDCH i) DCH.BUF_dpb s
  let h := getF (pgDCH i) DCH.BUF_hold s
  let x := dchOf i s
  if k < d then (SMap.find k x.dpb).map (fun q => (q, q.fedAs.isSome && !q.readers.isEmpty))
  else if k < d + h then (SMap.find (k - d) x.hold).map (fun q => (q, true))
  else if k = d + h then x.cur.map (fun c => (c.pic, false))
  else none

/-- the picture on the shelf that MAP_PIC names (R228, R229). [PRESUMED log 52] -/
def shelfMap (i : Nat) (s : State) : Option DecPic :=
  ((dchOf i s).hold.map Prod.snd ++ (dchOf i s).dpb.map Prod.snd).find? (fun q =>
    q.fedAs.map (fun n => n % 2 ^ 32) == some (getF (pgDCH i) DCH.MAP_PIC_picture s))

/-- DCH (R210, R219, R228, R229). -/
def showDch (i : Nat) (s : State) : List (Fld × Nat) :=
  let p := pgDCH i
  let e := shelfSlot i (getF p DCH.SHELF_SEL_slot s) s
  let show_ := fun (f : DecPic × Bool → Nat) => match e with | some x => f x | none => 0
  [(DCH.SHELF_ENT_mark, show_ (fun x => x.1.mark)), (DCH.SHELF_ENT_awaiting_output, show_ (fun x => bit x.1.awaiting)),
   (DCH.SHELF_ENT_held, show_ (fun x => bit x.2)), (DCH.SHELF_ENT_concealed, show_ (fun x => bit x.1.tainted)),
   (DCH.SHELF_ENT_poc, show_ (fun x => toTwos 24 x.1.poc)),
   (DCH.MAP_ENT_entry, match shelfMap i s with
     | some q => q.map.getD (getF p DCH.MAP_IDX_entry s) 0
     | none => 0),
   (stField 6 1, bit (shelfMap i s).isSome)]

/-- SND (R225, R231, R232): the rate of a sender that is enabled; it sends once its first picture has started. [DEDUCED log 54] -/
def showSnd (n : Nat) (s : State) : List (Fld × Nat) :=
  let p := pgSND n
  [(SND.RATE_mbps, if sndEnabled n s then sndRateBps n s / 1000000 else 0), (stField 1 1, legShown p 0x180 0 s),
   (stField 2 1, legShown p 0x1C0 1 s), (stField 3 1, bit (act p s == stRUNNING && (sndOf n s).last.isSome))]

/-- whole microseconds since tick `t`, at most 65,535; 65,535 with none. -/
def ageUs (t : Option Nat) (s : State) : Nat :=
  match t with | some t => min 65535 ((s.clk - t) / tickUs) | none => 65535

/-- TWN (R267, R268). [DEDUCED log 87] -/
def showTwn (s : State) : List (Fld × Nat) :=
  [(TWN.AGE_claim_age_us, ageUs s.twn.claimAt s), (TWN.AGE_hb_age_us, ageUs s.twn.hbAt s),
   (stField 3 1, getF pgTWN TWN.ROLE_partner_valid s),
   (stField 4 1, match s.twn.hbAt with
     | some t => bit (decide (s.clk - t ≤ 3 * getF pgTWN TWN.TIMING_hb_us s * tickUs))
     | none => 0)]

/-- the words of the time counter (R270, R272): ns, seconds, fraction. -/
def nowWords (count : Nat) : List (Fld × Nat) :=
  let ns := count / 2 ^ 32
  let sec := ns / 10 ^ 9
  [(TIM.NOW_NS_ns, ns % 10 ^ 9), (TIM.NOW_SEC_LO_sec, sec % 2 ^ 32), (TIM.NOW_SEC_HI_sec, sec / 2 ^ 32 % 2 ^ 16),
   (TIM.NOW_FRAC_frac, count % 2 ^ 32)]

/-- the seconds of a captured edge. -/
def CapEntry.sec (e : CapEntry) : Nat := e.stamp / 2 ^ 32 / 10 ^ 9

/-- the words of a capture FIFO (R284, R290): its oldest entry. [DEDUCED log 60] -/
def capWords (n : Nat) (s : State) : List (Fld × Nat) :=
  let e := (capsOf n s).head?
  let show_ := fun (f : CapEntry → Nat) => match e with | some x => f x | none => 0
  [(TIM.CAP_count n, (capsOf n s).length), (TIM.CAP_valid n, bit e.isSome), (TIM.CAP_rising n, show_ (fun x => bit x.rising)),
   (TIM.CAP_ns n, show_ (fun x => x.stamp / 2 ^ 32 % 10 ^ 9)), (TIM.CAP_sec n, show_ (fun x => x.sec % 2 ^ 32)),
   (TIM.CAP_sec_hi n, show_ (fun x => x.sec / 2 ^ 32 % 2 ^ 16)), (TIM.CAP_sub n, show_ CapEntry.eighths)]

/-- TIM (R270, R274, R281, R284, R286, R290, R291). -/
def showTim (s : State) : List (Fld × Nat) :=
  nowWords s.tim.count ++ (List.range 4).flatMap (fun n => capWords n s) ++
  [(TIM.RATE_adj, toTwos 32 (adjNow s)), (stField 5 1, bit (usable 0 s)), (stField 6 1, bit (usable 1 s)),
   (stField 12 1, bit (gmDiffers s))] ++
  (List.range 2).flatMap (fun i =>
    [(TIM.PORT_guard_left_ms i, if guardOpen i s then ((timPort i s).guardEnd - s.clk) / tickMs else 0),
     (TIM.PORT_txq_depth i, (timPort i s).txq.length)])

/-- LNE (R292, R296, R301, R309, R310). -/
def showLne (l : Nat) (s : State) : List (Fld × Nat) :=
  let p := pgLNE l
  [(LNE.CFG_kind, if l < 8 then 0 else if l < 16 then 1 else if l < 32 then 2 else 3), (LNE.CFG_owner_lane, laneIn l),
   (LNE.FFE_TAP_applied, getF p (LNE.FFE_APPLIED (getF p LNE.FFE_SEL_tap s)) s),
   (LNE.FFE_TAP_pin, getSh p (LNE.FFE_PIN (getF p LNE.FFE_SEL_tap s)) s),
   (stField 7 1, bit ([LNE.PIN_tx_fir, LNE.PIN_ctle, LNE.PIN_ffe, LNE.PIN_dfe].any (fun f => isF p f s))),
   (stField 11 1, bit (decide (s.clk < (laneOf l s).calEnd)))]

/-- ETH (R314, R315, R320, R330, R331). [DEDUCED log 65] -/
def showEth (i : Nat) (s : State) : List (Fld × Nat) :=
  let p := pgETH i
  let up := getF p ETH.SUBPORTS_up s
  [(ETH.MCAST_used, filterUsed i s), (ETH.SUBPORTS_active, (activeSubports i s).length), (stField 0 1, bit (up != 0)),
   (stField 1 1, bit (up != 0 && up == getF p ETH.SUBPORTS_present s)),
   (ETH.ST_rx_paused, bit ((ethOf i s).paused.any (fun e => decide (s.clk < e.2)))),
   (ETH.ST_lacp_ok, bit (isF p ETH.MODE_lacp s && up != 0 &&
     (List.range 8).all (fun k => !up.testBit k || (ethOf i s).inSync.contains k)))]

/-- the route table, this device first (R346, R353). -/
def routeTable (s : State) : List Route := ⟨deviceNumber s, 0, 0⟩ :: s.routes

/-- IZL (R343, R353, R354). -/
def showIzl (j : Nat) (s : State) : List (Fld × Nat) :=
  let p := pgIZL j
  let up := act p s == stRUNNING
  let most := getF p IZL.CFG_max_width s
  (List.range 8).flatMap (fun n => match (routeTable s)[n]? with
    | some r => [(IZL.ROUTE_valid n, 1), (IZL.ROUTE_device n, r.device), (IZL.ROUTE_link n, r.link), (IZL.ROUTE_hops n, r.hops)]
    | none => []) ++
  [(stField 0 1, bit up),
   (stField 1 1, bit (up && (decide (getF p IZL.WIDTH_rx_width s < most) || decide (getF p IZL.WIDTH_tx_width s < most))))]

/-- STK (R358, R365, R370, R371): the queue that QSEL names, and the pool. -/
def showStk (s : State) : List (Fld × Nat) :=
  let q := getF pgSTK STK.QSEL_queue s
  let x := queueOf q s
  let known := knownQueues s
  [(STK.SHARED_cells, sharedFree s), (STK.RESERVED_cells, reservedFree s), (STK.QCFG_enabled, bit (queueEnabled q s)),
   (STK.QCFG_min, if x.min < 8192 then x.min else 8191), (STK.QCFG_max, x.max), (STK.QWM_high, x.high / 4), (STK.QWM_low, x.low / 4),
   (STK.QMAP_prio_mask, x.prio), (STK.QMAP_qfc, x.qfc), (STK.QMAP_class, qClass q),
   (STK.QMAP_min_hi, if x.min < 8192 then 0 else x.min / 32), (STK.QCOUNT_frozen, bit x.frozen),
   (STK.QCOUNT_congested, bit x.congested), (STK.QCOUNT_cells, x.count), (STK.QPKTS_packets, x.pkts.length),
   (STK.QPEAK_cells, x.peak), (STK.QDROP_frames, x.drops),
   (stField 1 1, bit (decide (sharedFree s < getF pgSTK STK.POOL_ALARM_low_cells s))),
   (stField 2 1, bit (known.any (fun q => (queueOf q s).congested))), (stField 3 1, bit (known.any (fun q => (queueOf q s).frozen)))] ++
  (List.range 6).map (fun k => (STK.WSTALL_cycles k, stallCycles k s)) ++
  (List.range 32).map (fun n => (STK.CONG_queues n,
    ((List.range 32).map (fun b => bit (queueOf (32 * n + b) s).congested * 2 ^ b)).sum))

/-- CIR (R373, R382, R384, R387, R388): the core, queue and FIFO that CORE_SEL, HSQ_SEL and CPL_SEL name. -/
def showCir (s : State) : List (Fld × Nat) :=
  let c := deskCore (getF pgCIR CIR.CORE_SEL_core s) s
  let h := hostQ (getF pgCIR CIR.HSQ_SEL_queue s) s
  let f := (hostQ (getF pgCIR CIR.CPL_SEL_queue s) s).fifo
  let run := fun (g : RunSlip → Nat) => match c.run with | some r => g r | none => 0
  let rec_ := fun (g : CplRec → Nat) => match f.head? with | some x => g x | none => 0
  [(CIR.FREE_slips, freeSlips s), (CIR.QUEUED_slips, (queuedSlips s).length), (CIR.READY_slips, (readySlips s).length),
   (CIR.PREFETCHED_slips, (prefetchedSlips s).length), (CIR.RUNNING_slips, (runningSlips s).length)] ++
  (List.range 4).flatMap (fun i => [(CIR.READYC_odd i, (readyList (2 * i + 1) s).length),
    (CIR.READYC_even i, (readyList (2 * i) s).length)]) ++
  [(CIR.CORE_CFG_en, bit c.en), (CIR.CORE_CFG_class_mask, c.mask),
   (CIR.CORE_STAT_state, if c.phase = 0 then bit c.run.isSome else c.phase), (CIR.CORE_STAT_run_class, run (fun r => r.slip.cls)),
   (CIR.CORE_STAT_pf_valid, bit c.pf.isSome), (CIR.CORE_STAT_pf_class, match c.pf with | some x => x.cls | none => 0),
   (CIR.CORE_STAT_run_slip, run (fun r => r.slip.no)), (CIR.HSQ_CFG_en, bit h.en), (CIR.HSQ_CFG_class_max, h.classMax),
   (CIR.HSQ_CFG_inflight_max, h.inflightMax), (CIR.HSQ_CFG_depth, h.depth),
   (CIR.HSQ_STAT_stalls, stallsNow (getF pgCIR CIR.HSQ_SEL_queue s) s), (CIR.HSQ_STAT_inflight, h.inflight),
   (CIR.HSQ_STAT_held, h.held.length), (CIR.CPL_STAT_valid, bit (!f.isEmpty)), (CIR.CPL_STAT_count, f.length - 1),
   (CIR.CPL_STAT_status, rec_ CplRec.status), (CIR.CPL_STAT_core, rec_ CplRec.core), (CIR.CPL_STAT_result, rec_ CplRec.result),
   (CIR.CPL_TAG_tag, rec_ CplRec.tag), (CIR.HW_STALL_cycles, hwStallNow s),
   (CIR.ST_ready, bit (!([stRESET, stSTARTING].contains (act pgCIR s)) && s.pwr.mainRun)),
   (stField 1 1, bit (decide (freeSlips s ≤ getF pgCIR CIR.RESERVE_host_floor s))),
   (stField 2 1, bit ((List.range 8).any (fun k => unserved k s))),
   (stField 3 6, (deskCores.filter (fun k => (deskCore k s).phase == 3)).length)]

/-- HBM (R390, R391, R395, R405, R406): the pseudo-channel and the requester that PC_SEL and RQ_SEL name. -/
def showHbm (i : Nat) (s : State) : List (Fld × Nat) :=
  let w := pcStat i s
  let r := rqStat i s
  [(HBM.PC_STAT_state, bitsOf 29 3 w), (HBM.PC_STAT_spares, bitsOf 27 2 w), (HBM.PC_STAT_inorder, bitsOf 21 6 w),
   (HBM.PC_STAT_debt, bitsOf 16 5 w), (HBM.PC_STAT_committed_mbps, bitsOf 0 16 w),
   (HBM.ECC_CORR_bursts, (pcOf i (getF (pgHBM i) HBM.PC_SEL_pc s) s).corr),
   (HBM.ECC_UNCORR_bursts, pcCount i (getF (pgHBM i) HBM.PC_SEL_pc s) 0 s),
   (HBM.RH_HITS_count, pcCount i (getF (pgHBM i) HBM.PC_SEL_pc s) 1 s),
   (HBM.SR_ABORTS_count, pcCount i (getF (pgHBM i) HBM.PC_SEL_pc s) 2 s),
   (HBM.REPAIRS_count, pcCount i (getF (pgHBM i) HBM.PC_SEL_pc s) 3 s), (HBM.RQ_STAT_throttled, bitsOf 31 1 r),
   (HBM.RQ_STAT_allotment, bitsOf 8 7 r), (HBM.RQ_STAT_outstanding, bitsOf 0 7 r), (HBM.HOT_US_us, hotUs i s),
   (stField 3 1, bit ((List.range 32).any (fun p => sparesLeft i p s == 0))),
   (stField 4 1, bit ((hbmOf i s).pcs.any (fun e => !e.2.throttled.isEmpty)))]

/-- PWR (R477, R478, R489): the tolerance that WAKE_SEL names, the unit that UNIT_SEL names. -/
def showPwr (s : State) : List (Fld × Nat) :=
  let c := getF pgPWR PWR.UNIT_SEL_class s
  let u := getF pgPWR PWR.UNIT_SEL_instance s
  [(PWR.WAKE_TOL_tol_us, SMap.get 0xFFFFFF (getF pgPWR PWR.WAKE_SEL_kind s * 64 + getF pgPWR PWR.WAKE_SEL_index s) s.pwr.tol),
   (PWR.UNIT_STAT_ustate, unitShown c u s), (PWR.UNIT_STAT_eff_tol_us, if c < 6 then effTol c u s else 0xFFFFFF)]

/-- FWL (R423, R443, R444): the provenance slots, 12 words each, word 0 most significant. -/
def showFwl (s : State) : List (Fld × Nat) :=
  [(stField 3 1, getF pgFWL FWL.LOCK_held s),
   (stField 7 1, bit (decide (getF pgFWL FWL.FLOOR_MAIN s < getF pgFWL FWL.IMAGE_SVN_svn s)))] ++
  (List.range 96).map (fun k => (⟨0x200 + 4 * k, 0, 32, 0, .ro, .any⟩,
    fieldAt (4 * (k % 12)) 4 (SMap.get [] (k / 12) s.fwl.prov)))

/-- HLT (R446, R450, R454, R456, R457, R461, R462). [DEDUCED log 87] -/
def showHlt (s : State) : List (Fld × Nat) :=
  let k := getF pgHLT HLT.ANN_IDX_index s
  [(HLT.ANN_VAL_value, annal k s + (if k = 0 then s.clk / tickS - s.hlt.lastWrite / tickS else 0)), (HLT.ANN_SEQ_seq, s.hlt.ann.seq),
   (HLT.CALENDAR_locked, bit s.hlt.ann.calLocked), (HLT.CALENDAR_tai_s, s.hlt.ann.calendar),
   (stField 4 1, bit (s.pwr.mainRun && !(List.range 17).any (fun q => isF (pgENC q) ENC.ST_spare s)))] ++
  (List.range 16).map (fun k => (⟨0x1A0 + 4 * k, 0, 32, 0, .ro, .any⟩, stockWord k s))

/-- the fields of page `p` that follow from other state. [DEDUCED log 87] -/
def shown (p : Nat) (s : State) : List (Fld × Nat) :=
  match blockOf p with
  | none => []
  | some b =>
    let i := p - b.first
    match b with
    | .dev => showDev s | .hap => showHap s | .eth => showEth i s | .lne => showLne i s | .izl => showIzl i s
    | .twn => showTwn s | .tim => showTim s | .ing => showIng i s | .cnd => showCnd i s | .enc => showEnc i s
    | .ech => showEch i s | .rcl => showRcl s | .mux => showMux i s | .out => showOut i s | .dec => showDec i s
    | .dch => showDch i s | .snd => showSnd i s | .stk => showStk s | .cir => showCir s | .hbm => showHbm i s
    | .chk => [] | .pwr => showPwr s | .fwl => showFwl s | .hlt => showHlt s

end Sys2Proof.Machine
end

