-- ==== Sys2Proof/Machine/RegAccess.lean ====
section
/-! DEFINITION. Sys2Proof/Machine/RegAccess.lean: what a register reads as, and what a read and a write of it do (R7 to R9, R20,
R25, R26, R28, R49, R62 to R68, R511). -/

namespace Sys2Proof.Machine

/-! ## The header (R62 to R68) -/

/-- PAGE_CAPS.block_caps (R64 and the blocks' chapters). -/
def blockCaps (b : Block) (i : Nat) : Nat :=
  match b with
  | .ing => if i < 32 then 1 else 0
  | .ech | .out | .dec | .dch => 3
  | .eth => if i < 2 then 1 else 2
  | .lne => if i < 16 then 1 else if i < 32 then 3 else 4
  | _ => 0

/-- STATE_AGE (R28). -/
def stateAge (p : Nat) (s : State) : Nat :=
  let pp := if hasState p then mismatchPp p s else 0
  (if 2 ≤ pp then 2 ^ 31 else 0) + pp * 2 ^ 24 + min (2 ^ 24 - 1) ((s.clk - SMap.get s.pwr.resetAt p s.actAt) / tickMs)

/-- CFG_GEN (R68). -/
def cfgGen (p : Nat) (s : State) : Nat :=
  bit (dirty p s) * 2 ^ 29 + bit (pendingGen p s) * 2 ^ 28 + getF p HDR.gen_applied s * 2 ^ 12 + getF p HDR.gen_committed s

/-- a word of the common header but STATUS (R25, R26, R62 to R68). [DEDUCED log 20, 87] -/
def headerWord (p off : Nat) (s : State) : Nat :=
  match blockOf p with
  | none => 0
  | some b =>
    if off = 0x000 then b.first * 2 ^ 20 + (p - b.first) * 2 ^ 12 + Config.layout b.first % 2 ^ 8
    else if off = 0x004 then
      bit b.hasState * 2 ^ 31 + bit b.hasShadow * 2 ^ 30 + bit b.watPicture * 2 ^ 29 + blockCaps b (p - b.first)
    else if off = 0x010 then bitWord HDR.EVENT p s
    else if off = 0x014 then bitWord HDR.EVENT_EN p s
    else if off = 0x01C then eventFirst p s
    else if off = 0x020 then cfgGen p s
    else if off = 0x024 then (if b.hasState then getSh p HDR.CMD_state s else act p s)
    else if off = 0x028 then
      getF p HDR.ACT_changes s * 2 ^ 16 + getF p HDR.ACT_reason s * 2 ^ 8 + getF p HDR.ACT_prev s * 2 ^ 4 + act p s
    else if off = 0x02C then stateAge p s
    else 0

/-! ## Block registers -/

/-- fields that the page lacks though its block has them: they read 0 and ignore writes (R106, R107, R330). -/
def fieldAbsent (p : Nat) (f : Fld) : Bool :=
  (decide (pgING 32 ≤ p) && decide (p ≤ pgING 63) && ((decide (0x300 ≤ f.off) && decide (f.off < 0x380)) || f == ING.ANC_anc_en)) ||
  (p == pgETH 2 && (f == ETH.MODE_split || f == ETH.MODE_cr || f == ETH.MODE_lacp || f.off == 0x138 || f.off == 0x140))

/-- the fields of the page's block registers and STATUS. -/
def pageFields (p : Nat) : List Fld :=
  match blockOf p with
  | none => []
  | some b => b.rows.filter (fun f => !fieldAbsent p f)

/-- part of the field lies in the word at `off`. -/
def coversWord (f : Fld) (off : Nat) : Bool := decide (f.off ≤ off) && decide (8 * off < f.loc + f.width)

/-- what a field that holds `v` shows in the word at `off`; a 64-bit pair has its low word first (R20). -/
def portion (f : Fld) (off v : Nat) : Nat := v % 2 ^ f.width * 2 ^ f.lo / 2 ^ (8 * (off - f.off)) % 2 ^ 32

/-- what a field reads as: an RWC field its shadow, a WO field 0 (R9). -/
def fieldReads (p : Nat) (f : Fld) (s : State) : Nat :=
  match f.acc with
  | .wo => 0
  | .rwc => getSh p f s
  | _ => getF p f s

/-- the word at `off` from the fields that lie in it: those that follow from other state, and the rest. [DEDUCED log 7] -/
def fieldWord (p off : Nat) (s : State) : Nat :=
  let sh := (shown p s).filter (fun e => coversWord e.1 off)
  let rest := (pageFields p).filter (fun f => coversWord f off && !sh.any (fun e => e.1.loc == f.loc))
  (sh.map (fun e => portion e.1 off e.2)).sum + (rest.map (fun f => portion f off (fieldReads p f s))).sum

/-- the two words of PORT.gm_id, the only pair with its most significant word first (R290). [DEDUCED log 10] -/
def swapPair (p off : Nat) : Nat :=
  if p ≠ pgTIM then off
  else if off = 0x188 ∨ off = 0x1C8 then off + 4
  else if off = 0x18C ∨ off = 0x1CC then off - 4
  else off

/-- The word at `off` of page `p`, as it is without the effects of a read: reserved, unassigned and unaligned offsets read 0 (R8). -/
def regWord (p off : Nat) (s : State) : Nat :=
  if off % 4 ≠ 0 then 0
  else if off = 0x00C ∨ 0x100 ≤ off then fieldWord p (swapPair p off) s
  else headerWord p off s

/-! ## Reads (R9, R20, R272) -/

/-- the low word of a 64-bit pair read as R20 says. [DEDUCED log 10] -/
def pairLow (p off : Nat) : Bool :=
  (pageFields p).any (fun f => f.off == off && f.lo == 0 && decide (32 < f.width) && !(p == pgTIM))

/-- the registers whose read has an effect of its own: the word and the state after. -/
def readAction (r : Req) (p off : Nat) (s : State) : Option (Nat × State) :=
  match blockOf p with
  | some .ech =>
    if off = 0x138 then some (regWord p off s, setF p ECH.DEPART_ERR_max_late_ns 0 s) else none
  | some .lne => if off = 0x124 then some (regWord p off s, setF p LNE.FOM_snr_min 0xFF s) else none
  | some .stk => if off = 0x114 then some (regWord p off s, setF p STK.FREE_LOW_cells (freeCells s) s) else none
  | some .cir =>
    if off = 0x148 then some (hsqStatOp s) else if off = 0x154 then some (cplStatOp r s) else none
  | some .hbm => if off = 0x120 then some (tempReadOp (p - Block.first .hbm) s) else none
  | some .hlt => if off = 0x124 then some (regWord p off s, setF p HLT.TJ_max_c 0 s) else none
  | some .tim =>
    if off = 0x120 then
      some (regWord p off s, [0x124, 0x128, 0x12C].foldl (fun t o => latchWord r (regAddr p o) (regWord p o s) t) s)
    else if off = 0x1A8 then some (regWord p off s, setF p (TIM.PORT_txq_hwm 0) 0 s)
    else if off = 0x1E8 then some (regWord p off s, setF p (TIM.PORT_txq_hwm 1) 0 s)
    else match (List.range 4).find? (fun n => off == 0x204 + 0x10 * n) with
      | none => none
      | some n =>
        let s1 := setTim { s.tim with caps := SMap.set [] n (capsOf n s).tail s.tim.caps } s
        some (regWord p off s,
          [off + 4, off + 8].foldl (fun t o => latchWord r (regAddr p o) (regWord p o s) t) s1)
  | _ => none

/-- A read of one register that answers: its effect if it has one, the word latched for the session if there is one, otherwise
the word as it is, the low word of a pair latching the high one (R20). -/
def readReg (r : Req) (p off : Nat) (s : State) : Nat × State :=
  match readAction r p off s with
  | some x => x
  | none =>
    match takeLatch r (regAddr p off) s with
    | some x => x
    | none =>
      (regWord p off s, if pairLow p off then latchWord r (regAddr p (off + 4)) (regWord p (off + 4) s) s else s)

/-! ## Writes (R9, R49, R511) -/

/-- A write reaches the plain fields of the word: RW and WO values out of range make the whole write invalid, an RWC shadow
takes any value (R9, R511). [DEDUCED log 7, 8] -/
def plainWrite (p off v : Nat) (s : State) : Status × State :=
  let l := (pageFields p).filter (fun f => f.off == off && (f.acc == .rw || f.acc == .rwc || f.acc == .wo))
  if l.any (fun f => f.acc != .rwc && !f.rng.ok (bitsOf f.lo f.width v)) then (.invalidValue, s)
  else (.success, l.foldl (fun s f => match f.acc with
    | .rw => setF p f (bitsOf f.lo f.width v) s
    | .rwc => setSh p f (bitsOf f.lo f.width v) s
    | _ => s) s)

/-- what one bit of a written word starts, if it is 1. [DEDUCED log 19] -/
def onBit (k v : Nat) (op : State → Status × State) (x : Status × State) : Status × State :=
  if v.testBit k then (match x.1 with | .success => op x.2 | st => (st, (op x.2).2)) else x

/-- an action that always succeeds. -/
def always (op : State → State) (s : State) : Status × State := (.success, op s)

/-- a write of EVENT_SET: reserved bits are ignored (R8, R66). -/
def eventSetOp (p v : Nat) (s : State) : State := raiseWord p (Nat.land v (eventMask p)) s

/-- a write of the header (R25, R65, R66, R68, R70). [DEDUCED log 19] -/
def headerWrite (p off v : Nat) (s : State) : Status × State :=
  if off = 0x008 then onBit 31 v (unitResetOp p) (.success, s)
  else if off = 0x010 then (.success, clearEvents p v s)
  else if off = 0x014 then
    (.success, (List.range 32).foldl (fun s k => setF p (HDR.EVENT_EN k) (Nat.land v (eventMask p) / 2 ^ k % 2) s) s)
  else if off = 0x018 then (.success, eventSetOp p v s)
  else if off = 0x020 then
    if v.testBit 31 then commitOp p s else if v.testBit 30 then (.success, discardShadows p s) else (.success, s)
  else if off = 0x024 then
    if !hasState p then (.success, s)
    else if commandable (v % 16) then (.success, setSh p HDR.CMD_state (v % 16) s) else (.invalidValue, s)
  else (.success, s)

/-- a write of WAT_CANCEL (R58). -/
def watCancelOp (slot : Nat) (s : State) : Status × State :=
  match SMap.find slot s.hap.wats with
  | none => (.tooLate, s)
  | some _ => (.success, watWithdraw slot s)

/-- the operation comes from a unicast session (R73). [DEDUCED log 18] -/
def unicast (r : Req) : Bool := match r.origin with | .session _ => true | _ => false

/-- DKEY_CTRL.load (R72): the staged key becomes active and the domain replay window starts anew. [DEDUCED log 18] -/
def dkeyLoadOp (s : State) : State :=
  let key := (List.range 8).foldl (fun n i => n * 2 ^ 32 + getF pgHAP (HAP.DKEY_key i) s) 0
  { s with hap := { s.hap with dkey := some key, domHigh := 0, domSeen := [] } }

/-- a write of a HAP register with an action of its own (R58, R72, R73). -/
def hapWrite (r : Req) (off v : Nat) (s : State) : Status × State :=
  if off = 0x118 then watCancelOp (v % 256) s
  else if 0x140 ≤ off ∧ off ≤ 0x160 then
    if !unicast r then (.accessDenied, s)
    else if off = 0x160 then onBit 0 v (always dkeyLoadOp) (.success, s)
    else (.success, setF pgHAP (HAP.DKEY_key ((off - 0x140) / 4)) v s)
  else plainWrite pgHAP off v s

/-- ING (R94, R106, R108). -/
def ingWrite (i off v : Nat) (s : State) : Status × State :=
  let p := pgING i
  if off = 0x128 then
    onBit 31 v (always (slateCaptureOp i)) (onBit 30 v (always (slateCopyOp i (v % 64))) (plainWrite p off v s))
  else if off = 0x430 ∨ off = 0x470 ∨ off = 0x4B0 then
    (plainWrite p off v s).map id (setF p (FCNT.drop_by_reason (off - 0x30)) 0)
  else plainWrite p off v s

/-- STK (R359, R368, R370): the queue that QSEL names. -/
def stkWrite (r : Req) (off v : Nat) (s : State) : Status × State :=
  if off = 0x120 then qcfgOp r v s
  else if off = 0x124 then qwmOp r v s
  else if off = 0x128 then qmapOp r v s
  else if off = 0x134 then onBit 31 v (always qpeakClearOp) (.success, s)
  else if off = 0x140 then onBit 31 v rebuildOp (.success, s)
  else plainWrite pgSTK off v s

/-- CIR (R374, R377, R383, R387). -/
def cirWrite (off v : Nat) (s : State) : Status × State :=
  if off = 0x104 then
    if bitsOf 16 13 v < bitsOf 0 13 v ∨ 3072 < bitsOf 16 13 v then (.invalidValue, s)
    else (plainWrite pgCIR off v s).map id (settleFloor s)
  else if off = 0x134 then (.success, coreCfgOp v s)
  else if off = 0x144 then
    match (plainWrite pgCIR off v s).1 with
    | .success => (.success, hsqCfgOp v s)
    | st => (st, s)
  else if off = 0x164 then onBit 31 v (always (cancelOp (v % 16))) (.success, s)
  else plainWrite pgCIR off v s

/-- a write of half of a 64-bit pair of a check unit: the low word waits for the high one (R416). [DEDUCED log 74] -/
def chkPair (k off v : Nat) (f : Fld) (s : State) : Status × State :=
  let p := pgCHK k
  if chkClosed k s then (.invalidValue, s)
  else if off = f.off then (.success, modChk k (fun x => { x with lows := SMap.put off v x.lows }) s)
  else
    let n := v * 2 ^ 32 + SMap.get (getF p f s % 2 ^ 32) f.off (chkOf k s).lows
    if f = CHK.POLY_poly ∧ !polyOk k n s then (.invalidValue, s)
    else (.success, setF p f n (modChk k (fun x => { x with lows := SMap.drop f.off x.lows }) s))

/-- CHK (R410, R414, R416). -/
def chkRegWrite (r : Req) (k off v : Nat) (s : State) : Status × State :=
  let p := pgCHK k
  match [CHK.POLY_poly, CHK.INIT_init, CHK.XOROUT_xorout, CHK.FOLD_value].find? (fun f => off == f.off || off == f.off + 4) with
  | some f => chkPair k off v f s
  | none =>
    if off = 0x100 then (if chkClosed k s then (.invalidValue, s) else plainWrite p off v s)
    else if off = 0x124 then onBit 30 v (chkFinishOp k (v % 4)) (onBit 31 v (chkStartOp k) (.success, s))
    else if off = 0x128 then chkDataOp k v s
    else if off = 0x138 then streamOp r k v s
    else plainWrite p off v s

/-- the units of a class: encode cores, decode cores, conditioning units, pseudo-channels, lanes, Obrov cores (R489). -/
def unitsIn (cls : Nat) : Nat := [17, 8, 4, 64, 33, 48].getD cls 0

/-- PWR (R473, R474, R476, R478, R489): WAKE_SEL and UNIT_SEL take only an entry, or a unit, that there is (R511). [DEDUCED log 8] -/
def pwrWrite (off v : Nat) (s : State) : Status × State :=
  if off = 0x100 then dcmdOp (v % 4) s
  else if off = 0x108 then avsWrite avsCore v s
  else if off = 0x10C then avsWrite avsFab v s
  else if off = 0x118 ∧ wakeKinds (v / 64 % 4) ≤ v % 64 then (.invalidValue, s)
  else if off = 0x11C then wakeTolWrite v s
  else if off = 0x120 ∧ unitsIn (v / 2 ^ 16 % 16) ≤ v % 128 then (.invalidValue, s)
  else plainWrite pgPWR off v s

/-- A write of a block register. [DEDUCED log 19] -/
def blockWrite (r : Req) (p off v : Nat) (s : State) : Status × State :=
  match blockOf p with
  | none => (.invalidAddress, s)
  | some b =>
    let i := p - b.first
    let plain := plainWrite p off v s
    match b with
    | .hap => hapWrite r off v s
    | .ing => ingWrite i off v s
    | .cnd => if off = 0x188 then lutWriteOp i (v % 2 ^ 16) s else plain
    | .enc => if off = 0x108 then onBit 31 v (always (setF p ENC.SLACK_slack_min_ns 0xFFFFFF)) (.success, s) else plain
    | .out => if off = 0x140 then onBit 31 v (always (ringPeakClear i)) (.success, s) else plain
    | .twn => if off = 0x110 then
        onBit 29 v (always yieldAbortOp) (onBit 30 v (always handoverOp) (onBit 31 v (always yieldOp) (.success, s))) else plain
    | .tim => if off = 0x11C then onBit 30 v (always revertOp) (onBit 31 v stepGrantOp (.success, s)) else plain
    | .lne =>
      if off = 0x11C then (.success, setSh p (LNE.FFE_PIN (getF p LNE.FFE_SEL_tap s)) (v % 2 ^ 16) s)
      else if off = 0x12C then onBit 31 v (retrainOp i) (.success, s)
      else plain
    | .eth => if off = 0x218 then (.success, setF p ETH.DROP_BY_REASON_frames 0 plain.2) else plain
    | .dch => if off = 0x430 then plain.map id (setF p (FCNT.drop_by_reason 0x400) 0) else plain
    | .stk => stkWrite r off v s
    | .cir => cirWrite off v s
    | .chk => chkRegWrite r i off v s
    | .fwl => if off = 0x130 then onBit 31 v catalogueSaveOp (.success, s) else plain
    | .hlt =>
      if off = 0x120 then onBit 30 v annFlushOp (onBit 31 v rearmOp (.success, s))
      else if off = 0x14C then treqOp v s
      else if off = 0x190 then onBit 0 v snapClrOp (.success, s)
      else plain
    | .pwr => pwrWrite off v s
    | _ => plain

/-- A write of one register that answers; reserved, unassigned and unaligned offsets ignore it (R8). [DESIGN CHOICE log 6] -/
def writeReg (r : Req) (p off v : Nat) (s : State) : Status × State :=
  if off % 4 ≠ 0 then (.success, s)
  else if off < 0x100 then headerWrite p off v s
  else blockWrite r p off v s

/-- the word that WRITE_MASKED writes (R49): of EVENT, only bits set in both the mask and the value. -/
def maskedWord (p off mask v : Nat) (s : State) : Nat :=
  if off = 0x010 then Nat.land mask v
  else Nat.lor (Nat.ldiff (regWord p off s) mask) (Nat.land v mask)

/-! ## The reset bits of DEV (R482, R491) -/

/-- the write resets the device. -/
def resetsDevice (p off v : Nat) : Bool := p == pgDEV && off == 0x008 && v % 8 != 0 && !v.testBit 31

/-- a fresh free value that stands for what the boot finds. [DESIGN CHOICE log 31, 76] -/
def drawFinds (s : State) : BootFinds × State :=
  let x := drawFree s
  (⟨x.1.testBit 0, x.1.testBit 1, x.1.testBit 2, x.1.testBit 3, x.1.testBit 4, x.1.testBit 5,
    (List.finRange 16).filter (fun k => x.1.testBit (8 + k.val)), x.1.testBit 6,
    (List.finRange 17).filter (fun k => x.1.testBit (24 + k.val))⟩, x.2)

/-- the widest reset that the word asks for. -/
def resetByWord (v : Nat) (s : State) : State :=
  if v.testBit 2 then deviceReset 0 4 s
  else if v.testBit 1 then deviceReset 1 6 s
  else warmOp 7 (drawFinds s).1 (drawFinds s).2

end Sys2Proof.Machine
end

