-- ==== Sys2Proof/Machine/HarletOps.lean ====
section
/-! DEFINITION. Sys2Proof/Machine/HarletOps.lean: the Harlet operations and the commands that are one register access (chapter 02:
R10, R20, R41, R42, R48, R49, R55 to R61, R65 to R73; R272, R284, R286). -/

namespace Sys2Proof.Machine

/-! ## READ and READ_BURST (R12, R18, R48) -/

/-- READ. -/
def readOp (r : Req) (addr : Nat) (s : State) : State := asRead r (addr / 4096) (addr % 4096) (readReg r (addr / 4096) (addr % 4096)) s

def execRead (r : Req) (addr : Word) (s : State) : Host.Outcome State Fault Refusal := .next (readOp r addr.toNat s)

/-- the words of a burst in order, the first failing status, and the state after. [DESIGN CHOICE log 11] -/
def burstWords (r : Req) (p : Nat) : List Nat → State → Status × List Byte × State
  | [], s => (.success, [], s)
  | off :: l, s =>
    match regStatus p off s with
    | .success =>
      let x := readReg r p off s
      let t := burstWords r p l x.2
      (t.1, beBytes 4 x.1 ++ t.2.1, t.2.2)
    | st =>
      let t := burstWords r p l s
      (st, beBytes 4 0 ++ t.2.1, t.2.2)

/-- READ_BURST of `n` words: it may not cross the end of the page. [DESIGN CHOICE log 11] -/
def burstOp (r : Req) (addr n : Nat) (s : State) : State :=
  opStart r 2 addr (fun s =>
    let p := addr / 4096
    let off := addr % 4096
    if (blockOf p).isNone ∨ 4096 < off + 4 * n then reply r 0x82 addr .invalidAddress (List.replicate (4 * n) 0) s
    else
      let x := burstWords r p ((List.range n).map (fun k => off + 4 * k)) s
      reply r 0x82 addr x.1 x.2.1 x.2.2) s

def execReadBurst (r : Req) (addr : Word) (count : Byte) (s : State) : Host.Outcome State Fault Refusal :=
  .next (burstOp r addr.toNat (count.toNat + 1) s)

/-! ## WRITE and WRITE_MASKED (R48, R49) -/

/-- a write operation whose word is `v` of the state: the response goes out before a reset of the device begins (R491). -/
def writeOp (r : Req) (opcode addr : Nat) (v : State → Nat) (s : State) : State :=
  opStart r opcode addr (fun s =>
    let p := addr / 4096
    let off := addr % 4096
    match regStatus p off s with
    | .success =>
      if resetsDevice p off (v s) then
        resetByWord (v s) (sendAllResponses (reply r (opcode + 128) addr .success [] s))
      else
        let x := writeReg r p off (v s) s
        reply r (opcode + 128) addr x.1 [] x.2
    | st => reply r (opcode + 128) addr st [] s) s

def execWrite (r : Req) (addr value : Word) (s : State) : Host.Outcome State Fault Refusal :=
  .next (writeOp r 3 addr.toNat (fun _ => value.toNat) s)

/-- REGISTER_WRITE: an RW register takes its value at once, the shadow of an RWC field takes it for the next commit (R9, R68). -/
def execRegisterWrite (r : Req) (addr value : Word) (s : State) : Host.Outcome State Fault Refusal :=
  .next (writeOp r 3 addr.toNat (fun _ => value.toNat) s)

/-- WRITE_MASKED. -/
def writeMaskedOp (r : Req) (addr mask v : Nat) (s : State) : State :=
  writeOp r 4 addr (fun s => maskedWord (addr / 4096) (addr % 4096) mask v s) s

def execWriteMasked (r : Req) (addr mask value : Word) (s : State) : Host.Outcome State Fault Refusal :=
  .next (writeMaskedOp r addr.toNat mask.toNat value.toNat s)

/-! ## WRITE_AT (R55 to R58) -/

/-- the picture number that the page's channel is at. -/
def currentPicture (p : Nat) (s : State) : Nat :=
  match blockOf p with
  | some .ing => getF p ING.PICNUM_picture s
  | some .ech => echPicture (p - Block.first .ech) s
  | _ => getF p DCH.PICNUM_picture s

/-- how many pictures `n` lies after the current one, modulo 2³². [DEDUCED log 17] -/
def pictureAhead (p n : Nat) (s : State) : Nat := (n + 2 ^ 32 - currentPicture p s % 2 ^ 32) % 2 ^ 32

/-- the first check of R56 that a WRITE_AT fails. [DEDUCED log 17] -/
def watCheck (target : Nat) (b : WatBody) (s : State) : Status :=
  let ref := b.refPage.toNat
  let pic := b.trigger.toNat == 2
  let ns := b.ns.toNat % 2 ^ 30
  let t := if pic then b.time.toNat / 2 ^ 16 else b.time.toNat * 10 ^ 9 + ns
  if b.trigger.toNat ≠ 1 ∧ !pic then .invalidValue
  else if !pic ∧ 10 ^ 9 ≤ ns then .invalidValue
  else if (blockOf (target / 4096)).isNone then .invalidAddress
  else if pic && !(match blockOf ref with | some k => k.watPicture | none => false) then .unsupported
  else if pic && act ref s != stRUNNING && act ref s != stMUTED then .unavailable
  else if !pic && !timeLocked s then .unavailable
  else if pic && (pictureAhead ref t s == 0 || decide (2 ^ 31 < pictureAhead ref t s)) then .tooLate
  else if !pic && decide (t ≤ timeNs s) then .tooLate
  else if 256 ≤ s.hap.wats.length then .tableFull
  else .success

/-- a number below `n` that is not in use: any of them. [DESIGN CHOICE log 16] -/
def pickFree (kind n : Nat) (used : List Nat) : Nat :=
  let c := Config.pickFree kind used % n
  if used.contains c then ((List.range n).find? (fun k => !used.contains k)).getD 0 else c

/-- the session_id of the operation's session; the domain session's is 0xFFFF_FFFF. -/
def sidOf (r : Req) (s : State) : Nat :=
  match r.origin with
  | .session i => (match sessionAt i.val s with | some x => x.sid | none => 0)
  | .domain => 2 ^ 32 - 1
  | _ => 0

/-- WRITE_AT. One that a check refuses answers slot 0 beside its status: R48 gives the response its 4 bytes, and no rule says what a
refused one carries. [DESIGN CHOICE log 13] -/
def writeAtOp (r : Req) (addr : Nat) (b : WatBody) (s : State) : State :=
  opStart r 5 addr (fun s =>
    match watCheck addr b s with
    | .success =>
      let k := pickFree 0 256 (s.hap.wats.map Prod.fst)
      let pic := b.trigger.toNat == 2
      let t := if pic then b.time.toNat / 2 ^ 16 else b.time.toNat * 10 ^ 9 + b.ns.toNat % 2 ^ 30
      let e : WatEntry := ⟨s.hap.watOrder, pic, b.refPage.toNat, t, b.masked, b.mask.toNat, b.value.toNat, addr, r.tag.toNat,
        sidOf r s, r.origin⟩
      reply r 0x85 addr .success (beBytes 4 k)
        (setWats (SMap.put k e s.hap.wats) { s with hap := { s.hap with watOrder := s.hap.watOrder + 1 } })
    | st => reply r 0x85 addr st (beBytes 4 0) s) s

def execWriteAt (r : Req) (addr : Word) (body : WatBody) (s : State) : Host.Outcome State Fault Refusal :=
  .next (writeAtOp r addr.toNat body s)

/-- an entry fires (R57, R58, R61): the write is performed and its completion record formed. -/
def fireEntry (k : Nat) (e : WatEntry) (s : State) : State :=
  let s1 := setWats (SMap.drop k s.hap.wats) s
  let p := e.target / 4096
  let off := e.target % 4096
  let v := if e.masked then maskedWord p off e.mask e.value s1 else e.value
  let done := fun (st : Status) (u : State) =>
    watNotify e.sid (watRecord k st.code e.tag (timeNs s / 10 ^ 9) (timeNs s % 10 ^ 9)) u
  match regStatus p off s1 with
  | .success =>
    if resetsDevice p off v then resetByWord v (done .success s1)
    else
      let x := writeReg ⟨e.origin, BitVec.ofNat 16 e.tag⟩ p off v s1
      done x.1 x.2
  | st => done st s1

/-- of the entries that satisfy `due`, the one that fires first: by trigger, then in the order of acceptance (R57, R58). -/
def firstEntry (due : WatEntry → Bool) (s : State) : Option (Nat × WatEntry) :=
  (s.hap.wats.filter (fun e => due e.2)).foldl (fun b e => match b with
    | none => some e
    | some q => if e.2.time < q.2.time ∨ e.2.time = q.2.time ∧ e.2.order < q.2.order then some e else b) none

/-- up to `fuel` due entries fire, one after the other. -/
def fireAll (due : WatEntry → Bool) : Nat → State → State
  | 0, s => s
  | fuel + 1, s => match firstEntry due s with
    | none => s
    | some (k, e) => fireAll due fuel (fireEntry k e s)

/-- the PTP-time entries whose trigger the counter, as FAB carries it, has reached or passed fire (R57, R58). [DEDUCED log 17] -/
def fireDue (s : State) : State := fireAll (fun e => !e.picture && decide (e.time ≤ fabNs s)) s.hap.wats.length s

/-- the picture entries of page `p` fire whose picture is the one that a boundary is about to start, or lies before it (R57). -/
def firePictures (p n : Nat) (s : State) : State :=
  fireAll (fun e => e.picture && e.refPage == p && decide ((n + 2 ^ 32 - e.time) % 2 ^ 32 < 2 ^ 31)) s.hap.wats.length s

/-- time reaches `t`, where page `p` is about to take the boundary that starts its picture `n`: what is due fires (R57). -/
def reachBoundary (p n : Nat) (t : Int) (s : State) : State := firePictures p n (fireDue (advanceToNs t s))

/-- WRITE_AT_FIRE (R57): the counter reaches the entry's trigger, and every entry that is due then fires. A picture entry fires with its
boundary, in the command that takes it. [DEDUCED log 17] -/
def watFireOp (k : Nat) (s : State) : State :=
  match SMap.find k s.hap.wats with
  | none => s
  | some e => if e.picture then s else fireDue (advanceToNs e.time s)

def execWriteAtFire (slot : Fin 256) (s : State) : Host.Outcome State Fault Refusal := .next (watFireOp slot.val s)

/-- WAT_CANCEL. -/
def execWatCancel (r : Req) (slot : Byte) (s : State) : Host.Outcome State Fault Refusal :=
  .next (asWrite r pgHAP 0x118 (watCancelOp slot.toNat) s)

/-! ## SUBSCRIBE (R60) -/

/-- SUBSCRIBE on a session's entries: the status and the entries after. -/
def subscribeList (e : Sub) (action : Nat) (l : List Sub) : Status × List Sub :=
  let same := fun (x : Sub) => x.first == e.first && x.last == e.last
  if action = 1 then
    if l.any same then (.success, l.map (fun x => if same x then { x with mask := Nat.lor x.mask e.mask } else x))
    else if 32 ≤ l.length then (.busy, l)
    else (.success, l ++ [e])
  else if action = 2 then
    (.success, (l.map (fun x => if same x then { x with mask := Nat.ldiff x.mask e.mask } else x)).filter (fun x => x.mask != 0))
  else (.invalidValue, l)

/-- SUBSCRIBE. [DEDUCED log 18] -/
def subscribeOp (r : Req) (addr mask action : Nat) (s : State) : State :=
  opStart r 7 addr (fun s =>
    match r.origin with
    | .session i =>
      (match sessionAt i.val s with
       | none => s
       | some x =>
         let first := addr / 4096
         let y := subscribeList ⟨first, first + addr % 4096, mask⟩ action x.subs
         reply r 0x87 addr y.1 (beBytes 4 y.2.length) (putSession i.val { x with subs := y.2 } s))
    | _ => reply r 0x87 addr .accessDenied [] s) s

def execSubscribe (r : Req) (addr mask : Word) (action : Byte) (s : State) : Host.Outcome State Fault Refusal :=
  .next (subscribeOp r addr.toNat mask.toNat action.toNat s)

/-! ## Unknown opcodes (R42) -/

/-- An unknown opcode at position `pos` of its frame, with `later` operations after it, which a session hears of in responses with
opcode 0x80, whatever became of the unknown one. [DEDUCED log 13] -/
def unknownOp (r : Req) (opcode addr pos later : Nat) (s : State) : State :=
  let s1 := opStart r (opcode % 128) addr (reply r (opcode % 128 + 128) addr .unsupported []) s
  match r.origin with
  | .session _ => (List.range later).foldl (fun s k => reply ⟨r.origin, 0⟩ 0x80 (pos + 1 + k) .invalidValue [] s) s1
  | _ => s1

/-- UNKNOWN_OPCODE: as the first operation of its frame. -/
def execUnknownOpcode (r : Req) (opcode : Byte) (addr : Word) (later : Nat) (s : State) : Host.Outcome State Fault Refusal :=
  .next (if 1 ≤ opcode.toNat ∧ opcode.toNat ≤ 9 then s else unknownOp r opcode.toNat addr.toNat 0 (min later 63) s)

/-! ## Registers with a command of their own -/

/-- DKEY_LOAD (R72, R73): DKEY_CTRL written with load 1. -/
def execDkeyLoad (r : Req) (s : State) : Host.Outcome State Fault Refusal :=
  .next (asWrite r pgHAP 0x160 (fun s => if unicast r then (.success, dkeyLoadOp s) else (.accessDenied, s)) s)

/-- EVENT_SET (R66). -/
def execEventSet (r : Req) (page : BitVec 20) (bits : Word) (s : State) : Host.Outcome State Fault Refusal :=
  .next (asWrite r page.toNat 0x018 (fun s => (.success, eventSetOp page.toNat bits.toNat s)) s)

/-- EVENT_CLEAR (R10, R66, R67): `sets` are the bits that hardware or EVENT_SET sets in the same cycle, which stay 1. -/
def execEventClear (r : Req) (page : BitVec 20) (bits sets : Word) (s : State) : Host.Outcome State Fault Refusal :=
  .next (asWrite r page.toNat 0x010 (fun s =>
    (.success, clearEvents page.toNat (Nat.ldiff bits.toNat sets.toNat) (eventSetOp page.toNat sets.toNat s))) s)

/-- COMMIT (R24, R68, R69). -/
def execCommit (r : Req) (page : BitVec 20) (s : State) : Host.Outcome State Fault Refusal :=
  .next (asWrite r page.toNat 0x020 (commitOp page.toNat) s)

/-- DISCARD (R68). -/
def execDiscard (r : Req) (page : BitVec 20) (s : State) : Host.Outcome State Fault Refusal :=
  .next (asWrite r page.toNat 0x020 (fun s => (.success, discardShadows page.toNat s)) s)

/-- COUNTER_LOW_READ (R20): the READ of a low word latches the high one. -/
def execCounterLowRead (r : Req) (addr : Word) (s : State) : Host.Outcome State Fault Refusal := .next (readOp r addr.toNat s)

/-- STATE_MISMATCH (R29): a tick of the page's governing frame clock. -/
def execStateMismatch (page : BitVec 20) (s : State) : Host.Outcome State Fault Refusal := .next (mismatchTick page.toNat s)

/-- STEP_GRANT (R280): TIM.CMD written with step_grant 1. -/
def execStepGrant (r : Req) (s : State) : Host.Outcome State Fault Refusal := .next (asWrite r pgTIM 0x11C stepGrantOp s)

/-- REVERT (R275): TIM.CMD written with revert 1. -/
def execRevert (r : Req) (s : State) : Host.Outcome State Fault Refusal :=
  .next (asWrite r pgTIM 0x11C (fun s => (.success, revertOp s)) s)

/-- NOW_READ (R272): the READ of NOW_NS latches the other three words. -/
def execNowRead (r : Req) (s : State) : Host.Outcome State Fault Refusal := .next (readOp r (regAddr pgTIM 0x120) s)

/-- CAPTURE_POP (R284): the READ of CAPn_NS pops the oldest entry and latches its other words. -/
def execCapturePop (r : Req) (n : Fin 4) (s : State) : Host.Outcome State Fault Refusal :=
  .next (readOp r (regAddr pgTIM (0x204 + 0x10 * n.val)) s)

/-- TXQ_READ (R286, R290): the READ of PORT.TXQ clears its high-water mark. -/
def execTxqRead (r : Req) (port : Fin 2) (s : State) : Host.Outcome State Fault Refusal :=
  .next (readOp r (regAddr pgTIM (0x1A8 + 0x40 * port.val)) s)

/-! ## Event frames (R60, R61) -/

/-- EVENT_FRAME_SEND: up to 64 records of the session leave in one frame. -/
def eventFrameOp (i : Nat) (s : State) : State :=
  match sessionAt i s with
  | none => s
  | some x =>
    if x.records.isEmpty then s
    else
      let l := x.records.take 64
      sendFrame i 3 l.length l.flatten (putSession i { x with records := x.records.drop 64 } s)

def execEventFrameSend (i : Fin 8) (s : State) : Host.Outcome State Fault Refusal := .next (eventFrameOp i.val s)

end Sys2Proof.Machine
end

