-- ==== Sys2Proof/Machine/Harlet.lean ====
section
/-! DEFINITION. Sys2Proof/Machine/Harlet.lean: Harlet frames (R37 to R47, R52 to R54), sessions, and the management messages that
carry frames between members (R347, R348). -/

namespace Sys2Proof.Machine

/-! ## The header (R40) -/

/-- the fields of a frame's 24-byte header. -/
structure FrameHead where
  version : Nat
  kind : Nat
  bcast : Bool
  mode : Nat
  dest : Nat
  groups : Nat
  sid : Nat
  seq : Nat
  hops : Nat
  ops : Nat
  length : Nat
  deriving DecidableEq, Repr

def frameHead (f : List Byte) : FrameHead where
  version := fieldAt 0 1 f / 16
  kind := fieldAt 0 1 f % 16
  bcast := (fieldAt 1 1 f).testBit 0
  mode := fieldAt 2 2 f / 2 ^ 14
  dest := fieldAt 2 2 f % 1024
  groups := fieldAt 4 4 f
  sid := fieldAt 8 4 f
  seq := fieldAt 12 8 f
  hops := fieldAt 20 1 f
  ops := fieldAt 21 1 f
  length := fieldAt 22 2 f

/-- the header passes R39 and R40. [DEDUCED log 12] -/
def headOk (f : List Byte) : Bool :=
  let h := frameHead f
  decide (24 ≤ f.length) && decide (f.length ≤ 1440) && h.version == 1 && decide (1 ≤ h.kind) && decide (h.kind ≤ 7) &&
    h.mode != 3 && decide (h.hops ≤ 7)

/-- the session_id of the domain session. -/
def domainSid : Nat := 2 ^ 32 - 1

/-- the header of a frame without a session, sequence 0 (R40, R45). -/
def bareFrame (kind : Nat) (body : List Byte) : List Byte :=
  beBytes 1 (0x10 + kind) ++ beBytes 1 0 ++ beBytes 2 0 ++ beBytes 4 0 ++ beBytes 4 0 ++ beBytes 8 0 ++ beBytes 1 0 ++ beBytes 1 0 ++
    beBytes 2 body.length ++ body

/-! ## Fates on the port (R34, R35) -/

/-- the frame is dropped with `reason`; over Iztaub no port page counts it. -/
def harletDrop (port : HPort) (reason : Nat) (s : State) : State :=
  if port = .izt then s else dropIn (portNum port) 1 reason s

/-- the frame is delivered. -/
def harletTake (port : HPort) (s : State) : State := if port = .izt then s else acceptIn (portNum port) 1 s

/-! ## Sessions (R43 to R47) -/

/-- the index of the open session with this session_id. -/
def sessionOf (sid : Nat) (s : State) : Option Nat := (s.hap.sessions.find? (fun e => e.2.sid == sid)).map Prod.fst

/-- Session `i` closes (R43): its entries, its held operations and a lock it holds go with it; its pending scheduled writes stay
(R58). -/
def closeSession (i : Nat) (s : State) : State :=
  let mine := fun (r : Req) => match r.origin with | .session j => j.val == i | _ => false
  let s1 := lockSessionClosed i { s with
    hap := { s.hap with sessions := SMap.drop i s.hap.sessions }
    fwl := { s.fwl with quotes := s.fwl.quotes.filter (fun e => !mine e.1) }
    cir := { s.cir with posts := s.cir.posts.filter (fun e => !mine e.1) } }
  (List.range 16).foldl (fun s q => postWaitEnd q s) s1

/-- the 64-entry window (R47): the sequence is new. -/
def seqNew (high : Nat) (seen : List Nat) (n : Nat) : Bool :=
  decide (high < n) || (decide (high ≤ n + 64) && decide (n < high) && !seen.contains n)

/-- the window after `n` is accepted. -/
def seqTake (high : Nat) (seen : List Nat) (n : Nat) : Nat × List Nat :=
  let h := max high n
  (h, (n :: seen).filter (fun k => decide (h ≤ k + 64)))

/-- the tag of the frame verifies under `key`. -/
def tagOk (key : List Byte) (f : List Byte) : Bool := frameTag key (f.take (f.length - 16)) == f.drop (f.length - 16)

/-- a close that refuses an open: session_id 0 and no tag (R45). -/
def refuseOpen (port : HPort) (peer : Peer) (st : Status) (s : State) : State :=
  transmit port peer (bareFrame 7 (beBytes 1 st.code ++ beBytes 3 0 ++ beBytes 4 0)) s

/-- a session_id that names nobody. [DESIGN CHOICE log 16] -/
def newSid (n : Nat) (s : State) : Nat :=
  let used := s.hap.sessions.map (fun e => e.2.sid) ++ s.hap.accepts.map Accept.sid
  let c := Config.sessionId n % (2 ^ 32 - 2) + 1
  if used.contains c then (((List.range (used.length + 1)).map (· + 1)).find? (fun k => !used.contains k)).getD 1 else c

/-- the provisioning session may open (R46): every key slot empty, port M, none open yet. [DEDUCED log 14] -/
def mayProvision (port : HPort) (s : State) : Bool :=
  s.fwl.keys.isEmpty && port == .m && !s.hap.sessions.any (fun e => e.2.provisioning)

/-- An open frame (R44 to R46): answered with an accept, or with a close that refuses it. A body that is not 133 bytes long, to
which the spec gives no fate, is malformed: reason 0x02. [DESIGN CHOICE log 14] -/
def openFrame (port : HPort) (peer : Peer) (f : List Byte) (s : State) : State :=
  let b := f.drop 24
  let k := fieldAt 0 1 b
  if b.length ≠ 133 then harletDrop port 2 s
  else
    let s1 := harletTake port s
    if fieldAt 1 1 b ≠ 1 then refuseOpen port peer .accessDenied s1
    else if !(if k = 0xFF then mayProvision port s else (SMap.find k s.fwl.keys).isSome) then refuseOpen port peer .accessDenied s1
    else if 8 ≤ s.hap.sessions.length then refuseOpen port peer .busy s1
    else
      let n := s1.free
      let sid := newSid n s1
      let body := beBytes 4 sid ++ Config.ephemeral n ++ Config.nonce n
      let a := f ++ (bareFrame 5 (body ++ List.replicate 96 0)).take (24 + body.length)
      let sig := Config.identitySign (Config.sha384 a)
      let x : Accept := ⟨sid, k, port, peer, a ++ sig, Config.ecdh n (sub 4 97 b), s1.clk⟩
      transmit port peer (bareFrame 5 (body ++ sig))
        { s1 with free := s1.free + 1, hap := { s1.hap with accepts := s1.hap.accepts ++ [x] } }

/-- the accept with this session_id whose second has not run out. -/
def acceptOf (sid : Nat) (s : State) : Option Accept :=
  s.hap.accepts.find? (fun a => a.sid == sid && decide (s.clk ≤ a.born + tickS))

/-- "harlet c2d" and "harlet d2c" in ASCII (R45). -/
def labelC2d : List Byte := [0x68, 0x61, 0x72, 0x6C, 0x65, 0x74, 0x20, 0x63, 0x32, 0x64]
def labelD2c : List Byte := [0x68, 0x61, 0x72, 0x6C, 0x65, 0x74, 0x20, 0x64, 0x32, 0x63]

/-- A confirm frame (R44 to R46): the signature is checked, the keys are derived, the session is open. A body that is not 100
bytes long is dropped with reason 0x02, and a confirm that names no pending accept with 0x03 and no close: the spec gives neither a
fate. [DESIGN CHOICE log 14] -/
def confirmFrame (port : HPort) (peer : Peer) (f : List Byte) (s : State) : State :=
  let b := f.drop 24
  if b.length ≠ 100 then harletDrop port 2 s
  else match acceptOf (fieldAt 0 4 b) s with
    | none => harletDrop port 3 s
    | some a =>
      let s1 := harletTake port { s with hap := { s.hap with accepts := s.hap.accepts.filter (fun x => x.sid != a.sid) } }
      let c := a.transcript ++ f.take 28
      let sig := b.drop 4
      let prov := a.keyIndex == 0xFF
      let good := if prov then mayProvision a.port s else match SMap.find a.keyIndex s.fwl.keys with
        | some key => Config.ecdsaOk key (Config.sha384 c) sig
        | none => false
      if !good then refuseOpen port peer .accessDenied s1
      else if 8 ≤ s.hap.sessions.length then refuseOpen port peer .busy s1
      else
        let prk := Config.hkdfExtract (Config.sha384 (c ++ sig)) a.secret
        let x : Session := ⟨a.sid, port, peer, prov, Config.hkdfExpand prk labelC2d, Config.hkdfExpand prk labelD2c, 0, [], 1,
          s1.clk, 0, 0, [], [], [], []⟩
        raiseIf prov pgHAP 0 (putSession (pickFree 1 8 (s1.hap.sessions.map Prod.fst)) x s1)

/-- ACCEPT_EXPIRY (R45): 1 s after the accept. -/
def acceptExpiryOp (sid : Nat) (s : State) : State :=
  match s.hap.accepts.find? (fun a => a.sid == sid) with
  | none => s
  | some a =>
    let s1 := advanceTo (a.born + tickS) s
    { s1 with hap := { s1.hap with accepts := s1.hap.accepts.filter (fun x => x.sid != sid) } }

def execAcceptExpiry (sid : Word) (s : State) : Host.Outcome State Fault Refusal := .next (acceptExpiryOp sid.toNat s)

/-- SESSION_IDLE_TIMEOUT (R43, R72): IDLE_TIMEOUT seconds, 0 counting as 1, after its last valid frame the session closes. [DEDUCED log 14] -/
def idleTimeoutOp (i : Nat) (s : State) : State :=
  match sessionAt i s with
  | none => s
  | some x => closeSession i (advanceTo (x.lastFrame + max 1 (getF pgHAP HAP.IDLE_TIMEOUT_seconds s) * tickS) s)

def execSessionIdleTimeout (i : Fin 8) (s : State) : Host.Outcome State Fault Refusal := .next (idleTimeoutOp i.val s)

/-! ## Operations of a request (R41, R42, R48, R430) -/

/-- the bytes after the 8-byte header of an operation; none for an unknown opcode. A KEY_SET body holds a slot and three reserved
bytes, and a key of 97 bytes where the next byte is 0x04, an uncompressed point; the bodies of DATA and of an unknown sub-command
run to the end of the frame. `l` is what follows the header. [DEDUCED log 13] -/
def opBody (opcode addr : Nat) (l : List Byte) : Option Nat :=
  let rest := l.length
  if opcode = 1 ∨ opcode = 2 then some 0
  else if opcode = 3 then some 4
  else if opcode = 4 then some 8
  else if opcode = 5 then some 28
  else if opcode = 6 then some 64
  else if opcode = 7 then some 5
  else if opcode = 8 then some 32
  else if opcode = 9 then
    let c := addr % 256
    if c = 1 then some 8
    else if c = 4 ∨ c = 5 then some 4
    else if c = 3 ∨ c = 6 ∨ c = 12 then some 0
    else if c = 7 ∨ c = 11 ∨ c = 13 then some 2
    else if c = 8 then some 1
    else if c = 9 then some (if 101 ≤ rest ∧ fieldAt 4 1 l = 4 then 101 else 4)
    else if c = 10 then some 48
    else some rest
  else none

/-- The operations that `l` holds, `n` of them, each as its bytes; none if they do not fit (R42). An unknown opcode ends the
list. [DEDUCED log 13] -/
def parseOps : Nat → List Byte → Option (List (List Byte))
  | 0, l => if l.isEmpty then some [] else none
  | n + 1, l =>
    if l.length < 8 then none
    else
      match opBody (fieldAt 0 1 l) (fieldAt 4 4 l) (l.drop 8) with
      | none => some [l.take 8]
      | some k => if l.length < 8 + k then none else (parseOps n (l.drop (8 + k))).map (fun t => l.take (8 + k) :: t)

/-- the operation has an unknown opcode. [DEDUCED log 13] -/
def opUnknown (o : List Byte) : Bool := (opBody (fieldAt 0 1 o) 0 []).isNone

/-- the WRITE_AT body (R55). -/
def watBody (b : List Byte) : WatBody where
  trigger := BitVec.ofNat 8 (fieldAt 0 1 b)
  masked := (fieldAt 1 1 b).testBit 0
  refPage := BitVec.ofNat 32 (fieldAt 4 4 b)
  time := BitVec.ofNat 48 (fieldAt 8 6 b)
  ns := BitVec.ofNat 32 (fieldAt 14 4 b)
  mask := BitVec.ofNat 32 (fieldAt 20 4 b)
  value := BitVec.ofNat 32 (fieldAt 24 4 b)

/-- an FW_SESSION operation (R430), its address word as the request gives it (R41). -/
def runFw (r : Req) (addr : Nat) (b : List Byte) (s : State) : State :=
  let c := addr % 256
  if c = 1 then fwOp r addr (fwOpenOp r (fieldAt 0 1 b) (fieldAt 4 4 b)) s
  else if c = 2 then fwHeld r addr (fwDataOp (fieldAt 0 4 b) (b.drop 4)) s
  else if c = 3 then fwHeld r addr verifyOp s
  else if c = 4 then installOp r addr (fieldAt 0 4 b) s
  else if c = 5 then let x := drawFinds s; activateOp r addr (fieldAt 0 4 b) x.1 x.2
  else if c = 6 then fwHeld r addr (fun s => (.success, [], closeLock s)) s
  else if c = 7 then fwOp r addr (fun s => partReply (fieldAt 0 2 b) Config.certificate s) s
  else if c = 8 then fwOp r addr (raiseFloorOp (fieldAt 0 1 b)) s
  else if c = 9 then keySetRun r addr (fieldAt 0 1 b) (b.drop 4) s
  else if c = 10 then fwOp r addr (extendOp b) s
  else if c = 11 then fwOp r addr (catReadOp (fieldAt 0 2 b)) s
  else if c = 12 then fwOp r addr catDiscardOp s
  else if c = 13 then fwOp r addr (folioExportOp (fieldAt 0 2 b)) s
  else fwOp r addr (fun s => (.unsupported, [], s)) s

/-- one operation of a request (R48); `pos` is its place in the frame and `later` how many the header counts after it. -/
def runOp (o : Origin) (b : List Byte) (pos later : Nat) (s : State) : State :=
  let code := fieldAt 0 1 b
  let addr := fieldAt 4 4 b
  let r : Req := ⟨o, BitVec.ofNat 16 (fieldAt 2 2 b)⟩
  let body := b.drop 8
  if code = 1 then readOp r addr s
  else if code = 2 then burstOp r addr (fieldAt 1 1 b + 1) s
  else if code = 3 then writeOp r 3 addr (fun _ => fieldAt 0 4 body) s
  else if code = 4 then writeMaskedOp r addr (fieldAt 0 4 body) (fieldAt 4 4 body) s
  else if code = 5 then writeAtOp r addr (watBody body) s
  else if code = 6 then
    opStart r 6 addr (fun s => if 16 ≤ addr then reply r 0x86 addr .invalidValue [] s else slipPostOp r addr body s) s
  else if code = 7 then subscribeOp r addr (fieldAt 0 4 body) (fieldAt 4 1 body) s
  else if code = 8 then attestOp r addr body s
  else if code = 9 then runFw r addr body s
  else unknownOp r code addr pos later s

/-- An operation of a session's frame that was accepted, and is not held, is outstanding until the frame's responses leave
(R50). `n` were outstanding before it. -/
def countUnsent (o : Origin) (n : Nat) (s : State) : State :=
  match o with
  | .session i =>
    (match sessionAt i.val s with
     | some x => if n < 64 ∧ x.outstanding + x.unsent = n then putSession i.val { x with unsent := x.unsent + 1 } s else s
     | none => s)
  | _ => s

/-- how many operations of the origin's session are outstanding (R50). -/
def sessionLoad (o : Origin) (s : State) : Nat :=
  match o with
  | .session i => (match sessionAt i.val s with | some x => x.outstanding + x.unsent | none => 0)
  | _ => 0

/-- the operations of a frame in order (R51). -/
def runOps (o : Origin) (count : Nat) : Nat → List (List Byte) → State → State
  | _, [], s => s
  | pos, b :: l, s =>
    runOps o count (pos + 1) l (countUnsent o (sessionLoad o s) (runOp o b pos (count - pos - 1) s))

/-- The operations of a tagged request that has passed its tag (R42), or none if it is malformed. -/
def requestOps (f : List Byte) : Option (List (List Byte)) :=
  let h := frameHead f
  let l := sub 24 (f.length - 40) f
  if 64 < h.ops then none
  else match parseOps h.ops l with
    | none => none
    | some ops =>
      let n := (ops.map List.length).sum
      if ops.any opUnknown then (if n ≤ h.length ∧ h.length ≤ l.length then some ops else none)
      else if h.length = l.length then some ops else none

/-! ## Tagged frames (R42, R47, R50 to R52) -/

/-- A tagged frame of the domain session: only requests have a meaning there. One of another kind, a close among them, that passes its
tag is dropped with reason 0x03; the spec gives it no fate. [DESIGN CHOICE log 12] -/
def domainFrame (port : HPort) (f : List Byte) (s : State) : State :=
  let h := frameHead f
  match s.hap.dkey with
  | none => harletDrop port 4 s
  | some key =>
    if !seqNew s.hap.domHigh s.hap.domSeen h.seq || !tagOk (beBytes 32 key) f then
      -- a forwarded copy already accepted is duplicate-discarded, which no page counts (R47)
      harletDrop port 4 s
    else
      let w := seqTake s.hap.domHigh s.hap.domSeen h.seq
      let s1 := { s with hap := { s.hap with domHigh := w.1, domSeen := w.2 } }
      if h.kind ≠ 1 then harletDrop port 3 s1
      else match requestOps f with
        | none => harletDrop port 2 s1
        | some ops => runOps .domain h.ops 0 ops (harletTake port s1)

/-- A tagged frame of an open unicast session: a request or a close; the device's own kinds, response and event, have no handler. A
frame of 24 to 39 bytes, too short to hold its tag, is malformed: reason 0x02, once its session is found; the spec gives it no fate.
[DEDUCED log 14; DESIGN CHOICE log 14] -/
def sessionFrame (i : Fin 8) (x : Session) (port : HPort) (peer : Peer) (f : List Byte) (s : State) : State :=
  let h := frameHead f
  if f.length < 40 then harletDrop port 2 s
  else if !seqNew x.rxHigh x.rxSeen h.seq || !tagOk x.rxKey f then harletDrop port 4 s
  else
    let w := seqTake x.rxHigh x.rxSeen h.seq
    let y := { x with rxHigh := w.1, rxSeen := w.2, lastFrame := s.clk, port := port, peer := peer }
    if h.kind = 7 then closeSession i.val (harletTake port s)
    else if h.kind ≠ 1 then harletDrop port 3 (putSession i.val { x with rxHigh := w.1, rxSeen := w.2 } s)
    else match requestOps f with
      | none => harletDrop port 2 (putSession i.val { x with rxHigh := w.1, rxSeen := w.2 } s)
      | some ops =>
        let s1 := harletTake port (putSession i.val y s)
        if ops.isEmpty then sendFrame i.val 2 0 [] s1
        else sendResponses i.val (runOps (.session i) h.ops 0 ops s1)

/-- A frame for this device, its header checked (R42, R52): open and confirm frames, and the tagged kinds of a session. An accept,
untagged as they are, has no handler here. A tagged frame below 40 bytes is malformed also where no domain key is loaded.
[DESIGN CHOICE log 14] -/
def localFrame (port : HPort) (peer : Peer) (f : List Byte) (s : State) : State :=
  let h := frameHead f
  if h.mode ≠ 0 then
    if h.sid ≠ domainSid then harletDrop port 4 s
    else if f.length < 40 then harletDrop port 2 s
    else domainFrame port f s
  else if h.kind = 4 then openFrame port peer f s
  else if h.kind = 6 then confirmFrame port peer f s
  else if h.kind = 5 then harletDrop port 3 s
  else if h.sid = domainSid then harletDrop port 4 s
  else match sessionOf h.sid s with
    | none => harletDrop port 3 s
    | some i =>
      if k : i < 8 then
        (match sessionAt i s with
         | none => harletDrop port 3 s
         | some x => sessionFrame ⟨i, k⟩ x port peer f s)
      else harletDrop port 3 s

/-! ## Numbering and forwarding (R53, R54, R348) -/

/-- the frame addresses this device: its number, the domain, or one of its groups (R40, R52). -/
def addressesMe (f : List Byte) (s : State) : Bool :=
  let h := frameHead f
  if h.mode = 0 then h.dest == deviceNumber s
  else if h.mode = 1 then h.dest == 0x3FF
  else Nat.land h.groups (getF pgHAP HAP.GROUP_MASK_groups s) != 0

/-- a frame for another member leaves towards it, or is dropped: no hop, no route, or forwarding off. [DEDUCED log 12] -/
def forwardFrame (port : HPort) (peer : Peer) (f : List Byte) (s : State) : State :=
  let h := frameHead f
  if h.hops = 0 ∨ (routeTo h.dest s).isNone ∨ !isF pgHAP HAP.PORT_EN_izt s then harletDrop port 3 s
  else sendManagement 1 h.hops h.dest { peer with entryPort := portNum port } f (harletTake port s)

/-- copies of a domain or group frame go to every other member (R54, R348). [DEDUCED log 12] -/
def broadcastCopies (port : HPort) (peer : Peer) (f : List Byte) (s : State) : State :=
  let h := frameHead f
  if h.mode ≠ 0 ∧ h.bcast ∧ port ≠ .izt ∧ isF pgHAP HAP.PORT_EN_izt s then
    s.routes.foldl (fun s r => sendManagement 3 h.hops r.device { peer with entryPort := portNum port } f s) s
  else s

/-- the frame was sent to the port: to its own MAC or IP address, or to a multicast address of its filter (R37). What comes over
Iztaub was checked by its entry device. [DEDUCED log 64] -/
def portAddressed (port : HPort) (peer : Peer) (s : State) : Bool :=
  match port with
  | .izt => true
  | _ =>
    let i := portNum port
    let d := peer.dst.toNat
    if peer.form = 0 then d == portMac i s || ((filterGroups i s).map groupMac).contains d else ipAdmitted i d s

/-- the port takes Harlet frames: enabled, and its link up. [DEDUCED log 12] -/
def portOpen (port : HPort) (s : State) : Bool :=
  match port with
  | .izt => isF pgHAP HAP.PORT_EN_izt s
  | _ => isF pgHAP (if portNum port = 0 then HAP.PORT_EN_a else if portNum port = 1 then HAP.PORT_EN_b else HAP.PORT_EN_m) s

/-- A Harlet frame arrives (R37 to R42, R52, R54): its address, header, then forwarding or the checks of a frame for this device. [DEDUCED log 12] -/
def harletOp (port : HPort) (peer : Peer) (f : List Byte) (s : State) : State :=
  if s.pwr.inReset || (port != .izt && !portUp (portNum port) s) then s
  else if !portAddressed port peer s || !portOpen port s then harletDrop port 3 s
  else if !headOk f then harletDrop port 2 s
  else
    let h := frameHead f
    if h.mode = 0 ∧ !addressesMe f s then (if port = .izt then s else forwardFrame port peer f s)
    else
      let s1 := broadcastCopies port peer f s
      if addressesMe f s then localFrame port peer f s1
      else if h.bcast ∧ port ≠ .izt ∧ isF pgHAP HAP.PORT_EN_izt s ∧ !s.routes.isEmpty then harletTake port s1
      else harletDrop port 3 s1

/-- HARLET_FRAME. -/
def execHarletFrame (port : HPort) (peer : Peer) (frame : List Byte) (s : State) : Host.Outcome State Fault Refusal :=
  .next (harletOp port peer frame s)

/-- SESSION_OPEN (R44): a frame of kind open. -/
def execSessionOpen (port : HPort) (peer : Peer) (frame : List Byte) (s : State) : Host.Outcome State Fault Refusal :=
  .next (if (frameHead frame).kind = 4 then harletOp port peer frame s else s)

/-- SESSION_CONFIRM (R44): a frame of kind confirm. -/
def execSessionConfirm (port : HPort) (peer : Peer) (frame : List Byte) (s : State) : Host.Outcome State Fault Refusal :=
  .next (if (frameHead frame).kind = 6 then harletOp port peer frame s else s)

/-- SESSION_CLOSE (R43): a frame of kind close. -/
def execSessionClose (port : HPort) (peer : Peer) (frame : List Byte) (s : State) : Host.Outcome State Fault Refusal :=
  .next (if (frameHead frame).kind = 7 then harletOp port peer frame s else s)

/-! ## Management messages (R347 to R349) -/

/-- the controller that a wrapper names, and the entry device it came in on. -/
def wrapPeer (m : List Byte) : Peer where
  form := fieldAt 7 1 m
  mac := BitVec.ofNat 48 (fieldAt 8 6 m)
  udp := BitVec.ofNat 16 (fieldAt 14 2 m)
  ip := BitVec.ofNat 128 (fieldAt 16 16 m)
  entry := BitVec.ofNat 10 (fieldAt 4 2 m)
  entryPort := fieldAt 6 1 m
  dst := 0

/-- the message goes on towards its destination with one hop less, the rest as it came. -/
def passOn (m : List Byte) (s : State) : State :=
  match routeTo (fieldAt 2 2 m % 1024) s with
  | some j => izlPost j 2 (m.take 1 ++ beBytes 1 (fieldAt 1 1 m - 1) ++ m.drop 2) s
  | none => s

/-- the routes that an announcement's body lists: 2-byte device, 1-byte hops. -/
def bodyRoutes : Nat → List Byte → List (Nat × Nat)
  | 0, _ => []
  | n + 1, l => if l.length < 3 then [] else (fieldAt 0 2 l, fieldAt 2 1 l) :: bodyRoutes n (l.drop 3)

/-- A management message that this device is to take up. [DEDUCED log 12] -/
def managementLocal (j : Nat) (m : List Byte) (s : State) : State :=
  let kind := fieldAt 0 1 m
  let body := sub 36 (fieldAt 32 2 m) m
  let peer := wrapPeer m
  if kind = 1 ∨ kind = 3 then harletOp .izt peer body s
  else if kind = 2 then
    transmit (if peer.entryPort = 0 then .a else if peer.entryPort = 1 then .b else .m) peer body s
  else if kind = 4 then lendingOp body s
  else if kind = 5 then routeAnnouncementOp j (bodyRoutes 8 body) s
  else s

/-- MANAGEMENT_MESSAGE (R347 to R349): taken from the link, then executed, returned or passed on. Kinds 1 to 3 stop while PORT_EN.izt
is 0; a message not for this device is dropped with no hop left. [DEDUCED log 12] -/
def managementOp (j : Nat) (m : List Byte) (s : State) : State :=
  if act (pgIZL j) s ≠ stRUNNING ∨ m.length < 36 then s
  else
    let s1 := takeMsg j 2 s
    let kind := fieldAt 0 1 m
    let dest := fieldAt 2 2 m % 1024
    if 1 ≤ kind ∧ kind ≤ 3 ∧ !isF pgHAP HAP.PORT_EN_izt s then s1
    else if kind = 5 ∨ dest = deviceNumber s then managementLocal j m s1
    else if fieldAt 1 1 m = 0 then s1
    else passOn m s1

def execManagementMessage (link : Fin 4) (msg : List Byte) (s : State) : Host.Outcome State Fault Refusal :=
  .next (managementOp link.val msg s)

end Sys2Proof.Machine
end

