-- ==== Sys2Proof/Machine/Boundaries.lean ====
section
/-! DEFINITION. Sys2Proof/Machine/Boundaries.lean: the commands that bring a picture boundary or move the time counter, before or after
which scheduled writes fire (R57, R58): ticks, row records, SYNC, TIMEREF_RETURN, WHOLE_SECOND, and idling. -/

namespace Sys2Proof.Machine

/-! ## Ticks (R69, R88, R105, R217) -/

/-- FRAME_CLOCK_TICK (R88): time reaches the page's next tick. -/
def ingClockOp (i : Nat) (s : State) : State :=
  let n := ingNextTick i s
  frameClockTickOp i n (reachBoundary (pgING i) n (ingTickNs i n s) s)

def execFrameClockTick (i : Fin 64) (s : State) : Host.Outcome State Fault Refusal := .next (ingClockOp i.val s)

/-- INGEST_START (R97): a STARTING page is RUNNING from its next tick if PTP has locked and its queues are up, otherwise it waits with
reason 0x05. -/
def ingestStartOp (i : Nat) (s : State) : State :=
  if ingMayStart i s then ingClockOp i s
  else if act (pgING i) s = stSTARTING then setAct (pgING i) stSTARTING 5 s
  else s

def execIngestStart (i : Fin 64) (s : State) : Host.Outcome State Fault Refusal := .next (ingestStartOp i.val s)

/-- SOURCE_LOST (R92): the tick that completes loss_pics ticks without a due picture. [DESIGN CHOICE log 6] -/
def execSourceLost (i : Fin 64) (s : State) : Host.Outcome State Fault Refusal :=
  let p := pgING i.val
  if act p s = stRUNNING ∧ !isF p ING.ST_src_lost s ∧ !nextTickDue i.val s ∧
      getF p ING.LOSS_loss_pics s ≤ (ingOf i.val s).missRun + 1 then .next (ingClockOp i.val s) else .next s

/-- SOURCE_RETURNED (R93): the tick that completes rejoin_pics ticks with a due picture. [DESIGN CHOICE log 6] -/
def execSourceReturned (i : Fin 64) (s : State) : Host.Outcome State Fault Refusal :=
  let p := pgING i.val
  if act p s = stRUNNING ∧ isF p ING.ST_src_lost s ∧ nextTickDue i.val s ∧
      getF p ING.LOSS_rejoin_pics s ≤ (ingOf i.val s).foundRun + 1 then .next (ingClockOp i.val s) else .next s

/-- DECODE_TICK (R217), likewise. -/
def dchClockOp (i : Nat) (s : State) : State :=
  let n := dchNextTick i s
  decodeTickOp i n (reachBoundary (pgDCH i) n (dchTickNs i n s) s)

def execDecodeTick (i : Fin 16) (s : State) : Host.Outcome State Fault Refusal := .next (dchClockOp i.val s)

/-! ## Row records (R14, R69, R133) -/

/-- ROW_RECORD (R57, R69, R133): the record's time is reached; before the record of row 0 of a picture the writes scheduled for it fire.
A MUTED channel that codes nothing takes a pending generation when its record of row 0 would be due. -/
def rowRecordBoundary (c : Nat) (s : State) : State :=
  let x := echOf c s
  if act (pgECH c) s = stMUTED ∧ !x.live then
    let b := nextRow0 c s
    mutedBoundary c (reachBoundary (pgECH c) b.1 b.2 s)
  else if !mayRecord c s then s
  else
    let starts := (sameCycle c s).filter (fun d => (echOf d s).nextRow == 0)
    rowRecordOp c (starts.foldl (fun s d => firePictures (pgECH d) (echOf d s).nextPic s)
      (fireDue (reachNs (recordNs c x.nextPic x.nextRow s) s)))

/-- the row whose record the channel forms next: row 0 while it is MUTED and codes nothing. -/
def dueRow (c : Nat) (s : State) : Nat := if act (pgECH c) s = stMUTED ∧ !(echOf c s).live then 0 else (echOf c s).nextRow

/-- ROW_RECORD names the row whose record time it is; another than the channel's next has none to reach. [DESIGN CHOICE log 4] -/
def execRowRecord (ch : Fin 32) (row : Nat) (s : State) : Host.Outcome State Fault Refusal :=
  .next (if row = dueRow ch.val s then rowRecordBoundary ch.val s else s)

/-- ROW_RELEASE: on a follower the record of row 0 of a picture is loaded with it, and is the boundary of the scheduled writes (R57, R247). -/
def rowReleaseBoundary (c : Nat) (corrected : Bool) (requests misses : Nat) (ready : Bool) (s : State) : State :=
  let x := echOf c s
  let loads := follows c s && (dueRelease c s).isNone && x.nextRow == 0 && (heldRecord c s).isSome
  rowReleaseOp c corrected requests misses ready (if loads then firePictures (pgECH c) x.nextPic (fireDue s) else s)

def execRowRelease (ch : Fin 32) (corrected : Bool) (requests misses : Nat) (sourceReady : Bool) (s : State) :
    Host.Outcome State Fault Refusal :=
  .next (rowReleaseBoundary ch.val corrected requests misses sourceReady s)

/-! ## The time counter -/

/-- SYNC: after a step under a step-grant the entries passed fire at once (R58). -/
def execSync (port : Fin 2) (domain : Byte) (offset : Int) (age : Nat) (s : State) :
    Host.Outcome State Fault Refusal := .next (fireDue (syncOp port.val domain.toNat offset age s))

/-- TIMEREF_RETURN: port M goes back to the speed of its mode. [DEDUCED log 92] -/
def execTimerefReturn (vinUp : Bool) (s : State) : Host.Outcome State Fault Refusal :=
  .next (fireDue (if timSt s = 4 then showSpeed (timerefReturnOp vinUp s) else s))

/-- WHOLE_SECOND (R289). -/
def execWholeSecond (s : State) : Host.Outcome State Fault Refusal := .next (fireDue (wholeSecondOp s))

/-- with no command waiting one MGT tick passes. [DESIGN CHOICE log 3] -/
def idleTick (s : State) : State := fireDue (passTicks 1 s)

end Sys2Proof.Machine
end

