-- ==== Sys2Proof/Machine/Dispatch.lean ====
section
/-! DEFINITION. Sys2Proof/Machine/Dispatch.lean: one arm per command. -/

namespace Sys2Proof.Machine

def exec (i : Instr) (s : State) : Host.Outcome State Fault Refusal :=
  match i with
  | .harletFrame port peer frame => Sys2Proof.Machine.execHarletFrame port peer frame s
  | .sessionOpen port peer frame => Sys2Proof.Machine.execSessionOpen port peer frame s
  | .sessionConfirm port peer frame => Sys2Proof.Machine.execSessionConfirm port peer frame s
  | .sessionClose port peer frame => Sys2Proof.Machine.execSessionClose port peer frame s
  | .acceptExpiry sid => Sys2Proof.Machine.execAcceptExpiry sid s
  | .sessionIdleTimeout idx => Sys2Proof.Machine.execSessionIdleTimeout idx s
  | .read r addr => Sys2Proof.Machine.execRead r addr s
  | .readBurst r addr count => Sys2Proof.Machine.execReadBurst r addr count s
  | .write r addr value => Sys2Proof.Machine.execWrite r addr value s
  | .writeMasked r addr mask value => Sys2Proof.Machine.execWriteMasked r addr mask value s
  | .writeAt r addr body => Sys2Proof.Machine.execWriteAt r addr body s
  | .slipPost r queue slip => Sys2Proof.Machine.execSlipPost r queue slip s
  | .subscribe r addr mask action => Sys2Proof.Machine.execSubscribe r addr mask action s
  | .unknownOpcode r opcode addr later => Sys2Proof.Machine.execUnknownOpcode r opcode addr later s
  | .writeAtFire slot => Sys2Proof.Machine.execWriteAtFire slot s
  | .watCancel r slot => Sys2Proof.Machine.execWatCancel r slot s
  | .dkeyLoad r => Sys2Proof.Machine.execDkeyLoad r s
  | .eventSet r page bits => Sys2Proof.Machine.execEventSet r page bits s
  | .eventFrameSend idx => Sys2Proof.Machine.execEventFrameSend idx s
  | .eventClear r page bits sets => Sys2Proof.Machine.execEventClear r page bits sets s
  | .commit r page => Sys2Proof.Machine.execCommit r page s
  | .discard r page => Sys2Proof.Machine.execDiscard r page s
  | .unitReset r page => Sys2Proof.Machine.execUnitReset r page s
  | .counterLowRead r addr => Sys2Proof.Machine.execCounterLowRead r addr s
  | .stateMismatch page => Sys2Proof.Machine.execStateMismatch page s
  | .registerWrite r addr value => Sys2Proof.Machine.execRegisterWrite r addr value s
  | .mergeWindowExpiry flow => Sys2Proof.Machine.execMergeWindowExpiry flow s
  | .ingestDeadline idx first lines => Sys2Proof.Machine.execIngestDeadline idx first lines s
  | .frameClockTick idx => Sys2Proof.Machine.execFrameClockTick idx s
  | .ingestStart idx => Sys2Proof.Machine.execIngestStart idx s
  | .sourceLost idx => Sys2Proof.Machine.execSourceLost idx s
  | .sourceReturned idx => Sys2Proof.Machine.execSourceReturned idx s
  | .legLost flow legB => Sys2Proof.Machine.execLegLost flow legB s
  | .slateCapture r idx => Sys2Proof.Machine.execSlateCapture r idx s
  | .slateCopy r idx source => Sys2Proof.Machine.execSlateCopy r idx source s
  | .ingestStopped idx => Sys2Proof.Machine.execIngestStopped idx s
  | .cndOutputRow u m row ready => Sys2Proof.Machine.execCndOutputRow u m row ready s
  | .lutWrite r u b => Sys2Proof.Machine.execLutWrite r u b s
  | .rowRecord ch row => Sys2Proof.Machine.execRowRecord ch row s
  | .rowRelease ch corrected requests misses sourceReady => Sys2Proof.Machine.execRowRelease ch corrected requests misses sourceReady s
  | .sliceClose ch col run => Sys2Proof.Machine.execSliceClose ch col run s
  | .ringResume ch col => Sys2Proof.Machine.execRingResume ch col s
  | .bookmarkOverrun ch col read => Sys2Proof.Machine.execBookmarkOverrun ch col read s
  | .windowClose ch reads => Sys2Proof.Machine.execWindowClose ch reads s
  | .departure ch => Sys2Proof.Machine.execDeparture ch s
  | .recode ch col read => Sys2Proof.Machine.execRecode ch col read s
  | .legStallTimeout owner legB => Sys2Proof.Machine.execLegStallTimeout owner legB s
  | .legDropEnd owner legB => Sys2Proof.Machine.execLegDropEnd owner legB s
  | .coreFault core stateError => Sys2Proof.Machine.execCoreFault core stateError s
  | .overdueRow ch => Sys2Proof.Machine.execOverdueRow ch s
  | .rotationStep => Sys2Proof.Machine.execRotationStep s
  | .shadowStart => Sys2Proof.Machine.execShadowStart s
  | .shadowEnd => Sys2Proof.Machine.execShadowEnd s
  | .coreSwitch ch => Sys2Proof.Machine.execCoreSwitch ch s
  | .goldenVectorDone core pass => Sys2Proof.Machine.execGoldenVectorDone core pass s
  | .slackClear r core => Sys2Proof.Machine.execSlackClear r core s
  | .departErrRead r ch => Sys2Proof.Machine.execDepartErrRead r ch s
  | .channelStart ch => Sys2Proof.Machine.execChannelStart ch s
  | .channelStopped ch => Sys2Proof.Machine.execChannelStopped ch s
  | .poolTick g => Sys2Proof.Machine.execPoolTick g s
  | .lendingMessage msg => Sys2Proof.Machine.execLendingMessage msg s
  | .homeUnreachable g => Sys2Proof.Machine.execHomeUnreachable g s
  | .nalDecode idx nal => Sys2Proof.Machine.execNalDecode idx nal s
  | .pictureReady idx poc => Sys2Proof.Machine.execPictureReady idx poc s
  | .decodeTick idx => Sys2Proof.Machine.execDecodeTick idx s
  | .decodeCoreFault core stateError => Sys2Proof.Machine.execDecodeCoreFault core stateError s
  | .decodeStopped idx => Sys2Proof.Machine.execDecodeStopped idx s
  | .decodeGoldenDone core pass => Sys2Proof.Machine.execDecodeGoldenDone core pass s
  | .senderTick n => Sys2Proof.Machine.execSenderTick n s
  | .lateStart n => Sys2Proof.Machine.execLateStart n s
  | .claimFrameSend => Sys2Proof.Machine.execClaimFrameSend s
  | .claimFrameReceived frame => Sys2Proof.Machine.execClaimFrameReceived frame s
  | .partnerDead => Sys2Proof.Machine.execPartnerDead s
  | .roleTaken => Sys2Proof.Machine.execRoleTaken s
  | .heartbeatSend => Sys2Proof.Machine.execHeartbeatSend s
  | .heartbeat msg => Sys2Proof.Machine.execHeartbeat msg s
  | .record msg => Sys2Proof.Machine.execRecord msg s
  | .ack msg => Sys2Proof.Machine.execAck msg s
  | .ackTimeout => Sys2Proof.Machine.execAckTimeout s
  | .recordWaitExpiry ch => Sys2Proof.Machine.execRecordWaitExpiry ch s
  | .linkLostVerdict => Sys2Proof.Machine.execLinkLostVerdict s
  | .check msg => Sys2Proof.Machine.execCheck msg s
  | .lockstepTimeout ch => Sys2Proof.Machine.execLockstepTimeout ch s
  | .piccheck msg => Sys2Proof.Machine.execPiccheck msg s
  | .muteNote msg => Sys2Proof.Machine.execMuteNote msg s
  | .joinReqSend ch => Sys2Proof.Machine.execJoinReqSend ch s
  | .joinReq msg => Sys2Proof.Machine.execJoinReq msg s
  | .snapshotTake ch picture => Sys2Proof.Machine.execSnapshotTake ch picture s
  | .snapPart msg => Sys2Proof.Machine.execSnapPart msg s
  | .snapCommit msg => Sys2Proof.Machine.execSnapCommit msg s
  | .snapAbort msg => Sys2Proof.Machine.execSnapAbort msg s
  | .joinDeadline ch => Sys2Proof.Machine.execJoinDeadline ch s
  | .patchReq msg packets => Sys2Proof.Machine.execPatchReq msg packets s
  | .patch msg pkt => Sys2Proof.Machine.execPatch msg pkt s
  | .patchNone msg => Sys2Proof.Machine.execPatchNone msg s
  | .patchWaitExpiry ch => Sys2Proof.Machine.execPatchWaitExpiry ch s
  | .yield r => Sys2Proof.Machine.execYield r s
  | .handover r => Sys2Proof.Machine.execHandover r s
  | .yieldAbort r => Sys2Proof.Machine.execYieldAbort r s
  | .yieldReceived msg => Sys2Proof.Machine.execYieldReceived msg s
  | .yieldAck msg => Sys2Proof.Machine.execYieldAck msg s
  | .handoverTime => Sys2Proof.Machine.execHandoverTime s
  | .sync port domain offset age => Sys2Proof.Machine.execSync port domain offset age s
  | .crossMismatch => Sys2Proof.Machine.execCrossMismatch s
  | .locked => Sys2Proof.Machine.execLocked s
  | .lockLoss => Sys2Proof.Machine.execLockLoss s
  | .delayResp port msg => Sys2Proof.Machine.execDelayResp port msg s
  | .pathGuardOpen port => Sys2Proof.Machine.execPathGuardOpen port s
  | .pathGuardClose port => Sys2Proof.Machine.execPathGuardClose port s
  | .announce port domain gm => Sys2Proof.Machine.execAnnounce port domain gm s
  | .announceTimeout port => Sys2Proof.Machine.execAnnounceTimeout port s
  | .delayReqSend port ident => Sys2Proof.Machine.execDelayReqSend port ident s
  | .pdelayReq port msg => Sys2Proof.Machine.execPdelayReq port msg s
  | .revertTimer => Sys2Proof.Machine.execRevertTimer s
  | .stepGrant r => Sys2Proof.Machine.execStepGrant r s
  | .grantWithdrawn => Sys2Proof.Machine.execGrantWithdrawn s
  | .revert r => Sys2Proof.Machine.execRevert r s
  | .nowRead r => Sys2Proof.Machine.execNowRead r s
  | .fclkTick f => Sys2Proof.Machine.execFclkTick f s
  | .tcapEdge n rising sub stable gap => Sys2Proof.Machine.execTcapEdge n rising sub stable gap s
  | .capturePop r n => Sys2Proof.Machine.execCapturePop r n s
  | .pulseEdge n => Sys2Proof.Machine.execPulseEdge n s
  | .timerefLost => Sys2Proof.Machine.execTimerefLost s
  | .timerefReturn vinUp => Sys2Proof.Machine.execTimerefReturn vinUp s
  | .txqRead r port => Sys2Proof.Machine.execTxqRead r port s
  | .wholeSecond => Sys2Proof.Machine.execWholeSecond s
  | .pulseWidthEnd n => Sys2Proof.Machine.execPulseWidthEnd n s
  | .laneTrained l t => Sys2Proof.Machine.execLaneTrained l t s
  | .trainFailed l why => Sys2Proof.Machine.execTrainFailed l why s
  | .trainRetry l => Sys2Proof.Machine.execTrainRetry l s
  | .blockEnd l b => Sys2Proof.Machine.execBlockEnd l b s
  | .ctleReevaluate l ctle ffe => Sys2Proof.Machine.execCtleReevaluate l ctle ffe s
  | .fomWarn l => Sys2Proof.Machine.execFomWarn l s
  | .fomAlarm l => Sys2Proof.Machine.execFomAlarm l s
  | .fomRecovered l alarm => Sys2Proof.Machine.execFomRecovered l alarm s
  | .fomRead r l => Sys2Proof.Machine.execFomRead r l s
  | .lossOfLock l => Sys2Proof.Machine.execLossOfLock l s
  | .reacquired l t => Sys2Proof.Machine.execReacquired l t s
  | .calibrationWindow l => Sys2Proof.Machine.execCalibrationWindow l s
  | .refclkLost => Sys2Proof.Machine.execRefclkLost s
  | .refclkReturn => Sys2Proof.Machine.execRefclkReturn s
  | .prbsResync l symbols errors => Sys2Proof.Machine.execPrbsResync l symbols errors s
  | .retrain r l => Sys2Proof.Machine.execRetrain r l s
  | .portFrameReceived port f => Sys2Proof.Machine.execPortFrameReceived port f s
  | .portMFrame f => Sys2Proof.Machine.execPortMFrame f s
  | .frameTransmit port subport => Sys2Proof.Machine.execFrameTransmit port subport s
  | .linkDown port subport cause midFrame => Sys2Proof.Machine.execLinkDown port subport cause midFrame s
  | .linkUp port subport speed => Sys2Proof.Machine.execLinkUp port subport speed s
  | .pauseFrame port subport pfc quanta => Sys2Proof.Machine.execPauseFrame port subport pfc quanta s
  | .pauseRepeat port => Sys2Proof.Machine.execPauseRepeat port s
  | .pauseQuantaExpiry port subport prio => Sys2Proof.Machine.execPauseQuantaExpiry port subport prio s
  | .multicastReport port group leave => Sys2Proof.Machine.execMulticastReport port group leave s
  | .dropSelWrite r port value => Sys2Proof.Machine.execDropSelWrite r port value s
  | .izlFrame link frame fecCorr fecUncorr => Sys2Proof.Machine.execIzlFrame link frame fecCorr fecUncorr s
  | .nak link frame => Sys2Proof.Machine.execNak link frame s
  | .replayTimeout link => Sys2Proof.Machine.execReplayTimeout link s
  | .nakRepeat link => Sys2Proof.Machine.execNakRepeat link s
  | .izlFrameSend link => Sys2Proof.Machine.execIzlFrameSend link s
  | .alignmentMarker link marker => Sys2Proof.Machine.execAlignmentMarker link marker s
  | .alignmentMarkerSend link => Sys2Proof.Machine.execAlignmentMarkerSend link s
  | .narrow link run => Sys2Proof.Machine.execNarrow link run s
  | .widen link => Sys2Proof.Machine.execWiden link s
  | .izlLinkDown link far => Sys2Proof.Machine.execIzlLinkDown link far s
  | .trainingExchange link x => Sys2Proof.Machine.execTrainingExchange link x s
  | .routeAnnounceSend => Sys2Proof.Machine.execRouteAnnounceSend s
  | .routeAnnouncement link routes => Sys2Proof.Machine.execRouteAnnouncement link routes s
  | .managementMessage link msg => Sys2Proof.Machine.execManagementMessage link msg s
  | .stallEnd side => Sys2Proof.Machine.execStallEnd side s
  | .pop queue => Sys2Proof.Machine.execPop queue s
  | .queueCongested queue => Sys2Proof.Machine.execQueueCongested queue s
  | .queueReleased queue => Sys2Proof.Machine.execQueueReleased queue s
  | .queueFlush queue => Sys2Proof.Machine.execQueueFlush queue s
  | .stackEccError e => Sys2Proof.Machine.execStackEccError e s
  | .rebuild r => Sys2Proof.Machine.execRebuild r s
  | .rebuildDone => Sys2Proof.Machine.execRebuildDone s
  | .qcfgWrite r value => Sys2Proof.Machine.execQcfgWrite r value s
  | .qwmWrite r value => Sys2Proof.Machine.execQwmWrite r value s
  | .qpeakClear r => Sys2Proof.Machine.execQpeakClear r s
  | .freeLowRead r => Sys2Proof.Machine.execFreeLowRead r s
  | .poolStallAlarm side => Sys2Proof.Machine.execPoolStallAlarm side s
  | .stackInitDone => Sys2Proof.Machine.execStackInitDone s
  | .qfcMinHoldExpiry pin => Sys2Proof.Machine.execQfcMinHoldExpiry pin s
  | .slipPostAccept queue => Sys2Proof.Machine.execSlipPostAccept queue s
  | .hwSlipPost channel slip => Sys2Proof.Machine.execHwSlipPost channel slip s
  | .fwSlipPost core slip => Sys2Proof.Machine.execFwSlipPost core slip s
  | .slipTake queue => Sys2Proof.Machine.execSlipTake queue s
  | .carrelFill => Sys2Proof.Machine.execCarrelFill s
  | .slipStart core => Sys2Proof.Machine.execSlipStart core s
  | .slipComplete core result known => Sys2Proof.Machine.execSlipComplete core result known s
  | .slipAgeing cls => Sys2Proof.Machine.execSlipAgeing cls s
  | .runLimit core => Sys2Proof.Machine.execRunLimit core s
  | .killLimit core => Sys2Proof.Machine.execKillLimit core s
  | .coreReturn core => Sys2Proof.Machine.execCoreReturn core s
  | .obrovCoreFault core => Sys2Proof.Machine.execObrovCoreFault core s
  | .cancel r queue => Sys2Proof.Machine.execCancel r queue s
  | .cplStatRead r => Sys2Proof.Machine.execCplStatRead r s
  | .hsqStatRead r => Sys2Proof.Machine.execHsqStatRead r s
  | .hbmRequest stack pc a => Sys2Proof.Machine.execHbmRequest stack pc a s
  | .refreshInterval stack pc => Sys2Proof.Machine.execRefreshInterval stack pc s
  | .temperatureReading stack temp => Sys2Proof.Machine.execTemperatureReading stack temp s
  | .tempRead r stack => Sys2Proof.Machine.execTempRead r stack s
  | .selfRefreshEntry stack pc => Sys2Proof.Machine.execSelfRefreshEntry stack pc s
  | .hammerWindow stack => Sys2Proof.Machine.execHammerWindow stack s
  | .retrainPause stack pc ticks eyes => Sys2Proof.Machine.execRetrainPause stack pc ticks eyes s
  | .pauseSkip stack pc => Sys2Proof.Machine.execPauseSkip stack pc s
  | .patrolScrub stack pc a => Sys2Proof.Machine.execPatrolScrub stack pc a s
  | .keepApply stack => Sys2Proof.Machine.execKeepApply stack s
  | .hbmTrainingDone stack seedsGood => Sys2Proof.Machine.execHbmTrainingDone stack seedsGood s
  | .chkStart r unit => Sys2Proof.Machine.execChkStart r unit s
  | .chkData r unit word => Sys2Proof.Machine.execChkData r unit word s
  | .chkFinish r unit last => Sys2Proof.Machine.execChkFinish r unit last s
  | .streamEnable r unit value => Sys2Proof.Machine.execStreamEnable r unit value s
  | .streamPacket unit => Sys2Proof.Machine.execStreamPacket unit s
  | .attest r nonce => Sys2Proof.Machine.execAttest r nonce s
  | .quoteComplete => Sys2Proof.Machine.execQuoteComplete s
  | .fwOpen r kind length => Sys2Proof.Machine.execFwOpen r kind length s
  | .fwData r offset data => Sys2Proof.Machine.execFwData r offset data s
  | .verify r => Sys2Proof.Machine.execVerify r s
  | .install r flags => Sys2Proof.Machine.execInstall r flags s
  | .installComplete readBack => Sys2Proof.Machine.execInstallComplete readBack s
  | .activate r flags finds => Sys2Proof.Machine.execActivate r flags finds s
  | .fwClose r => Sys2Proof.Machine.execFwClose r s
  | .cert r part => Sys2Proof.Machine.execCert r part s
  | .raiseFloor r kind => Sys2Proof.Machine.execRaiseFloor r kind s
  | .keySet r slot key => Sys2Proof.Machine.execKeySet r slot key s
  | .extend r value => Sys2Proof.Machine.execExtend r value s
  | .catRead r part => Sys2Proof.Machine.execCatRead r part s
  | .catDiscard r => Sys2Proof.Machine.execCatDiscard r s
  | .folioExport r part => Sys2Proof.Machine.execFolioExport r part s
  | .bootRom finds => Sys2Proof.Machine.execBootRom finds s
  | .bootResume finds => Sys2Proof.Machine.execBootResume finds s
  | .twinSourceRequest => Sys2Proof.Machine.execTwinSourceRequest s
  | .twinSourceServe link cert => Sys2Proof.Machine.execTwinSourceServe link cert s
  | .twinPackage link length offset data finds => Sys2Proof.Machine.execTwinPackage link length offset data finds s
  | .catalogueSave r => Sys2Proof.Machine.execCatalogueSave r s
  | .catalogueSaved => Sys2Proof.Machine.execCatalogueSaved s
  | .stocktake => Sys2Proof.Machine.execStocktake s
  | .snapClr r => Sys2Proof.Machine.execSnapClr r s
  | .governorReading tj => Sys2Proof.Machine.execGovernorReading tj s
  | .governorRestore => Sys2Proof.Machine.execGovernorRestore s
  | .thermalShutdown => Sys2Proof.Machine.execThermalShutdown s
  | .rearm r => Sys2Proof.Machine.execRearm r s
  | .tjRead r => Sys2Proof.Machine.execTjRead r s
  | .annalsWrite => Sys2Proof.Machine.execAnnalsWrite s
  | .annFlush r => Sys2Proof.Machine.execAnnFlush r s
  | .stressIncrement mv => Sys2Proof.Machine.execStressIncrement mv s
  | .decodeCoreTest core => Sys2Proof.Machine.execDecodeCoreTest core s
  | .treq r value => Sys2Proof.Machine.execTreq r value s
  | .testDone pass => Sys2Proof.Machine.execTestDone pass s
  | .vstbyPowerUp bpos bootsel uncontrolled => Sys2Proof.Machine.execVstbyPowerUp bpos bootsel uncontrolled s
  | .vstbyBrownout => Sys2Proof.Machine.execVstbyBrownout s
  | .vioFault => Sys2Proof.Machine.execVioFault s
  | .vioReturn => Sys2Proof.Machine.execVioReturn s
  | .vinLow fast => Sys2Proof.Machine.execVinLow fast s
  | .vinGood => Sys2Proof.Machine.execVinGood s
  | .vinOver => Sys2Proof.Machine.execVinOver s
  | .railFault good => Sys2Proof.Machine.execRailFault good s
  | .avsEvaluation core fab => Sys2Proof.Machine.execAvsEvaluation core fab s
  | .dcmd r target => Sys2Proof.Machine.execDcmd r target s
  | .dstateChanged us => Sys2Proof.Machine.execDstateChanged us s
  | .unitWake cls unit => Sys2Proof.Machine.execUnitWake cls unit s
  | .unitWakeDone cls unit => Sys2Proof.Machine.execUnitWakeDone cls unit s
  | .powerMeasure vinMv vinMa vstbyMv vstbyMa => Sys2Proof.Machine.execPowerMeasure vinMv vinMa vstbyMv vstbyMa s
  | .resetNLow ns taken => Sys2Proof.Machine.execResetNLow ns taken s
  | .resetRelease bpos bootsel => Sys2Proof.Machine.execResetRelease bpos bootsel s
  | .standbyReset r => Sys2Proof.Machine.execStandbyReset r s
  | .coldReset r => Sys2Proof.Machine.execColdReset r s
  | .warmReset r finds => Sys2Proof.Machine.execWarmReset r finds s
  | .mainWatchdog finds => Sys2Proof.Machine.execMainWatchdog finds s
  | .mgmtWatchdog => Sys2Proof.Machine.execMgmtWatchdog s
  | .uncorrectableStateError page => Sys2Proof.Machine.execUncorrectableStateError page s

end Sys2Proof.Machine
end

