-- ==== Sys2Proof/Machine/Step.lean ====
section
/-! DEFINITION. Sys2Proof/Machine/Step.lean: the block takes the command at the front of its queue; with none waiting one MGT
tick passes (R15, R21). -/

namespace Sys2Proof.Machine

/-- One step: the first waiting command, run on the state with the rest of the queue; on an empty queue one tick of 5 ns. [DESIGN CHOICE log 2, 3] -/
def step (s : State) : Host.Outcome State Fault Refusal :=
  match s.pending with
  | c :: l => exec c { s with pending := l }
  | [] => .next (idleTick s)

/-- the command that a table word spells, put in front of the queue: no row of the table gives bits, so no word spells one. [DESIGN CHOICE log 1] -/
def State.withFetchWord (s : State) (nbits w : Nat) : State :=
  match decodeTableWord nbits w with
  | some c => { s with pending := c :: s.pending }
  | none => s

end Sys2Proof.Machine
end

