-- ==== Sys2Proof/Safety.lean ====
section
/-! DEFINITION. Sys2Proof/Safety.lean: what holds of every state that a run reaches, in the terms that the statements use. -/

namespace Sys2Proof.Machine

/-- every register map is in its one canonical form: keys strictly rising. -/
def State.mapsSorted (s : State) : Bool := SMap.sorted s.regs && SMap.sorted s.shadow && SMap.sorted s.committed

/-- The limits of chapter 02: at most 8 sessions at indices below 8 (R43), each with at most 32 subscription entries (R60). -/
def State.sessionLimits (s : State) : Prop :=
  SMap.sorted s.hap.sessions = true ∧ ∀ e ∈ s.hap.sessions, e.1 < 8 ∧ e.2.subs.length ≤ 32

/-- what of the sessions no command but opening, closing, SUBSCRIBE and a reset changes: who they are and what they subscribe to. -/
def State.sessionView (s : State) : List (Nat × Nat × List Sub) := s.hap.sessions.map (fun e => (e.1, e.2.sid, e.2.subs))

/-! ## What the statements say of a command -/

/-- A register operation of opcode `opcode` on page `p`, offset `off` runs: its session is open, past provisioning and has room
(R46, R50), the domain session carries it (R52), and the register answers (R12, R18, R71). -/
def State.lets (r : Req) (opcode p off : Nat) (s : State) : Prop :=
  regStatus p off s = .success ∧
    match r.origin with
    | .session i => ∃ x, sessionAt i.val s = some x ∧ x.provisioning = false ∧ x.outstanding + x.unsent < 64
    | .domain => opcode = 3 ∨ opcode = 4 ∨ opcode = 5
    | .wat _ => True
    | .firmware => True

/-- A frame on `port` with a good header reaches this device: no reset holds it, the port's link is up and takes Harlet frames, the
frame was sent to an address of the port, and it is addressed to this device alone (R37, R38, R40, R52). -/
def State.hears (port : HPort) (peer : Peer) (f : List Byte) (s : State) : Prop :=
  s.pwr.inReset = false ∧ (port = .izt ∨ portUp (portNum port) s = true) ∧ portAddressed port peer s = true ∧
    portOpen port s = true ∧ headOk f = true ∧ (frameHead f).mode = 0 ∧ addressesMe f s = true

/-- The same for a frame of the domain session, addressed to the domain or to a group of this device (R52). -/
def State.hearsDomain (port : HPort) (peer : Peer) (f : List Byte) (s : State) : Prop :=
  s.pwr.inReset = false ∧ (port = .izt ∨ portUp (portNum port) s = true) ∧ portAddressed port peer s = true ∧
    portOpen port s = true ∧ headOk f = true ∧ (frameHead f).mode ≠ 0 ∧ (frameHead f).sid = domainSid ∧ addressesMe f s = true

/-- The twin page takes a message: it runs, and the message is of its epoch or of a kind that tells one (R242). -/
def State.twinTakes (m : TwinMsg) (s : State) : Prop :=
  act pgTWN s = stRUNNING ∧ (m.epoch.toNat = getF pgTWN TWN.EPOCH_epoch s ∨ anyEpoch m.kind.toNat = true)

/-- `t` has the registers of `s` but for those of the pages in `l`. -/
def State.regsBut (l : List Nat) (s t : State) : Prop :=
  ∀ k, k / 2 ^ 20 ∉ l → SMap.find k t.regs = SMap.find k s.regs

/-- `t` has the registers of `s` but for those fields of page `p`. -/
def State.fieldsBut (p : Nat) (l : List Fld) (s t : State) : Prop :=
  ∀ k, k ∉ l.map (Fld.key p) → SMap.find k t.regs = SMap.find k s.regs

/-- A FW_SESSION or ATTEST operation of session `i` is served: the session is open, past provisioning and has room, and the loader
or the main image runs (R46, R50, R430). -/
def State.fwLets (i : Nat) (s : State) : Prop :=
  s.fwl.stage ≠ 0 ∧ ∃ x, sessionAt i s = some x ∧ x.provisioning = false ∧ x.outstanding + x.unsent < 64

/-- Stack `i` runs and nothing waits on it: every pseudo-channel is active, open, without requests and without refresh debt, and
no request waits for credit. -/
def State.hbmQuiet (i : Nat) (s : State) : Prop :=
  hbmRuns i s = true ∧ (hbmOf i s).blocked = [] ∧
    ∀ p, p < 32 → (pcOf i p s).mode = 0 ∧ (pcOf i p s).queue = [] ∧ (pcOf i p s).debt = 0 ∧ (pcOf i p s).closedUntil ≤ s.clk

end Sys2Proof.Machine
end

