-- ==== Sys2Proof/Certificates/Slice0/Obligations.lean ====
section
/-! DEFINITION. Sys2Proof/Certificates/Slice0/Obligations.lean: the statements about the VT8160, for the provers. -/

open Sys2Proof Sys2Proof.Machine

/-- When a command c waits at the front of the queue, a step is exec of c on the state whose queue is the rest. The
queue is the model's way to feed commands to the block. It rests on choices of the model: log 2. Cites R15, R21. -/
def Obligations.StepRunsTheFront : Prop :=
  ∀ (c : Instr) (l : List Instr) (s : State), step { s with pending := c :: l } = exec c { s with pending := l }

/-- On an empty queue a step answers the state one MGT tick later. The time counter runs five TIME cycles in the tick,
or stands still while TIM.STATUS.state is 4 (TIMEREF absent); every other part of the state is as before. That an idle
step is one tick is the model's choice. It rests on choices of the model: log 3. Cites R15, R16, R21, R271. -/
def Obligations.IdleStepPassesOneTick : Prop :=
  ∀ s : State, s.pending = [] →
    ∃ t, step s = .next t ∧ t = { s with clk := s.clk + 1, tim := t.tim } ∧
      (timSt s = 4 → t.tim = s.tim) ∧ (timSt s ≠ 4 → t.tim = runTime 5 s)

/-- After reset no session is open, no accept waits, no scheduled write is pending, no domain key is loaded, the
routes and the HBM placements are empty, the main domain does not run, the slip desk holds no slip, and the pages DEV,
HAP and PWR read RUNNING while every main-domain page reads RESET; EVENT of every page reads 0, and a field that is no
page state holds its field map's value. It rests on choices of the model: log 28, 33 and 34. Cites R43, R58, R72, R23,
R489, R491. -/
def Obligations.ResetLeaves : Prop :=
  State.reset.hap.sessions = [] ∧ State.reset.hap.accepts = [] ∧ State.reset.hap.wats = [] ∧ State.reset.hap.dkey = none ∧
  State.reset.routes = [] ∧ State.reset.bufs = [] ∧ State.reset.pwr.mainRun = false ∧
  act pgDEV State.reset = stRUNNING ∧ act pgHAP State.reset = stRUNNING ∧ act pgPWR State.reset = stRUNNING ∧
  (∀ p, standbyPage p = false → act p State.reset = stRESET) ∧
  (∀ p f, f.loc < 2 ^ 20 → f.loc ≠ HDR.ACT_state.loc → getF p f State.reset = f.resetAt p)

/-- The response of an operation of an open session is appended to that session's responses with the opcode, status,
tag, address and body given; nothing else changes. In the domain session success adds one to DOM_OK, and any other
status adds one to DOM_ERR and shows in DOM_LAST; no session and no other page changes. It rests on choices of the
model: log 15. Cites R41, R48, R52. -/
def Obligations.ResponsesGoToTheRequester : Prop :=
  (∀ (i : Fin 8) (tag : BitVec 16) (opcode addr : Nat) (st : Status) (body : List Byte) (x : Session) (s : State),
    sessionAt i.val s = some x →
    sessionAt i.val (reply ⟨.session i, tag⟩ opcode addr st body s) =
        some { x with resps := x.resps ++ [⟨opcode, st.code, tag.toNat, addr, body⟩] } ∧
      (∀ j, j ≠ i.val → sessionAt j (reply ⟨.session i, tag⟩ opcode addr st body s) = sessionAt j s) ∧
      (reply ⟨.session i, tag⟩ opcode addr st body s).regs = s.regs) ∧
  (∀ (tag : BitVec 16) (opcode addr : Nat) (body : List Byte) (s : State),
    getF pgHAP HAP.DOM_OK_count (reply ⟨.domain, tag⟩ opcode addr .success body s) =
        (getF pgHAP HAP.DOM_OK_count s + 1) % 2 ^ 32 ∧
      (reply ⟨.domain, tag⟩ opcode addr .success body s).hap = s.hap ∧
      State.fieldsBut pgHAP [HAP.DOM_OK_count] s (reply ⟨.domain, tag⟩ opcode addr .success body s)) ∧
  (∀ (tag : BitVec 16) (opcode addr : Nat) (st : Status) (body : List Byte) (s : State), st ≠ .success →
    getF pgHAP HAP.DOM_ERR_count (reply ⟨.domain, tag⟩ opcode addr st body s) =
        (getF pgHAP HAP.DOM_ERR_count s + 1) % 2 ^ 32 ∧
      getF pgHAP HAP.DOM_LAST_status (reply ⟨.domain, tag⟩ opcode addr st body s) = st.code ∧
      (reply ⟨.domain, tag⟩ opcode addr st body s).hap = s.hap ∧
      State.fieldsBut pgHAP [HAP.DOM_ERR_count, HAP.DOM_LAST_status, HAP.DOM_LAST_addr] s
        (reply ⟨.domain, tag⟩ opcode addr st body s))

/-- READ of any register that answers, and COUNTER_LOW_READ of the low word of any 64-bit pair, complete with success
and the word in network byte order. Where the register has no read action of its own and no word is latched for it,
the word is the register's, and the state is unchanged but for the high word that the low word of a pair latches for
the session: the session's next read of the high word answers that value and uses it up. A READ_BURST inside a page of
the index whose registers all answer, none of them with a read action, a latched word or a pair, completes with
success and their words in order, the state unchanged; any READ_BURST inside a page completes with four bytes for each
of its words; one that crosses the end of its page answers invalid-address. It rests on choices of the model: log 6,
7, 10 and 11. Cites R7, R20, R41, R48. -/
def Obligations.ReadsAnswerTheWord : Prop :=
  (∀ (r : Req) (addr : Word) (s : State), State.lets r 1 (addr.toNat / 4096) (addr.toNat % 4096) s →
    exec (.read r addr) s =
      .next (reply r 0x81 addr.toNat .success (beBytes 4 (readReg r (addr.toNat / 4096) (addr.toNat % 4096) s).1)
        (readReg r (addr.toNat / 4096) (addr.toNat % 4096) s).2)) ∧
  (∀ (r : Req) (addr : Word) (s : State), State.lets r 1 (addr.toNat / 4096) (addr.toNat % 4096) s →
    readAction r (addr.toNat / 4096) (addr.toNat % 4096) s = none → takeLatch r addr.toNat s = none →
    pairLow (addr.toNat / 4096) (addr.toNat % 4096) = false →
    exec (.read r addr) s =
      .next (reply r 0x81 addr.toNat .success (beBytes 4 (regWord (addr.toNat / 4096) (addr.toNat % 4096) s)) s)) ∧
  (∀ (r : Req) (addr : Word) (v : Nat) (u s : State), State.lets r 1 (addr.toNat / 4096) (addr.toNat % 4096) s →
    readAction r (addr.toNat / 4096) (addr.toNat % 4096) s = none → takeLatch r addr.toNat s = some (v, u) →
    exec (.read r addr) s = .next (reply r 0x81 addr.toNat .success (beBytes 4 v) u)) ∧
  (∀ (r : Req) (addr : Word) (s : State), State.lets r 1 (addr.toNat / 4096) (addr.toNat % 4096) s →
    readAction r (addr.toNat / 4096) (addr.toNat % 4096) s = none → takeLatch r addr.toNat s = none →
    pairLow (addr.toNat / 4096) (addr.toNat % 4096) = true →
    exec (.counterLowRead r addr) s =
      .next (reply r 0x81 addr.toNat .success (beBytes 4 (regWord (addr.toNat / 4096) (addr.toNat % 4096) s))
        (latchWord r (addr.toNat + 4) (regWord (addr.toNat / 4096) (addr.toNat % 4096 + 4) s) s))) ∧
  (∀ (i : Fin 8) (tag : BitVec 16) (a v : Nat) (x : Session) (s : State), sessionAt i.val s = some x →
    ∃ u, takeLatch ⟨.session i, tag⟩ a (latchWord ⟨.session i, tag⟩ a v s) = some (v, u) ∧
      takeLatch ⟨.session i, tag⟩ a u = none) ∧
  (∀ (r : Req) (addr : Word) (count : Byte) (s : State), State.lets r 2 (addr.toNat / 4096) (addr.toNat % 4096) s →
    addr.toNat % 4096 + 4 * (count.toNat + 1) ≤ 4096 →
    (∃ st body u, exec (.readBurst r addr count) s = .next (reply r 0x82 addr.toNat st body u) ∧
      body.length = 4 * (count.toNat + 1)) ∧
    ((∀ k, k ≤ count.toNat → regStatus (addr.toNat / 4096) (addr.toNat % 4096 + 4 * k) s = .success ∧
        readAction r (addr.toNat / 4096) (addr.toNat % 4096 + 4 * k) s = none ∧
        takeLatch r (addr.toNat + 4 * k) s = none ∧
        pairLow (addr.toNat / 4096) (addr.toNat % 4096 + 4 * k) = false) →
      exec (.readBurst r addr count) s =
        .next (reply r 0x82 addr.toNat .success ((List.range (count.toNat + 1)).flatMap (fun k =>
          beBytes 4 (regWord (addr.toNat / 4096) (addr.toNat % 4096 + 4 * k) s))) s))) ∧
  (∀ (r : Req) (addr : Word) (count : Byte) (s : State), State.lets r 2 (addr.toNat / 4096) (addr.toNat % 4096) s →
    4096 < addr.toNat % 4096 + 4 * (count.toNat + 1) →
    exec (.readBurst r addr count) s =
      .next (reply r 0x82 addr.toNat .invalidAddress (List.replicate (4 * (count.toNat + 1)) 0) s))

/-- WRITE, REGISTER_WRITE and WRITE_MASKED of any register that answers complete with the status and the effect of
writing the word there; the word of WRITE_MASKED takes the bits of its mask from the value and the others from the
register. A WRITE of EVENT_EN makes each of the event bits that its page has the bit written, at once, and changes
nothing else. A REGISTER_WRITE of STATE_CMD with a commandable code on a page that has a state puts the code into the
shadow only, the active values and every register untouched, and with any other code answers invalid-value and changes
nothing. A WRITE_MASKED of EVENT clears exactly the bits that are set both in its mask and in its value. It rests on
choices of the model: log 6, 8 and 20. Cites R9, R23, R25, R49, R66. -/
def Obligations.WritesTakeTheirValue : Prop :=
  (∀ (r : Req) (addr value : Word) (s : State), State.lets r 3 (addr.toNat / 4096) (addr.toNat % 4096) s →
    resetsDevice (addr.toNat / 4096) (addr.toNat % 4096) value.toNat = false →
    exec (.write r addr value) s =
        .next (reply r 0x83 addr.toNat (writeReg r (addr.toNat / 4096) (addr.toNat % 4096) value.toNat s).1 []
          (writeReg r (addr.toNat / 4096) (addr.toNat % 4096) value.toNat s).2) ∧
      exec (.registerWrite r addr value) s = exec (.write r addr value) s) ∧
  (∀ (r : Req) (addr mask value : Word) (s : State), State.lets r 4 (addr.toNat / 4096) (addr.toNat % 4096) s →
    resetsDevice (addr.toNat / 4096) (addr.toNat % 4096)
      (maskedWord (addr.toNat / 4096) (addr.toNat % 4096) mask.toNat value.toNat s) = false →
    exec (.writeMasked r addr mask value) s =
      .next (reply r 0x84 addr.toNat (writeReg r (addr.toNat / 4096) (addr.toNat % 4096)
          (maskedWord (addr.toNat / 4096) (addr.toNat % 4096) mask.toNat value.toNat s) s).1 []
        (writeReg r (addr.toNat / 4096) (addr.toNat % 4096)
          (maskedWord (addr.toNat / 4096) (addr.toNat % 4096) mask.toNat value.toNat s) s).2)) ∧
  (∀ (r : Req) (addr value : Word) (s : State), State.lets r 3 (addr.toNat / 4096) 0x014 s → addr.toNat % 4096 = 0x014 →
    ∃ u, exec (.write r addr value) s = .next (reply r 0x83 addr.toNat .success [] u) ∧
      (∀ k, k < 32 → getF (addr.toNat / 4096) (HDR.EVENT_EN k) u =
        if (eventMask (addr.toNat / 4096)).testBit k then value.toNat / 2 ^ k % 2 else 0) ∧
      u = { s with regs := u.regs } ∧
      State.fieldsBut (addr.toNat / 4096) ((List.range 32).map HDR.EVENT_EN) s u) ∧
  (∀ (r : Req) (addr value : Word) (s : State), State.lets r 3 (addr.toNat / 4096) 0x024 s → addr.toNat % 4096 = 0x024 →
    hasState (addr.toNat / 4096) = true →
    (value.toNat % 16 ∈ [stOFF, stIDLE, stRUNNING, stTEST, stLOW] →
      ∃ u, exec (.registerWrite r addr value) s = .next (reply r 0x83 addr.toNat .success [] u) ∧
        getSh (addr.toNat / 4096) HDR.CMD_state u = value.toNat % 16 ∧ u = { s with shadow := u.shadow }) ∧
    (value.toNat % 16 ∉ [stOFF, stIDLE, stRUNNING, stTEST, stLOW] →
      exec (.registerWrite r addr value) s = .next (reply r 0x83 addr.toNat .invalidValue [] s))) ∧
  (∀ (r : Req) (addr mask value : Word) (s : State), State.lets r 4 (addr.toNat / 4096) 0x010 s → addr.toNat % 4096 = 0x010 →
    ∃ u, exec (.writeMasked r addr mask value) s = .next (reply r 0x84 addr.toNat .success [] u) ∧
      (∀ k, k < 32 → getF (addr.toNat / 4096) (HDR.EVENT k) u =
        if mask.getLsbD k && value.getLsbD k then 0 else getF (addr.toNat / 4096) (HDR.EVENT k) s) ∧
      u = { s with regs := u.regs })

/-- EVENT_SET makes each bit of the page's events written as 1 read 1 and leaves the others. EVENT_CLEAR makes each
bit written as 1 read 0, but an event that hardware or EVENT_SET sets in the same cycle (the command's operand sets)
reads 1 after, whether it was written as 1 or as 0; every other bit is unchanged. Bits that the page's EVENT does not
have are ignored where they are set. No register of another page changes in either, nor any part of the state but the
registers and the records of subscribed sessions. Cites R10. -/
def Obligations.EventBitsSetAndClear : Prop :=
  (∀ (r : Req) (page : BitVec 20) (bits : Word) (s : State), State.lets r 3 page.toNat 0x018 s →
    ∃ u, exec (.eventSet r page bits) s = .next (reply r 0x83 (regAddr page.toNat 0x018) .success [] u) ∧
      (∀ k, k < 32 → getF page.toNat (HDR.EVENT k) u =
        if bits.getLsbD k && (eventMask page.toNat).testBit k then 1 else getF page.toNat (HDR.EVENT k) s) ∧
      u = { s with regs := u.regs, hap := { s.hap with sessions := u.hap.sessions } } ∧ State.regsBut [page.toNat] s u) ∧
  (∀ (r : Req) (page : BitVec 20) (bits sets : Word) (s : State), State.lets r 3 page.toNat 0x010 s →
    ∃ u, exec (.eventClear r page bits sets) s = .next (reply r 0x83 (regAddr page.toNat 0x010) .success [] u) ∧
      (∀ k, k < 32 → getF page.toNat (HDR.EVENT k) u =
        if sets.getLsbD k && (eventMask page.toNat).testBit k then 1
        else if bits.getLsbD k && !sets.getLsbD k then 0 else getF page.toNat (HDR.EVENT k) s) ∧
      u = { s with regs := u.regs, hap := { s.hap with sessions := u.hap.sessions } } ∧ State.regsBut [page.toNat] s u)

/-- A COMMIT of any page that answers completes with the status and the effect of the commit's checks. A COMMIT of
RCL, whose shadows are valid, adds one to gen_committed; one whose shadows are not valid answers invalid-value and
changes nothing, on every page. A COMMIT that carries TEST or OFF, newly, for a page with a state that is RUNNING
answers refused-in-service, makes STATE_ACT.reason 0x0C and changes nothing else. DISCARD of a page copies the active
value of each of its RWC fields into the shadow and changes nothing but shadows. A tick of a page's governing frame
clock while its commanded and actual states differ adds one to its mismatch count, and raises EVENT bit 31 when the
whole picture periods reach 2 with the bit reading 1 after; while they agree it changes nothing. It rests on choices
of the model: log 6, 21, 22 and 94. Cites R24, R28, R29, R68, R69. -/
def Obligations.CommitDiscardMismatch : Prop :=
  (∀ (r : Req) (page : BitVec 20) (s : State), State.lets r 3 page.toNat 0x020 s →
    exec (.commit r page) s =
      .next (reply r 0x83 (regAddr page.toNat 0x020) (commitOp page.toNat s).1 [] (commitOp page.toNat s).2) ∧
    (commitRefused page.toNat s = false → commitValid page.toNat s = false →
      exec (.commit r page) s = .next (reply r 0x83 (regAddr page.toNat 0x020) .invalidValue [] s))) ∧
  (∀ (r : Req) (s : State), State.lets r 3 pgRCL 0x020 s → commitValid pgRCL s = true →
    ∃ u, exec (.commit r (BitVec.ofNat 20 pgRCL)) s = .next (reply r 0x83 (regAddr pgRCL 0x020) .success [] u) ∧
      getF pgRCL HDR.gen_committed u = (getF pgRCL HDR.gen_committed s + 1) % 2 ^ 12) ∧
  (∀ (r : Req) (page : BitVec 20) (s : State), State.lets r 3 page.toNat 0x020 s → hasState page.toNat = true →
    act page.toNat s = stRUNNING → getSh page.toNat HDR.CMD_state s ∈ [stTEST, stOFF] →
    getSh page.toNat HDR.CMD_state s ≠ cmdOf page.toNat s →
    ∃ u, exec (.commit r page) s = .next (reply r 0x83 (regAddr page.toNat 0x020) .refusedInService [] u) ∧
      getF page.toNat HDR.ACT_reason u = 0x0C ∧ u = { s with regs := u.regs } ∧
      State.fieldsBut page.toNat [HDR.ACT_reason] s u) ∧
  (∀ (r : Req) (page : BitVec 20) (s : State), State.lets r 3 page.toNat 0x020 s →
    ∃ u, exec (.discard r page) s = .next (reply r 0x83 (regAddr page.toNat 0x020) .success [] u) ∧
      (∀ f ∈ rwcRows page.toNat, getSh page.toNat f u = getF page.toNat f s % 2 ^ f.width) ∧
      u = { s with shadow := u.shadow }) ∧
  (∀ (page : BitVec 20) (s : State), statesAgree page.toNat s = false →
    ∃ t, exec (.stateMismatch page) s = .next t ∧ SMap.get 0 page.toNat t.ticks = SMap.get 0 page.toNat s.ticks + 1 ∧
      (SMap.get 0 page.toNat s.ticks = 2 → getF page.toNat (HDR.EVENT 31) t = 1) ∧
      t = { s with regs := t.regs, ticks := t.ticks, hap := { s.hap with sessions := t.hap.sessions } } ∧
      State.regsBut [page.toNat] s t) ∧
  (∀ (page : BitVec 20) (s : State), statesAgree page.toNat s = true → exec (.stateMismatch page) s = .next s)

/-- A WRITE_AT that passes the checks of R56 takes a free slot for an entry with its target, value and tag, answers
success with the slot number, and WAT_PENDING counts the entries. WRITE_AT_FIRE of a slot that holds a PTP entry
reaches the entry's time and fires every entry that is due by then, in the order of triggers and acceptance. Where the
entry's time has come, no other PTP entry's has and its target is EVENT_EN of an answering page, EVENT_EN takes the
entry's value, the slot empties, and no other slot changes. WRITE_AT_FIRE of an empty slot, or of a picture entry,
which its own boundary fires, changes nothing. WAT_CANCEL of an occupied slot empties it and answers success; of an
empty slot it answers too-late and changes nothing. It rests on choices of the model: log 4, 16 and 17. Cites R55,
R56, R57, R58. -/
def Obligations.ScheduledWrites : Prop :=
  (∀ (r : Req) (addr : Word) (body : WatBody) (s : State), State.lets r 5 (addr.toNat / 4096) (addr.toNat % 4096) s →
    watCheck addr.toNat body s = .success → SMap.sorted s.hap.wats = true → (∀ e ∈ s.hap.wats, e.1 < 256) →
    ∃ k u e, exec (.writeAt r addr body) s = .next (reply r 0x85 addr.toNat .success (beBytes 4 k) u) ∧ k < 256 ∧
      SMap.find k s.hap.wats = none ∧ SMap.find k u.hap.wats = some e ∧ e.target = addr.toNat ∧
      e.value = body.value.toNat ∧ e.tag = r.tag.toNat ∧
      (∀ j, j ≠ k → SMap.find j u.hap.wats = SMap.find j s.hap.wats) ∧
      getF pgHAP HAP.WAT_PENDING_count u = u.hap.wats.length % 2 ^ HAP.WAT_PENDING_count.width ∧
      u = { s with regs := u.regs, hap := { s.hap with wats := u.hap.wats, watOrder := s.hap.watOrder + 1 } } ∧
      State.fieldsBut pgHAP [HAP.WAT_PENDING_count] s u) ∧
  (∀ (slot : Fin 256) (e : WatEntry) (s : State), SMap.find slot.val s.hap.wats = some e → e.picture = false →
    exec (.writeAtFire slot) s = .next (fireDue (advanceToNs e.time s))) ∧
  (∀ (slot : Fin 256) (e : WatEntry) (s : State), SMap.sorted s.hap.wats = true → SMap.find slot.val s.hap.wats = some e →
    e.picture = false → e.masked = false → e.time ≤ fabNs s → e.target % 4096 = 0x014 →
    (∀ j q, j ≠ slot.val → SMap.find j s.hap.wats = some q → q.picture = true ∨ fabNs s < q.time) →
    regStatus (e.target / 4096) 0x014 s = .success →
    ∃ t, exec (.writeAtFire slot) s = .next t ∧ SMap.find slot.val t.hap.wats = none ∧
      (∀ j, j ≠ slot.val → SMap.find j t.hap.wats = SMap.find j s.hap.wats) ∧
      (∀ k, k < 32 → getF (e.target / 4096) (HDR.EVENT_EN k) t =
        if (eventMask (e.target / 4096)).testBit k then e.value / 2 ^ k % 2 else 0)) ∧
  (∀ (slot : Fin 256) (s : State), (SMap.find slot.val s.hap.wats).all (fun e => e.picture) = true →
    exec (.writeAtFire slot) s = .next s) ∧
  (∀ (r : Req) (slot : Byte) (e : WatEntry) (s : State), State.lets r 3 pgHAP 0x118 s →
    SMap.find slot.toNat s.hap.wats = some e →
    ∃ u, exec (.watCancel r slot) s = .next (reply r 0x83 (regAddr pgHAP 0x118) .success [] u) ∧
      SMap.find slot.toNat u.hap.wats = none ∧
      (∀ j, j ≠ slot.toNat → SMap.find j u.hap.wats = SMap.find j s.hap.wats) ∧
      u = { s with regs := u.regs, hap := { s.hap with wats := u.hap.wats, sessions := u.hap.sessions } } ∧
      State.fieldsBut pgHAP [HAP.WAT_PENDING_count] s u) ∧
  (∀ (r : Req) (slot : Byte) (s : State), State.lets r 3 pgHAP 0x118 s → SMap.find slot.toNat s.hap.wats = none →
    exec (.watCancel r slot) s = .next (reply r 0x83 (regAddr pgHAP 0x118) .tooLate [] s))

/-- SESSION_OPEN: an open frame with suite 1 whose key index names a filled slot, or 0xFF where a provisioning session
may open, with fewer than 8 sessions open, adds one accept that holds that key index. SESSION_CONFIRM: a confirm frame
for a pending accept, with fewer than 8 sessions open, uses the accept up; where its signature verifies under the key
in the accept's slot, or the accept is a provisioning one that still may open, a session opens with the accept's
session_id, nothing received, sending from sequence 1, and otherwise no session opens or closes. SESSION_CLOSE: a
close frame with a new sequence and a good tag closes its session. ACCEPT_EXPIRY: once an accept's second has run out
it is held no more. SESSION_IDLE_TIMEOUT: a session without a valid frame for IDLE_TIMEOUT seconds (at least one)
closes. It rests on choices of the model: log 4, 14, 16 and 30. Cites R43, R44, R45, R46, R47. -/
def Obligations.SessionsOpenAndClose : Prop :=
  (∀ (port : HPort) (peer : Peer) (f : List Byte) (s : State), State.hears port peer f s →
    (frameHead f).kind = 4 → f.length = 157 → fieldAt 25 1 f = 1 →
    (if fieldAt 24 1 f = 0xFF then mayProvision port s = true else (SMap.find (fieldAt 24 1 f) s.fwl.keys).isSome = true) →
    s.hap.sessions.length < 8 →
    ∃ t x, exec (.sessionOpen port peer f) s = .next t ∧ t.hap.accepts = s.hap.accepts ++ [x] ∧
      x.keyIndex = fieldAt 24 1 f ∧ x.port = port ∧ x.peer = peer) ∧
  (∀ (port : HPort) (peer : Peer) (f : List Byte) (a : Accept) (s : State), State.hears port peer f s →
    (frameHead f).kind = 6 → f.length = 124 → acceptOf (fieldAt 24 4 f) s = some a → a.keyIndex ≠ 0xFF →
    s.hap.sessions.length < 8 →
    ∃ t, exec (.sessionConfirm port peer f) s = .next t ∧ t.hap.accepts = s.hap.accepts.filter (fun y => y.sid != a.sid) ∧
      (∀ key, SMap.find a.keyIndex s.fwl.keys = some key →
        Config.ecdsaOk key (Config.sha384 (a.transcript ++ f.take 28)) (f.drop 28) = true →
        ∃ i x, sessionAt i t = some x ∧ x.sid = a.sid ∧ x.provisioning = false ∧ x.rxHigh = 0 ∧ x.rxSeen = [] ∧
          x.txNext = 1 ∧ x.subs = []) ∧
      (∀ key, SMap.find a.keyIndex s.fwl.keys = some key →
        Config.ecdsaOk key (Config.sha384 (a.transcript ++ f.take 28)) (f.drop 28) = false →
        t.sessionView = s.sessionView)) ∧
  (∀ (port : HPort) (peer : Peer) (f : List Byte) (a : Accept) (s : State), State.hears port peer f s →
    (frameHead f).kind = 6 → f.length = 124 → acceptOf (fieldAt 24 4 f) s = some a → a.keyIndex = 0xFF →
    s.hap.sessions.length < 8 → mayProvision a.port s = true →
    ∃ t i x, exec (.sessionConfirm port peer f) s = .next t ∧ sessionAt i t = some x ∧ x.sid = a.sid ∧
      x.provisioning = true ∧ getF pgHAP (HDR.EVENT 0) t = 1) ∧
  (∀ (port : HPort) (peer : Peer) (f : List Byte) (i : Fin 8) (x : Session) (s : State), State.hears port peer f s →
    (frameHead f).kind = 7 → 40 ≤ f.length → (frameHead f).sid ≠ domainSid → sessionOf (frameHead f).sid s = some i.val →
    sessionAt i.val s = some x → seqNew x.rxHigh x.rxSeen (frameHead f).seq = true → tagOk x.rxKey f = true →
    ∃ t, exec (.sessionClose port peer f) s = .next t ∧ sessionAt i.val t = none) ∧
  (∀ (sid : Word) (a : Accept) (s : State), s.hap.accepts.find? (fun y => y.sid == sid.toNat) = some a →
    ∃ t, exec (.acceptExpiry sid) s = .next t ∧ t.hap.accepts = s.hap.accepts.filter (fun y => y.sid != sid.toNat) ∧
      a.born + tickS ≤ t.clk ∧
      t = { s with clk := t.clk, tim := t.tim, hap := { s.hap with accepts := t.hap.accepts } }) ∧
  (∀ (i : Fin 8) (x : Session) (s : State), sessionAt i.val s = some x →
    ∃ t, exec (.sessionIdleTimeout i) s = .next t ∧ sessionAt i.val t = none ∧
      x.lastFrame + max 1 (getF pgHAP HAP.IDLE_TIMEOUT_seconds s) * tickS ≤ t.clk ∧
      t.hap.accepts = s.hap.accepts ∧ t.hap.wats = s.hap.wats)

/-- HARLET_FRAME: a tagged request frame addressed to this device on a port that takes Harlet frames, in an open
session, with a new sequence, a good tag and well-formed operations, raises the session's highest sequence, restarts
its idle time and takes the sender's port and address, and nothing else of the sessions changes before its operations
run, in order; their responses then leave. With op_count 0 one response frame with op_count 0 leaves, which carries
the session's next sequence. A request of the domain session, under a loaded domain key, moves the domain window and
runs its operations, which draw no response frame. A frame whose tag is wrong, or whose sequence is not new, changes
no session. It rests on choices of the model: log 12 and 30. Cites R42, R43, R47, R51, R52. -/
def Obligations.EmptyRequestIsAnswered : Prop :=
  (∀ (port : HPort) (peer : Peer) (f : List Byte) (i : Fin 8) (x : Session) (ops : List (List Byte)) (s : State),
    State.hears port peer f s → (frameHead f).kind = 1 → 40 ≤ f.length → (frameHead f).sid ≠ domainSid →
    sessionOf (frameHead f).sid s = some i.val → sessionAt i.val s = some x →
    seqNew x.rxHigh x.rxSeen (frameHead f).seq = true → tagOk x.rxKey f = true → requestOps f = some ops →
    ∃ u y, sessionAt i.val u = some y ∧ y.rxHigh = max x.rxHigh (frameHead f).seq ∧ y.lastFrame = s.clk ∧
      y = { x with rxHigh := y.rxHigh, rxSeen := y.rxSeen, lastFrame := s.clk, port := port, peer := peer } ∧
      (∀ j, j ≠ i.val → sessionAt j u = sessionAt j s) ∧
      u = { s with regs := u.regs, stk := u.stk, hap := { s.hap with sessions := u.hap.sessions } } ∧
      exec (.harletFrame port peer f) s = .next (if ops.isEmpty then sendFrame i.val 2 0 [] u else
        sendResponses i.val (runOps (.session i) (frameHead f).ops 0 ops u))) ∧
  (∀ (port : HPort) (peer : Peer) (f : List Byte) (i : Fin 8) (x : Session) (s : State), State.hears port peer f s →
    port ≠ .izt → (frameHead f).kind = 1 → f.length = 40 → (frameHead f).ops = 0 → (frameHead f).length = 0 →
    (frameHead f).sid ≠ domainSid → sessionOf (frameHead f).sid s = some i.val → sessionAt i.val s = some x →
    seqNew x.rxHigh x.rxSeen (frameHead f).seq = true → tagOk x.rxKey f = true →
    ∃ t y, exec (.harletFrame port peer f) s = .next t ∧ sessionAt i.val t = some y ∧
      y.rxHigh = max x.rxHigh (frameHead f).seq ∧ y.lastFrame = s.clk ∧ y.txNext = x.txNext + 1 ∧
      y.subs = x.subs ∧ y.resps = x.resps ∧
      t.out.getLast? = some ⟨.harlet, portNum port,
        [peer.form, peer.mac.toNat, peer.udp.toNat, peer.ip.toNat] ++ nats (frameBytes 2 0 x [])⟩) ∧
  (∀ (port : HPort) (peer : Peer) (f : List Byte) (key : Nat) (ops : List (List Byte)) (s : State),
    State.hearsDomain port peer f s → s.hap.dkey = some key → (frameHead f).kind = 1 → 40 ≤ f.length →
    seqNew s.hap.domHigh s.hap.domSeen (frameHead f).seq = true → tagOk (beBytes 32 key) f = true →
    requestOps f = some ops →
    ∃ u, u.hap.domHigh = max s.hap.domHigh (frameHead f).seq ∧ u.hap.dkey = some key ∧
      exec (.harletFrame port peer f) s = .next (runOps .domain (frameHead f).ops 0 ops u)) ∧
  (∀ (port : HPort) (peer : Peer) (f : List Byte) (i : Fin 8) (x : Session) (s : State), State.hears port peer f s →
    40 ≤ f.length → (frameHead f).kind = 1 → (frameHead f).sid ≠ domainSid → sessionOf (frameHead f).sid s = some i.val →
    sessionAt i.val s = some x → (seqNew x.rxHigh x.rxSeen (frameHead f).seq && tagOk x.rxKey f) = false →
    ∃ t, exec (.harletFrame port peer f) s = .next t ∧ t = { s with regs := t.regs, stk := t.stk })

/-- SUBSCRIBE in an open session completes with the status and the number of entries that its action leaves: an add of
a range not yet held appends an entry where fewer than 32 are held and answers busy where 32 are; an add of a held
range merges its mask into that entry; a remove clears its mask in the entry of its own range and drops the entry
whose mask becomes 0. UNKNOWN_OPCODE answers unsupported, and each later operation of its frame answers opcode 0x80
with invalid-value and its position. EVENT_FRAME_SEND sends at most 64 of the session's records in one frame with the
session's next sequence and keeps the rest; over Iztaub the frame is a management message. DKEY_LOAD in a unicast
session makes the staged key active and opens the domain replay window anew; in the domain session it answers access-
denied and changes nothing. It rests on choices of the model: log 13, 18 and 30. Cites R42, R60, R61, R72, R73. -/
def Obligations.SubscribeUnknownEventFrameDkey : Prop :=
  (∀ (i : Fin 8) (tag : BitVec 16) (addr mask : Word) (action : Byte) (x : Session) (s : State), sessionAt i.val s = some x →
    x.provisioning = false → x.outstanding + x.unsent < 64 →
    ∃ st l u, exec (.subscribe ⟨.session i, tag⟩ addr mask action) s =
        .next (reply ⟨.session i, tag⟩ 0x87 addr.toNat st (beBytes 4 l.length) u) ∧
      sessionAt i.val u = some { x with subs := l } ∧ (∀ j, j ≠ i.val → sessionAt j u = sessionAt j s) ∧
      u = { s with hap := { s.hap with sessions := u.hap.sessions } } ∧
      (action = 1 →
        x.subs.any (fun e => e.first == addr.toNat / 4096 && e.last == addr.toNat / 4096 + addr.toNat % 4096) = false →
        (x.subs.length < 32 → st = .success ∧
          l = x.subs ++ [⟨addr.toNat / 4096, addr.toNat / 4096 + addr.toNat % 4096, mask.toNat⟩]) ∧
        (32 ≤ x.subs.length → st = .busy ∧ l = x.subs)) ∧
      (action = 1 →
        x.subs.any (fun e => e.first == addr.toNat / 4096 && e.last == addr.toNat / 4096 + addr.toNat % 4096) = true →
        st = .success ∧ l = x.subs.map (fun e =>
          if e.first == addr.toNat / 4096 && e.last == addr.toNat / 4096 + addr.toNat % 4096 then
            { e with mask := Nat.lor e.mask mask.toNat } else e)) ∧
      (action = 2 → st = .success ∧ l = (x.subs.map (fun e =>
          if e.first == addr.toNat / 4096 && e.last == addr.toNat / 4096 + addr.toNat % 4096 then
            { e with mask := Nat.ldiff e.mask mask.toNat } else e)).filter (fun e => e.mask != 0))) ∧
  (∀ (i : Fin 8) (tag : BitVec 16) (opcode : Byte) (addr : Word) (later : Nat) (x : Session) (s : State),
    sessionAt i.val s = some x → x.provisioning = false → x.outstanding + x.unsent < 64 →
    (opcode.toNat = 0 ∨ 9 < opcode.toNat) → later < 64 →
    ∃ t y, exec (.unknownOpcode ⟨.session i, tag⟩ opcode addr later) s = .next t ∧ sessionAt i.val t = some y ∧
      y.resps = x.resps ++ ⟨opcode.toNat % 128 + 128, Status.unsupported.code, tag.toNat, addr.toNat, []⟩ ::
        (List.range later).map (fun k => ⟨0x80, Status.invalidValue.code, 0, k + 1, []⟩) ∧
      t = { s with hap := { s.hap with sessions := t.hap.sessions } }) ∧
  (∀ (i : Fin 8) (x : Session) (s : State), sessionAt i.val s = some x → x.records ≠ [] →
    exec (.eventFrameSend i) s = .next (sendFrame i.val 3 (x.records.take 64).length (x.records.take 64).flatten
      (putSession i.val { x with records := x.records.drop 64 } s))) ∧
  (∀ (i : Fin 8) (x : Session) (s : State), sessionAt i.val s = some x → x.records ≠ [] → x.port ≠ .izt →
    portUp (portNum x.port) s = true →
    ∃ t y, exec (.eventFrameSend i) s = .next t ∧ sessionAt i.val t = some y ∧ y.records = x.records.drop 64 ∧
      y.txNext = x.txNext + 1 ∧ y.subs = x.subs ∧
      t.out = s.out ++ [⟨.harlet, portNum x.port,
        [x.peer.form, x.peer.mac.toNat, x.peer.udp.toNat, x.peer.ip.toNat] ++
          nats (frameBytes 3 (x.records.take 64).length x (x.records.take 64).flatten)⟩]) ∧
  (∀ (r : Req) (s : State), State.lets r 3 pgHAP 0x160 s →
    (unicast r = true →
      ∃ u, exec (.dkeyLoad r) s = .next (reply r 0x83 (regAddr pgHAP 0x160) .success [] u) ∧
        u.hap.dkey = some ((List.range 8).foldl (fun n i => n * 2 ^ 32 + getF pgHAP (HAP.DKEY_key i) s) 0) ∧
        u.hap.domHigh = 0 ∧ u.hap.domSeen = [] ∧
        u = { s with hap := { s.hap with dkey := u.hap.dkey, domHigh := 0, domSeen := [] } }) ∧
    (unicast r = false →
      exec (.dkeyLoad r) s = .next (reply r 0x83 (regAddr pgHAP 0x160) .accessDenied [] s)))

/-- INGEST_START: a STARTING page is RUNNING from its next tick, whose number PICNUM shows, once time has locked and
its buffer's stack runs; before first lock it waits in STARTING with reason 0x05. FRAME_CLOCK_TICK reaches the
boundary of the page's next tick, fires what is due there and takes the tick; a RUNNING page's picture number is then
n mod 2³². SOURCE_LOST: the tick that completes loss_pics ticks without a due picture sets src_lost, counts a loss and
raises EVENT bit 0. SOURCE_RETURNED: the tick that completes rejoin_pics ticks with one clears src_lost and raises
EVENT bit 1. INGEST_STOPPED: a STOPPING page whose last fed picture no running consumer reads becomes IDLE, or OFF
when OFF is committed. The clauses with a register's value take a page with no generation pending and no scheduled
write waiting, since either may change any register at the tick. It rests on choices of the model: log 4, 6, 34 and
36. Cites R14, R57, R69, R88, R92, R93, R97. -/
def Obligations.IngestPageRuns : Prop :=
  (∀ (i : Fin 64) (s : State), act (pgING i.val) s = stSTARTING →
    (isF pgTIM TIM.ST_first_lock s = true → stacksUp (pgING i.val) s = true →
      exec (.ingestStart i) s = .next (frameClockTickOp i.val (ingNextTick i.val s)
        (reachBoundary (pgING i.val) (ingNextTick i.val s) (ingTickNs i.val (ingNextTick i.val s) s) s)) ∧
      (s.hap.wats = [] → pendingGen (pgING i.val) s = false →
        ∃ t, exec (.ingestStart i) s = .next t ∧ act (pgING i.val) t = stRUNNING ∧
          getF (pgING i.val) ING.PICNUM_picture t = ingNextTick i.val s % 2 ^ 32)) ∧
    (isF pgTIM TIM.ST_first_lock s = false → getF (pgING i.val) HDR.ACT_reason s ≠ 0x0C →
      ∃ t, exec (.ingestStart i) s = .next t ∧ act (pgING i.val) t = stSTARTING ∧
        getF (pgING i.val) HDR.ACT_reason t = 5 ∧ t.ing = s.ing)) ∧
  (∀ (i : Fin 64) (s : State), exec (.frameClockTick i) s = .next (frameClockTickOp i.val (ingNextTick i.val s)
    (reachBoundary (pgING i.val) (ingNextTick i.val s) (ingTickNs i.val (ingNextTick i.val s) s) s))) ∧
  (∀ (i : Fin 64) (s : State), act (pgING i.val) s = stRUNNING → pendingGen (pgING i.val) s = false → s.hap.wats = [] →
    ∃ t, exec (.frameClockTick i) s = .next t ∧
      getF (pgING i.val) ING.PICNUM_picture t = ingNextTick i.val s % 2 ^ 32) ∧
  (∀ (i : Fin 64) (s : State), act (pgING i.val) s = stRUNNING → isF (pgING i.val) ING.ST_src_lost s = false →
    nextTickDue i.val s = false → getF (pgING i.val) ING.LOSS_loss_pics s ≤ (ingOf i.val s).missRun + 1 →
    exec (.sourceLost i) s = exec (.frameClockTick i) s ∧
    (pendingGen (pgING i.val) s = false → s.hap.wats = [] →
      ∃ t, exec (.sourceLost i) s = .next t ∧ isF (pgING i.val) ING.ST_src_lost t = true ∧
        getF (pgING i.val) (HDR.EVENT 0) t = 1 ∧
        getF (pgING i.val) SYNC.losses t = (getF (pgING i.val) SYNC.losses s + 1) % 2 ^ SYNC.losses.width)) ∧
  (∀ (i : Fin 64) (s : State), act (pgING i.val) s = stRUNNING → isF (pgING i.val) ING.ST_src_lost s = true →
    nextTickDue i.val s = true → getF (pgING i.val) ING.LOSS_rejoin_pics s ≤ (ingOf i.val s).foundRun + 1 →
    exec (.sourceReturned i) s = exec (.frameClockTick i) s ∧
    (pendingGen (pgING i.val) s = false → s.hap.wats = [] →
      ∃ t, exec (.sourceReturned i) s = .next t ∧ isF (pgING i.val) ING.ST_src_lost t = false ∧
        getF (pgING i.val) (HDR.EVENT 1) t = 1)) ∧
  (∀ (i : Fin 64) (s : State), act (pgING i.val) s = stSTOPPING →
    (∀ q ∈ (ingOf i.val s).ring, ∀ w ∈ q.readers, some w.2 = (ingOf i.val s).hist.head?.map FedTick.n →
      stillReads w.1 s = false) →
    exec (.ingestStopped i) s = .next (takeAfterStop (pgING i.val) (ingCommand i.val)
      (setAct (pgING i.val) (if cmdOf (pgING i.val) s = stOFF then stOFF else stIDLE) 0 s)) ∧
    (pendingGen (pgING i.val) s = false →
      ∃ t, exec (.ingestStopped i) s = .next t ∧ t.ing = s.ing ∧
        act (pgING i.val) t = if cmdOf (pgING i.val) s = stOFF then stOFF else stIDLE))

/-- MERGE_WINDOW_EXPIRY of any flow with an undecided number reaches the end of that number's window; every number
whose window has then ended is declared missing, so that none is left undecided past its window; a page of a follower
that feeds a mirrored channel asks the lead for the number instead. INGEST_DEADLINE reaches the page's next deadline,
where the lines of its band of the picture become final, or are asked of the lead; one that names another band does
nothing. LEG_LOST of a leg that is up clears its status bit, counts a leg loss and raises EVENT bit 5 (leg A) or 6
(leg B), on ING and DCH pages. SLATE_CAPTURE makes the next picture fed from the source the slate; SLATE_COPY from a
page of equal format with a valid slate copies it, sets slate_valid and raises EVENT bit 10, and otherwise raises
EVENT bit 12 and leaves the slate. It rests on choices of the model: log 4, 35, 36 and 39. Cites R81, R94, R97, R206,
R221, R249. -/
def Obligations.MergeLegsAndSlate : Prop :=
  (∀ (i : Fin 64) (k : FlowKind) (u at_ : Nat) (s : State), (ingMerge i.val k s).next = some (u, at_) →
    (asksLead (pgING i.val) s = false →
      ∃ t, exec (.mergeWindowExpiry (.ing i k)) s = .next t ∧ at_ ≤ t.clk ∧
        (∀ e ∈ (ingMerge i.val k t).expiry, t.clk < e.2.end_) ∧ ∀ j, j ≠ i.val → ingOf j t = ingOf j s) ∧
    (asksLead (pgING i.val) s = true →
      exec (.mergeWindowExpiry (.ing i k)) s = .next (askLead i.val (kindIdx k) [u] (advanceTo at_ s)))) ∧
  (∀ (i : Fin 16) (u at_ : Nat) (s : State), (dchOf i.val s).merge.next = some (u, at_) →
    (asksLead (pgDCH i.val) s = false →
      ∃ t, exec (.mergeWindowExpiry (.dch i)) s = .next t ∧ at_ ≤ t.clk ∧
        (∀ e ∈ (dchOf i.val t).merge.expiry, t.clk < e.2.end_) ∧ t = { s with clk := t.clk, tim := t.tim, dch := t.dch }) ∧
    (asksLead (pgDCH i.val) s = true →
      exec (.mergeWindowExpiry (.dch i)) s = .next (askLead (0x80 + i.val) 0 [u] (advanceTo at_ s)))) ∧
  (∀ (i : Fin 64) (b : Band) (s : State), nextBand i.val s = some b →
    exec (.ingestDeadline i b.first b.lines) s = .next (bandDue i.val b (reachNs b.at_ s)) ∧
    ∀ first lines, first ≠ b.first ∨ lines ≠ b.lines → exec (.ingestDeadline i first lines) s = .next s) ∧
  (∀ (i : Fin 64) (b : Band) (slot : RingSlot) (s : State), nextBand i.val s = some b →
    slotOf b.key (ingOf i.val s) = some slot → asksLead (pgING i.val) s = false →
    ∃ t slot', exec (.ingestDeadline i b.first b.lines) s = .next t ∧ slotOf b.key (ingOf i.val t) = some slot' ∧
      slot'.finalLines = max slot.finalLines (b.first + min b.lines (ingLines i.val s - b.first)) ∧
      slot'.dueLines = max slot.dueLines (b.first + min b.lines (ingLines i.val s - b.first)) ∧
      (∀ j, j ≠ i.val → ingOf j t = ingOf j s) ∧ State.regsBut [pgING i.val] s t) ∧
  (∀ (i : Fin 64) (k : FlowKind) (legB : Bool) (s : State),
    isF (pgING i.val) (if legB then ING.ST_leg_b_up else ING.ST_leg_a_up) s = true →
    ∃ t, exec (.legLost (.ing i k) legB) s = .next t ∧
      isF (pgING i.val) (if legB then ING.ST_leg_b_up else ING.ST_leg_a_up) t = false ∧
      getF (pgING i.val) SYNC.leg_losses t = (getF (pgING i.val) SYNC.leg_losses s + 1) % 2 ^ SYNC.leg_losses.width ∧
      getF (pgING i.val) (HDR.EVENT (if legB then 6 else 5)) t = 1 ∧ t.ing = s.ing ∧ State.regsBut [pgING i.val] s t) ∧
  (∀ (i : Fin 16) (legB : Bool) (s : State),
    isF (pgDCH i.val) (if legB then DCH.ST_leg_b_up else DCH.ST_leg_a_up) s = true →
    ∃ t, exec (.legLost (.dch i) legB) s = .next t ∧
      isF (pgDCH i.val) (if legB then DCH.ST_leg_b_up else DCH.ST_leg_a_up) t = false ∧
      getF (pgDCH i.val) SYNC.leg_losses t = (getF (pgDCH i.val) SYNC.leg_losses s + 1) % 2 ^ SYNC.leg_losses.width ∧
      getF (pgDCH i.val) (HDR.EVENT (if legB then 6 else 5)) t = 1 ∧ t.dch = s.dch ∧ State.regsBut [pgDCH i.val] s t) ∧
  (∀ (r : Req) (i : Fin 64) (s : State), State.lets r 3 (pgING i.val) 0x128 s →
    ∃ u, exec (.slateCapture r i) s = .next (reply r 0x83 (regAddr (pgING i.val) 0x128) .success [] u) ∧
      (ingOf i.val u).capture = true ∧ u = { s with ing := u.ing } ∧ ∀ j, j ≠ i.val → ingOf j u = ingOf j s) ∧
  (∀ (r : Req) (i source : Fin 64) (s : State), State.lets r 3 (pgING i.val) 0x128 s →
    ((sameFormat i.val source.val s && isF (pgING source.val) ING.ST_slate_valid s) = true →
      ∃ u, exec (.slateCopy r i source) s = .next (reply r 0x83 (regAddr (pgING i.val) 0x128) .success [] u) ∧
        (ingOf i.val u).slate = (ingOf source.val s).slate ∧ isF (pgING i.val) ING.ST_slate_valid u = true ∧
        getF (pgING i.val) (HDR.EVENT 10) u = 1 ∧ State.regsBut [pgING i.val] s u) ∧
    ((sameFormat i.val source.val s && isF (pgING source.val) ING.ST_slate_valid s) = false →
      ∃ u, exec (.slateCopy r i source) s = .next (reply r 0x83 (regAddr (pgING i.val) 0x128) .success [] u) ∧
        u.ing = s.ing ∧ getF (pgING i.val) (HDR.EVENT 12) u = 1 ∧ State.regsBut [pgING i.val] s u))

/-- CND_OUTPUT_ROW: an enabled output whose source is available gives its row once its path has read the last source
line that the row needs: the row that its stages compute from what the source fed at the row's tick, or, where the row
is not ready, video-range black in the output's depth with EVENT bit 2. An enabled output of an enabled path whose
source is not RUNNING raises EVENT bit 0 and gives no row. LUT_WRITE: a write of LUT_DATA1 for a bank not in use
stores the entry that LUT_ADDR names and moves the index on by one, from the last entry to 0; for a bank in use it
answers invalid-value, raises EVENT bit 1 and stores nothing. It rests on choices of the model: log 37 and 38. Cites
R99, R104, R105, R125. -/
def Obligations.ConditioningRowsAndLuts : Prop :=
  (∀ (u : Fin 4) (m : Fin 16) (row : Nat) (ready : Bool) (f : Feed) (s : State), isF (pgCND u.val) (CND.OCTL_en m.val) s = true →
    row < outLines u.val m.val s → cndAvailable u.val m.val s = true →
    feedOf (pathSource u.val (getF (pgCND u.val) (CND.OCTL_path m.val) s)
        (allBandsDue (reachNs (pathReadNs u.val (getF (pgCND u.val) (CND.OCTL_path m.val) s) (rowTick u.val m.val row s)
          (rowNeeds u.val m.val row s) s) s)))
      (rowTick u.val m.val row s)
      (allBandsDue (reachNs (pathReadNs u.val (getF (pgCND u.val) (CND.OCTL_path m.val) s) (rowTick u.val m.val row s)
        (rowNeeds u.val m.val row s) s) s)) = some f →
    ∃ t, exec (.cndOutputRow u m row ready) s = .next t ∧
      t = giveRow u.val m.val (rowTick u.val m.val row s) row ready f
        (allBandsDue (reachNs (pathReadNs u.val (getF (pgCND u.val) (CND.OCTL_path m.val) s) (rowTick u.val m.val row s)
          (rowNeeds u.val m.val row s) s) s)) ∧
      SMap.find (cndRowKey m.val (rowTick u.val m.val row s) row) (cndOf u.val t).rows = some ⟨rowTick u.val m.val row s,
        if ready then cndSamples u.val m.val row f
          (allBandsDue (reachNs (pathReadNs u.val (getF (pgCND u.val) (CND.OCTL_path m.val) s) (rowTick u.val m.val row s)
            (rowNeeds u.val m.val row s) s) s))
        else List.replicate (getF (pgCND u.val) (CND.ODIM_width m.val) s)
          (if isF (pgCND u.val) (CND.OCTL_depth_out m.val) s then packPx 64 512 512 else packPx 16 128 128)⟩ ∧
      (ready = false → getF (pgCND u.val) (HDR.EVENT 2) t = 1)) ∧
  (∀ (u : Fin 4) (m : Fin 16) (row : Nat) (ready : Bool) (s : State), isF (pgCND u.val) (CND.OCTL_en m.val) s = true →
    row < outLines u.val m.val s → isF (pgCND u.val) (CND.PATH_en (getF (pgCND u.val) (CND.OCTL_path m.val) s)) s = true →
    act (pathSource u.val (getF (pgCND u.val) (CND.OCTL_path m.val) s) s) s ≠ stRUNNING →
    ∃ t, exec (.cndOutputRow u m row ready) s = .next t ∧ t.cnd = s.cnd ∧ getF (pgCND u.val) (HDR.EVENT 0) t = 1) ∧
  (∀ (r : Req) (u : Fin 4) (b : BitVec 16) (s : State), State.lets r 3 (pgCND u.val) 0x188 s →
    (bankInUse u.val (getF (pgCND u.val) CND.LUT_ADDR_bank s) s = false →
      getF (pgCND u.val) CND.LUT_ADDR_index s ≤ 35936 →
      ∃ v, exec (.lutWrite r u b) s = .next (reply r 0x83 (regAddr (pgCND u.val) 0x188) .success [] v) ∧
        SMap.get 0 (getF (pgCND u.val) CND.LUT_ADDR_bank s * 35937 + getF (pgCND u.val) CND.LUT_ADDR_index s)
          (cndOf u.val v).lut = (getF (pgCND u.val) CND.LUT_DATA0_r s * 2 ^ 16 + getF (pgCND u.val) CND.LUT_DATA0_g s) * 2 ^ 16 + b.toNat ∧
        getF (pgCND u.val) CND.LUT_ADDR_index v = (getF (pgCND u.val) CND.LUT_ADDR_index s + 1) % 35937 ∧
        v = { s with regs := v.regs, cnd := v.cnd } ∧
        State.fieldsBut (pgCND u.val) [CND.LUT_ADDR_index, CND.LUT_DATA1_b] s v) ∧
    (bankInUse u.val (getF (pgCND u.val) CND.LUT_ADDR_bank s) s = true →
      ∃ v, exec (.lutWrite r u b) s = .next (reply r 0x83 (regAddr (pgCND u.val) 0x188) .invalidValue [] v) ∧
        v.cnd = s.cnd ∧ getF (pgCND u.val) (HDR.EVENT 1) v = 1))

/-- ROW_RECORD on a RUNNING live channel that follows no lead and whose record is not blocked: the record's time is
reached, what is due there fires and the record is formed; with no generation pending on its page and no write
scheduled, it appends the channel's next row, not released, its window open, and moves the position on by one row, to
row 0 of the next picture after the last. ROW_RELEASE on a channel that is no follower and waits for no
acknowledgement releases the first formed row at its time: the row is marked released with the cores that serve its
columns, its picture and row are shown, and the reading room of its first core counts the requests and misses.
ROW_RECORD of another row than the next does nothing. WINDOW_CLOSE marks the first released row whose window is open
as closed, at its time; if a slice of it is still open, it counts in LATE_ROWS and raises EVENT bit 0. It rests on
choices of the model: log 4, 41 and 43. Cites R57, R121, R125, R130, R133, R147, R156. -/
def Obligations.RowLifeInAnEncodeChannel : Prop :=
  (∀ (ch : Fin 32) (s : State), mayRecord ch.val s = true →
    exec (.rowRecord ch (echOf ch.val s).nextRow) s = .next (rowRecordOp ch.val
      (((sameCycle ch.val s).filter (fun d => (echOf d s).nextRow == 0)).foldl
        (fun t d => firePictures (pgECH d) (echOf d t).nextPic t)
        (fireDue (reachNs (recordNs ch.val (echOf ch.val s).nextPic (echOf ch.val s).nextRow s) s)))) ∧
    ∀ row, row ≠ (echOf ch.val s).nextRow → exec (.rowRecord ch row) s = .next s) ∧
  (∀ (ch : Fin 32) (s u : State), mayRecord ch.val s = true → s.hap.wats = [] → pendingGen (pgECH ch.val) s = false →
    u = reachNs (recordNs ch.val (echOf ch.val s).nextPic (echOf ch.val s).nextRow s) s → mayRecord ch.val u = true →
    ∃ t r, exec (.rowRecord ch (echOf ch.val s).nextRow) s = .next t ∧ (echOf ch.val t).rows.getLast? = some r ∧
      r.pic = (echOf ch.val s).nextPic ∧ r.row = (echOf ch.val s).nextRow ∧ r.released = false ∧
      r.windowClosed = false ∧
      (echOf ch.val t).nextRow = (if rowCount getF ch.val s ≤ (echOf ch.val s).nextRow + 1 then 0
        else (echOf ch.val s).nextRow + 1)) ∧
  (∀ (ch : Fin 32) (corr : Bool) (requests misses : Nat) (ready : Bool) (r : EchRow) (s : State), follows ch.val s = false →
    dueRelease ch.val s = some r → awaitsAck ch.val r.pic r.row s = false →
    exec (.rowRelease ch corr requests misses ready) s = .next (releaseRow ch.val corr requests misses ready r s) ∧
    ∃ t, exec (.rowRelease ch corr requests misses ready) s = .next t ∧
      (echOf ch.val t).rows = (echOf ch.val s).rows.map (fun x => if x.pic = r.pic ∧ x.row = r.row then { x with
        released := true, phys := rowCores ch.val s } else x) ∧
      getF (pgECH ch.val) ECH.PICNUM_picture t = r.pic % 2 ^ 32 ∧
      getF (pgECH ch.val) ECH.POSITION_row t = r.row % 2 ^ ECH.POSITION_row.width ∧
      ∀ q, SMap.find 0 (rowCores ch.val s) = some q →
        getF (pgENC q) ENC.RR_REQ_requests t =
          (getF (pgENC q) ENC.RR_REQ_requests s + requests) % 2 ^ ENC.RR_REQ_requests.width ∧
        getF (pgENC q) ENC.RR_MISS_misses t = (getF (pgENC q) ENC.RR_MISS_misses s + misses) % 2 ^ ENC.RR_MISS_misses.width) ∧
  (∀ (ch : Fin 32) (reads : List ReadFault) (r : EchRow) (s : State), pendingGen (pgOUT ch.val) s = false →
    dueClose ch.val s = some r →
    ∃ t, exec (.windowClose ch reads) s = .next t ∧ r.close ≤ fabNs t ∧
      (∀ x ∈ (echOf ch.val t).rows, x.pic = r.pic → x.row = r.row → x.windowClosed = true) ∧
      (r.closed.length < colCount getF ch.val s →
        getF (pgECH ch.val) ECH.LATE_ROWS_rows t =
            (getF (pgECH ch.val) ECH.LATE_ROWS_rows s + 1) % 2 ^ ECH.LATE_ROWS_rows.width ∧
          getF (pgECH ch.val) (HDR.EVENT 0) t = 1))

/-- SLICE_CLOSE of a column that has an open row and is not stalled: the core works until the slice is done. A slice
that its ring segment and the check table can take is coded: it enters the ring and counts in CODED. One that finds
the segment or the check table full stalls the core: it counts in BP_EVENTS, raises EVENT bit 4 and is not coded; what
there is room for of it is written. One that alone reaches the size of its empty segment waits for its overrun.
RING_RESUME: once the read pointer has let the written part of the segment fall below its size and a check-table entry
is free, the stall ends. BOOKMARK_OVERRUN in a channel with a small ring, of an open slice that alone reaches the size
of its empty segment, counts in OVERRUN and raises EVENT bit 0. RECODE: a re-code whose entry waits is coded: it
counts in CODED, and in SRC_GONE where the source rows are no longer held. It rests on choices of the model: log 43,
44, 45 and 88. Cites R180, R182, R183, R184, R186, R36. -/
def Obligations.SlicesIntoTheRing : Prop :=
  (∀ (ch : Fin 32) (col : Fin 4) (run : SliceRun) (r : EchRow) (s u : State), openRow ch.val col.val s = some r →
    pendingGen (pgOUT ch.val) s = false → col.val < colCount getF ch.val s → (segOf ch.val col.val s).stalled = none →
    u = finishSlice ch.val col.val run.stall r s →
    (segBytes getF ch.val u ≤ entryBytes (codeSlice ch.val col.val r u).nals → (segOf ch.val col.val u).used = 0 →
      exec (.sliceClose ch col run) s = .next u) ∧
    (segFull ch.val col.val (entryBytes (codeSlice ch.val col.val r u).nals) u = false → tableFull ch.val u = false →
      entryBytes (codeSlice ch.val col.val r u).nals < segBytes getF ch.val u →
      exec (.sliceClose ch col run) s = .next (slotSlice ch.val col.val (codeSlice ch.val col.val r u).code.floor.toNat
        r.depart (codeSlice ch.val col.val r u) run r u) ∧
      (follows ch.val s = false → ∃ t, exec (.sliceClose ch col run) s = .next t ∧
        getF (pgOUT ch.val) OUT.C_coded t = (getF (pgOUT ch.val) OUT.C_coded s + 1) % 2 ^ OUT.C_coded.width)) ∧
    ((segFull ch.val col.val (entryBytes (codeSlice ch.val col.val r u).nals) u || tableFull ch.val u) = true →
      (entryBytes (codeSlice ch.val col.val r u).nals < segBytes getF ch.val u ∨ (segOf ch.val col.val u).used ≠ 0) →
      ∃ t, exec (.sliceClose ch col run) s = .next t ∧ (segOf ch.val col.val t).stalled = some u.clk ∧
        getF (pgOUT ch.val) OUT.C_coded t = getF (pgOUT ch.val) OUT.C_coded s ∧
        getF (pgOUT ch.val) OUT.C_bp_events t =
          (getF (pgOUT ch.val) OUT.C_bp_events s + 1) % 2 ^ OUT.C_bp_events.width ∧
        getF (pgOUT ch.val) (HDR.EVENT 4) t = 1 ∧ State.regsBut [pgOUT ch.val] s t)) ∧
  (∀ (ch : Fin 32) (col : Fin 4) (at_ : Nat) (s : State), (segOf ch.val col.val s).stalled = some at_ →
    (segOf ch.val col.val s).used + (segOf ch.val col.val s).written (max 1 (segBytes getF ch.val s)) <
      max 1 (segBytes getF ch.val s) → tableFull ch.val s = false →
    ∃ t, exec (.ringResume ch col) s = .next t ∧
      segOf ch.val col.val t = { segOf ch.val col.val s with stalled := none } ∧ t.clk = s.clk) ∧
  (∀ (ch : Fin 32) (col : Fin 4) (read : ReadFault) (r : EchRow) (s u : State),
    openRow ch.val col.val s = some r → pendingGen (pgOUT ch.val) s = false → follows ch.val s = false →
    u = finishSlice ch.val col.val 0 r s → col.val < colCount getF ch.val s → smallRing ch.val s = true →
    segBytes getF ch.val u ≤ entryBytes (codeSlice ch.val col.val r u).nals → (segOf ch.val col.val u).used = 0 →
    ∃ t, exec (.bookmarkOverrun ch col read) s = .next t ∧
      getF (pgOUT ch.val) OUT.C_overrun t = (getF (pgOUT ch.val) OUT.C_overrun s + 1) % 2 ^ OUT.C_overrun.width ∧
      getF (pgOUT ch.val) (HDR.EVENT 0) t = 1) ∧
  (∀ (ch : Fin 32) (col : Fin 4) (read : ReadFault) (x : Recode) (s : State),
    (outOf ch.val s).recodes.find? (fun y => y.entry.col == col.val) = some x → follows ch.val s = false →
    ∃ t, exec (.recode ch col read) s = .next t ∧
      getF (pgOUT ch.val) OUT.C_coded t = (getF (pgOUT ch.val) OUT.C_coded s + 1) % 2 ^ OUT.C_coded.width ∧
      (sourceHeld ch.val x.entry.pic x.entry.row (recodeTime ch.val col.val s) = false →
        getF (pgOUT ch.val) OUT.C_src_gone t =
          (getF (pgOUT ch.val) OUT.C_src_gone s + 1) % 2 ^ OUT.C_src_gone.width ∧ getF (pgOUT ch.val) (HDR.EVENT 3) t = 1))

/-- At a DEPARTURE the slices of the ready row whose time comes first are transmitted, at that time: they leave
C_PENDING and count in C_TRANSMITTED, and the other ready rows stay. LEG_STALL_TIMEOUT of a leg of an output page that
has been stalled, or held by a received pause, for LEG_STALL.us drops its packets with EVENT bit 5 (leg A) or 6 (leg
B), and the leg goes on dropping, until its queue has fallen to its low watermark (LEG_DROP_END). A sender's leg does
the same with EVENT bit 2 or 3. It rests on choices of the model: log 4, 41 and 46. Cites R36, R128, R196. -/
def Obligations.DepartureAndOutputLegs : Prop :=
  (∀ (ch : Fin 32) (r : Ready) (s : State), nextReady ch.val s = some r →
    ∃ t, exec (.departure ch) s = .next t ∧ (outOf ch.val t).ready = (outOf ch.val s).ready.filter (· != r) ∧ r.depart ≤ fabNs t ∧
      getF (pgOUT ch.val) OUT.C_transmitted t =
        (getF (pgOUT ch.val) OUT.C_transmitted s + r.slices) % 2 ^ OUT.C_transmitted.width ∧
      getF (pgOUT ch.val) OUT.C_pending t = (getF (pgOUT ch.val) OUT.C_pending s - r.slices) % 2 ^ OUT.C_pending.width) ∧
  (∀ (n : Fin 32) (legB : Bool) (s : State), legB.toNat ∉ (outOf n.val s).dropping →
    (legStalled (pgOUT n.val) legB.toNat s || legHeld (pgOUT n.val) legB.toNat s) = true →
    ∃ t, exec (.legStallTimeout (.out n) legB) s = .next t ∧ legB.toNat ∈ (outOf n.val t).dropping ∧
      getF (pgOUT n.val) (HDR.EVENT (5 + legB.toNat)) t = 1) ∧
  (∀ (n : Fin 16) (legB : Bool) (s : State), legB.toNat ∉ (sndOf n.val s).dropping →
    (legStalled (pgSND n.val) legB.toNat s || legHeld (pgSND n.val) legB.toNat s) = true →
    ∃ t, exec (.legStallTimeout (.snd n) legB) s = .next t ∧
      (sndOf n.val t).dropping = legB.toNat :: (sndOf n.val s).dropping ∧
      getF (pgSND n.val) (HDR.EVENT (2 + legB.toNat)) t = 1) ∧
  (∀ (n : Fin 32) (legB : Bool) (s : State), legDrained (pgOUT n.val) legB.toNat s = true →
    ∃ t, exec (.legDropEnd (.out n) legB) s = .next t ∧ legB.toNat ∉ (outOf n.val t).dropping ∧
      t = { s with outs := t.outs }) ∧
  (∀ (n : Fin 16) (legB : Bool) (s : State), legDrained (pgSND n.val) legB.toNat s = true →
    ∃ t, exec (.legDropEnd (.snd n) legB) s = .next t ∧ legB.toNat ∉ (sndOf n.val t).dropping ∧
      t = { s with snd := t.snd })

/-- With no rotation step under way, a core fault of a core that is IDLE, RUNNING or TEST puts its page into FAULT,
with reason 0x07, or 0x08 for a state error. A row still open when its time after the window has run out faults the
core that holds it, with reason 0x07. Golden vectors that fail put the core into FAULT, count a golden failure, make
the last step's result 3 and raise HLT EVENT bit 2; a core that passes while no logical core is absent becomes the
IDLE spare. It rests on choices of the model: log 4 and 48. Cites R140, R447. -/
def Obligations.EncodeCoreFaults : Prop :=
  (∀ (core : Fin 17) (stateError : Bool) (s : State), s.rot.phase = 0 →
    (mismatchNow s = true → s.rot.x ≠ s.rot.sp) → act (pgENC core.val) s ∈ [stIDLE, stRUNNING, stTEST] →
    ∃ t, exec (.coreFault core stateError) s = .next t ∧ act (pgENC core.val) t = stFAULT ∧
      getF (pgENC core.val) HDR.ACT_reason t = (if stateError then 8 else 7) ∧
      getF (pgENC core.val) ENC.ST_logical t = 31 ∧ getF (pgENC core.val) (HDR.EVENT 1) t = 1) ∧
  (∀ (ch : Fin 32) (r : EchRow) (col : Nat) (core : Fin 17) (s : State), s.rot.phase = 0 →
    (echOf ch.val s).rows.find? (fun x => x.windowClosed && decide (x.closed.length < colCount getF ch.val s)) = some r →
    (List.range (colCount getF ch.val s)).find? (fun k => !r.closed.contains k) = some col →
    sliceCore ch.val col r s = some core.val → (mismatchNow s = true → s.rot.x ≠ s.rot.sp) → act (pgENC core.val) s ∈ [stIDLE, stRUNNING, stTEST] →
    ∃ t, exec (.overdueRow ch) s = .next t ∧ act (pgENC core.val) t = stFAULT ∧
      getF (pgENC core.val) HDR.ACT_reason t = 7) ∧
  (∀ (core : Fin 17) (s : State), isF (pgENC core.val) ENC.ST_golden s = true → act (pgENC core.val) s = stTEST →
    (∃ t, exec (.goldenVectorDone core false) s = .next t ∧ act (pgENC core.val) t = stFAULT ∧
      getF (pgENC core.val) HDR.ACT_reason t = 7 ∧ isF (pgENC core.val) ENC.ST_golden t = false ∧
      getF pgHLT HLT.ROT_STAT_last t = 3 ∧ getF pgHLT (HDR.EVENT 2) t = 1 ∧
      State.regsBut [pgENC core.val, pgHLT, pgHAP] s t) ∧
    (getF pgHLT HLT.ABSENT_logical s = 0 →
      ∃ t, exec (.goldenVectorDone core true) s = .next t ∧ act (pgENC core.val) t = stIDLE ∧
        isF (pgENC core.val) ENC.ST_spare t = true ∧ isF (pgENC core.val) ENC.ST_golden t = false))

/-- When the rotation interval elapses with rotation enabled, no throttle and no step under way, a step without a
spare is skipped (result 2, HLT EVENT bit 7), and with one, while the logical core carries a RUNNING channel, it waits
for the picture start of that channel. At that picture start shadowing begins, and at its end the switch begins. A
channel on the logical core that has not moved yet moves with EVENT bit 6 on its page; while another has still to
move, the step goes on. It rests on choices of the model: log 4, 48 and 93. Cites R138, R446. -/
def Obligations.CoreRotation : Prop :=
  (∀ s : State, s.pwr.mainRun = true → isF pgHLT HLT.ROT_en s = true → s.rot.phase = 0 →
    isF pgHLT HLT.ST_throttle s = false → isF pgHLT HLT.TRES_pending s = false →
    (spareOf s = none → ∃ t, exec .rotationStep s = .next t ∧ getF pgHLT HLT.ROT_STAT_last t = 2 ∧
      getF pgHLT (HDR.EVENT 7) t = 1 ∧ t.rot.phase = 0) ∧
    (∀ q x, spareOf s = some q → physOf (nextLogical (getF pgHLT HLT.ROT_STAT_next s) s) s = some x →
      (chansOn (nextLogical (getF pgHLT HLT.ROT_STAT_next s) s) s).any (fun c => act (pgECH c) s == stRUNNING) = true →
      ∃ t, exec .rotationStep s = .next t ∧ t.rot.phase = 1 ∧ t.rot.x = x ∧ t.rot.sp = q ∧ t.regs = s.regs)) ∧
  (∀ (c : Nat) (s : State), s.rot.phase = 1 → stepChannel s = some c →
    ∃ t, exec .shadowStart s = .next t ∧ t.rot.phase = 2 ∧ isF (pgENC s.rot.sp) ENC.ST_shadowing t = true ∧
      t.regs = (setF (pgENC s.rot.sp) ENC.ST_shadowing 1 s).regs) ∧
  (∀ s : State, s.rot.phase = 2 →
    ∃ t, exec .shadowEnd s = .next t ∧ t.rot.phase = 3 ∧ t.rot.moved = [] ∧
      isF (pgENC s.rot.sp) ENC.ST_shadowing t = false ∧ State.fieldsBut (pgENC s.rot.sp) [ENC.ST_shadowing] s t) ∧
  (∀ (ch : Fin 32) (s : State), s.rot.phase = 3 → (chansOn s.rot.logical s).contains ch.val = true →
    s.rot.moved.contains ch.val = false →
    (chansOn s.rot.logical s).all (fun d => d == ch.val || s.rot.moved.contains d || act (pgECH d) s != stRUNNING) = false →
    ∃ t, exec (.coreSwitch ch) s = .next t ∧ t.rot.phase = 3 ∧ t.rot.moved = ch.val :: s.rot.moved ∧
      getF (pgECH ch.val) (HDR.EVENT 6) t = 1 ∧ State.regsBut [pgECH ch.val] s t)

/-- A STARTING channel that mirrors none, with everything it waits for ready and no generation pending, is RUNNING and
live; one that is not ready waits in STARTING with reason 0x05. A STOPPING channel whose last slice has left, with no
generation pending, takes its commanded state, or IDLE where that is RUNNING or LOW_POWER. SLACK_CLEAR makes slack_min
0xFFFFFF. DEPART_ERR_READ answers the largest lateness and makes it 0. Each of the last two leaves every other field
alone. It rests on choices of the model: log 6 and 42. Cites R142, R143, R145, R147. -/
def Obligations.ChannelStartStopAndFigures : Prop :=
  (∀ (ch : Fin 32) (s : State), act (pgECH ch.val) s = stSTARTING → follows ch.val s = false → mirrored ch.val s = false →
    (channelReady ch.val s = true → pendingGen (pgECH ch.val) s = false →
      ∃ t, exec (.channelStart ch) s = .next t ∧ act (pgECH ch.val) t = stRUNNING ∧ (echOf ch.val t).live = true) ∧
    (channelReady ch.val s = false →
      ∃ t, exec (.channelStart ch) s = .next t ∧ act (pgECH ch.val) t = stSTARTING ∧
        getF (pgECH ch.val) HDR.ACT_reason t = 5 ∧ t.ech = s.ech)) ∧
  (∀ (ch : Fin 32) (s : State), act (pgECH ch.val) s = stSTOPPING → channelDrained ch.val s = true →
    ch.val ∉ s.twn.leaving → pendingGen (pgECH ch.val) s = false →
    getF (pgECH ch.val) HDR.CMD_state s ∈ [stIDLE, stRUNNING, stLOW] →
    ∃ t, exec (.channelStopped ch) s = .next t ∧ act (pgECH ch.val) t = stIDLE) ∧
  (∀ (r : Req) (core : Fin 17) (s : State), State.lets r 3 (pgENC core.val) 0x108 s →
    ∃ u, exec (.slackClear r core) s = .next (reply r 0x83 (regAddr (pgENC core.val) 0x108) .success [] u) ∧
      getF (pgENC core.val) ENC.SLACK_slack_min_ns u = 0xFFFFFF ∧ u = { s with regs := u.regs } ∧
      State.fieldsBut (pgENC core.val) [ENC.SLACK_slack_min_ns] s u) ∧
  (∀ (r : Req) (ch : Fin 32) (s : State), State.lets r 1 (pgECH ch.val) 0x138 s →
    ∃ u, exec (.departErrRead r ch) s = .next (reply r 0x81 (regAddr (pgECH ch.val) 0x138) .success
        (beBytes 4 (getF (pgECH ch.val) ECH.DEPART_ERR_max_late_ns s * 2 ^ 16)) u) ∧
      getF (pgECH ch.val) ECH.DEPART_ERR_max_late_ns u = 0 ∧ u = { s with regs := u.regs } ∧
      State.fieldsBut (pgECH ch.val) [ECH.DEPART_ERR_max_late_ns] s u)

/-- A POOL_TICK of a remote group's home without a RUNNING local member, commanded RUNNING and with no generation
pending, keeps its MUX page RUNNING. A repayment or a return that reaches the group's home in a good message counts in
RECV and in RCL's received messages. A message whose check is wrong is dropped: it counts as bad and raises RCL EVENT
bit 1. A home device that leaves a request unanswered for the timeout is unreachable: its status bit clears and EVENT
bit 3 of the group's page and EVENT bit 0 of RCL are set. It rests on choices of the model: log 4 and 50. Cites R162,
R168, R170, R172. -/
def Obligations.LendingPool : Prop :=
  (∀ (g : Fin 8) (s : State), isF (pgMUX g.val) MUX.CFG_remote s = true → muxHome g.val s = true →
    muxRef g.val s = none → cmdOf (pgMUX g.val) s = stRUNNING → pendingGen (pgMUX g.val) s = false →
    ∃ t, exec (.poolTick g) s = .next t ∧ act (pgMUX g.val) t = stRUNNING ∧ State.regsBut [pgMUX g.val, pgHAP] s t) ∧
  (∀ (msg : List Byte) (s : State), msg.length = 24 → fieldAt 20 4 msg = crc crc32c (msg.take 20) →
    (fieldAt 0 1 msg = 4 ∨ fieldAt 0 1 msg = 5) → isF (pgMUX (fieldAt 1 1 msg % 8)) MUX.CFG_remote s = true →
    muxHome (fieldAt 1 1 msg % 8) s = true →
    ∃ t, exec (.lendingMessage msg) s = .next t ∧
      getF (pgMUX (fieldAt 1 1 msg % 8)) MUX.RECV_tokens t =
        (getF (pgMUX (fieldAt 1 1 msg % 8)) MUX.RECV_tokens s + fieldAt 12 4 msg) % 2 ^ MUX.RECV_tokens.width ∧
      getF pgRCL RCL.MSG_RX_count t = (getF pgRCL RCL.MSG_RX_count s + 1) % 2 ^ RCL.MSG_RX_count.width) ∧
  (∀ (msg : List Byte) (s : State), fieldAt 20 4 msg ≠ crc crc32c (msg.take 20) →
    ∃ t, exec (.lendingMessage msg) s = .next t ∧
      getF pgRCL RCL.MSG_BAD_count t = (getF pgRCL RCL.MSG_BAD_count s + 1) % 2 ^ RCL.MSG_BAD_count.width ∧
      getF pgRCL (HDR.EVENT 1) t = 1) ∧
  (∀ (g : Fin 8) (at_ : Nat) (s : State), isF (pgMUX g.val) MUX.CFG_remote s = true → muxHome g.val s = false →
    isF (pgMUX g.val) MUX.ST_home_reachable s = true →
    (muxOf g.val s).asked = some at_ →
    ∃ t, exec (.homeUnreachable g) s = .next t ∧ isF (pgMUX g.val) MUX.ST_home_reachable t = false ∧
      getF (pgMUX g.val) (HDR.EVENT 3) t = 1 ∧ getF pgRCL (HDR.EVENT 0) t = 1 ∧ t.ech = s.ech ∧
      at_ + getF pgRCL RCL.REMOTE_home_timeout_us s * tickUs ≤ t.clk ∧
      State.regsBut [pgMUX g.val, pgRCL] s t)

/-- NAL_DECODE on a RUNNING decode channel of a NAL unit that is next in decoding order and behind no undecided gap: a
whole picture parameter set whose packets are all delivered is known from then on, with its content, and errors
corrected in core state meanwhile count in ECC_CORR of the core with EVENT bit 1; a NAL unit with a continuity gap,
after the first random-access point, raises EVENT bit 8 where strict mode is not in force. PICTURE_READY: a picture
that the output process releases, with a free place on the shelf and no picture in the decode slot, is ready at the
present time, behind those released before it. DECODE_TICK reaches the boundary of the channel's next tick, fires what
is due there and takes the tick: a RUNNING channel with no generation pending and no write scheduled has its picture
number n mod 2³². DECODE_STOPPED: a STOPPING channel whose pictures no running consumer reads, with no generation
pending, empties its shelf and becomes IDLE, or OFF where OFF is committed. It rests on choices of the model: log 4,
36, 43, 51 and 88. Cites R207, R213, R217, R221, R227. -/
def Obligations.DecodeChannelNalsAndPictures : Prop :=
  (∀ (i : Fin 16) (nal : NalUnit) (id : Nat) (v : Pps) (s : State), act (pgDCH i.val) s = stRUNNING →
    nal.kind = .pps id (some v) → nal.gap = false → (dchOf i.val s).merge.started = true →
    (∀ w, (dchOf i.val s).nalNext = some w → w ≤ (dchOf i.val s).merge.place 16 nal.firstSeq.toNat) →
    behindGap i.val ((dchOf i.val s).merge.place 16 nal.firstSeq.toNat) s = false →
    (nalSeqs i.val nal s).all (fun u => (dchOf i.val s).pkts.contains u) = true →
    ∃ t, exec (.nalDecode i nal) s = .next t ∧ SMap.find id (dchOf i.val t).ppss = some v ∧
      (∀ k, k ≠ id → SMap.find k (dchOf i.val t).ppss = SMap.find k (dchOf i.val s).ppss) ∧
      State.regsBut [pgDEC (getF (pgDCH i.val) DCH.ALLOC_core s)] s t ∧
      (0 < nal.corrected → getF (pgDEC (getF (pgDCH i.val) DCH.ALLOC_core s)) (HDR.EVENT 1) t = 1) ∧
      getF (pgDEC (getF (pgDCH i.val) DCH.ALLOC_core s)) DEC.ECC_CORR_count t =
        (getF (pgDEC (getF (pgDCH i.val) DCH.ALLOC_core s)) DEC.ECC_CORR_count s + nal.corrected) % 2 ^ 32 ∧
      (nal.corrected = 0 → t = { s with regs := t.regs, dch := t.dch } ∧
        State.fieldsBut (pgDEC (getF (pgDCH i.val) DCH.ALLOC_core s)) [DEC.STALL_cycles, DEC.ECC_CORR_count] s t)) ∧
  (∀ (i : Fin 16) (nal : NalUnit) (s : State), act (pgDCH i.val) s = stRUNNING → (dchOf i.val s).merge.started = true →
    (∀ w, (dchOf i.val s).nalNext = some w → w ≤ (dchOf i.val s).merge.place 16 nal.firstSeq.toNat) →
    behindGap i.val ((dchOf i.val s).merge.place 16 nal.firstSeq.toNat) s = false →
    (nalSeqs i.val nal s).any (fun u => !(dchOf i.val s).pkts.contains u && mayCome i.val u s) = false →
    nal.gap = true → beforeRap i.val s = false → strictNow i.val s = false →
    ∃ t, exec (.nalDecode i nal) s = .next t ∧ getF (pgDCH i.val) (HDR.EVENT 8) t = 1 ∧
      State.regsBut [pgDCH i.val] s t) ∧
  (∀ (i : Fin 16) (poc : Int) (q : DecPic) (s : State), act (pgDCH i.val) s = stRUNNING → (dchOf i.val s).cur = none →
    ((dchOf i.val s).dpb.map Prod.snd).find? (fun p => p.poc == poc && p.awaiting && p.ready.isNone) = some q →
    ((freeDpb i.val s).isSome || (freeHold i.val s).isSome) = true →
    ∃ t, exec (.pictureReady i poc) s = .next t ∧
      (dchOf i.val t).dpb = (dchOf i.val s).dpb.map
        (fun e => if e.2.uid = q.uid then (e.1, { e.2 with ready := some (fabNs s), outNo := (dchOf i.val s).nextOut }) else e) ∧
      t = { s with dch := t.dch }) ∧
  (∀ (i : Fin 16) (s : State), exec (.decodeTick i) s = .next (decodeTickOp i.val (dchNextTick i.val s)
    (reachBoundary (pgDCH i.val) (dchNextTick i.val s) (dchTickNs i.val (dchNextTick i.val s) s) s))) ∧
  (∀ (i : Fin 16) (s : State), act (pgDCH i.val) s = stRUNNING → pendingGen (pgDCH i.val) s = false → s.hap.wats = [] →
    ∃ t, exec (.decodeTick i) s = .next t ∧ getF (pgDCH i.val) DCH.PICNUM_picture t = dchNextTick i.val s % 2 ^ 32) ∧
  (∀ (i : Fin 16) (s : State), act (pgDCH i.val) s = stSTOPPING → pendingGen (pgDCH i.val) s = false →
    ((dchOf i.val s).hold ++ (dchOf i.val s).dpb).any (fun e => e.2.readers.any (fun w => stillReads w.1 s)) = false →
    ∃ t, exec (.decodeStopped i) s = .next t ∧ (dchOf i.val t).dpb = [] ∧ (dchOf i.val t).hold = [] ∧
      act (pgDCH i.val) t = if cmdOf (pgDCH i.val) s = stOFF then stOFF else stIDLE)

/-- A decode core that faults goes to FAULT with reason 0x07, or 0x08 for a state error, and raises EVENT bit 0; every
channel it serves that is STARTING, RUNNING or STOPPING goes to FAULT with reason 0x05. Golden vectors that pass bring
a core in TEST to IDLE, or LOW_POWER where that is in force, with EVENT bit 2; a failure leaves it in FAULT, reason
0x07, with EVENT bit 3. SENDER_TICK: the picture in progress is sent to its end, and then a RUNNING sender with no
generation pending whose tick is not the one it sent last sends one picture more. LATE_START does the same and raises
EVENT bit 4. It rests on choices of the model: log 4 and 51. Cites R221, R222, R224, R226, R227. -/
def Obligations.DecodeCoresAndSenders : Prop :=
  (∀ (core : Fin 8) (stateError : Bool) (s : State), act (pgDEC core.val) s ≠ stFAULT →
    ∃ t, exec (.decodeCoreFault core stateError) s = .next t ∧ act (pgDEC core.val) t = stFAULT ∧
      getF (pgDEC core.val) HDR.ACT_reason t = (if stateError then 8 else 7) ∧ getF (pgDEC core.val) (HDR.EVENT 0) t = 1 ∧
      (∀ i, i < 16 → (dchCores getF i s).contains core.val = true →
        act (pgDCH i) s ∈ [stSTARTING, stRUNNING, stSTOPPING] →
        act (pgDCH i) t = stFAULT ∧ getF (pgDCH i) HDR.ACT_reason t = 5)) ∧
  (∀ (core : Fin 8) (s : State), act (pgDEC core.val) s = stTEST → isF (pgDEC core.val) DEC.ST_golden s = true →
    (∃ t, exec (.decodeGoldenDone core true) s = .next t ∧ act (pgDEC core.val) t = restState (pgDEC core.val) s ∧
      isF (pgDEC core.val) DEC.ST_golden t = false ∧ getF (pgDEC core.val) (HDR.EVENT 2) t = 1 ∧
      State.regsBut [pgDEC core.val, pgHAP] s t) ∧
    (∃ t, exec (.decodeGoldenDone core false) s = .next t ∧ act (pgDEC core.val) t = stFAULT ∧
      getF (pgDEC core.val) HDR.ACT_reason t = 7 ∧ getF (pgDEC core.val) (HDR.EVENT 3) t = 1 ∧
      State.regsBut [pgDEC core.val, pgHAP] s t)) ∧
  (∀ (n : Fin 16) (s u : State), u = sendRest n.val s → act (pgSND n.val) u = stRUNNING → pendingGen (pgSND n.val) u = false →
    ((sndNext n.val u).1 = none ∨ (sndNext n.val u).2 ≠ (sndOf n.val u).tick ∨ (sndOf n.val u).last = none) →
    (∃ t, exec (.senderTick n) s = .next t ∧ (sndOf n.val t).tick = (sndNext n.val u).2 ∧ (sndOf n.val t).last.isSome = true ∧
      getF (pgSND n.val) SND.PICS_pictures t = (getF (pgSND n.val) SND.PICS_pictures s + 1) % 2 ^ SND.PICS_pictures.width) ∧
    (act (pgSND n.val) s = stRUNNING →
      ∃ t, exec (.lateStart n) s = .next t ∧ getF (pgSND n.val) (HDR.EVENT 4) t = 1 ∧
      getF (pgSND n.val) SND.PICS_pictures t = (getF (pgSND n.val) SND.PICS_pictures s + 1) % 2 ^ SND.PICS_pictures.width))

/-- CLAIM_FRAME_SEND: while a claim number is set and the pins have their supply, a claim frame of 4 bytes leaves, 32
µs long. CLAIM_FRAME_RECEIVED: a frame with the sync byte whose check fails counts in CLAIM_BAD and changes nothing
else. A good frame of a lead with another claim number makes a running page without a role the follower, and shows the
partner. ROLE_TAKEN: after its listening time a page without a role that has heard no frame becomes lead, solo, in a
new epoch. PARTNER_DEAD: a lead or follower whose partner is silent raises EVENT bit 3 and clears partner_valid and
link_up; a follower is then promoted to lead with EVENT bit 0. It rests on choices of the model: log 4 and 55. Cites
R236, R237, R238, R240, R253. -/
def Obligations.ClaimLineAndRoles : Prop :=
  (∀ s : State, getF pgTWN TWN.CFG_claim s ≠ 0 → s.pwr.inReset = false → isF pgDEV DEV.ST_vio_ok s = true →
    ∃ t, exec .claimFrameSend s = .next t ∧ t.out = s.out ++ [⟨.claim, 0, nats (claimFrame s)⟩] ∧
      t.clk = s.clk + 32 * tickUs ∧ t = { s with clk := t.clk, tim := t.tim, out := t.out }) ∧
  (∀ (frame : Word) (s : State), isF pgDEV DEV.ST_vio_ok s = true → fieldAt 0 1 (beBytes 4 frame.toNat) = 0xB4 →
    fieldAt 3 1 (beBytes 4 frame.toNat) ≠ crc crc8 (sub 1 2 (beBytes 4 frame.toNat)) →
    ∃ t, exec (.claimFrameReceived frame) s = .next t ∧ t = { s with regs := t.regs } ∧
      getF pgTWN TWN.C_claim_bad t = (getF pgTWN TWN.C_claim_bad s + 1) % 2 ^ TWN.C_claim_bad.width ∧
      State.fieldsBut pgTWN [TWN.C_claim_bad] s t) ∧
  (∀ (frame : Word) (s : State), isF pgDEV DEV.ST_vio_ok s = true → fieldAt 0 1 (beBytes 4 frame.toNat) = 0xB4 →
    fieldAt 3 1 (beBytes 4 frame.toNat) = crc crc8 (sub 1 2 (beBytes 4 frame.toNat)) →
    fieldAt 1 1 (beBytes 4 frame.toNat) ≠ 0 → fieldAt 1 1 (beBytes 4 frame.toNat) ≠ getF pgTWN TWN.CFG_claim s →
    fieldAt 2 1 (beBytes 4 frame.toNat) / 64 = 2 → act pgTWN s = stRUNNING → twinRole s = 0 →
    ∃ t, exec (.claimFrameReceived frame) s = .next t ∧ twinRole t = 1 ∧ getF pgTWN TWN.ROLE_partner_valid t = 1 ∧
      getF pgTWN TWN.ROLE_partner_role t = 2 ∧
      getF pgTWN TWN.ROLE_partner_claim t = fieldAt 1 1 (beBytes 4 frame.toNat) ∧ State.regsBut [pgTWN] s t) ∧
  (∀ s : State, act pgTWN s = stRUNNING → twinRole s = 0 → isF pgTWN TWN.ST_claim_conflict s = false →
    s.twn.claimAt = none →
    ∃ t, exec .roleTaken s = .next t ∧ twinRole t = 2 ∧ isF pgTWN TWN.ST_solo t = true ∧
      getF pgTWN TWN.EPOCH_epoch t = (max (getF pgTWN TWN.EPOCH_epoch s) s.twn.heardEpoch + 1) % 2 ^ 32 ∧
      State.regsBut [pgTWN, pgDEV] s t) ∧
  (∀ s : State, act pgTWN s = stRUNNING → twinRole s ≠ 0 → s.twn.wasLead = false → s.twn.claimAt ≠ none → s.twn.hbAt = none →
    ∃ t, exec .partnerDead s = .next t ∧ getF pgTWN (HDR.EVENT 3) t = 1 ∧ isF pgTWN TWN.ST_link_up t = false ∧
      isF pgTWN TWN.ROLE_partner_valid t = false ∧
      (twinRole s = 1 → twinRole t = 2 ∧ getF pgTWN (HDR.EVENT 0) t = 1))

/-- HEARTBEAT_SEND of a running page whose own state has no uncorrectable error sends one twin message of kind 5 and
moves on to the next quarter. HEARTBEAT: one taken shows the partner's firmware version and link_up. RECORD: a record
for a row that this follower codes, whose check verifies, is stored, counted and acknowledged by one message of kind
2. ACK: an acknowledgement of the record shown ends its wait. ACK_TIMEOUT: when it does not come, the lead goes solo,
with EVENT bit 2. RECORD_WAIT_EXPIRY: a row whose record does not come, from a lead heard since it was due, mutes the
channel with reason 0x03 and join state link-lost; not heard since, it begins doubt, with EVENT bit 17.
LINK_LOST_VERDICT, with no heartbeat since doubt began, ends doubt and link_up with EVENT bit 4. It rests on choices
of the model: log 4, 55 and 57. Cites R242, R244, R246, R247, R252. -/
def Obligations.HeartbeatsRecordsAcks : Prop :=
  (∀ s : State, act pgTWN s = stRUNNING → s.twn.silent = false →
    ∃ t d, exec .heartbeatSend s = .next t ∧ t.out = s.out ++ [⟨.twin, getF pgTWN TWN.CFG_link s, d⟩] ∧ d.head? = some 5 ∧
      t.twn.quarter = (s.twn.quarter + 1) % 4) ∧
  (∀ (m : TwinMsg) (s : State), State.twinTakes m s → m.kind = 5 →
    ∃ t, exec (.heartbeat m) s = .next t ∧ t.twn.hbAt = some s.clk ∧ isF pgTWN TWN.ST_link_up t = true ∧
      getF pgTWN TWN.PARTNER_FW_version t = fieldAt 0 4 m.body % 2 ^ TWN.PARTNER_FW_version.width) ∧
  (∀ (m : TwinMsg) (s : State), State.twinTakes m s → follows (msgChan m) s = true → followsRows (msgChan m) s = true →
    32 ≤ m.body.length → fieldAt 28 4 m.body =
      crc crc32c (m.body.take 28 ++ m.body.drop 32 ++ beBytes 8 (m.picture.toNat * 2 ^ 32 + m.row.toNat)) →
    ∃ t r d, exec (.record m) s = .next t ∧ t.twn.recs = s.twn.recs ++ [r] ∧ r.ch = msgChan m ∧
      r.pic = m.picture.toNat ∧ r.row = m.row.toNat ∧
      t.out = s.out ++ [⟨.twin, getF pgTWN TWN.CFG_link s, d⟩] ∧ d.head? = some 2 ∧
      getF pgTWN TWN.C_rec_rx t = (getF pgTWN TWN.C_rec_rx s + 1) % 2 ^ TWN.C_rec_rx.width) ∧
  (∀ (m : TwinMsg) (s : State), State.twinTakes m s →
    fieldAt 0 4 m.body = getF (pgECH (msgChan m)) (ECH.DREC_header 7) s →
    ∃ t, exec (.ack m) s = .next t ∧ t.twn.awaits = s.twn.awaits.filter (fun a =>
      !(a.1 == msgChan m && a.2.1 == m.picture.toNat && a.2.2.1 == m.row.toNat)) ∧ t.ech = s.ech) ∧
  (∀ s : State, s.twn.awaits ≠ [] →
    ∃ t, exec .ackTimeout s = .next t ∧ isF pgTWN TWN.ST_solo t = true ∧ t.twn.awaits = [] ∧ t.twn.paired = [] ∧
      getF pgTWN (HDR.EVENT 2) t = 1 ∧ State.regsBut [pgTWN] s t) ∧
  (∀ (ch : Fin 32) (s : State), follows ch.val s = true → followsRows ch.val s = true → (echOf ch.val s).live = true →
    dueRelease ch.val s = none → s.twn.recs = [] →
    (recordNs ch.val (echOf ch.val s).nextPic (echOf ch.val s).nextRow s ≤ s.twn.hbSent →
      ∃ t, exec (.recordWaitExpiry ch) s = .next t ∧ act (pgECH ch.val) t = stMUTED ∧
        getF (pgECH ch.val) HDR.ACT_reason t = 3 ∧ joinOf ch.val t = some .linkLost) ∧
    (s.twn.hbSent < recordNs ch.val (echOf ch.val s).nextPic (echOf ch.val s).nextRow s → s.twn.doubtAt = none →
      ∃ t, exec (.recordWaitExpiry ch) s = .next t ∧ t.twn.doubtAt.isSome = true ∧ isF pgTWN TWN.ST_doubt t = true ∧
        getF pgTWN (HDR.EVENT 17) t = 1 ∧ State.regsBut [pgTWN] s t)) ∧
  (∀ (d : Nat) (s : State), s.twn.doubtAt = some d → (∀ h, s.twn.hbAt = some h → h < d) → isF pgTWN TWN.ROLE_partner_valid s = true → getF pgTWN TWN.ROLE_partner_role s = 2 →
    ∃ t, exec .linkLostVerdict s = .next t ∧ t.twn.doubtAt = none ∧ isF pgTWN TWN.ST_doubt t = false ∧
      isF pgTWN TWN.ST_link_up t = false ∧ getF pgTWN (HDR.EVENT 4) t = 1)

/-- A CHECK for a slice that this follower has not stored yet is kept for it; one with the replace mark has the region
coded again here. A PICCHECK is kept while this device's own checks of the picture are not there. A MUTE_NOTE ends the
lead's pairing with the channel: it leaves JOINED and no record of it is awaited. LOCKSTEP_TIMEOUT: a held slice
without its CHECK in time is withheld, from a lead heard since the slice was due, with EVENT bit 15; else doubt
begins. It rests on choices of the model: log 4 and 57. Cites R250, R251, R252. -/
def Obligations.LockstepChecks : Prop :=
  (∀ (m : TwinMsg) (s : State), State.twinTakes m s → follows (msgChan m) s = true → followsRows (msgChan m) s = true →
    m.body.length = 16 → m.flags.toNat.testBit 0 = false → entriesOf (msgChan m) s = [] →
    ∃ t k, exec (.check m) s = .next t ∧ t.twn.checks = s.twn.checks ++ [k] ∧ k.ch = msgChan m ∧
      k.seqNo = fieldAt 4 4 m.body ∧ k.check = fieldAt 8 4 m.body ∧ t.outs = s.outs) ∧
  (∀ (m : TwinMsg) (s : State), State.twinTakes m s → follows (msgChan m) s = true → followsRows (msgChan m) s = true →
    m.body.length = 16 → m.flags.toNat.testBit 0 = true →
    ∃ t x, exec (.check m) s = .next t ∧ (outOf (msgChan m) t).recodes = (outOf (msgChan m) s).recodes ++ [x] ∧
      x.entry.col = fieldAt 0 1 m.body ∧ t.twn.recs = s.twn.recs) ∧
  (∀ (m : TwinMsg) (s : State), State.twinTakes m s → follows (msgChan m) s = true → followsRows (msgChan m) s = true →
    m.body.length = 8 → (∀ k, SMap.find (picKey (msgChan m) m.picture.toNat k) s.twn.ownPic = none) →
    0 < colCount getF (msgChan m) s →
    ∃ t, exec (.piccheck m) s = .next t ∧
      SMap.find (picKey (msgChan m) m.picture.toNat (fieldAt 0 1 m.body)) t.twn.leadPic = some (fieldAt 4 4 m.body) ∧
      t.ech = s.ech) ∧
  (∀ (m : TwinMsg) (s : State), State.twinTakes m s → twinRole s = 2 →
    ∃ t, exec (.muteNote m) s = .next t ∧ (getF pgTWN TWN.JOINED_chans t).testBit (msgChan m) = false ∧
      msgChan m ∉ t.twn.paired ∧ (∀ a ∈ t.twn.awaits, a.1 ≠ msgChan m) ∧ t.ech = s.ech) ∧
  (∀ (ch : Fin 32) (e : RingEntry) (s : State),
    (entriesOf ch.val s).find? (fun e => e.read.isSome && !e.copied) = some e → follows ch.val s = true →
    (e.depart ≤ s.twn.hbSent →
      ∃ t, exec (.lockstepTimeout ch) s = .next t ∧ getF pgTWN (HDR.EVENT 15) t = 1 ∧
        getF pgTWN TWN.C_chk_to t = (getF pgTWN TWN.C_chk_to s + 1) % 2 ^ TWN.C_chk_to.width ∧
        getF (pgOUT ch.val) OUT.C_withheld t = (getF (pgOUT ch.val) OUT.C_withheld s + 1) % 2 ^ OUT.C_withheld.width) ∧
    (s.twn.hbSent < e.depart → s.twn.doubtAt = none →
      ∃ t, exec (.lockstepTimeout ch) s = .next t ∧ t.twn.doubtAt.isSome = true ∧ getF pgTWN (HDR.EVENT 17) t = 1 ∧
        t.outs = s.outs))

/-- JOIN_REQ_SEND: a muted follower channel that waits, commanded RUNNING, on a live link with equal firmware, sends a
join request of kind 7 and waits. JOIN_REQ: the lead notes the picture at which the channel will join. SNAPSHOT_TAKE:
at the row-0 record of a join point the lead takes the snapshot, pairs with the channel and is no longer solo.
SNAP_PART: a part of a snapshot that is not yet whole is kept with those before it, and the channel is joining.
SNAP_COMMIT: a commit that verifies in time makes a new lead's channel RUNNING with no join state. SNAP_ABORT, or
JOIN_DEADLINE, of a follower's joining channel is a failed join: it counts, raises EVENT bit 8, and the channel waits,
muted. It rests on choices of the model: log 4, 56 and 57. Cites R255, R256, R257, R258. -/
def Obligations.JoinsOfATwinPair : Prop :=
  (∀ (ch : Fin 32) (s : State), follows ch.val s = true → joinOf ch.val s = some .waiting → act (pgECH ch.val) s = stMUTED →
    cmdOf (pgECH ch.val) s = stRUNNING → isF pgTWN TWN.ST_link_up s = true → isF pgTWN TWN.ST_fw_match s = true →
    ∃ t d, exec (.joinReqSend ch) s = .next t ∧ t.out = s.out ++ [⟨.twin, getF pgTWN TWN.CFG_link s, d⟩] ∧
      d.head? = some 7 ∧ joinOf ch.val t = some .waiting ∧ act (pgECH ch.val) t = stMUTED) ∧
  (∀ (m : TwinMsg) (s : State), State.twinTakes m s → leads (msgChan m) s = true →
    ∃ t, exec (.joinReq m) s = .next t ∧ SMap.find (msgChan m) t.twn.joinReqs = some (joinPicture (msgChan m) s)) ∧
  (∀ (ch : Fin 32) (n : Nat) (s : State), ch.val ∉ s.twn.leaving →
    SMap.find ch.val s.twn.joinReqs = some n → leads ch.val s = true → (echOf ch.val s).nextRow = 1 →
    (echOf ch.val s).curJoin = true → n ≤ (echOf ch.val s).nextPic →
    ∃ t, exec (.snapshotTake ch (echOf ch.val s).nextPic) s = .next t ∧ ch.val ∈ t.twn.paired ∧
      SMap.find ch.val t.twn.joinReqs = none ∧ (SMap.find ch.val t.twn.snaps).isSome = true ∧
      isF pgTWN TWN.ST_solo t = false) ∧
  (∀ (m : TwinMsg) (s : State), State.twinTakes m s → mirrored (msgChan m) s = true →
    joinOf (msgChan m) s = some .waiting → act (pgECH (msgChan m)) s = stMUTED →
    SMap.find (msgChan m) s.twn.snaps = none → snapWhole m.body = false →
    ∃ t, exec (.snapPart m) s = .next t ∧ joinOf (msgChan m) t = some .joining ∧
      SMap.find (msgChan m) t.twn.snaps = some ⟨m.picture.toNat, m.body, false⟩ ∧
      act (pgECH (msgChan m)) t = stMUTED) ∧
  (∀ (m : TwinMsg) (x : TwSnap) (s : State), State.twinTakes m s → SMap.find (msgChan m) s.twn.snaps = some x →
    joinOf (msgChan m) s = some .joining → x.pic = m.picture.toNat → fieldAt 0 4 m.body = x.bytes.length →
    fieldAt 4 4 m.body = crc crc32c x.bytes → snapWhole x.bytes = true →
    timeNs s < recordNs (msgChan m) x.pic 1 s → twinRole s = 2 →
    ∃ t, exec (.snapCommit m) s = .next t ∧ act (pgECH (msgChan m)) t = stRUNNING ∧ joinOf (msgChan m) t = none ∧
      SMap.find (msgChan m) t.twn.snaps = none) ∧
  (∀ (m : TwinMsg) (s : State), State.twinTakes m s → joinOf (msgChan m) s = some .joining → twinRole s ≠ 2 →
    ∃ t, exec (.snapAbort m) s = .next t ∧ joinOf (msgChan m) t = some .waiting ∧ act (pgECH (msgChan m)) t = stMUTED ∧
      getF pgTWN (HDR.EVENT 8) t = 1 ∧
      getF pgTWN TWN.C_join_fail t = (getF pgTWN TWN.C_join_fail s + 1) % 2 ^ TWN.C_join_fail.width) ∧
  (∀ (ch : Fin 32) (x : TwSnap) (s : State), SMap.find ch.val s.twn.snaps = some x → joinOf ch.val s = some .joining →
    twinRole s ≠ 2 →
    ∃ t, exec (.joinDeadline ch) s = .next t ∧ joinOf ch.val t = some .waiting ∧ act (pgECH ch.val) t = stMUTED ∧
      getF pgTWN (HDR.EVENT 8) t = 1)

/-- PATCH_REQ: a lead answers a request for one packet with one message: the packet (kind 0x11) where it holds it,
else that it has none (kind 0x12). PATCH: a patch of a decode channel that was asked for and is still undecided is
delivered, counted and asked for no more. PATCH_NONE: the answer that there is none declares the packet missing.
PATCH_WAIT_EXPIRY: a row that can wait no longer is coded without its patches, which count as late, with EVENT bit 16.
It rests on choices of the model: log 4 and 91. Cites R249. -/
def Obligations.PatchesOfATwinPair : Prop :=
  (∀ (m : TwinMsg) (packets : List (List Byte)) (s : State), State.twinTakes m s → twinRole s = 2 → fieldAt 2 2 m.body = 1 →
    ∃ t d, exec (.patchReq m packets) s = .next t ∧ t.out = s.out ++ [⟨.twin, getF pgTWN TWN.CFG_link s, d⟩] ∧
      d.head? = some (if (SMap.find ((sourceMerge (fieldAt 0 1 m.body) (fieldAt 1 1 m.body) s).place
            (sourceBits (fieldAt 0 1 m.body) (fieldAt 1 1 m.body))
            (fieldAt 4 4 m.body % 2 ^ sourceBits (fieldAt 0 1 m.body) (fieldAt 1 1 m.body)))
            (sourceMerge (fieldAt 0 1 m.body) (fieldAt 1 1 m.body) s).got).isSome ∧ packets ≠ []
        then 0x11 else 0x12)) ∧
  (∀ (m : TwinMsg) (pkt : MediaPkt) (e : Nat × Nat) (s : State), State.twinTakes m s → patchAsked m s = some e →
    128 ≤ e.1 / 8 → (sourceMerge (e.1 / 8) (e.1 % 8) s).undecided (2 ^ 15) s.clk e.2 = true →
    ∃ t, exec (.patch m pkt) s = .next t ∧ t.twn.patches = s.twn.patches.filter (· != e) ∧
      (SMap.find e.2 (sourceMerge (e.1 / 8) (e.1 % 8) t).got).isSome = true ∧
      SMap.find e.2 (sourceMerge (e.1 / 8) (e.1 % 8) t).expiry = none ∧
      getF pgTWN TWN.C_patch_rx t = (getF pgTWN TWN.C_patch_rx s + 1) % 2 ^ TWN.C_patch_rx.width) ∧
  (∀ (m : TwinMsg) (e : Nat × Nat) (s : State), State.twinTakes m s → patchAsked m s = some e →
    ∃ t, exec (.patchNone m) s = .next t ∧ t.twn.patches = s.twn.patches.filter (· != e) ∧
      SMap.find e.2 (sourceMerge (e.1 / 8) (e.1 % 8) t).expiry = none ∧
      getF pgTWN TWN.C_patch_none t = (getF pgTWN TWN.C_patch_none s + 1) % 2 ^ TWN.C_patch_none.width) ∧
  (∀ (ch : Fin 32) (s : State), follows ch.val s = true → patchesOf ch.val s ≠ [] →
    ∃ t, exec (.patchWaitExpiry ch) s = .next t ∧ patchesOf ch.val t = [] ∧ getF pgTWN (HDR.EVENT 16) t = 1 ∧
      getF pgTWN TWN.C_patch_late t = (getF pgTWN TWN.C_patch_late s + 1) % 2 ^ TWN.C_patch_late.width ∧
      State.regsBut (pgTWN :: (List.range 64).map pgING) s t)

/-- YIELD or HANDOVER: a lead that may yield (link up, equal firmware, every mirrored channel joined), or whose
partner is a follower for a handover, sends a notice of kind 8 for YIELD_AT.lead_us from now, handover pending; else
EVENT bit 14. YIELD_RECEIVED: a follower that receives the notice acknowledges it with kind 9. YIELD_ACK: the
acknowledgement lets it happen; without one in time the yield is void with EVENT bit 14. YIELD_ABORT: before its time
the lead may abort it. HANDOVER_TIME: at its time, acknowledged, the roles change: the one that gives becomes
follower, the other lead, with EVENT bit 13 and one yield counted. It rests on choices of the model: log 4 and 58.
Cites R260, R261, R267. -/
def Obligations.HandoverOfATwinPair : Prop :=
  (∀ (r : Req) (s : State), State.lets r 3 pgTWN 0x110 s → twinRole s = 2 →
    (yieldOk s = true →
      ∃ u, exec (.yield r) s = .next (reply r 0x83 (regAddr pgTWN 0x110) .success [] u) ∧
        u.twn.yield = some ⟨0, timeNs s + getF pgTWN TWN.YIELD_AT_lead_us s * 1000, true, false, s.clk⟩ ∧
        isF pgTWN TWN.ST_handover_pending u = true) ∧
    (yieldOk s = false →
      ∃ u, exec (.yield r) s = .next (reply r 0x83 (regAddr pgTWN 0x110) .success [] u) ∧ u.twn = s.twn ∧
        getF pgTWN (HDR.EVENT 14) u = 1) ∧
    (isF pgTWN TWN.ST_link_up s = true → s.twn.hbRole = 1 →
      ∃ u, exec (.handover r) s = .next (reply r 0x83 (regAddr pgTWN 0x110) .success [] u) ∧
        u.twn.yield = some ⟨1, timeNs s + getF pgTWN TWN.YIELD_AT_lead_us s * 1000, true, false, s.clk⟩ ∧
        isF pgTWN TWN.ST_handover_pending u = true)) ∧
  (∀ (r : Req) (y : Yield) (s : State), State.lets r 3 pgTWN 0x110 s → s.twn.yield = some y → timeNs s < y.at_ →
    ∃ u, exec (.yieldAbort r) s = .next (reply r 0x83 (regAddr pgTWN 0x110) .success [] u) ∧ u.twn.yield = none ∧
      isF pgTWN TWN.ST_handover_pending u = false ∧ State.fieldsBut pgTWN [TWN.ST_handover_pending] s u) ∧
  (∀ (m : TwinMsg) (s : State), State.twinTakes m s → twinRole s = 1 → m.body.length = 16 →
    ∃ t y d, exec (.yieldReceived m) s = .next t ∧ t.twn.yield = some y ∧ y.mode = fieldAt 0 1 m.body ∧ y.gives = false ∧
      y.acked = true ∧ t.out = s.out ++ [⟨.twin, getF pgTWN TWN.CFG_link s, d⟩] ∧ d.head? = some 9 ∧
      isF pgTWN TWN.ST_handover_pending t = true) ∧
  (∀ (y : Yield) (s : State), s.twn.yield = some y → y.gives = true → y.acked = false →
    (∀ m : TwinMsg, State.twinTakes m s →
      ∃ t, exec (.yieldAck (some m)) s = .next t ∧ t.twn.yield = some { y with acked := true }) ∧
    (∃ t, exec (.yieldAck none) s = .next t ∧ t.twn.yield = none ∧ getF pgTWN (HDR.EVENT 14) t = 1 ∧
      isF pgTWN TWN.ST_handover_pending t = false)) ∧
  (∀ (y : Yield) (s : State), s.twn.yield = some y → y.acked = true → isF pgTWN TWN.ST_handover_pending s = true →
    ∃ t, exec .handoverTime s = .next t ∧ twinRole t = (if y.gives then 1 else 2) ∧
      getF pgTWN (HDR.EVENT 13) t = 1 ∧ isF pgTWN TWN.ST_handover_pending t = false ∧
      getF pgTWN TWN.C_yields t = (getF pgTWN TWN.C_yields s + 1) % 2 ^ TWN.C_yields.width)

/-- On a port whose link is up and that takes PTP, SYNC: a Sync of the domain on a usable port counts in sync_rx;
DELAY_RESP: a delay response of the domain while the guard is open is kept for the new mean; ANNOUNCE: an Announce of
the domain counts, and on a port without a chosen grandmaster it is chosen; ANNOUNCE_TIMEOUT: it leaves the port
without one; DELAY_REQ_SEND: a Delay_Req of a usable port counts and is stamped, with the board's correction;
PDELAY_REQ: a Pdelay_Req of the domain in peer-to-peer mode is answered by two messages when its stamp is kept.
PATH_GUARD_OPEN: when the jump count is reached the path guard opens, with EVENT bit 5 (port A) or 6 (port B), and one
jump is counted; PATH_GUARD_CLOSE: when its hold ends it closes with EVENT bit 7. It rests on choices of the model:
log 4, 59 and 60. Cites R273, R274, R281, R282, R286. -/
def Obligations.TimePortsAndMessages : Prop :=
  (∀ (port : Fin 2) (domain : Byte) (offset : Int) (age : Nat) (s : State), s.hap.wats = [] → portUp port.val s = true →
    ptpTakes port.val s = true → domain.toNat = getF pgTIM TIM.PTP_CFG_domain s → usable port.val s = true →
    ∃ t, exec (.sync port domain offset age) s = .next t ∧
      getF pgTIM (TIM.PORT_sync_rx port.val) t = (getF pgTIM (TIM.PORT_sync_rx port.val) s + 1) % 2 ^ 32) ∧
  (∀ (port : Fin 2) (domain : Byte) (sample : Int) (s : State), portUp port.val s = true → ptpTakes port.val s = true →
    domain.toNat = getF pgTIM TIM.PTP_CFG_domain s → (timPort port.val s).abandoned = false → guardOpen port.val s = true →
    ∃ t, exec (.delayResp port (domain, sample)) s = .next t ∧
      (timPort port.val t).holdSamples = (timPort port.val s).holdSamples ++ [sample] ∧
      (timPort port.val t).samples = (timPort port.val s).samples) ∧
  (∀ (port : Fin 2) (domain : Byte) (gm : Announce) (s : State), portUp port.val s = true → ptpTakes port.val s = true →
    domain.toNat = getF pgTIM TIM.PTP_CFG_domain s → (timPort port.val s).chosen = none →
    ∃ t, exec (.announce port domain gm) s = .next t ∧ (timPort port.val t).chosen = some gm ∧
      getF pgTIM (TIM.PORT_ann_rx port.val) t = (getF pgTIM (TIM.PORT_ann_rx port.val) s + 1) % 2 ^ 32) ∧
  (∀ (port : Fin 2) (gm : Announce) (s : State), (timPort port.val s).chosen = some gm →
    ∃ t, exec (.announceTimeout port) s = .next t ∧ (timPort port.val t).chosen = none ∧ State.regsBut [pgTIM] s t) ∧
  (∀ (port : Fin 2) (ident : BitVec 16) (s : State), ptpRuns s = true → usable port.val s = true →
    (timPort port.val s).txq.length < 64 →
    ∃ t, exec (.delayReqSend port ident) s = .next t ∧
      (timPort port.val t).txq = (timPort port.val s).txq ++ [⟨ident.toNat,
          ((timeNs s : Int) + ofTwos 16 (getF (pgETH port.val) ETH.TS_CORR_tx_ns s)).toNat⟩] ∧
      getF pgTIM (TIM.PORT_delay_tx port.val) t = (getF pgTIM (TIM.PORT_delay_tx port.val) s + 1) % 2 ^ 32 ∧
      t.out = s.out ++ [⟨.ptp, port.val, [getF pgTIM TIM.PTP_CFG_delay_p2p s, ident.toNat]⟩]) ∧
  (∀ (port : Fin 2) (domain : Byte) (ident : BitVec 16) (s : State), portUp port.val s = true → ptpTakes port.val s = true →
    isF pgTIM TIM.PTP_CFG_delay_p2p s = true → domain.toNat = getF pgTIM TIM.PTP_CFG_domain s →
    (timPort port.val s).txq.length < 64 → ∃ t l, exec (.pdelayReq port (domain, ident)) s = .next t ∧ t.out = s.out ++ l ∧
      l.filter (fun o => o.kind == .ptp) = [⟨.ptp, port.val, [2, ident.toNat]⟩, ⟨.ptp, port.val, [3, ident.toNat]⟩] ∧
      (timPort port.val t).txq = []) ∧
  (∀ (port : Fin 2) (s : State), guardOpen port.val s = false →
    getF pgTIM TIM.GUARD_jump_count s ≤ (timPort port.val s).jumps →
    ∃ t, exec (.pathGuardOpen port) s = .next t ∧ guardOpen port.val t = true ∧
      getF pgTIM (HDR.EVENT (5 + port.val)) t = 1 ∧
      getF pgTIM (TIM.PORT_jumps port.val) t =
        (getF pgTIM (TIM.PORT_jumps port.val) s + 1) % 2 ^ (TIM.PORT_jumps port.val).width ∧
      State.regsBut [pgTIM] s t) ∧
  (∀ (port : Fin 2) (s : State), guardOpen port.val s = true →
    ∃ t, exec (.pathGuardClose port) s = .next t ∧ guardOpen port.val t = false ∧ getF pgTIM (HDR.EVENT 7) t = 1 ∧
      (timPort port.val t).holdSamples = [] ∧ (timPort port.val s).guardEnd ≤ t.clk ∧ State.regsBut [pgTIM] s t)

/-- LOCKED: an acquiring counter, its rate not clamped, whose run of good solutions reaches lock_count is LOCKED, with
EVENT bit 0; LOCK_LOSS: a locked one whose run of bad ones does is ACQUIRING again. CROSS_MISMATCH: enough cross-check
mismatches clear cross_ok with EVENT bit 9, and enough matches set it again. REVERT in mode 0, with port A usable and
its guard closed, and REVERT_TIMER in mode 1, 60 s after port A became usable with cross-check agreeing, make port A
govern. STEP_GRANT arms the grant while no page forbids it, and is refused-in-service otherwise; GRANT_WITHDRAWN
raises EVENT bit 4. TIMEREF_LOST puts TIM.STATUS.state to 4 with DEV EVENT bit 0; TIMEREF_RETURN clears the loss with
DEV EVENT bit 1, into HOLDOVER where it had locked with VIN up, else FREE. It rests on choices of the model: log 4 and
59. Cites R16, R275, R276, R277, R280, R288. -/
def Obligations.TimeLockAndGoverning : Prop :=
  (∀ s : State, timSt s = 1 → getF pgTIM TIM.LOCK_lock_count s ≤ s.tim.lockRun → s.tim.clamped = false →
    ∃ t, exec .locked s = .next t ∧ timSt t = 2 ∧ getF pgTIM (HDR.EVENT 0) t = 1 ∧ t.tim = s.tim) ∧
  (∀ s : State, timSt s = 2 → getF pgTIM TIM.LOCK_lock_count s ≤ s.tim.unlockRun →
    ∃ t, exec .lockLoss s = .next t ∧ timSt t = 1 ∧ t = { s with regs := t.regs, tim := t.tim, out := t.out } ∧
      State.fieldsBut pgTIM [TIM.ST_state] s t) ∧
  (∀ s : State,
    (isF pgTIM TIM.ST_cross_ok s = true → getF pgTIM TIM.CROSS_cross_count s ≤ s.tim.crossBad →
      ∃ t, exec .crossMismatch s = .next t ∧ isF pgTIM TIM.ST_cross_ok t = false ∧ getF pgTIM (HDR.EVENT 9) t = 1 ∧
        State.regsBut [pgTIM] s t) ∧
    (isF pgTIM TIM.ST_cross_ok s = false → getF pgTIM TIM.CROSS_cross_count s ≤ s.tim.crossGood →
      ∃ t, exec .crossMismatch s = .next t ∧ isF pgTIM TIM.ST_cross_ok t = true ∧
        State.fieldsBut pgTIM [TIM.ST_cross_ok] s t)) ∧
  (∀ s : State, usable 0 s = true → guardOpen 0 s = false →
    (∀ r, State.lets r 3 pgTIM 0x11C s → getF pgTIM TIM.PTP_CFG_sel_mode s = 0 →
      ∃ u, exec (.revert r) s = .next (reply r 0x83 (regAddr pgTIM 0x11C) .success [] u) ∧ govPort u = 0 ∧
        State.regsBut [pgTIM] s u) ∧
    (∀ since, getF pgTIM TIM.PTP_CFG_sel_mode s = 1 → s.tim.aGood = some since →
      ∃ t, exec .revertTimer s = .next t ∧ govPort t = 0 ∧ since + 60 * tickS ≤ t.clk ∧ State.regsBut [pgTIM] s t)) ∧
  (∀ (r : Req) (s : State), State.lets r 3 pgTIM 0x11C s →
    (grantOk s = true →
      ∃ u, exec (.stepGrant r) s = .next (reply r 0x83 (regAddr pgTIM 0x11C) .success [] u) ∧
        isF pgTIM TIM.ST_grant_armed u = true ∧
        u.tim.grantEnd = s.clk + getF pgTIM TIM.STEP_CFG_grant_ms s * tickMs ∧
        State.fieldsBut pgTIM [TIM.ST_grant_armed] s u) ∧
    (grantOk s = false →
      exec (.stepGrant r) s = .next (reply r 0x83 (regAddr pgTIM 0x11C) .refusedInService [] s))) ∧
  (∀ s : State, isF pgTIM TIM.ST_grant_armed s = true →
    ∃ t, exec .grantWithdrawn s = .next t ∧ isF pgTIM TIM.ST_grant_armed t = false ∧ getF pgTIM (HDR.EVENT 4) t = 1 ∧
      State.regsBut [pgTIM] s t) ∧
  (∀ s : State, timSt s ≠ 4 →
    ∃ t, exec .timerefLost s = .next t ∧ timSt t = 4 ∧ isF pgDEV DEV.ST_timeref_lost t = true ∧
      getF pgDEV (HDR.EVENT 0) t = 1 ∧ t.tim.count = s.tim.count ∧
      State.regsBut [pgTIM, pgDEV, pgETH 2, pgLNE 32, pgHLT] s t) ∧
  (∀ (vinUp : Bool) (s : State), timSt s = 4 → s.hap.wats = [] →
    ∃ t, exec (.timerefReturn vinUp) s = .next t ∧ isF pgDEV DEV.ST_timeref_lost t = false ∧
      getF pgDEV (HDR.EVENT 1) t = 1 ∧
      timSt t = (if vinUp = true ∧ isF pgTIM TIM.ST_first_lock s = true then 3 else 0) ∧
      (vinUp = false → t.tim.count = s.tim.count ∧ isF pgTIM TIM.ST_first_lock t = false) ∧
      State.regsBut [pgTIM, pgDEV, pgETH 2] s t)

/-- NOW_READ: a session's READ of NOW_NS answers it and latches the three other words of the same moment. CAPTURE_POP:
a READ of CAPn_NS takes the oldest capture from the queue. TXQ_READ: a READ of a port's TXQ makes its high-water mark
0. FCLK_TICK makes a frame clock's picture number that of the tick after the last; frame clock 0 also drives the
mismatch timers that it governs. TCAP_EDGE: a selected edge, stable for 2 ns and 4 ns after the last, with room in the
queue, is captured with the present count; within 4 ns it raises EVENT bit 13. PULSE_EDGE: an enabled pulse output
reaches its next leading edge, and where its gate is open there it is active, its end set a width later.
PULSE_WIDTH_END: at that end it is inactive. WHOLE_SECOND: the counter has reached the next whole second; with no
generation pending and no write scheduled nothing but the time changes. It rests on choices of the model: log 4, 10
and 60. Cites R272, R283, R284, R285, R286, R289. -/
def Obligations.TimeRegistersClocksAndPins : Prop :=
  (∀ (i : Fin 8) (tag : BitVec 16) (x : Session) (s : State), State.lets ⟨.session i, tag⟩ 1 pgTIM 0x120 s →
    sessionAt i.val s = some x →
    ∃ t y, exec (.nowRead ⟨.session i, tag⟩) s = .next t ∧ sessionAt i.val t = some y ∧
      y.resps = x.resps ++ [⟨0x81, 0, tag.toNat, regAddr pgTIM 0x120, beBytes 4 (regWord pgTIM 0x120 s)⟩] ∧
      (∀ off ∈ [0x124, 0x128, 0x12C], SMap.find (regAddr pgTIM off) y.latched = some (regWord pgTIM off s)) ∧
      t = { s with hap := { s.hap with sessions := t.hap.sessions } }) ∧
  (∀ (r : Req) (n : Fin 4) (s : State), State.lets r 1 pgTIM (0x204 + 0x10 * n.val) s →
    ∃ u, exec (.capturePop r n) s = .next (reply r 0x81 (regAddr pgTIM (0x204 + 0x10 * n.val)) .success
        (beBytes 4 (regWord pgTIM (0x204 + 0x10 * n.val) s)) u) ∧ capsOf n.val u = (capsOf n.val s).tail ∧ u.regs = s.regs) ∧
  (∀ (r : Req) (port : Fin 2) (s : State), State.lets r 1 pgTIM (0x1A8 + 0x40 * port.val) s →
    ∃ u, exec (.txqRead r port) s = .next (reply r 0x81 (regAddr pgTIM (0x1A8 + 0x40 * port.val)) .success
        (beBytes 4 (regWord pgTIM (0x1A8 + 0x40 * port.val) s)) u) ∧
      getF pgTIM (TIM.PORT_txq_hwm port.val) u = 0 ∧ u = { s with regs := u.regs } ∧
      State.fieldsBut pgTIM [TIM.PORT_txq_hwm port.val] s u) ∧
  (∀ (f : Fin 4) (s : State), timSt s ≠ 4 →
    ∃ t, exec (.fclkTick f) s = .next t ∧
      getF pgTIM (TIM.FCLK_picture f.val) t = (tickIndex (getF pgTIM (TIM.FCLK_rate f.val) s)
        (phaseNs (getF pgTIM (TIM.FCLK_phase_ns f.val) s)) (timeNs s) + 1) % 2 ^ 32 ∧
      (f.val ≠ 0 → State.fieldsBut pgTIM [TIM.FCLK_picture f.val] s t) ∧
      (f.val = 0 → t = tickClock none (fclkTickOp 0 s))) ∧
  (∀ (n : Fin 4) (rising : Bool) (sub : Fin 8) (stable gap : Nat) (s : State), timSt s ≠ 4 → vioOk s = true →
    (getF pgTIM (TIM.CAP_edge n.val) s).testBit (if rising then 0 else 1) = true → 2 ≤ stable →
    (4 ≤ gap → (capsOf n.val s).length < 16 →
      ∃ t, exec (.tcapEdge n rising sub stable gap) s = .next t ∧
        capsOf n.val t = capsOf n.val s ++ [⟨s.tim.count, sub.val, rising⟩] ∧ t = { s with tim := t.tim }) ∧
    (gap < 4 →
      ∃ t, exec (.tcapEdge n rising sub stable gap) s = .next t ∧ capsOf n.val t = capsOf n.val s ∧
        getF pgTIM (HDR.EVENT 13) t = 1)) ∧
  (∀ (n : Fin 2) (s : State), timSt s ≠ 4 → isF pgTIM (TIM.PLS_en n.val) s = true →
    pulseGate n.val (advanceToNs (nextEdge n.val s) s) = true →
    ∃ t, exec (.pulseEdge n) s = .next t ∧ SMap.get 0 n.val t.tim.pulses = 1 ∧ nextEdge n.val s ≤ timeNs t ∧
      SMap.get 0 n.val t.tim.pulseEnd = t.clk + (getF pgTIM (TIM.PLS_width_ns n.val) s + 4) / 5 ∧
      t = { s with clk := t.clk, tim := t.tim, out := t.out }) ∧
  (∀ (n : Fin 2) (s : State), SMap.get 0 n.val s.tim.pulses = 1 →
    ∃ t, exec (.pulseWidthEnd n) s = .next t ∧ SMap.get 0 n.val t.tim.pulses = 0 ∧
      SMap.get 0 n.val s.tim.pulseEnd ≤ t.clk ∧ t.regs = s.regs) ∧
  (∀ s : State, timSt s ≠ 4 → pendingGen pgTIM s = false → s.hap.wats = [] →
    ∃ t, exec .wholeSecond s = .next t ∧ (timeNs s / 10 ^ 9 + 1) * 10 ^ 9 ≤ timeNs t ∧ t = { s with clk := t.clk, tim := t.tim })

/-- LANE_TRAINED: a starting lane with its reference clock whose training gives at least lol_fom is trained and shows
its figure of merit, with EVENT bit 5; REACQUIRED: a lost one that re-acquires is trained, counts in RETRAINS and
raises EVENT bit 1. TRAIN_FAILED: a failed check raises EVENT bit 6 and waits; TRAIN_RETRY: 10 ms later the lane
starts full training again. LOSS_OF_LOCK: four bad blocks in a row on a running lane, or one that sleeps, count in
LOL_COUNT, raise EVENT bit 0 and end trained. RETRAIN starts the bring-up of a lane whose owner does not run, and is
refused-in-service else. CALIBRATION_WINDOW: that of a running lane with cal_en makes its swap due. REFCLK_LOST clears
refclk_ok on lanes 0 to 31 with EVENT bit 9 where it was set; REFCLK_RETURN after a loss sets it again on every lane
after 1 ms. It rests on choices of the model: log 4, 61 and 62. Cites R299, R301, R303, R304, R306, R309. -/
def Obligations.LaneTrainingAndLock : Prop :=
  (∀ (l : Fin 33) (x : Trained) (s : State), act (pgLNE l.val) s = stSTARTING → laneHasRef l.val s = true → laneTrained l.val s = false →
    (laneOf l.val s).failAt = none → (laneOf l.val s).lost = false → getF (pgLNE l.val) LNE.THRESH_lol_fom s ≤ x.snr →
    ∃ t, exec (.laneTrained l x) s = .next t ∧ laneTrained l.val t = true ∧
      getF (pgLNE l.val) LNE.FOM_snr t = min 255 x.snr ∧ getF (pgLNE l.val) (HDR.EVENT 5) t = 1) ∧
  (∀ (l : Fin 33) (s : State), act (pgLNE l.val) s = stSTARTING → laneTrained l.val s = false → (laneOf l.val s).fast = false →
    ∃ t, exec (.trainFailed l .check) s = .next t ∧ (laneOf l.val t).failAt = some s.clk ∧
      getF (pgLNE l.val) (HDR.EVENT 6) t = 1 ∧ State.regsBut [pgLNE l.val] s t) ∧
  (∀ (l : Fin 33) (at_ : Nat) (s : State), (laneOf l.val s).failAt = some at_ → ownerWants l.val s = true →
    ∃ t, exec (.trainRetry l) s = .next t ∧ (laneOf l.val t).failAt = none ∧ (laneOf l.val t).step = 2 ∧
      at_ + 10 * tickMs ≤ t.clk ∧ t.regs = s.regs) ∧
  (∀ (l : Fin 33) (s : State), (act (pgLNE l.val) s = stRUNNING ∨ act (pgLNE l.val) s = stLOW) → 4 ≤ (laneOf l.val s).badRun →
    ∃ t, exec (.lossOfLock l) s = .next t ∧ laneTrained l.val t = false ∧ getF (pgLNE l.val) (HDR.EVENT 0) t = 1 ∧
      getF (pgLNE l.val) LNE.LOL_COUNT_count t = (getF (pgLNE l.val) LNE.LOL_COUNT_count s + 1) % 2 ^ 32 ∧
      (l.val < 16 ∨ l.val = 32 → act (pgLNE l.val) t = stSTARTING)) ∧
  (∀ (l : Fin 33) (x : Trained) (s : State), act (pgLNE l.val) s = stSTARTING → laneHasRef l.val s = true → (laneOf l.val s).failAt = none →
    (laneOf l.val s).lost = true → getF (pgLNE l.val) LNE.THRESH_lol_fom s ≤ x.snr →
    ∃ t, exec (.reacquired l x) s = .next t ∧ laneTrained l.val t = true ∧ getF (pgLNE l.val) (HDR.EVENT 1) t = 1 ∧
      getF (pgLNE l.val) LNE.RETRAINS_count t = (getF (pgLNE l.val) LNE.RETRAINS_count s + 1) % 2 ^ 32) ∧
  (∀ (r : Req) (l : Fin 33) (s : State), State.lets r 3 (pgLNE l.val) 0x12C s →
    (act (laneOwner l.val) s ≠ stRUNNING → act (pgLNE l.val) s ≠ stOFF → act (pgLNE l.val) s ≠ stRESET →
      ∃ u, exec (.retrain r l) s = .next (reply r 0x83 (regAddr (pgLNE l.val) 0x12C) .success [] u) ∧
        act (pgLNE l.val) u = stSTARTING ∧ laneTrained l.val u = false ∧ (laneOf l.val u).step = 2 ∧
        State.regsBut [pgLNE l.val, pgHAP] s u) ∧
    (act (laneOwner l.val) s = stRUNNING →
      exec (.retrain r l) s = .next (reply r 0x83 (regAddr (pgLNE l.val) 0x12C) .refusedInService [] s))) ∧
  (∀ (l : Fin 33) (s : State), act (pgLNE l.val) s = stRUNNING →
    (isF (pgLNE l.val) LNE.CAL_cal_en s = true →
      ∃ t, exec (.calibrationWindow l) s = .next t ∧ (laneOf l.val t).swapDue = true ∧ t.regs = s.regs) ∧
    (isF (pgLNE l.val) LNE.CAL_cal_en s = false →
      ∃ t, exec (.calibrationWindow l) s = .next t ∧ (laneOf l.val t).swapDue = false ∧
        getF (pgLNE l.val) LNE.CAL_COUNT_skipped t = (getF (pgLNE l.val) LNE.CAL_COUNT_skipped s + 1) % 2 ^ 16 ∧
        getF (pgLNE l.val) (HDR.EVENT 10) t = 1)) ∧
  (∀ s : State, s.pwr.mainRun = true →
    (∃ t, exec .refclkLost s = .next t ∧ ∀ l, l < 32 → isF (pgLNE l) LNE.ST_refclk_ok t = false ∧
      (isF (pgLNE l) LNE.ST_refclk_ok s = true → getF (pgLNE l) (HDR.EVENT 9) t = 1)) ∧
    (isF (pgLNE 32) LNE.ST_refclk_ok s = false → ∃ t, exec .refclkReturn s = .next t ∧ t.clk = s.clk + tickMs ∧
      ∀ l, l < 33 → isF (pgLNE l) LNE.ST_refclk_ok t = true))

/-- BLOCK_END: at the end of a block of a running lane with no generation pending and no swap due, FOM shows the
block's figure of merit, at most 255, and the runs of good and bad blocks go on or start anew. CTLE_REEVALUATE: after
1,024 blocks CTLE, unless pinned, moves by at most one step towards the value wanted. FOM_WARN, FOM_ALARM and
FOM_RECOVERED: a FOM below its warning or alarm threshold for 64 blocks sets the flag with EVENT bit 2 or 3; one above
it for 1,024 blocks clears the flag, the alarm with EVENT bit 4. FOM_READ answers the word and makes snr_min 0xFF.
PRBS_RESYNC: a resynchronised checker counts its symbols and errors. It rests on choices of the model: log 4 and 62.
Cites R297, R298, R301, R305, R309. -/
def Obligations.LaneFiguresAndAdaptation : Prop :=
  (∀ (l : Fin 33) (b : LaneBlock) (s : State), act (pgLNE l.val) s = stRUNNING → pendingGen (pgLNE l.val) s = false →
    (laneOf l.val s).swapDue = false →
    ∃ t, exec (.blockEnd l b) s = .next t ∧ getF (pgLNE l.val) LNE.FOM_snr t = min 255 b.snr ∧
      (laneOf l.val t).blocks = (laneOf l.val s).blocks + 1 ∧
      (laneOf l.val t).badRun = (if b.signal = false ∨ b.cdr = false ∨ laneHasRef l.val s = false ∨ min 255 b.snr < getF (pgLNE l.val) LNE.THRESH_lol_fom s
        then (laneOf l.val s).badRun + 1 else 0) ∧
      (laneOf l.val t).alarmLow = (if min 255 b.snr < getF (pgLNE l.val) LNE.THRESH_alarm_fom s
        then (laneOf l.val s).alarmLow + 1 else 0) ∧ State.regsBut [pgLNE l.val] s t) ∧
  (∀ (l : Fin 33) (ctle : Nat) (ffe : List Int) (s : State), act (pgLNE l.val) s = stRUNNING →
    1024 ≤ (laneOf l.val s).blocks → isF (pgLNE l.val) LNE.PIN_ctle s = false →
    ∃ t, exec (.ctleReevaluate l ctle ffe) s = .next t ∧ (laneOf l.val t).blocks = 0 ∧
      getF (pgLNE l.val) LNE.RXEQ_ctle t = min 31 (max (getF (pgLNE l.val) LNE.RXEQ_ctle s - 1)
        (min (getF (pgLNE l.val) LNE.RXEQ_ctle s + 1) ctle)) ∧ State.regsBut [pgLNE l.val] s t) ∧
  (∀ (l : Fin 33) (s : State),
    (64 ≤ (laneOf l.val s).warnLow → isF (pgLNE l.val) LNE.ST_fom_warn s = false →
      ∃ t, exec (.fomWarn l) s = .next t ∧ isF (pgLNE l.val) LNE.ST_fom_warn t = true ∧
        getF (pgLNE l.val) (HDR.EVENT 2) t = 1 ∧ State.regsBut [pgLNE l.val] s t) ∧
    (64 ≤ (laneOf l.val s).alarmLow → isF (pgLNE l.val) LNE.ST_fom_alarm s = false →
      ∃ t, exec (.fomAlarm l) s = .next t ∧ isF (pgLNE l.val) LNE.ST_fom_alarm t = true ∧
        getF (pgLNE l.val) (HDR.EVENT 3) t = 1 ∧ State.regsBut [pgLNE l.val] s t) ∧
    (1024 ≤ (laneOf l.val s).alarmHigh → isF (pgLNE l.val) LNE.ST_fom_alarm s = true →
      ∃ t, exec (.fomRecovered l true) s = .next t ∧ isF (pgLNE l.val) LNE.ST_fom_alarm t = false ∧
        getF (pgLNE l.val) (HDR.EVENT 4) t = 1 ∧ State.regsBut [pgLNE l.val] s t) ∧
    (1024 ≤ (laneOf l.val s).warnHigh →
      ∃ t, exec (.fomRecovered l false) s = .next t ∧ isF (pgLNE l.val) LNE.ST_fom_warn t = false ∧
        State.fieldsBut (pgLNE l.val) [LNE.ST_fom_warn] s t)) ∧
  (∀ (r : Req) (l : Fin 33) (s : State), State.lets r 1 (pgLNE l.val) 0x124 s →
    ∃ u, exec (.fomRead r l) s = .next (reply r 0x81 (regAddr (pgLNE l.val) 0x124) .success
        (beBytes 4 (getF (pgLNE l.val) LNE.FOM_snr s * 2 ^ 24 + getF (pgLNE l.val) LNE.FOM_snr_min s * 2 ^ 16 +
          getF (pgLNE l.val) LNE.FOM_ber_est s * 2 ^ 8)) u) ∧
      getF (pgLNE l.val) LNE.FOM_snr_min u = 0xFF ∧ u = { s with regs := u.regs } ∧
      State.fieldsBut (pgLNE l.val) [LNE.FOM_snr_min] s u) ∧
  (∀ (l : Fin 33) (symbols errors : Nat) (s : State), act (pgLNE l.val) s = stTEST →
    isF (pgLNE l.val) LNE.PRBS_chk_en s = true → isF (pgLNE l.val) LNE.ST_cdr_lock s = true →
    ∃ t, exec (.prbsResync l symbols errors) s = .next t ∧
      getF (pgLNE l.val) LNE.PRBS_SYM_symbols t = (getF (pgLNE l.val) LNE.PRBS_SYM_symbols s + symbols) % 2 ^ 64 ∧
      getF (pgLNE l.val) LNE.PRBS_ERR_errors t = (getF (pgLNE l.val) LNE.PRBS_ERR_errors s + errors) % 2 ^ 64 ∧
      State.fieldsBut (pgLNE l.val) [LNE.PRBS_SYM_symbols, LNE.PRBS_ERR_errors] s t)

/-- PORT_FRAME_RECEIVED and PORT_M_FRAME, on a port with no generation pending: with its link up every frame received
counts in RX. One with a bad FCS, or on ports A and B one that no flow, PTP instance, Harlet binding or host protocol
claims, counts in DROP and is not delivered. A good Harlet frame to the port's own address goes to the port's Harlet
queue and is in flight if its cells are granted; on ports A and B without flow control for its priority and without
cells it counts in DROP. A port with its link down takes no frame. It rests on choices of the model: log 63 and 64.
Cites R34, R317, R318, R326, R327, R361. -/
def Obligations.PortFramesReceived : Prop :=
  (∀ (i : Fin 2) (f : PortFrame) (s : State), pendingGen (pgETH i.val) s = false → portUp i.val s = true → f.fcsGood = false →
    ∃ t, exec (.portFrameReceived i f) s = .next t ∧
      getF (pgETH i.val) ETH.RX_frames t = (getF (pgETH i.val) ETH.RX_frames s + 1) % 2 ^ 64 ∧
      getF (pgETH i.val) ETH.DROP_frames t = (getF (pgETH i.val) ETH.DROP_frames s + 1) % 2 ^ 64 ∧
      getF (pgETH i.val) ETH.DELIV_frames t = getF (pgETH i.val) ETH.DELIV_frames s ∧
      getF (pgETH i.val) ETH.INFLIGHT_frames t = getF (pgETH i.val) ETH.INFLIGHT_frames s) ∧
  (∀ (i : Fin 2) (f : PortFrame) (s : State), pendingGen (pgETH i.val) s = false → portUp i.val s = true → f.body = .other → f.uncorrectable = false →
    ∃ t, exec (.portFrameReceived i f) s = .next t ∧
      getF (pgETH i.val) ETH.RX_frames t = (getF (pgETH i.val) ETH.RX_frames s + 1) % 2 ^ 64 ∧
      getF (pgETH i.val) ETH.DROP_frames t = (getF (pgETH i.val) ETH.DROP_frames s + 1) % 2 ^ 64 ∧
      getF (pgETH i.val) ETH.DELIV_frames t = getF (pgETH i.val) ETH.DELIV_frames s ∧
      State.regsBut [pgETH i.val] s t ∧ t.stk = s.stk) ∧
  (∀ (i : Fin 2) (f : PortFrame) (s : State), pendingGen (pgETH i.val) s = false → portUp i.val s = true → harletOpen i.val s = true →
    f.uncorrectable = false → f.fcsGood = true → 64 ≤ f.bytes → f.bytes ≤ getF (pgETH i.val) ETH.MTU_bytes s →
    f.tags.length < 2 → f.dmac.toNat = portMac i.val s → f.body = .harletRaw → underFc i.val (framePrio f) s = false →
    (grantCells (qPort i.val 1) (cellsFor (f.bytes - 4)) s = true →
      ∃ t, exec (.portFrameReceived i f) s = .next t ∧
        getF (pgETH i.val) ETH.RX_frames t = (getF (pgETH i.val) ETH.RX_frames s + 1) % 2 ^ 64 ∧
        getF (pgETH i.val) ETH.INFLIGHT_frames t =
          (getF (pgETH i.val) ETH.INFLIGHT_frames s + 1) % 2 ^ ETH.INFLIGHT_frames.width ∧
        getF (pgETH i.val) ETH.DROP_frames t = getF (pgETH i.val) ETH.DROP_frames s ∧
        (queueOf (qPort i.val 1) t).pkts = (queueOf (qPort i.val 1) s).pkts ++ [⟨cellsFor (f.bytes - 4), none, []⟩] ∧
        getF pgSTK STK.COMMITS_packets t = (getF pgSTK STK.COMMITS_packets s + 1) % 2 ^ 64) ∧
    (grantCells (qPort i.val 1) (cellsFor (f.bytes - 4)) s = false →
      ∃ t, exec (.portFrameReceived i f) s = .next t ∧
        getF (pgETH i.val) ETH.DROP_frames t = (getF (pgETH i.val) ETH.DROP_frames s + 1) % 2 ^ 64 ∧
        (queueOf (qPort i.val 1) t).pkts = (queueOf (qPort i.val 1) s).pkts ∧
        getF pgSTK STK.REWINDS_packets t = (getF pgSTK STK.REWINDS_packets s + 1) % 2 ^ 32)) ∧
  (∀ (f : PortFrame) (s : State), pendingGen (pgETH 2) s = false → portUp 2 s = true →
    (f.fcsGood = false ∨ f.body = .other →
      ∃ t, exec (.portMFrame f) s = .next t ∧
        getF (pgETH 2) ETH.RX_frames t = (getF (pgETH 2) ETH.RX_frames s + 1) % 2 ^ 64 ∧
        getF (pgETH 2) ETH.DROP_frames t = (getF (pgETH 2) ETH.DROP_frames s + 1) % 2 ^ 64 ∧
        t = { s with regs := t.regs } ∧
        State.fieldsBut (pgETH 2) [ETH.RX_frames, ETH.DROP_frames, ETH.DROP_BY_REASON_frames] s t) ∧
    (harletOpen 2 s = true → f.uncorrectable = false → f.fcsGood = true → 64 ≤ f.bytes →
      f.bytes ≤ getF (pgETH 2) ETH.MTU_bytes s → f.tags.length < 2 → f.dmac.toNat = portMac 2 s → f.body = .harletRaw →
      ∃ t, exec (.portMFrame f) s = .next t ∧
        getF (pgETH 2) ETH.RX_frames t = (getF (pgETH 2) ETH.RX_frames s + 1) % 2 ^ 64 ∧
        getF (pgETH 2) ETH.INFLIGHT_frames t = (getF (pgETH 2) ETH.INFLIGHT_frames s + 1) % 2 ^ ETH.INFLIGHT_frames.width ∧
        t = { s with regs := t.regs } ∧ State.fieldsBut (pgETH 2) [ETH.RX_frames, ETH.INFLIGHT_frames] s t)) ∧
  (∀ (i : Fin 2) (f : PortFrame) (s : State),
    (pendingGen (pgETH i.val) s = false → portUp i.val s = false → exec (.portFrameReceived i f) s = .next s) ∧
    (pendingGen (pgETH 2) s = false → portUp 2 s = false → exec (.portMFrame f) s = .next s))

/-- LINK_DOWN of a subport counts in LINK_DOWNS with EVENT bit 2 and clears its SUBPORTS.up bit; the last one of a
running port raises EVENT bit 1 and makes it STARTING. LINK_UP: a subport whose alignment held for up_hold_ms comes up
with EVENT bit 3; the first raises EVENT bit 0 and the port runs. PAUSE_FRAME: a pause frame counts in PAUSE_RX, RX
and DELIV; one the port's mode does not honour holds nothing, an 802.3x pause holds every priority for its quanta.
PAUSE_QUANTA_EXPIRY: the pause is over. PAUSE_REPEAT, once the pauses asked for are settled, sends the pause that
holds again on every up subport. FRAME_TRANSMIT sends the head PTP packet first and counts it in TX. MULTICAST_REPORT:
a report for a group of the filter, with its source and VLAN tag, or a leave for one that left it, joins flow 48's
queue. DROP_SEL_WRITE selects the reason and clears its counter. It rests on choices of the model: log 4, 61 and 65.
Cites R315, R316, R320, R321, R325, R327, R330. -/
def Obligations.PortLinksPauseAndSending : Prop :=
  (∀ (i : Fin 3) (k : Fin 8) (s : State), (i.val = 2 ∨ s.pwr.mainRun = true) → subportLanes i.val k.val s ≠ [] →
    subportIsUp i.val k.val s = true →
    ∃ t, exec (.linkDown i k .alignment false) s = .next t ∧ subportIsUp i.val k.val t = false ∧
      (∀ j, j < 8 → j ≠ k.val → subportIsUp i.val j t = subportIsUp i.val j s) ∧
      getF (pgETH i.val) ETH.LINK_DOWNS_count t = (getF (pgETH i.val) ETH.LINK_DOWNS_count s + 1) % 2 ^ 32 ∧
      getF (pgETH i.val) (HDR.EVENT 2) t = 1 ∧
      (getF (pgETH i.val) ETH.SUBPORTS_up s = 2 ^ k.val → getF (pgETH i.val) (HDR.EVENT 1) t = 1 ∧
        (act (pgETH i.val) s = stRUNNING → act (pgETH i.val) t = stSTARTING)) ∧
      State.regsBut ([pgETH i.val, pgTIM, pgSTK] ++ (List.range 32).map pgOUT ++ (List.range 16).map pgSND) s t ∧
      (getF (pgETH i.val) ETH.SUBPORTS_up s ≠ 2 ^ k.val → State.regsBut [pgETH i.val] s t)) ∧
  (∀ (i : Fin 3) (k : Fin 8) (speed : Fin 3) (a : Nat) (s : State), SMap.find k.val (ethOf i.val s).upFrom = some a →
    portRuns i.val s = true → subportIsUp i.val k.val s = false → (presentMask i.val s).testBit k.val = true →
    ∃ t, exec (.linkUp i k speed) s = .next t ∧ subportIsUp i.val k.val t = true ∧
      a + getF (pgETH i.val) ETH.LINK_up_hold_ms s * tickMs ≤ t.clk ∧ getF (pgETH i.val) (HDR.EVENT 3) t = 1 ∧
      (getF (pgETH i.val) ETH.SUBPORTS_up s = 0 → getF (pgETH i.val) (HDR.EVENT 0) t = 1 ∧
        act (pgETH i.val) t = stRUNNING) ∧ State.regsBut [pgETH i.val, pgTIM] s t) ∧
  (∀ (i : Fin 2) (k : Fin 8) (pfc : Bool) (quanta : List (Nat × Nat)) (s : State), pendingGen (pgETH i.val) s = false →
    subportIsUp i.val k.val s = true →
    ∃ t, exec (.pauseFrame i k pfc quanta) s = .next t ∧
      getF (pgETH i.val) ETH.PAUSE_RX_frames t = (getF (pgETH i.val) ETH.PAUSE_RX_frames s + 1) % 2 ^ 32 ∧
      getF (pgETH i.val) ETH.RX_frames t = (getF (pgETH i.val) ETH.RX_frames s + 1) % 2 ^ 64 ∧
      getF (pgETH i.val) ETH.DELIV_frames t = (getF (pgETH i.val) ETH.DELIV_frames s + 1) % 2 ^ 64 ∧
      State.fieldsBut (pgETH i.val) [ETH.PAUSE_RX_frames, ETH.RX_frames, ETH.DELIV_frames] s t ∧
      (getF (pgETH i.val) ETH.FC_mode s ≠ (if pfc then 2 else 1) → t.eth = s.eth) ∧
      (getF (pgETH i.val) ETH.FC_mode s = 1 → pfc = false → ∀ q x, quanta = [(x, q)] → ∀ j, j < 8 →
        SMap.get 0 (k.val * 8 + j) (ethOf i.val t).paused =
          (if q = 0 then 0 else s.clk + quantaTicks i.val (q % 65536) s))) ∧
  (∀ (i : Fin 2) (k prio : Fin 8) (a : Nat) (s : State), SMap.find (k.val * 8 + prio.val) (ethOf i.val s).paused = some a →
    ∃ t, exec (.pauseQuantaExpiry i k prio) s = .next t ∧ a ≤ t.clk ∧ prioHeld i.val k.val prio.val t = false ∧
      t.regs = s.regs) ∧
  (∀ (i : Fin 2) (k a : Nat) (s u : State), u = settleXoff i.val s → (ethOf i.val u).xoff = [(k, a)] →
    ∃ t, exec (.pauseRepeat i) s = .next t ∧ a + quantaTicks i.val (getF (pgETH i.val) ETH.FC_quanta s / 2) s ≤ t.clk ∧
      (ethOf i.val t).xoff = [(k, t.clk)] ∧
      t.out = u.out ++ ((List.range 8).filter (fun j => subportIsUp i.val j s)).map
        (fun j => ⟨.pause, pgETH i.val, [j, k, getF (pgETH i.val) ETH.FC_quanta s]⟩) ∧
      State.fieldsBut (pgETH i.val) [ETH.PAUSE_TX_frames, ETH.TX_frames, ETH.TX_BYTES_bytes] u t) ∧
  (∀ (i : Fin 2) (k : Fin 8) (x : StkPkt) (rest : List StkPkt) (s : State), pendingGen (pgETH i.val) s = false → subportIsUp i.val k.val s = true →
    subportOf i.val 48 s = some k.val → prioHeld i.val k.val (getF (pgETH i.val) ETH.HOST_pcp s) s = false →
    (queueOf (qPort i.val 3) s).pkts = x :: rest → (queueOf (qPort i.val 3) s).frozen = false →
    ∃ t, exec (.frameTransmit i k) s = .next t ∧ (queueOf (qPort i.val 3) t).pkts = rest ∧
      t.out = s.out ++ [⟨.ptp, pgETH i.val, x.data⟩] ∧
      getF (pgETH i.val) ETH.TX_frames t = (getF (pgETH i.val) ETH.TX_frames s + 1) % 2 ^ 64 ∧
      getF pgSTK STK.POPS_packets t = (getF pgSTK STK.POPS_packets s + 1) % 2 ^ 64 ∧
      State.regsBut [pgETH i.val, pgSTK] s t) ∧
  (∀ (i : Fin 2) (group : BitVec 128) (leave : Bool) (s : State), firmwareRuns s = true → portUp i.val s = true →
    isMulticast group.toNat = true → (filterGroups i.val s).contains group.toNat = !leave →
    grantCells (qPort i.val 4) 1 s = true → SMap.get [] 4 s.stk.stalls = [] →
    ∃ t, exec (.multicastReport i group leave) s = .next t ∧
      (queueOf (qPort i.val 4) t).pkts = (queueOf (qPort i.val 4) s).pkts ++ [⟨1, none,
        leave.toNat :: (if leave then [group.toNat] else reportFor i.val group.toNat s)⟩] ∧
      State.regsBut [pgSTK] s t) ∧
  (∀ (r : Req) (i : Fin 3) (value : Word) (s : State), State.lets r 3 (pgETH i.val) 0x218 s →
    ∃ u, exec (.dropSelWrite r i value) s = .next (reply r 0x83 (regAddr (pgETH i.val) 0x218) .success [] u) ∧
      getF (pgETH i.val) ETH.DROP_SEL_reason u = value.toNat % 16 ∧ getF (pgETH i.val) ETH.DROP_BY_REASON_frames u = 0 ∧
      u = { s with regs := u.regs } ∧
      State.fieldsBut (pgETH i.val) [ETH.DROP_SEL_reason, ETH.DROP_BY_REASON_frames] s u)

/-- IZL_FRAME: on a running link a frame whose crc does not verify against the next sequence expected counts in
CRC_ERR and, the first time, is answered by a nak. A good data frame of one message is accepted: expected sequence,
FRAMES_RX and the held slots advance by one and the message is whole for its client. A good NAK that acknowledges
nothing, and the REPLAY_TIMEOUT, rewind to the oldest frame kept: REPLAYS, STATUS.replaying, EVENT bit 4. NAK_REPEAT:
the nak is repeated after timeout_ns. IZL_FRAME_SEND: at a slot the sender resends a frame of the rewind, counted in
REPLAY_FRAMES; else sends a new data frame of the chosen virtual lane, which spends a credit and is kept; else an idle
frame, which changes no register. It rests on choices of the model: log 4 and 66. Cites R335, R336, R337, R338, R339.
-/
def Obligations.IztaubFramesAndReplay : Prop :=
  (∀ (j : Fin 4) (f : List Byte) (s : State), act (pgIZL j.val) s = stRUNNING →
    (f.length ≠ 256 ∨ fieldAt 252 4 f ≠ crc crc32 (f.take 252 ++ beBytes 4 (izlOf j.val s).expect)) →
    ∃ t, exec (.izlFrame j f 0 0) s = .next t ∧
      getF (pgIZL j.val) IZL.CRC_ERR_frames t = (getF (pgIZL j.val) IZL.CRC_ERR_frames s + 1) % 2 ^ 32 ∧
      (izlOf j.val t).expect = (izlOf j.val s).expect ∧
      State.fieldsBut (pgIZL j.val) [IZL.CRC_ERR_frames, IZL.FEC_CORR_codewords, IZL.FEC_UNCORR_codewords] s t ∧
      ((izlOf j.val s).nakAt = none → (izlOf j.val t).nakAt = some s.clk ∧ t.out = s.out ++ [⟨.link, pgIZL j.val,
        nats (izlBytes 2 0 false false (ackField (izlOf j.val s)) (izlOf j.val s).freed
          (getF (pgIZL j.val) IZL.EPOCH_epoch s) (nextData (izlOf j.val s)) [])⟩]) ∧
      ((izlOf j.val s).nakAt ≠ none → t.out = s.out ∧ t.izl = s.izl)) ∧
  (∀ (j : Fin 4) (f : List Byte) (corr uncorr : Nat) (vl : Fin 4) (s : State), act (pgIZL j.val) s = stRUNNING →
    f.length = 256 → fieldAt 252 4 f = crc crc32 (f.take 252 ++ beBytes 4 (izlOf j.val s).expect) →
    fieldAt 12 2 f = getF (pgIZL j.val) IZL.EPOCH_epoch s → fieldAt 0 1 f / 4 = 16 + vl.val * 4 + 3 →
    ∃ t, exec (.izlFrame j f corr uncorr) s = .next t ∧
      (izlOf j.val t).expect = ((izlOf j.val s).expect + 1) % 2 ^ 32 ∧ (izlOf j.val t).nakAt = none ∧
      (izlOf j.val t).inbox = (izlOf j.val s).inbox ++ [⟨vl.val, 1, sub 16 (fieldAt 1 1 f) f⟩] ∧
      getF (pgIZL j.val) IZL.FRAMES_RX_frames t = (getF (pgIZL j.val) IZL.FRAMES_RX_frames s + 1) % 2 ^ 64 ∧
      getF (pgIZL j.val) (IZL.CREDIT_held vl.val) t = (getF (pgIZL j.val) (IZL.CREDIT_held vl.val) s + 1) % 2 ^ 11 ∧
      getF (pgIZL j.val) IZL.FEC_CORR_codewords t = (getF (pgIZL j.val) IZL.FEC_CORR_codewords s + corr) % 2 ^ 64 ∧
      getF (pgIZL j.val) IZL.FEC_UNCORR_codewords t = (getF (pgIZL j.val) IZL.FEC_UNCORR_codewords s + uncorr) % 2 ^ 32 ∧
      State.regsBut [pgIZL j.val] s t) ∧
  (∀ (j : Fin 4) (f : List Byte) (q : Nat) (d : IzlTx) (rest : List (Nat × IzlTx)) (s : State),
    act (pgIZL j.val) s = stRUNNING → (izlOf j.val s).buffer = (q, d) :: rest → (izlOf j.val s).rewind = none →
    (f.length = 256 → fieldAt 252 4 f = crc crc32 (f.take 252 ++ beBytes 4 (izlOf j.val s).expect) →
      fieldAt 12 2 f = getF (pgIZL j.val) IZL.EPOCH_epoch s → fieldAt 0 1 f / 64 = 2 → fieldAt 2 2 f = (q + 0xFFFF) % 2 ^ 16 →
      ∃ t, exec (.nak j f) s = .next t ∧ (izlOf j.val t).rewind = some q ∧ (izlOf j.val t).buffer = (q, d) :: rest ∧
        isF (pgIZL j.val) IZL.ST_replaying t = true ∧ getF (pgIZL j.val) (HDR.EVENT 4) t = 1 ∧
        getF (pgIZL j.val) IZL.REPLAYS_count t = (getF (pgIZL j.val) IZL.REPLAYS_count s + 1) % 2 ^ 32 ∧
        State.regsBut [pgIZL j.val] s t) ∧
    (∃ t, exec (.replayTimeout j) s = .next t ∧ (izlOf j.val t).rewind = some q ∧
      (izlOf j.val s).ackAt + replayTicks j.val s ≤ t.clk ∧ isF (pgIZL j.val) IZL.ST_replaying t = true ∧
      getF (pgIZL j.val) (HDR.EVENT 4) t = 1 ∧
      getF (pgIZL j.val) IZL.REPLAYS_count t = (getF (pgIZL j.val) IZL.REPLAYS_count s + 1) % 2 ^ 32 ∧
      State.regsBut [pgIZL j.val] s t)) ∧
  (∀ (j : Fin 4) (a : Nat) (s : State), act (pgIZL j.val) s = stRUNNING → (izlOf j.val s).nakAt = some a →
    ∃ t, exec (.nakRepeat j) s = .next t ∧ a + replayTicks j.val s ≤ t.clk ∧ (izlOf j.val t).nakAt = some t.clk ∧
      t.out.length = s.out.length + 1 ∧ t.regs = s.regs) ∧
  (∀ (j : Fin 4) (q : Nat) (d : IzlTx) (s : State), act (pgIZL j.val) s = stRUNNING → (izlOf j.val s).rewind = some q →
    (izlOf j.val s).buffer.find? (fun e => e.1 == q) = some (q, d) →
    ∃ t, exec (.izlFrameSend j) s = .next t ∧ (izlOf j.val t).buffer = (izlOf j.val s).buffer ∧
      t.out.length = s.out.length + 1 ∧
      getF (pgIZL j.val) IZL.REPLAY_FRAMES_frames t = (getF (pgIZL j.val) IZL.REPLAY_FRAMES_frames s + 1) % 2 ^ 32 ∧
      getF (pgIZL j.val) IZL.FRAMES_TX_frames t = (getF (pgIZL j.val) IZL.FRAMES_TX_frames s + 1) % 2 ^ 64 ∧
      State.fieldsBut (pgIZL j.val) [IZL.REPLAY_FRAMES_frames, IZL.FRAMES_TX_frames, IZL.ST_replaying] s t) ∧
  (∀ (j : Fin 4) (s : State), act (pgIZL j.val) s = stRUNNING → (izlOf j.val s).rewind = none →
    (∀ v d rest, nextLane j.val s = some v → SMap.get [] v (izlOf j.val s).waiting = d :: rest →
      (izlOf j.val s).buffer.length < 1024 →
      ∃ t, exec (.izlFrameSend j) s = .next t ∧
        (izlOf j.val t).buffer = (izlOf j.val s).buffer ++ [((izlOf j.val s).nextSeq, d)] ∧
        SMap.get [] v (izlOf j.val t).waiting = rest ∧
        (izlOf j.val t).nextSeq = ((izlOf j.val s).nextSeq + 1) % 2 ^ 32 ∧
        getF (pgIZL j.val) (IZL.CREDIT_credits v) t = (getF (pgIZL j.val) (IZL.CREDIT_credits v) s - 1) % 2 ^ 11 ∧
        getF (pgIZL j.val) IZL.FRAMES_TX_frames t = (getF (pgIZL j.val) IZL.FRAMES_TX_frames s + 1) % 2 ^ 64 ∧
        State.fieldsBut (pgIZL j.val) [IZL.CREDIT_credits v, IZL.FRAMES_TX_frames] s t) ∧
    (nextLane j.val s = none ∨ 1024 ≤ (izlOf j.val s).buffer.length →
      ∃ t, exec (.izlFrameSend j) s = .next t ∧ t = { s with out := t.out } ∧ t.out.length = s.out.length + 1))

/-- ALIGNMENT_MARKER: a marker of 16 good bytes that announces a width sets what is received; a bad one changes
nothing. ALIGNMENT_MARKER_SEND: at its own marker a link makes the width change asked of it, and sends a marker on
each lane in use or trained. NARROW: a receiver that has lost a lane, or with fast_narrow has one that holds the
errors, but has another good one asks for its best lanes, with NARROWS and EVENT bit 2; with none the link goes down.
IZL_LINK_DOWN: STARTING, LINK_DOWNS, EVENT bit 1. WIDEN: a left-out good lane held long enough widens, with WIDENS and
EVENT bit 3. TRAINING_EXCHANGE with all four lanes sets credits, widths and partner, advances EPOCH and makes the link
RUNNING with EVENT bit 0; another layout version raises EVENT bit 9 alone. ROUTE_ANNOUNCE_SEND: each member link
carries one route announcement a millisecond; ROUTE_ANNOUNCEMENT: one received is what the partner reaches.
MANAGEMENT_MESSAGE: one for another member is passed on with one hop less. It rests on choices of the model: log 4,
66, 67 and 68. Cites R334, R341, R342, R343, R344, R346, R347, R348. -/
def Obligations.IztaubWidthsTrainingAndRoutes : Prop :=
  (∀ (j : Fin 4) (m : List Byte) (s : State), act (pgIZL j.val) s = stRUNNING →
    (m.length = 16 → fieldAt 15 1 m = crc crc8 (m.take 15) → fieldAt 0 6 m = 0xA5C396F00F69 → bitsOf 28 2 (fieldAt 6 4 m) ≠ 3 →
      ∃ t, exec (.alignmentMarker j m) s = .next t ∧
        getF (pgIZL j.val) IZL.WIDTH_rx_width t = bitsOf 28 2 (fieldAt 6 4 m) ∧
        getF (pgIZL j.val) IZL.WIDTH_rx_mask t = bitsOf 24 4 (fieldAt 6 4 m) ∧
        State.fieldsBut (pgIZL j.val) [IZL.WIDTH_rx_width, IZL.WIDTH_rx_mask, IZL.ST_spare] s t) ∧
    (fieldAt 15 1 m ≠ crc crc8 (m.take 15) → exec (.alignmentMarker j m) s = .next s)) ∧
  (∀ (j : Fin 4) (s : State), act (pgIZL j.val) s = stRUNNING → pendingGen (pgIZL j.val) s = false →
    ((izlOf j.val s).txReq = none →
      ∃ t, exec (.alignmentMarkerSend j) s = .next t ∧ t.regs = s.regs ∧
        (izlOf j.val t).markers = ((izlOf j.val s).markers + 1) % 256 ∧
        t.out = s.out ++ ((List.range 4).filter (fun k => (getF (pgIZL j.val) IZL.WIDTH_tx_mask s).testBit k ||
          laneTrained (physLane j.val k s) s)).map (fun k => ⟨.link, pgIZL j.val, nats (markerBytes j.val k s)⟩)) ∧
    (∀ w m, (izlOf j.val s).txReq = some (w, m) → w < 4 → m < 16 →
      ∃ t, exec (.alignmentMarkerSend j) s = .next t ∧ (izlOf j.val t).txReq = none ∧
        getF (pgIZL j.val) IZL.WIDTH_tx_width t = w ∧ getF (pgIZL j.val) IZL.WIDTH_tx_mask t = m ∧
        State.regsBut [pgIZL j.val] s t)) ∧
  (∀ (j : Fin 4) (s : State), act (pgIZL j.val) s = stRUNNING →
    (∀ (run : FecRun) (good : List Nat), good = (goodLanes j.val s).filter (fun k =>
        !((if isF (pgIZL j.val) IZL.CFG_fast_narrow s then (faultyLane run).toList else []).contains k)) →
      (good ≠ [] → (rxLanes j.val s).all (fun k => good.contains k) = false →
        ∃ t code, exec (.narrow j run) s = .next t ∧
          code = min (widthCode good.length) (getF (pgIZL j.val) IZL.CFG_max_width s) ∧
          (izlOf j.val t).req = some (code, laneMask (bestLanes j.val code good s)) ∧
          getF (pgIZL j.val) IZL.NARROWS_count t = (getF (pgIZL j.val) IZL.NARROWS_count s + 1) % 2 ^ 32 ∧
          getF (pgIZL j.val) (HDR.EVENT 2) t = 1 ∧ State.regsBut [pgIZL j.val] s t) ∧
      (good = [] → rxLanes j.val s ≠ [] → exec (.narrow j run) s = .next (izlDown j.val stSTARTING 5 s)))) ∧
  (∀ (j a b : Fin 4) (since : Nat) (s : State), act (pgIZL j.val) s = stRUNNING → isF (pgIZL j.val) IZL.CFG_auto_widen s = true →
    (izlOf j.val s).req = none → getF (pgIZL j.val) IZL.WIDTH_rx_mask s = 2 ^ a.val → getF (pgIZL j.val) IZL.WIDTH_rx_width s = 0 →
    1 ≤ getF (pgIZL j.val) IZL.CFG_max_width s → (goodLanes j.val s).filter (· ≠ a.val) = [b.val] →
    SMap.find b.val (izlOf j.val s).goodSince = some since →
    getF (pgLNE (physLane j.val b.val s)) LNE.THRESH_alarm_fom s ≤ laneSnr j.val b.val s →
    ∃ t, exec (.widen j) s = .next t ∧ since + getF (pgIZL j.val) IZL.WIDEN_hold_ms s * tickMs ≤ t.clk ∧
      (izlOf j.val t).req = some (1, 2 ^ a.val + 2 ^ b.val) ∧
      getF (pgIZL j.val) IZL.WIDENS_count t = (getF (pgIZL j.val) IZL.WIDENS_count s + 1) % 2 ^ 32 ∧
      getF (pgIZL j.val) (HDR.EVENT 3) t = 1 ∧ State.regsBut [pgIZL j.val] s t) ∧
  (∀ (j : Fin 4) (far : Bool) (s : State), act (pgIZL j.val) s = stRUNNING →
    (far = true ∨ goodLanes j.val s = [] →
      ∃ t, exec (.izlLinkDown j far) s = .next t ∧ act (pgIZL j.val) t = stSTARTING ∧
        getF (pgIZL j.val) IZL.LINK_DOWNS_count t = (getF (pgIZL j.val) IZL.LINK_DOWNS_count s + 1) % 2 ^ 32 ∧
        getF (pgIZL j.val) (HDR.EVENT 1) t = 1 ∧ (izlOf j.val t).buffer = [] ∧ (izlOf j.val t).inbox = [] ∧
        ∀ r ∈ t.routes, r.link ≠ j.val) ∧
    (far = false → goodLanes j.val s ≠ [] → exec (.izlLinkDown j far) s = .next s)) ∧
  (∀ (j : Fin 4) (x : Exchange) (s : State), act (pgIZL j.val) s = stSTARTING → (goodLanes j.val s).length = 4 →
    (x.sameVersion = true →
      ∃ t, exec (.trainingExchange j x) s = .next t ∧ act (pgIZL j.val) t = stRUNNING ∧
        getF (pgIZL j.val) (HDR.EVENT 0) t = 1 ∧
        getF (pgIZL j.val) IZL.EPOCH_epoch t = (getF (pgIZL j.val) IZL.EPOCH_epoch s + 1) % 2 ^ 16 ∧
        getF (pgIZL j.val) IZL.PARTNER_device t = x.device.toNat ∧
        getF (pgIZL j.val) IZL.WIDTH_rx_width t = min 2 (getF (pgIZL j.val) IZL.CFG_max_width s) ∧
        (∀ v, v < 4 → getF (pgIZL j.val) (IZL.CREDIT_credits v) t = x.alloc.getD v 0 % 2 ^ 11) ∧
        (izlOf j.val t).expect = 0 ∧ (izlOf j.val t).nextSeq = 0) ∧
    (x.sameVersion = false →
      ∃ t, exec (.trainingExchange j x) s = .next t ∧ act (pgIZL j.val) t = stSTARTING ∧
        getF (pgIZL j.val) (HDR.EVENT 9) t = 1 ∧ State.regsBut [pgIZL j.val] s t)) ∧
  (∀ s : State, s.routes.length ≤ 7 →
    ∃ t, exec .routeAnnounceSend s = .next t ∧ (s.clk / tickMs + 1) * tickMs ≤ t.clk ∧ t.regs = s.regs ∧
      ∀ j, j < 4 → ∃ l, SMap.get [] 2 (izlOf j t).waiting = SMap.get [] 2 (izlOf j s).waiting ++ l ∧
        l.length = (if memberLink j s then 1 else 0)) ∧
  (∀ (j : Fin 4) (l : List (Nat × Nat)) (s : State), memberLink j.val s = true →
    ∃ t, exec (.routeAnnouncement j l) s = .next t ∧ (izlOf j.val t).heard = l.map (fun e => (e.1 % 1024, e.2 % 8)) ∧
      (t.routes ≠ s.routes → getF (pgIZL j.val) (HDR.EVENT 6) t = 1) ∧ State.regsBut [pgIZL j.val] s t) ∧
  (∀ (j k : Fin 4) (m : List Byte) (s : State), act (pgIZL j.val) s = stRUNNING → 36 ≤ m.length → m.length ≤ 4096 →
    fieldAt 0 1 m = 4 → fieldAt 2 2 m % 1024 ≠ deviceNumber s → fieldAt 1 1 m ≠ 0 →
    routeTo (fieldAt 2 2 m % 1024) s = some k.val → act (pgIZL k.val) s = stRUNNING →
    ∃ t, exec (.managementMessage j m) s = .next t ∧
      SMap.get [] 2 (izlOf k.val t).waiting = SMap.get [] 2 (izlOf k.val s).waiting ++
        framesOf 2 (m.take 1 ++ beBytes 1 (fieldAt 1 1 m - 1) ++ m.drop 2) ∧
      (k ≠ j → (izlOf k.val t).inbox = (izlOf k.val s).inbox) ∧ State.regsBut [pgIZL j.val] s t)

/-- POP: a pop of a control receive or a firmware queue takes the head packet: POPS, FREE and, for PTP and Harlet
frames, the port's DELIV move; a pop of a decode flow's queue delivers the frame to its page. STALL_END: a stalled
transmit side granted its cells commits and counts its stalled cycles in WSTALL. QUEUE_CONGESTED and QUEUE_RELEASED: a
queue at its high watermark becomes congested with EVENT bit 0; a congested one below its low watermark is released
with EVENT bit 1. QFC_MIN_HOLD_EXPIRY: a QFC pin that no queue wants falls when its minimum time has passed.
QUEUE_FLUSH: a disabled queue is flushed, 48 cells in a tick. POOL_STALL_ALARM: a write side stalled for stall_us
raises EVENT bit 3. It rests on choices of the model: log 4 and 63. Cites R34, R361, R362, R364, R365, R367, R370. -/
def Obligations.StackQueuesAndPackets : Prop :=
  (∀ (q : Fin 1024) (x : StkPkt) (rest : List StkPkt) (s : State), (queueOf q.val s).pkts = x :: rest →
    (queueOf q.val s).frozen = false → 272 ≤ q.val → (q.val < 288 → (q.val - 272) % 8 ≠ 3 ∧ (q.val - 272) % 8 ≠ 4) → x.media = none →
    ∃ t, exec (.pop q) s = .next t ∧ (queueOf q.val t).pkts = rest ∧
      (queueOf q.val t).count = (queueOf q.val s).count - x.cells ∧
      getF pgSTK STK.POPS_packets t = (getF pgSTK STK.POPS_packets s + 1) % 2 ^ 64 ∧
      getF pgSTK STK.FREE_cells t = (getF pgSTK STK.FREE_cells s + x.cells) % 2 ^ 19 ∧
      (∀ i k, i < 2 → k < 2 → q.val = qPort i k →
        getF (pgETH i) ETH.DELIV_frames t = (getF (pgETH i) ETH.DELIV_frames s + 1) % 2 ^ 64)) ∧
  (∀ (i : Fin 16) (q : Fin 1024) (x : StkPkt) (rest : List StkPkt) (pkt : MediaPkt) (b : Bool) (n : Nat) (s : State),
    q.val = qDch i.val → act (pgDCH i.val) s = stRUNNING → (queueOf q.val s).pkts = x :: rest →
    (queueOf q.val s).frozen = false → x.media = some (pkt, b, n) →
    ∃ t, exec (.pop q) s = .next t ∧ (queueOf q.val t).pkts = rest ∧
      getF (pgDCH i.val) (FCNT.deliv (fcBase .video)) t = (getF (pgDCH i.val) (FCNT.deliv (fcBase .video)) s + 1) % 2 ^ 64 ∧
      State.regsBut [pgDCH i.val, pgSTK] s t) ∧
  (∀ (side : Fin 6) (x : Stall) (s : State), 2 ≤ side.val → SMap.get [] side.val s.stk.stalls = [x] →
    grantCells x.queue x.pkt.cells s = true → (x.queue < 176 ∨ 240 ≤ x.queue) →
    ∃ t, exec (.stallEnd side) s = .next t ∧ SMap.get [] side.val t.stk.stalls = [] ∧
      (queueOf x.queue t).pkts = (queueOf x.queue s).pkts ++ [x.pkt] ∧
      getF pgSTK STK.COMMITS_packets t = (getF pgSTK STK.COMMITS_packets s + 1) % 2 ^ 64 ∧
      getF pgSTK (STK.WSTALL_cycles side.val) t =
        (getF pgSTK (STK.WSTALL_cycles side.val) s + 6 * (s.clk - x.since)) % 2 ^ 32 ∧ State.regsBut [pgSTK] s t) ∧
  (∀ (q : Fin 1024) (s : State),
    ((queueOf q.val s).high ≤ (queueOf q.val s).count → (queueOf q.val s).congested = false →
      ∃ t, exec (.queueCongested q) s = .next t ∧ (queueOf q.val t).congested = true ∧ getF pgSTK (HDR.EVENT 0) t = 1 ∧
        State.regsBut [pgSTK, pgETH 0, pgETH 1] s t) ∧
    ((queueOf q.val s).count < (queueOf q.val s).low → (queueOf q.val s).congested = true →
      ∃ t, exec (.queueReleased q) s = .next t ∧ (queueOf q.val t).congested = false ∧ getF pgSTK (HDR.EVENT 1) t = 1 ∧
        State.regsBut [pgSTK, pgETH 0, pgETH 1] s t)) ∧
  (∀ (pin : Fin 4) (a : Nat) (s : State), SMap.find pin.val s.stk.qfcAt = some a → pinWanted pin.val s = false →
    (getF pgSTK STK.ST_qfc s).testBit pin.val = true →
    ∃ t, exec (.qfcMinHoldExpiry pin) s = .next t ∧ (getF pgSTK STK.ST_qfc t).testBit pin.val = false ∧
      5 * a + getF pgSTK STK.QFC_CFG_min_ns s ≤ 5 * t.clk ∧ State.fieldsBut pgSTK [STK.ST_qfc] s t) ∧
  (∀ (q : Fin 1024) (s : State), queueEnabled q.val s = false → (queueOf q.val s).pkts ≠ [] → (queueOf q.val s).frozen = false →
    ∃ t, exec (.queueFlush q) s = .next t ∧ (queueOf q.val t).pkts = [] ∧
      t.clk = s.clk + ((queueOf q.val s).count + 47) / 48 ∧ t.out = s.out) ∧
  (∀ (side : Fin 6) (a : Nat) (s : State), stalledSince side.val s = some a → side.val ∉ s.stk.alarmed →
    ∃ t, exec (.poolStallAlarm side) s = .next t ∧ a + getF pgSTK STK.POOL_ALARM_stall_us s * tickUs ≤ t.clk ∧
      getF pgSTK (HDR.EVENT 3) t = 1 ∧ side.val ∈ t.stk.alarmed ∧ State.regsBut [pgSTK] s t)

/-- STACK_ECC_ERROR: a corrected error counts in ECC_CORR with EVENT bit 4. A pointer error freezes its queue, counts
the cells it can no longer reach in LOST and faults its owner, with EVENT bit 5. A free-list error puts STK in FAULT
with EVENT bit 6. REBUILD is refused while the owner of a frozen queue runs; REBUILD_DONE returns the lost cells,
thaws the queues and clears LOST. QCFG_WRITE and QWM_WRITE of a queue below 288 are taken if R359 holds and answered
invalid-value, changing nothing, if not; a changed max resets the watermarks. QPEAK_CLEAR sets the peak to the count.
FREE_LOW_READ answers and becomes FREE. STACK_INIT_DONE makes STK RUNNING. It rests on choices of the model: log 69.
Cites R359, R368, R369, R370. -/
def Obligations.StackErrorsAndSettings : Prop :=
  (∀ s : State, ∃ t, exec (.stackEccError .corrected) s = .next t ∧
    getF pgSTK STK.ECC_CORR_count t = (getF pgSTK STK.ECC_CORR_count s + 1) % 2 ^ 32 ∧
    getF pgSTK (HDR.EVENT 4) t = 1 ∧ t.stk = s.stk ∧ State.regsBut [pgSTK] s t) ∧
  (∀ (q : Fin 1024) (reach : Nat) (s : State),
    ∃ t, exec (.stackEccError (.pointer q reach)) s = .next t ∧ (queueOf q.val t).frozen = true ∧
      (queueOf q.val t).pkts = (queueOf q.val s).pkts.take reach ∧ getF pgSTK (HDR.EVENT 5) t = 1 ∧
      getF pgSTK STK.LOST_cells t =
        (getF pgSTK STK.LOST_cells s + (((queueOf q.val s).pkts.drop reach).map StkPkt.cells).sum) % 2 ^ 19 ∧
      ∀ p, queueOwner q.val = some p → act p t = stFAULT) ∧
  (∀ s : State, ∃ t, exec (.stackEccError .freeList) s = .next t ∧ act pgSTK t = stFAULT ∧ getF pgSTK (HDR.EVENT 6) t = 1) ∧
  (∀ (r : Req) (s : State), State.lets r 3 pgSTK 0x140 s →
    ((∃ q ∈ knownQueues s, (queueOf q s).frozen = true ∧ ∃ p, queueOwner q = some p ∧ act p s = stRUNNING) →
      exec (.rebuild r) s = .next (reply r 0x83 (regAddr pgSTK 0x140) .refusedInService [] s)) ∧
    ((∀ q ∈ knownQueues s, (queueOf q s).frozen = true → ∀ p, queueOwner q = some p → act p s ≠ stRUNNING) →
      exec (.rebuild r) s = .next (reply r 0x83 (regAddr pgSTK 0x140) .success []
        { s with stk := { s.stk with rebuilding := true } }))) ∧
  (∀ s : State, s.stk.rebuilding = true →
    ∃ t, exec .rebuildDone s = .next t ∧ t.stk.rebuilding = false ∧ getF pgSTK STK.LOST_cells t = 0 ∧
      getF pgSTK STK.FREE_cells t = (getF pgSTK STK.FREE_cells s + getF pgSTK STK.LOST_cells s) % 2 ^ 19 ∧
      (∀ e ∈ t.stk.queues, e.2.frozen = false) ∧ State.fieldsBut pgSTK [STK.LOST_cells, STK.FREE_cells] s t) ∧
  (∀ (r : Req) (value : Word) (q : Nat) (s : State), State.lets r 3 pgSTK 0x120 s → getF pgSTK STK.QSEL_queue s = q → q < 288 →
    (bitsOf 0 18 value.toNat < bitsOf 18 13 value.toNat ∨ 245752 < bitsOf 0 18 value.toNat ∨ bitsOf 0 18 value.toNat = 0 →
      exec (.qcfgWrite r value) s = .next (reply r 0x83 (regAddr pgSTK 0x120) .invalidValue [] s)) ∧
    (∀ m n, m = bitsOf 0 18 value.toNat → n = bitsOf 18 13 value.toNat → m ≠ (queueOf q s).max →
      queueSettingsOk q { queueOf q s with min := n, max := m, high := 3 * m / 4, low := m / 2 } s = true →
      ∃ u, exec (.qcfgWrite r value) s = .next (reply r 0x83 (regAddr pgSTK 0x120) .success [] u) ∧
        queueOf q u = { queueOf q s with min := n, max := m, high := 3 * m / 4, low := m / 2 } ∧
        (∀ q', q' ≠ q → queueOf q' u = queueOf q' s) ∧ u = { s with stk := u.stk })) ∧
  (∀ (r : Req) (value : Word) (q : Nat) (s : State), State.lets r 3 pgSTK 0x124 s → getF pgSTK STK.QSEL_queue s = q → q < 288 →
    (bitsOf 0 16 value.toNat = 0 ∨ bitsOf 16 16 value.toNat ≤ bitsOf 0 16 value.toNat ∨
      (queueOf q s).max < 4 * bitsOf 16 16 value.toNat →
      exec (.qwmWrite r value) s = .next (reply r 0x83 (regAddr pgSTK 0x124) .invalidValue [] s)) ∧
    (queueSettingsOk q { queueOf q s with high := 4 * bitsOf 16 16 value.toNat, low := 4 * bitsOf 0 16 value.toNat } s = true →
      ∃ u, exec (.qwmWrite r value) s = .next (reply r 0x83 (regAddr pgSTK 0x124) .success [] u) ∧
        (queueOf q u).high = 4 * bitsOf 16 16 value.toNat ∧ (queueOf q u).low = 4 * bitsOf 0 16 value.toNat ∧
        (∀ q', q' ≠ q → queueOf q' u = queueOf q' s) ∧ u = { s with stk := u.stk })) ∧
  (∀ (r : Req) (s : State),
    (State.lets r 3 pgSTK 0x134 s →
      ∃ u, exec (.qpeakClear r) s = .next (reply r 0x83 (regAddr pgSTK 0x134) .success [] u) ∧
        (queueOf (getF pgSTK STK.QSEL_queue s) u).peak = (queueOf (getF pgSTK STK.QSEL_queue s) s).count ∧
        (∀ q, q ≠ getF pgSTK STK.QSEL_queue s → queueOf q u = queueOf q s) ∧ u = { s with stk := u.stk }) ∧
    (State.lets r 1 pgSTK 0x114 s →
      ∃ u, exec (.freeLowRead r) s = .next (reply r 0x81 (regAddr pgSTK 0x114) .success
          (beBytes 4 (getF pgSTK STK.FREE_LOW_cells s)) u) ∧
        getF pgSTK STK.FREE_LOW_cells u = getF pgSTK STK.FREE_cells s % 2 ^ 19 ∧ u = { s with regs := u.regs } ∧
        State.fieldsBut pgSTK [STK.FREE_LOW_cells] s u)) ∧
  (∀ s : State,
    (act pgSTK s = stSTARTING →
      ∃ t, exec .stackInitDone s = .next t ∧ act pgSTK t = stRUNNING ∧ isF pgSTK STK.ST_ready t = true ∧ t.stk = s.stk ∧
        State.regsBut [pgSTK] s t) ∧
    (act pgSTK s ≠ stSTARTING → exec .stackInitDone s = .next s))

/-- While the desk runs, a version-1 SLIP_POST to a queue that is open and that no other post waits for joins the
queue and is answered success; another version is answered invalid-value; one to a queue that is not open stays
outstanding. SLIP_POST_ACCEPT: a waiting post is accepted once its queue is open. HW_SLIP_POST: a hardware channel's
slip joins the ready list of its class, is held with EVENT bit 1 while no slip is free, and a bad one counts in
BAD_SLIP with EVENT bit 6. FW_SLIP_POST: a firmware slip is ready above fw_floor and refused at it. SLIP_TAKE moves a
queue's head to its class's ready list. SLIP_AGEING: a head slip that waited age_us moves to the tail of the next
class, counted in AGED. It rests on choices of the model: log 4 and 71. Cites R372, R374, R375, R376, R377, R381. -/
def Obligations.SlipsPostedAndTaken : Prop :=
  (∀ (i : Fin 8) (tag : BitVec 16) (q : Fin 16) (b : List Byte) (x : Session) (s : State), deskRuns s = true →
    isF pgFWL FWL.ST_recovery s = false → sessionAt i.val s = some x → x.provisioning = false → x.outstanding + x.unsent < 64 →
    (slipOk b = false →
      exec (.slipPost ⟨.session i, tag⟩ q b) s = .next (reply ⟨.session i, tag⟩ 0x86 q.val .invalidValue [] s)) ∧
    (slipOk b = true → (∀ e ∈ s.cir.posts, e.2.1 ≠ q.val) →
      (queueOpen q.val s = true →
        ∃ u, exec (.slipPost ⟨.session i, tag⟩ q b) s = .next (reply ⟨.session i, tag⟩ 0x86 q.val .success [] u) ∧
          (hostQ q.val u).held = (hostQ q.val s).held ++
            [{ takeSlip b q.val s with cls := min (fieldAt 1 1 b % 8) (hostQ q.val s).classMax }] ∧
          (hostQ q.val u).inflight = (hostQ q.val s).inflight + 1 ∧ State.regsBut [pgCIR] s u) ∧
      (queueOpen q.val s = false →
        ∃ t, exec (.slipPost ⟨.session i, tag⟩ q b) s = .next t ∧
          t.cir.posts = s.cir.posts ++ [(⟨.session i, tag⟩, q.val, b)] ∧
          sessionAt i.val t = some { x with outstanding := x.outstanding + 1 } ∧ t.regs = s.regs))) ∧
  (∀ (q : Fin 16) (e : Req × Nat × List Byte) (s : State), deskRuns s = true → queueOpen q.val s = true →
    s.cir.posts.find? (fun e => e.2.1 == q.val) = some e →
    ∃ t, exec (.slipPostAccept q) s = .next t ∧ t.cir.posts = s.cir.posts.erase e ∧
      (hostQ q.val t).inflight = (hostQ q.val s).inflight + 1 ∧
      (hostQ q.val t).held.length = (hostQ q.val s).held.length + 1) ∧
  (∀ (ch : Fin 16) (b : List Byte) (s : State), deskRuns s = true → SMap.find ch.val s.cir.hwHeld = none →
    (slipOk b = true → freeSlips s ≠ 0 →
      ∃ t, exec (.hwSlipPost ch b) s = .next t ∧ readyList (fieldAt 1 1 b % 8) t =
        readyList (fieldAt 1 1 b % 8) s ++ [takeSlip b (16 + ch.val) s] ∧ State.regsBut [pgCIR] s t) ∧
    (slipOk b = true → freeSlips s = 0 →
      ∃ t, exec (.hwSlipPost ch b) s = .next t ∧ SMap.find ch.val t.cir.hwHeld = some (b, s.clk) ∧
        getF pgCIR (HDR.EVENT 1) t = 1 ∧ t.cir.ready = s.cir.ready ∧ State.regsBut [pgCIR] s t) ∧
    (slipOk b = false →
      ∃ t, exec (.hwSlipPost ch b) s = .next t ∧
        getF pgCIR CIR.BAD_SLIP t = (getF pgCIR CIR.BAD_SLIP s + 1) % 2 ^ 32 ∧ getF pgCIR (HDR.EVENT 6) t = 1 ∧
        t.cir = s.cir ∧ State.regsBut [pgCIR] s t)) ∧
  (∀ (core : Fin 48) (b : List Byte) (s : State), deskRuns s = true → slipOk b = true →
    (getF pgCIR CIR.RESERVE_fw_floor s < freeSlips s →
      ∃ t, exec (.fwSlipPost core b) s = .next t ∧ readyList (fieldAt 1 1 b % 8) t =
        readyList (fieldAt 1 1 b % 8) s ++ [takeSlip b 32 s] ∧ State.regsBut [pgCIR] s t) ∧
    (freeSlips s ≤ getF pgCIR CIR.RESERVE_fw_floor s → exec (.fwSlipPost core b) s = .next s)) ∧
  (∀ (q : Fin 16) (x : Slip) (l : List Slip) (s : State), deskRuns s = true → (hostQ q.val s).en = true →
    (hostQ q.val s).held = x :: l →
    ∃ t, exec (.slipTake q) s = .next t ∧ (hostQ q.val t).held = l ∧
      readyList x.cls t = readyList x.cls s ++ [{ x with since := s.clk }] ∧ t.regs = s.regs) ∧
  (∀ (c : Fin 8) (x : Slip) (l : List Slip) (s : State), deskRuns s = true → getF pgCIR CIR.CFG_age_us s ≠ 0 → c.val < 6 →
    readyList c.val s = x :: l →
    ∃ t, exec (.slipAgeing c) s = .next t ∧ x.since + getF pgCIR CIR.CFG_age_us s * tickUs ≤ t.clk ∧
      readyList c.val t = l ∧
      readyList (c.val + 1) t = readyList (c.val + 1) s ++ [{ x with cls := c.val + 1, since := t.clk }] ∧
      getF pgCIR CIR.AGED t = (getF pgCIR CIR.AGED s + 1) % 2 ^ 32 ∧ State.fieldsBut pgCIR [CIR.AGED] s t)

/-- CARREL_FILL: a ready slip of the only class waiting fills the carrel of the admitting core that has one empty, or,
with none, takes the carrel of the slip that class displaces, counted in WITHDRAWN. SLIP_START: a prefetched slip
starts on an idle core that is powered, counted in DISPATCHED. SLIP_COMPLETE: a known handler's completion with notify
adds a record with status 0, counted in COMPLETED; a matched cancel makes it status 2, counted in CANCEL_LATE.
RUN_LIMIT: run_us reports an overrun once with EVENT bit 2; KILL_LIMIT: kill_ms resets the core with EVENT bit 3, and
CORE_RETURN: 5 µs later it serves again; OBROV_CORE_FAULT takes it out of service with EVENT bit 4. CANCEL answers
what it matched in CANCEL_RES and leaves no such slip in its queue. CPL_STAT_READ pops a record; HSQ_STAT_READ clears
the stall count. It rests on choices of the model: log 4, 31 and 71. Cites R374, R378, R379, R380, R382, R383, R384,
R387. -/
def Obligations.SlipsDispatchedAndEnded : Prop :=
  (∀ (c k : Nat) (x : Slip) (s : State), deskRuns s = true → c < 8 → readyList c s = [x] →
    (∀ c', c' < 8 → c' ≠ c → readyList c' s = []) →
    (carrelFor c s = some k →
      ∃ t, exec .carrelFill s = .next t ∧ (deskCore k t).pf = some x ∧ readyList c t = [] ∧ t.regs = s.regs) ∧
    (∀ v, carrelFor c s = none → victimFor c s = some v →
      ∃ t, exec .carrelFill s = .next t ∧ (deskCore v.1 t).pf = some x ∧ v.2.no ∈ (readyList v.2.cls t).map Slip.no ∧
        getF pgCIR CIR.WITHDRAWN t = (getF pgCIR CIR.WITHDRAWN s + 1) % 2 ^ 32 ∧ State.fieldsBut pgCIR [CIR.WITHDRAWN] s t)) ∧
  (∀ (k : Fin 48) (p : Slip) (s : State), deskRuns s = true → (deskCore k.val s).run = none →
    (deskCore k.val s).pf = some p → (deskCore k.val s).phase = 0 → corePowered k.val s = true →
    ∃ t, exec (.slipStart k) s = .next t ∧ (deskCore k.val t).run = some ⟨p, s.clk, false, false⟩ ∧
      (deskCore k.val t).pf = none ∧
      getF pgCIR CIR.DISPATCHED_slips t = (getF pgCIR CIR.DISPATCHED_slips s + 1) % 2 ^ 64 ∧
      State.fieldsBut pgCIR [CIR.DISPATCHED_slips] s t) ∧
  (∀ (k : Fin 48) (x : RunSlip) (result : Byte) (s : State), deskRuns s = true → (deskCore k.val s).run = some x →
    x.slip.notify = true → x.slip.source < 16 → s.cir.hwHeld = [] →
    (x.late = false →
      ∃ t, exec (.slipComplete k result true) s = .next t ∧ (deskCore k.val t).run = none ∧
        (hostQ x.slip.source t).fifo = (hostQ x.slip.source s).fifo ++ [⟨x.slip.tag, result.toNat, k.val, 0⟩] ∧
        getF pgCIR CIR.COMPLETED_slips t = (getF pgCIR CIR.COMPLETED_slips s + 1) % 2 ^ 64 ∧
        State.fieldsBut pgCIR [CIR.COMPLETED_slips] s t) ∧
    (x.late = true → ∀ known,
      ∃ t, exec (.slipComplete k result known) s = .next t ∧ (deskCore k.val t).run = none ∧
        (hostQ x.slip.source t).fifo = (hostQ x.slip.source s).fifo ++ [⟨x.slip.tag, result.toNat, k.val, 2⟩] ∧
        getF pgCIR CIR.CANCEL_LATE t = (getF pgCIR CIR.CANCEL_LATE s + 1) % 2 ^ 32 ∧
        State.fieldsBut pgCIR [CIR.COMPLETED_slips, CIR.CANCEL_LATE] s t)) ∧
  (∀ (k : Fin 48) (x : RunSlip) (s : State), deskRuns s = true → (deskCore k.val s).run = some x →
    (x.overran = false →
      ∃ t, exec (.runLimit k) s = .next t ∧ x.start + getF pgCIR CIR.CFG_run_us s * tickUs ≤ t.clk ∧
        (deskCore k.val t).run = some { x with overran := true } ∧ getF pgCIR (HDR.EVENT 2) t = 1 ∧
        getF pgCIR CIR.OVERRUN t = (getF pgCIR CIR.OVERRUN s + 1) % 2 ^ 32) ∧
    (x.overran = true → exec (.runLimit k) s = .next s) ∧
    (getF pgCIR CIR.CORE_CFG_kill_ms s ≠ 0 →
      ∃ t, exec (.killLimit k) s = .next t ∧ x.start + getF pgCIR CIR.CORE_CFG_kill_ms s * tickMs ≤ t.clk ∧
        (deskCore k.val t).run = none ∧ (deskCore k.val t).phase = 2 ∧ getF pgCIR (HDR.EVENT 3) t = 1 ∧
        getF pgCIR CIR.KILLED t = (getF pgCIR CIR.KILLED s + 1) % 2 ^ 32 ∧ State.regsBut [pgCIR] s t)) ∧
  (∀ (k : Fin 48) (s : State),
    (deskRuns s = true → (deskCore k.val s).phase = 2 →
      ∃ t, exec (.coreReturn k) s = .next t ∧ (deskCore k.val t).phase = 0 ∧
        (deskCore k.val s).phaseAt + 5 * tickUs ≤ t.clk ∧ t.regs = s.regs) ∧
    (s.pwr.mainRun = true → (deskCore k.val s).phase ≠ 3 →
      ∃ t, exec (.obrovCoreFault k) s = .next t ∧ (deskCore k.val t).phase = 3 ∧ (deskCore k.val t).run = none ∧
        (deskCore k.val t).pf = none ∧ getF pgCIR (HDR.EVENT 4) t = 1 ∧
        getF pgCIR CIR.CORE_FAULTS t = (getF pgCIR CIR.CORE_FAULTS s + 1) % 2 ^ 32 ∧ State.regsBut [pgCIR] s t)) ∧
  (∀ (r : Req) (q : Fin 16) (s : State), State.lets r 3 pgCIR 0x164 s →
    ∃ u, exec (.cancel r q) s = .next (reply r 0x83 (regAddr pgCIR 0x164) .success [] u) ∧
      getF pgCIR CIR.CANCEL_RES_queued u =
        ((hostQ q.val s).held.filter (fun x => x.source == q.val && x.tag == getF pgCIR CIR.CANCEL_TAG_tag s)).length % 256 ∧
      getF pgCIR CIR.CANCEL_RES_running u =
        ((runningSlips s).filter (fun x => x.source == q.val && x.tag == getF pgCIR CIR.CANCEL_TAG_tag s)).length % 256 ∧
      (∀ x ∈ (hostQ q.val u).held, ¬(x.source = q.val ∧ x.tag = getF pgCIR CIR.CANCEL_TAG_tag s)) ∧
      State.regsBut [pgCIR] s u) ∧
  (∀ (r : Req) (q : Nat) (s : State), State.lets r 1 pgCIR 0x154 s → getF pgCIR CIR.CPL_SEL_queue s = q →
    (∀ x l, (hostQ q s).fifo = x :: l →
      ∃ u, exec (.cplStatRead r) s = .next (reply r 0x81 (regAddr pgCIR 0x154) .success (beBytes 4
          (2 ^ 31 + l.length % 128 * 2 ^ 24 + x.status % 8 * 2 ^ 20 + x.core % 64 * 2 ^ 8 + x.result % 256)) u) ∧
        (hostQ q u).fifo = l ∧ (hostQ q u).inflight = (hostQ q s).inflight - 1 ∧ u.regs = s.regs) ∧
    ((hostQ q s).fifo = [] →
      exec (.cplStatRead r) s = .next (reply r 0x81 (regAddr pgCIR 0x154) .success (beBytes 4 0) s))) ∧
  (∀ (r : Req) (q : Nat) (s : State), State.lets r 1 pgCIR 0x148 s → getF pgCIR CIR.HSQ_SEL_queue s = q →
    ∃ u, exec (.hsqStatRead r) s = .next (reply r 0x81 (regAddr pgCIR 0x148) .success (beBytes 4
        (stallsNow q s * 2 ^ 16 + (hostQ q s).inflight % 128 * 2 ^ 8 + (hostQ q s).held.length % 128)) u) ∧
      (hostQ q u).stalls = 0 ∧ (hostQ q u).held = (hostQ q s).held ∧ u.regs = s.regs)

/-- HBM_REQUEST: on a quiet stack a read by a client whose bank is free is served at once and its bytes count in
RD_BYTES; a lone write is kept in the write buffer; a client without credits waits. REFRESH_INTERVAL: at its interval
an idle pseudo-channel refreshes: REFRESHES, debt 0, next interval tREFI later. TEMPERATURE_READING: it shows in TEMP
and the maximum, sets the doubled rate from 85 °C and ends it below 83, from 105 EVENT bit 9 and one step less of the
governor's level; a third failed one sets temp_fail and the doubled rate with EVENT bit 8. TEMP_READ clears the
maximum. SELF_REFRESH_ENTRY: an idle, permitted, kept pseudo-channel enters self-refresh. HAMMER_WINDOW: its end
clears the trackers and throttles. It rests on choices of the model: log 4, 72, 73 and 90. Cites R391, R392, R394,
R395, R396, R397, R405. -/
def Obligations.HbmRequestsRefreshAndRest : Prop :=
  (∀ (i : Fin 2) (p : Fin 32) (a : HbmAccess) (s : State), State.hbmQuiet i.val s →
    (a.requester.val < 36 → a.write = false → eccFinds i.val p.val a s = .good → SMap.get 0 a.bank.val (pcOf i.val p.val s).bankUntil ≤ s.clk →
      (pcOf i.val p.val s).throttled = [] →
      ∃ t, exec (.hbmRequest i p a) s = .next t ∧ (pcOf i.val p.val t).queue = [] ∧ t.clk = s.clk ∧
        getF (pgHBM i.val) HBM.RD_BYTES_bytes t = (getF (pgHBM i.val) HBM.RD_BYTES_bytes s + a.bytes.val) % 2 ^ 64 ∧
        State.regsBut [pgHBM i.val] s t) ∧
    (a.requester.val < 36 → a.write = true →
      ∃ t, exec (.hbmRequest i p a) s = .next t ∧ (pcOf i.val p.val t).queue = [⟨a, s.clk⟩] ∧ t.regs = s.regs) ∧
    (36 ≤ a.requester.val →
      ∃ t, exec (.hbmRequest i p a) s = .next t ∧ (hbmOf i.val t).blocked = [(p.val, ⟨a, s.clk⟩)] ∧ t.regs = s.regs)) ∧
  (∀ (i : Fin 2) (p : Fin 32) (s : State), State.hbmQuiet i.val s →
    ∃ t, exec (.refreshInterval i p) s = .next t ∧ (pcOf i.val p.val s).nextRefi ≤ t.clk ∧ (pcOf i.val p.val t).debt = 0 ∧
      (pcOf i.val p.val t).nextRefi = t.clk + tRefi i.val s ∧
      getF (pgHBM i.val) HBM.REFRESHES_count t = (getF (pgHBM i.val) HBM.REFRESHES_count s + 1) % 2 ^ 64 ∧
      State.fieldsBut (pgHBM i.val) [HBM.REFRESHES_count] s t) ∧
  (∀ (i : Fin 2) (c : Byte) (s : State), State.hbmQuiet i.val s →
    ∃ t, exec (.temperatureReading i (some c)) s = .next t ∧ getF (pgHBM i.val) HBM.TEMP_temp_c t = c.toNat ∧
      getF (pgHBM i.val) HBM.TEMP_max_c t = max (getF (pgHBM i.val) HBM.TEMP_max_c s) c.toNat % 2 ^ 8 ∧
      isF (pgHBM i.val) HBM.ST_temp_fail t = false ∧
      isHot i.val t = (if 85 ≤ c.toNat then true else if c.toNat < 83 then false else isHot i.val s) ∧
      (c.toNat < 105 → State.regsBut [pgHBM i.val] s t) ∧
      (105 ≤ c.toNat → getF (pgHBM i.val) (HDR.EVENT 9) t = 1 ∧ govLevel t = govLevel s - 1 ∧
        State.regsBut [pgHBM i.val, pgHLT] s t)) ∧
  (∀ (i : Fin 2) (s : State), State.hbmQuiet i.val s →
    ((hbmOf i.val s).tempFails = 2 →
      ∃ t, exec (.temperatureReading i none) s = .next t ∧ isF (pgHBM i.val) HBM.ST_temp_fail t = true ∧
        isHot i.val t = true ∧ getF (pgHBM i.val) (HDR.EVENT 8) t = 1) ∧
    ((hbmOf i.val s).tempFails ≠ 2 →
      ∃ t, exec (.temperatureReading i none) s = .next t ∧ (hbmOf i.val t).tempFails = (hbmOf i.val s).tempFails + 1 ∧
        t.regs = s.regs)) ∧
  (∀ (r : Req) (i : Fin 2) (s : State), State.lets r 1 (pgHBM i.val) 0x120 s →
    ∃ u, exec (.tempRead r i) s = .next (reply r 0x81 (regAddr (pgHBM i.val) 0x120) .success
        (beBytes 4 (getF (pgHBM i.val) HBM.TEMP_max_c s * 256 + getF (pgHBM i.val) HBM.TEMP_temp_c s)) u) ∧
      getF (pgHBM i.val) HBM.TEMP_max_c u = 0 ∧ u = { s with regs := u.regs } ∧
      State.fieldsBut (pgHBM i.val) [HBM.TEMP_max_c] s u) ∧
  (∀ (i : Fin 2) (p : Fin 32) (s : State), State.hbmQuiet i.val s → kept i.val p.val s = true →
    (inD2 s = true ∨ ((getF (pgHBM i.val) HBM.SR_ALLOW_allow s).testBit p.val = true ∧ effTol 3 (32 * i.val + p.val) s ≠ 0)) →
    ∃ t, exec (.selfRefreshEntry i p) s = .next t ∧ (pcOf i.val p.val t).mode = 2 ∧
      (inD2 s = false → (pcOf i.val p.val s).idleSince + (getF (pgHBM i.val) HBM.SR_idle_ns s + 4) / 5 ≤ t.clk) ∧
      State.fieldsBut (pgHBM i.val) [HBM.REFRESHES_count] s t) ∧
  (∀ (i : Fin 2) (s : State), State.hbmQuiet i.val s →
    ∃ t, exec (.hammerWindow i) s = .next t ∧ (hbmOf i.val s).windowAt + 32 * tickMs ≤ t.clk ∧
      (hbmOf i.val t).windowAt = (hbmOf i.val s).windowAt + 32 * tickMs ∧
      (∀ p, p < 32 → (pcOf i.val p t).counts = [] ∧ (pcOf i.val p t).throttled = []) ∧ t.regs = s.regs)

/-- RETRAIN_PAUSE and PAUSE_SKIP: on a quiet stack a kept pseudo-channel outside D2 starts its pause in its slot if no
other pause runs and no bank is closed; while another pause lasts past the slot's end it is skipped, counted in
PAUSE_SKIP and HLT.PAUSE_STAT with EVENT bit 5. PATROL_SCRUB: the scrubber, enabled and not throttled, reads 32 bytes
of an idle kept pseudo-channel whose row nobody has activated. KEEP_APPLY: a pending generation of a quiet stack takes
effect: KEEP is the committed value, the generation is applied, EVENT bit 30. HBM_TRAINING_DONE: a STARTING stack
whose training is done runs and is trained, with EVENT bit 7 if its seeds, or the folio that holds them, were not
good. It rests on choices of the model: log 4 and 72. Cites R398, R399, R402, R404, R406. -/
def Obligations.HbmPausesScrubAndCommits : Prop :=
  (∀ (i : Fin 2) (p : Fin 32) (ticks : Fin 301) (eyes : List (Fin 36 × Byte)) (s : State), State.hbmQuiet i.val s →
    kept i.val p.val s = true → inD2 s = false → anyPaused s = false →
    (pcOf i.val p.val s).bankUntil.all (fun e => decide (e.2 ≤ s.clk)) = true →
    ∃ t, exec (.retrainPause i p ticks eyes) s = .next t ∧ slotAt i.val p.val (dueSlot i.val p.val s) ≤ t.clk ∧
      (pcOf i.val p.val t).lastSlot = some (dueSlot i.val p.val s) ∧
      (pcOf i.val p.val t).pausedUntil = t.clk + ticks.val) ∧
  (∀ (i j : Fin 2) (p q : Fin 32) (s : State), State.hbmQuiet i.val s → kept i.val p.val s = true → inD2 s = false →
    max s.clk (slotAt i.val p.val (dueSlot i.val p.val s) + 1300) < (pcOf j.val q.val s).pausedUntil →
    ∃ t, exec (.pauseSkip i p) s = .next t ∧ (pcOf i.val p.val t).lastSlot = some (dueSlot i.val p.val s) ∧
      getF (pgHBM i.val) HBM.PAUSE_SKIP_count t = (getF (pgHBM i.val) HBM.PAUSE_SKIP_count s + 1) % 2 ^ 32 ∧
      getF pgHLT HLT.PAUSE_STAT_hbm_skips t = min 65535 (getF pgHLT HLT.PAUSE_STAT_hbm_skips s + 1) ∧
      getF (pgHBM i.val) (HDR.EVENT 5) t = 1 ∧ State.regsBut [pgHBM i.val, pgHLT] s t) ∧
  (∀ (i : Fin 2) (p : Fin 32) (a : HbmAccess) (s : State), State.hbmQuiet i.val s → kept i.val p.val s = true →
    isF (pgHBM i.val) HBM.CFG_scrub_en s = true → isF pgHLT HLT.ST_throttle s = false → eccFinds i.val p.val a s = .good →
    SMap.get 0 (a.bank.val * 2 ^ 14 + a.row.val) (pcOf i.val p.val s).counts = 0 →
    ∃ t, exec (.patrolScrub i p a) s = .next t ∧
      getF (pgHBM i.val) HBM.RD_BYTES_bytes t = (getF (pgHBM i.val) HBM.RD_BYTES_bytes s + 32) % 2 ^ 64 ∧
      t.clk = s.clk ∧ State.regsBut [pgHBM i.val] s t) ∧
  (∀ (i : Fin 2) (s : State), State.hbmQuiet i.val s → pendingGen (pgHBM i.val) s = true →
    ∃ t, exec (.keepApply i) s = .next t ∧
      getF (pgHBM i.val) HBM.KEEP_kept t = getCm (pgHBM i.val) HBM.KEEP_kept s % 2 ^ 32 ∧
      getF (pgHBM i.val) HDR.gen_applied t = getF (pgHBM i.val) HDR.gen_committed s % 2 ^ HDR.gen_applied.width ∧
      getF (pgHBM i.val) (HDR.EVENT 30) t = 1 ∧ State.regsBut [pgHBM i.val] s t) ∧
  (∀ (i : Fin 2) (s : State), pendingGen (pgHBM i.val) s = false → exec (.keepApply i) s = .next s) ∧
  (∀ (i : Fin 2) (good : Bool) (s : State), act (pgHBM i.val) s = stSTARTING →
    ∃ t, exec (.hbmTrainingDone i good) s = .next t ∧ act (pgHBM i.val) t = stRUNNING ∧
      isF (pgHBM i.val) HBM.ST_trained t = true ∧ (good = false ∨ isF pgFWL FWL.ST_folio_ok s = false → getF (pgHBM i.val) (HDR.EVENT 7) t = 1) ∧
      (hbmOf i.val t).windowAt = s.clk ∧ State.regsBut [pgHBM i.val] s t)

/-- CMD.start of a working unit makes it busy with an empty message and RUNNING; busy answers it while STREAM.en is 1.
DATA feeds four bytes to a busy unit; else it raises EVENT bit 1. CMD.finish of a busy unit in mode 0 or 1 gives
RESULT the check of the message with its length in LEN and BYTES; in mode 2 or 3 a message no longer than its check
counts in FAIL with EVENT bits 0 and 1. STREAM is firmware's to write, between firmware queues. The stream path pops a
packet and pushes the result, or rewinds it where its destination is not enabled. It rests on choices of the model:
log 74. Cites R407, R408, R410, R411, R412, R414, R415. -/
def Obligations.CheckUnits : Prop :=
  (∀ (r : Req) (k : Fin 8) (s : State), State.lets r 3 (pgCHK k.val) 0x124 s →
    (isF (pgCHK k.val) CHK.STREAM_en s = true →
      exec (.chkStart r k) s = .next (reply r 0x83 (regAddr (pgCHK k.val) 0x124) .busy [] s)) ∧
    (isF (pgCHK k.val) CHK.STREAM_en s = false → chkWorks k.val s = true →
      ∃ u, exec (.chkStart r k) s = .next (reply r 0x83 (regAddr (pgCHK k.val) 0x124) .success [] u) ∧
        isF (pgCHK k.val) CHK.ST_busy u = true ∧ isF (pgCHK k.val) CHK.ST_result_valid u = false ∧
        (chkOf k.val u).fed = [] ∧ act (pgCHK k.val) u = stRUNNING ∧ State.regsBut [pgCHK k.val] s u)) ∧
  (∀ (r : Req) (k : Fin 8) (w : Word) (s : State), State.lets r 3 (pgCHK k.val) 0x128 s →
    (isF (pgCHK k.val) CHK.ST_busy s = true →
      ∃ u, exec (.chkData r k w) s = .next (reply r 0x83 (regAddr (pgCHK k.val) 0x128) .success [] u) ∧
        (chkOf k.val u).fed = (chkOf k.val s).fed ++ beBytes 4 w.toNat ∧ u = { s with chk := u.chk }) ∧
    (isF (pgCHK k.val) CHK.ST_busy s = false →
      ∃ u, exec (.chkData r k w) s = .next (reply r 0x83 (regAddr (pgCHK k.val) 0x128) .success [] u) ∧
        getF (pgCHK k.val) (HDR.EVENT 1) u = 1 ∧ u.chk = s.chk ∧ State.regsBut [pgCHK k.val] s u)) ∧
  (∀ (r : Req) (k : Fin 8) (last : BitVec 2) (m : List Byte) (s : State), State.lets r 3 (pgCHK k.val) 0x124 s →
    isF (pgCHK k.val) CHK.ST_busy s = true → chkMessage last.toNat (chkOf k.val s).fed = m →
    (getF (pgCHK k.val) CHK.CFG_mode s < 2 →
      ∃ u, exec (.chkFinish r k last) s = .next (reply r 0x83 (regAddr (pgCHK k.val) 0x124) .success [] u) ∧
        getF (pgCHK k.val) CHK.RESULT_check u = chkOver k.val (getF (pgCHK k.val) CHK.FOLD_value s) m s % 2 ^ 64 ∧
        getF (pgCHK k.val) CHK.LEN_bytes u = m.length % 2 ^ 32 ∧
        getF (pgCHK k.val) CHK.BYTES_bytes u = (getF (pgCHK k.val) CHK.BYTES_bytes s + m.length) % 2 ^ 64 ∧
        isF (pgCHK k.val) CHK.ST_busy u = false ∧ isF (pgCHK k.val) CHK.ST_result_valid u = true ∧
        State.regsBut [pgCHK k.val] s u) ∧
    (2 ≤ getF (pgCHK k.val) CHK.CFG_mode s → m.length ≤ chkBytes k.val s →
      ∃ u, exec (.chkFinish r k last) s = .next (reply r 0x83 (regAddr (pgCHK k.val) 0x124) .success [] u) ∧
        getF (pgCHK k.val) CHK.FAIL_count u = (getF (pgCHK k.val) CHK.FAIL_count s + 1) % 2 ^ 32 ∧
        getF (pgCHK k.val) CHK.RESULT_check u = getF (pgCHK k.val) CHK.RESULT_check s ∧
        isF (pgCHK k.val) CHK.ST_pass u = false ∧ getF (pgCHK k.val) (HDR.EVENT 0) u = 1 ∧
        getF (pgCHK k.val) (HDR.EVENT 1) u = 1 ∧ State.regsBut [pgCHK k.val] s u)) ∧
  (∀ (r : Req) (k : Fin 8) (v : Word) (s : State), State.lets r 3 (pgCHK k.val) 0x138 s →
    (r.origin ≠ .firmware →
      exec (.streamEnable r k v) s = .next (reply r 0x83 (regAddr (pgCHK k.val) 0x138) .accessDenied [] s)) ∧
    (r.origin = .firmware → isF (pgCHK k.val) CHK.ST_busy s = false → 288 ≤ bitsOf 16 10 v.toNat → 288 ≤ bitsOf 0 10 v.toNat →
      ∃ u, exec (.streamEnable r k v) s = .next u ∧
        getF (pgCHK k.val) CHK.STREAM_en u = bitsOf 31 1 v.toNat ∧
        getF (pgCHK k.val) CHK.STREAM_src_queue u = bitsOf 16 10 v.toNat ∧
        getF (pgCHK k.val) CHK.STREAM_dst_queue u = bitsOf 0 10 v.toNat ∧ State.regsBut [pgCHK k.val] s u)) ∧
  (∀ (k : Fin 8) (src dst : Nat) (x : StkPkt) (rest : List StkPkt) (s : State), isF (pgCHK k.val) CHK.STREAM_en s = true →
    chkWorks k.val s = true → getF (pgCHK k.val) CHK.STREAM_src_queue s = src → getF (pgCHK k.val) CHK.STREAM_dst_queue s = dst →
    288 ≤ dst → src ≠ dst → (queueOf src s).pkts = x :: rest → (queueOf src s).frozen = false →
    getF (pgCHK k.val) CHK.CFG_mode s = 0 →
    (queueEnabled dst s = false →
      ∃ t, exec (.streamPacket k) s = .next t ∧ (queueOf src t).pkts = rest ∧ (queueOf dst t).pkts = (queueOf dst s).pkts ∧
        getF pgSTK STK.REWINDS_packets t = (getF pgSTK STK.REWINDS_packets s + 1) % 2 ^ 32 ∧
        State.regsBut [pgCHK k.val, pgSTK] s t) ∧
    (queueEnabled dst s = true → (queueOf dst s).frozen = false →
      (queueOf dst s).count + cellsFor x.data.length ≤ min (queueOf dst s).min (queueOf dst s).max →
      cellsFor x.data.length ≤ freeCells s → freeCells s + x.cells < 2 ^ 19 →
      ∃ t, exec (.streamPacket k) s = .next t ∧ (queueOf src t).pkts = rest ∧
        (queueOf dst t).pkts = (queueOf dst s).pkts ++ [⟨cellsFor x.data.length, none, x.data.map (fun n => n % 256)⟩] ∧
        getF (pgCHK k.val) CHK.BYTES_bytes t = (getF (pgCHK k.val) CHK.BYTES_bytes s + x.data.length) % 2 ^ 64 ∧
        State.regsBut [pgCHK k.val, pgSTK] s t))

/-- FW_OPEN of settings or a folio takes a free lock for its session with an empty staging; it is busy while the lock
is held, invalid-value for an unknown type, and unit-unavailable for a package while the main domain does not run.
FW_DATA of the holder within the length joins the staging and shows in PROGRESS. VERIFY answers the result and the
failing block, counting a failure in VERIFY_FAILS with EVENT bit 3. INSTALL of a staging that verifies stays
outstanding while it is written; one that fails is answered invalid-value. INSTALL_COMPLETE: a good write counts in
UPDATES with EVENT bit 4, a bad one shows result 9 in BOOT.verify. ACTIVATE needs an installed staging and, with
essence running, its flag; with VIN off it then records a reset of kind 3 and cause 0x0C. FW_CLOSE releases the lock.
Without the lock DATA, VERIFY, INSTALL, ACTIVATE and CLOSE are answered busy. It rests on choices of the model: log
30, 75 and 76. Cites R428, R430, R431, R432, R433. -/
def Obligations.UpdateSessions : Prop :=
  (∀ (i : Fin 8) (tag : BitVec 16) (kind : Byte) (n : Word) (s : State), State.fwLets i.val s →
    (kind.toNat = 0 ∨ 5 < kind.toNat →
      exec (.fwOpen ⟨.session i, tag⟩ kind n) s = .next (reply ⟨.session i, tag⟩ 0x89 1 .invalidValue [] s)) ∧
    (1 ≤ kind.toNat → kind.toNat ≤ 5 → lockHeld s = true → inRecovery s = false →
      exec (.fwOpen ⟨.session i, tag⟩ kind n) s = .next (reply ⟨.session i, tag⟩ 0x89 1 .busy [] s)) ∧
    (1 ≤ kind.toNat → kind.toNat ≤ 3 → lockHeld s = false → s.pwr.mainRun = false →
      exec (.fwOpen ⟨.session i, tag⟩ kind n) s = .next (reply ⟨.session i, tag⟩ 0x89 1 .unavailable [] s)) ∧
    (4 ≤ kind.toNat → kind.toNat ≤ 5 → lockHeld s = false →
      ∃ u, exec (.fwOpen ⟨.session i, tag⟩ kind n) s = .next (reply ⟨.session i, tag⟩ 0x89 1 .success [] u) ∧
        holdsLock ⟨.session i, tag⟩ u = true ∧ u.fwl.staging = some ⟨kind.toNat, n.toNat, [], false⟩ ∧
        State.regsBut [pgFWL] s u)) ∧
  (∀ (i : Fin 8) (tag : BitVec 16) (off : Word) (b : List Byte) (x : Staging) (s : State), State.fwLets i.val s →
    holdsLock ⟨.session i, tag⟩ s = true → s.fwl.staging = some x → s.fwl.installing = none → 3 < x.kind →
    (b ≠ [] → b.length ≤ 1024 → off.toNat + b.length ≤ x.length →
      ∃ u, exec (.fwData ⟨.session i, tag⟩ off b) s = .next (reply ⟨.session i, tag⟩ 0x89 2 .success [] u) ∧
        u.fwl.staging = some { x with parts := (off.toNat, b) :: dropRange off.toNat (off.toNat + b.length) x.parts } ∧
        State.fieldsBut pgFWL [FWL.ST_staged_ok, FWL.PROGRESS_bytes] s u) ∧
    (b = [] ∨ 1024 < b.length ∨ x.length < off.toNat + b.length →
      exec (.fwData ⟨.session i, tag⟩ off b) s = .next (reply ⟨.session i, tag⟩ 0x89 2 .invalidValue [] s))) ∧
  (∀ (i : Fin 8) (tag : BitVec 16) (x : Staging) (s : State), State.fwLets i.val s →
    holdsLock ⟨.session i, tag⟩ s = true → s.fwl.staging = some x →
    (∃ u, exec (.verify ⟨.session i, tag⟩) s = .next (reply ⟨.session i, tag⟩ 0x89 3 .success
        (beBytes 1 (verifyStaging x s).1 ++ beBytes 1 0 ++ beBytes 2 (verifyStaging x s).2.1) u) ∧
      getF pgFWL FWL.BOOT_verify u = (verifyStaging x s).1 % 2 ^ 8 ∧
      isF pgFWL FWL.ST_staged_ok u = decide ((verifyStaging x s).1 = 0) ∧
      ((verifyStaging x s).1 ≠ 0 → getF pgFWL (HDR.EVENT 3) u = 1 ∧
        getF pgFWL FWL.VERIFY_FAILS u = (getF pgFWL FWL.VERIFY_FAILS s + 1) % 2 ^ 32) ∧ State.regsBut [pgFWL] s u) ∧
    (∀ flags : Word, s.fwl.installing = none → (x.kind ≠ 5 ∨ flags.toNat % 2 = 1) →
      ∃ t, exec (.install ⟨.session i, tag⟩ flags) s = .next t ∧
        ((verifyStaging x s).1 = 0 → isF pgFWL FWL.ST_installing t = true ∧ ∃ w, t.fwl.installing = some w ∧
          w.req = some ⟨.session i, tag⟩ ∧ w.kind = x.kind) ∧
        ((verifyStaging x s).1 ≠ 0 → t.fwl.installing = none ∧ getF pgFWL (HDR.EVENT 3) t = 1) ∧
        State.regsBut [pgFWL] s t)) ∧
  (∀ (w : Installing) (s : State), s.fwl.installing = some w → w.kind ≠ 4 →
    (∃ t, exec (.installComplete true) s = .next t ∧ t.fwl.installing = none ∧ getF pgFWL (HDR.EVENT 4) t = 1 ∧
      getF pgFWL FWL.UPDATES t = (getF pgFWL FWL.UPDATES s + 1) % 2 ^ 32 ∧
      (w.kind = 1 → t.fwl.image = some ⟨w.header, w.plain, true⟩)) ∧
    (∃ t, exec (.installComplete false) s = .next t ∧ t.fwl.installing = none ∧ getF pgFWL (HDR.EVENT 3) t = 1 ∧
      getF pgFWL FWL.BOOT_verify t = 9 ∧
      getF pgFWL FWL.VERIFY_FAILS t = (getF pgFWL FWL.VERIFY_FAILS s + 1) % 2 ^ 32)) ∧
  (∀ (i : Fin 8) (tag : BitVec 16) (flags : Word) (f : BootFinds) (x : Staging) (s : State), State.fwLets i.val s →
    holdsLock ⟨.session i, tag⟩ s = true → s.fwl.staging = some x →
    (x.installed = false →
      exec (.activate ⟨.session i, tag⟩ flags f) s = .next (reply ⟨.session i, tag⟩ 0x89 5 .invalidValue [] s)) ∧
    (x.installed = true → essenceRuns s = true → flags.toNat % 2 = 0 →
      exec (.activate ⟨.session i, tag⟩ flags f) s = .next (reply ⟨.session i, tag⟩ 0x89 5 .refusedInService [] s)) ∧
    (x.installed = true → flags.toNat % 2 = 1 → s.pwr.mainRun = false → s.fwl.saving = none →
      ∃ t, exec (.activate ⟨.session i, tag⟩ flags f) s = .next t ∧ getF pgDEV DEV.RESET_CAUSE_kind t = 3 ∧
        getF pgDEV DEV.RESET_CAUSE_cause t = 0x0C ∧ getF pgDEV (HDR.EVENT 2) t = 1 ∧
        getF pgDEV DEV.RESET_COUNT_count t = (getF pgDEV DEV.RESET_COUNT_count s + 1) % 2 ^ DEV.RESET_COUNT_count.width)) ∧
  (∀ (i : Fin 8) (tag : BitVec 16) (s : State), State.fwLets i.val s → holdsLock ⟨.session i, tag⟩ s = true →
    (s.fwl.installing = none →
      ∃ u, exec (.fwClose ⟨.session i, tag⟩) s = .next (reply ⟨.session i, tag⟩ 0x89 6 .success [] u) ∧
        lockHeld u = false ∧ u.fwl.staging = none ∧ State.regsBut [pgFWL] s u) ∧
    (s.fwl.installing ≠ none →
      ∃ u, exec (.fwClose ⟨.session i, tag⟩) s = .next (reply ⟨.session i, tag⟩ 0x89 6 .success [] u) ∧
        u.fwl.closing = true ∧ u.regs = s.regs)) ∧
  (∀ (i : Fin 8) (tag : BitVec 16) (off flags : Word) (b : List Byte) (f : BootFinds) (s : State), State.fwLets i.val s →
    holdsLock ⟨.session i, tag⟩ s = false →
    exec (.fwData ⟨.session i, tag⟩ off b) s = .next (reply ⟨.session i, tag⟩ 0x89 2 .busy [] s) ∧
    exec (.verify ⟨.session i, tag⟩) s = .next (reply ⟨.session i, tag⟩ 0x89 3 .busy [] s) ∧
    exec (.install ⟨.session i, tag⟩ flags) s = .next (reply ⟨.session i, tag⟩ 0x89 4 .busy [] s) ∧
    exec (.activate ⟨.session i, tag⟩ flags f) s = .next (reply ⟨.session i, tag⟩ 0x89 5 .busy [] s) ∧
    exec (.fwClose ⟨.session i, tag⟩) s = .next (reply ⟨.session i, tag⟩ 0x89 6 .busy [] s))

/-- ATTEST waits, outstanding; QUOTE_COMPLETE: the oldest quote is signed and sent, counted in ATTESTS. CERT and
CAT_READ answer the part asked for, or invalid-value. RAISE_FLOOR of an installed image raises its type's floor to the
image's svn with EVENT bit 7, never down, and answers it. KEY_SET of 97 bytes stores the key, with EVENT bit 8, in a
provisioning session as well; a wrong slot or length is invalid-value. EXTEND of 48 bytes extends slot 7 and answers
it. CAT_DISCARD under the main image writes a slot of reset values and ends a quarantine with EVENT bit 2; else it is
unit-unavailable. FOLIO_EXPORT of part 0 forms the export anew and counts it; a later part answers that export. It
rests on choices of the model: log 30 and 75. Cites R46, R423, R424, R425, R429, R430, R436, R439, R441. -/
def Obligations.ProvenanceKeysAndParts : Prop :=
  (∀ (i : Fin 8) (tag : BitVec 16) (nonce : List Byte) (x : Session) (s : State), State.fwLets i.val s →
    sessionAt i.val s = some x →
    ∃ t, exec (.attest ⟨.session i, tag⟩ nonce) s = .next t ∧ t.fwl.quotes = s.fwl.quotes ++ [(⟨.session i, tag⟩, 0, nonce)] ∧
      sessionAt i.val t = some { x with outstanding := x.outstanding + 1 } ∧ t.regs = s.regs) ∧
  (∀ (r : Req) (addr : Nat) (nonce : List Byte) (l : List (Req × Nat × List Byte)) (s : State), s.fwl.quotes = (r, addr, nonce) :: l →
    ∃ u, exec .quoteComplete s = .next (lateReply r 0x88 addr .success
        (quoteBody nonce s ++ Config.identitySign (Config.sha384 (quoteBody nonce s))) u) ∧ u.fwl.quotes = l ∧
      getF pgFWL FWL.ATTESTS u = (getF pgFWL FWL.ATTESTS s + 1) % 2 ^ 32 ∧ State.fieldsBut pgFWL [FWL.ATTESTS] s u) ∧
  (∀ (i : Fin 8) (tag part : BitVec 16) (s : State), State.fwLets i.val s →
    exec (.cert ⟨.session i, tag⟩ part) s = .next (match partOf part.toNat Config.certificate with
      | some b => reply ⟨.session i, tag⟩ 0x89 7 .success b s
      | none => reply ⟨.session i, tag⟩ 0x89 7 .invalidValue [] s) ∧
    (∀ k x, newestSlot [] s = some (k, x) →
      exec (.catRead ⟨.session i, tag⟩ part) s = .next (match partOf part.toNat (catBytes x) with
        | some b => reply ⟨.session i, tag⟩ 0x89 0x0B .success b s
        | none => reply ⟨.session i, tag⟩ 0x89 0x0B .invalidValue [] s)) ∧
    (newestSlot [] s = none →
      exec (.catRead ⟨.session i, tag⟩ part) s = .next (reply ⟨.session i, tag⟩ 0x89 0x0B .invalidValue [] s))) ∧
  (∀ (i : Fin 8) (tag : BitVec 16) (kind : Byte) (s : State), State.fwLets i.val s →
    (∀ x, 1 ≤ kind.toNat → kind.toNat ≤ 3 → installedImage kind.toNat s = some x →
      (getF pgFWL (floorField kind.toNat) s < hdrSvn x.header →
        ∃ u, exec (.raiseFloor ⟨.session i, tag⟩ kind) s = .next (reply ⟨.session i, tag⟩ 0x89 8 .success
            (beBytes 4 (hdrSvn x.header)) u) ∧
          getF pgFWL (floorField kind.toNat) u = hdrSvn x.header % 2 ^ 32 ∧ getF pgFWL (HDR.EVENT 7) u = 1 ∧
          State.regsBut [pgFWL] s u) ∧
      (hdrSvn x.header ≤ getF pgFWL (floorField kind.toNat) s →
        exec (.raiseFloor ⟨.session i, tag⟩ kind) s = .next (reply ⟨.session i, tag⟩ 0x89 8 .success
          (beBytes 4 (getF pgFWL (floorField kind.toNat) s)) s))) ∧
    (kind.toNat = 0 ∨ 3 < kind.toNat →
      exec (.raiseFloor ⟨.session i, tag⟩ kind) s = .next (reply ⟨.session i, tag⟩ 0x89 8 .invalidValue [] s))) ∧
  (∀ (i : Fin 8) (tag : BitVec 16) (slot : Byte) (key : List Byte) (x : Session) (s : State), s.fwl.stage ≠ 0 →
    sessionAt i.val s = some x → (x.provisioning = true ∨ x.outstanding + x.unsent < 64) →
    (slot.toNat < 8 → key.length = 97 →
      ∃ u, exec (.keySet ⟨.session i, tag⟩ slot key) s = .next (reply ⟨.session i, tag⟩ 0x89 9 .success [] u) ∧
        SMap.find slot.toNat u.fwl.keys = some key ∧ getF pgFWL (HDR.EVENT 8) u = 1 ∧ State.regsBut [pgFWL] s u) ∧
    (8 ≤ slot.toNat ∨ (key.length ≠ 97 ∧ key.length ≠ 0) →
      exec (.keySet ⟨.session i, tag⟩ slot key) s = .next (reply ⟨.session i, tag⟩ 0x89 9 .invalidValue [] s))) ∧
  (∀ (i : Fin 8) (tag : BitVec 16) (v : List Byte) (s : State), State.fwLets i.val s →
    (v.length = 48 →
      ∃ u, exec (.extend ⟨.session i, tag⟩ v) s = .next (reply ⟨.session i, tag⟩ 0x89 0x0A .success (provSlot 7 u) u) ∧
        provSlot 7 u = Config.sha384 (provSlot 7 s ++ v) ∧ (∀ n, n ≠ 7 → provSlot n u = provSlot n s) ∧ u.regs = s.regs) ∧
    (v.length ≠ 48 →
      exec (.extend ⟨.session i, tag⟩ v) s = .next (reply ⟨.session i, tag⟩ 0x89 0x0A .invalidValue [] s))) ∧
  (∀ (i : Fin 8) (tag : BitVec 16) (s : State), State.fwLets i.val s →
    (s.fwl.stage = 6 →
      ∃ u, exec (.catDiscard ⟨.session i, tag⟩) s = .next (reply ⟨.session i, tag⟩ 0x89 0x0C .success [] u) ∧
        (bootState s = 1 → bootState u = 0 ∧ getF pgFWL (HDR.EVENT 2) u = 1) ∧
        (∃ k, SMap.find k u.fwl.catalogue = some (nextSlot [] s)) ∧ State.regsBut [pgFWL] s u) ∧
    (s.fwl.stage ≠ 6 →
      exec (.catDiscard ⟨.session i, tag⟩) s = .next (reply ⟨.session i, tag⟩ 0x89 0x0C .unavailable [] s))) ∧
  (∀ (i : Fin 8) (tag : BitVec 16) (s : State), State.fwLets i.val s →
    ∃ u, exec (.folioExport ⟨.session i, tag⟩ 0) s = .next (match partOf 0 u.fwl.exported with
        | some b => reply ⟨.session i, tag⟩ 0x89 0x0D .success b u
        | none => reply ⟨.session i, tag⟩ 0x89 0x0D .invalidValue [] u) ∧
      getF pgFWL FWL.FOLIO_exports u = (getF pgFWL FWL.FOLIO_exports s + 1) % 2 ^ 16 ∧
      State.fieldsBut pgFWL [FWL.FOLIO_exports] s u) ∧
  (∀ (i : Fin 8) (tag part : BitVec 16) (s : State), State.fwLets i.val s → part ≠ 0 →
    exec (.folioExport ⟨.session i, tag⟩ part) s = .next (match partOf part.toNat s.fwl.exported with
      | some b => reply ⟨.session i, tag⟩ 0x89 0x0D .success b s
      | none => reply ⟨.session i, tag⟩ 0x89 0x0D .invalidValue [] s))

/-- BOOT_ROM runs once out of reset: with no loader that passes it faults DEV; every run counts in BOOTS and takes
BOOTSEL. BOOT_RESUME: a loader that waits goes on once the main domain runs: BOOTSEL 1 or 3 enters recovery with cause
1; an absent main image counts in VERIFY_FAILS and enters recovery with cause 2; EVENT bit 0 each time.
CATALOGUE_SAVE: a save under the main image stores the next slot; it is access-denied in quarantine, unit-unavailable
else, busy within 10 s. CATALOGUE_SAVED: the save done counts in CAT_SAVES with EVENT bit 9. TWIN_SOURCE_REQUEST: a
device in recovery whose lock stayed free asks its partner after twin_wait_s. TWIN_SOURCE_SERVE: a partner that
serves, asked with a good certificate, sends its package in parts of 1,024 bytes. TWIN_PACKAGE: a part that arrives
joins the staging and shows in PROGRESS. It rests on choices of the model: log 30, 33, 75 and 76. Cites R420, R421,
R422, R428, R434, R437, R439. -/
def Obligations.BootCatalogueAndTwinSource : Prop :=
  (∀ (f : BootFinds) (s : State), s.pwr.inReset = false → s.fwl.stage = 0 → act pgDEV s ≠ stFAULT →
    s.fwl.loaderA = none → s.fwl.loaderB = none →
    ∃ t, exec (.bootRom f) s = .next t ∧ act pgDEV t = stFAULT ∧
      getF pgFWL FWL.BOOTS t = (getF pgFWL FWL.BOOTS s + 1) % 2 ^ 32 ∧
      getF pgFWL FWL.BOOT_bootsel t = getF pgDEV DEV.STRAPS_bootsel s % 4 ∧ State.regsBut [pgDEV, pgFWL] s t) ∧
  (∀ (f : BootFinds) (s : State), s.pwr.inReset = false → s.fwl.stage = 0 → act pgDEV s ≠ stFAULT → s.pwr.mainRun = false →
    ∃ t, exec (.bootRom f) s = .next t ∧
      getF pgFWL FWL.BOOTS t = (getF pgFWL FWL.BOOTS s + 1) % 2 ^ 32 ∧
      (t.fwl.stage = 3 → act pgFWL t = stRUNNING) ∧ (t.fwl.stage ≠ 3 → act pgDEV t = stFAULT)) ∧
  (∀ (f : BootFinds) (s : State), s.fwl.stage = 3 → s.pwr.mainRun = true → inRecovery s = false →
    (getF pgFWL FWL.BOOT_bootsel s = 1 ∨ getF pgFWL FWL.BOOT_bootsel s = 3 →
      ∃ t, exec (.bootResume f) s = .next t ∧ inRecovery t = true ∧ getF pgFWL FWL.BOOT_cause t = 1 ∧
        getF pgFWL (HDR.EVENT 0) t = 1 ∧ getF pgFWL FWL.RECOVERIES t = (getF pgFWL FWL.RECOVERIES s + 1) % 2 ^ 32) ∧
    (getF pgFWL FWL.BOOT_bootsel s ≠ 1 → getF pgFWL FWL.BOOT_bootsel s ≠ 3 → s.fwl.image = none →
      ∃ t, exec (.bootResume f) s = .next t ∧ inRecovery t = true ∧ getF pgFWL FWL.BOOT_cause t = 2 ∧
        getF pgFWL (HDR.EVENT 0) t = 1 ∧ getF pgFWL (HDR.EVENT 3) t = 1 ∧
        getF pgFWL FWL.VERIFY_FAILS t = (getF pgFWL FWL.VERIFY_FAILS s + 1) % 2 ^ 32)) ∧
  (∀ (r : Req) (s : State), State.lets r 3 pgFWL 0x130 s →
    (bootState s = 1 →
      exec (.catalogueSave r) s = .next (reply r 0x83 (regAddr pgFWL 0x130) .accessDenied [] s)) ∧
    (bootState s ≠ 1 → s.fwl.stage ≠ 6 →
      exec (.catalogueSave r) s = .next (reply r 0x83 (regAddr pgFWL 0x130) .unavailable [] s)) ∧
    (bootState s ≠ 1 → s.fwl.stage = 6 → s.fwl.saving = none →
      (∀ a, s.fwl.lastSave = some a → s.clk < a + 10 * tickS →
        exec (.catalogueSave r) s = .next (reply r 0x83 (regAddr pgFWL 0x130) .busy [] s)) ∧
      ((∀ a, s.fwl.lastSave = some a → a + 10 * tickS ≤ s.clk) →
        ∃ u, exec (.catalogueSave r) s = .next (reply r 0x83 (regAddr pgFWL 0x130) .success [] u) ∧
          u.fwl.saving = some (nextSlot s.committed s) ∧ u.fwl.lastSave = some s.clk ∧ u = { s with fwl := u.fwl }))) ∧
  (∀ (x : CatSlot) (s : State), s.fwl.saving = some x →
    ∃ t, exec .catalogueSaved s = .next t ∧ t.fwl.saving = none ∧ (∃ k, SMap.find k t.fwl.catalogue = some x) ∧
      getF pgFWL FWL.CAT_SAVES t = (getF pgFWL FWL.CAT_SAVES s + 1) % 2 ^ 32 ∧
      getF pgFWL FWL.CAT_GEN_generation t = x.gen % 2 ^ 32 ∧ getF pgFWL (HDR.EVENT 9) t = 1 ∧ State.regsBut [pgFWL] s t) ∧
  (∀ s : State, inRecovery s = true → lockHeld s = false →
    ∃ t, exec .twinSourceRequest s = .next t ∧ t.fwl.asked = true ∧
      s.fwl.freeSince + getF pgFWL FWL.RECOVERY_twin_wait_s s * tickS ≤ t.clk) ∧
  (∀ (j : Fin 4) (c : List Byte) (s : State),
    (isF pgFWL FWL.RECOVERY_serve_twin s = false → exec (.twinSourceServe j c) s = .next (takeMsg j.val 3 s)) ∧
    (∀ x, isF pgFWL FWL.RECOVERY_serve_twin s = true → inRecovery s = false → s.fwl.image = some x →
      act (pgIZL j.val) s = stRUNNING →
      ∃ t, exec (.twinSourceServe j c) s = .next t ∧ (Config.certOk c = true →
        SMap.get [] 3 (izlOf j.val t).waiting = SMap.get [] 3 (izlOf j.val s).waiting ++
          (List.range (((rewrapped x c).length + 1023) / 1024)).flatMap (fun k => framesOf 3
            (beBytes 4 (rewrapped x c).length ++ beBytes 4 (1024 * k) ++ sub (1024 * k) 1024 (rewrapped x c)))) ∧
        State.regsBut [pgIZL j.val] s t)) ∧
  (∀ (j : Fin 4) (n off : Word) (b : List Byte) (f : BootFinds) (x : Staging) (s : State), inRecovery s = true →
    getF pgFWL FWL.RECOVERY_link s = j.val → s.fwl.asked = true → lockHeld s = true → getF pgFWL FWL.LOCK_holder s = 2 →
    s.fwl.staging = some x → b ≠ [] → off.toNat + b.length ≤ x.length → (stageBytes off.toNat b x).1 = true →
    ((stageBytes off.toNat b x).2.parts.map (fun e => e.2.length)).sum < x.length →
    ∃ t, exec (.twinPackage j n off b f) s = .next t ∧ t.fwl.staging = some (stageBytes off.toNat b x).2 ∧
      getF pgFWL FWL.PROGRESS_bytes t = ((stageBytes off.toNat b x).2.parts.map (fun e => e.2.length)).sum % 2 ^ 32 ∧
      State.regsBut [pgIZL j.val, pgFWL] s t)

/-- A STOCKTAKE in which every equation holds clears the failing list and changes no register. One in which a single
instance fails for the first time takes a snapshot, raises EVENT bit 4 from severity 1 and holds FAULT_N from severity
2; one that goes on failing counts in VIOL. SNAP_CLR empties the snapshots. A GOVERNOR_READING shows in TJ; the level
falls to what Tj allows and never rises; from 110 °C throttling begins with EVENT bit 0, and below 107 °C it ends;
with every sensor failed the level is 0; with the main domain off Tj is followed and no register changes.
GOVERNOR_RESTORE, when a dwell is over, raises the level by one. THERMAL_SHUTDOWN latches with EVENT bit 1 and
switches the main domain off; REARM clears it below 95 °C and is invalid-value else. TJ_READ clears the maximum. It
rests on choices of the model: log 4, 78 and 79. Cites R33, R450, R451, R452, R453, R460, R461. -/
def Obligations.StocktakeGovernorAndShutdown : Prop :=
  (∀ (s : State) (w : State), w = advanceTo ((s.clk / tickUs + 1) * tickUs) s → stocktakeRuns s = true →
    (stockFailures w = [] →
      ∃ t, exec .stocktake s = .next t ∧ t.hlt.failing = [] ∧ t.clk = (s.clk / tickUs + 1) * tickUs ∧ t.regs = s.regs) ∧
    (∀ f k, stockFailures w = [(f, k)] →
      ((f, k) ∉ s.hlt.failing → s.hlt.snaps.length < 8 →
        ∃ t, exec .stocktake s = .next t ∧ t.hlt.snaps.length = s.hlt.snaps.length + 1 ∧
          (1 ≤ getF pgHLT (HLT.STK_SEV f) s → getF pgHLT (HDR.EVENT 4) t = 1) ∧
          (2 ≤ getF pgHLT (HLT.STK_SEV f) s → t.hlt.faultHeld = true)) ∧
      ((f, k) ∈ s.hlt.failing →
        ∃ t, exec .stocktake s = .next t ∧
          getF pgHLT HLT.VIOL_us t = min (2 ^ 32 - 1) (getF pgHLT HLT.VIOL_us s + 1) ∧
          t.hlt.snaps = s.hlt.snaps ∧ State.fieldsBut pgHLT [HLT.VIOL_us] s t))) ∧
  (∀ (r : Req) (s : State), State.lets r 3 pgHLT 0x190 s →
    ∃ u, exec (.snapClr r) s = .next (reply r 0x83 (regAddr pgHLT 0x190) .success [] u) ∧ u.hlt.snaps = [] ∧
      u.hlt.faultHeld = false ∧ getF pgHLT HLT.SNAP_CNT_held u = 0 ∧ State.fieldsBut pgHLT [HLT.SNAP_CNT_held] s u) ∧
  (∀ (c : Byte) (s : State), s.pwr.mainRun = true → pendingGen pgHLT s = false → isF pgHLT HLT.ST_throttle s = false →
    (c.toNat < 110 →
      ∃ t, exec (.governorReading (some c)) s = .next t ∧ getF pgHLT HLT.TJ_tj_c t = c.toNat ∧
        getF pgHLT HLT.TJ_max_c t = max c.toNat (getF pgHLT HLT.TJ_max_c s) % 2 ^ 8 ∧
        getF pgHLT HLT.GOV_STAT_level t = min (govLevel s) (levelFor c.toNat s) ∧ State.regsBut [pgHLT] s t) ∧
    (110 ≤ c.toNat →
      ∃ t, exec (.governorReading (some c)) s = .next t ∧ getF pgHLT HLT.GOV_STAT_level t = 0 ∧
        isF pgHLT HLT.ST_throttle t = true ∧ getF pgHLT (HDR.EVENT 0) t = 1)) ∧
  (∀ (c : Byte) (s : State), s.pwr.mainRun = true → pendingGen pgHLT s = false → isF pgHLT HLT.ST_throttle s = true →
    c.toNat < 107 → ∃ t, exec (.governorReading (some c)) s = .next t ∧ isF pgHLT HLT.ST_throttle t = false) ∧
  (∀ (c : Byte) (s : State), s.pwr.mainRun = false →
    ∃ t, exec (.governorReading (some c)) s = .next t ∧ t.hlt.tjNow = c.toNat ∧ t.regs = s.regs) ∧
  (∀ s : State, s.pwr.mainRun = true → pendingGen pgHLT s = false →
    ∃ t, exec (.governorReading none) s = .next t ∧ getF pgHLT HLT.GOV_STAT_level t = 0 ∧
      isF pgHLT HLT.ST_sensor_fail t = true ∧
      (isF pgHLT HLT.ST_sensor_fail s = false → getF pgHLT (HDR.EVENT 6) t = 1) ∧ State.regsBut [pgHLT] s t) ∧
  (∀ (a : Nat) (s : State), s.hlt.belowSince = some a → govLevel s < 3 → isF pgHLT HLT.ST_throttle s = false →
    isF pgHLT HLT.ST_sensor_fail s = false →
    ∃ t, exec .governorRestore s = .next t ∧ govLevel t = govLevel s + 1 ∧
      a + getF pgHLT HLT.GOV_dwell_s s * tickS ≤ t.clk ∧ State.fieldsBut pgHLT [HLT.GOV_STAT_level] s t) ∧
  (∀ s : State, s.pwr.mainRun = true →
    ∃ t, exec .thermalShutdown s = .next t ∧ t.pwr.mainRun = false ∧ isF pgHLT HLT.ST_shutdown t = true ∧
      getF pgHLT (HDR.EVENT 1) t = 1 ∧ t.clk = s.clk + 250 * tickUs) ∧
  (∀ (r : Req) (s : State), State.lets r 3 pgHLT 0x120 s →
    (isF pgHLT HLT.ST_shutdown s = true → s.hlt.tjNow < 95 →
      ∃ u, exec (.rearm r) s = .next (reply r 0x83 (regAddr pgHLT 0x120) .success [] u) ∧
        isF pgHLT HLT.ST_shutdown u = false ∧ (s.pwr.mainRun = true → State.fieldsBut pgHLT [HLT.ST_shutdown] s u)) ∧
    (isF pgHLT HLT.ST_shutdown s = false ∨ 95 ≤ s.hlt.tjNow →
      exec (.rearm r) s = .next (reply r 0x83 (regAddr pgHLT 0x120) .invalidValue [] s))) ∧
  (∀ (r : Req) (s : State), State.lets r 1 pgHLT 0x124 s →
    ∃ u, exec (.tjRead r) s = .next (reply r 0x81 (regAddr pgHLT 0x124) .success
        (beBytes 4 (getF pgHLT HLT.TJ_max_c s * 256 + getF pgHLT HLT.TJ_tj_c s)) u) ∧
      getF pgHLT HLT.TJ_max_c u = 0 ∧ u = { s with regs := u.regs } ∧ State.fieldsBut pgHLT [HLT.TJ_max_c] s u)

/-- ANNALS_WRITE: a record follows 10 s after the one before with the next sequence, in its slot. ANN_FLUSH writes one
at most once a second and is busy else. STRESS_INCREMENT: a second of main-domain power adds the stress to counter 38.
DECODE_CORE_TEST of an idle core outside throttling takes it to TEST with its golden vectors. TREQ is busy while a
test is pending, invalid-value for a unit that is not there, refused-in-service with EVENT bit 3 for a unit in service
that force or the kind (full tests) would disturb; otherwise the test is pending. TEST_DONE shows the verdict in TRES
with EVENT bit 3. It rests on choices of the model: log 4, 77, 78, 79 and 93. Cites R222, R449, R454, R455, R456,
R457. -/
def Obligations.AnnalsAndTests : Prop :=
  (∀ s : State, ∃ t, exec .annalsWrite s = .next t ∧ s.hlt.lastWrite + 10 * tickS ≤ t.clk ∧ t.hlt.lastWrite = t.clk ∧
    t.hlt.ann.seq = s.hlt.ann.seq + 1 ∧ SMap.find (t.hlt.ann.seq % 64) t.hlt.slots = some t.hlt.ann ∧ t.regs = s.regs) ∧
  (∀ (r : Req) (s : State), State.lets r 3 pgHLT 0x120 s →
    ((∀ a, s.hlt.lastFlush = some a → a + tickS ≤ s.clk) →
      ∃ u, exec (.annFlush r) s = .next (reply r 0x83 (regAddr pgHLT 0x120) .success [] u) ∧
        u.hlt.ann.seq = s.hlt.ann.seq + 1 ∧ u.hlt.lastFlush = some s.clk ∧
        SMap.find (u.hlt.ann.seq % 64) u.hlt.slots = some u.hlt.ann ∧ u = { s with hlt := u.hlt }) ∧
    (∀ a, s.hlt.lastFlush = some a → s.clk < a + tickS →
      exec (.annFlush r) s = .next (reply r 0x83 (regAddr pgHLT 0x120) .busy [] s))) ∧
  (∀ (mv : BitVec 16) (s : State),
    (s.pwr.mainRun = true →
      ∃ t f, exec (.stressIncrement mv) s = .next t ∧ t.clk = s.clk + tickS ∧
        f = s.hlt.stressFrac + Config.stressFactor s.fwl.folio mv.toNat s.hlt.tjSecond ∧ t.hlt.stressFrac = f % 1024 ∧
        annal 38 t = min (2 ^ 64 - 1) (annal 38 s + f / 1024) ∧ State.fieldsBut pgHLT [HLT.LIFE_used_ppm] s t) ∧
    (s.pwr.mainRun = false → exec (.stressIncrement mv) s = .next s)) ∧
  (∀ (k : Fin 8) (s : State), s.pwr.mainRun = true →
    (act (pgDEC k.val) s = stIDLE → isF pgHLT HLT.ST_throttle s = false →
      ∃ t, exec (.decodeCoreTest k) s = .next t ∧ act (pgDEC k.val) t = stTEST ∧
        getF (pgDEC k.val) HDR.ACT_reason t = 0x0B ∧ isF (pgDEC k.val) DEC.ST_golden t = true ∧
        State.regsBut [pgDEC k.val] s t) ∧
    (act (pgDEC k.val) s ≠ stIDLE ∨ isF pgHLT HLT.ST_throttle s = true →
      ∃ t, exec (.decodeCoreTest k) s = .next t ∧ t.regs = s.regs ∧ SMap.find k.val t.hlt.decTests = some t.clk)) ∧
  (∀ (r : Req) (v : Word) (s : State), State.lets r 3 pgHLT 0x14C s →
    (isF pgHLT HLT.TRES_pending s = true →
      exec (.treq r v) s = .next (reply r 0x83 (regAddr pgHLT 0x14C) .busy [] s)) ∧
    (isF pgHLT HLT.TRES_pending s = false → testUnits (bitsOf 24 3 v.toNat) ≤ bitsOf 0 6 v.toNat →
      exec (.treq r v) s = .next (reply r 0x83 (regAddr pgHLT 0x14C) .invalidValue [] s)) ∧
    (isF pgHLT HLT.TRES_pending s = false → bitsOf 0 6 v.toNat < testUnits (bitsOf 24 3 v.toNat) →
      (testServes (bitsOf 24 3 v.toNat) (bitsOf 0 6 v.toNat) s = true →
        (v.toNat.testBit 31 = true ∨ bitsOf 24 3 v.toNat ∈ [1, 3, 5, 6]) →
        ∃ u, exec (.treq r v) s = .next (reply r 0x83 (regAddr pgHLT 0x14C) .refusedInService [] u) ∧
          getF pgHLT (HDR.EVENT 3) u = 1 ∧ getF pgHLT HLT.TRES_status u = Status.refusedInService.code ∧
          isF pgHLT HLT.TRES_pending u = false ∧ State.regsBut [pgHLT] s u) ∧
      (testServes (bitsOf 24 3 v.toNat) (bitsOf 0 6 v.toNat) s = false →
        ∃ u, exec (.treq r v) s = .next (reply r 0x83 (regAddr pgHLT 0x14C) .success [] u) ∧
          isF pgHLT HLT.TRES_pending u = true ∧ u.hlt.testKind = bitsOf 24 3 v.toNat ∧ u.hlt.testUnit = bitsOf 0 6 v.toNat))) ∧
  (∀ (pass : Bool) (s : State),
    (isF pgHLT HLT.TRES_pending s = true →
      ∃ t, exec (.testDone pass) s = .next t ∧ isF pgHLT HLT.TRES_pending t = false ∧ isF pgHLT HLT.TRES_pass t = pass ∧
        getF pgHLT (HDR.EVENT 3) t = 1) ∧
    (isF pgHLT HLT.TRES_pending s = false → exec (.testDone pass) s = .next s))

/-- VIN_LOW counts in VIN_LOSSES with EVENT bit 3 and switches the main domain off; one too fast counts in UNCTRL with
EVENT bit 6. VIN_GOOD, VIN good for 1 ms with PWR not in FAULT, brings the main domain up where nothing forbids it,
with EVENT bit 4 after a loss. VIN_OVER switches all off, counted in UNCTRL with EVENT bit 5. RAIL_FAULT counts, with
EVENT bit 7, and its good bits are held. AVS_EVALUATION takes both requirements in steps of 5 mV and applies at least
the floor and at most 900 mV of requirement. DCMD to D2 or D3 is refused while essence is in service, with EVENT bit
8; else the move begins, and at DSTATE_CHANGED DSTAT shows it with EVENT bit 0. UNIT_WAKE: a gated engine starts to
wake (UNIT_WAKE_DONE ends that), a resting lane wakes at its block end, a pseudo-channel in self-refresh leaves it.
POWER_MEASURE shows in VIN, VSTBY and POWER; one of VIN that fails takes PWR to FAULT with reason 0x0A, vin_good 0 and
the main domain off, and the next that succeeds ends that fault. It rests on choices of the model: log 4, 80 and 81.
Cites R467, R468, R469, R470, R471, R472, R473, R476, R479, R481. -/
def Obligations.PowerSequencesAndVoltage : Prop :=
  (∀ (fast : Bool) (s : State), isF pgPWR PWR.ST_vin_good s = true → s.pwr.inReset = false →
    ∃ t, exec (.vinLow fast) s = .next t ∧ t.pwr.mainRun = false ∧ isF pgPWR PWR.ST_vin_good t = false ∧
      getF pgPWR PWR.VIN_LOSSES_count t = (getF pgPWR PWR.VIN_LOSSES_count s + 1) % 2 ^ 32 ∧
      getF pgPWR (HDR.EVENT 3) t = 1 ∧
      (fast = true → s.pwr.mainRun = true → getF pgPWR (HDR.EVENT 6) t = 1 ∧
        getF pgPWR PWR.UNCTRL_count t = (getF pgPWR PWR.UNCTRL_count s + 1) % 2 ^ 32)) ∧
  (∀ s : State, isF pgPWR PWR.ST_vin_good s = false → s.pwr.inReset = false →
    act pgPWR s ≠ stFAULT →
    ∃ t, exec .vinGood s = .next t ∧ isF pgPWR PWR.ST_vin_good t = true ∧ s.clk + tickMs ≤ t.clk ∧
      (s.pwr.vinLost = true → getF pgPWR (HDR.EVENT 4) t = 1) ∧
      (getF pgPWR PWR.DCMD_target s ≠ 3 → isF pgHLT HLT.ST_shutdown s = false → isF pgPWR PWR.ST_rail_fault s = false →
        s.pwr.fatal = false → t.pwr.mainRun = true)) ∧
  (∀ s : State, s.pwr.inReset = false →
    ∃ t, exec .vinOver s = .next t ∧ t.pwr.mainRun = false ∧ isF pgPWR PWR.ST_vin_good t = false ∧
      getF pgPWR (HDR.EVENT 5) t = 1 ∧ getF pgPWR PWR.UNCTRL_count t = (getF pgPWR PWR.UNCTRL_count s + 1) % 2 ^ 32) ∧
  (∀ (good : Byte) (s : State), s.pwr.mainRun = true →
    ∃ t, exec (.railFault good) s = .next t ∧ t.pwr.mainRun = false ∧ isF pgPWR PWR.ST_rail_fault t = true ∧
      getF pgPWR PWR.RAILS_good t = good.toNat ∧ getF pgPWR (HDR.EVENT 7) t = 1 ∧
      getF pgPWR PWR.RAIL_FAULTS_count t = (getF pgPWR PWR.RAIL_FAULTS_count s + 1) % 2 ^ 32) ∧
  (∀ (core fab : BitVec 16) (s : State), s.pwr.mainRun = true →
    ∃ t, exec (.avsEvaluation core fab) s = .next t ∧ t.clk = s.clk + 10 * tickUs ∧
      getF pgPWR PWR.VOLT_CORE_req_mv t = (core.toNat + 4) / 5 * 5 ∧ getF pgPWR PWR.VOLT_FAB_req_mv t = (fab.toNat + 4) / 5 * 5 ∧
      getF pgPWR PWR.VOLT_CORE_applied_mv t =
        max (min ((core.toNat + 4) / 5 * 5) 900) (getF pgPWR PWR.AVS_CORE_floor_mv s) % 2 ^ 16 ∧
      isF pgPWR PWR.ST_avs_limit t = (decide (900 < (core.toNat + 4) / 5 * 5) || decide (900 < (fab.toNat + 4) / 5 * 5)) ∧
      isF pgPWR PWR.ST_overridden_core t = decide (getF pgPWR PWR.AVS_CORE_ceil_mv s < (core.toNat + 4) / 5 * 5) ∧
      State.regsBut [pgPWR] s t) ∧
  (∀ (r : Req) (d : BitVec 2) (s : State), State.lets r 3 pgPWR 0x100 s →
    (2 ≤ d.toNat → essenceRuns s = true →
      ∃ u, exec (.dcmd r d) s = .next (reply r 0x83 (regAddr pgPWR 0x100) .refusedInService [] u) ∧
        getF pgPWR (HDR.EVENT 8) u = 1 ∧ getF pgPWR PWR.DCMD_target u = getF pgPWR PWR.DCMD_target s ∧
        State.regsBut [pgPWR] s u) ∧
    (d.toNat < 3 → (d.toNat < 2 ∨ essenceRuns s = false) → s.pwr.mainRun = true → dstate s ≠ d.toNat →
      ∃ u, exec (.dcmd r d) s = .next (reply r 0x83 (regAddr pgPWR 0x100) .success [] u) ∧
        getF pgPWR PWR.DCMD_target u = d.toNat ∧ isF pgPWR PWR.DSTAT_busy u = true ∧ u.pwr.moveFrom = dstate s ∧
        State.regsBut [pgPWR] s u) ∧
    (d.toNat = 3 → essenceRuns s = false → s.pwr.mainRun = true →
      ∃ u, exec (.dcmd r d) s = .next (reply r 0x83 (regAddr pgPWR 0x100) .success [] u) ∧ u.pwr.mainRun = false ∧
        getF pgPWR PWR.DCMD_target u = 3 ∧ isF pgPWR PWR.DSTAT_busy u = true)) ∧
  (∀ (us : BitVec 16) (s : State), isF pgPWR PWR.DSTAT_busy s = true →
    (s.pwr.mainRun = false ∨ getF pgPWR PWR.DCMD_target s = 2 ∨ s.pwr.moveFrom = 0) →
    ∃ t, exec (.dstateChanged us) s = .next t ∧ isF pgPWR PWR.DSTAT_busy t = false ∧
      dstate t = getF pgPWR PWR.DCMD_target s % 4 ∧ getF pgPWR PWR.DSTAT_prev t = s.pwr.moveFrom % 4 ∧
      getF pgPWR (HDR.EVENT 0) t = 1 ∧
      (getF pgPWR PWR.DCMD_target s < s.pwr.moveFrom → getF pgPWR PWR.DSTAT_last_exit_us t = us.toNat)) ∧
  (∀ (c : Fin 6) (u : Fin 128) (s : State), s.pwr.mainRun = true →
    (c.val < 3 → engines.contains (c.val, u.val) = true → dstate s ≠ 2 → unitState c.val u.val s = 1 →
      s.pwr.waking.contains (unitKey c.val u.val) = false →
      ∃ t, exec (.unitWake c u) s = .next t ∧ t.pwr.waking = s.pwr.waking ++ [unitKey c.val u.val] ∧ t.regs = s.regs) ∧
    (c.val = 4 → u.val < 33 → dstate s ≠ 2 → act (pgLNE u.val) s = stLOW →
      ∃ t, exec (.unitWake c u) s = .next t ∧ (laneOf u.val t).wakeDue = true ∧ t.regs = s.regs) ∧
    (c.val = 3 → u.val < 64 → (pcOf (u.val / 32) (u.val % 32) s).mode = 2 → dstate s ≠ 2 →
      ∃ t, exec (.unitWake c u) s = .next t ∧ (pcOf (u.val / 32) (u.val % 32) t).mode = 0) ∧
    (c.val = 5 → exec (.unitWake c u) s = .next s)) ∧
  (∀ (c : Fin 6) (u : Fin 128) (s : State), engines.contains (c.val, u.val) = true →
    s.pwr.waking.contains (unitKey c.val u.val) = true → pendingGen (enginePage c.val u.val) s = false →
    ∃ t, exec (.unitWakeDone c u) s = .next t ∧ t.pwr.waking.contains (unitKey c.val u.val) = false) ∧
  (∀ (a b c d : BitVec 16) (s : State), act pgPWR s ≠ stFAULT ∨ getF pgPWR HDR.ACT_reason s ≠ 0x0A →
    ∃ t, exec (.powerMeasure (some a) b c d) s = .next t ∧ getF pgPWR PWR.VIN_mv t = a.toNat ∧ getF pgPWR PWR.VIN_ma t = b.toNat ∧
      getF pgPWR PWR.VSTBY_mv t = c.toNat ∧ getF pgPWR PWR.VSTBY_ma t = d.toNat ∧
      getF pgPWR PWR.POWER_mw t = min (2 ^ 20 - 1) ((a.toNat * b.toNat + c.toNat * d.toNat) / 1000) ∧
      State.fieldsBut pgPWR [PWR.VIN_mv, PWR.VIN_ma, PWR.VSTBY_mv, PWR.VSTBY_ma, PWR.POWER_mw] s t) ∧
  (∀ (a b c d : BitVec 16) (s : State), act pgPWR s = stFAULT → getF pgPWR HDR.ACT_reason s = 0x0A →
    ∃ t, exec (.powerMeasure (some a) b c d) s = .next t ∧ getF pgPWR PWR.VIN_mv t = a.toNat ∧ act pgPWR t = stRUNNING ∧
      getF pgPWR HDR.ACT_reason t = 0) ∧
  (∀ (b c d : BitVec 16) (s : State),
    (act pgPWR s ≠ stFAULT →
      ∃ t, exec (.powerMeasure none b c d) s = .next t ∧ act pgPWR t = stFAULT ∧ getF pgPWR HDR.ACT_reason t = 0x0A ∧
        isF pgPWR PWR.ST_vin_good t = false ∧ t.pwr.mainRun = false) ∧
    (act pgPWR s = stFAULT → exec (.powerMeasure none b c d) s = .next s))

/-- VSTBY_POWER_UP outside a brown-out has cause 1, count 0 and EVENT bit 2, samples the straps and forms the device
number. VSTBY_BROWNOUT, RESET_N_LOW for 10 µs, STANDBY_RESET, COLD_RESET and WARM_RESET and MAIN_WATCHDOG and
MGMT_WATCHDOG record their kind and cause, one more in RESET_COUNT, with DEV EVENT bit 2; the first two hold until
released; a pulse below 1 µs, or while VIO is out of its range, does nothing. RESET_RELEASE samples the straps 50 µs
later. UNIT_RESET loses the unit's shadow settings and makes the page IDLE; it is refused while RUNNING and
unsupported on DEV and PWR. VIO_FAULT clears vio_ok with EVENT bit 3 and stops TIMEREF; VIO_RETURN sets it.
UNCORRECTABLE_STATE_ERROR faults a MUX, SND or CIR page with reason 8. It rests on choices of the model: log 82, 83
and 85. Cites R32, R53, R65, R466, R482, R484, R485, R488, R491. -/
def Obligations.ResetsAndStateErrors : Prop :=
  (∀ (bpos : Fin 8) (bootsel : Fin 4) (uc : Bool) (s : State), (s.pwr.inReset = false ∨ getF pgDEV DEV.RESET_CAUSE_cause s ≠ 2) →
    ∃ t, exec (.vstbyPowerUp bpos bootsel uc) s = .next t ∧ t.pwr.inReset = false ∧ t.pwr.mainRun = false ∧
      getF pgDEV DEV.RESET_CAUSE_kind t = 0 ∧ getF pgDEV DEV.RESET_CAUSE_cause t = 1 ∧
      getF pgDEV DEV.RESET_COUNT_count t = 0 ∧ getF pgDEV (HDR.EVENT 2) t = 1 ∧
      getF pgDEV DEV.STRAPS_bpos t = bpos.val ∧ getF pgDEV DEV.STRAPS_bootsel t = bootsel.val ∧
      deviceNumber t = (getF pgFWL FWL.CAT_BASE_base t + bpos.val) % 1024 ∧
      getF pgPWR PWR.UNCTRL_count t = uc.toNat) ∧
  (∀ s : State,
    ∃ t, exec .vstbyBrownout s = .next t ∧ t.pwr.inReset = true ∧ t.pwr.mainRun = false ∧
      getF pgDEV DEV.RESET_CAUSE_kind t = 0 ∧ getF pgDEV DEV.RESET_CAUSE_cause t = 2 ∧
      getF pgDEV DEV.RESET_COUNT_count t = (getF pgDEV DEV.RESET_COUNT_count s + 1) % 2 ^ 32 ∧ getF pgDEV (HDR.EVENT 2) t = 1 ∧
      t.hap.sessions = []) ∧
  (∀ (ns : Nat) (taken : Bool) (s : State),
    (isF pgDEV DEV.ST_vio_ok s = true → (10000 ≤ ns ∨ (1000 ≤ ns ∧ taken = true)) →
      ∃ t, exec (.resetNLow ns taken) s = .next t ∧ t.pwr.inReset = true ∧ t.pwr.mainRun = false ∧
        getF pgDEV DEV.RESET_CAUSE_kind t = 0 ∧ getF pgDEV DEV.RESET_CAUSE_cause t = 3 ∧
        getF pgDEV DEV.RESET_COUNT_count t = (getF pgDEV DEV.RESET_COUNT_count s + 1) % 2 ^ 32 ∧
        getF pgDEV (HDR.EVENT 2) t = 1) ∧
    (ns < 1000 ∨ (ns < 10000 ∧ taken = false) ∨ isF pgDEV DEV.ST_vio_ok s = false → exec (.resetNLow ns taken) s = .next s)) ∧
  (∀ (bpos : Fin 8) (bootsel : Fin 4) (s : State),
    (s.pwr.inReset = true → getF pgDEV DEV.RESET_CAUSE_cause s ≠ 2 →
      ∃ t, exec (.resetRelease bpos bootsel) s = .next t ∧ t.pwr.inReset = false ∧ t.clk = s.clk + 50 * tickUs ∧
        getF pgDEV DEV.STRAPS_bpos t = bpos.val ∧ getF pgDEV DEV.STRAPS_bootsel t = bootsel.val ∧
        deviceNumber t = (getF pgFWL FWL.CAT_BASE_base s + bpos.val) % 1024 ∧
        State.fieldsBut pgDEV [DEV.STRAPS_bpos, DEV.STRAPS_bootsel, DEV.ST_device_number] s t) ∧
    (s.pwr.inReset = false → exec (.resetRelease bpos bootsel) s = .next s)) ∧
  (∀ (r : Req) (s : State), State.lets r 3 pgDEV 0x008 s →
    (∃ t, exec (.standbyReset r) s = .next t ∧ getF pgDEV DEV.RESET_CAUSE_kind t = 0 ∧ getF pgDEV DEV.RESET_CAUSE_cause t = 4 ∧
      getF pgDEV DEV.RESET_COUNT_count t = (getF pgDEV DEV.RESET_COUNT_count s + 1) % 2 ^ 32 ∧ t.pwr.mainRun = false ∧
      t.hap.sessions = []) ∧
    (∃ t, exec (.coldReset r) s = .next t ∧ getF pgDEV DEV.RESET_CAUSE_kind t = 1 ∧ getF pgDEV DEV.RESET_CAUSE_cause t = 6 ∧
      getF pgDEV DEV.RESET_COUNT_count t = (getF pgDEV DEV.RESET_COUNT_count s + 1) % 2 ^ 32 ∧ t.pwr.mainRun = false) ∧
    (∀ f, s.pwr.mainRun = false ∨ s.fwl.image = none →
      ∃ t, exec (.warmReset r f) s = .next t ∧ getF pgDEV DEV.RESET_CAUSE_kind t = 2 ∧ getF pgDEV DEV.RESET_CAUSE_cause t = 7 ∧
        getF pgDEV DEV.RESET_COUNT_count t = (getF pgDEV DEV.RESET_COUNT_count s + 1) % 2 ^ 32 ∧
        t.pwr.mainRun = s.pwr.mainRun ∧ t.hap.wats = [])) ∧
  (∀ (f : BootFinds) (s : State),
    (getF pgDEV DEV.WDOG_timeout_ms s ≠ 0 → s.pwr.mainRun = true → s.fwl.stage = 6 → s.fwl.image = none →
      ∃ t, exec (.mainWatchdog f) s = .next t ∧ getF pgDEV DEV.RESET_CAUSE_kind t = 2 ∧ getF pgDEV DEV.RESET_CAUSE_cause t = 8 ∧
        getF pgDEV DEV.RESET_COUNT_count t = (getF pgDEV DEV.RESET_COUNT_count s + 1) % 2 ^ 32 ∧ t.hap.wats = []) ∧
    (getF pgDEV DEV.WDOG_timeout_ms s = 0 ∨ s.fwl.stage ≠ 6 → exec (.mainWatchdog f) s = .next s)) ∧
  (∀ s : State, s.pwr.inReset = false →
    ∃ t, exec .mgmtWatchdog s = .next t ∧ getF pgDEV DEV.RESET_CAUSE_kind t = 0 ∧ getF pgDEV DEV.RESET_CAUSE_cause t = 5 ∧
      getF pgDEV DEV.RESET_COUNT_count t = (getF pgDEV DEV.RESET_COUNT_count s + 1) % 2 ^ 32 ∧ t.pwr.mainRun = false) ∧
  (∀ (r : Req) (p : BitVec 20) (s : State), State.lets r 3 p.toNat 0x008 s →
    (p.toNat = pgDEV ∨ p.toNat = pgPWR →
      exec (.unitReset r p) s = .next (reply r 0x83 (regAddr p.toNat 0x008) .unsupported [] s)) ∧
    (p.toNat ≠ pgDEV → p.toNat ≠ pgPWR → act p.toNat s = stRUNNING →
      exec (.unitReset r p) s = .next (reply r 0x83 (regAddr p.toNat 0x008) .refusedInService [] s)) ∧
    (p.toNat ≠ pgDEV → p.toNat ≠ pgPWR → act p.toNat s ≠ stRUNNING →
      ∃ u, exec (.unitReset r p) s = .next (reply r 0x83 (regAddr p.toNat 0x008) .success [] u) ∧
        (∀ k, k / 2 ^ 20 = p.toNat → unitKeeps p.toNat k = false →
          SMap.find k u.shadow = none ∧ SMap.find k u.committed = none) ∧
        (∀ b, blockOf p.toNat = some b →
          b ∈ [Block.ing, .mux, .out, .dch, .snd, .eth, .izl, .lne, .stk, .cir, .hbm, .chk, .hlt] →
          act p.toNat u = stIDLE))) ∧
  (∀ s : State,
    (isF pgDEV DEV.ST_vio_ok s = true →
      ∃ t, exec .vioFault s = .next t ∧ isF pgDEV DEV.ST_vio_ok t = false ∧ getF pgDEV (HDR.EVENT 3) t = 1 ∧ timSt t = 4 ∧
        State.regsBut [pgDEV, pgTIM, pgETH 2, pgLNE 32, pgHLT] s t) ∧
    (∃ t, exec .vioReturn s = .next t ∧ isF pgDEV DEV.ST_vio_ok t = true ∧ t = { s with regs := t.regs } ∧
      State.fieldsBut pgDEV [DEV.ST_vio_ok] s t)) ∧
  (∀ (p : BitVec 20) (s : State),
    (s.pwr.mainRun = true → ((∃ k, k < 8 ∧ p.toNat = pgMUX k) ∨ (∃ k, k < 16 ∧ p.toNat = pgSND k) ∨ p.toNat = pgCIR) →
      ∃ t, exec (.uncorrectableStateError p) s = .next t ∧ act p.toNat t = stFAULT ∧ getF p.toNat HDR.ACT_reason t = 8 ∧
        State.regsBut [p.toNat] s t) ∧
    (s.pwr.mainRun = false → standbyPage p.toNat = false → exec (.uncorrectableStateError p) s = .next s))

/-- Whatever the command and the state, exec answers a next state (no command of the table is refused or faults), and
the commands that wait behind it are the same after as before: no command, reset included, drops or reorders what its
sender has queued. The queue is the model's way to feed commands to the block. It rests on choices of the model: log
2. Cites R15, R48, R482. -/
def Obligations.EveryCommandAnswersAndKeepsTheQueue : Prop :=
  ∀ (c : Instr) (s : State), ∃ t, exec c s = .next t ∧ t.pending = s.pending

/-- From every state a step, whether it runs the command in front or idles, leads to a state whose count of MGT ticks
is at least as high. This holds of resets too: that the count goes on through a reset is the model's choice; time
stamps and deadlines that the model keeps as ticks rest on it. It rests on choices of the model: log 4, 5 and 82.
Cites R15, R16, R21. -/
def Obligations.TicksNeverRunBack : Prop :=
  ∀ s t : State, step s = .next t → s.clk ≤ t.clk

/-- From every state whose sessions are listed once each, at indices 0 to 7, with at most 32 subscription entries
each, every step leads to such a state: no frame, operation, event or reset makes a ninth session or a 33rd entry. It
rests on choices of the model: log 16. Cites R43, R60. -/
def Obligations.SessionLimitsKept : Prop :=
  ∀ s t : State, State.sessionLimits s → step s = .next t → State.sessionLimits t

/-- From every state whose active values, shadows and last committed values are each listed once per register in
rising order, every step leads to such a state. So every register has one active value, one shadow and one committed
value, and a read of any of them is the value last written. It rests on choices of the model: log 34. Cites R9, R68,
R69. -/
def Obligations.RegisterMapsStaySorted : Prop :=
  ∀ s t : State, State.mapsSorted s = true → step s = .next t → State.mapsSorted t = true

/-- State.reset has no session beyond the limits of R43 and R60 and its register maps are in canonical order, with the
tick count at 0 and no command waiting. It rests on choices of the model: log 28. Cites R9, R43, R60. -/
def Obligations.ResetMeetsTheInvariants : Prop :=
  State.sessionLimits State.reset ∧ State.mapsSorted State.reset = true ∧ State.reset.clk = 0 ∧ State.reset.pending = []

/-- For a SLIP_POST of another version the operation completes with invalid-value and nothing else changes, so the
slip takes no slot. For a hardware channel (that holds no request) and for firmware the desk counts the slip in
BAD_SLIP, raises EVENT bit 6, and no slip is taken. A version-1 host slip that enters its queue enters with its class
lowered to class_max, where that is smaller, and CLASS_LOWERED counts it exactly then. Cites R376. -/
def Obligations.SlipVersionRefusedAtEntry : Prop :=
  (∀ (r : Req) (q : Fin 16) (b : List Byte) (s : State), deskRuns s = true → isF pgFWL FWL.ST_recovery s = false →
    fieldAt 0 1 b ≠ 1 → (∀ i : Fin 8, r.origin = .session i →
      ∃ x, sessionAt i.val s = some x ∧ x.provisioning = false ∧ x.outstanding + x.unsent < 64) →
    (∃ i : Fin 8, r.origin = .session i) →
    exec (.slipPost r q b) s = .next (reply r 0x86 q.val .invalidValue [] s)) ∧
  (∀ (ch : Fin 16) (core : Fin 48) (b : List Byte) (s : State), deskRuns s = true → fieldAt 0 1 b ≠ 1 →
    SMap.find ch.val s.cir.hwHeld = none →
    ∃ t, exec (.hwSlipPost ch b) s = .next t ∧ exec (.fwSlipPost core b) s = .next t ∧ t.cir = s.cir ∧
      getF pgCIR CIR.BAD_SLIP t = (getF pgCIR CIR.BAD_SLIP s + 1) % 2 ^ 32 ∧ getF pgCIR (HDR.EVENT 6) t = 1 ∧
      State.regsBut [pgCIR] s t) ∧
  (∀ (i : Fin 8) (tag : BitVec 16) (q : Fin 16) (b : List Byte) (x : Session) (m : Nat) (s : State), deskRuns s = true →
    isF pgFWL FWL.ST_recovery s = false → sessionAt i.val s = some x → x.provisioning = false → x.outstanding + x.unsent < 64 →
    fieldAt 0 1 b = 1 → queueOpen q.val s = true → (∀ e ∈ s.cir.posts, e.2.1 ≠ q.val) → (hostQ q.val s).classMax = m →
    ∃ u y, exec (.slipPost ⟨.session i, tag⟩ q b) s = .next (reply ⟨.session i, tag⟩ 0x86 q.val .success [] u) ∧
      (hostQ q.val u).held = (hostQ q.val s).held ++ [y] ∧
      (fieldAt 1 1 b % 8 ≤ m → y.cls = fieldAt 1 1 b % 8 ∧
        getF pgCIR CIR.CLASS_LOWERED u = getF pgCIR CIR.CLASS_LOWERED s) ∧
      (m < fieldAt 1 1 b % 8 → y.cls = m ∧
        getF pgCIR CIR.CLASS_LOWERED u = (getF pgCIR CIR.CLASS_LOWERED s + 1) % 2 ^ 32))

/-- A firmware write of STREAM that sets en, with both queues firmware's on a unit that is not busy and whose en is 0,
starts the count of packets at 0. A packet that the stream path takes (its destination not refusing it, and in modes 2
and 3 longer than its check) adds one to that count, and its RESULT is the check of the packet, without the check that
it carries in modes 2 and 3, with the fold value FOLD plus the count before it, modulo 2^32, or 2^64 where fold64 is
1, while fold_seq is 1, and with FOLD as written while fold_seq is 0. Cites R412. -/
def Obligations.StreamFoldSequence : Prop :=
  (∀ (tag : BitVec 16) (k : Fin 8) (v : Word) (s : State), State.lets ⟨.firmware, tag⟩ 3 (pgCHK k.val) 0x138 s →
    isF (pgCHK k.val) CHK.ST_busy s = false → isF (pgCHK k.val) CHK.STREAM_en s = false →
    288 ≤ bitsOf 16 10 v.toNat → 288 ≤ bitsOf 0 10 v.toNat → v.toNat / 2 ^ 31 = 1 →
    ∃ u, exec (.streamEnable ⟨.firmware, tag⟩ k v) s = .next u ∧ (chkOf k.val u).packets = 0 ∧
      isF (pgCHK k.val) CHK.STREAM_en u = true ∧
      getF (pgCHK k.val) CHK.STREAM_fold_seq u = v.toNat / 2 ^ 30 % 2) ∧
  (∀ (k : Fin 8) (x : StkPkt) (s1 s : State), isF (pgCHK k.val) CHK.STREAM_en s = true → chkWorks k.val s = true →
    popPkt (getF (pgCHK k.val) CHK.STREAM_src_queue s) s = some (x, s1) →
    (2 ≤ getF (pgCHK k.val) CHK.CFG_mode s → chkBytes k.val s < x.data.length) →
    ∃ t, exec (.streamPacket k) s = .next t ∧
      (queueEnabled (getF (pgCHK k.val) CHK.STREAM_dst_queue s) s = true ∧ t = s ∨
       (chkOf k.val t).packets = (chkOf k.val s).packets + 1 ∧
       getF (pgCHK k.val) CHK.RESULT_check t =
        chkOver k.val (if isF (pgCHK k.val) CHK.STREAM_fold_seq s then
            (getF (pgCHK k.val) CHK.FOLD_value s + (chkOf k.val s).packets) %
              2 ^ (if isF (pgCHK k.val) CHK.CFG_fold64 s then 64 else 32)
          else getF (pgCHK k.val) CHK.FOLD_value s)
          ((x.data.map (BitVec.ofNat 8)).take
            (if getF (pgCHK k.val) CHK.CFG_mode s < 2 then x.data.length else x.data.length - chkBytes k.val s)) s % 2 ^ 64))
end

