-- ==== Sys2Proof/Laws/State.lean ====
section
/-! SUPPORT. Sys2Proof/Laws/State.lean: what the updates of the state leave alone, one lemma per field and update, and what a
register field reads as after a write of a field. -/

namespace Sys2Proof

/-! ## Sparse maps -/

theorem SMap.get_drop {α : Type} (d : α) (k k' : Nat) (m : SMap α) :
    SMap.get d k (SMap.drop k' m) = if k = k' then d else SMap.get d k m := by
  induction m with
  | nil => simp [SMap.drop, SMap.get]
  | cons e t ih =>
    obtain ⟨a, v⟩ := e
    unfold SMap.drop at ih ⊢
    by_cases h : a = k'
    · subst h
      by_cases h2 : k = a
      · subst h2; simp_all [SMap.get]
      · have h3 : ¬ a = k := fun h => h2 h.symm
        simp_all [SMap.get]
    · by_cases h2 : k = k'
      · subst h2; simp_all [SMap.get]
      · simp_all [SMap.get]

theorem SMap.get_put {α : Type} (d v : α) (k k' : Nat) (m : SMap α) :
    SMap.get d k (SMap.put k' v m) = if k = k' then v else SMap.get d k m := by
  induction m with
  | nil => by_cases h : k = k' <;> simp [SMap.put, SMap.get, h, eq_comm]
  | cons e t ih =>
    obtain ⟨a, w⟩ := e
    unfold SMap.put
    split
    · rename_i h; subst h
      by_cases h2 : k = a
      · subst h2; simp [SMap.get]
      · have h3 : ¬ a = k := fun h => h2 h.symm
        simp [SMap.get, h2, h3]
    · split
      · by_cases h2 : k = k'
        · subst h2; simp [SMap.get]
        · have h3 : ¬ k' = k := fun h => h2 h.symm
          simp [SMap.get, h2, h3]
      · by_cases h2 : k = k'
        · subst h2
          by_cases h4 : a = k
          · simp_all
          · simp_all [SMap.get]
        · by_cases h4 : a = k <;> simp_all [SMap.get]

theorem SMap.get_set {α : Type} [DecidableEq α] (d v : α) (k k' : Nat) (m : SMap α) :
    SMap.get d k (SMap.set d k' v m) = if k = k' then v else SMap.get d k m := by
  unfold SMap.set
  split
  · rename_i h; subst h; exact SMap.get_drop _ _ _ _
  · exact SMap.get_put _ _ _ _ _

theorem SMap.find_eq_get {α : Type} (k : Nat) (m : SMap α) :
    SMap.find k m = SMap.get none k (m.map (fun e => (e.1, some e.2))) := by
  induction m with
  | nil => rfl
  | cons e t ih => obtain ⟨a, v⟩ := e; simp [SMap.find, SMap.get, ih]

theorem SMap.find_drop {α : Type} (k k' : Nat) (m : SMap α) :
    SMap.find k (SMap.drop k' m) = if k = k' then none else SMap.find k m := by
  induction m with
  | nil => simp [SMap.drop, SMap.find]
  | cons e t ih =>
    obtain ⟨a, v⟩ := e
    unfold SMap.drop at ih ⊢
    by_cases h : a = k'
    · subst h
      by_cases h2 : k = a
      · subst h2; simp_all [SMap.find]
      · have h3 : ¬ a = k := fun h => h2 h.symm
        simp_all [SMap.find]
    · by_cases h2 : k = k'
      · subst h2; simp_all [SMap.find]
      · simp_all [SMap.find]

theorem SMap.find_put {α : Type} (v : α) (k k' : Nat) (m : SMap α) :
    SMap.find k (SMap.put k' v m) = if k = k' then some v else SMap.find k m := by
  induction m with
  | nil => by_cases h : k = k' <;> simp [SMap.put, SMap.find, h, eq_comm]
  | cons e t ih =>
    obtain ⟨a, w⟩ := e
    unfold SMap.put
    split
    · rename_i h; subst h
      by_cases h2 : k = a
      · subst h2; simp [SMap.find]
      · have h3 : ¬ a = k := fun h => h2 h.symm
        simp [SMap.find, h2, h3]
    · split
      · by_cases h2 : k = k'
        · subst h2; simp [SMap.find]
        · have h3 : ¬ k' = k := fun h => h2 h.symm
          simp [SMap.find, h2, h3]
      · by_cases h2 : k = k'
        · subst h2
          by_cases h4 : a = k
          · simp_all
          · simp_all [SMap.find]
        · by_cases h4 : a = k <;> simp_all [SMap.find]

theorem SMap.find_set_ne {α : Type} [DecidableEq α] (d v : α) (k k' : Nat) (m : SMap α) (h : k ≠ k') :
    SMap.find k (SMap.set d k' v m) = SMap.find k m := by
  unfold SMap.set
  split
  · simp [SMap.find_drop, h]
  · simp [SMap.find_put, h]

end Sys2Proof

namespace Sys2Proof.Machine

/-! ## Fields after a write -/

theorem getF_setF (p q : Nat) (f g : Fld) (v : Nat) (s : State) :
    getF q g (setF p f v s) =
      if g.key q = f.key p ∧ g.resetAt q = f.resetAt p then v % 2 ^ f.width
      else if g.key q = f.key p then SMap.get (g.resetAt q) (g.key q) (setF p f v s).regs
      else getF q g s := by
  by_cases h : g.key q = f.key p
  · by_cases h2 : g.resetAt q = f.resetAt p
    · simp [getF, setF, h, h2, SMap.get_set]
    · simp [getF, h, h2]
  · simp only [getF, setF, h, false_and, if_false]
    unfold SMap.set
    split
    · simp [SMap.get_drop, h]
    · simp [SMap.get_put, h]

@[simp] theorem getF_setF_same (p : Nat) (f : Fld) (v : Nat) (s : State) : getF p f (setF p f v s) = v % 2 ^ f.width := by
  simp [getF_setF]

theorem getF_setF_ne (p q : Nat) (f g : Fld) (v : Nat) (s : State) (h : g.key q ≠ f.key p) :
    getF q g (setF p f v s) = getF q g s := by
  simp [getF_setF, h]

/-- another field of the same page. -/
theorem getF_setF_field (p : Nat) (f g : Fld) (v : Nat) (s : State) (h : g.loc ≠ f.loc) :
    getF p g (setF p f v s) = getF p g s := by
  apply getF_setF_ne; unfold Fld.key; omega

/-- a field of another page; a page has 2¹⁵ bits. -/
theorem getF_setF_page (p q : Nat) (f g : Fld) (v : Nat) (s : State) (h : q ≠ p) (hf : f.loc < 2 ^ 20) (hg : g.loc < 2 ^ 20) :
    getF q g (setF p f v s) = getF q g s := by
  apply getF_setF_ne; unfold Fld.key; omega

@[simp] theorem getF_addF_same (p : Nat) (f : Fld) (n : Nat) (s : State) :
    getF p f (addF p f n s) = (getF p f s + n) % 2 ^ f.width := by simp [addF]

theorem getF_addF_field (p : Nat) (f g : Fld) (n : Nat) (s : State) (h : g.loc ≠ f.loc) :
    getF p g (addF p f n s) = getF p g s := by simp [addF, getF_setF_field, h]

theorem getF_congr (p : Nat) (f : Fld) (s t : State) (h : t.regs = s.regs) : getF p f t = getF p f s := by simp [getF, h]

/-- a write of a field touches its own key only. -/
theorem find_setF (k p : Nat) (f : Fld) (v : Nat) (s : State) (h : k ≠ f.key p) :
    SMap.find k (setF p f v s).regs = SMap.find k s.regs := by
  simp [setF, SMap.find_set_ne, h]

/-! ## setF -/

@[simp] theorem setF_pending (p : Nat) (f : Fld) (v : Nat) (s : State) : (setF p f v s).pending = s.pending := by rfl
@[simp] theorem setF_clk (p : Nat) (f : Fld) (v : Nat) (s : State) : (setF p f v s).clk = s.clk := by rfl
@[simp] theorem setF_shadow (p : Nat) (f : Fld) (v : Nat) (s : State) : (setF p f v s).shadow = s.shadow := by rfl
@[simp] theorem setF_committed (p : Nat) (f : Fld) (v : Nat) (s : State) : (setF p f v s).committed = s.committed := by rfl
@[simp] theorem setF_actAt (p : Nat) (f : Fld) (v : Nat) (s : State) : (setF p f v s).actAt = s.actAt := by rfl
@[simp] theorem setF_ticks (p : Nat) (f : Fld) (v : Nat) (s : State) : (setF p f v s).ticks = s.ticks := by rfl
@[simp] theorem setF_out (p : Nat) (f : Fld) (v : Nat) (s : State) : (setF p f v s).out = s.out := by rfl
@[simp] theorem setF_free (p : Nat) (f : Fld) (v : Nat) (s : State) : (setF p f v s).free = s.free := by rfl
@[simp] theorem setF_hap (p : Nat) (f : Fld) (v : Nat) (s : State) : (setF p f v s).hap = s.hap := by rfl
@[simp] theorem setF_ing (p : Nat) (f : Fld) (v : Nat) (s : State) : (setF p f v s).ing = s.ing := by rfl
@[simp] theorem setF_cnd (p : Nat) (f : Fld) (v : Nat) (s : State) : (setF p f v s).cnd = s.cnd := by rfl
@[simp] theorem setF_ech (p : Nat) (f : Fld) (v : Nat) (s : State) : (setF p f v s).ech = s.ech := by rfl
@[simp] theorem setF_mux (p : Nat) (f : Fld) (v : Nat) (s : State) : (setF p f v s).mux = s.mux := by rfl
@[simp] theorem setF_outs (p : Nat) (f : Fld) (v : Nat) (s : State) : (setF p f v s).outs = s.outs := by rfl
@[simp] theorem setF_cores (p : Nat) (f : Fld) (v : Nat) (s : State) : (setF p f v s).cores = s.cores := by rfl
@[simp] theorem setF_rot (p : Nat) (f : Fld) (v : Nat) (s : State) : (setF p f v s).rot = s.rot := by rfl
@[simp] theorem setF_dch (p : Nat) (f : Fld) (v : Nat) (s : State) : (setF p f v s).dch = s.dch := by rfl
@[simp] theorem setF_snd (p : Nat) (f : Fld) (v : Nat) (s : State) : (setF p f v s).snd = s.snd := by rfl
@[simp] theorem setF_twn (p : Nat) (f : Fld) (v : Nat) (s : State) : (setF p f v s).twn = s.twn := by rfl
@[simp] theorem setF_tim (p : Nat) (f : Fld) (v : Nat) (s : State) : (setF p f v s).tim = s.tim := by rfl
@[simp] theorem setF_lne (p : Nat) (f : Fld) (v : Nat) (s : State) : (setF p f v s).lne = s.lne := by rfl
@[simp] theorem setF_eth (p : Nat) (f : Fld) (v : Nat) (s : State) : (setF p f v s).eth = s.eth := by rfl
@[simp] theorem setF_izl (p : Nat) (f : Fld) (v : Nat) (s : State) : (setF p f v s).izl = s.izl := by rfl
@[simp] theorem setF_routes (p : Nat) (f : Fld) (v : Nat) (s : State) : (setF p f v s).routes = s.routes := by rfl
@[simp] theorem setF_stk (p : Nat) (f : Fld) (v : Nat) (s : State) : (setF p f v s).stk = s.stk := by rfl
@[simp] theorem setF_cir (p : Nat) (f : Fld) (v : Nat) (s : State) : (setF p f v s).cir = s.cir := by rfl
@[simp] theorem setF_hbm (p : Nat) (f : Fld) (v : Nat) (s : State) : (setF p f v s).hbm = s.hbm := by rfl
@[simp] theorem setF_bufs (p : Nat) (f : Fld) (v : Nat) (s : State) : (setF p f v s).bufs = s.bufs := by rfl
@[simp] theorem setF_chk (p : Nat) (f : Fld) (v : Nat) (s : State) : (setF p f v s).chk = s.chk := by rfl
@[simp] theorem setF_fwl (p : Nat) (f : Fld) (v : Nat) (s : State) : (setF p f v s).fwl = s.fwl := by rfl
@[simp] theorem setF_hlt (p : Nat) (f : Fld) (v : Nat) (s : State) : (setF p f v s).hlt = s.hlt := by rfl
@[simp] theorem setF_pwr (p : Nat) (f : Fld) (v : Nat) (s : State) : (setF p f v s).pwr = s.pwr := by rfl

/-! ## addF -/

@[simp] theorem addF_pending (p : Nat) (f : Fld) (n : Nat) (s : State) : (addF p f n s).pending = s.pending := by rfl
@[simp] theorem addF_clk (p : Nat) (f : Fld) (n : Nat) (s : State) : (addF p f n s).clk = s.clk := by rfl
@[simp] theorem addF_shadow (p : Nat) (f : Fld) (n : Nat) (s : State) : (addF p f n s).shadow = s.shadow := by rfl
@[simp] theorem addF_committed (p : Nat) (f : Fld) (n : Nat) (s : State) : (addF p f n s).committed = s.committed := by rfl
@[simp] theorem addF_actAt (p : Nat) (f : Fld) (n : Nat) (s : State) : (addF p f n s).actAt = s.actAt := by rfl
@[simp] theorem addF_ticks (p : Nat) (f : Fld) (n : Nat) (s : State) : (addF p f n s).ticks = s.ticks := by rfl
@[simp] theorem addF_out (p : Nat) (f : Fld) (n : Nat) (s : State) : (addF p f n s).out = s.out := by rfl
@[simp] theorem addF_free (p : Nat) (f : Fld) (n : Nat) (s : State) : (addF p f n s).free = s.free := by rfl
@[simp] theorem addF_hap (p : Nat) (f : Fld) (n : Nat) (s : State) : (addF p f n s).hap = s.hap := by rfl
@[simp] theorem addF_ing (p : Nat) (f : Fld) (n : Nat) (s : State) : (addF p f n s).ing = s.ing := by rfl
@[simp] theorem addF_cnd (p : Nat) (f : Fld) (n : Nat) (s : State) : (addF p f n s).cnd = s.cnd := by rfl
@[simp] theorem addF_ech (p : Nat) (f : Fld) (n : Nat) (s : State) : (addF p f n s).ech = s.ech := by rfl
@[simp] theorem addF_mux (p : Nat) (f : Fld) (n : Nat) (s : State) : (addF p f n s).mux = s.mux := by rfl
@[simp] theorem addF_outs (p : Nat) (f : Fld) (n : Nat) (s : State) : (addF p f n s).outs = s.outs := by rfl
@[simp] theorem addF_cores (p : Nat) (f : Fld) (n : Nat) (s : State) : (addF p f n s).cores = s.cores := by rfl
@[simp] theorem addF_rot (p : Nat) (f : Fld) (n : Nat) (s : State) : (addF p f n s).rot = s.rot := by rfl
@[simp] theorem addF_dch (p : Nat) (f : Fld) (n : Nat) (s : State) : (addF p f n s).dch = s.dch := by rfl
@[simp] theorem addF_snd (p : Nat) (f : Fld) (n : Nat) (s : State) : (addF p f n s).snd = s.snd := by rfl
@[simp] theorem addF_twn (p : Nat) (f : Fld) (n : Nat) (s : State) : (addF p f n s).twn = s.twn := by rfl
@[simp] theorem addF_tim (p : Nat) (f : Fld) (n : Nat) (s : State) : (addF p f n s).tim = s.tim := by rfl
@[simp] theorem addF_lne (p : Nat) (f : Fld) (n : Nat) (s : State) : (addF p f n s).lne = s.lne := by rfl
@[simp] theorem addF_eth (p : Nat) (f : Fld) (n : Nat) (s : State) : (addF p f n s).eth = s.eth := by rfl
@[simp] theorem addF_izl (p : Nat) (f : Fld) (n : Nat) (s : State) : (addF p f n s).izl = s.izl := by rfl
@[simp] theorem addF_routes (p : Nat) (f : Fld) (n : Nat) (s : State) : (addF p f n s).routes = s.routes := by rfl
@[simp] theorem addF_stk (p : Nat) (f : Fld) (n : Nat) (s : State) : (addF p f n s).stk = s.stk := by rfl
@[simp] theorem addF_cir (p : Nat) (f : Fld) (n : Nat) (s : State) : (addF p f n s).cir = s.cir := by rfl
@[simp] theorem addF_hbm (p : Nat) (f : Fld) (n : Nat) (s : State) : (addF p f n s).hbm = s.hbm := by rfl
@[simp] theorem addF_bufs (p : Nat) (f : Fld) (n : Nat) (s : State) : (addF p f n s).bufs = s.bufs := by rfl
@[simp] theorem addF_chk (p : Nat) (f : Fld) (n : Nat) (s : State) : (addF p f n s).chk = s.chk := by rfl
@[simp] theorem addF_fwl (p : Nat) (f : Fld) (n : Nat) (s : State) : (addF p f n s).fwl = s.fwl := by rfl
@[simp] theorem addF_hlt (p : Nat) (f : Fld) (n : Nat) (s : State) : (addF p f n s).hlt = s.hlt := by rfl
@[simp] theorem addF_pwr (p : Nat) (f : Fld) (n : Nat) (s : State) : (addF p f n s).pwr = s.pwr := by rfl

/-! ## satF -/

@[simp] theorem satF_pending (p : Nat) (f : Fld) (n : Nat) (s : State) : (satF p f n s).pending = s.pending := by rfl
@[simp] theorem satF_clk (p : Nat) (f : Fld) (n : Nat) (s : State) : (satF p f n s).clk = s.clk := by rfl
@[simp] theorem satF_shadow (p : Nat) (f : Fld) (n : Nat) (s : State) : (satF p f n s).shadow = s.shadow := by rfl
@[simp] theorem satF_committed (p : Nat) (f : Fld) (n : Nat) (s : State) : (satF p f n s).committed = s.committed := by rfl
@[simp] theorem satF_actAt (p : Nat) (f : Fld) (n : Nat) (s : State) : (satF p f n s).actAt = s.actAt := by rfl
@[simp] theorem satF_ticks (p : Nat) (f : Fld) (n : Nat) (s : State) : (satF p f n s).ticks = s.ticks := by rfl
@[simp] theorem satF_out (p : Nat) (f : Fld) (n : Nat) (s : State) : (satF p f n s).out = s.out := by rfl
@[simp] theorem satF_free (p : Nat) (f : Fld) (n : Nat) (s : State) : (satF p f n s).free = s.free := by rfl
@[simp] theorem satF_hap (p : Nat) (f : Fld) (n : Nat) (s : State) : (satF p f n s).hap = s.hap := by rfl
@[simp] theorem satF_ing (p : Nat) (f : Fld) (n : Nat) (s : State) : (satF p f n s).ing = s.ing := by rfl
@[simp] theorem satF_cnd (p : Nat) (f : Fld) (n : Nat) (s : State) : (satF p f n s).cnd = s.cnd := by rfl
@[simp] theorem satF_ech (p : Nat) (f : Fld) (n : Nat) (s : State) : (satF p f n s).ech = s.ech := by rfl
@[simp] theorem satF_mux (p : Nat) (f : Fld) (n : Nat) (s : State) : (satF p f n s).mux = s.mux := by rfl
@[simp] theorem satF_outs (p : Nat) (f : Fld) (n : Nat) (s : State) : (satF p f n s).outs = s.outs := by rfl
@[simp] theorem satF_cores (p : Nat) (f : Fld) (n : Nat) (s : State) : (satF p f n s).cores = s.cores := by rfl
@[simp] theorem satF_rot (p : Nat) (f : Fld) (n : Nat) (s : State) : (satF p f n s).rot = s.rot := by rfl
@[simp] theorem satF_dch (p : Nat) (f : Fld) (n : Nat) (s : State) : (satF p f n s).dch = s.dch := by rfl
@[simp] theorem satF_snd (p : Nat) (f : Fld) (n : Nat) (s : State) : (satF p f n s).snd = s.snd := by rfl
@[simp] theorem satF_twn (p : Nat) (f : Fld) (n : Nat) (s : State) : (satF p f n s).twn = s.twn := by rfl
@[simp] theorem satF_tim (p : Nat) (f : Fld) (n : Nat) (s : State) : (satF p f n s).tim = s.tim := by rfl
@[simp] theorem satF_lne (p : Nat) (f : Fld) (n : Nat) (s : State) : (satF p f n s).lne = s.lne := by rfl
@[simp] theorem satF_eth (p : Nat) (f : Fld) (n : Nat) (s : State) : (satF p f n s).eth = s.eth := by rfl
@[simp] theorem satF_izl (p : Nat) (f : Fld) (n : Nat) (s : State) : (satF p f n s).izl = s.izl := by rfl
@[simp] theorem satF_routes (p : Nat) (f : Fld) (n : Nat) (s : State) : (satF p f n s).routes = s.routes := by rfl
@[simp] theorem satF_stk (p : Nat) (f : Fld) (n : Nat) (s : State) : (satF p f n s).stk = s.stk := by rfl
@[simp] theorem satF_cir (p : Nat) (f : Fld) (n : Nat) (s : State) : (satF p f n s).cir = s.cir := by rfl
@[simp] theorem satF_hbm (p : Nat) (f : Fld) (n : Nat) (s : State) : (satF p f n s).hbm = s.hbm := by rfl
@[simp] theorem satF_bufs (p : Nat) (f : Fld) (n : Nat) (s : State) : (satF p f n s).bufs = s.bufs := by rfl
@[simp] theorem satF_chk (p : Nat) (f : Fld) (n : Nat) (s : State) : (satF p f n s).chk = s.chk := by rfl
@[simp] theorem satF_fwl (p : Nat) (f : Fld) (n : Nat) (s : State) : (satF p f n s).fwl = s.fwl := by rfl
@[simp] theorem satF_hlt (p : Nat) (f : Fld) (n : Nat) (s : State) : (satF p f n s).hlt = s.hlt := by rfl
@[simp] theorem satF_pwr (p : Nat) (f : Fld) (n : Nat) (s : State) : (satF p f n s).pwr = s.pwr := by rfl

/-! ## subF -/

@[simp] theorem subF_pending (p : Nat) (f : Fld) (n : Nat) (s : State) : (subF p f n s).pending = s.pending := by rfl
@[simp] theorem subF_clk (p : Nat) (f : Fld) (n : Nat) (s : State) : (subF p f n s).clk = s.clk := by rfl
@[simp] theorem subF_shadow (p : Nat) (f : Fld) (n : Nat) (s : State) : (subF p f n s).shadow = s.shadow := by rfl
@[simp] theorem subF_committed (p : Nat) (f : Fld) (n : Nat) (s : State) : (subF p f n s).committed = s.committed := by rfl
@[simp] theorem subF_actAt (p : Nat) (f : Fld) (n : Nat) (s : State) : (subF p f n s).actAt = s.actAt := by rfl
@[simp] theorem subF_ticks (p : Nat) (f : Fld) (n : Nat) (s : State) : (subF p f n s).ticks = s.ticks := by rfl
@[simp] theorem subF_out (p : Nat) (f : Fld) (n : Nat) (s : State) : (subF p f n s).out = s.out := by rfl
@[simp] theorem subF_free (p : Nat) (f : Fld) (n : Nat) (s : State) : (subF p f n s).free = s.free := by rfl
@[simp] theorem subF_hap (p : Nat) (f : Fld) (n : Nat) (s : State) : (subF p f n s).hap = s.hap := by rfl
@[simp] theorem subF_ing (p : Nat) (f : Fld) (n : Nat) (s : State) : (subF p f n s).ing = s.ing := by rfl
@[simp] theorem subF_cnd (p : Nat) (f : Fld) (n : Nat) (s : State) : (subF p f n s).cnd = s.cnd := by rfl
@[simp] theorem subF_ech (p : Nat) (f : Fld) (n : Nat) (s : State) : (subF p f n s).ech = s.ech := by rfl
@[simp] theorem subF_mux (p : Nat) (f : Fld) (n : Nat) (s : State) : (subF p f n s).mux = s.mux := by rfl
@[simp] theorem subF_outs (p : Nat) (f : Fld) (n : Nat) (s : State) : (subF p f n s).outs = s.outs := by rfl
@[simp] theorem subF_cores (p : Nat) (f : Fld) (n : Nat) (s : State) : (subF p f n s).cores = s.cores := by rfl
@[simp] theorem subF_rot (p : Nat) (f : Fld) (n : Nat) (s : State) : (subF p f n s).rot = s.rot := by rfl
@[simp] theorem subF_dch (p : Nat) (f : Fld) (n : Nat) (s : State) : (subF p f n s).dch = s.dch := by rfl
@[simp] theorem subF_snd (p : Nat) (f : Fld) (n : Nat) (s : State) : (subF p f n s).snd = s.snd := by rfl
@[simp] theorem subF_twn (p : Nat) (f : Fld) (n : Nat) (s : State) : (subF p f n s).twn = s.twn := by rfl
@[simp] theorem subF_tim (p : Nat) (f : Fld) (n : Nat) (s : State) : (subF p f n s).tim = s.tim := by rfl
@[simp] theorem subF_lne (p : Nat) (f : Fld) (n : Nat) (s : State) : (subF p f n s).lne = s.lne := by rfl
@[simp] theorem subF_eth (p : Nat) (f : Fld) (n : Nat) (s : State) : (subF p f n s).eth = s.eth := by rfl
@[simp] theorem subF_izl (p : Nat) (f : Fld) (n : Nat) (s : State) : (subF p f n s).izl = s.izl := by rfl
@[simp] theorem subF_routes (p : Nat) (f : Fld) (n : Nat) (s : State) : (subF p f n s).routes = s.routes := by rfl
@[simp] theorem subF_stk (p : Nat) (f : Fld) (n : Nat) (s : State) : (subF p f n s).stk = s.stk := by rfl
@[simp] theorem subF_cir (p : Nat) (f : Fld) (n : Nat) (s : State) : (subF p f n s).cir = s.cir := by rfl
@[simp] theorem subF_hbm (p : Nat) (f : Fld) (n : Nat) (s : State) : (subF p f n s).hbm = s.hbm := by rfl
@[simp] theorem subF_bufs (p : Nat) (f : Fld) (n : Nat) (s : State) : (subF p f n s).bufs = s.bufs := by rfl
@[simp] theorem subF_chk (p : Nat) (f : Fld) (n : Nat) (s : State) : (subF p f n s).chk = s.chk := by rfl
@[simp] theorem subF_fwl (p : Nat) (f : Fld) (n : Nat) (s : State) : (subF p f n s).fwl = s.fwl := by rfl
@[simp] theorem subF_hlt (p : Nat) (f : Fld) (n : Nat) (s : State) : (subF p f n s).hlt = s.hlt := by rfl
@[simp] theorem subF_pwr (p : Nat) (f : Fld) (n : Nat) (s : State) : (subF p f n s).pwr = s.pwr := by rfl

/-! ## setSh -/

@[simp] theorem setSh_pending (p : Nat) (f : Fld) (v : Nat) (s : State) : (setSh p f v s).pending = s.pending := by rfl
@[simp] theorem setSh_clk (p : Nat) (f : Fld) (v : Nat) (s : State) : (setSh p f v s).clk = s.clk := by rfl
@[simp] theorem setSh_regs (p : Nat) (f : Fld) (v : Nat) (s : State) : (setSh p f v s).regs = s.regs := by rfl
@[simp] theorem setSh_committed (p : Nat) (f : Fld) (v : Nat) (s : State) : (setSh p f v s).committed = s.committed := by rfl
@[simp] theorem setSh_actAt (p : Nat) (f : Fld) (v : Nat) (s : State) : (setSh p f v s).actAt = s.actAt := by rfl
@[simp] theorem setSh_ticks (p : Nat) (f : Fld) (v : Nat) (s : State) : (setSh p f v s).ticks = s.ticks := by rfl
@[simp] theorem setSh_out (p : Nat) (f : Fld) (v : Nat) (s : State) : (setSh p f v s).out = s.out := by rfl
@[simp] theorem setSh_free (p : Nat) (f : Fld) (v : Nat) (s : State) : (setSh p f v s).free = s.free := by rfl
@[simp] theorem setSh_hap (p : Nat) (f : Fld) (v : Nat) (s : State) : (setSh p f v s).hap = s.hap := by rfl
@[simp] theorem setSh_ing (p : Nat) (f : Fld) (v : Nat) (s : State) : (setSh p f v s).ing = s.ing := by rfl
@[simp] theorem setSh_cnd (p : Nat) (f : Fld) (v : Nat) (s : State) : (setSh p f v s).cnd = s.cnd := by rfl
@[simp] theorem setSh_ech (p : Nat) (f : Fld) (v : Nat) (s : State) : (setSh p f v s).ech = s.ech := by rfl
@[simp] theorem setSh_mux (p : Nat) (f : Fld) (v : Nat) (s : State) : (setSh p f v s).mux = s.mux := by rfl
@[simp] theorem setSh_outs (p : Nat) (f : Fld) (v : Nat) (s : State) : (setSh p f v s).outs = s.outs := by rfl
@[simp] theorem setSh_cores (p : Nat) (f : Fld) (v : Nat) (s : State) : (setSh p f v s).cores = s.cores := by rfl
@[simp] theorem setSh_rot (p : Nat) (f : Fld) (v : Nat) (s : State) : (setSh p f v s).rot = s.rot := by rfl
@[simp] theorem setSh_dch (p : Nat) (f : Fld) (v : Nat) (s : State) : (setSh p f v s).dch = s.dch := by rfl
@[simp] theorem setSh_snd (p : Nat) (f : Fld) (v : Nat) (s : State) : (setSh p f v s).snd = s.snd := by rfl
@[simp] theorem setSh_twn (p : Nat) (f : Fld) (v : Nat) (s : State) : (setSh p f v s).twn = s.twn := by rfl
@[simp] theorem setSh_tim (p : Nat) (f : Fld) (v : Nat) (s : State) : (setSh p f v s).tim = s.tim := by rfl
@[simp] theorem setSh_lne (p : Nat) (f : Fld) (v : Nat) (s : State) : (setSh p f v s).lne = s.lne := by rfl
@[simp] theorem setSh_eth (p : Nat) (f : Fld) (v : Nat) (s : State) : (setSh p f v s).eth = s.eth := by rfl
@[simp] theorem setSh_izl (p : Nat) (f : Fld) (v : Nat) (s : State) : (setSh p f v s).izl = s.izl := by rfl
@[simp] theorem setSh_routes (p : Nat) (f : Fld) (v : Nat) (s : State) : (setSh p f v s).routes = s.routes := by rfl
@[simp] theorem setSh_stk (p : Nat) (f : Fld) (v : Nat) (s : State) : (setSh p f v s).stk = s.stk := by rfl
@[simp] theorem setSh_cir (p : Nat) (f : Fld) (v : Nat) (s : State) : (setSh p f v s).cir = s.cir := by rfl
@[simp] theorem setSh_hbm (p : Nat) (f : Fld) (v : Nat) (s : State) : (setSh p f v s).hbm = s.hbm := by rfl
@[simp] theorem setSh_bufs (p : Nat) (f : Fld) (v : Nat) (s : State) : (setSh p f v s).bufs = s.bufs := by rfl
@[simp] theorem setSh_chk (p : Nat) (f : Fld) (v : Nat) (s : State) : (setSh p f v s).chk = s.chk := by rfl
@[simp] theorem setSh_fwl (p : Nat) (f : Fld) (v : Nat) (s : State) : (setSh p f v s).fwl = s.fwl := by rfl
@[simp] theorem setSh_hlt (p : Nat) (f : Fld) (v : Nat) (s : State) : (setSh p f v s).hlt = s.hlt := by rfl
@[simp] theorem setSh_pwr (p : Nat) (f : Fld) (v : Nat) (s : State) : (setSh p f v s).pwr = s.pwr := by rfl

/-! ## setCm -/

@[simp] theorem setCm_pending (p : Nat) (f : Fld) (v : Nat) (s : State) : (setCm p f v s).pending = s.pending := by rfl
@[simp] theorem setCm_clk (p : Nat) (f : Fld) (v : Nat) (s : State) : (setCm p f v s).clk = s.clk := by rfl
@[simp] theorem setCm_regs (p : Nat) (f : Fld) (v : Nat) (s : State) : (setCm p f v s).regs = s.regs := by rfl
@[simp] theorem setCm_shadow (p : Nat) (f : Fld) (v : Nat) (s : State) : (setCm p f v s).shadow = s.shadow := by rfl
@[simp] theorem setCm_actAt (p : Nat) (f : Fld) (v : Nat) (s : State) : (setCm p f v s).actAt = s.actAt := by rfl
@[simp] theorem setCm_ticks (p : Nat) (f : Fld) (v : Nat) (s : State) : (setCm p f v s).ticks = s.ticks := by rfl
@[simp] theorem setCm_out (p : Nat) (f : Fld) (v : Nat) (s : State) : (setCm p f v s).out = s.out := by rfl
@[simp] theorem setCm_free (p : Nat) (f : Fld) (v : Nat) (s : State) : (setCm p f v s).free = s.free := by rfl
@[simp] theorem setCm_hap (p : Nat) (f : Fld) (v : Nat) (s : State) : (setCm p f v s).hap = s.hap := by rfl
@[simp] theorem setCm_ing (p : Nat) (f : Fld) (v : Nat) (s : State) : (setCm p f v s).ing = s.ing := by rfl
@[simp] theorem setCm_cnd (p : Nat) (f : Fld) (v : Nat) (s : State) : (setCm p f v s).cnd = s.cnd := by rfl
@[simp] theorem setCm_ech (p : Nat) (f : Fld) (v : Nat) (s : State) : (setCm p f v s).ech = s.ech := by rfl
@[simp] theorem setCm_mux (p : Nat) (f : Fld) (v : Nat) (s : State) : (setCm p f v s).mux = s.mux := by rfl
@[simp] theorem setCm_outs (p : Nat) (f : Fld) (v : Nat) (s : State) : (setCm p f v s).outs = s.outs := by rfl
@[simp] theorem setCm_cores (p : Nat) (f : Fld) (v : Nat) (s : State) : (setCm p f v s).cores = s.cores := by rfl
@[simp] theorem setCm_rot (p : Nat) (f : Fld) (v : Nat) (s : State) : (setCm p f v s).rot = s.rot := by rfl
@[simp] theorem setCm_dch (p : Nat) (f : Fld) (v : Nat) (s : State) : (setCm p f v s).dch = s.dch := by rfl
@[simp] theorem setCm_snd (p : Nat) (f : Fld) (v : Nat) (s : State) : (setCm p f v s).snd = s.snd := by rfl
@[simp] theorem setCm_twn (p : Nat) (f : Fld) (v : Nat) (s : State) : (setCm p f v s).twn = s.twn := by rfl
@[simp] theorem setCm_tim (p : Nat) (f : Fld) (v : Nat) (s : State) : (setCm p f v s).tim = s.tim := by rfl
@[simp] theorem setCm_lne (p : Nat) (f : Fld) (v : Nat) (s : State) : (setCm p f v s).lne = s.lne := by rfl
@[simp] theorem setCm_eth (p : Nat) (f : Fld) (v : Nat) (s : State) : (setCm p f v s).eth = s.eth := by rfl
@[simp] theorem setCm_izl (p : Nat) (f : Fld) (v : Nat) (s : State) : (setCm p f v s).izl = s.izl := by rfl
@[simp] theorem setCm_routes (p : Nat) (f : Fld) (v : Nat) (s : State) : (setCm p f v s).routes = s.routes := by rfl
@[simp] theorem setCm_stk (p : Nat) (f : Fld) (v : Nat) (s : State) : (setCm p f v s).stk = s.stk := by rfl
@[simp] theorem setCm_cir (p : Nat) (f : Fld) (v : Nat) (s : State) : (setCm p f v s).cir = s.cir := by rfl
@[simp] theorem setCm_hbm (p : Nat) (f : Fld) (v : Nat) (s : State) : (setCm p f v s).hbm = s.hbm := by rfl
@[simp] theorem setCm_bufs (p : Nat) (f : Fld) (v : Nat) (s : State) : (setCm p f v s).bufs = s.bufs := by rfl
@[simp] theorem setCm_chk (p : Nat) (f : Fld) (v : Nat) (s : State) : (setCm p f v s).chk = s.chk := by rfl
@[simp] theorem setCm_fwl (p : Nat) (f : Fld) (v : Nat) (s : State) : (setCm p f v s).fwl = s.fwl := by rfl
@[simp] theorem setCm_hlt (p : Nat) (f : Fld) (v : Nat) (s : State) : (setCm p f v s).hlt = s.hlt := by rfl
@[simp] theorem setCm_pwr (p : Nat) (f : Fld) (v : Nat) (s : State) : (setCm p f v s).pwr = s.pwr := by rfl

/-! ## emit -/

@[simp] theorem emit_pending (k : OutKind) (u : Nat) (d : List Nat) (s : State) : (emit k u d s).pending = s.pending := by rfl
@[simp] theorem emit_clk (k : OutKind) (u : Nat) (d : List Nat) (s : State) : (emit k u d s).clk = s.clk := by rfl
@[simp] theorem emit_regs (k : OutKind) (u : Nat) (d : List Nat) (s : State) : (emit k u d s).regs = s.regs := by rfl
@[simp] theorem emit_shadow (k : OutKind) (u : Nat) (d : List Nat) (s : State) : (emit k u d s).shadow = s.shadow := by rfl
@[simp] theorem emit_committed (k : OutKind) (u : Nat) (d : List Nat) (s : State) : (emit k u d s).committed = s.committed := by rfl
@[simp] theorem emit_actAt (k : OutKind) (u : Nat) (d : List Nat) (s : State) : (emit k u d s).actAt = s.actAt := by rfl
@[simp] theorem emit_ticks (k : OutKind) (u : Nat) (d : List Nat) (s : State) : (emit k u d s).ticks = s.ticks := by rfl
@[simp] theorem emit_free (k : OutKind) (u : Nat) (d : List Nat) (s : State) : (emit k u d s).free = s.free := by rfl
@[simp] theorem emit_hap (k : OutKind) (u : Nat) (d : List Nat) (s : State) : (emit k u d s).hap = s.hap := by rfl
@[simp] theorem emit_ing (k : OutKind) (u : Nat) (d : List Nat) (s : State) : (emit k u d s).ing = s.ing := by rfl
@[simp] theorem emit_cnd (k : OutKind) (u : Nat) (d : List Nat) (s : State) : (emit k u d s).cnd = s.cnd := by rfl
@[simp] theorem emit_ech (k : OutKind) (u : Nat) (d : List Nat) (s : State) : (emit k u d s).ech = s.ech := by rfl
@[simp] theorem emit_mux (k : OutKind) (u : Nat) (d : List Nat) (s : State) : (emit k u d s).mux = s.mux := by rfl
@[simp] theorem emit_outs (k : OutKind) (u : Nat) (d : List Nat) (s : State) : (emit k u d s).outs = s.outs := by rfl
@[simp] theorem emit_cores (k : OutKind) (u : Nat) (d : List Nat) (s : State) : (emit k u d s).cores = s.cores := by rfl
@[simp] theorem emit_rot (k : OutKind) (u : Nat) (d : List Nat) (s : State) : (emit k u d s).rot = s.rot := by rfl
@[simp] theorem emit_dch (k : OutKind) (u : Nat) (d : List Nat) (s : State) : (emit k u d s).dch = s.dch := by rfl
@[simp] theorem emit_snd (k : OutKind) (u : Nat) (d : List Nat) (s : State) : (emit k u d s).snd = s.snd := by rfl
@[simp] theorem emit_twn (k : OutKind) (u : Nat) (d : List Nat) (s : State) : (emit k u d s).twn = s.twn := by rfl
@[simp] theorem emit_tim (k : OutKind) (u : Nat) (d : List Nat) (s : State) : (emit k u d s).tim = s.tim := by rfl
@[simp] theorem emit_lne (k : OutKind) (u : Nat) (d : List Nat) (s : State) : (emit k u d s).lne = s.lne := by rfl
@[simp] theorem emit_eth (k : OutKind) (u : Nat) (d : List Nat) (s : State) : (emit k u d s).eth = s.eth := by rfl
@[simp] theorem emit_izl (k : OutKind) (u : Nat) (d : List Nat) (s : State) : (emit k u d s).izl = s.izl := by rfl
@[simp] theorem emit_routes (k : OutKind) (u : Nat) (d : List Nat) (s : State) : (emit k u d s).routes = s.routes := by rfl
@[simp] theorem emit_stk (k : OutKind) (u : Nat) (d : List Nat) (s : State) : (emit k u d s).stk = s.stk := by rfl
@[simp] theorem emit_cir (k : OutKind) (u : Nat) (d : List Nat) (s : State) : (emit k u d s).cir = s.cir := by rfl
@[simp] theorem emit_hbm (k : OutKind) (u : Nat) (d : List Nat) (s : State) : (emit k u d s).hbm = s.hbm := by rfl
@[simp] theorem emit_bufs (k : OutKind) (u : Nat) (d : List Nat) (s : State) : (emit k u d s).bufs = s.bufs := by rfl
@[simp] theorem emit_chk (k : OutKind) (u : Nat) (d : List Nat) (s : State) : (emit k u d s).chk = s.chk := by rfl
@[simp] theorem emit_fwl (k : OutKind) (u : Nat) (d : List Nat) (s : State) : (emit k u d s).fwl = s.fwl := by rfl
@[simp] theorem emit_hlt (k : OutKind) (u : Nat) (d : List Nat) (s : State) : (emit k u d s).hlt = s.hlt := by rfl
@[simp] theorem emit_pwr (k : OutKind) (u : Nat) (d : List Nat) (s : State) : (emit k u d s).pwr = s.pwr := by rfl

/-! ## putSession -/

@[simp] theorem putSession_pending (i : Nat) (x : Session) (s : State) : (putSession i x s).pending = s.pending := by rfl
@[simp] theorem putSession_clk (i : Nat) (x : Session) (s : State) : (putSession i x s).clk = s.clk := by rfl
@[simp] theorem putSession_regs (i : Nat) (x : Session) (s : State) : (putSession i x s).regs = s.regs := by rfl
@[simp] theorem putSession_shadow (i : Nat) (x : Session) (s : State) : (putSession i x s).shadow = s.shadow := by rfl
@[simp] theorem putSession_committed (i : Nat) (x : Session) (s : State) : (putSession i x s).committed = s.committed := by rfl
@[simp] theorem putSession_actAt (i : Nat) (x : Session) (s : State) : (putSession i x s).actAt = s.actAt := by rfl
@[simp] theorem putSession_ticks (i : Nat) (x : Session) (s : State) : (putSession i x s).ticks = s.ticks := by rfl
@[simp] theorem putSession_out (i : Nat) (x : Session) (s : State) : (putSession i x s).out = s.out := by rfl
@[simp] theorem putSession_free (i : Nat) (x : Session) (s : State) : (putSession i x s).free = s.free := by rfl
@[simp] theorem putSession_ing (i : Nat) (x : Session) (s : State) : (putSession i x s).ing = s.ing := by rfl
@[simp] theorem putSession_cnd (i : Nat) (x : Session) (s : State) : (putSession i x s).cnd = s.cnd := by rfl
@[simp] theorem putSession_ech (i : Nat) (x : Session) (s : State) : (putSession i x s).ech = s.ech := by rfl
@[simp] theorem putSession_mux (i : Nat) (x : Session) (s : State) : (putSession i x s).mux = s.mux := by rfl
@[simp] theorem putSession_outs (i : Nat) (x : Session) (s : State) : (putSession i x s).outs = s.outs := by rfl
@[simp] theorem putSession_cores (i : Nat) (x : Session) (s : State) : (putSession i x s).cores = s.cores := by rfl
@[simp] theorem putSession_rot (i : Nat) (x : Session) (s : State) : (putSession i x s).rot = s.rot := by rfl
@[simp] theorem putSession_dch (i : Nat) (x : Session) (s : State) : (putSession i x s).dch = s.dch := by rfl
@[simp] theorem putSession_snd (i : Nat) (x : Session) (s : State) : (putSession i x s).snd = s.snd := by rfl
@[simp] theorem putSession_twn (i : Nat) (x : Session) (s : State) : (putSession i x s).twn = s.twn := by rfl
@[simp] theorem putSession_tim (i : Nat) (x : Session) (s : State) : (putSession i x s).tim = s.tim := by rfl
@[simp] theorem putSession_lne (i : Nat) (x : Session) (s : State) : (putSession i x s).lne = s.lne := by rfl
@[simp] theorem putSession_eth (i : Nat) (x : Session) (s : State) : (putSession i x s).eth = s.eth := by rfl
@[simp] theorem putSession_izl (i : Nat) (x : Session) (s : State) : (putSession i x s).izl = s.izl := by rfl
@[simp] theorem putSession_routes (i : Nat) (x : Session) (s : State) : (putSession i x s).routes = s.routes := by rfl
@[simp] theorem putSession_stk (i : Nat) (x : Session) (s : State) : (putSession i x s).stk = s.stk := by rfl
@[simp] theorem putSession_cir (i : Nat) (x : Session) (s : State) : (putSession i x s).cir = s.cir := by rfl
@[simp] theorem putSession_hbm (i : Nat) (x : Session) (s : State) : (putSession i x s).hbm = s.hbm := by rfl
@[simp] theorem putSession_bufs (i : Nat) (x : Session) (s : State) : (putSession i x s).bufs = s.bufs := by rfl
@[simp] theorem putSession_chk (i : Nat) (x : Session) (s : State) : (putSession i x s).chk = s.chk := by rfl
@[simp] theorem putSession_fwl (i : Nat) (x : Session) (s : State) : (putSession i x s).fwl = s.fwl := by rfl
@[simp] theorem putSession_hlt (i : Nat) (x : Session) (s : State) : (putSession i x s).hlt = s.hlt := by rfl
@[simp] theorem putSession_pwr (i : Nat) (x : Session) (s : State) : (putSession i x s).pwr = s.pwr := by rfl

/-! ## notify -/

@[simp] theorem notify_pending (p k : Nat) (s : State) : (notify p k s).pending = s.pending := by rfl
@[simp] theorem notify_clk (p k : Nat) (s : State) : (notify p k s).clk = s.clk := by rfl
@[simp] theorem notify_regs (p k : Nat) (s : State) : (notify p k s).regs = s.regs := by rfl
@[simp] theorem notify_shadow (p k : Nat) (s : State) : (notify p k s).shadow = s.shadow := by rfl
@[simp] theorem notify_committed (p k : Nat) (s : State) : (notify p k s).committed = s.committed := by rfl
@[simp] theorem notify_actAt (p k : Nat) (s : State) : (notify p k s).actAt = s.actAt := by rfl
@[simp] theorem notify_ticks (p k : Nat) (s : State) : (notify p k s).ticks = s.ticks := by rfl
@[simp] theorem notify_out (p k : Nat) (s : State) : (notify p k s).out = s.out := by rfl
@[simp] theorem notify_free (p k : Nat) (s : State) : (notify p k s).free = s.free := by rfl
@[simp] theorem notify_ing (p k : Nat) (s : State) : (notify p k s).ing = s.ing := by rfl
@[simp] theorem notify_cnd (p k : Nat) (s : State) : (notify p k s).cnd = s.cnd := by rfl
@[simp] theorem notify_ech (p k : Nat) (s : State) : (notify p k s).ech = s.ech := by rfl
@[simp] theorem notify_mux (p k : Nat) (s : State) : (notify p k s).mux = s.mux := by rfl
@[simp] theorem notify_outs (p k : Nat) (s : State) : (notify p k s).outs = s.outs := by rfl
@[simp] theorem notify_cores (p k : Nat) (s : State) : (notify p k s).cores = s.cores := by rfl
@[simp] theorem notify_rot (p k : Nat) (s : State) : (notify p k s).rot = s.rot := by rfl
@[simp] theorem notify_dch (p k : Nat) (s : State) : (notify p k s).dch = s.dch := by rfl
@[simp] theorem notify_snd (p k : Nat) (s : State) : (notify p k s).snd = s.snd := by rfl
@[simp] theorem notify_twn (p k : Nat) (s : State) : (notify p k s).twn = s.twn := by rfl
@[simp] theorem notify_tim (p k : Nat) (s : State) : (notify p k s).tim = s.tim := by rfl
@[simp] theorem notify_lne (p k : Nat) (s : State) : (notify p k s).lne = s.lne := by rfl
@[simp] theorem notify_eth (p k : Nat) (s : State) : (notify p k s).eth = s.eth := by rfl
@[simp] theorem notify_izl (p k : Nat) (s : State) : (notify p k s).izl = s.izl := by rfl
@[simp] theorem notify_routes (p k : Nat) (s : State) : (notify p k s).routes = s.routes := by rfl
@[simp] theorem notify_stk (p k : Nat) (s : State) : (notify p k s).stk = s.stk := by rfl
@[simp] theorem notify_cir (p k : Nat) (s : State) : (notify p k s).cir = s.cir := by rfl
@[simp] theorem notify_hbm (p k : Nat) (s : State) : (notify p k s).hbm = s.hbm := by rfl
@[simp] theorem notify_bufs (p k : Nat) (s : State) : (notify p k s).bufs = s.bufs := by rfl
@[simp] theorem notify_chk (p k : Nat) (s : State) : (notify p k s).chk = s.chk := by rfl
@[simp] theorem notify_fwl (p k : Nat) (s : State) : (notify p k s).fwl = s.fwl := by rfl
@[simp] theorem notify_hlt (p k : Nat) (s : State) : (notify p k s).hlt = s.hlt := by rfl
@[simp] theorem notify_pwr (p k : Nat) (s : State) : (notify p k s).pwr = s.pwr := by rfl

/-! ## watNotify -/

@[simp] theorem watNotify_pending (i : Nat) (l : List Byte) (s : State) : (watNotify i l s).pending = s.pending := by rfl
@[simp] theorem watNotify_clk (i : Nat) (l : List Byte) (s : State) : (watNotify i l s).clk = s.clk := by rfl
@[simp] theorem watNotify_regs (i : Nat) (l : List Byte) (s : State) : (watNotify i l s).regs = s.regs := by rfl
@[simp] theorem watNotify_shadow (i : Nat) (l : List Byte) (s : State) : (watNotify i l s).shadow = s.shadow := by rfl
@[simp] theorem watNotify_committed (i : Nat) (l : List Byte) (s : State) : (watNotify i l s).committed = s.committed := by rfl
@[simp] theorem watNotify_actAt (i : Nat) (l : List Byte) (s : State) : (watNotify i l s).actAt = s.actAt := by rfl
@[simp] theorem watNotify_ticks (i : Nat) (l : List Byte) (s : State) : (watNotify i l s).ticks = s.ticks := by rfl
@[simp] theorem watNotify_out (i : Nat) (l : List Byte) (s : State) : (watNotify i l s).out = s.out := by rfl
@[simp] theorem watNotify_free (i : Nat) (l : List Byte) (s : State) : (watNotify i l s).free = s.free := by rfl
@[simp] theorem watNotify_ing (i : Nat) (l : List Byte) (s : State) : (watNotify i l s).ing = s.ing := by rfl
@[simp] theorem watNotify_cnd (i : Nat) (l : List Byte) (s : State) : (watNotify i l s).cnd = s.cnd := by rfl
@[simp] theorem watNotify_ech (i : Nat) (l : List Byte) (s : State) : (watNotify i l s).ech = s.ech := by rfl
@[simp] theorem watNotify_mux (i : Nat) (l : List Byte) (s : State) : (watNotify i l s).mux = s.mux := by rfl
@[simp] theorem watNotify_outs (i : Nat) (l : List Byte) (s : State) : (watNotify i l s).outs = s.outs := by rfl
@[simp] theorem watNotify_cores (i : Nat) (l : List Byte) (s : State) : (watNotify i l s).cores = s.cores := by rfl
@[simp] theorem watNotify_rot (i : Nat) (l : List Byte) (s : State) : (watNotify i l s).rot = s.rot := by rfl
@[simp] theorem watNotify_dch (i : Nat) (l : List Byte) (s : State) : (watNotify i l s).dch = s.dch := by rfl
@[simp] theorem watNotify_snd (i : Nat) (l : List Byte) (s : State) : (watNotify i l s).snd = s.snd := by rfl
@[simp] theorem watNotify_twn (i : Nat) (l : List Byte) (s : State) : (watNotify i l s).twn = s.twn := by rfl
@[simp] theorem watNotify_tim (i : Nat) (l : List Byte) (s : State) : (watNotify i l s).tim = s.tim := by rfl
@[simp] theorem watNotify_lne (i : Nat) (l : List Byte) (s : State) : (watNotify i l s).lne = s.lne := by rfl
@[simp] theorem watNotify_eth (i : Nat) (l : List Byte) (s : State) : (watNotify i l s).eth = s.eth := by rfl
@[simp] theorem watNotify_izl (i : Nat) (l : List Byte) (s : State) : (watNotify i l s).izl = s.izl := by rfl
@[simp] theorem watNotify_routes (i : Nat) (l : List Byte) (s : State) : (watNotify i l s).routes = s.routes := by rfl
@[simp] theorem watNotify_stk (i : Nat) (l : List Byte) (s : State) : (watNotify i l s).stk = s.stk := by rfl
@[simp] theorem watNotify_cir (i : Nat) (l : List Byte) (s : State) : (watNotify i l s).cir = s.cir := by rfl
@[simp] theorem watNotify_hbm (i : Nat) (l : List Byte) (s : State) : (watNotify i l s).hbm = s.hbm := by rfl
@[simp] theorem watNotify_bufs (i : Nat) (l : List Byte) (s : State) : (watNotify i l s).bufs = s.bufs := by rfl
@[simp] theorem watNotify_chk (i : Nat) (l : List Byte) (s : State) : (watNotify i l s).chk = s.chk := by rfl
@[simp] theorem watNotify_fwl (i : Nat) (l : List Byte) (s : State) : (watNotify i l s).fwl = s.fwl := by rfl
@[simp] theorem watNotify_hlt (i : Nat) (l : List Byte) (s : State) : (watNotify i l s).hlt = s.hlt := by rfl
@[simp] theorem watNotify_pwr (i : Nat) (l : List Byte) (s : State) : (watNotify i l s).pwr = s.pwr := by rfl

/-! ## latchFirst -/

@[simp] theorem latchFirst_pending (p k : Nat) (s : State) : (latchFirst p k s).pending = s.pending := by unfold latchFirst; split <;> rfl
@[simp] theorem latchFirst_clk (p k : Nat) (s : State) : (latchFirst p k s).clk = s.clk := by unfold latchFirst; split <;> rfl
@[simp] theorem latchFirst_shadow (p k : Nat) (s : State) : (latchFirst p k s).shadow = s.shadow := by unfold latchFirst; split <;> rfl
@[simp] theorem latchFirst_committed (p k : Nat) (s : State) : (latchFirst p k s).committed = s.committed := by unfold latchFirst; split <;> rfl
@[simp] theorem latchFirst_actAt (p k : Nat) (s : State) : (latchFirst p k s).actAt = s.actAt := by unfold latchFirst; split <;> rfl
@[simp] theorem latchFirst_ticks (p k : Nat) (s : State) : (latchFirst p k s).ticks = s.ticks := by unfold latchFirst; split <;> rfl
@[simp] theorem latchFirst_out (p k : Nat) (s : State) : (latchFirst p k s).out = s.out := by unfold latchFirst; split <;> rfl
@[simp] theorem latchFirst_free (p k : Nat) (s : State) : (latchFirst p k s).free = s.free := by unfold latchFirst; split <;> rfl
@[simp] theorem latchFirst_hap (p k : Nat) (s : State) : (latchFirst p k s).hap = s.hap := by unfold latchFirst; split <;> rfl
@[simp] theorem latchFirst_ing (p k : Nat) (s : State) : (latchFirst p k s).ing = s.ing := by unfold latchFirst; split <;> rfl
@[simp] theorem latchFirst_cnd (p k : Nat) (s : State) : (latchFirst p k s).cnd = s.cnd := by unfold latchFirst; split <;> rfl
@[simp] theorem latchFirst_ech (p k : Nat) (s : State) : (latchFirst p k s).ech = s.ech := by unfold latchFirst; split <;> rfl
@[simp] theorem latchFirst_mux (p k : Nat) (s : State) : (latchFirst p k s).mux = s.mux := by unfold latchFirst; split <;> rfl
@[simp] theorem latchFirst_outs (p k : Nat) (s : State) : (latchFirst p k s).outs = s.outs := by unfold latchFirst; split <;> rfl
@[simp] theorem latchFirst_cores (p k : Nat) (s : State) : (latchFirst p k s).cores = s.cores := by unfold latchFirst; split <;> rfl
@[simp] theorem latchFirst_rot (p k : Nat) (s : State) : (latchFirst p k s).rot = s.rot := by unfold latchFirst; split <;> rfl
@[simp] theorem latchFirst_dch (p k : Nat) (s : State) : (latchFirst p k s).dch = s.dch := by unfold latchFirst; split <;> rfl
@[simp] theorem latchFirst_snd (p k : Nat) (s : State) : (latchFirst p k s).snd = s.snd := by unfold latchFirst; split <;> rfl
@[simp] theorem latchFirst_twn (p k : Nat) (s : State) : (latchFirst p k s).twn = s.twn := by unfold latchFirst; split <;> rfl
@[simp] theorem latchFirst_tim (p k : Nat) (s : State) : (latchFirst p k s).tim = s.tim := by unfold latchFirst; split <;> rfl
@[simp] theorem latchFirst_lne (p k : Nat) (s : State) : (latchFirst p k s).lne = s.lne := by unfold latchFirst; split <;> rfl
@[simp] theorem latchFirst_eth (p k : Nat) (s : State) : (latchFirst p k s).eth = s.eth := by unfold latchFirst; split <;> rfl
@[simp] theorem latchFirst_izl (p k : Nat) (s : State) : (latchFirst p k s).izl = s.izl := by unfold latchFirst; split <;> rfl
@[simp] theorem latchFirst_routes (p k : Nat) (s : State) : (latchFirst p k s).routes = s.routes := by unfold latchFirst; split <;> rfl
@[simp] theorem latchFirst_stk (p k : Nat) (s : State) : (latchFirst p k s).stk = s.stk := by unfold latchFirst; split <;> rfl
@[simp] theorem latchFirst_cir (p k : Nat) (s : State) : (latchFirst p k s).cir = s.cir := by unfold latchFirst; split <;> rfl
@[simp] theorem latchFirst_hbm (p k : Nat) (s : State) : (latchFirst p k s).hbm = s.hbm := by unfold latchFirst; split <;> rfl
@[simp] theorem latchFirst_bufs (p k : Nat) (s : State) : (latchFirst p k s).bufs = s.bufs := by unfold latchFirst; split <;> rfl
@[simp] theorem latchFirst_chk (p k : Nat) (s : State) : (latchFirst p k s).chk = s.chk := by unfold latchFirst; split <;> rfl
@[simp] theorem latchFirst_fwl (p k : Nat) (s : State) : (latchFirst p k s).fwl = s.fwl := by unfold latchFirst; split <;> rfl
@[simp] theorem latchFirst_hlt (p k : Nat) (s : State) : (latchFirst p k s).hlt = s.hlt := by unfold latchFirst; split <;> rfl
@[simp] theorem latchFirst_pwr (p k : Nat) (s : State) : (latchFirst p k s).pwr = s.pwr := by unfold latchFirst; split <;> rfl

/-! ## raise -/

@[simp] theorem raise_pending (p k : Nat) (s : State) : (raise p k s).pending = s.pending := by unfold raise; dsimp only; split <;> simp
@[simp] theorem raise_clk (p k : Nat) (s : State) : (raise p k s).clk = s.clk := by unfold raise; dsimp only; split <;> simp
@[simp] theorem raise_shadow (p k : Nat) (s : State) : (raise p k s).shadow = s.shadow := by unfold raise; dsimp only; split <;> simp
@[simp] theorem raise_committed (p k : Nat) (s : State) : (raise p k s).committed = s.committed := by unfold raise; dsimp only; split <;> simp
@[simp] theorem raise_actAt (p k : Nat) (s : State) : (raise p k s).actAt = s.actAt := by unfold raise; dsimp only; split <;> simp
@[simp] theorem raise_ticks (p k : Nat) (s : State) : (raise p k s).ticks = s.ticks := by unfold raise; dsimp only; split <;> simp
@[simp] theorem raise_out (p k : Nat) (s : State) : (raise p k s).out = s.out := by unfold raise; dsimp only; split <;> simp
@[simp] theorem raise_free (p k : Nat) (s : State) : (raise p k s).free = s.free := by unfold raise; dsimp only; split <;> simp
@[simp] theorem raise_ing (p k : Nat) (s : State) : (raise p k s).ing = s.ing := by unfold raise; dsimp only; split <;> simp
@[simp] theorem raise_cnd (p k : Nat) (s : State) : (raise p k s).cnd = s.cnd := by unfold raise; dsimp only; split <;> simp
@[simp] theorem raise_ech (p k : Nat) (s : State) : (raise p k s).ech = s.ech := by unfold raise; dsimp only; split <;> simp
@[simp] theorem raise_mux (p k : Nat) (s : State) : (raise p k s).mux = s.mux := by unfold raise; dsimp only; split <;> simp
@[simp] theorem raise_outs (p k : Nat) (s : State) : (raise p k s).outs = s.outs := by unfold raise; dsimp only; split <;> simp
@[simp] theorem raise_cores (p k : Nat) (s : State) : (raise p k s).cores = s.cores := by unfold raise; dsimp only; split <;> simp
@[simp] theorem raise_rot (p k : Nat) (s : State) : (raise p k s).rot = s.rot := by unfold raise; dsimp only; split <;> simp
@[simp] theorem raise_dch (p k : Nat) (s : State) : (raise p k s).dch = s.dch := by unfold raise; dsimp only; split <;> simp
@[simp] theorem raise_snd (p k : Nat) (s : State) : (raise p k s).snd = s.snd := by unfold raise; dsimp only; split <;> simp
@[simp] theorem raise_twn (p k : Nat) (s : State) : (raise p k s).twn = s.twn := by unfold raise; dsimp only; split <;> simp
@[simp] theorem raise_tim (p k : Nat) (s : State) : (raise p k s).tim = s.tim := by unfold raise; dsimp only; split <;> simp
@[simp] theorem raise_lne (p k : Nat) (s : State) : (raise p k s).lne = s.lne := by unfold raise; dsimp only; split <;> simp
@[simp] theorem raise_eth (p k : Nat) (s : State) : (raise p k s).eth = s.eth := by unfold raise; dsimp only; split <;> simp
@[simp] theorem raise_izl (p k : Nat) (s : State) : (raise p k s).izl = s.izl := by unfold raise; dsimp only; split <;> simp
@[simp] theorem raise_routes (p k : Nat) (s : State) : (raise p k s).routes = s.routes := by unfold raise; dsimp only; split <;> simp
@[simp] theorem raise_stk (p k : Nat) (s : State) : (raise p k s).stk = s.stk := by unfold raise; dsimp only; split <;> simp
@[simp] theorem raise_cir (p k : Nat) (s : State) : (raise p k s).cir = s.cir := by unfold raise; dsimp only; split <;> simp
@[simp] theorem raise_hbm (p k : Nat) (s : State) : (raise p k s).hbm = s.hbm := by unfold raise; dsimp only; split <;> simp
@[simp] theorem raise_bufs (p k : Nat) (s : State) : (raise p k s).bufs = s.bufs := by unfold raise; dsimp only; split <;> simp
@[simp] theorem raise_chk (p k : Nat) (s : State) : (raise p k s).chk = s.chk := by unfold raise; dsimp only; split <;> simp
@[simp] theorem raise_fwl (p k : Nat) (s : State) : (raise p k s).fwl = s.fwl := by unfold raise; dsimp only; split <;> simp
@[simp] theorem raise_hlt (p k : Nat) (s : State) : (raise p k s).hlt = s.hlt := by unfold raise; dsimp only; split <;> simp
@[simp] theorem raise_pwr (p k : Nat) (s : State) : (raise p k s).pwr = s.pwr := by unfold raise; dsimp only; split <;> simp

/-! ## raiseIf -/

@[simp] theorem raiseIf_pending (c : Bool) (p k : Nat) (s : State) : (raiseIf c p k s).pending = s.pending := by unfold raiseIf; split <;> simp
@[simp] theorem raiseIf_clk (c : Bool) (p k : Nat) (s : State) : (raiseIf c p k s).clk = s.clk := by unfold raiseIf; split <;> simp
@[simp] theorem raiseIf_shadow (c : Bool) (p k : Nat) (s : State) : (raiseIf c p k s).shadow = s.shadow := by unfold raiseIf; split <;> simp
@[simp] theorem raiseIf_committed (c : Bool) (p k : Nat) (s : State) : (raiseIf c p k s).committed = s.committed := by unfold raiseIf; split <;> simp
@[simp] theorem raiseIf_actAt (c : Bool) (p k : Nat) (s : State) : (raiseIf c p k s).actAt = s.actAt := by unfold raiseIf; split <;> simp
@[simp] theorem raiseIf_ticks (c : Bool) (p k : Nat) (s : State) : (raiseIf c p k s).ticks = s.ticks := by unfold raiseIf; split <;> simp
@[simp] theorem raiseIf_out (c : Bool) (p k : Nat) (s : State) : (raiseIf c p k s).out = s.out := by unfold raiseIf; split <;> simp
@[simp] theorem raiseIf_free (c : Bool) (p k : Nat) (s : State) : (raiseIf c p k s).free = s.free := by unfold raiseIf; split <;> simp
@[simp] theorem raiseIf_ing (c : Bool) (p k : Nat) (s : State) : (raiseIf c p k s).ing = s.ing := by unfold raiseIf; split <;> simp
@[simp] theorem raiseIf_cnd (c : Bool) (p k : Nat) (s : State) : (raiseIf c p k s).cnd = s.cnd := by unfold raiseIf; split <;> simp
@[simp] theorem raiseIf_ech (c : Bool) (p k : Nat) (s : State) : (raiseIf c p k s).ech = s.ech := by unfold raiseIf; split <;> simp
@[simp] theorem raiseIf_mux (c : Bool) (p k : Nat) (s : State) : (raiseIf c p k s).mux = s.mux := by unfold raiseIf; split <;> simp
@[simp] theorem raiseIf_outs (c : Bool) (p k : Nat) (s : State) : (raiseIf c p k s).outs = s.outs := by unfold raiseIf; split <;> simp
@[simp] theorem raiseIf_cores (c : Bool) (p k : Nat) (s : State) : (raiseIf c p k s).cores = s.cores := by unfold raiseIf; split <;> simp
@[simp] theorem raiseIf_rot (c : Bool) (p k : Nat) (s : State) : (raiseIf c p k s).rot = s.rot := by unfold raiseIf; split <;> simp
@[simp] theorem raiseIf_dch (c : Bool) (p k : Nat) (s : State) : (raiseIf c p k s).dch = s.dch := by unfold raiseIf; split <;> simp
@[simp] theorem raiseIf_snd (c : Bool) (p k : Nat) (s : State) : (raiseIf c p k s).snd = s.snd := by unfold raiseIf; split <;> simp
@[simp] theorem raiseIf_twn (c : Bool) (p k : Nat) (s : State) : (raiseIf c p k s).twn = s.twn := by unfold raiseIf; split <;> simp
@[simp] theorem raiseIf_tim (c : Bool) (p k : Nat) (s : State) : (raiseIf c p k s).tim = s.tim := by unfold raiseIf; split <;> simp
@[simp] theorem raiseIf_lne (c : Bool) (p k : Nat) (s : State) : (raiseIf c p k s).lne = s.lne := by unfold raiseIf; split <;> simp
@[simp] theorem raiseIf_eth (c : Bool) (p k : Nat) (s : State) : (raiseIf c p k s).eth = s.eth := by unfold raiseIf; split <;> simp
@[simp] theorem raiseIf_izl (c : Bool) (p k : Nat) (s : State) : (raiseIf c p k s).izl = s.izl := by unfold raiseIf; split <;> simp
@[simp] theorem raiseIf_routes (c : Bool) (p k : Nat) (s : State) : (raiseIf c p k s).routes = s.routes := by unfold raiseIf; split <;> simp
@[simp] theorem raiseIf_stk (c : Bool) (p k : Nat) (s : State) : (raiseIf c p k s).stk = s.stk := by unfold raiseIf; split <;> simp
@[simp] theorem raiseIf_cir (c : Bool) (p k : Nat) (s : State) : (raiseIf c p k s).cir = s.cir := by unfold raiseIf; split <;> simp
@[simp] theorem raiseIf_hbm (c : Bool) (p k : Nat) (s : State) : (raiseIf c p k s).hbm = s.hbm := by unfold raiseIf; split <;> simp
@[simp] theorem raiseIf_bufs (c : Bool) (p k : Nat) (s : State) : (raiseIf c p k s).bufs = s.bufs := by unfold raiseIf; split <;> simp
@[simp] theorem raiseIf_chk (c : Bool) (p k : Nat) (s : State) : (raiseIf c p k s).chk = s.chk := by unfold raiseIf; split <;> simp
@[simp] theorem raiseIf_fwl (c : Bool) (p k : Nat) (s : State) : (raiseIf c p k s).fwl = s.fwl := by unfold raiseIf; split <;> simp
@[simp] theorem raiseIf_hlt (c : Bool) (p k : Nat) (s : State) : (raiseIf c p k s).hlt = s.hlt := by unfold raiseIf; split <;> simp
@[simp] theorem raiseIf_pwr (c : Bool) (p k : Nat) (s : State) : (raiseIf c p k s).pwr = s.pwr := by unfold raiseIf; split <;> simp

/-! ## settleTimer -/

@[simp] theorem settleTimer_pending (p : Nat) (s : State) : (settleTimer p s).pending = s.pending := by unfold settleTimer; split <;> rfl
@[simp] theorem settleTimer_clk (p : Nat) (s : State) : (settleTimer p s).clk = s.clk := by unfold settleTimer; split <;> rfl
@[simp] theorem settleTimer_regs (p : Nat) (s : State) : (settleTimer p s).regs = s.regs := by unfold settleTimer; split <;> rfl
@[simp] theorem settleTimer_shadow (p : Nat) (s : State) : (settleTimer p s).shadow = s.shadow := by unfold settleTimer; split <;> rfl
@[simp] theorem settleTimer_committed (p : Nat) (s : State) : (settleTimer p s).committed = s.committed := by unfold settleTimer; split <;> rfl
@[simp] theorem settleTimer_actAt (p : Nat) (s : State) : (settleTimer p s).actAt = s.actAt := by unfold settleTimer; split <;> rfl
@[simp] theorem settleTimer_out (p : Nat) (s : State) : (settleTimer p s).out = s.out := by unfold settleTimer; split <;> rfl
@[simp] theorem settleTimer_free (p : Nat) (s : State) : (settleTimer p s).free = s.free := by unfold settleTimer; split <;> rfl
@[simp] theorem settleTimer_hap (p : Nat) (s : State) : (settleTimer p s).hap = s.hap := by unfold settleTimer; split <;> rfl
@[simp] theorem settleTimer_ing (p : Nat) (s : State) : (settleTimer p s).ing = s.ing := by unfold settleTimer; split <;> rfl
@[simp] theorem settleTimer_cnd (p : Nat) (s : State) : (settleTimer p s).cnd = s.cnd := by unfold settleTimer; split <;> rfl
@[simp] theorem settleTimer_ech (p : Nat) (s : State) : (settleTimer p s).ech = s.ech := by unfold settleTimer; split <;> rfl
@[simp] theorem settleTimer_mux (p : Nat) (s : State) : (settleTimer p s).mux = s.mux := by unfold settleTimer; split <;> rfl
@[simp] theorem settleTimer_outs (p : Nat) (s : State) : (settleTimer p s).outs = s.outs := by unfold settleTimer; split <;> rfl
@[simp] theorem settleTimer_cores (p : Nat) (s : State) : (settleTimer p s).cores = s.cores := by unfold settleTimer; split <;> rfl
@[simp] theorem settleTimer_rot (p : Nat) (s : State) : (settleTimer p s).rot = s.rot := by unfold settleTimer; split <;> rfl
@[simp] theorem settleTimer_dch (p : Nat) (s : State) : (settleTimer p s).dch = s.dch := by unfold settleTimer; split <;> rfl
@[simp] theorem settleTimer_snd (p : Nat) (s : State) : (settleTimer p s).snd = s.snd := by unfold settleTimer; split <;> rfl
@[simp] theorem settleTimer_twn (p : Nat) (s : State) : (settleTimer p s).twn = s.twn := by unfold settleTimer; split <;> rfl
@[simp] theorem settleTimer_tim (p : Nat) (s : State) : (settleTimer p s).tim = s.tim := by unfold settleTimer; split <;> rfl
@[simp] theorem settleTimer_lne (p : Nat) (s : State) : (settleTimer p s).lne = s.lne := by unfold settleTimer; split <;> rfl
@[simp] theorem settleTimer_eth (p : Nat) (s : State) : (settleTimer p s).eth = s.eth := by unfold settleTimer; split <;> rfl
@[simp] theorem settleTimer_izl (p : Nat) (s : State) : (settleTimer p s).izl = s.izl := by unfold settleTimer; split <;> rfl
@[simp] theorem settleTimer_routes (p : Nat) (s : State) : (settleTimer p s).routes = s.routes := by unfold settleTimer; split <;> rfl
@[simp] theorem settleTimer_stk (p : Nat) (s : State) : (settleTimer p s).stk = s.stk := by unfold settleTimer; split <;> rfl
@[simp] theorem settleTimer_cir (p : Nat) (s : State) : (settleTimer p s).cir = s.cir := by unfold settleTimer; split <;> rfl
@[simp] theorem settleTimer_hbm (p : Nat) (s : State) : (settleTimer p s).hbm = s.hbm := by unfold settleTimer; split <;> rfl
@[simp] theorem settleTimer_bufs (p : Nat) (s : State) : (settleTimer p s).bufs = s.bufs := by unfold settleTimer; split <;> rfl
@[simp] theorem settleTimer_chk (p : Nat) (s : State) : (settleTimer p s).chk = s.chk := by unfold settleTimer; split <;> rfl
@[simp] theorem settleTimer_fwl (p : Nat) (s : State) : (settleTimer p s).fwl = s.fwl := by unfold settleTimer; split <;> rfl
@[simp] theorem settleTimer_hlt (p : Nat) (s : State) : (settleTimer p s).hlt = s.hlt := by unfold settleTimer; split <;> rfl
@[simp] theorem settleTimer_pwr (p : Nat) (s : State) : (settleTimer p s).pwr = s.pwr := by unfold settleTimer; split <;> rfl

/-! ## setWats -/

@[simp] theorem setWats_pending (m : SMap WatEntry) (s : State) : (setWats m s).pending = s.pending := by rfl
@[simp] theorem setWats_clk (m : SMap WatEntry) (s : State) : (setWats m s).clk = s.clk := by rfl
@[simp] theorem setWats_shadow (m : SMap WatEntry) (s : State) : (setWats m s).shadow = s.shadow := by rfl
@[simp] theorem setWats_committed (m : SMap WatEntry) (s : State) : (setWats m s).committed = s.committed := by rfl
@[simp] theorem setWats_actAt (m : SMap WatEntry) (s : State) : (setWats m s).actAt = s.actAt := by rfl
@[simp] theorem setWats_ticks (m : SMap WatEntry) (s : State) : (setWats m s).ticks = s.ticks := by rfl
@[simp] theorem setWats_out (m : SMap WatEntry) (s : State) : (setWats m s).out = s.out := by rfl
@[simp] theorem setWats_free (m : SMap WatEntry) (s : State) : (setWats m s).free = s.free := by rfl
@[simp] theorem setWats_ing (m : SMap WatEntry) (s : State) : (setWats m s).ing = s.ing := by rfl
@[simp] theorem setWats_cnd (m : SMap WatEntry) (s : State) : (setWats m s).cnd = s.cnd := by rfl
@[simp] theorem setWats_ech (m : SMap WatEntry) (s : State) : (setWats m s).ech = s.ech := by rfl
@[simp] theorem setWats_mux (m : SMap WatEntry) (s : State) : (setWats m s).mux = s.mux := by rfl
@[simp] theorem setWats_outs (m : SMap WatEntry) (s : State) : (setWats m s).outs = s.outs := by rfl
@[simp] theorem setWats_cores (m : SMap WatEntry) (s : State) : (setWats m s).cores = s.cores := by rfl
@[simp] theorem setWats_rot (m : SMap WatEntry) (s : State) : (setWats m s).rot = s.rot := by rfl
@[simp] theorem setWats_dch (m : SMap WatEntry) (s : State) : (setWats m s).dch = s.dch := by rfl
@[simp] theorem setWats_snd (m : SMap WatEntry) (s : State) : (setWats m s).snd = s.snd := by rfl
@[simp] theorem setWats_twn (m : SMap WatEntry) (s : State) : (setWats m s).twn = s.twn := by rfl
@[simp] theorem setWats_tim (m : SMap WatEntry) (s : State) : (setWats m s).tim = s.tim := by rfl
@[simp] theorem setWats_lne (m : SMap WatEntry) (s : State) : (setWats m s).lne = s.lne := by rfl
@[simp] theorem setWats_eth (m : SMap WatEntry) (s : State) : (setWats m s).eth = s.eth := by rfl
@[simp] theorem setWats_izl (m : SMap WatEntry) (s : State) : (setWats m s).izl = s.izl := by rfl
@[simp] theorem setWats_routes (m : SMap WatEntry) (s : State) : (setWats m s).routes = s.routes := by rfl
@[simp] theorem setWats_stk (m : SMap WatEntry) (s : State) : (setWats m s).stk = s.stk := by rfl
@[simp] theorem setWats_cir (m : SMap WatEntry) (s : State) : (setWats m s).cir = s.cir := by rfl
@[simp] theorem setWats_hbm (m : SMap WatEntry) (s : State) : (setWats m s).hbm = s.hbm := by rfl
@[simp] theorem setWats_bufs (m : SMap WatEntry) (s : State) : (setWats m s).bufs = s.bufs := by rfl
@[simp] theorem setWats_chk (m : SMap WatEntry) (s : State) : (setWats m s).chk = s.chk := by rfl
@[simp] theorem setWats_fwl (m : SMap WatEntry) (s : State) : (setWats m s).fwl = s.fwl := by rfl
@[simp] theorem setWats_hlt (m : SMap WatEntry) (s : State) : (setWats m s).hlt = s.hlt := by rfl
@[simp] theorem setWats_pwr (m : SMap WatEntry) (s : State) : (setWats m s).pwr = s.pwr := by rfl

/-! ## watWithdraw -/

@[simp] theorem watWithdraw_pending (n : Nat) (s : State) : (watWithdraw n s).pending = s.pending := by unfold watWithdraw; split <;> simp
@[simp] theorem watWithdraw_clk (n : Nat) (s : State) : (watWithdraw n s).clk = s.clk := by unfold watWithdraw; split <;> simp
@[simp] theorem watWithdraw_shadow (n : Nat) (s : State) : (watWithdraw n s).shadow = s.shadow := by unfold watWithdraw; split <;> simp
@[simp] theorem watWithdraw_committed (n : Nat) (s : State) : (watWithdraw n s).committed = s.committed := by unfold watWithdraw; split <;> simp
@[simp] theorem watWithdraw_actAt (n : Nat) (s : State) : (watWithdraw n s).actAt = s.actAt := by unfold watWithdraw; split <;> simp
@[simp] theorem watWithdraw_ticks (n : Nat) (s : State) : (watWithdraw n s).ticks = s.ticks := by unfold watWithdraw; split <;> simp
@[simp] theorem watWithdraw_out (n : Nat) (s : State) : (watWithdraw n s).out = s.out := by unfold watWithdraw; split <;> simp
@[simp] theorem watWithdraw_free (n : Nat) (s : State) : (watWithdraw n s).free = s.free := by unfold watWithdraw; split <;> simp
@[simp] theorem watWithdraw_ing (n : Nat) (s : State) : (watWithdraw n s).ing = s.ing := by unfold watWithdraw; split <;> simp
@[simp] theorem watWithdraw_cnd (n : Nat) (s : State) : (watWithdraw n s).cnd = s.cnd := by unfold watWithdraw; split <;> simp
@[simp] theorem watWithdraw_ech (n : Nat) (s : State) : (watWithdraw n s).ech = s.ech := by unfold watWithdraw; split <;> simp
@[simp] theorem watWithdraw_mux (n : Nat) (s : State) : (watWithdraw n s).mux = s.mux := by unfold watWithdraw; split <;> simp
@[simp] theorem watWithdraw_outs (n : Nat) (s : State) : (watWithdraw n s).outs = s.outs := by unfold watWithdraw; split <;> simp
@[simp] theorem watWithdraw_cores (n : Nat) (s : State) : (watWithdraw n s).cores = s.cores := by unfold watWithdraw; split <;> simp
@[simp] theorem watWithdraw_rot (n : Nat) (s : State) : (watWithdraw n s).rot = s.rot := by unfold watWithdraw; split <;> simp
@[simp] theorem watWithdraw_dch (n : Nat) (s : State) : (watWithdraw n s).dch = s.dch := by unfold watWithdraw; split <;> simp
@[simp] theorem watWithdraw_snd (n : Nat) (s : State) : (watWithdraw n s).snd = s.snd := by unfold watWithdraw; split <;> simp
@[simp] theorem watWithdraw_twn (n : Nat) (s : State) : (watWithdraw n s).twn = s.twn := by unfold watWithdraw; split <;> simp
@[simp] theorem watWithdraw_tim (n : Nat) (s : State) : (watWithdraw n s).tim = s.tim := by unfold watWithdraw; split <;> simp
@[simp] theorem watWithdraw_lne (n : Nat) (s : State) : (watWithdraw n s).lne = s.lne := by unfold watWithdraw; split <;> simp
@[simp] theorem watWithdraw_eth (n : Nat) (s : State) : (watWithdraw n s).eth = s.eth := by unfold watWithdraw; split <;> simp
@[simp] theorem watWithdraw_izl (n : Nat) (s : State) : (watWithdraw n s).izl = s.izl := by unfold watWithdraw; split <;> simp
@[simp] theorem watWithdraw_routes (n : Nat) (s : State) : (watWithdraw n s).routes = s.routes := by unfold watWithdraw; split <;> simp
@[simp] theorem watWithdraw_stk (n : Nat) (s : State) : (watWithdraw n s).stk = s.stk := by unfold watWithdraw; split <;> simp
@[simp] theorem watWithdraw_cir (n : Nat) (s : State) : (watWithdraw n s).cir = s.cir := by unfold watWithdraw; split <;> simp
@[simp] theorem watWithdraw_hbm (n : Nat) (s : State) : (watWithdraw n s).hbm = s.hbm := by unfold watWithdraw; split <;> simp
@[simp] theorem watWithdraw_bufs (n : Nat) (s : State) : (watWithdraw n s).bufs = s.bufs := by unfold watWithdraw; split <;> simp
@[simp] theorem watWithdraw_chk (n : Nat) (s : State) : (watWithdraw n s).chk = s.chk := by unfold watWithdraw; split <;> simp
@[simp] theorem watWithdraw_fwl (n : Nat) (s : State) : (watWithdraw n s).fwl = s.fwl := by unfold watWithdraw; split <;> simp
@[simp] theorem watWithdraw_hlt (n : Nat) (s : State) : (watWithdraw n s).hlt = s.hlt := by unfold watWithdraw; split <;> simp
@[simp] theorem watWithdraw_pwr (n : Nat) (s : State) : (watWithdraw n s).pwr = s.pwr := by unfold watWithdraw; split <;> simp

theorem foldl_keeps {α β : Type} (proj : State → β) (g : State → α → State) (h : ∀ s x, proj (g s x) = proj s) (l : List α)
    (s : State) : proj (l.foldl g s) = proj s := by
  induction l generalizing s with
  | nil => rfl
  | cons a t ih => rw [List.foldl_cons, ih, h]

/-! ## watLeave -/

@[simp] theorem watLeave_pending (p : Nat) (s : State) : (watLeave p s).pending = s.pending := by unfold watLeave; exact foldl_keeps (fun s => s.pending) _ (by intros; simp) _ _
@[simp] theorem watLeave_clk (p : Nat) (s : State) : (watLeave p s).clk = s.clk := by unfold watLeave; exact foldl_keeps (fun s => s.clk) _ (by intros; simp) _ _
@[simp] theorem watLeave_shadow (p : Nat) (s : State) : (watLeave p s).shadow = s.shadow := by unfold watLeave; exact foldl_keeps (fun s => s.shadow) _ (by intros; simp) _ _
@[simp] theorem watLeave_committed (p : Nat) (s : State) : (watLeave p s).committed = s.committed := by unfold watLeave; exact foldl_keeps (fun s => s.committed) _ (by intros; simp) _ _
@[simp] theorem watLeave_actAt (p : Nat) (s : State) : (watLeave p s).actAt = s.actAt := by unfold watLeave; exact foldl_keeps (fun s => s.actAt) _ (by intros; simp) _ _
@[simp] theorem watLeave_ticks (p : Nat) (s : State) : (watLeave p s).ticks = s.ticks := by unfold watLeave; exact foldl_keeps (fun s => s.ticks) _ (by intros; simp) _ _
@[simp] theorem watLeave_out (p : Nat) (s : State) : (watLeave p s).out = s.out := by unfold watLeave; exact foldl_keeps (fun s => s.out) _ (by intros; simp) _ _
@[simp] theorem watLeave_free (p : Nat) (s : State) : (watLeave p s).free = s.free := by unfold watLeave; exact foldl_keeps (fun s => s.free) _ (by intros; simp) _ _
@[simp] theorem watLeave_ing (p : Nat) (s : State) : (watLeave p s).ing = s.ing := by unfold watLeave; exact foldl_keeps (fun s => s.ing) _ (by intros; simp) _ _
@[simp] theorem watLeave_cnd (p : Nat) (s : State) : (watLeave p s).cnd = s.cnd := by unfold watLeave; exact foldl_keeps (fun s => s.cnd) _ (by intros; simp) _ _
@[simp] theorem watLeave_ech (p : Nat) (s : State) : (watLeave p s).ech = s.ech := by unfold watLeave; exact foldl_keeps (fun s => s.ech) _ (by intros; simp) _ _
@[simp] theorem watLeave_mux (p : Nat) (s : State) : (watLeave p s).mux = s.mux := by unfold watLeave; exact foldl_keeps (fun s => s.mux) _ (by intros; simp) _ _
@[simp] theorem watLeave_outs (p : Nat) (s : State) : (watLeave p s).outs = s.outs := by unfold watLeave; exact foldl_keeps (fun s => s.outs) _ (by intros; simp) _ _
@[simp] theorem watLeave_cores (p : Nat) (s : State) : (watLeave p s).cores = s.cores := by unfold watLeave; exact foldl_keeps (fun s => s.cores) _ (by intros; simp) _ _
@[simp] theorem watLeave_rot (p : Nat) (s : State) : (watLeave p s).rot = s.rot := by unfold watLeave; exact foldl_keeps (fun s => s.rot) _ (by intros; simp) _ _
@[simp] theorem watLeave_dch (p : Nat) (s : State) : (watLeave p s).dch = s.dch := by unfold watLeave; exact foldl_keeps (fun s => s.dch) _ (by intros; simp) _ _
@[simp] theorem watLeave_snd (p : Nat) (s : State) : (watLeave p s).snd = s.snd := by unfold watLeave; exact foldl_keeps (fun s => s.snd) _ (by intros; simp) _ _
@[simp] theorem watLeave_twn (p : Nat) (s : State) : (watLeave p s).twn = s.twn := by unfold watLeave; exact foldl_keeps (fun s => s.twn) _ (by intros; simp) _ _
@[simp] theorem watLeave_tim (p : Nat) (s : State) : (watLeave p s).tim = s.tim := by unfold watLeave; exact foldl_keeps (fun s => s.tim) _ (by intros; simp) _ _
@[simp] theorem watLeave_lne (p : Nat) (s : State) : (watLeave p s).lne = s.lne := by unfold watLeave; exact foldl_keeps (fun s => s.lne) _ (by intros; simp) _ _
@[simp] theorem watLeave_eth (p : Nat) (s : State) : (watLeave p s).eth = s.eth := by unfold watLeave; exact foldl_keeps (fun s => s.eth) _ (by intros; simp) _ _
@[simp] theorem watLeave_izl (p : Nat) (s : State) : (watLeave p s).izl = s.izl := by unfold watLeave; exact foldl_keeps (fun s => s.izl) _ (by intros; simp) _ _
@[simp] theorem watLeave_routes (p : Nat) (s : State) : (watLeave p s).routes = s.routes := by unfold watLeave; exact foldl_keeps (fun s => s.routes) _ (by intros; simp) _ _
@[simp] theorem watLeave_stk (p : Nat) (s : State) : (watLeave p s).stk = s.stk := by unfold watLeave; exact foldl_keeps (fun s => s.stk) _ (by intros; simp) _ _
@[simp] theorem watLeave_cir (p : Nat) (s : State) : (watLeave p s).cir = s.cir := by unfold watLeave; exact foldl_keeps (fun s => s.cir) _ (by intros; simp) _ _
@[simp] theorem watLeave_hbm (p : Nat) (s : State) : (watLeave p s).hbm = s.hbm := by unfold watLeave; exact foldl_keeps (fun s => s.hbm) _ (by intros; simp) _ _
@[simp] theorem watLeave_bufs (p : Nat) (s : State) : (watLeave p s).bufs = s.bufs := by unfold watLeave; exact foldl_keeps (fun s => s.bufs) _ (by intros; simp) _ _
@[simp] theorem watLeave_chk (p : Nat) (s : State) : (watLeave p s).chk = s.chk := by unfold watLeave; exact foldl_keeps (fun s => s.chk) _ (by intros; simp) _ _
@[simp] theorem watLeave_fwl (p : Nat) (s : State) : (watLeave p s).fwl = s.fwl := by unfold watLeave; exact foldl_keeps (fun s => s.fwl) _ (by intros; simp) _ _
@[simp] theorem watLeave_hlt (p : Nat) (s : State) : (watLeave p s).hlt = s.hlt := by unfold watLeave; exact foldl_keeps (fun s => s.hlt) _ (by intros; simp) _ _
@[simp] theorem watLeave_pwr (p : Nat) (s : State) : (watLeave p s).pwr = s.pwr := by unfold watLeave; exact foldl_keeps (fun s => s.pwr) _ (by intros; simp) _ _

/-! ## sourceGone -/

@[simp] theorem sourceGone_pending (p : Nat) (s : State) : (sourceGone p s).pending = s.pending := by unfold sourceGone; exact foldl_keeps (fun s => s.pending) _ (by intros; simp) _ _
@[simp] theorem sourceGone_clk (p : Nat) (s : State) : (sourceGone p s).clk = s.clk := by unfold sourceGone; exact foldl_keeps (fun s => s.clk) _ (by intros; simp) _ _
@[simp] theorem sourceGone_shadow (p : Nat) (s : State) : (sourceGone p s).shadow = s.shadow := by unfold sourceGone; exact foldl_keeps (fun s => s.shadow) _ (by intros; simp) _ _
@[simp] theorem sourceGone_committed (p : Nat) (s : State) : (sourceGone p s).committed = s.committed := by unfold sourceGone; exact foldl_keeps (fun s => s.committed) _ (by intros; simp) _ _
@[simp] theorem sourceGone_actAt (p : Nat) (s : State) : (sourceGone p s).actAt = s.actAt := by unfold sourceGone; exact foldl_keeps (fun s => s.actAt) _ (by intros; simp) _ _
@[simp] theorem sourceGone_ticks (p : Nat) (s : State) : (sourceGone p s).ticks = s.ticks := by unfold sourceGone; exact foldl_keeps (fun s => s.ticks) _ (by intros; simp) _ _
@[simp] theorem sourceGone_out (p : Nat) (s : State) : (sourceGone p s).out = s.out := by unfold sourceGone; exact foldl_keeps (fun s => s.out) _ (by intros; simp) _ _
@[simp] theorem sourceGone_free (p : Nat) (s : State) : (sourceGone p s).free = s.free := by unfold sourceGone; exact foldl_keeps (fun s => s.free) _ (by intros; simp) _ _
@[simp] theorem sourceGone_ing (p : Nat) (s : State) : (sourceGone p s).ing = s.ing := by unfold sourceGone; exact foldl_keeps (fun s => s.ing) _ (by intros; simp) _ _
@[simp] theorem sourceGone_cnd (p : Nat) (s : State) : (sourceGone p s).cnd = s.cnd := by unfold sourceGone; exact foldl_keeps (fun s => s.cnd) _ (by intros; simp) _ _
@[simp] theorem sourceGone_ech (p : Nat) (s : State) : (sourceGone p s).ech = s.ech := by unfold sourceGone; exact foldl_keeps (fun s => s.ech) _ (by intros; simp) _ _
@[simp] theorem sourceGone_mux (p : Nat) (s : State) : (sourceGone p s).mux = s.mux := by unfold sourceGone; exact foldl_keeps (fun s => s.mux) _ (by intros; simp) _ _
@[simp] theorem sourceGone_outs (p : Nat) (s : State) : (sourceGone p s).outs = s.outs := by unfold sourceGone; exact foldl_keeps (fun s => s.outs) _ (by intros; simp) _ _
@[simp] theorem sourceGone_cores (p : Nat) (s : State) : (sourceGone p s).cores = s.cores := by unfold sourceGone; exact foldl_keeps (fun s => s.cores) _ (by intros; simp) _ _
@[simp] theorem sourceGone_rot (p : Nat) (s : State) : (sourceGone p s).rot = s.rot := by unfold sourceGone; exact foldl_keeps (fun s => s.rot) _ (by intros; simp) _ _
@[simp] theorem sourceGone_dch (p : Nat) (s : State) : (sourceGone p s).dch = s.dch := by unfold sourceGone; exact foldl_keeps (fun s => s.dch) _ (by intros; simp) _ _
@[simp] theorem sourceGone_snd (p : Nat) (s : State) : (sourceGone p s).snd = s.snd := by unfold sourceGone; exact foldl_keeps (fun s => s.snd) _ (by intros; simp) _ _
@[simp] theorem sourceGone_twn (p : Nat) (s : State) : (sourceGone p s).twn = s.twn := by unfold sourceGone; exact foldl_keeps (fun s => s.twn) _ (by intros; simp) _ _
@[simp] theorem sourceGone_tim (p : Nat) (s : State) : (sourceGone p s).tim = s.tim := by unfold sourceGone; exact foldl_keeps (fun s => s.tim) _ (by intros; simp) _ _
@[simp] theorem sourceGone_lne (p : Nat) (s : State) : (sourceGone p s).lne = s.lne := by unfold sourceGone; exact foldl_keeps (fun s => s.lne) _ (by intros; simp) _ _
@[simp] theorem sourceGone_eth (p : Nat) (s : State) : (sourceGone p s).eth = s.eth := by unfold sourceGone; exact foldl_keeps (fun s => s.eth) _ (by intros; simp) _ _
@[simp] theorem sourceGone_izl (p : Nat) (s : State) : (sourceGone p s).izl = s.izl := by unfold sourceGone; exact foldl_keeps (fun s => s.izl) _ (by intros; simp) _ _
@[simp] theorem sourceGone_routes (p : Nat) (s : State) : (sourceGone p s).routes = s.routes := by unfold sourceGone; exact foldl_keeps (fun s => s.routes) _ (by intros; simp) _ _
@[simp] theorem sourceGone_stk (p : Nat) (s : State) : (sourceGone p s).stk = s.stk := by unfold sourceGone; exact foldl_keeps (fun s => s.stk) _ (by intros; simp) _ _
@[simp] theorem sourceGone_cir (p : Nat) (s : State) : (sourceGone p s).cir = s.cir := by unfold sourceGone; exact foldl_keeps (fun s => s.cir) _ (by intros; simp) _ _
@[simp] theorem sourceGone_hbm (p : Nat) (s : State) : (sourceGone p s).hbm = s.hbm := by unfold sourceGone; exact foldl_keeps (fun s => s.hbm) _ (by intros; simp) _ _
@[simp] theorem sourceGone_bufs (p : Nat) (s : State) : (sourceGone p s).bufs = s.bufs := by unfold sourceGone; exact foldl_keeps (fun s => s.bufs) _ (by intros; simp) _ _
@[simp] theorem sourceGone_chk (p : Nat) (s : State) : (sourceGone p s).chk = s.chk := by unfold sourceGone; exact foldl_keeps (fun s => s.chk) _ (by intros; simp) _ _
@[simp] theorem sourceGone_fwl (p : Nat) (s : State) : (sourceGone p s).fwl = s.fwl := by unfold sourceGone; exact foldl_keeps (fun s => s.fwl) _ (by intros; simp) _ _
@[simp] theorem sourceGone_hlt (p : Nat) (s : State) : (sourceGone p s).hlt = s.hlt := by unfold sourceGone; exact foldl_keeps (fun s => s.hlt) _ (by intros; simp) _ _
@[simp] theorem sourceGone_pwr (p : Nat) (s : State) : (sourceGone p s).pwr = s.pwr := by unfold sourceGone; exact foldl_keeps (fun s => s.pwr) _ (by intros; simp) _ _

/-! ## setAct -/

@[simp] theorem setAct_pending (p st r : Nat) (s : State) : (setAct p st r s).pending = s.pending := by unfold setAct; dsimp only; split <;> split <;> (try split) <;> simp
@[simp] theorem setAct_clk (p st r : Nat) (s : State) : (setAct p st r s).clk = s.clk := by unfold setAct; dsimp only; split <;> split <;> (try split) <;> simp
@[simp] theorem setAct_shadow (p st r : Nat) (s : State) : (setAct p st r s).shadow = s.shadow := by unfold setAct; dsimp only; split <;> split <;> (try split) <;> simp
@[simp] theorem setAct_committed (p st r : Nat) (s : State) : (setAct p st r s).committed = s.committed := by unfold setAct; dsimp only; split <;> split <;> (try split) <;> simp
@[simp] theorem setAct_out (p st r : Nat) (s : State) : (setAct p st r s).out = s.out := by unfold setAct; dsimp only; split <;> split <;> (try split) <;> simp
@[simp] theorem setAct_free (p st r : Nat) (s : State) : (setAct p st r s).free = s.free := by unfold setAct; dsimp only; split <;> split <;> (try split) <;> simp
@[simp] theorem setAct_ing (p st r : Nat) (s : State) : (setAct p st r s).ing = s.ing := by unfold setAct; dsimp only; split <;> split <;> (try split) <;> simp
@[simp] theorem setAct_cnd (p st r : Nat) (s : State) : (setAct p st r s).cnd = s.cnd := by unfold setAct; dsimp only; split <;> split <;> (try split) <;> simp
@[simp] theorem setAct_ech (p st r : Nat) (s : State) : (setAct p st r s).ech = s.ech := by unfold setAct; dsimp only; split <;> split <;> (try split) <;> simp
@[simp] theorem setAct_mux (p st r : Nat) (s : State) : (setAct p st r s).mux = s.mux := by unfold setAct; dsimp only; split <;> split <;> (try split) <;> simp
@[simp] theorem setAct_outs (p st r : Nat) (s : State) : (setAct p st r s).outs = s.outs := by unfold setAct; dsimp only; split <;> split <;> (try split) <;> simp
@[simp] theorem setAct_cores (p st r : Nat) (s : State) : (setAct p st r s).cores = s.cores := by unfold setAct; dsimp only; split <;> split <;> (try split) <;> simp
@[simp] theorem setAct_rot (p st r : Nat) (s : State) : (setAct p st r s).rot = s.rot := by unfold setAct; dsimp only; split <;> split <;> (try split) <;> simp
@[simp] theorem setAct_dch (p st r : Nat) (s : State) : (setAct p st r s).dch = s.dch := by unfold setAct; dsimp only; split <;> split <;> (try split) <;> simp
@[simp] theorem setAct_snd (p st r : Nat) (s : State) : (setAct p st r s).snd = s.snd := by unfold setAct; dsimp only; split <;> split <;> (try split) <;> simp
@[simp] theorem setAct_twn (p st r : Nat) (s : State) : (setAct p st r s).twn = s.twn := by unfold setAct; dsimp only; split <;> split <;> (try split) <;> simp
@[simp] theorem setAct_tim (p st r : Nat) (s : State) : (setAct p st r s).tim = s.tim := by unfold setAct; dsimp only; split <;> split <;> (try split) <;> simp
@[simp] theorem setAct_lne (p st r : Nat) (s : State) : (setAct p st r s).lne = s.lne := by unfold setAct; dsimp only; split <;> split <;> (try split) <;> simp
@[simp] theorem setAct_eth (p st r : Nat) (s : State) : (setAct p st r s).eth = s.eth := by unfold setAct; dsimp only; split <;> split <;> (try split) <;> simp
@[simp] theorem setAct_izl (p st r : Nat) (s : State) : (setAct p st r s).izl = s.izl := by unfold setAct; dsimp only; split <;> split <;> (try split) <;> simp
@[simp] theorem setAct_routes (p st r : Nat) (s : State) : (setAct p st r s).routes = s.routes := by unfold setAct; dsimp only; split <;> split <;> (try split) <;> simp
@[simp] theorem setAct_stk (p st r : Nat) (s : State) : (setAct p st r s).stk = s.stk := by unfold setAct; dsimp only; split <;> split <;> (try split) <;> simp
@[simp] theorem setAct_cir (p st r : Nat) (s : State) : (setAct p st r s).cir = s.cir := by unfold setAct; dsimp only; split <;> split <;> (try split) <;> simp
@[simp] theorem setAct_hbm (p st r : Nat) (s : State) : (setAct p st r s).hbm = s.hbm := by unfold setAct; dsimp only; split <;> split <;> (try split) <;> simp
@[simp] theorem setAct_bufs (p st r : Nat) (s : State) : (setAct p st r s).bufs = s.bufs := by unfold setAct; dsimp only; split <;> split <;> (try split) <;> simp
@[simp] theorem setAct_chk (p st r : Nat) (s : State) : (setAct p st r s).chk = s.chk := by unfold setAct; dsimp only; split <;> split <;> (try split) <;> simp
@[simp] theorem setAct_fwl (p st r : Nat) (s : State) : (setAct p st r s).fwl = s.fwl := by unfold setAct; dsimp only; split <;> split <;> (try split) <;> simp
@[simp] theorem setAct_hlt (p st r : Nat) (s : State) : (setAct p st r s).hlt = s.hlt := by unfold setAct; dsimp only; split <;> split <;> (try split) <;> simp
@[simp] theorem setAct_pwr (p st r : Nat) (s : State) : (setAct p st r s).pwr = s.pwr := by unfold setAct; dsimp only; split <;> split <;> (try split) <;> simp

/-! ## takeGen -/

@[simp] theorem takeGen_pending (p : Nat) (s : State) : (takeGen p s).pending = s.pending := by unfold takeGen; split <;> simp [foldl_keeps (fun s => s.pending) _ (fun _ _ => setF_pending _ _ _ _)]
@[simp] theorem takeGen_clk (p : Nat) (s : State) : (takeGen p s).clk = s.clk := by unfold takeGen; split <;> simp [foldl_keeps (fun s => s.clk) _ (fun _ _ => setF_clk _ _ _ _)]
@[simp] theorem takeGen_shadow (p : Nat) (s : State) : (takeGen p s).shadow = s.shadow := by unfold takeGen; split <;> simp [foldl_keeps (fun s => s.shadow) _ (fun _ _ => setF_shadow _ _ _ _)]
@[simp] theorem takeGen_committed (p : Nat) (s : State) : (takeGen p s).committed = s.committed := by unfold takeGen; split <;> simp [foldl_keeps (fun s => s.committed) _ (fun _ _ => setF_committed _ _ _ _)]
@[simp] theorem takeGen_actAt (p : Nat) (s : State) : (takeGen p s).actAt = s.actAt := by unfold takeGen; split <;> simp [foldl_keeps (fun s => s.actAt) _ (fun _ _ => setF_actAt _ _ _ _)]
@[simp] theorem takeGen_ticks (p : Nat) (s : State) : (takeGen p s).ticks = s.ticks := by unfold takeGen; split <;> simp [foldl_keeps (fun s => s.ticks) _ (fun _ _ => setF_ticks _ _ _ _)]
@[simp] theorem takeGen_out (p : Nat) (s : State) : (takeGen p s).out = s.out := by unfold takeGen; split <;> simp [foldl_keeps (fun s => s.out) _ (fun _ _ => setF_out _ _ _ _)]
@[simp] theorem takeGen_free (p : Nat) (s : State) : (takeGen p s).free = s.free := by unfold takeGen; split <;> simp [foldl_keeps (fun s => s.free) _ (fun _ _ => setF_free _ _ _ _)]
@[simp] theorem takeGen_ing (p : Nat) (s : State) : (takeGen p s).ing = s.ing := by unfold takeGen; split <;> simp [foldl_keeps (fun s => s.ing) _ (fun _ _ => setF_ing _ _ _ _)]
@[simp] theorem takeGen_cnd (p : Nat) (s : State) : (takeGen p s).cnd = s.cnd := by unfold takeGen; split <;> simp [foldl_keeps (fun s => s.cnd) _ (fun _ _ => setF_cnd _ _ _ _)]
@[simp] theorem takeGen_ech (p : Nat) (s : State) : (takeGen p s).ech = s.ech := by unfold takeGen; split <;> simp [foldl_keeps (fun s => s.ech) _ (fun _ _ => setF_ech _ _ _ _)]
@[simp] theorem takeGen_mux (p : Nat) (s : State) : (takeGen p s).mux = s.mux := by unfold takeGen; split <;> simp [foldl_keeps (fun s => s.mux) _ (fun _ _ => setF_mux _ _ _ _)]
@[simp] theorem takeGen_outs (p : Nat) (s : State) : (takeGen p s).outs = s.outs := by unfold takeGen; split <;> simp [foldl_keeps (fun s => s.outs) _ (fun _ _ => setF_outs _ _ _ _)]
@[simp] theorem takeGen_cores (p : Nat) (s : State) : (takeGen p s).cores = s.cores := by unfold takeGen; split <;> simp [foldl_keeps (fun s => s.cores) _ (fun _ _ => setF_cores _ _ _ _)]
@[simp] theorem takeGen_rot (p : Nat) (s : State) : (takeGen p s).rot = s.rot := by unfold takeGen; split <;> simp [foldl_keeps (fun s => s.rot) _ (fun _ _ => setF_rot _ _ _ _)]
@[simp] theorem takeGen_dch (p : Nat) (s : State) : (takeGen p s).dch = s.dch := by unfold takeGen; split <;> simp [foldl_keeps (fun s => s.dch) _ (fun _ _ => setF_dch _ _ _ _)]
@[simp] theorem takeGen_snd (p : Nat) (s : State) : (takeGen p s).snd = s.snd := by unfold takeGen; split <;> simp [foldl_keeps (fun s => s.snd) _ (fun _ _ => setF_snd _ _ _ _)]
@[simp] theorem takeGen_twn (p : Nat) (s : State) : (takeGen p s).twn = s.twn := by unfold takeGen; split <;> simp [foldl_keeps (fun s => s.twn) _ (fun _ _ => setF_twn _ _ _ _)]
@[simp] theorem takeGen_tim (p : Nat) (s : State) : (takeGen p s).tim = s.tim := by unfold takeGen; split <;> simp [foldl_keeps (fun s => s.tim) _ (fun _ _ => setF_tim _ _ _ _)]
@[simp] theorem takeGen_lne (p : Nat) (s : State) : (takeGen p s).lne = s.lne := by unfold takeGen; split <;> simp [foldl_keeps (fun s => s.lne) _ (fun _ _ => setF_lne _ _ _ _)]
@[simp] theorem takeGen_eth (p : Nat) (s : State) : (takeGen p s).eth = s.eth := by unfold takeGen; split <;> simp [foldl_keeps (fun s => s.eth) _ (fun _ _ => setF_eth _ _ _ _)]
@[simp] theorem takeGen_izl (p : Nat) (s : State) : (takeGen p s).izl = s.izl := by unfold takeGen; split <;> simp [foldl_keeps (fun s => s.izl) _ (fun _ _ => setF_izl _ _ _ _)]
@[simp] theorem takeGen_routes (p : Nat) (s : State) : (takeGen p s).routes = s.routes := by unfold takeGen; split <;> simp [foldl_keeps (fun s => s.routes) _ (fun _ _ => setF_routes _ _ _ _)]
@[simp] theorem takeGen_stk (p : Nat) (s : State) : (takeGen p s).stk = s.stk := by unfold takeGen; split <;> simp [foldl_keeps (fun s => s.stk) _ (fun _ _ => setF_stk _ _ _ _)]
@[simp] theorem takeGen_cir (p : Nat) (s : State) : (takeGen p s).cir = s.cir := by unfold takeGen; split <;> simp [foldl_keeps (fun s => s.cir) _ (fun _ _ => setF_cir _ _ _ _)]
@[simp] theorem takeGen_hbm (p : Nat) (s : State) : (takeGen p s).hbm = s.hbm := by unfold takeGen; split <;> simp [foldl_keeps (fun s => s.hbm) _ (fun _ _ => setF_hbm _ _ _ _)]
@[simp] theorem takeGen_bufs (p : Nat) (s : State) : (takeGen p s).bufs = s.bufs := by unfold takeGen; split <;> simp [foldl_keeps (fun s => s.bufs) _ (fun _ _ => setF_bufs _ _ _ _)]
@[simp] theorem takeGen_chk (p : Nat) (s : State) : (takeGen p s).chk = s.chk := by unfold takeGen; split <;> simp [foldl_keeps (fun s => s.chk) _ (fun _ _ => setF_chk _ _ _ _)]
@[simp] theorem takeGen_fwl (p : Nat) (s : State) : (takeGen p s).fwl = s.fwl := by unfold takeGen; split <;> simp [foldl_keeps (fun s => s.fwl) _ (fun _ _ => setF_fwl _ _ _ _)]
@[simp] theorem takeGen_hlt (p : Nat) (s : State) : (takeGen p s).hlt = s.hlt := by unfold takeGen; split <;> simp [foldl_keeps (fun s => s.hlt) _ (fun _ _ => setF_hlt _ _ _ _)]
@[simp] theorem takeGen_pwr (p : Nat) (s : State) : (takeGen p s).pwr = s.pwr := by unfold takeGen; split <;> simp [foldl_keeps (fun s => s.pwr) _ (fun _ _ => setF_pwr _ _ _ _)]

/-! ## toFault -/

@[simp] theorem toFault_pending (p r : Nat) (s : State) : (toFault p r s).pending = s.pending := by unfold toFault; simp
@[simp] theorem toFault_clk (p r : Nat) (s : State) : (toFault p r s).clk = s.clk := by unfold toFault; simp
@[simp] theorem toFault_shadow (p r : Nat) (s : State) : (toFault p r s).shadow = s.shadow := by unfold toFault; simp
@[simp] theorem toFault_committed (p r : Nat) (s : State) : (toFault p r s).committed = s.committed := by unfold toFault; simp
@[simp] theorem toFault_out (p r : Nat) (s : State) : (toFault p r s).out = s.out := by unfold toFault; simp
@[simp] theorem toFault_free (p r : Nat) (s : State) : (toFault p r s).free = s.free := by unfold toFault; simp
@[simp] theorem toFault_ing (p r : Nat) (s : State) : (toFault p r s).ing = s.ing := by unfold toFault; simp
@[simp] theorem toFault_cnd (p r : Nat) (s : State) : (toFault p r s).cnd = s.cnd := by unfold toFault; simp
@[simp] theorem toFault_ech (p r : Nat) (s : State) : (toFault p r s).ech = s.ech := by unfold toFault; simp
@[simp] theorem toFault_mux (p r : Nat) (s : State) : (toFault p r s).mux = s.mux := by unfold toFault; simp
@[simp] theorem toFault_outs (p r : Nat) (s : State) : (toFault p r s).outs = s.outs := by unfold toFault; simp
@[simp] theorem toFault_cores (p r : Nat) (s : State) : (toFault p r s).cores = s.cores := by unfold toFault; simp
@[simp] theorem toFault_rot (p r : Nat) (s : State) : (toFault p r s).rot = s.rot := by unfold toFault; simp
@[simp] theorem toFault_dch (p r : Nat) (s : State) : (toFault p r s).dch = s.dch := by unfold toFault; simp
@[simp] theorem toFault_snd (p r : Nat) (s : State) : (toFault p r s).snd = s.snd := by unfold toFault; simp
@[simp] theorem toFault_twn (p r : Nat) (s : State) : (toFault p r s).twn = s.twn := by unfold toFault; simp
@[simp] theorem toFault_tim (p r : Nat) (s : State) : (toFault p r s).tim = s.tim := by unfold toFault; simp
@[simp] theorem toFault_lne (p r : Nat) (s : State) : (toFault p r s).lne = s.lne := by unfold toFault; simp
@[simp] theorem toFault_eth (p r : Nat) (s : State) : (toFault p r s).eth = s.eth := by unfold toFault; simp
@[simp] theorem toFault_izl (p r : Nat) (s : State) : (toFault p r s).izl = s.izl := by unfold toFault; simp
@[simp] theorem toFault_routes (p r : Nat) (s : State) : (toFault p r s).routes = s.routes := by unfold toFault; simp
@[simp] theorem toFault_stk (p r : Nat) (s : State) : (toFault p r s).stk = s.stk := by unfold toFault; simp
@[simp] theorem toFault_cir (p r : Nat) (s : State) : (toFault p r s).cir = s.cir := by unfold toFault; simp
@[simp] theorem toFault_hbm (p r : Nat) (s : State) : (toFault p r s).hbm = s.hbm := by unfold toFault; simp
@[simp] theorem toFault_bufs (p r : Nat) (s : State) : (toFault p r s).bufs = s.bufs := by unfold toFault; simp
@[simp] theorem toFault_chk (p r : Nat) (s : State) : (toFault p r s).chk = s.chk := by unfold toFault; simp
@[simp] theorem toFault_fwl (p r : Nat) (s : State) : (toFault p r s).fwl = s.fwl := by unfold toFault; simp
@[simp] theorem toFault_hlt (p r : Nat) (s : State) : (toFault p r s).hlt = s.hlt := by unfold toFault; simp
@[simp] theorem toFault_pwr (p r : Nat) (s : State) : (toFault p r s).pwr = s.pwr := by unfold toFault; simp

/-! ## reply -/

@[simp] theorem reply_pending (r : Req) (c a : Nat) (st : Status) (b : List Byte) (s : State) : (reply r c a st b s).pending = s.pending := by unfold reply; (repeat' split) <;> simp
@[simp] theorem reply_clk (r : Req) (c a : Nat) (st : Status) (b : List Byte) (s : State) : (reply r c a st b s).clk = s.clk := by unfold reply; (repeat' split) <;> simp
@[simp] theorem reply_shadow (r : Req) (c a : Nat) (st : Status) (b : List Byte) (s : State) : (reply r c a st b s).shadow = s.shadow := by unfold reply; (repeat' split) <;> simp
@[simp] theorem reply_committed (r : Req) (c a : Nat) (st : Status) (b : List Byte) (s : State) : (reply r c a st b s).committed = s.committed := by unfold reply; (repeat' split) <;> simp
@[simp] theorem reply_actAt (r : Req) (c a : Nat) (st : Status) (b : List Byte) (s : State) : (reply r c a st b s).actAt = s.actAt := by unfold reply; (repeat' split) <;> simp
@[simp] theorem reply_ticks (r : Req) (c a : Nat) (st : Status) (b : List Byte) (s : State) : (reply r c a st b s).ticks = s.ticks := by unfold reply; (repeat' split) <;> simp
@[simp] theorem reply_out (r : Req) (c a : Nat) (st : Status) (b : List Byte) (s : State) : (reply r c a st b s).out = s.out := by unfold reply; (repeat' split) <;> simp
@[simp] theorem reply_free (r : Req) (c a : Nat) (st : Status) (b : List Byte) (s : State) : (reply r c a st b s).free = s.free := by unfold reply; (repeat' split) <;> simp
@[simp] theorem reply_ing (r : Req) (c a : Nat) (st : Status) (b : List Byte) (s : State) : (reply r c a st b s).ing = s.ing := by unfold reply; (repeat' split) <;> simp
@[simp] theorem reply_cnd (r : Req) (c a : Nat) (st : Status) (b : List Byte) (s : State) : (reply r c a st b s).cnd = s.cnd := by unfold reply; (repeat' split) <;> simp
@[simp] theorem reply_ech (r : Req) (c a : Nat) (st : Status) (b : List Byte) (s : State) : (reply r c a st b s).ech = s.ech := by unfold reply; (repeat' split) <;> simp
@[simp] theorem reply_mux (r : Req) (c a : Nat) (st : Status) (b : List Byte) (s : State) : (reply r c a st b s).mux = s.mux := by unfold reply; (repeat' split) <;> simp
@[simp] theorem reply_outs (r : Req) (c a : Nat) (st : Status) (b : List Byte) (s : State) : (reply r c a st b s).outs = s.outs := by unfold reply; (repeat' split) <;> simp
@[simp] theorem reply_cores (r : Req) (c a : Nat) (st : Status) (b : List Byte) (s : State) : (reply r c a st b s).cores = s.cores := by unfold reply; (repeat' split) <;> simp
@[simp] theorem reply_rot (r : Req) (c a : Nat) (st : Status) (b : List Byte) (s : State) : (reply r c a st b s).rot = s.rot := by unfold reply; (repeat' split) <;> simp
@[simp] theorem reply_dch (r : Req) (c a : Nat) (st : Status) (b : List Byte) (s : State) : (reply r c a st b s).dch = s.dch := by unfold reply; (repeat' split) <;> simp
@[simp] theorem reply_snd (r : Req) (c a : Nat) (st : Status) (b : List Byte) (s : State) : (reply r c a st b s).snd = s.snd := by unfold reply; (repeat' split) <;> simp
@[simp] theorem reply_twn (r : Req) (c a : Nat) (st : Status) (b : List Byte) (s : State) : (reply r c a st b s).twn = s.twn := by unfold reply; (repeat' split) <;> simp
@[simp] theorem reply_tim (r : Req) (c a : Nat) (st : Status) (b : List Byte) (s : State) : (reply r c a st b s).tim = s.tim := by unfold reply; (repeat' split) <;> simp
@[simp] theorem reply_lne (r : Req) (c a : Nat) (st : Status) (b : List Byte) (s : State) : (reply r c a st b s).lne = s.lne := by unfold reply; (repeat' split) <;> simp
@[simp] theorem reply_eth (r : Req) (c a : Nat) (st : Status) (b : List Byte) (s : State) : (reply r c a st b s).eth = s.eth := by unfold reply; (repeat' split) <;> simp
@[simp] theorem reply_izl (r : Req) (c a : Nat) (st : Status) (b : List Byte) (s : State) : (reply r c a st b s).izl = s.izl := by unfold reply; (repeat' split) <;> simp
@[simp] theorem reply_routes (r : Req) (c a : Nat) (st : Status) (b : List Byte) (s : State) : (reply r c a st b s).routes = s.routes := by unfold reply; (repeat' split) <;> simp
@[simp] theorem reply_stk (r : Req) (c a : Nat) (st : Status) (b : List Byte) (s : State) : (reply r c a st b s).stk = s.stk := by unfold reply; (repeat' split) <;> simp
@[simp] theorem reply_cir (r : Req) (c a : Nat) (st : Status) (b : List Byte) (s : State) : (reply r c a st b s).cir = s.cir := by unfold reply; (repeat' split) <;> simp
@[simp] theorem reply_hbm (r : Req) (c a : Nat) (st : Status) (b : List Byte) (s : State) : (reply r c a st b s).hbm = s.hbm := by unfold reply; (repeat' split) <;> simp
@[simp] theorem reply_bufs (r : Req) (c a : Nat) (st : Status) (b : List Byte) (s : State) : (reply r c a st b s).bufs = s.bufs := by unfold reply; (repeat' split) <;> simp
@[simp] theorem reply_chk (r : Req) (c a : Nat) (st : Status) (b : List Byte) (s : State) : (reply r c a st b s).chk = s.chk := by unfold reply; (repeat' split) <;> simp
@[simp] theorem reply_fwl (r : Req) (c a : Nat) (st : Status) (b : List Byte) (s : State) : (reply r c a st b s).fwl = s.fwl := by unfold reply; (repeat' split) <;> simp
@[simp] theorem reply_hlt (r : Req) (c a : Nat) (st : Status) (b : List Byte) (s : State) : (reply r c a st b s).hlt = s.hlt := by unfold reply; (repeat' split) <;> simp
@[simp] theorem reply_pwr (r : Req) (c a : Nat) (st : Status) (b : List Byte) (s : State) : (reply r c a st b s).pwr = s.pwr := by unfold reply; (repeat' split) <;> simp

end Sys2Proof.Machine
end

