-- ==== Sys2Proof/Laws/Maps.lean ====
section
/-! SUPPORT. Sys2Proof/Laws/Maps.lean: the sparse maps stay in their canonical order, keys strictly rising, under every operation. -/

namespace Sys2Proof

/-- rising keys, as the library's relation on lists. -/
theorem SMap.sorted_iff {α : Type} (m : SMap α) : SMap.sorted m = true ↔ List.Pairwise (fun a b : Nat × α => a.1 < b.1) m := by
  induction m with
  | nil => simp [SMap.sorted]
  | cons e t ih =>
    cases t with
    | nil => simp [SMap.sorted]
    | cons e' t =>
      rw [SMap.sorted, Bool.and_eq_true, ih, List.pairwise_cons (a := e), decide_eq_true_eq]
      constructor
      · rintro ⟨h, hp⟩
        refine ⟨fun a ha => ?_, hp⟩
        rcases List.mem_cons.1 ha with rfl | ha
        · exact h
        · exact Nat.lt_trans h (List.rel_of_pairwise_cons hp ha)
      · rintro ⟨h, hp⟩
        exact ⟨h _ List.mem_cons_self, hp⟩

theorem SMap.mem_put {α : Type} (k : Nat) (v : α) (m : SMap α) (e : Nat × α) (h : e ∈ SMap.put k v m) : e = (k, v) ∨ e ∈ m := by
  induction m with
  | nil => simpa [SMap.put] using h
  | cons a t ih =>
    unfold SMap.put at h
    split at h
    · rcases List.mem_cons.1 h with h | h
      · exact .inl h
      · exact .inr (List.mem_cons_of_mem _ h)
    · split at h
      · rcases List.mem_cons.1 h with h | h
        · exact .inl h
        · exact .inr h
      · rcases List.mem_cons.1 h with h | h
        · exact .inr (h ▸ List.mem_cons_self)
        · rcases ih h with h | h
          · exact .inl h
          · exact .inr (List.mem_cons_of_mem _ h)

theorem SMap.sorted_put {α : Type} (k : Nat) (v : α) (m : SMap α) (h : SMap.sorted m = true) : SMap.sorted (SMap.put k v m) = true := by
  rw [SMap.sorted_iff] at h ⊢
  induction m with
  | nil => simp [SMap.put]
  | cons a t ih =>
    obtain ⟨h1, h2⟩ := List.pairwise_cons.1 h
    unfold SMap.put
    split
    · rename_i h3; subst h3; exact List.pairwise_cons.2 ⟨h1, h2⟩
    · split
      · rename_i h4
        refine List.pairwise_cons.2 ⟨fun b hb => ?_, h⟩
        rcases List.mem_cons.1 hb with rfl | hb
        · exact h4
        · exact Nat.lt_trans h4 (h1 b hb)
      · refine List.pairwise_cons.2 ⟨fun b hb => ?_, ih h2⟩
        rcases SMap.mem_put _ _ _ _ hb with rfl | hb
        · simp only; omega
        · exact h1 b hb

theorem SMap.sorted_filter {α : Type} (f : Nat × α → Bool) (m : SMap α) (h : SMap.sorted m = true) : SMap.sorted (m.filter f) = true := by
  rw [SMap.sorted_iff] at h ⊢; exact h.filter f

theorem SMap.sorted_drop {α : Type} (k : Nat) (m : SMap α) (h : SMap.sorted m = true) : SMap.sorted (SMap.drop k m) = true :=
  SMap.sorted_filter _ _ h

theorem SMap.sorted_set {α : Type} [DecidableEq α] (d : α) (k : Nat) (v : α) (m : SMap α) (h : SMap.sorted m = true) :
    SMap.sorted (SMap.set d k v m) = true := by
  unfold SMap.set; split
  · exact SMap.sorted_drop _ _ h
  · exact SMap.sorted_put _ _ _ h

/-- changing entries in place keeps the order. -/
theorem SMap.sorted_map {α β : Type} (f : Nat × α → Nat × β) (hf : ∀ e, (f e).1 = e.1) (m : SMap α) (h : SMap.sorted m = true) :
    SMap.sorted (m.map f) = true := by
  rw [SMap.sorted_iff] at h ⊢
  rw [List.pairwise_map]
  exact h.imp (fun {a b} hab => by rw [hf, hf]; exact hab)

theorem SMap.mem_of_find {α : Type} (k : Nat) (v : α) (m : SMap α) (h : SMap.find k m = some v) : (k, v) ∈ m := by
  induction m with
  | nil => simp [SMap.find] at h
  | cons e t ih =>
    obtain ⟨a, w⟩ := e
    rw [SMap.find] at h
    split at h
    · rename_i h2; subst h2; injection h with h3; subst h3; exact List.mem_cons_self
    · exact List.mem_cons_of_mem _ (ih h)

end Sys2Proof
end

