-- ==== Sys2Proof/Laws/Keeps.lean ====
section
/-! SUPPORT. Sys2Proof/Laws/Keeps.lean: what every operation keeps of the state (the waiting commands, the tick count from below, the
order of the register maps, the limits of the sessions), one lemma for each shared operation. -/

namespace Sys2Proof.Machine

/-- From `s` to `t` the waiting commands are the same, the tick count does not fall, and the orders and limits that hold stay. -/
structure Keeps (s t : State) : Prop where
  pending : t.pending = s.pending
  clk : s.clk ≤ t.clk
  maps : s.mapsSorted = true → t.mapsSorted = true
  sessions : s.sessionLimits → t.sessionLimits

theorem Keeps.refl (s : State) : Keeps s s := ⟨rfl, Nat.le_refl _, id, id⟩

theorem Keeps.trans {s t u : State} (h : Keeps s t) (k : Keeps t u) : Keeps s u :=
  ⟨k.pending.trans h.pending, h.clk.trans k.clk, k.maps ∘ h.maps, k.sessions ∘ h.sessions⟩

/-- a state that differs in none of the fields concerned. -/
theorem Keeps.of_eq {a s t : State} (h : Keeps a s) (h1 : t.pending = s.pending) (h2 : t.clk = s.clk) (h3 : t.regs = s.regs)
    (h4 : t.shadow = s.shadow) (h5 : t.committed = s.committed) (h6 : t.hap.sessions = s.hap.sessions) : Keeps a t := by
  refine h.trans ⟨h1, by rw [h2], ?_, ?_⟩
  · unfold State.mapsSorted; rw [h3, h4, h5]; exact id
  · unfold State.sessionLimits; rw [h6]; exact id

theorem Keeps.foldl {α : Type} {a s : State} (g : State → α → State) (hg : ∀ u x, Keeps a u → Keeps a (g u x)) (h : Keeps a s)
    (l : List α) : Keeps a (l.foldl g s) := by
  induction l generalizing s with
  | nil => exact h
  | cons x t ih => exact ih (hg _ _ h)

theorem setF_keeps {a s : State} (h : Keeps a s) (p : Nat) (f : Fld) (v : Nat) : Keeps a (setF p f v s) := by
  refine h.trans ⟨rfl, Nat.le_refl _, fun hs => ?_, id⟩
  simp only [State.mapsSorted, Bool.and_eq_true] at hs ⊢
  exact ⟨⟨SMap.sorted_set _ _ _ _ hs.1.1, hs.1.2⟩, hs.2⟩

theorem setSh_keeps {a s : State} (h : Keeps a s) (p : Nat) (f : Fld) (v : Nat) : Keeps a (setSh p f v s) := by
  refine h.trans ⟨rfl, Nat.le_refl _, fun hs => ?_, id⟩
  simp only [State.mapsSorted, Bool.and_eq_true] at hs ⊢
  exact ⟨⟨hs.1.1, SMap.sorted_set _ _ _ _ hs.1.2⟩, hs.2⟩

theorem setCm_keeps {a s : State} (h : Keeps a s) (p : Nat) (f : Fld) (v : Nat) : Keeps a (setCm p f v s) := by
  refine h.trans ⟨rfl, Nat.le_refl _, fun hs => ?_, id⟩
  simp only [State.mapsSorted, Bool.and_eq_true] at hs ⊢
  exact ⟨hs.1, SMap.sorted_set _ _ _ _ hs.2⟩

theorem passTicks_keeps {a s : State} (h : Keeps a s) (n : Nat) : Keeps a (passTicks n s) := by
  refine h.trans ?_
  unfold passTicks
  split <;> exact ⟨rfl, Nat.le_add_right _ _, id, id⟩

theorem advanceTo_keeps {a s : State} (h : Keeps a s) (t : Nat) : Keeps a (advanceTo t s) := passTicks_keeps h _

/-- an entry of the sessions replaced in place, its subscriptions as they were. -/
theorem Keeps.mapSessions {a s t : State} (h : Keeps a s) (g : Nat × Session → Nat × Session)
    (hg : ∀ e, (g e).1 = e.1 ∧ (g e).2.subs = e.2.subs) (h1 : t.pending = s.pending) (h2 : t.clk = s.clk) (h3 : t.regs = s.regs)
    (h4 : t.shadow = s.shadow) (h5 : t.committed = s.committed) (h6 : t.hap.sessions = s.hap.sessions.map g) : Keeps a t := by
  refine h.trans ⟨h1, by rw [h2], ?_, ?_⟩
  · unfold State.mapsSorted; rw [h3, h4, h5]; exact id
  · intro hs
    unfold State.sessionLimits at hs ⊢
    rw [h6]
    refine ⟨SMap.sorted_map g (fun e => (hg e).1) _ hs.1, fun e he => ?_⟩
    obtain ⟨e', h', rfl⟩ := List.mem_map.1 he
    rw [(hg e').1, (hg e').2]
    exact hs.2 e' h'

theorem notify_keeps {a s : State} (h : Keeps a s) (p k : Nat) : Keeps a (notify p k s) := by
  refine h.mapSessions _ (fun e => ?_) rfl rfl rfl rfl rfl rfl
  split <;> exact ⟨rfl, rfl⟩

theorem watNotify_keeps {a s : State} (h : Keeps a s) (i : Nat) (r : List Byte) : Keeps a (watNotify i r s) := by
  refine h.mapSessions _ (fun e => ?_) rfl rfl rfl rfl rfl rfl
  split <;> exact ⟨rfl, rfl⟩

/-- an open session's entry takes new contents, its subscriptions as they were or at most 32. -/
theorem putSession_keeps {a s : State} (h : Keeps a s) (i : Nat) (x y : Session) (hi : sessionAt i s = some y)
    (hx : x.subs = y.subs ∨ x.subs.length ≤ 32) : Keeps a (putSession i x s) := by
  refine h.trans ⟨rfl, Nat.le_refl _, id, fun hs => ⟨SMap.sorted_put _ _ _ hs.1, fun e he => ?_⟩⟩
  have h0 := hs.2 _ (SMap.mem_of_find _ _ _ hi)
  rcases SMap.mem_put _ _ _ _ he with rfl | he
  · refine ⟨h0.1, ?_⟩
    rcases hx with hx | hx
    · simp only [hx]; exact h0.2
    · exact hx
  · exact hs.2 _ he

theorem Keeps.ite {a s t : State} {c : Prop} [Decidable c] (h : Keeps a s) (k : Keeps a t) : Keeps a (if c then s else t) := by
  split <;> assumption

/-! ## The operations of Ops.lean -/

theorem addF_keeps {a s : State} (h : Keeps a s) (p : Nat) (f : Fld) (n : Nat) : Keeps a (addF p f n s) := setF_keeps h _ _ _

theorem satF_keeps {a s : State} (h : Keeps a s) (p : Nat) (f : Fld) (n : Nat) : Keeps a (satF p f n s) := setF_keeps h _ _ _

theorem subF_keeps {a s : State} (h : Keeps a s) (p : Nat) (f : Fld) (n : Nat) : Keeps a (subF p f n s) := setF_keeps h _ _ _

theorem clearFields_keeps {a s : State} (h : Keeps a s) (p : Nat) (l : List Fld) : Keeps a (clearFields p l s) :=
  Keeps.foldl _ (fun _ _ hu => setF_keeps hu _ _ _) h _

theorem emit_keeps {a s : State} (h : Keeps a s) (k : OutKind) (u : Nat) (d : List Nat) : Keeps a (emit k u d s) :=
  h.of_eq rfl rfl rfl rfl rfl rfl

theorem latchFirst_keeps {a s : State} (h : Keeps a s) (p k : Nat) : Keeps a (latchFirst p k s) :=
  Keeps.ite h (setF_keeps (setF_keeps (setF_keeps h _ _ _) _ _ _) _ _ _)

theorem raise_keeps {a s : State} (h : Keeps a s) (p k : Nat) : Keeps a (raise p k s) :=
  Keeps.ite (notify_keeps (setF_keeps (latchFirst_keeps h _ _) _ _ _) _ _) (setF_keeps (latchFirst_keeps h _ _) _ _ _)

theorem raiseIf_keeps {a s : State} (h : Keeps a s) (c : Bool) (p k : Nat) : Keeps a (raiseIf c p k s) :=
  Keeps.ite (raise_keeps h _ _) h

theorem raiseWord_keeps {a s : State} (h : Keeps a s) (p w : Nat) : Keeps a (raiseWord p w s) :=
  Keeps.foldl _ (fun _ _ hu => Keeps.ite (raise_keeps hu _ _) hu) h _

theorem clearEvents_keeps {a s : State} (h : Keeps a s) (p w : Nat) : Keeps a (clearEvents p w s) := by
  have h1 : Keeps a ((List.range 32).foldl (fun s k => if w.testBit k then setF p (HDR.EVENT k) 0 s else s) s) :=
    Keeps.foldl _ (fun _ _ hu => Keeps.ite (setF_keeps hu _ _ _) hu) h _
  exact Keeps.ite (setF_keeps (setF_keeps (setF_keeps h1 _ _ _) _ _ _) _ _ _) h1

theorem settleTimer_keeps {a s : State} (h : Keeps a s) (p : Nat) : Keeps a (settleTimer p s) :=
  Keeps.ite (h.of_eq rfl rfl rfl rfl rfl rfl) h

theorem mismatchTick_keeps {a s : State} (h : Keeps a s) (p : Nat) : Keeps a (mismatchTick p s) :=
  Keeps.ite h (raiseIf_keeps (h.of_eq (t := { s with ticks := SMap.set 0 p (SMap.get 0 p s.ticks + 1) s.ticks }) rfl rfl rfl rfl rfl rfl) _ _ _)

theorem setWats_keeps {a s : State} (h : Keeps a s) (m : SMap WatEntry) : Keeps a (setWats m s) :=
  setF_keeps (h.of_eq (t := { s with hap := { s.hap with wats := m } }) rfl rfl rfl rfl rfl rfl) _ _ _

theorem watWithdraw_keeps {a s : State} (h : Keeps a s) (k : Nat) : Keeps a (watWithdraw k s) := by
  unfold watWithdraw; split
  · exact h
  · exact watNotify_keeps (setWats_keeps h _) _ _

theorem watLeave_keeps {a s : State} (h : Keeps a s) (p : Nat) : Keeps a (watLeave p s) :=
  Keeps.foldl _ (fun _ _ hu => watWithdraw_keeps hu _) h _

theorem sourceGone_keeps {a s : State} (h : Keeps a s) (p : Nat) : Keeps a (sourceGone p s) :=
  Keeps.foldl _ (fun _ _ hu => raiseIf_keeps hu _ _ _) h _

theorem setAct_keeps {a s : State} (h : Keeps a s) (p st r : Nat) : Keeps a (setAct p st r s) := by
  have h1 : Keeps a (setF p HDR.ACT_state st (setF p HDR.ACT_prev (act p s) (setF p HDR.ACT_reason r (addF p HDR.ACT_changes 1 s)))) :=
    setF_keeps (setF_keeps (setF_keeps (addF_keeps h _ _ _) _ _ _) _ _ _) _ _ _
  have h2 := settleTimer_keeps (h1.of_eq (t := { setF p HDR.ACT_state st (setF p HDR.ACT_prev (act p s)
    (setF p HDR.ACT_reason r (addF p HDR.ACT_changes 1 s))) with actAt := SMap.put p s.clk s.actAt }) rfl rfl rfl rfl rfl rfl) p
  have h3 := Keeps.ite (c := act p s = stRUNNING) (sourceGone_keeps h2 p) h2
  exact Keeps.ite (Keeps.ite h (setF_keeps h _ _ _)) (Keeps.ite h3 (watLeave_keeps h3 _))

theorem takeGen_keeps {a s : State} (h : Keeps a s) (p : Nat) : Keeps a (takeGen p s) :=
  Keeps.ite (raise_keeps (setF_keeps (Keeps.foldl _ (fun _ _ hu => setF_keeps hu _ _ _) h _) _ _ _) _ _) h

theorem toFault_keeps {a s : State} (h : Keeps a s) (p r : Nat) : Keeps a (toFault p r s) :=
  takeGen_keeps (setAct_keeps h _ _ _) _

theorem commitShadows_keeps {a s : State} (h : Keeps a s) (p : Nat) : Keeps a (commitShadows p s) := by
  have h1 : Keeps a (addF p HDR.gen_committed 1 ((rwcRows p).foldl (fun s f => setCm p f (getSh p f s) s) s)) :=
    addF_keeps (Keeps.foldl _ (fun _ _ hu => setCm_keeps hu _ _ _) h _) _ _ _
  exact Keeps.ite (settleTimer_keeps h1 _) (h1.of_eq rfl rfl rfl rfl rfl rfl)

theorem discardShadows_keeps {a s : State} (h : Keeps a s) (p : Nat) : Keeps a (discardShadows p s) :=
  Keeps.foldl _ (fun _ _ hu => setSh_keeps hu _ _ _) h _

theorem plainCommand_keeps {a s : State} (h : Keeps a s) (p : Nat) : Keeps a (plainCommand p s) :=
  Keeps.ite h (Keeps.ite h (setAct_keeps h _ _ _))

theorem followCommand_keeps {a s : State} (h : Keeps a s) (p : Nat) : Keeps a (followCommand p s) :=
  Keeps.ite h (Keeps.ite h (setAct_keeps h _ _ _))

theorem takeWith_keeps {a s : State} (h : Keeps a s) (p : Nat) (cmd : State → State) (hc : ∀ u, Keeps a u → Keeps a (cmd u)) :
    Keeps a (takeWith p cmd s) := Keeps.ite (takeGen_keeps h _) (hc _ (takeGen_keeps h _))

theorem takeAfterStop_keeps {a s : State} (h : Keeps a s) (p : Nat) (cmd : State → State) (hc : ∀ u, Keeps a u → Keeps a (cmd u)) :
    Keeps a (takeAfterStop p cmd s) := Keeps.ite (takeWith_keeps h _ _ hc) h

theorem reply_keeps {a s : State} (h : Keeps a s) (r : Req) (c addr : Nat) (st : Status) (b : List Byte) :
    Keeps a (reply r c addr st b s) := by
  unfold reply; split
  · split
    · exact h
    · rename_i hx; exact putSession_keeps h _ _ _ hx (.inl rfl)
  · split
    · exact addF_keeps h _ _ _
    · exact setF_keeps (setF_keeps (addF_keeps h _ _ _) _ _ _) _ _ _
  · exact h
  · exact h

/-! ## The wrappers of Access.lean -/

theorem opStart_keeps {a s : State} (h : Keeps a s) (r : Req) (c addr : Nat) (k : State → State) (hk : ∀ u, Keeps a u → Keeps a (k u)) :
    Keeps a (opStart r c addr k s) := by
  unfold opStart; split
  · split
    · exact h
    · exact Keeps.ite (reply_keeps h _ _ _ _ _) (Keeps.ite (reply_keeps h _ _ _ _ _) (hk _ h))
  · exact Keeps.ite (hk _ h) (reply_keeps h _ _ _ _ _)
  · exact hk _ h
  · exact hk _ h

theorem asWrite_keeps {a s : State} (h : Keeps a s) (r : Req) (p off : Nat) (op : State → Status × State)
    (ho : ∀ u, Keeps a u → Keeps a (op u).2) : Keeps a (asWrite r p off op s) := by
  refine opStart_keeps h _ _ _ _ (fun u hu => ?_)
  split
  · exact reply_keeps (ho u hu) _ _ _ _ _
  · exact reply_keeps hu _ _ _ _ _

theorem asRead_keeps {a s : State} (h : Keeps a s) (r : Req) (p off : Nat) (op : State → Nat × State)
    (ho : ∀ u, Keeps a u → Keeps a (op u).2) : Keeps a (asRead r p off op s) := by
  refine opStart_keeps h _ _ _ _ (fun u hu => ?_)
  split
  · exact reply_keeps (ho u hu) _ _ _ _ _
  · exact reply_keeps hu _ _ _ _ _

/-! ## Messages and frames -/

theorem modIzl_keeps {a s : State} (h : Keeps a s) (j : Nat) (f : IzlS → IzlS) : Keeps a (modIzl j f s) :=
  h.of_eq rfl rfl rfl rfl rfl rfl

theorem izlPost_keeps {a s : State} (h : Keeps a s) (j vl : Nat) (m : List Byte) : Keeps a (izlPost j vl m s) :=
  Keeps.ite h (Keeps.ite (raise_keeps (addF_keeps h _ _ _) _ _) (modIzl_keeps h _ _))

theorem takeMsg_keeps {a s : State} (h : Keeps a s) (j vl : Nat) : Keeps a (takeMsg j vl s) := by
  unfold takeMsg; split
  · exact h
  · exact subF_keeps (modIzl_keeps h _ _) _ _ _

theorem sendManagement_keeps {a s : State} (h : Keeps a s) (k hops d : Nat) (peer : Peer) (b : List Byte) :
    Keeps a (sendManagement k hops d peer b s) := by
  unfold sendManagement; split
  · exact izlPost_keeps h _ _ _
  · exact h

theorem transmit_keeps {a s : State} (h : Keeps a s) (port : HPort) (peer : Peer) (f : List Byte) : Keeps a (transmit port peer f s) :=
  Keeps.ite (Keeps.ite (sendManagement_keeps h _ _ _ _ _) h)
    (Keeps.ite (emit_keeps (addF_keeps (addF_keeps h _ _ _) _ _ _) _ _ _) h)

theorem sendFrame_keeps {a s : State} (h : Keeps a s) (i k n : Nat) (b : List Byte) : Keeps a (sendFrame i k n b s) := by
  unfold sendFrame; split
  · exact h
  · rename_i x hx; exact transmit_keeps (putSession_keeps h i { x with txNext := x.txNext + 1 } x hx (.inl rfl)) _ _ _

theorem sendResponses_keeps {a s : State} (h : Keeps a s) (i : Nat) : Keeps a (sendResponses i s) := by
  unfold sendResponses; split
  · exact h
  · rename_i x hx
    exact Keeps.foldl _ (fun _ _ hu => sendFrame_keeps hu _ _ _ _) (putSession_keeps h i { x with resps := [], unsent := 0 } x hx (.inl rfl)) _

theorem sendAllResponses_keeps {a s : State} (h : Keeps a s) : Keeps a (sendAllResponses s) :=
  Keeps.foldl _ (fun _ _ hu => sendResponses_keeps hu _) h _

end Sys2Proof.Machine
end

