-- ==== Sys2Proof/Laws/Ops.lean ====
section
/-! SUPPORT. Sys2Proof/Laws/Ops.lean: what each shared operation does to the registers it writes, and which registers it leaves
alone. -/

namespace Sys2Proof.Machine

/-! ## Registers outside a set of pages -/

theorem State.regsBut.refl (l : List Nat) (s : State) : State.regsBut l s s := fun _ _ => rfl

theorem State.regsBut.trans {l : List Nat} {s t u : State} (h : State.regsBut l s t) (k : State.regsBut l t u) : State.regsBut l s u :=
  fun n hn => (k n hn).trans (h n hn)

theorem State.regsBut.mono {l m : List Nat} {s t : State} (h : State.regsBut l s t) (hl : ∀ p ∈ l, p ∈ m) : State.regsBut m s t :=
  fun n hn => h n (fun hc => hn (hl _ hc))

theorem State.regsBut.of_eq {l : List Nat} {s t : State} (h : t.regs = s.regs) : State.regsBut l s t := fun n _ => by rw [h]

theorem State.regsBut.foldl {α : Type} {l : List Nat} (g : State → α → State) (hg : ∀ u x, State.regsBut l u (g u x)) (m : List α)
    (s : State) : State.regsBut l s (m.foldl g s) := by
  induction m generalizing s with
  | nil => exact .refl _ _
  | cons x t ih => exact (hg s x).trans (ih _)

theorem State.regsBut.ite {l : List Nat} {s t u : State} {c : Prop} [Decidable c] (h : State.regsBut l s t) (k : State.regsBut l s u) :
    State.regsBut l s (if c then t else u) := by split <;> assumption

/-- a field below the end of its page (2¹⁵ bits, within the 2²⁰ of a key) belongs to the page it is written on. -/
theorem setF_regsBut (p : Nat) (f : Fld) (v : Nat) (s : State) (hf : f.loc < 2 ^ 20) : State.regsBut [p] s (setF p f v s) := by
  intro n hn
  apply find_setF
  rintro rfl
  apply hn
  simp only [Fld.key, List.mem_singleton]
  omega

theorem addF_regsBut (p : Nat) (f : Fld) (n : Nat) (s : State) (hf : f.loc < 2 ^ 20) : State.regsBut [p] s (addF p f n s) :=
  setF_regsBut _ _ _ _ hf

theorem latchFirst_regsBut (p k : Nat) (s : State) : State.regsBut [p] s (latchFirst p k s) :=
  .ite (.refl _ _) (((setF_regsBut p HDR.FIRST_time_us _ s (by decide)).trans (setF_regsBut _ HDR.FIRST_valid _ _ (by decide))).trans
    (setF_regsBut _ HDR.FIRST_index _ _ (by decide)))

/-- an event touches the registers of its own page only. -/
theorem raise_regsBut (p k : Nat) (s : State) (hk : k < 32) : State.regsBut [p] s (raise p k s) := by
  have h : State.regsBut [p] s (setF p (HDR.EVENT k) 1 (latchFirst p k s)) :=
    (latchFirst_regsBut p k s).trans (setF_regsBut _ _ _ _ (by simp only [Fld.loc, HDR.EVENT]; omega))
  exact .ite (h.trans (.of_eq rfl)) h

theorem raiseIf_regsBut (c : Bool) (p k : Nat) (s : State) (hk : k < 32) : State.regsBut [p] s (raiseIf c p k s) :=
  .ite (raise_regsBut p k s hk) (.refl _ _)

/-- the pages a change of state may write: the page itself, HAP with its count of waiting writes, the conditioning units. -/
def actPages (p : Nat) : List Nat := [p, pgHAP, pgCND 0, pgCND 1, pgCND 2, pgCND 3]

/-- a page's move to another state touches no register of another page. -/
theorem setAct_regsBut (p st r : Nat) (s : State) : State.regsBut (actPages p) s (setAct p st r s) := by
  have hm : ∀ {u t : State}, State.regsBut [p] u t → State.regsBut (actPages p) u t := fun h => h.mono (by simp [actPages])
  have hw : ∀ u : State, State.regsBut (actPages p) u (watLeave p u) := fun u =>
    .foldl _ (fun v k => by
      unfold watWithdraw; split
      · exact .refl _ _
      · refine State.regsBut.trans (t := setWats (SMap.drop k v.hap.wats) v) ?_ (.of_eq rfl)
        exact (State.regsBut.of_eq (t := { v with hap := { v.hap with wats := SMap.drop k v.hap.wats } }) rfl).trans
          ((setF_regsBut pgHAP _ _ _ (by decide)).mono (by simp [actPages]))) _ _
  have h1 : State.regsBut [p] s (setF p HDR.ACT_state st (setF p HDR.ACT_prev (act p s)
      (setF p HDR.ACT_reason r (addF p HDR.ACT_changes 1 s)))) :=
    (((addF_regsBut p HDR.ACT_changes 1 s (by decide)).trans (setF_regsBut _ HDR.ACT_reason _ _ (by decide))).trans
      (setF_regsBut _ HDR.ACT_prev _ _ (by decide))).trans (setF_regsBut _ HDR.ACT_state _ _ (by decide))
  have h2 : State.regsBut (actPages p) s (settleTimer p { setF p HDR.ACT_state st (setF p HDR.ACT_prev (act p s)
      (setF p HDR.ACT_reason r (addF p HDR.ACT_changes 1 s))) with actAt := SMap.put p s.clk s.actAt }) :=
    (hm h1).trans (.of_eq (settleTimer_regs _ _))
  have hg : ∀ u : State, State.regsBut (actPages p) u (sourceGone p u) := fun u =>
    (raiseIf_regsBut _ _ _ _ (by decide)).mono (by simp [actPages]) |>.trans
      ((raiseIf_regsBut _ _ _ _ (by decide)).mono (by simp [actPages])) |>.trans
      ((raiseIf_regsBut _ _ _ _ (by decide)).mono (by simp [actPages])) |>.trans
      ((raiseIf_regsBut _ _ _ _ (by decide)).mono (by simp [actPages]))
  have h3 := State.regsBut.ite (c := act p s = stRUNNING) (h2.trans (hg _)) h2
  exact .ite (.ite (.refl _ _) (hm (setF_regsBut _ _ _ _ (by decide)))) (.ite h3 (h3.trans (hw _)))

/-! ## What the operations write -/

/-- the event's bit is set afterwards (R66). -/
theorem raise_event (p k : Nat) (s : State) : getF p (HDR.EVENT k) (raise p k s) = 1 := by
  have h : getF p (HDR.EVENT k) (setF p (HDR.EVENT k) 1 (latchFirst p k s)) = 1 := by simp [HDR.EVENT]
  unfold raise
  simp only []
  split
  · rw [getF_congr _ _ _ _ (notify_regs _ _ _)]; exact h
  · exact h

/-- a field that lies neither in EVENT nor in EVENT_FIRST keeps its value when an event is raised on its page. -/
theorem raise_getF (p k : Nat) (g : Fld) (s : State) (h1 : g.loc ≠ (HDR.EVENT k).loc) (h2 : g.loc ≠ HDR.FIRST_index.loc)
    (h3 : g.loc ≠ HDR.FIRST_valid.loc) (h4 : g.loc ≠ HDR.FIRST_time_us.loc) : getF p g (raise p k s) = getF p g s := by
  have h : getF p g (setF p (HDR.EVENT k) 1 (latchFirst p k s)) = getF p g s := by
    rw [getF_setF_field _ _ _ _ _ h1]
    unfold latchFirst
    split
    · rfl
    · rw [getF_setF_field _ _ _ _ _ h2, getF_setF_field _ _ _ _ _ h3, getF_setF_field _ _ _ _ _ h4]
  unfold raise
  simp only []
  split
  · rw [getF_congr _ _ _ _ (notify_regs _ _ _)]; exact h
  · exact h

/-- time passes to the tick asked for, or not at all (R15). -/
theorem advanceTo_clk (t : Nat) (s : State) : (advanceTo t s).clk = max s.clk t := by
  unfold advanceTo passTicks
  split <;> simp only [] <;> omega

/-- passing time writes no register. -/
@[simp] theorem advanceTo_regs (t : Nat) (s : State) : (advanceTo t s).regs = s.regs := by
  unfold advanceTo passTicks; split <;> rfl

/-- an operation of an open session leaves its answer with the session's responses (R41, R48). -/
theorem reply_session (i : Fin 8) (tag : BitVec 16) (c a : Nat) (st : Status) (b : List Byte) (x : Session) (s : State)
    (h : sessionAt i.val s = some x) :
    reply ⟨.session i, tag⟩ c a st b s = putSession i.val { x with resps := x.resps ++ [⟨c, st.code, tag.toNat, a, b⟩] } s := by
  simp [reply, h]

/-- what a session's answer leaves of the registers: all of them. -/
theorem reply_session_regs (i : Fin 8) (tag : BitVec 16) (c a : Nat) (st : Status) (b : List Byte) (s : State) :
    (reply ⟨.session i, tag⟩ c a st b s).regs = s.regs := by
  simp only [reply]; split <;> rfl

/-- an operation that may run does (R46, R50, R52). -/
theorem opStart_runs (r : Req) (opcode addr p off : Nat) (k : State → State) (s : State) (h : State.lets r opcode p off s) :
    opStart r opcode addr k s = k s := by
  obtain ⟨origin, tag⟩ := r
  obtain ⟨-, h⟩ := h
  cases origin with
  | session i =>
    obtain ⟨x, h1, h2, h3⟩ := h
    simp only [opStart, h1, h2, Bool.false_eq_true, if_false]
    rw [if_neg (by omega)]
  | domain =>
    simp only at h
    simp only [opStart]
    rw [if_pos]
    rcases h with h | h | h <;> subst h <;> decide
  | wat n => rfl
  | firmware => rfl

/-- a WRITE that may run performs the register's action and answers with its status. -/
theorem asWrite_runs (r : Req) (p off : Nat) (op : State → Status × State) (s : State) (h : State.lets r 3 p off s) :
    asWrite r p off op s = reply r 0x83 (regAddr p off) (op s).1 [] (op s).2 := by
  unfold asWrite
  rw [opStart_runs _ _ _ _ _ _ _ h]
  simp only [h.1]

/-- a READ that may run answers with the word of the register. -/
theorem asRead_runs (r : Req) (p off : Nat) (op : State → Nat × State) (s : State) (h : State.lets r 1 p off s) :
    asRead r p off op s = reply r 0x81 (regAddr p off) .success (beBytes 4 (op s).1) (op s).2 := by
  unfold asRead
  rw [opStart_runs _ _ _ _ _ _ _ h]
  simp only [h.1]

/-- a register that does not answer leaves a WRITE with its status and no effect (R12, R18, R71). -/
theorem asWrite_refused (i : Fin 8) (tag : BitVec 16) (p off : Nat) (op : State → Status × State) (x : Session) (s : State)
    (hx : sessionAt i.val s = some x) (h1 : x.provisioning = false) (h2 : x.outstanding + x.unsent < 64) (h3 : regStatus p off s ≠ .success) :
    asWrite ⟨.session i, tag⟩ p off op s = reply ⟨.session i, tag⟩ 0x83 (regAddr p off) (regStatus p off s) [] s := by
  simp only [asWrite, opStart, hx, h1, Bool.false_eq_true, if_false]
  rw [if_neg (by omega)]

end Sys2Proof.Machine
end

