-- ==== Sys2Proof/WellFormed.lean ====
section
/-! DEFINITION. Sys2Proof/WellFormed.lean: which commands carry operands of the size that the spec gives them. Every meaning is
total; a command that is not well formed is one that no sender can make. -/

namespace Sys2Proof

/-- an equaliser setting has 5 transmit taps and 16 FFE taps (R296). -/
def Equaliser.wf (e : Equaliser) : Bool := e.fir.length == 5 && e.ffe.length == 16

/-- a sample row data run lies in a line of the format's widest raster and its samples in 48 bits (R75, R83). -/
def Srd.wf (x : Srd) : Bool := decide (x.line < 2 ^ 15) && decide (x.start < 2 ^ 15) && x.samples.all (fun n => decide (n < 2 ^ 48))

/-- the media packet's runs are well formed. -/
def MediaPkt.wf (x : MediaPkt) : Bool := x.srds.all Srd.wf

/-- the command's operands have the sizes of the spec. -/
def Instr.wf : Instr → Bool
  | .slipPost _ _ slip => slip.length == 64
  | .hwSlipPost _ slip => slip.length == 64
  | .fwSlipPost _ slip => slip.length == 64
  | .attest _ nonce => nonce.length == 32
  | .fwData _ _ data => decide (1 ≤ data.length) && decide (data.length ≤ 1024)
  | .keySet _ _ key => key.length == 97 || key.isEmpty
  | .extend _ value => value.length == 48
  | .lendingMessage msg => msg.length == 24
  | .managementMessage _ msg => decide (36 ≤ msg.length)
  | .izlFrame _ frame _ _ => frame.length == 256
  | .nak _ frame => frame.length == 256
  | .alignmentMarker _ marker => marker.length == 16
  | .unknownOpcode _ opcode _ later => (decide (opcode.toNat = 0) || decide (9 < opcode.toNat)) && decide (later < 64)
  | .laneTrained _ t => t.eq.wf
  | .reacquired _ t => t.eq.wf
  | .blockEnd _ b => b.ffe.length == 16
  | .ctleReevaluate _ ctle ffe => ffe.length == 16 && decide (ctle < 32)
  | .pauseFrame _ _ _ quanta => quanta.all (fun e => decide (e.1 < 8) && decide (e.2 < 65536))
  | .portFrameReceived _ f => decide (f.bytes ≤ 16384)
  | .portMFrame f => decide (f.bytes ≤ 16384)
  | .patch _ pkt => pkt.wf
  | .trainingExchange _ x => x.alloc.length == 4
  | .harletFrame .. | .sessionOpen .. | .sessionConfirm .. | .sessionClose .. | .acceptExpiry ..
  | .sessionIdleTimeout .. | .read .. | .readBurst .. | .write .. | .writeMasked .. | .writeAt .. | .subscribe ..
  | .writeAtFire .. | .watCancel .. | .dkeyLoad .. | .eventSet .. | .eventFrameSend .. | .eventClear .. | .commit ..
  | .discard .. | .unitReset .. | .counterLowRead .. | .stateMismatch .. | .registerWrite .. | .mergeWindowExpiry ..
  | .ingestDeadline .. | .frameClockTick .. | .ingestStart .. | .sourceLost .. | .sourceReturned .. | .legLost ..
  | .slateCapture .. | .slateCopy .. | .ingestStopped .. | .cndOutputRow .. | .lutWrite .. | .rowRecord ..
  | .rowRelease .. | .sliceClose .. | .ringResume .. | .bookmarkOverrun .. | .windowClose .. | .departure ..
  | .recode .. | .legStallTimeout .. | .legDropEnd .. | .coreFault .. | .overdueRow .. | .rotationStep | .shadowStart
  | .shadowEnd | .coreSwitch .. | .goldenVectorDone .. | .slackClear .. | .departErrRead .. | .channelStart ..
  | .channelStopped .. | .poolTick .. | .homeUnreachable .. | .nalDecode .. | .pictureReady .. | .decodeTick ..
  | .decodeCoreFault .. | .decodeStopped .. | .decodeGoldenDone .. | .senderTick .. | .lateStart .. | .claimFrameSend
  | .claimFrameReceived .. | .partnerDead | .roleTaken | .heartbeatSend | .heartbeat .. | .record .. | .ack ..
  | .ackTimeout | .recordWaitExpiry .. | .linkLostVerdict | .check .. | .lockstepTimeout .. | .piccheck ..
  | .muteNote .. | .joinReqSend .. | .joinReq .. | .snapshotTake .. | .snapPart .. | .snapCommit .. | .snapAbort ..
  | .joinDeadline .. | .patchReq .. | .patchNone .. | .patchWaitExpiry .. | .yield .. | .handover .. | .yieldAbort ..
  | .yieldReceived .. | .yieldAck .. | .handoverTime | .sync .. | .crossMismatch | .locked | .lockLoss
  | .delayResp .. | .pathGuardOpen .. | .pathGuardClose .. | .announce .. | .announceTimeout .. | .delayReqSend ..
  | .pdelayReq .. | .revertTimer | .stepGrant .. | .grantWithdrawn | .revert .. | .nowRead .. | .fclkTick ..
  | .tcapEdge .. | .capturePop .. | .pulseEdge .. | .timerefLost | .timerefReturn .. | .txqRead .. | .wholeSecond
  | .pulseWidthEnd .. | .trainFailed .. | .trainRetry .. | .fomWarn .. | .fomAlarm .. | .fomRecovered ..
  | .fomRead .. | .lossOfLock .. | .calibrationWindow .. | .refclkLost | .refclkReturn | .prbsResync .. | .retrain ..
  | .frameTransmit .. | .linkDown .. | .linkUp .. | .pauseRepeat .. | .pauseQuantaExpiry .. | .multicastReport ..
  | .dropSelWrite .. | .replayTimeout .. | .nakRepeat .. | .izlFrameSend .. | .alignmentMarkerSend .. | .narrow ..
  | .widen .. | .izlLinkDown .. | .routeAnnounceSend | .routeAnnouncement .. | .stallEnd .. | .pop ..
  | .queueCongested .. | .queueReleased .. | .queueFlush .. | .stackEccError .. | .rebuild .. | .rebuildDone
  | .qcfgWrite .. | .qwmWrite .. | .qpeakClear .. | .freeLowRead .. | .poolStallAlarm .. | .stackInitDone
  | .qfcMinHoldExpiry .. | .slipPostAccept .. | .slipTake .. | .carrelFill | .slipStart .. | .slipComplete ..
  | .slipAgeing .. | .runLimit .. | .killLimit .. | .coreReturn .. | .obrovCoreFault .. | .cancel ..
  | .cplStatRead .. | .hsqStatRead .. | .hbmRequest .. | .refreshInterval .. | .temperatureReading .. | .tempRead ..
  | .selfRefreshEntry .. | .hammerWindow .. | .retrainPause .. | .pauseSkip .. | .patrolScrub .. | .keepApply ..
  | .hbmTrainingDone .. | .chkStart .. | .chkData .. | .chkFinish .. | .streamEnable .. | .streamPacket ..
  | .quoteComplete | .fwOpen .. | .verify .. | .install .. | .installComplete .. | .activate .. | .fwClose ..
  | .cert .. | .raiseFloor .. | .catRead .. | .catDiscard .. | .folioExport .. | .bootRom .. | .bootResume ..
  | .twinSourceRequest | .twinSourceServe .. | .twinPackage .. | .catalogueSave .. | .catalogueSaved | .stocktake
  | .snapClr .. | .governorReading .. | .governorRestore | .thermalShutdown | .rearm .. | .tjRead .. | .annalsWrite
  | .annFlush .. | .stressIncrement .. | .decodeCoreTest .. | .treq .. | .testDone .. | .vstbyPowerUp ..
  | .vstbyBrownout | .vioFault | .vioReturn | .vinLow .. | .vinGood | .vinOver | .railFault .. | .avsEvaluation ..
  | .dcmd .. | .dstateChanged .. | .unitWake .. | .unitWakeDone .. | .powerMeasure .. | .resetNLow ..
  | .resetRelease .. | .standbyReset .. | .coldReset .. | .warmReset .. | .mainWatchdog .. | .mgmtWatchdog
  | .uncorrectableStateError .. => true

end Sys2Proof
end

