-- ==== Sys2Proof/Tests/Slice0.lean ====
section
/-! SUPPORT. Sys2Proof/Tests/Slice0.lean: ill-formed commands that WellFormed refuses, states that meet the hypotheses of every
statement, clause by clause, and small checks against figures of the specification. -/

namespace Sys2Proof.Tests

set_option linter.unusedVariables false
set_option Elab.async false

open Sys2Proof.Machine

/-! ## States -/

def st (l : List (Nat × Fld × Nat)) (s : State) : State := l.foldl (fun s e => setF e.1 e.2.1 e.2.2 s) s
def sh (l : List (Nat × Fld × Nat)) (s : State) : State := l.foldl (fun s e => setSh e.1 e.2.1 e.2.2 s) s
def cm (l : List (Nat × Fld × Nat)) (s : State) : State := l.foldl (fun s e => setCm e.1 e.2.1 e.2.2 s) s
def on (l : List (Nat × Nat)) (s : State) : State := l.foldl (fun s e => setF e.1 HDR.ACT_state e.2 s) s
def fw : Req := ⟨.firmware, 7⟩
def R0 : State := State.reset
def M0 : State := { State.reset with pwr := { PwrS.reset with mainRun := true, hadVin := true } }
def pr0 : Peer := ⟨0, 5, 6, 7, 0, 0, 8591127638⟩
/-- port `i` with a MAC address of its own. -/
def mac (i : Nat) (s : State) : State := { s with regs := SMap.put (ETH.MAC_HI_mac.key (pgETH i)) 2 (SMap.put (ETH.MAC_LO_mac.key (pgETH i)) 1193046 s.regs) }
def sess : Session := ⟨77, .a, pr0, false, [1, 2], [3, 4], 10, [9], 20, 0, 0, 0, [], [], [], []⟩
def ses : Req := ⟨.session 0, 9⟩
def S0 : State := putSession 0 sess M0
def tagged (b : List Byte) : List Byte := b ++ frameTag sess.rxKey b
/-- a frame of session 77 to device 0, sequence 11. -/
def frm (kind ops len : Nat) (body : List Byte) : List Byte :=
  beBytes 1 (0x10 + kind) ++ beBytes 1 0 ++ beBytes 2 0 ++ beBytes 4 0 ++ beBytes 4 77 ++ beBytes 8 11 ++ beBytes 1 0 ++ beBytes 1 ops ++ beBytes 2 len ++ body
def oneSub : Sub := ⟨0, 0, 1⟩
def openF : List Byte := beBytes 1 0x14 ++ beBytes 23 0 ++ beBytes 1 2 ++ beBytes 1 1 ++ beBytes 131 0
def openSt (s : State) : State := mac 0 <| st [(pgHAP, HAP.PORT_EN_a, 1), (pgETH 0, ETH.SUBPORTS_up, 1)] { s with fwl := { s.fwl with keys := [(2, [1])] } }
def acc0 : Accept := ⟨55, 2, .a, pr0, [1], [2], 0⟩
def confF : List Byte := beBytes 1 0x16 ++ beBytes 23 0 ++ beBytes 4 55 ++ beBytes 96 0
def accP : Accept := { acc0 with keyIndex := 0xFF, port := .m }
def openM (s : State) : State := mac 2 <| st [(pgHAP, HAP.PORT_EN_m, 1), (pgETH 2, ETH.SUBPORTS_up, 1)] s
def rdOp : List Byte := beBytes 1 1 ++ beBytes 1 0 ++ beBytes 2 9 ++ beBytes 4 0x1108
def domF : List Byte := (let b := beBytes 1 0x11 ++ beBytes 1 0 ++ beBytes 2 0x43FF ++ beBytes 4 0 ++ beBytes 4 0xFFFFFFFF ++ beBytes 8 11 ++ beBytes 4 0; b ++ frameTag (beBytes 32 5) b)
def seenS : Session := { sess with rxHigh := 11, rxSeen := [11] }
def ing0 : Nat := pgING 0
def slot0 : RingSlot := ⟨5, 5, false, [], [], 0, 10, false, none, []⟩
def cndS : State := on [(pgING 0, 4), (pgCND 1, 4)] (st [(pgCND 1, CND.OCTL_en 2, 1), (pgCND 1, CND.OCTL_path 2, 1), (pgCND 1, CND.PATH_en 1, 1), (pgCND 1, CND.ODIM_width 2, 4), (pgCND 1, CND.ODIM_height 2, 4)] S0)
def row0 : EchRow := ⟨0, 0, 5000, 100, 0, 0, 0, 1000, 2000, 3000, 0, 0, 0, 0, 51, false, 0, 0, none, [], [], [], 0, false, false, false, false, false, [], false, false, false, false⟩
def rowA : EchRow := { row0 with released := true }
def rowB : EchRow := { row0 with row := 1, released := true }
def rowC : EchRow := { row0 with row := 2 }
def chS : State := on [(pgECH 1, 4), (pgOUT 1, 4), (pgENC 0, 4), (pgING 0, 4)] (st [(pgTIM, TIM.ST_first_lock, 1), (pgECH 1, ECH.DIM_width, 640), (pgECH 1, ECH.DIM_height, 480), (pgENC 0, ENC.ST_logical, 0), (pgOUT 1, OUT.RING_size_mib, 4)] (modOut 1 (fun x => { x with ring := true }) (modEch 1 (fun x => { x with live := true, rate := 1 }) M0)))
def sl0 : SliceRun := ⟨0, false, [], ⟨[], 0, 0, false⟩⟩
def rf0 : ReadFault := ⟨[], 0, 0, false⟩
def ent0 : RingEntry := ⟨3, 0, 0, 0, 0, 128, [], [[1]], 5, 64, 0, 0, 3000, none, none⟩
def held (leg : Nat) : State := modEth leg (fun x => { x with paused := (List.range 64).map (fun k => (k, 10000000)) }) (st [(pgETH leg, ETH.SUBPORTS_up, 0xFF), (pgETH leg, ETH.FC_mode, 1)] chS)
def rotS : State := st [(pgHLT, HLT.ROT_en, 1)] chS
def startS : State := on [(pgECH 1, 3)] chS
def lendB (k g : Nat) : List Byte := beBytes 1 k ++ beBytes 1 g ++ beBytes 10 5 ++ beBytes 4 100 ++ beBytes 4 0
def lendM (k g : Nat) : List Byte := lendB k g ++ beBytes 4 (crc crc32c (lendB k g))
def homeS : State := st [(pgMUX 3, MUX.CFG_remote, 1), (pgMUX 3, MUX.CFG_home, deviceNumber chS)] chS
def g0 : Got := ⟨100000, 5, 0⟩
def bandS : State := modIng 0 (fun x => { x with hist := [⟨0, 0, some 5, []⟩], ring := [{ slot0 with finalLines := 0, fedAs := some 0 }] }) (st [(pgING 0, ING.VDIM_height, 480), (pgING 0, ING.VDIM_width, 8)] chS)
def cndT : State := st [(pgING 0, ING.VDIM_height, 4), (pgING 0, ING.VDIM_width, 4)] (modIng 0 (fun x => { x with tick := some 5, fed := some 5, hist := [⟨5, 0, some 5, []⟩], ring := [slot0] }) cndS)
def cndF (row : Nat) (s : State) : Feed := let u := allBandsDue (reachNs (pathReadNs 1 (getF (pgCND 1) (CND.OCTL_path 2) s) (rowTick 1 2 row s) (rowNeeds 1 2 row s) s) s); (feedOf (pathSource 1 (getF (pgCND 1) (CND.OCTL_path 2) s) u) (rowTick 1 2 row s) u).getD ⟨0, [], 0, [], 0⟩
def recS1 : State := modEch 1 (fun x => { x with nextPic := 5, nextRow := 3, rows := [rowA, { rowB with closed := [0] }, rowC] }) chS
def rowF : EchRow := { rowB with forced := [0] }
def slS : State := modEch 1 (fun x => { x with rows := [rowF, rowC] }) (st [(pgECH 1, ECH.DIM_width, 64), (pgECH 1, ECH.DIM_height, 64)] chS)
def slN : State := st [(pgOUT 1, OUT.RING_size_mib, 0)] slS
def slT : State := modSeg 1 0 (fun x => { x with used := 64 }) (modOut 1 (fun x => { x with table := [(0, (5, 5))] }) slS)
def pic0 : DecPic := ⟨3, 5, 1, false, true, true, false, true, 64, 64, [], [], true, 0, false, none, 0, none, 0, []⟩
def cur0 : CurPic := ⟨pic0, 1, 0, true, false, [], [], [], 0, 0⟩
def dchS0 : State := on [(pgDCH 2, 4), (pgDEC 0, 4)] (modDch 2 (fun x => { x with merge := { Merge.reset with started := true, high := 101, got := [(100, ⟨0, 0, 0⟩), (101, ⟨0, 0, 0⟩)] } }) (st [(pgDCH 2, DCH.BUF_dpb, 3), (pgDCH 2, DCH.ALLOC_n_cores, 1)] M0))
def nal0 (k : NalKind) (g : Bool) : NalUnit := ⟨1, 100, 101, g, 34, 0, 5, 0, k⟩
def dchP : State := modDch 2 (fun x => { x with pkts := [100, 101] }) dchS0
def sndS : State := on [(pgSND 4, 4)] (st [(pgDCH 0, DCH.DIM_width, 4), (pgDCH 0, DCH.DIM_height, 4)] dchS0)
def twS (role : Nat) : State := on [(pgTWN, 4), (pgECH 1, 6), (pgECH 0, 4)] (st [(pgTWN, TWN.ROLE_role, role), (pgTWN, TWN.CHANS_chans, 3), (pgTWN, TWN.CFG_claim, 1), (pgTWN, TWN.CFG_link, 2), (pgTWN, TWN.ST_link_up, 1), (pgTWN, TWN.ST_fw_match, 1), (pgECH 1, ECH.DIM_width, 640), (pgECH 1, ECH.DIM_height, 480), (pgOUT 1, OUT.RING_size_mib, 4)] (modEch 1 (fun x => { x with live := true, rate := 1 }) S0))
def cmd1 (s : State) : State := cm [(pgECH 1, HDR.CMD_state, 4)] s
def folS (j : Join) : State := modTwn (fun x => { x with join := [(1, j)] }) (twS 1)
def leadS : State := modTwn (fun x => { x with paired := [1], hbRole := 1 }) (twS 2)
def cf (a b : Nat) : Word := BitVec.ofNat 32 (beNat (beBytes 1 0xB4 ++ beBytes 1 a ++ beBytes 1 b ++ beBytes 1 (crc crc8 (beBytes 1 a ++ beBytes 1 b))))
def tm (k : Nat) (b : List Byte) : TwinMsg := ⟨BitVec.ofNat 8 k, 0, 1, 0, 0, 0, b⟩
def recB : List Byte := let h := beBytes 28 (5 * 2^100); h ++ beBytes 4 (crc crc32c (h ++ beBytes 8 0))
def ent1 : RingEntry := ⟨3, 0, 0, 0, 0, 128, [], [[1]], 5, 64, 0, 0, 3000, some ⟨some 5, 5, 5⟩, none⟩
def snap0 : List Byte := List.replicate 352 0
def comB : List Byte := beBytes 4 352 ++ beBytes 4 (crc crc32c snap0)
def tmF (k f : Nat) (b : List Byte) : TwinMsg := { tm k b with flags := BitVec.ofNat 8 f }
def gm0 : Announce := ⟨5, 9, 1, 2, 3, 37, true, 3000⟩
def timS : State := on [(pgTIM, 4)] (st [(pgTIM, TIM.ST_state, 2), (pgTIM, TIM.PTP_CFG_en_a, 1), (pgTIM, TIM.PTP_CFG_en_b, 1), (pgTIM, TIM.ST_first_lock, 1), (pgETH 0, ETH.SUBPORTS_up, 1), (pgETH 1, ETH.SUBPORTS_up, 1), (pgDEV, DEV.ST_vio_ok, 1)] S0)
def timG (p : Nat) : State := modTimPort p (fun x => { x with chosen := some gm0 }) timS
def eq0 : Equaliser := ⟨[0, 0, 0, 40, 0], 3, 1, [1, 2, 3, 4, 5, 6, 7, 8, 9, 10, 11, 12, 13, 14, 15, 16]⟩
def tr0 : Trained := ⟨false, false, false, false, 250, eq0⟩
def blk0 : LaneBlock := ⟨220, 9, true, true, eq0.ffe, 1, 0⟩
def lnS (l k : Nat) : State := on [(pgLNE l, k), (laneOwner l, 3)] S0
def etS : State := mac 0 <| mac 1 <| mac 2 <| on [(pgETH 0, 4), (pgETH 1, 4), (pgETH 2, 4), (pgSTK, 4)] (st [(pgETH 0, ETH.SUBPORTS_up, 1), (pgETH 1, ETH.SUBPORTS_up, 1), (pgETH 2, ETH.SUBPORTS_up, 1), (pgHAP, HAP.PORT_EN_a, 1), (pgHAP, HAP.PORT_EN_b, 1), (pgHAP, HAP.PORT_EN_m, 1)] S0)
def fr0 (i n : Nat) (b : FrameBody) : PortFrame := ⟨false, true, 3, n, [], BitVec.ofNat 48 (portMac i etS), b⟩
def full1 : State := setQueue (qPort 1 1) { queueOf (qPort 1 1) etS with count := (queueOf (qPort 1 1) etS).max } etS
def xoffS (m k : Nat) : State := setQueue (qPort 1 1) { queueOf (qPort 1 1) etS with congested := true, prio := 2 ^ k } (modEth 1 (fun x => { x with xoff := [(k, 5)] }) (st [(pgETH 1, ETH.FC_mode, m), (pgETH 1, ETH.FC_pfc_en, 255)] etS))
def izS (k : Nat) : State := on [(pgIZL 1, k)] (st [(pgIZL 1, IZL.EPOCH_epoch, 5), (pgLNE 20, LNE.ST_trained, 1), (pgLNE 21, LNE.ST_trained, 1), (pgLNE 22, LNE.ST_trained, 1), (pgLNE 23, LNE.ST_trained, 1)] S0)
def pad252 (h : List Byte) : List Byte := h ++ List.replicate (252 - h.length) 0
def zfr (h : List Byte) : List Byte := pad252 h ++ beBytes 4 (crc crc32 (pad252 h ++ beBytes 4 0))
def dataF (vl : Nat) : List Byte := zfr (beBytes 1 (4 * (16 + vl * 4 + 3)) ++ beBytes 1 7 ++ beBytes 2 0xFFFF ++ beBytes 8 0 ++ beBytes 2 5)
def tx0 : IzlTx := ⟨2, true, true, [1, 2]⟩
def mk0 : List Byte := let b := beBytes 6 0xA5C396F00F69 ++ beBytes 4 (2 * 2^28 + 15 * 2^24) ++ beBytes 5 0; b ++ beBytes 1 (crc crc8 b)
def ex0 : Exchange := ⟨9, 2, true, [1, 2, 3, 3000], true⟩
def nwS (l : List (Nat × Fld × Nat)) : State := st (l ++ [(pgIZL 1, IZL.WIDTH_rx_mask, 15), (pgIZL 1, IZL.WIDTH_rx_width, 2)]) (izS 4)
def skS : State := on [(pgSTK, 4), (pgDCH 2, 4), (pgETH 0, 4)] (st [(pgETH 0, ETH.SUBPORTS_up, 1), (pgSTK, STK.FREE_cells, 200000)] S0)
def pk0 : StkPkt := ⟨2, none, [7, 1, 2]⟩
def withQ (q : Nat) (f : QueueS → QueueS) : State := modQueue q f skS
def med0 : MediaPkt := ⟨100, 0, [], [], [], []⟩
def ciS : State := on [(pgCIR, 4)] S0
def slp (v c : Nat) : List Byte := beBytes 1 v ++ beBytes 1 c ++ beBytes 62 0
def slip0 : Slip := ⟨7, 2, true, 3, 4, 5, 0, [], 0⟩
def noneFree (c : Nat) : State := { ciS with cir := { ciS.cir with ready := [(c, List.replicate 4096 { slip0 with no := 0, cls := c })] } }
def allPf : State := (List.range 48).foldl (fun s k => modDeskCore k (fun x => { x with pf := some { slip0 with no := 100 + k, cls := 1 + k % 3 } }) s) ciS
def run0 : RunSlip := ⟨slip0, 0, false, false⟩
def runS (r : RunSlip) : State := modDeskCore 47 (fun x => { x with run := some r }) ciS
def hbS : State := on [(pgHBM 0, 4), (pgHBM 1, 4)] (st [(pgHBM 0, HBM.KEEP_kept, 0xFFFFFFFF), (pgHBM 1, HBM.KEEP_kept, 0xFFFFFFFF)] S0)
def acc1 (q : Fin 64) (w : Bool) : HbmAccess := ⟨q, w, 47, 16383, 5, 32, .good, .other⟩
def ckS : State := on [(pgCHK 3, 2), (pgSTK, 4)] (st [(pgSTK, STK.FREE_cells, 200000)] S0)
def ckB (m : Nat) (b : List Byte) : State := st [(pgCHK 3, CHK.ST_busy, 1), (pgCHK 3, CHK.CFG_mode, m)] (modChk 3 (fun x => { x with fed := b }) (on [(pgCHK 3, 4)] ckS))
def ckT : State := st [(pgCHK 3, CHK.STREAM_en, 1), (pgCHK 3, CHK.STREAM_src_queue, 300), (pgCHK 3, CHK.STREAM_dst_queue, 301)] (modQueue 300 (fun x => { x with pkts := [⟨1, none, [1, 2, 300]⟩], count := 1, max := 100 }) ckS)
def ckV : State := st [(pgCHK 3, CHK.STREAM_en, 1), (pgCHK 3, CHK.CFG_mode, 3), (pgCHK 3, CHK.STREAM_src_queue, 300), (pgCHK 3, CHK.STREAM_dst_queue, 301)] (modQueue 300 (fun x => { x with pkts := [⟨1, none, [1, 2, 3, 4, 300]⟩], count := 1, max := 100 }) ckS)
def bf : BootFinds := ⟨true, true, true, true, true, true, [], true, []⟩
def fwS : State := on [(pgFWL, 4)] { S0 with fwl := { S0.fwl with stage := 6 } }
def lk (s : State) : State := st [(pgFWL, FWL.LOCK_held, 1), (pgFWL, FWL.LOCK_holder, 1), (pgFWL, FWL.LOCK_session, 0)] s
def stg0 : Staging := ⟨5, 20, [(0, [1, 2])], false⟩
def stgS (x : Staging) : State := lk { fwS with fwl := { fwS.fwl with staging := some x } }
def inst0 (k : Nat) : Installing := ⟨some ses, 0, k, List.replicate 176 0, [1, 2]⟩
def img0 (v : Nat) : StoredImage := ⟨beBytes 12 0 ++ beBytes 4 v ++ beBytes 8 0, [1], true⟩
def b0 : State := { R0 with fwl := { R0.fwl with loaderA := none, loaderB := none } }
def b3 : State := { fwS with fwl := { fwS.fwl with stage := 3, image := none } }
def recS : State := st [(pgFWL, FWL.BOOT_state, 2), (pgFWL, FWL.ST_recovery, 1), (pgFWL, FWL.RECOVERY_link, 1)] b3
def tws : State := st [(pgFWL, FWL.LOCK_held, 1), (pgFWL, FWL.LOCK_holder, 2)] { recS with fwl := { recS.fwl with asked := true, staging := some ⟨1, 5000, [], false⟩ } }
def hlS : State := on [(pgHLT, 4), (pgSTK, 4), (pgCIR, 4)] S0
def hlF : State := st [(pgSTK, STK.FREE_cells, 5)] hlS
def hlG : State := { hlF with hlt := { hlF.hlt with failing := stockFailures hlF } }
def pwS : State := on [(pgPWR, 4), (pgSTK, 4), (pgCIR, 4), (pgHLT, 4)] (st [(pgPWR, PWR.ST_vin_good, 1), (pgDEV, DEV.ST_vio_ok, 1)] S0)

/-! ## Hypotheses that are no decidable propositions -/

/-- firmware runs any operation on a register that answers. -/
theorem fwLets {n op p off : Nat} {s : State} (h : regStatus p off s = .success) : State.lets ⟨.firmware, BitVec.ofNat 16 n⟩ op p off s := ⟨h, trivial⟩

theorem length_frameTag (k b : List Byte) : (frameTag k b).length = 16 := by simp [frameTag]

/-- a frame that ends in its tag verifies. -/
theorem tagOk_tagged (k b : List Byte) : tagOk k (b ++ frameTag k b) = true := by
  simp [tagOk, length_frameTag]

/-- a check value has 32 bits. -/
theorem crc32c_lt (l : List Byte) : crc crc32c l < 2 ^ 32 := by
  unfold crc crcEnd
  exact Nat.mod_lt _ (Nat.pow_pos (by decide))

/-- four bytes of a 32-bit number spell it. -/
theorem beNat_beBytes4 (v : Nat) (h : v < 2 ^ 32) : beNat (beBytes 4 v) = v := by
  simp [beBytes, beNat]; omega

/-- the second word of an 8-byte body that a 4-byte number ends. -/
theorem fieldAt_check (v : Nat) (h : v < 2 ^ 32) : fieldAt 4 4 (beBytes 4 352 ++ beBytes 4 v) = v := by
  have h1 : sub 4 4 (beBytes 4 352 ++ beBytes 4 v) = beBytes 4 v := rfl
  unfold fieldAt
  rw [h1, beNat_beBytes4 v h]

/-- the last word of a 256-byte frame made with its check value. -/
theorem frame_check (b e : List Byte) (h : b.length = 252) :
    fieldAt 252 4 (b ++ beBytes 4 (crc crc32 (b ++ e))) = crc crc32 ((b ++ beBytes 4 (crc crc32 (b ++ e))).take 252 ++ e) := by
  have h1 : sub 252 4 (b ++ beBytes 4 (crc crc32 (b ++ e))) = beBytes 4 (crc crc32 (b ++ e)) := by
    unfold sub; rw [← h, List.drop_left]; rfl
  have h2 : (b ++ beBytes 4 (crc crc32 (b ++ e))).take 252 = b := by rw [← h, List.take_left]
  unfold fieldAt
  rw [h1, h2, beNat_beBytes4]
  unfold crc crcEnd
  exact Nat.mod_lt _ (Nat.pow_pos (by decide))

/-- a map of one entry holds nothing elsewhere. -/
theorem find_single {β : Type} {k j : Nat} {e q : β} (hj : j ≠ k) : SMap.find j [(k, e)] ≠ some q := by
  simp [SMap.find, Ne.symm hj]

/-- a floor slice keeps within the floor bits of its CTUs (R152, R153). -/
theorem codeCtus_floor_bits (z : SliceIn) (h : 2 ≤ z.how) (l : List CtuIn) :
    ∀ qp a, (codeCtus z l qp a).bits ≤ a.bits + (l.map (fun i => floorBits i.intra)).sum := by
  induction l with
  | nil => intro qp a; simp [codeCtus]
  | cons i rest ih =>
    intro qp a
    have h1 : z.how ≠ 1 := by omega
    simp only [codeCtus, h1, h, if_true, if_false, List.map_cons, List.sum_cons]
    refine (ih _ _).trans ?_
    dsimp only
    have := Nat.min_le_left (floorBits i.intra) (Config.ctuBits { { i with qp := qp, before := a.ctus } with
      qp := if i.intra then z.maxQp else qp } [floorBlock { i with qp := qp, before := a.ctus } (z.how == 2)])
    omega

/-- a slice coded as a floor slice, in a row below the first, has at most the bytes of its floor bits (R153). -/
theorem entryBytes_floor (c col n : Nat) (r : EchRow) (u : State) (hr : r.row ≠ 0) (hf : r.forced.contains col = true)
    (hn : sliceTokens (sliceCtus getF c u * 512) ≤ n) : entryBytes (codeSlice c col r u).nals ≤ 64 + (n + 63) / 64 * 64 := by
  have hh : r.how col = 2 := by simp only [EchRow.how, hf, if_true]
  have key : ∀ before, nalBytes (codeColumn c col before r u).nals ≤ n := by
    intro before
    obtain ⟨z, hz, hc, hq⟩ : ∃ z, 2 ≤ z.how ∧ z.ctus = ctuIns c col true r u ∧ (codeColumn c col before r u).nals =
        [codedNal z r.pic r.row col r.sliceKind (codeCtus z z.ctus z.qp SliceCode.empty)] := by
      refine ⟨sliceInOf c col (r.how col) (r.budget - before - (((List.range (colCount getF c u)).filter
        (fun t => decide (col < t))).map (fun t => match SMap.find t r.charges with | some v => v | none => sliceFloor c t r u)).sum -
        ((if r.row = 0 ∧ col = 0 then headNals c r u else []).map List.length).sum) (r.forced.contains col) r u,
        by simp only [sliceInOf, hh, Nat.le_refl], by simp only [sliceInOf, hf], ?_⟩
      unfold codeColumn
      simp only [hr, false_and, if_false, List.nil_append]
      all_goals rfl
    have hs : ((ctuIns c col true r u).map (fun i => floorBits i.intra)).sum = sliceCtus getF c u * 512 := by
      simp [ctuIns, floorBits, Function.comp_def]
    have hb := codeCtus_floor_bits z hz z.ctus z.qp SliceCode.empty
    rw [hc, hs] at hb
    rw [hq]
    simp only [nalBytes, List.map_cons, List.map_nil, List.sum_cons, List.sum_nil, codedNal, List.length_take, SliceCode.empty] at hb ⊢
    unfold sliceTokens at hn ⊢
    rw [hc]
    dsimp only at hb hn ⊢
    omega
  obtain ⟨b, hb⟩ : ∃ b, codeSlice c col r u = codeColumn c col b r u := ⟨_, rfl⟩
  rw [entryBytes, hb]
  have := key b
  omega

/-- a segment of no bytes is reached by any entry. -/
theorem zeroBytes {c n : Nat} {u : State} (h : segBytes getF c u = 0) : segBytes getF c u ≤ n := h ▸ Nat.zero_le n

/-- a floor slice of few CTUs fits a segment with room. -/
theorem floorFits {c col : Nat} {r : EchRow} {u : State} (hr : r.row ≠ 0 ∧ r.forced.contains col = true)
    (hn : sliceTokens (sliceCtus getF c u * 512) ≤ 1000) (hb : (segOf c col u).used + 1088 ≤ segBytes getF c u) :
    segFull c col (entryBytes (codeSlice c col r u).nals) u = false := by
  have := entryBytes_floor c col 1000 r u hr.1 hr.2 hn
  simp only [segFull, decide_eq_false_iff_not, Nat.not_lt]
  omega

/-! ## Ill-formed commands are refused -/

theorem wf_slipPost_short : Instr.wf (.slipPost fw 0 (List.replicate 63 0)) = false := by decide
theorem wf_hwSlipPost_long : Instr.wf (.hwSlipPost 0 (List.replicate 65 0)) = false := by decide
theorem wf_fwSlipPost_short : Instr.wf (.fwSlipPost 0 []) = false := by decide
theorem wf_attest_nonce : Instr.wf (.attest fw (List.replicate 31 0)) = false := by decide
theorem wf_fwData_empty : Instr.wf (.fwData fw 0 []) = false := by decide
theorem wf_fwData_long : Instr.wf (.fwData fw 0 (List.replicate 1025 0)) = false := by decide +kernel
theorem wf_keySet_length : Instr.wf (.keySet fw 1 (List.replicate 96 0)) = false := by decide
theorem wf_extend_length : Instr.wf (.extend fw (List.replicate 47 0)) = false := by decide
theorem wf_lendingMessage_length : Instr.wf (.lendingMessage (List.replicate 23 0)) = false := by decide
theorem wf_managementMessage_short : Instr.wf (.managementMessage 0 (List.replicate 35 0)) = false := by decide
theorem wf_izlFrame_length : Instr.wf (.izlFrame 0 (List.replicate 255 0) 0 0) = false := by decide +kernel
theorem wf_nak_length : Instr.wf (.nak 0 (List.replicate 255 0)) = false := by decide +kernel
theorem wf_alignmentMarker_length : Instr.wf (.alignmentMarker 0 (List.replicate 15 0)) = false := by decide +kernel
theorem wf_unknownOpcode_known : Instr.wf (.unknownOpcode ses 5 0 0) = false := by decide
theorem wf_unknownOpcode_later : Instr.wf (.unknownOpcode ses 10 0 64) = false := by decide
theorem wf_blockEnd_taps : ∃ b, Instr.wf (.blockEnd 0 b) = false := ⟨⟨0, 0, true, true, [], 0, 0⟩, by decide⟩
theorem wf_pauseFrame_priority : Instr.wf (.pauseFrame 0 0 true [(8, 1)]) = false := by decide
theorem wf_pauseFrame_quanta : Instr.wf (.pauseFrame 0 0 true [(0, 65536)]) = false := by decide

/-! ## Figures of the specification -/

/-- the state a command leads to. -/
def after (o : Host.Outcome State Fault Refusal) : State := match o with
  | .next t => t
  | _ => State.reset

/-- "123456789". -/
def digits : List Byte := [0x31, 0x32, 0x33, 0x34, 0x35, 0x36, 0x37, 0x38, 0x39]

/-- chapter 16, the check values of the catalogue configurations. -/
theorem test_crc_catalogue : crc crc8 digits = 0xF4 ∧ crc crc16 digits = 0x29B1 ∧ crc crc32 digits = 0xCBF43926 ∧
    crc crc32c digits = 0xE3069283 ∧ crc crc64 digits = 0x995DC9BBDF1939FA := by decide +kernel

/-- chapter 16, worked example CRC-32C through the register path: after the three DATA words, CMD.finish with last_bytes 1. -/
def crcUnit : State :=
  st [(pgCHK 2, CHK.ST_busy, 1), (pgCHK 2, CHK.CFG_width, 32), (pgCHK 2, CHK.CFG_refin, 1), (pgCHK 2, CHK.CFG_refout, 1),
    (pgCHK 2, CHK.POLY_poly, 0x1EDC6F41), (pgCHK 2, CHK.INIT_init, 0xFFFFFFFF), (pgCHK 2, CHK.XOROUT_xorout, 0xFFFFFFFF)]
    (modChk 2 (fun x => { x with fed := digits ++ [0, 0, 0] }) (on [(pgCHK 2, 4)] ckS))

theorem test_chk_finish_crc32c : getF (pgCHK 2) CHK.RESULT_check (after (exec (.chkFinish fw 2 1) crcUnit)) = 0xE3069283 := by
  decide +kernel

theorem test_chk_finish_length : getF (pgCHK 2) CHK.LEN_bytes (after (exec (.chkFinish fw 2 1) crcUnit)) = 9 := by decide +kernel

/-- chapter 15, worked example crossing 85 °C with six refreshes owed: re-valued, 2 × 6 = 12
(the next REF waits, the pseudo-channel being closed). -/
def owing : State := modHbm 0 (fun x => { x with pcs := SMap.put 7 { pcOf 7 0 hbS with debt := 6, closedUntil := 1 } x.pcs }) hbS

theorem test_refresh_at_85 : (pcOf 0 7 (after (exec (.temperatureReading 0 (some 85)) owing))).debt = 12 := by decide +kernel

/-- R71: pages between the blocks do not exist. -/
theorem test_no_page : regStatus 0x001 0 M0 = .success ∧ regStatus 0x002 0 M0 = .invalidAddress ∧ regStatus 0xFFFFF 0 M0 = .invalidAddress := by decide +kernel

/-- R12: a main-domain page does not answer while VIN is off; HLT answers below its main-domain registers. -/
theorem test_standby_pages : regStatus (pgECH 0) 0 R0 = .unavailable ∧ regStatus pgTIM 0 R0 = .success := by decide +kernel

/-- R270: adj is limited to ±858,993. -/
theorem test_adj_limit : clampAdj 858994 = 858993 ∧ clampAdj (-858994) = -858993 ∧ clampAdj (-5) = -5 := by decide

/-- R34, R35: a frame received with an FCS error is received and dropped, once each. -/
theorem test_port_drop : getF (pgETH 0) ETH.DROP_frames (ethReject 0 1 M0) = 1 ∧ getF (pgETH 0) ETH.RX_frames (ethReject 0 1 M0) = 1 := by
  decide +kernel

/-- R66: EVENT_SET of an enabled bit sets it; R67: EVENT_FIRST holds the lowest bit set in this cycle. -/
theorem test_event_first : getF 0x60 HDR.FIRST_index (after (exec (.eventSet fw 0x60 0xA0) M0)) = 5 := by decide +kernel

/-- R68: a commit takes the next generation number, modulo 2¹². -/
theorem test_commit_generation :
    getF pgRCL HDR.gen_committed (after (exec (.commit fw 0x120) (st [(pgRCL, HDR.gen_committed, 0xFFF), (pgRCL, HDR.gen_applied, 0xFFF)] M0))) = 0 := by
  decide +kernel

/-- R41: a READ response is 8 bytes of header and the word. -/
theorem test_read_response : (OpResp.bytes ⟨0x81, 0, 0x1234, 0x00001108, beBytes 4 7⟩) =
    [0x81, 0, 0x12, 0x34, 0, 0, 0x11, 0x08, 0, 0, 0, 7] := by decide

/-- the two's-complement reading of a field. -/
theorem test_ofTwos : ofTwos 8 0xFF = -1 ∧ ofTwos 8 0x80 = -128 ∧ ofTwos 8 0x7F = 127 ∧ satTwos 8 200 = 0x7F ∧ satTwos 8 (-200) = 0x80 := by
  decide


/-! ## The hypotheses of every statement are met -/

theorem witness_IdleStepPassesOneTick :
    (∃ (s : State), (s.pending = [])) ∧
    (∃ (s : State), (s.pending = [])) :=
  ⟨⟨R0, by decide +kernel⟩,
   ⟨st [(pgTIM, TIM.ST_state, 4)] R0, by decide +kernel⟩⟩

theorem witness_ResetLeaves :
    (∃ (p : Nat), (standbyPage p = false)) ∧
    (∃ (p : Nat) (f : Fld), (f.loc < 2 ^ 20) ∧ (f.loc ≠ HDR.ACT_state.loc)) :=
  ⟨⟨0x60, by decide +kernel⟩,
   ⟨0x60, HDR.EVENT 3, by decide +kernel⟩⟩

theorem witness_ResponsesGoToTheRequester :
    (∃ (i : Fin 8) (tag : BitVec 16) (opcode : Nat) (addr : Nat) (st : Status) (body : List Byte) (x : Session) (s : State), (sessionAt i.val s = some x)) ∧
    (∃ (i : Fin 8) (tag : BitVec 16) (opcode : Nat) (addr : Nat) (st : Status) (body : List Byte) (x : Session) (s : State) (j : Nat), (sessionAt i.val s = some x) ∧ (j ≠ i.val)) ∧
    (∃ (i : Fin 8) (tag : BitVec 16) (opcode : Nat) (addr : Nat) (st : Status) (body : List Byte) (x : Session) (s : State), (sessionAt i.val s = some x)) ∧
    (∃ (tag : BitVec 16) (opcode : Nat) (addr : Nat) (st : Status) (body : List Byte) (s : State), (st ≠ .success)) :=
  ⟨⟨0, 5, 0x81, 0, .busy, [1], sess, S0, by decide +kernel⟩,
   ⟨0, 5, 0x81, 0, .busy, [1], sess, putSession 1 sess S0, 1, by decide +kernel⟩,
   ⟨0, 5, 0x81, 0, .busy, [1], sess, S0, by decide +kernel⟩,
   ⟨5, 0x81, 0x1000, .busy, [], R0, by decide +kernel⟩⟩

theorem witness_ReadsAnswerTheWord :
    (∃ (r : Req) (addr : Word) (s : State), (State.lets r 1 (addr.toNat / 4096) (addr.toNat % 4096) s)) ∧
    (∃ (r : Req) (addr : Word) (s : State), (State.lets r 1 (addr.toNat / 4096) (addr.toNat % 4096) s)) ∧
    (∃ (r : Req) (addr : Word) (s : State), (State.lets r 1 (addr.toNat / 4096) (addr.toNat % 4096) s) ∧ (readAction r (addr.toNat / 4096) (addr.toNat % 4096) s = none) ∧ (takeLatch r addr.toNat s = none) ∧ (pairLow (addr.toNat / 4096) (addr.toNat % 4096) = false)) ∧
    (∃ (r : Req) (addr : Word) (s : State), (State.lets r 1 (addr.toNat / 4096) (addr.toNat % 4096) s) ∧ (readAction r (addr.toNat / 4096) (addr.toNat % 4096) s = none) ∧ (takeLatch r addr.toNat s = none) ∧ (pairLow (addr.toNat / 4096) (addr.toNat % 4096) = false)) ∧
    (∃ (r : Req) (addr : Word) (v : Nat) (u : State) (s : State), (State.lets r 1 (addr.toNat / 4096) (addr.toNat % 4096) s) ∧ (readAction r (addr.toNat / 4096) (addr.toNat % 4096) s = none) ∧ (takeLatch r addr.toNat s = some (v, u))) ∧
    (∃ (r : Req) (addr : Word) (s : State), (State.lets r 1 (addr.toNat / 4096) (addr.toNat % 4096) s) ∧ (readAction r (addr.toNat / 4096) (addr.toNat % 4096) s = none) ∧ (takeLatch r addr.toNat s = none) ∧ (pairLow (addr.toNat / 4096) (addr.toNat % 4096) = true)) ∧
    (∃ (i : Fin 8) (tag : BitVec 16) (a : Nat) (v : Nat) (x : Session) (s : State), (sessionAt i.val s = some x)) ∧
    (∃ (r : Req) (addr : Word) (count : Byte) (s : State), (State.lets r 2 (addr.toNat / 4096) (addr.toNat % 4096) s) ∧ (addr.toNat % 4096 + 4 * (count.toNat + 1) ≤ 4096)) ∧
    (∃ (r : Req) (addr : Word) (count : Byte) (s : State), (State.lets r 2 (addr.toNat / 4096) (addr.toNat % 4096) s) ∧ (addr.toNat % 4096 + 4 * (count.toNat + 1) ≤ 4096)) ∧
    (∃ (r : Req) (addr : Word) (count : Byte) (s : State), (State.lets r 2 (addr.toNat / 4096) (addr.toNat % 4096) s) ∧ (addr.toNat % 4096 + 4 * (count.toNat + 1) ≤ 4096) ∧ ((∀ k, k ≤ count.toNat → regStatus (addr.toNat / 4096) (addr.toNat % 4096 + 4 * k) s = .success ∧ readAction r (addr.toNat / 4096) (addr.toNat % 4096 + 4 * k) s = none ∧ takeLatch r (addr.toNat + 4 * k) s = none ∧ pairLow (addr.toNat / 4096) (addr.toNat % 4096 + 4 * k) = false))) ∧
    (∃ (r : Req) (addr : Word) (count : Byte) (s : State), (State.lets r 2 (addr.toNat / 4096) (addr.toNat % 4096) s) ∧ (4096 < addr.toNat % 4096 + 4 * (count.toNat + 1))) :=
  ⟨⟨fw, 0x1108, R0, fwLets (by decide +kernel)⟩,
   ⟨ses, BitVec.ofNat 32 (pgSTK*4096 + 0x114), S0, ⟨by decide +kernel, _, rfl, by decide +kernel, by decide +kernel⟩⟩,
   ⟨fw, 0x1108, R0, fwLets (by decide +kernel), by decide +kernel⟩,
   ⟨ses, 0x1100, S0, ⟨by decide +kernel, _, rfl, by decide +kernel, by decide +kernel⟩, by decide +kernel⟩,
   ⟨ses, 0x1104, 5, S0, latchWord ses 0x1104 5 S0, ⟨by decide +kernel, _, rfl, by decide +kernel, by decide +kernel⟩, by decide +kernel, rfl⟩,
   ⟨ses, BitVec.ofNat 32 (pgSTK*4096 + STK.POPS_packets.off), S0, ⟨by decide +kernel, _, rfl, by decide +kernel, by decide +kernel⟩, by decide +kernel⟩,
   ⟨0, 9, 0x1104, 7, sess, S0, by decide +kernel⟩,
   ⟨fw, 0x1000, 63, R0, fwLets (by decide +kernel), by decide +kernel⟩,
   ⟨fw, 0x1FFC, 0, R0, fwLets (by decide +kernel), by decide +kernel⟩,
   ⟨fw, 0x1000, 3, R0, fwLets (by decide +kernel), by decide +kernel⟩,
   ⟨ses, 0x1FFC, 1, S0, ⟨by decide +kernel, _, rfl, by decide +kernel, by decide +kernel⟩, by decide +kernel⟩⟩

theorem witness_WritesTakeTheirValue :
    (∃ (r : Req) (addr : Word) (value : Word) (s : State), (State.lets r 3 (addr.toNat / 4096) (addr.toNat % 4096) s) ∧ (resetsDevice (addr.toNat / 4096) (addr.toNat % 4096) value.toNat = false)) ∧
    (∃ (r : Req) (addr : Word) (mask : Word) (value : Word) (s : State), (State.lets r 4 (addr.toNat / 4096) (addr.toNat % 4096) s) ∧ (resetsDevice (addr.toNat / 4096) (addr.toNat % 4096) (maskedWord (addr.toNat / 4096) (addr.toNat % 4096) mask.toNat value.toNat s) = false)) ∧
    (∃ (r : Req) (addr : Word) (value : Word) (s : State), (State.lets r 3 (addr.toNat / 4096) 0x014 s) ∧ (addr.toNat % 4096 = 0x014)) ∧
    (∃ (r : Req) (addr : Word) (value : Word) (s : State), (State.lets r 3 (addr.toNat / 4096) 0x014 s) ∧ (addr.toNat % 4096 = 0x014)) ∧
    (∃ (r : Req) (addr : Word) (value : Word) (s : State), (State.lets r 3 (addr.toNat / 4096) 0x024 s) ∧ (addr.toNat % 4096 = 0x024) ∧ (hasState (addr.toNat / 4096) = true) ∧ (value.toNat % 16 ∈ [stOFF, stIDLE, stRUNNING, stTEST, stLOW])) ∧
    (∃ (r : Req) (addr : Word) (value : Word) (s : State), (State.lets r 3 (addr.toNat / 4096) 0x024 s) ∧ (addr.toNat % 4096 = 0x024) ∧ (hasState (addr.toNat / 4096) = true) ∧ (value.toNat % 16 ∉ [stOFF, stIDLE, stRUNNING, stTEST, stLOW])) ∧
    (∃ (r : Req) (addr : Word) (mask : Word) (value : Word) (s : State), (State.lets r 4 (addr.toNat / 4096) 0x010 s) ∧ (addr.toNat % 4096 = 0x010)) :=
  ⟨⟨fw, 0x1014, 5, R0, fwLets (by decide +kernel), by decide +kernel⟩,
   ⟨ses, 0x60010, 0xF0, 0x30, S0, ⟨by decide +kernel, _, rfl, by decide +kernel, by decide +kernel⟩, by decide +kernel⟩,
   ⟨fw, 0x1014, 0x80000001, R0, fwLets (by decide +kernel), by decide +kernel⟩,
   ⟨ses, 0x60014, 0x80000001, S0, ⟨by decide +kernel, _, rfl, by decide +kernel, by decide +kernel⟩, by decide +kernel⟩,
   ⟨ses, 0x60024, 4, S0, ⟨by decide +kernel, _, rfl, by decide +kernel, by decide +kernel⟩, by decide +kernel⟩,
   ⟨ses, 0x60024, 5, S0, ⟨by decide +kernel, _, rfl, by decide +kernel, by decide +kernel⟩, by decide +kernel⟩,
   ⟨ses, 0x60010, 0xF0, 0x30, st [(0x60, HDR.EVENT 5, 1), (0x60, HDR.EVENT 0, 1)] S0, ⟨by decide +kernel, _, rfl, by decide +kernel, by decide +kernel⟩, by decide +kernel⟩⟩

theorem witness_EventBitsSetAndClear :
    (∃ (r : Req) (page : BitVec 20) (bits : Word) (s : State), (State.lets r 3 page.toNat 0x018 s)) ∧
    (∃ (r : Req) (page : BitVec 20) (bits : Word) (sets : Word) (s : State), (State.lets r 3 page.toNat 0x010 s)) :=
  ⟨⟨ses, 0x60, 0x80000003, st [(0x60, HDR.EVENT_EN 1, 1)] S0, ⟨by decide +kernel, _, rfl, by decide +kernel, by decide +kernel⟩⟩,
   ⟨ses, 0x60, 0x80000003, 0x5, st [(0x60, HDR.EVENT 1, 1), (0x60, HDR.EVENT_EN 2, 1)] S0, ⟨by decide +kernel, _, rfl, by decide +kernel, by decide +kernel⟩⟩⟩

theorem witness_CommitDiscardMismatch :
    (∃ (r : Req) (page : BitVec 20) (s : State), (State.lets r 3 page.toNat 0x020 s)) ∧
    (∃ (r : Req) (page : BitVec 20) (s : State), (State.lets r 3 page.toNat 0x020 s) ∧ (commitRefused page.toNat s = false) ∧ (commitValid page.toNat s = false)) ∧
    (∃ (r : Req) (s : State), (State.lets r 3 pgRCL 0x020 s) ∧ (commitValid pgRCL s = true)) ∧
    (∃ (r : Req) (page : BitVec 20) (s : State), (State.lets r 3 page.toNat 0x020 s) ∧ (hasState page.toNat = true) ∧ (act page.toNat s = stRUNNING) ∧ (getSh page.toNat HDR.CMD_state s ∈ [stTEST, stOFF]) ∧ (getSh page.toNat HDR.CMD_state s ≠ cmdOf page.toNat s)) ∧
    (∃ (r : Req) (page : BitVec 20) (s : State), (State.lets r 3 page.toNat 0x020 s)) ∧
    (∃ (page : BitVec 20) (s : State), (statesAgree page.toNat s = false)) ∧
    (∃ (page : BitVec 20) (s : State), (statesAgree page.toNat s = true)) :=
  ⟨⟨ses, 0x60, sh [(0x60, HDR.CMD_state, 4)] S0, ⟨by decide +kernel, _, rfl, by decide +kernel, by decide +kernel⟩⟩,
   ⟨ses, BitVec.ofNat 20 pgHLT, sh [(pgHLT, HLT.GOV_t2, 120)] S0, ⟨by decide +kernel, _, rfl, by decide +kernel, by decide +kernel⟩, by decide +kernel⟩,
   ⟨ses, S0, ⟨by decide +kernel, _, rfl, by decide +kernel, by decide +kernel⟩, by decide +kernel⟩,
   ⟨ses, 0x60, on [(0x60, 4)] (sh [(0x60, HDR.CMD_state, 7)] S0), ⟨by decide +kernel, _, rfl, by decide +kernel, by decide +kernel⟩, by decide +kernel⟩,
   ⟨ses, 0x60, sh [(0x60, HDR.CMD_state, 4)] S0, ⟨by decide +kernel, _, rfl, by decide +kernel, by decide +kernel⟩⟩,
   ⟨0x60, { (cm [(0x60, HDR.CMD_state, 4)] S0) with ticks := [(0x60, 2)] }, by decide +kernel⟩,
   ⟨0x60, on [(0x60, 4)] (cm [(0x60, HDR.CMD_state, 4)] S0), by decide +kernel⟩⟩

theorem witness_ScheduledWrites :
    (∃ (r : Req) (addr : Word) (body : WatBody) (s : State), (State.lets r 5 (addr.toNat / 4096) (addr.toNat % 4096) s) ∧ (watCheck addr.toNat body s = .success) ∧ (SMap.sorted s.hap.wats = true) ∧ ((∀ e ∈ s.hap.wats, e.1 < 256))) ∧
    (∃ (slot : Fin 256) (e : WatEntry) (s : State), (SMap.find slot.val s.hap.wats = some e) ∧ (e.picture = false)) ∧
    (∃ (slot : Fin 256) (e : WatEntry) (s : State), (SMap.sorted s.hap.wats = true) ∧ (SMap.find slot.val s.hap.wats = some e) ∧ (e.picture = false) ∧ (e.masked = false) ∧ (e.time ≤ fabNs s) ∧ (e.target % 4096 = 0x014) ∧ ((∀ j q, j ≠ slot.val → SMap.find j s.hap.wats = some q → q.picture = true ∨ fabNs s < q.time)) ∧ (regStatus (e.target / 4096) 0x014 s = .success)) ∧
    (∃ (slot : Fin 256) (s : State), ((SMap.find slot.val s.hap.wats).all (fun e => e.picture) = true)) ∧
    (∃ (r : Req) (slot : Byte) (e : WatEntry) (s : State), (State.lets r 3 pgHAP 0x118 s) ∧ (SMap.find slot.toNat s.hap.wats = some e)) ∧
    (∃ (r : Req) (slot : Byte) (s : State), (State.lets r 3 pgHAP 0x118 s) ∧ (SMap.find slot.toNat s.hap.wats = none)) :=
  ⟨⟨ses, 0x1014, ⟨1, false, 0, 0, 50000000, 0xFFFFFFFF, 3⟩, st [(pgTIM, TIM.ST_first_lock, 1), (pgTIM, TIM.ST_state, 2)] S0, ⟨by decide +kernel, _, rfl, by decide +kernel, by decide +kernel⟩, by decide +kernel⟩,
   ⟨3, ⟨0, false, 0, 0, false, 0xFFFFFFFF, 3, 0x1014, 5, 77, .session 0⟩, { S0 with hap := { S0.hap with wats := [(3, ⟨0, false, 0, 0, false, 0xFFFFFFFF, 3, 0x1014, 5, 77, .session 0⟩)] } }, by decide +kernel⟩,
   ⟨3, ⟨0, false, 0, 0, false, 0xFFFFFFFF, 3, 0x1014, 5, 77, .session 0⟩, { S0 with hap := { S0.hap with wats := [(3, ⟨0, false, 0, 0, false, 0xFFFFFFFF, 3, 0x1014, 5, 77, .session 0⟩)] } }, by decide +kernel, by decide +kernel, by decide +kernel, by decide +kernel, by decide +kernel, by decide +kernel, fun _ _ hj hq => absurd hq (find_single hj), by decide +kernel⟩,
   ⟨5, S0, by decide +kernel⟩,
   ⟨ses, 3, ⟨0, false, 0, 0, false, 0xFFFFFFFF, 3, 0x1014, 5, 77, .session 0⟩, { S0 with hap := { S0.hap with wats := [(3, ⟨0, false, 0, 0, false, 0xFFFFFFFF, 3, 0x1014, 5, 77, .session 0⟩)] } }, ⟨by decide +kernel, _, rfl, by decide +kernel, by decide +kernel⟩, by decide +kernel⟩,
   ⟨ses, 3, S0, ⟨by decide +kernel, _, rfl, by decide +kernel, by decide +kernel⟩, by decide +kernel⟩⟩

theorem witness_SessionsOpenAndClose :
    (∃ (port : HPort) (peer : Peer) (f : List Byte) (s : State), (State.hears port peer f s) ∧ ((frameHead f).kind = 4) ∧ (f.length = 157) ∧ (fieldAt 25 1 f = 1) ∧ ((if fieldAt 24 1 f = 0xFF then mayProvision port s = true else (SMap.find (fieldAt 24 1 f) s.fwl.keys).isSome = true)) ∧ (s.hap.sessions.length < 8)) ∧
    (∃ (port : HPort) (peer : Peer) (f : List Byte) (a : Accept) (s : State), (State.hears port peer f s) ∧ ((frameHead f).kind = 6) ∧ (f.length = 124) ∧ (acceptOf (fieldAt 24 4 f) s = some a) ∧ (a.keyIndex ≠ 0xFF) ∧ (s.hap.sessions.length < 8)) ∧
    (∃ (port : HPort) (peer : Peer) (f : List Byte) (a : Accept) (s : State), (State.hears port peer f s) ∧ ((frameHead f).kind = 6) ∧ (f.length = 124) ∧ (acceptOf (fieldAt 24 4 f) s = some a) ∧ (a.keyIndex = 0xFF) ∧ (s.hap.sessions.length < 8) ∧ (mayProvision a.port s = true)) ∧
    (∃ (port : HPort) (peer : Peer) (f : List Byte) (i : Fin 8) (x : Session) (s : State), (State.hears port peer f s) ∧ ((frameHead f).kind = 7) ∧ (40 ≤ f.length) ∧ ((frameHead f).sid ≠ domainSid) ∧ (sessionOf (frameHead f).sid s = some i.val) ∧ (sessionAt i.val s = some x) ∧ (seqNew x.rxHigh x.rxSeen (frameHead f).seq = true) ∧ (tagOk x.rxKey f = true)) ∧
    (∃ (sid : Word) (a : Accept) (s : State), (s.hap.accepts.find? (fun y => y.sid == sid.toNat) = some a)) ∧
    (∃ (i : Fin 8) (x : Session) (s : State), (sessionAt i.val s = some x)) :=
  ⟨⟨.a, pr0, openF, openSt M0, (by unfold State.hears; decide +kernel), by decide +kernel⟩,
   ⟨.a, pr0, confF, acc0, openSt { M0 with hap := { M0.hap with accepts := [acc0] } }, (by unfold State.hears; decide +kernel), by decide +kernel⟩,
   ⟨.m, pr0, confF, accP, openM { M0 with hap := { M0.hap with accepts := [accP] } }, (by unfold State.hears; decide +kernel), by decide +kernel⟩,
   ⟨.a, pr0, tagged (frm 7 0 0 []), 0, sess, openSt S0, (by unfold State.hears; decide +kernel), by decide +kernel, by decide +kernel, by decide +kernel, by decide +kernel, by decide +kernel, by decide +kernel, tagOk_tagged _ _⟩,
   ⟨55, acc0, openSt { M0 with hap := { M0.hap with accepts := [acc0] } }, by decide +kernel⟩,
   ⟨0, sess, S0, by decide +kernel⟩⟩

theorem witness_EmptyRequestIsAnswered :
    (∃ (port : HPort) (peer : Peer) (f : List Byte) (i : Fin 8) (x : Session) (ops : List (List Byte)) (s : State), (State.hears port peer f s) ∧ ((frameHead f).kind = 1) ∧ (40 ≤ f.length) ∧ ((frameHead f).sid ≠ domainSid) ∧ (sessionOf (frameHead f).sid s = some i.val) ∧ (sessionAt i.val s = some x) ∧ (seqNew x.rxHigh x.rxSeen (frameHead f).seq = true) ∧ (tagOk x.rxKey f = true) ∧ (requestOps f = some ops)) ∧
    (∃ (port : HPort) (peer : Peer) (f : List Byte) (i : Fin 8) (x : Session) (ops : List (List Byte)) (s : State), (State.hears port peer f s) ∧ ((frameHead f).kind = 1) ∧ (40 ≤ f.length) ∧ ((frameHead f).sid ≠ domainSid) ∧ (sessionOf (frameHead f).sid s = some i.val) ∧ (sessionAt i.val s = some x) ∧ (seqNew x.rxHigh x.rxSeen (frameHead f).seq = true) ∧ (tagOk x.rxKey f = true) ∧ (requestOps f = some ops)) ∧
    (∃ (port : HPort) (peer : Peer) (f : List Byte) (i : Fin 8) (x : Session) (s : State), (State.hears port peer f s) ∧ (port ≠ .izt) ∧ ((frameHead f).kind = 1) ∧ (f.length = 40) ∧ ((frameHead f).ops = 0) ∧ ((frameHead f).length = 0) ∧ ((frameHead f).sid ≠ domainSid) ∧ (sessionOf (frameHead f).sid s = some i.val) ∧ (sessionAt i.val s = some x) ∧ (seqNew x.rxHigh x.rxSeen (frameHead f).seq = true) ∧ (tagOk x.rxKey f = true)) ∧
    (∃ (port : HPort) (peer : Peer) (f : List Byte) (key : Nat) (ops : List (List Byte)) (s : State), (State.hearsDomain port peer f s) ∧ (s.hap.dkey = some key) ∧ ((frameHead f).kind = 1) ∧ (40 ≤ f.length) ∧ (seqNew s.hap.domHigh s.hap.domSeen (frameHead f).seq = true) ∧ (tagOk (beBytes 32 key) f = true) ∧ (requestOps f = some ops)) ∧
    (∃ (port : HPort) (peer : Peer) (f : List Byte) (i : Fin 8) (x : Session) (s : State), (State.hears port peer f s) ∧ (40 ≤ f.length) ∧ ((frameHead f).kind = 1) ∧ ((frameHead f).sid ≠ domainSid) ∧ (sessionOf (frameHead f).sid s = some i.val) ∧ (sessionAt i.val s = some x) ∧ ((seqNew x.rxHigh x.rxSeen (frameHead f).seq && tagOk x.rxKey f) = false)) :=
  ⟨⟨.a, pr0, tagged (frm 1 0 0 []), 0, sess, [], openSt S0, (by unfold State.hears; decide +kernel), by decide +kernel, by decide +kernel, by decide +kernel, by decide +kernel, by decide +kernel, by decide +kernel, tagOk_tagged _ _, by decide +kernel⟩,
   ⟨.a, pr0, tagged (frm 1 1 8 rdOp), 0, sess, [rdOp], openSt S0, (by unfold State.hears; decide +kernel), by decide +kernel, by decide +kernel, by decide +kernel, by decide +kernel, by decide +kernel, by decide +kernel, tagOk_tagged _ _, by decide +kernel⟩,
   ⟨.a, pr0, tagged (frm 1 0 0 []), 0, sess, openSt S0, (by unfold State.hears; decide +kernel), by decide +kernel, by decide +kernel, by decide +kernel, by decide +kernel, by decide +kernel, by decide +kernel, by decide +kernel, by decide +kernel, by decide +kernel, tagOk_tagged _ _⟩,
   ⟨.a, pr0, domF, 5, [], openSt { M0 with hap := { M0.hap with dkey := some 5 } }, (by unfold State.hearsDomain; decide +kernel), by decide +kernel, by decide +kernel, by decide +kernel, by decide +kernel, tagOk_tagged _ _, by decide +kernel⟩,
   ⟨.a, pr0, frm 1 0 0 [] ++ List.replicate 16 0, 0, seenS, openSt (putSession 0 seenS M0), (by unfold State.hears; decide +kernel), by decide +kernel⟩⟩

theorem witness_SubscribeUnknownEventFrameDkey :
    (∃ (i : Fin 8) (tag : BitVec 16) (addr : Word) (mask : Word) (action : Byte) (x : Session) (s : State), (sessionAt i.val s = some x) ∧ (x.provisioning = false) ∧ (x.outstanding + x.unsent < 64)) ∧
    (∃ (i : Fin 8) (tag : BitVec 16) (addr : Word) (mask : Word) (action : Byte) (x : Session) (s : State), (sessionAt i.val s = some x) ∧ (x.provisioning = false) ∧ (x.outstanding + x.unsent < 64)) ∧
    (∃ (i : Fin 8) (tag : BitVec 16) (addr : Word) (mask : Word) (action : Byte) (x : Session) (s : State), (sessionAt i.val s = some x) ∧ (x.provisioning = false) ∧ (x.outstanding + x.unsent < 64)) ∧
    (∃ (i : Fin 8) (tag : BitVec 16) (opcode : Byte) (addr : Word) (later : Nat) (x : Session) (s : State), (sessionAt i.val s = some x) ∧ (x.provisioning = false) ∧ (x.outstanding + x.unsent < 64) ∧ ((opcode.toNat = 0 ∨ 9 < opcode.toNat)) ∧ (later < 64)) ∧
    (∃ (i : Fin 8) (tag : BitVec 16) (opcode : Byte) (addr : Word) (later : Nat) (x : Session) (s : State), (sessionAt i.val s = some x) ∧ (x.provisioning = false) ∧ (x.outstanding + x.unsent < 64) ∧ ((opcode.toNat = 0 ∨ 9 < opcode.toNat)) ∧ (later < 64)) ∧
    (∃ (i : Fin 8) (x : Session) (s : State), (sessionAt i.val s = some x) ∧ (x.records ≠ [])) ∧
    (∃ (i : Fin 8) (x : Session) (s : State), (sessionAt i.val s = some x) ∧ (x.records ≠ []) ∧ (x.port ≠ .izt) ∧ (portUp (portNum x.port) s = true)) ∧
    (∃ (r : Req) (s : State), (State.lets r 3 pgHAP 0x160 s) ∧ (unicast r = true)) ∧
    (∃ (r : Req) (s : State), (State.lets r 3 pgHAP 0x160 s) ∧ (unicast r = false)) :=
  ⟨⟨0, 9, 0x60010, 0xFF, 1, sess, S0, by decide +kernel⟩,
   ⟨0, 9, 0x60010, 0xFF, 1, { sess with subs := List.replicate 32 oneSub }, putSession 0 { sess with subs := List.replicate 32 oneSub } M0, by decide +kernel⟩,
   ⟨0, 9, 0, 1, 2, { sess with subs := [oneSub] }, putSession 0 { sess with subs := [oneSub] } M0, by decide +kernel⟩,
   ⟨0, 9, 10, 5, 63, sess, S0, by decide +kernel⟩,
   ⟨0, 9, 0, 5, 1, sess, S0, by decide +kernel⟩,
   ⟨0, { sess with records := [[1], [2]] }, putSession 0 { sess with records := [[1], [2]] } M0, by decide +kernel⟩,
   ⟨0, { sess with records := [[1], [2]] }, openSt (putSession 0 { sess with records := [[1], [2]] } M0), by decide +kernel⟩,
   ⟨ses, S0, ⟨by decide +kernel, _, rfl, by decide +kernel, by decide +kernel⟩, by decide +kernel⟩,
   ⟨⟨.domain, 3⟩, S0, ⟨by decide +kernel, by decide +kernel⟩, by decide +kernel⟩⟩

theorem witness_IngestPageRuns :
    (∃ (i : Fin 64) (s : State), (act (pgING i.val) s = stSTARTING) ∧ (isF pgTIM TIM.ST_first_lock s = true) ∧ (stacksUp (pgING i.val) s = true)) ∧
    (∃ (i : Fin 64) (s : State), (act (pgING i.val) s = stSTARTING) ∧ (isF pgTIM TIM.ST_first_lock s = true) ∧ (stacksUp (pgING i.val) s = true) ∧ (s.hap.wats = []) ∧ (pendingGen (pgING i.val) s = false)) ∧
    (∃ (i : Fin 64) (s : State), (act (pgING i.val) s = stSTARTING) ∧ (isF pgTIM TIM.ST_first_lock s = false) ∧ (getF (pgING i.val) HDR.ACT_reason s ≠ 0x0C)) ∧
    (∃ (i : Fin 64) (s : State), (act (pgING i.val) s = stRUNNING) ∧ (pendingGen (pgING i.val) s = false) ∧ (s.hap.wats = [])) ∧
    (∃ (i : Fin 64) (s : State), (act (pgING i.val) s = stRUNNING) ∧ (pendingGen (pgING i.val) s = false) ∧ (s.hap.wats = [])) ∧
    (∃ (i : Fin 64) (s : State), (act (pgING i.val) s = stRUNNING) ∧ (isF (pgING i.val) ING.ST_src_lost s = false) ∧ (nextTickDue i.val s = false) ∧ (getF (pgING i.val) ING.LOSS_loss_pics s ≤ (ingOf i.val s).missRun + 1)) ∧
    (∃ (i : Fin 64) (s : State), (act (pgING i.val) s = stRUNNING) ∧ (isF (pgING i.val) ING.ST_src_lost s = false) ∧ (nextTickDue i.val s = false) ∧ (getF (pgING i.val) ING.LOSS_loss_pics s ≤ (ingOf i.val s).missRun + 1) ∧ (pendingGen (pgING i.val) s = false) ∧ (s.hap.wats = [])) ∧
    (∃ (i : Fin 64) (s : State), (act (pgING i.val) s = stRUNNING) ∧ (isF (pgING i.val) ING.ST_src_lost s = true) ∧ (nextTickDue i.val s = true) ∧ (getF (pgING i.val) ING.LOSS_rejoin_pics s ≤ (ingOf i.val s).foundRun + 1)) ∧
    (∃ (i : Fin 64) (s : State), (act (pgING i.val) s = stRUNNING) ∧ (isF (pgING i.val) ING.ST_src_lost s = true) ∧ (nextTickDue i.val s = true) ∧ (getF (pgING i.val) ING.LOSS_rejoin_pics s ≤ (ingOf i.val s).foundRun + 1) ∧ (pendingGen (pgING i.val) s = false) ∧ (s.hap.wats = [])) ∧
    (∃ (i : Fin 64) (s : State), (act (pgING i.val) s = stSTOPPING) ∧ ((∀ q ∈ (ingOf i.val s).ring, ∀ w ∈ q.readers, some w.2 = (ingOf i.val s).hist.head?.map FedTick.n → stillReads w.1 s = false))) ∧
    (∃ (i : Fin 64) (s : State), (act (pgING i.val) s = stSTOPPING) ∧ ((∀ q ∈ (ingOf i.val s).ring, ∀ w ∈ q.readers, some w.2 = (ingOf i.val s).hist.head?.map FedTick.n → stillReads w.1 s = false)) ∧ (pendingGen (pgING i.val) s = false)) ∧
    (∃ (i : Fin 64) (s : State), (act (pgING i.val) s = stSTOPPING) ∧ ((∀ q ∈ (ingOf i.val s).ring, ∀ w ∈ q.readers, some w.2 = (ingOf i.val s).hist.head?.map FedTick.n → stillReads w.1 s = false)) ∧ (pendingGen (pgING i.val) s = false)) :=
  ⟨⟨3, on [(pgING 3, 3)] (st [(pgTIM, TIM.ST_first_lock, 1)] M0), by decide +kernel⟩,
   ⟨3, on [(pgING 3, 3)] (st [(pgTIM, TIM.ST_first_lock, 1)] M0), by decide +kernel⟩,
   ⟨63, on [(pgING 63, 3)] M0, by decide +kernel⟩,
   ⟨3, on [(pgING 3, 4)] M0, by decide +kernel⟩,
   ⟨3, modIng 3 (fun x => { x with ring := [slot0] }) (on [(pgING 3, 4)] (st [(pgTIM, TIM.ST_first_lock, 1)] M0)), by decide +kernel⟩,
   ⟨3, on [(pgING 3, 4)] (modIng 3 (fun x => { x with missRun := 100 }) M0), by decide +kernel⟩,
   ⟨3, on [(pgING 3, 4)] (modIng 3 (fun x => { x with missRun := 100 }) M0), by decide +kernel⟩,
   ⟨3, on [(pgING 3, 4)] (st [(pgING 3, ING.ST_src_lost, 1)] (modIng 3 (fun x => { x with foundRun := 100, ring := [slot0] }) M0)), by decide +kernel⟩,
   ⟨3, on [(pgING 3, 4)] (st [(pgING 3, ING.ST_src_lost, 1)] (modIng 3 (fun x => { x with foundRun := 100, ring := [slot0] }) M0)), by decide +kernel⟩,
   ⟨3, on [(pgING 3, 5)] M0, by decide +kernel⟩,
   ⟨3, on [(pgING 3, 5)] M0, by decide +kernel⟩,
   ⟨3, cm [(pgING 3, HDR.CMD_state, 2)] (on [(pgING 3, 5)] M0), by decide +kernel⟩⟩

theorem witness_MergeLegsAndSlate :
    (∃ (i : Fin 64) (k : FlowKind) (u : Nat) (at_ : Nat) (s : State), ((ingMerge i.val k s).next = some (u, at_)) ∧ (asksLead (pgING i.val) s = false)) ∧
    (∃ (i : Fin 64) (k : FlowKind) (u : Nat) (at_ : Nat) (s : State), ((ingMerge i.val k s).next = some (u, at_)) ∧ (asksLead (pgING i.val) s = false)) ∧
    (∃ (i : Fin 64) (k : FlowKind) (u : Nat) (at_ : Nat) (s : State), ((ingMerge i.val k s).next = some (u, at_)) ∧ (asksLead (pgING i.val) s = true)) ∧
    (∃ (i : Fin 16) (u : Nat) (at_ : Nat) (s : State), ((dchOf i.val s).merge.next = some (u, at_)) ∧ (asksLead (pgDCH i.val) s = false)) ∧
    (∃ (i : Fin 16) (u : Nat) (at_ : Nat) (s : State), ((dchOf i.val s).merge.next = some (u, at_)) ∧ (asksLead (pgDCH i.val) s = true)) ∧
    (∃ (i : Fin 64) (b : Band) (s : State), (nextBand i.val s = some b)) ∧
    (∃ (i : Fin 64) (b : Band) (s : State) (first : Nat) (lines : Nat), (nextBand i.val s = some b) ∧ (first ≠ b.first ∨ lines ≠ b.lines)) ∧
    (∃ (i : Fin 64) (b : Band) (slot : RingSlot) (s : State), (nextBand i.val s = some b) ∧ (slotOf b.key (ingOf i.val s) = some slot) ∧ (asksLead (pgING i.val) s = false)) ∧
    (∃ (i : Fin 64) (k : FlowKind) (legB : Bool) (s : State), (isF (pgING i.val) (if legB then ING.ST_leg_b_up else ING.ST_leg_a_up) s = true)) ∧
    (∃ (i : Fin 64) (k : FlowKind) (legB : Bool) (s : State), (isF (pgING i.val) (if legB then ING.ST_leg_b_up else ING.ST_leg_a_up) s = true)) ∧
    (∃ (i : Fin 16) (legB : Bool) (s : State), (isF (pgDCH i.val) (if legB then DCH.ST_leg_b_up else DCH.ST_leg_a_up) s = true)) ∧
    (∃ (r : Req) (i : Fin 64) (s : State), (State.lets r 3 (pgING i.val) 0x128 s)) ∧
    (∃ (r : Req) (i : Fin 64) (source : Fin 64) (s : State), (State.lets r 3 (pgING i.val) 0x128 s) ∧ ((sameFormat i.val source.val s && isF (pgING source.val) ING.ST_slate_valid s) = true)) ∧
    (∃ (r : Req) (i : Fin 64) (source : Fin 64) (s : State), (State.lets r 3 (pgING i.val) 0x128 s) ∧ ((sameFormat i.val source.val s && isF (pgING source.val) ING.ST_slate_valid s) = true)) ∧
    (∃ (r : Req) (i : Fin 64) (source : Fin 64) (s : State), (State.lets r 3 (pgING i.val) 0x128 s) ∧ ((sameFormat i.val source.val s && isF (pgING source.val) ING.ST_slate_valid s) = false)) :=
  ⟨⟨3, .video, 7, 1000, modIng 3 (fun x => { x with merges := [(0, { Merge.reset with started := true, high := 9, got := [(8, g0), (9, g0)], expiry := [(7, ⟨1000, 5⟩)] })] }) M0, by decide +kernel⟩,
   ⟨3, .anc, 7, 1000, modIng 3 (fun x => { x with merges := [(2, { Merge.reset with started := true, high := 9, got := [(8, g0), (9, g0)], expiry := [(6, ⟨2000, 5⟩), (7, ⟨1000, 5⟩)] })] }) M0, by decide +kernel⟩,
   ⟨0, .video, 7, 1000, modIng 0 (fun x => { x with merges := [(0, { Merge.reset with started := true, high := 9, got := [(8, g0), (9, g0)], expiry := [(7, ⟨1000, 5⟩)] })] }) (folS .joined), by decide +kernel⟩,
   ⟨2, 7, 1000, modDch 2 (fun x => { x with merge := { Merge.reset with started := true, high := 9, got := [(8, g0), (9, g0)], expiry := [(7, ⟨1000, 5⟩)] } }) M0, by decide +kernel⟩,
   ⟨2, 7, 1000, modDch 2 (fun x => { x with merge := { Merge.reset with started := true, high := 9, got := [(8, g0), (9, g0)], expiry := [(7, ⟨1000, 5⟩)] } }) (st [(pgECH 1, ECH.SRC_src_kind, 2), (pgECH 1, ECH.SRC_src, 2)] (folS .joined)), by decide +kernel⟩,
   ⟨0, (nextBand 0 bandS).getD ⟨0, 0, 0, 0⟩, bandS, by decide +kernel⟩,
   ⟨0, (nextBand 0 bandS).getD ⟨0, 0, 0, 0⟩, bandS, 5000, 1, by decide +kernel⟩,
   ⟨0, (nextBand 0 bandS).getD ⟨0, 0, 0, 0⟩, { slot0 with finalLines := 0, fedAs := some 0 }, bandS, by decide +kernel⟩,
   ⟨3, .audio, true, st [(pgING 3, ING.ST_leg_b_up, 1), (pgING 3, SYNC.leg_losses, 65535)] M0, by decide +kernel⟩,
   ⟨3, .video, false, st [(pgING 3, ING.ST_leg_a_up, 1)] M0, by decide +kernel⟩,
   ⟨2, true, st [(pgDCH 2, DCH.ST_leg_b_up, 1)] M0, by decide +kernel⟩,
   ⟨ses, 63, S0, ⟨by decide +kernel, _, rfl, by decide +kernel, by decide +kernel⟩⟩,
   ⟨ses, 3, 4, st [(pgING 4, ING.ST_slate_valid, 1)] (modIng 4 (fun x => { x with slate := some [(1, 2)] }) S0), ⟨by decide +kernel, _, rfl, by decide +kernel, by decide +kernel⟩, by decide +kernel⟩,
   ⟨ses, 3, 3, st [(pgING 3, ING.ST_slate_valid, 1)] (modIng 3 (fun x => { x with slate := some [(1, 2)] }) S0), ⟨by decide +kernel, _, rfl, by decide +kernel, by decide +kernel⟩, by decide +kernel⟩,
   ⟨ses, 3, 4, S0, ⟨by decide +kernel, _, rfl, by decide +kernel, by decide +kernel⟩, by decide +kernel⟩⟩

theorem witness_ConditioningRowsAndLuts :
    (∃ (u : Fin 4) (m : Fin 16) (row : Nat) (ready : Bool) (f : Feed) (s : State), (isF (pgCND u.val) (CND.OCTL_en m.val) s = true) ∧ (row < outLines u.val m.val s) ∧ (cndAvailable u.val m.val s = true) ∧ (feedOf (pathSource u.val (getF (pgCND u.val) (CND.OCTL_path m.val) s) (allBandsDue (reachNs (pathReadNs u.val (getF (pgCND u.val) (CND.OCTL_path m.val) s) (rowTick u.val m.val row s) (rowNeeds u.val m.val row s) s) s))) (rowTick u.val m.val row s) (allBandsDue (reachNs (pathReadNs u.val (getF (pgCND u.val) (CND.OCTL_path m.val) s) (rowTick u.val m.val row s) (rowNeeds u.val m.val row s) s) s)) = some f)) ∧
    (∃ (u : Fin 4) (m : Fin 16) (row : Nat) (ready : Bool) (f : Feed) (s : State), (isF (pgCND u.val) (CND.OCTL_en m.val) s = true) ∧ (row < outLines u.val m.val s) ∧ (cndAvailable u.val m.val s = true) ∧ (feedOf (pathSource u.val (getF (pgCND u.val) (CND.OCTL_path m.val) s) (allBandsDue (reachNs (pathReadNs u.val (getF (pgCND u.val) (CND.OCTL_path m.val) s) (rowTick u.val m.val row s) (rowNeeds u.val m.val row s) s) s))) (rowTick u.val m.val row s) (allBandsDue (reachNs (pathReadNs u.val (getF (pgCND u.val) (CND.OCTL_path m.val) s) (rowTick u.val m.val row s) (rowNeeds u.val m.val row s) s) s)) = some f)) ∧
    (∃ (u : Fin 4) (m : Fin 16) (row : Nat) (ready : Bool) (s : State), (isF (pgCND u.val) (CND.OCTL_en m.val) s = true) ∧ (row < outLines u.val m.val s) ∧ (isF (pgCND u.val) (CND.PATH_en (getF (pgCND u.val) (CND.OCTL_path m.val) s)) s = true) ∧ (act (pathSource u.val (getF (pgCND u.val) (CND.OCTL_path m.val) s) s) s ≠ stRUNNING)) ∧
    (∃ (r : Req) (u : Fin 4) (b : BitVec 16) (s : State), (State.lets r 3 (pgCND u.val) 0x188 s) ∧ (bankInUse u.val (getF (pgCND u.val) CND.LUT_ADDR_bank s) s = false) ∧ (getF (pgCND u.val) CND.LUT_ADDR_index s ≤ 35936)) ∧
    (∃ (r : Req) (u : Fin 4) (b : BitVec 16) (s : State), (State.lets r 3 (pgCND u.val) 0x188 s) ∧ (bankInUse u.val (getF (pgCND u.val) CND.LUT_ADDR_bank s) s = true)) :=
  ⟨⟨1, 2, 1, true, cndF 1 cndT, cndT, by decide +kernel⟩,
   ⟨1, 2, 3, false, cndF 3 cndT, cndT, by decide +kernel⟩,
   ⟨1, 2, 0, true, on [(pgING 0, 2)] cndS, by decide +kernel⟩,
   ⟨ses, 1, 0xFFFF, st [(pgCND 1, CND.LUT_ADDR_index, 35936), (pgCND 1, CND.LUT_ADDR_bank, 1), (pgCND 1, CND.LUT_DATA0_r, 5)] cndS, ⟨by decide +kernel, _, rfl, by decide +kernel, by decide +kernel⟩, by decide +kernel⟩,
   ⟨ses, 1, 0xFFFF, st [(pgCND 1, CND.OCTL_lut_en 2, 1)] cndS, ⟨by decide +kernel, _, rfl, by decide +kernel, by decide +kernel⟩, by decide +kernel⟩⟩

theorem witness_RowLifeInAnEncodeChannel :
    (∃ (ch : Fin 32) (s : State), (mayRecord ch.val s = true)) ∧
    (∃ (ch : Fin 32) (s : State), (mayRecord ch.val s = true)) ∧
    (∃ (ch : Fin 32) (s : State) (row : Nat), (mayRecord ch.val s = true) ∧ (row ≠ (echOf ch.val s).nextRow)) ∧
    (∃ (ch : Fin 32) (s : State) (row : Nat), (mayRecord ch.val s = true) ∧ (row ≠ (echOf ch.val s).nextRow)) ∧
    (∃ (ch : Fin 32) (s : State) (u : State), (mayRecord ch.val s = true) ∧ (s.hap.wats = []) ∧ (pendingGen (pgECH ch.val) s = false) ∧ (u = reachNs (recordNs ch.val (echOf ch.val s).nextPic (echOf ch.val s).nextRow s) s) ∧ (mayRecord ch.val u = true)) ∧
    (∃ (ch : Fin 32) (s : State) (u : State), (mayRecord ch.val s = true) ∧ (s.hap.wats = []) ∧ (pendingGen (pgECH ch.val) s = false) ∧ (u = reachNs (recordNs ch.val (echOf ch.val s).nextPic (echOf ch.val s).nextRow s) s) ∧ (mayRecord ch.val u = true)) ∧
    (∃ (ch : Fin 32) (corr : Bool) (requests : Nat) (misses : Nat) (ready : Bool) (r : EchRow) (s : State), (follows ch.val s = false) ∧ (dueRelease ch.val s = some r) ∧ (awaitsAck ch.val r.pic r.row s = false)) ∧
    (∃ (ch : Fin 32) (corr : Bool) (requests : Nat) (misses : Nat) (ready : Bool) (r : EchRow) (s : State), (follows ch.val s = false) ∧ (dueRelease ch.val s = some r) ∧ (awaitsAck ch.val r.pic r.row s = false)) ∧
    (∃ (ch : Fin 32) (reads : List ReadFault) (r : EchRow) (s : State), (pendingGen (pgOUT ch.val) s = false) ∧ (dueClose ch.val s = some r)) ∧
    (∃ (ch : Fin 32) (reads : List ReadFault) (r : EchRow) (s : State), (pendingGen (pgOUT ch.val) s = false) ∧ (dueClose ch.val s = some r)) :=
  ⟨⟨1, chS, by decide +kernel⟩,
   ⟨1, recS1, by decide +kernel⟩,
   ⟨1, chS, 9999, by decide +kernel⟩,
   ⟨1, recS1, 9999, by decide +kernel⟩,
   ⟨1, chS, reachNs (recordNs 1 (echOf 1 chS).nextPic (echOf 1 chS).nextRow chS) chS, by decide +kernel, by decide +kernel, by decide +kernel, rfl, by decide +kernel⟩,
   ⟨1, recS1, reachNs (recordNs 1 (echOf 1 recS1).nextPic (echOf 1 recS1).nextRow recS1) recS1, by decide +kernel, by decide +kernel, by decide +kernel, rfl, by decide +kernel⟩,
   ⟨1, true, 5, 1, true, rowC, modEch 1 (fun x => { x with rows := [rowA, rowB, rowC] }) chS, by decide +kernel⟩,
   ⟨1, false, 5, 1, false, row0, modEch 1 (fun x => { x with rows := [row0] }) chS, by decide +kernel⟩,
   ⟨1, [], rowA, modEch 1 (fun x => { x with rows := [rowA, rowC] }) chS, by decide +kernel⟩,
   ⟨1, [], { rowA with closed := [0] }, modEch 1 (fun x => { x with rows := [{ rowA with closed := [0] }, rowC] }) chS, by decide +kernel⟩⟩

theorem witness_SlicesIntoTheRing :
    (∃ (ch : Fin 32) (col : Fin 4) (run : SliceRun) (r : EchRow) (s : State) (u : State), (openRow ch.val col.val s = some r) ∧ (pendingGen (pgOUT ch.val) s = false) ∧ (col.val < colCount getF ch.val s) ∧ ((segOf ch.val col.val s).stalled = none) ∧ (u = finishSlice ch.val col.val run.stall r s) ∧ (segBytes getF ch.val u ≤ entryBytes (codeSlice ch.val col.val r u).nals) ∧ ((segOf ch.val col.val u).used = 0)) ∧
    (∃ (ch : Fin 32) (col : Fin 4) (run : SliceRun) (r : EchRow) (s : State) (u : State), (openRow ch.val col.val s = some r) ∧ (pendingGen (pgOUT ch.val) s = false) ∧ (col.val < colCount getF ch.val s) ∧ ((segOf ch.val col.val s).stalled = none) ∧ (u = finishSlice ch.val col.val run.stall r s) ∧ (segFull ch.val col.val (entryBytes (codeSlice ch.val col.val r u).nals) u = false) ∧ (tableFull ch.val u = false) ∧ (entryBytes (codeSlice ch.val col.val r u).nals < segBytes getF ch.val u)) ∧
    (∃ (ch : Fin 32) (col : Fin 4) (run : SliceRun) (r : EchRow) (s : State) (u : State), (openRow ch.val col.val s = some r) ∧ (pendingGen (pgOUT ch.val) s = false) ∧ (col.val < colCount getF ch.val s) ∧ ((segOf ch.val col.val s).stalled = none) ∧ (u = finishSlice ch.val col.val run.stall r s) ∧ (segFull ch.val col.val (entryBytes (codeSlice ch.val col.val r u).nals) u = false) ∧ (tableFull ch.val u = false) ∧ (entryBytes (codeSlice ch.val col.val r u).nals < segBytes getF ch.val u) ∧ (follows ch.val s = false)) ∧
    (∃ (ch : Fin 32) (col : Fin 4) (run : SliceRun) (r : EchRow) (s : State) (u : State), (openRow ch.val col.val s = some r) ∧ (pendingGen (pgOUT ch.val) s = false) ∧ (col.val < colCount getF ch.val s) ∧ ((segOf ch.val col.val s).stalled = none) ∧ (u = finishSlice ch.val col.val run.stall r s) ∧ ((segFull ch.val col.val (entryBytes (codeSlice ch.val col.val r u).nals) u || tableFull ch.val u) = true) ∧ ((entryBytes (codeSlice ch.val col.val r u).nals < segBytes getF ch.val u ∨ (segOf ch.val col.val u).used ≠ 0))) ∧
    (∃ (ch : Fin 32) (col : Fin 4) (at_ : Nat) (s : State), ((segOf ch.val col.val s).stalled = some at_) ∧ ((segOf ch.val col.val s).used + (segOf ch.val col.val s).written (max 1 (segBytes getF ch.val s)) < max 1 (segBytes getF ch.val s)) ∧ (tableFull ch.val s = false)) ∧
    (∃ (ch : Fin 32) (col : Fin 4) (read : ReadFault) (r : EchRow) (s : State) (u : State), (openRow ch.val col.val s = some r) ∧ (pendingGen (pgOUT ch.val) s = false) ∧ (follows ch.val s = false) ∧ (u = finishSlice ch.val col.val 0 r s) ∧ (col.val < colCount getF ch.val s) ∧ (smallRing ch.val s = true) ∧ (segBytes getF ch.val u ≤ entryBytes (codeSlice ch.val col.val r u).nals) ∧ ((segOf ch.val col.val u).used = 0)) ∧
    (∃ (ch : Fin 32) (col : Fin 4) (read : ReadFault) (x : Recode) (s : State), ((outOf ch.val s).recodes.find? (fun y => y.entry.col == col.val) = some x) ∧ (follows ch.val s = false)) :=
  ⟨⟨1, 0, sl0, rowF, slN, finishSlice 1 0 0 rowF slN, by decide +kernel, by decide +kernel, by decide +kernel, by decide +kernel, rfl, zeroBytes (by decide +kernel), by decide +kernel⟩,
   ⟨1, 0, sl0, rowF, slS, finishSlice 1 0 0 rowF slS, by decide +kernel, by decide +kernel, by decide +kernel, by decide +kernel, rfl, floorFits (by decide +kernel) (by decide +kernel) (by decide +kernel), by decide +kernel, (entryBytes_floor 1 0 1000 rowF _ (by decide) (by decide) (by decide +kernel)).trans_lt (by decide +kernel)⟩,
   ⟨1, 0, sl0, rowF, slS, finishSlice 1 0 0 rowF slS, by decide +kernel, by decide +kernel, by decide +kernel, by decide +kernel, rfl, floorFits (by decide +kernel) (by decide +kernel) (by decide +kernel), by decide +kernel, (entryBytes_floor 1 0 1000 rowF _ (by decide) (by decide) (by decide +kernel)).trans_lt (by decide +kernel), by decide +kernel⟩,
   ⟨1, 0, sl0, rowF, slT, finishSlice 1 0 0 rowF slT, by decide +kernel, by decide +kernel, by decide +kernel, by decide +kernel, rfl, (by rw [Bool.or_eq_true]; exact .inr (by decide +kernel)), .inr (by decide +kernel)⟩,
   ⟨1, 0, 4, modSeg 1 0 (fun x => { x with stalled := some 4 }) slS, by decide +kernel⟩,
   ⟨1, 0, rf0, rowF, slN, finishSlice 1 0 0 rowF slN, by decide +kernel, by decide +kernel, by decide +kernel, rfl, by decide +kernel, by decide +kernel, zeroBytes (by decide +kernel), by decide +kernel⟩,
   ⟨1, 0, rf0, ⟨ent0⟩, modOut 1 (fun x => { x with recodes := [⟨ent0⟩] }) slS, by decide +kernel⟩⟩

theorem witness_DepartureAndOutputLegs :
    (∃ (ch : Fin 32) (r : Ready) (s : State), (nextReady ch.val s = some r)) ∧
    (∃ (n : Fin 32) (legB : Bool) (s : State), (legB.toNat ∉ (outOf n.val s).dropping) ∧ ((legStalled (pgOUT n.val) legB.toNat s || legHeld (pgOUT n.val) legB.toNat s) = true)) ∧
    (∃ (n : Fin 32) (legB : Bool) (s : State), (legB.toNat ∉ (outOf n.val s).dropping) ∧ ((legStalled (pgOUT n.val) legB.toNat s || legHeld (pgOUT n.val) legB.toNat s) = true)) ∧
    (∃ (n : Fin 16) (legB : Bool) (s : State), (legB.toNat ∉ (sndOf n.val s).dropping) ∧ ((legStalled (pgSND n.val) legB.toNat s || legHeld (pgSND n.val) legB.toNat s) = true)) ∧
    (∃ (n : Fin 32) (legB : Bool) (s : State), (legDrained (pgOUT n.val) legB.toNat s = true)) ∧
    (∃ (n : Fin 16) (legB : Bool) (s : State), (legDrained (pgSND n.val) legB.toNat s = true)) :=
  ⟨⟨1, ⟨0, 0, 3000, 3005, 2, 0, 9⟩, st [(pgOUT 1, OUT.C_pending, 4), (pgOUT 1, OUT.C_transmitted, 2^32 - 1)] (modOut 1 (fun x => { x with ready := [⟨0, 0, 3000, 3005, 2, 0, 9⟩, ⟨0, 1, 3000, 3006, 2, 0, 10⟩] }) chS), by decide +kernel⟩,
   ⟨1, true, held 1, by decide +kernel⟩,
   ⟨1, false, held 0, by decide +kernel⟩,
   ⟨1, true, held 1, by decide +kernel⟩,
   ⟨1, true, modOut 1 (fun x => { x with dropping := [0, 1] }) chS, by decide +kernel⟩,
   ⟨1, true, modSnd 1 (fun x => { x with dropping := [0, 1] }) chS, by decide +kernel⟩⟩

theorem witness_EncodeCoreFaults :
    (∃ (core : Fin 17) (stateError : Bool) (s : State), (s.rot.phase = 0) ∧ ((mismatchNow s = true → s.rot.x ≠ s.rot.sp)) ∧ (act (pgENC core.val) s ∈ [stIDLE, stRUNNING, stTEST])) ∧
    (∃ (core : Fin 17) (stateError : Bool) (s : State), (s.rot.phase = 0) ∧ ((mismatchNow s = true → s.rot.x ≠ s.rot.sp)) ∧ (act (pgENC core.val) s ∈ [stIDLE, stRUNNING, stTEST])) ∧
    (∃ (ch : Fin 32) (r : EchRow) (col : Nat) (core : Fin 17) (s : State), (s.rot.phase = 0) ∧ ((echOf ch.val s).rows.find? (fun x => x.windowClosed && decide (x.closed.length < colCount getF ch.val s)) = some r) ∧ ((List.range (colCount getF ch.val s)).find? (fun k => !r.closed.contains k) = some col) ∧ (sliceCore ch.val col r s = some core.val) ∧ ((mismatchNow s = true → s.rot.x ≠ s.rot.sp)) ∧ (act (pgENC core.val) s ∈ [stIDLE, stRUNNING, stTEST])) ∧
    (∃ (core : Fin 17) (s : State), (isF (pgENC core.val) ENC.ST_golden s = true) ∧ (act (pgENC core.val) s = stTEST)) ∧
    (∃ (core : Fin 17) (s : State), (isF (pgENC core.val) ENC.ST_golden s = true) ∧ (act (pgENC core.val) s = stTEST) ∧ (getF pgHLT HLT.ABSENT_logical s = 0)) :=
  ⟨⟨0, true, chS, by decide +kernel⟩,
   ⟨16, false, on [(pgENC 16, 2)] (st [(pgENC 16, ENC.ST_spare, 1)] chS), by decide +kernel⟩,
   ⟨1, { rowA with windowClosed := true }, 0, 0, modEch 1 (fun x => { x with rows := [{ rowA with windowClosed := true }, rowC] }) chS, by decide +kernel⟩,
   ⟨0, on [(pgENC 0, 7)] (st [(pgENC 0, ENC.ST_golden, 1)] chS), by decide +kernel⟩,
   ⟨0, on [(pgENC 0, 7)] (st [(pgENC 0, ENC.ST_golden, 1)] chS), by decide +kernel⟩⟩

theorem witness_CoreRotation :
    (∃ (s : State), (s.pwr.mainRun = true) ∧ (isF pgHLT HLT.ROT_en s = true) ∧ (s.rot.phase = 0) ∧ (isF pgHLT HLT.ST_throttle s = false) ∧ (isF pgHLT HLT.TRES_pending s = false) ∧ (spareOf s = none)) ∧
    (∃ (s : State) (q : Nat) (x : _), (s.pwr.mainRun = true) ∧ (isF pgHLT HLT.ROT_en s = true) ∧ (s.rot.phase = 0) ∧ (isF pgHLT HLT.ST_throttle s = false) ∧ (isF pgHLT HLT.TRES_pending s = false) ∧ (spareOf s = some q) ∧ (physOf (nextLogical (getF pgHLT HLT.ROT_STAT_next s) s) s = some x) ∧ ((chansOn (nextLogical (getF pgHLT HLT.ROT_STAT_next s) s) s).any (fun c => act (pgECH c) s == stRUNNING) = true)) ∧
    (∃ (c : Nat) (s : State), (s.rot.phase = 1) ∧ (stepChannel s = some c)) ∧
    (∃ (s : State), (s.rot.phase = 2)) ∧
    (∃ (ch : Fin 32) (s : State), (s.rot.phase = 3) ∧ ((chansOn s.rot.logical s).contains ch.val = true) ∧ (s.rot.moved.contains ch.val = false) ∧ ((chansOn s.rot.logical s).all (fun d => d == ch.val || s.rot.moved.contains d || act (pgECH d) s != stRUNNING) = false)) :=
  ⟨⟨rotS, by decide +kernel⟩,
   ⟨(st [(pgENC 16, ENC.ST_spare, 1), (pgENC 16, ENC.ST_logical, 31)] (on [(pgENC 16, 2)] rotS)), 16, 0, by decide +kernel⟩,
   ⟨1, { rotS with rot := { RotS.reset with phase := 1, logical := 0, x := 0, sp := 16 } }, by decide +kernel⟩,
   ⟨{ rotS with rot := { RotS.reset with phase := 2, logical := 0, x := 0, sp := 16, moved := [3] } }, by decide +kernel⟩,
   ⟨1, on [(pgECH 2, 4)] { rotS with rot := { RotS.reset with phase := 3, logical := 0, x := 0, sp := 16 } }, by decide +kernel⟩⟩

theorem witness_ChannelStartStopAndFigures :
    (∃ (ch : Fin 32) (s : State), (act (pgECH ch.val) s = stSTARTING) ∧ (follows ch.val s = false) ∧ (mirrored ch.val s = false) ∧ (channelReady ch.val s = true) ∧ (pendingGen (pgECH ch.val) s = false)) ∧
    (∃ (ch : Fin 32) (s : State), (act (pgECH ch.val) s = stSTARTING) ∧ (follows ch.val s = false) ∧ (mirrored ch.val s = false) ∧ (channelReady ch.val s = false)) ∧
    (∃ (ch : Fin 32) (s : State), (act (pgECH ch.val) s = stSTOPPING) ∧ (channelDrained ch.val s = true) ∧ (ch.val ∉ s.twn.leaving) ∧ (pendingGen (pgECH ch.val) s = false) ∧ (getF (pgECH ch.val) HDR.CMD_state s ∈ [stIDLE, stRUNNING, stLOW])) ∧
    (∃ (r : Req) (core : Fin 17) (s : State), (State.lets r 3 (pgENC core.val) 0x108 s)) ∧
    (∃ (r : Req) (ch : Fin 32) (s : State), (State.lets r 1 (pgECH ch.val) 0x138 s)) :=
  ⟨⟨1, startS, by decide +kernel⟩,
   ⟨1, on [(pgOUT 1, 2)] startS, by decide +kernel⟩,
   ⟨1, st [(pgECH 1, HDR.CMD_state, 8)] (on [(pgECH 1, 5)] chS), by decide +kernel⟩,
   ⟨ses, 16, S0, ⟨by decide +kernel, _, rfl, by decide +kernel, by decide +kernel⟩⟩,
   ⟨ses, 31, st [(pgECH 31, ECH.DEPART_ERR_max_late_ns, 7)] S0, ⟨by decide +kernel, _, rfl, by decide +kernel, by decide +kernel⟩⟩⟩

theorem witness_LendingPool :
    (∃ (g : Fin 8) (s : State), (isF (pgMUX g.val) MUX.CFG_remote s = true) ∧ (muxHome g.val s = true) ∧ (muxRef g.val s = none) ∧ (cmdOf (pgMUX g.val) s = stRUNNING) ∧ (pendingGen (pgMUX g.val) s = false)) ∧
    (∃ (g : Fin 8) (s : State), (isF (pgMUX g.val) MUX.CFG_remote s = true) ∧ (muxHome g.val s = true) ∧ (muxRef g.val s = none) ∧ (cmdOf (pgMUX g.val) s = stRUNNING) ∧ (pendingGen (pgMUX g.val) s = false)) ∧
    (∃ (msg : List Byte) (s : State), (msg.length = 24) ∧ (fieldAt 20 4 msg = crc crc32c (msg.take 20)) ∧ ((fieldAt 0 1 msg = 4 ∨ fieldAt 0 1 msg = 5)) ∧ (isF (pgMUX (fieldAt 1 1 msg % 8)) MUX.CFG_remote s = true) ∧ (muxHome (fieldAt 1 1 msg % 8) s = true)) ∧
    (∃ (msg : List Byte) (s : State), (msg.length = 24) ∧ (fieldAt 20 4 msg = crc crc32c (msg.take 20)) ∧ ((fieldAt 0 1 msg = 4 ∨ fieldAt 0 1 msg = 5)) ∧ (isF (pgMUX (fieldAt 1 1 msg % 8)) MUX.CFG_remote s = true) ∧ (muxHome (fieldAt 1 1 msg % 8) s = true)) ∧
    (∃ (msg : List Byte) (s : State), (fieldAt 20 4 msg ≠ crc crc32c (msg.take 20))) ∧
    (∃ (g : Fin 8) (at_ : Nat) (s : State), (isF (pgMUX g.val) MUX.CFG_remote s = true) ∧ (muxHome g.val s = false) ∧ (isF (pgMUX g.val) MUX.ST_home_reachable s = true) ∧ ((muxOf g.val s).asked = some at_)) :=
  ⟨⟨3, cm [(pgMUX 3, HDR.CMD_state, 4)] homeS, by decide +kernel⟩,
   ⟨3, on [(pgMUX 3, 4)] (cm [(pgMUX 3, HDR.CMD_state, 4)] homeS), by decide +kernel⟩,
   ⟨lendM 4 3, homeS, by decide +kernel⟩,
   ⟨lendM 5 3, homeS, by decide +kernel⟩,
   ⟨[1], homeS, by decide +kernel⟩,
   ⟨3, 0, modMux 3 (fun x => { x with asked := some 0 }) (st [(pgMUX 3, MUX.CFG_home, 9), (pgMUX 3, MUX.ST_home_reachable, 1)] homeS), by decide +kernel⟩⟩

theorem witness_DecodeChannelNalsAndPictures :
    (∃ (i : Fin 16) (nal : NalUnit) (id : Nat) (v : Pps) (s : State), (act (pgDCH i.val) s = stRUNNING) ∧ (nal.kind = .pps id (some v)) ∧ (nal.gap = false) ∧ ((dchOf i.val s).merge.started = true) ∧ ((∀ w, (dchOf i.val s).nalNext = some w → w ≤ (dchOf i.val s).merge.place 16 nal.firstSeq.toNat)) ∧ (behindGap i.val ((dchOf i.val s).merge.place 16 nal.firstSeq.toNat) s = false) ∧ ((nalSeqs i.val nal s).all (fun u => (dchOf i.val s).pkts.contains u) = true)) ∧
    (∃ (i : Fin 16) (nal : NalUnit) (id : Nat) (v : Pps) (s : State), (act (pgDCH i.val) s = stRUNNING) ∧ (nal.kind = .pps id (some v)) ∧ (nal.gap = false) ∧ ((dchOf i.val s).merge.started = true) ∧ ((∀ w, (dchOf i.val s).nalNext = some w → w ≤ (dchOf i.val s).merge.place 16 nal.firstSeq.toNat)) ∧ (behindGap i.val ((dchOf i.val s).merge.place 16 nal.firstSeq.toNat) s = false) ∧ ((nalSeqs i.val nal s).all (fun u => (dchOf i.val s).pkts.contains u) = true)) ∧
    (∃ (i : Fin 16) (nal : NalUnit) (id : Nat) (v : Pps) (s : State), (act (pgDCH i.val) s = stRUNNING) ∧ (nal.kind = .pps id (some v)) ∧ (nal.gap = false) ∧ ((dchOf i.val s).merge.started = true) ∧ ((∀ w, (dchOf i.val s).nalNext = some w → w ≤ (dchOf i.val s).merge.place 16 nal.firstSeq.toNat)) ∧ (behindGap i.val ((dchOf i.val s).merge.place 16 nal.firstSeq.toNat) s = false) ∧ ((nalSeqs i.val nal s).all (fun u => (dchOf i.val s).pkts.contains u) = true)) ∧
    (∃ (i : Fin 16) (nal : NalUnit) (s : State), (act (pgDCH i.val) s = stRUNNING) ∧ ((dchOf i.val s).merge.started = true) ∧ ((∀ w, (dchOf i.val s).nalNext = some w → w ≤ (dchOf i.val s).merge.place 16 nal.firstSeq.toNat)) ∧ (behindGap i.val ((dchOf i.val s).merge.place 16 nal.firstSeq.toNat) s = false) ∧ ((nalSeqs i.val nal s).any (fun u => !(dchOf i.val s).pkts.contains u && mayCome i.val u s) = false) ∧ (nal.gap = true) ∧ (beforeRap i.val s = false) ∧ (strictNow i.val s = false)) ∧
    (∃ (i : Fin 16) (nal : NalUnit) (s : State), (act (pgDCH i.val) s = stRUNNING) ∧ ((dchOf i.val s).merge.started = true) ∧ ((∀ w, (dchOf i.val s).nalNext = some w → w ≤ (dchOf i.val s).merge.place 16 nal.firstSeq.toNat)) ∧ (behindGap i.val ((dchOf i.val s).merge.place 16 nal.firstSeq.toNat) s = false) ∧ ((nalSeqs i.val nal s).any (fun u => !(dchOf i.val s).pkts.contains u && mayCome i.val u s) = false) ∧ (nal.gap = true) ∧ (beforeRap i.val s = false) ∧ (strictNow i.val s = false)) ∧
    (∃ (i : Fin 16) (poc : Int) (q : DecPic) (s : State), (act (pgDCH i.val) s = stRUNNING) ∧ ((dchOf i.val s).cur = none) ∧ (((dchOf i.val s).dpb.map Prod.snd).find? (fun p => p.poc == poc && p.awaiting && p.ready.isNone) = some q) ∧ (((freeDpb i.val s).isSome || (freeHold i.val s).isSome) = true)) ∧
    (∃ (i : Fin 16) (s : State), (act (pgDCH i.val) s = stRUNNING) ∧ (pendingGen (pgDCH i.val) s = false) ∧ (s.hap.wats = [])) ∧
    (∃ (i : Fin 16) (s : State), (act (pgDCH i.val) s = stRUNNING) ∧ (pendingGen (pgDCH i.val) s = false) ∧ (s.hap.wats = [])) ∧
    (∃ (i : Fin 16) (s : State), (act (pgDCH i.val) s = stSTOPPING) ∧ (pendingGen (pgDCH i.val) s = false) ∧ (((dchOf i.val s).hold ++ (dchOf i.val s).dpb).any (fun e => e.2.readers.any (fun w => stillReads w.1 s)) = false)) ∧
    (∃ (i : Fin 16) (s : State), (act (pgDCH i.val) s = stSTOPPING) ∧ (pendingGen (pgDCH i.val) s = false) ∧ (((dchOf i.val s).hold ++ (dchOf i.val s).dpb).any (fun e => e.2.readers.any (fun w => stillReads w.1 s)) = false)) :=
  ⟨⟨2, nal0 (.pps 63 (some ⟨none, []⟩)) false, 63, ⟨none, []⟩, dchP, by decide +kernel⟩,
   ⟨2, { nal0 (.pps 63 (some ⟨none, []⟩)) false with corrected := 3 }, 63, ⟨none, []⟩, dchP, by decide +kernel⟩,
   ⟨2, nal0 (.pps 3 (some ⟨some (64, 64), []⟩)) false, 3, ⟨some (64, 64), []⟩, modDch 2 (fun x => { x with ppss := [(3, ⟨none, []⟩), (9, ⟨none, []⟩)], cur := some cur0 }) dchP, by decide +kernel⟩,
   ⟨2, nal0 .other true, st [(pgDCH 2, DCH.ST_synced, 1)] dchP, by decide +kernel⟩,
   ⟨2, nal0 .other true, modDch 2 (fun x => { x with cur := some cur0 }) dchP, by decide +kernel⟩,
   ⟨2, 5, pic0, modDch 2 (fun x => { x with dpb := [(0, pic0)] }) dchS0, by decide +kernel⟩,
   ⟨2, modDch 2 (fun x => { x with dpb := [(0, { pic0 with ready := some 0 })] }) dchS0, by decide +kernel⟩,
   ⟨2, dchS0, by decide +kernel⟩,
   ⟨2, on [(pgDCH 2, 5)] (modDch 2 (fun x => { x with dpb := [(0, pic0)] }) dchS0), by decide +kernel⟩,
   ⟨2, cm [(pgDCH 2, HDR.CMD_state, 2)] (on [(pgDCH 2, 5)] (modDch 2 (fun x => { x with dpb := [(0, pic0)] }) dchS0)), by decide +kernel⟩⟩

theorem witness_DecodeCoresAndSenders :
    (∃ (core : Fin 8) (stateError : Bool) (s : State), (act (pgDEC core.val) s ≠ stFAULT)) ∧
    (∃ (core : Fin 8) (stateError : Bool) (s : State), (act (pgDEC core.val) s ≠ stFAULT)) ∧
    (∃ (core : Fin 8) (s : State), (act (pgDEC core.val) s = stTEST) ∧ (isF (pgDEC core.val) DEC.ST_golden s = true)) ∧
    (∃ (n : Fin 16) (s : State) (u : State), (u = sendRest n.val s) ∧ (act (pgSND n.val) u = stRUNNING) ∧ (pendingGen (pgSND n.val) u = false) ∧ (((sndNext n.val u).1 = none ∨ (sndNext n.val u).2 ≠ (sndOf n.val u).tick ∨ (sndOf n.val u).last = none))) ∧
    (∃ (n : Fin 16) (s : State) (u : State), (u = sendRest n.val s) ∧ (act (pgSND n.val) u = stRUNNING) ∧ (pendingGen (pgSND n.val) u = false) ∧ (((sndNext n.val u).1 = none ∨ (sndNext n.val u).2 ≠ (sndOf n.val u).tick ∨ (sndOf n.val u).last = none))) ∧
    (∃ (n : Fin 16) (s : State) (u : State), (u = sendRest n.val s) ∧ (act (pgSND n.val) u = stRUNNING) ∧ (pendingGen (pgSND n.val) u = false) ∧ (((sndNext n.val u).1 = none ∨ (sndNext n.val u).2 ≠ (sndOf n.val u).tick ∨ (sndOf n.val u).last = none)) ∧ (act (pgSND n.val) s = stRUNNING)) :=
  ⟨⟨0, true, dchS0, by decide +kernel⟩,
   ⟨0, false, on [(pgDEC 0, 2)] dchS0, by decide +kernel⟩,
   ⟨7, on [(pgDEC 7, 7)] (st [(pgDEC 7, DEC.ST_golden, 1)] dchS0), by decide +kernel⟩,
   ⟨4, sndS, sendRest 4 sndS, rfl, by decide +kernel⟩,
   ⟨4, on [(pgDCH 0, 4)] sndS, sendRest 4 (on [(pgDCH 0, 4)] sndS), rfl, by decide +kernel⟩,
   ⟨4, sndS, sendRest 4 sndS, rfl, by decide +kernel⟩⟩

theorem witness_ClaimLineAndRoles :
    (∃ (s : State), (getF pgTWN TWN.CFG_claim s ≠ 0) ∧ (s.pwr.inReset = false) ∧ (isF pgDEV DEV.ST_vio_ok s = true)) ∧
    (∃ (frame : Word) (s : State), (isF pgDEV DEV.ST_vio_ok s = true) ∧ (fieldAt 0 1 (beBytes 4 frame.toNat) = 0xB4) ∧ (fieldAt 3 1 (beBytes 4 frame.toNat) ≠ crc crc8 (sub 1 2 (beBytes 4 frame.toNat)))) ∧
    (∃ (frame : Word) (s : State), (isF pgDEV DEV.ST_vio_ok s = true) ∧ (fieldAt 0 1 (beBytes 4 frame.toNat) = 0xB4) ∧ (fieldAt 3 1 (beBytes 4 frame.toNat) = crc crc8 (sub 1 2 (beBytes 4 frame.toNat))) ∧ (fieldAt 1 1 (beBytes 4 frame.toNat) ≠ 0) ∧ (fieldAt 1 1 (beBytes 4 frame.toNat) ≠ getF pgTWN TWN.CFG_claim s) ∧ (fieldAt 2 1 (beBytes 4 frame.toNat) / 64 = 2) ∧ (act pgTWN s = stRUNNING) ∧ (twinRole s = 0)) ∧
    (∃ (s : State), (act pgTWN s = stRUNNING) ∧ (twinRole s = 0) ∧ (isF pgTWN TWN.ST_claim_conflict s = false) ∧ (s.twn.claimAt = none)) ∧
    (∃ (s : State), (act pgTWN s = stRUNNING) ∧ (twinRole s ≠ 0) ∧ (s.twn.wasLead = false) ∧ (s.twn.claimAt ≠ none) ∧ (s.twn.hbAt = none)) ∧
    (∃ (s : State), (act pgTWN s = stRUNNING) ∧ (twinRole s ≠ 0) ∧ (s.twn.wasLead = false) ∧ (s.twn.claimAt ≠ none) ∧ (s.twn.hbAt = none)) :=
  ⟨⟨twS 2, by decide +kernel⟩,
   ⟨0xB4010200, twS 2, by decide +kernel⟩,
   ⟨cf 2 0x85, twS 0, by decide +kernel⟩,
   ⟨twS 0, by decide +kernel⟩,
   ⟨modTwn (fun x => { x with claimAt := some 0 }) (twS 1), by decide +kernel⟩,
   ⟨modTwn (fun x => { x with claimAt := some 0 }) (twS 2), by decide +kernel⟩⟩

theorem witness_HeartbeatsRecordsAcks :
    (∃ (s : State), (act pgTWN s = stRUNNING) ∧ (s.twn.silent = false)) ∧
    (∃ (s : State), (act pgTWN s = stRUNNING) ∧ (s.twn.silent = false)) ∧
    (∃ (m : TwinMsg) (s : State), (State.twinTakes m s) ∧ (m.kind = 5)) ∧
    (∃ (m : TwinMsg) (s : State), (State.twinTakes m s) ∧ (m.kind = 5)) ∧
    (∃ (m : TwinMsg) (s : State), (State.twinTakes m s) ∧ (follows (msgChan m) s = true) ∧ (followsRows (msgChan m) s = true) ∧ (32 ≤ m.body.length) ∧ (fieldAt 28 4 m.body = crc crc32c (m.body.take 28 ++ m.body.drop 32 ++ beBytes 8 (m.picture.toNat * 2 ^ 32 + m.row.toNat)))) ∧
    (∃ (m : TwinMsg) (s : State), (State.twinTakes m s) ∧ (fieldAt 0 4 m.body = getF (pgECH (msgChan m)) (ECH.DREC_header 7) s)) ∧
    (∃ (s : State), (s.twn.awaits ≠ [])) ∧
    (∃ (ch : Fin 32) (s : State), (follows ch.val s = true) ∧ (followsRows ch.val s = true) ∧ ((echOf ch.val s).live = true) ∧ (dueRelease ch.val s = none) ∧ (s.twn.recs = []) ∧ (recordNs ch.val (echOf ch.val s).nextPic (echOf ch.val s).nextRow s ≤ s.twn.hbSent)) ∧
    (∃ (ch : Fin 32) (s : State), (follows ch.val s = true) ∧ (followsRows ch.val s = true) ∧ ((echOf ch.val s).live = true) ∧ (dueRelease ch.val s = none) ∧ (s.twn.recs = []) ∧ (s.twn.hbSent < recordNs ch.val (echOf ch.val s).nextPic (echOf ch.val s).nextRow s) ∧ (s.twn.doubtAt = none)) ∧
    (∃ (d : Nat) (s : State), (s.twn.doubtAt = some d) ∧ ((∀ h, s.twn.hbAt = some h → h < d)) ∧ (isF pgTWN TWN.ROLE_partner_valid s = true) ∧ (getF pgTWN TWN.ROLE_partner_role s = 2)) :=
  ⟨⟨leadS, by decide +kernel⟩,
   ⟨folS .joined, by decide +kernel⟩,
   ⟨tm 5 (beBytes 64 0), leadS, (by unfold State.twinTakes; decide +kernel), by decide +kernel⟩,
   ⟨tm 5 [], folS .joined, (by unfold State.twinTakes; decide +kernel), by decide +kernel⟩,
   ⟨tm 1 recB, folS .joined, (by unfold State.twinTakes; decide +kernel), by decide +kernel⟩,
   ⟨tm 2 (beBytes 8 0), modTwn (fun x => { x with awaits := [(1, 0, 0, 5), (1, 0, 1, 6)] }) leadS, (by unfold State.twinTakes; decide +kernel), by decide +kernel⟩,
   ⟨modTwn (fun x => { x with awaits := [(1, 0, 0, 5), (1, 0, 1, 6)] }) leadS, by decide +kernel⟩,
   ⟨1, modTwn (fun x => { x with hbSent := 10^12 }) (folS .joined), by decide +kernel⟩,
   ⟨1, folS .settling, by decide +kernel⟩,
   ⟨4, st [(pgTWN, TWN.ROLE_partner_valid, 1), (pgTWN, TWN.ROLE_partner_role, 2)] (modTwn (fun x => { x with doubtAt := some 4 }) (folS .joined)), by decide +kernel⟩⟩

theorem witness_LockstepChecks :
    (∃ (m : TwinMsg) (s : State), (State.twinTakes m s) ∧ (follows (msgChan m) s = true) ∧ (followsRows (msgChan m) s = true) ∧ (m.body.length = 16) ∧ (m.flags.toNat.testBit 0 = false) ∧ (entriesOf (msgChan m) s = [])) ∧
    (∃ (m : TwinMsg) (s : State), (State.twinTakes m s) ∧ (follows (msgChan m) s = true) ∧ (followsRows (msgChan m) s = true) ∧ (m.body.length = 16) ∧ (m.flags.toNat.testBit 0 = true)) ∧
    (∃ (m : TwinMsg) (s : State), (State.twinTakes m s) ∧ (follows (msgChan m) s = true) ∧ (followsRows (msgChan m) s = true) ∧ (m.body.length = 8) ∧ ((∀ k, SMap.find (picKey (msgChan m) m.picture.toNat k) s.twn.ownPic = none)) ∧ (0 < colCount getF (msgChan m) s)) ∧
    (∃ (m : TwinMsg) (s : State), (State.twinTakes m s) ∧ (twinRole s = 2)) ∧
    (∃ (ch : Fin 32) (e : RingEntry) (s : State), ((entriesOf ch.val s).find? (fun e => e.read.isSome && !e.copied) = some e) ∧ (follows ch.val s = true) ∧ (e.depart ≤ s.twn.hbSent)) ∧
    (∃ (ch : Fin 32) (e : RingEntry) (s : State), ((entriesOf ch.val s).find? (fun e => e.read.isSome && !e.copied) = some e) ∧ (follows ch.val s = true) ∧ (s.twn.hbSent < e.depart) ∧ (s.twn.doubtAt = none)) :=
  ⟨⟨tm 3 (beBytes 16 0x50000000600000007), folS .joined, (by unfold State.twinTakes; decide +kernel), by decide +kernel⟩,
   ⟨tmF 3 1 (beBytes 16 0x50000000600000007), folS .joined, (by unfold State.twinTakes; decide +kernel), by decide +kernel⟩,
   ⟨tm 4 (beBytes 8 0x77), folS .joined, (by unfold State.twinTakes; decide +kernel), by decide +kernel, by decide +kernel, by decide +kernel, fun _ => rfl, by decide +kernel⟩,
   ⟨tm 6 [], st [(pgTWN, TWN.JOINED_chans, 3)] (modTwn (fun x => { x with awaits := [(1, 0, 0, 5), (0, 0, 1, 6)] }) leadS), (by unfold State.twinTakes; decide +kernel), by decide +kernel⟩,
   ⟨1, ent1, modTwn (fun x => { x with hbSent := 3000 }) (modSeg 1 0 (fun x => { x with entries := [ent1] }) (folS .joined)), by decide +kernel⟩,
   ⟨1, ent1, modTwn (fun x => { x with hbSent := 2999 }) (modSeg 1 0 (fun x => { x with entries := [ent1] }) (folS .joined)), by decide +kernel⟩⟩

theorem witness_JoinsOfATwinPair :
    (∃ (ch : Fin 32) (s : State), (follows ch.val s = true) ∧ (joinOf ch.val s = some .waiting) ∧ (act (pgECH ch.val) s = stMUTED) ∧ (cmdOf (pgECH ch.val) s = stRUNNING) ∧ (isF pgTWN TWN.ST_link_up s = true) ∧ (isF pgTWN TWN.ST_fw_match s = true)) ∧
    (∃ (m : TwinMsg) (s : State), (State.twinTakes m s) ∧ (leads (msgChan m) s = true)) ∧
    (∃ (ch : Fin 32) (n : Nat) (s : State), (ch.val ∉ s.twn.leaving) ∧ (SMap.find ch.val s.twn.joinReqs = some n) ∧ (leads ch.val s = true) ∧ ((echOf ch.val s).nextRow = 1) ∧ ((echOf ch.val s).curJoin = true) ∧ (n ≤ (echOf ch.val s).nextPic)) ∧
    (∃ (m : TwinMsg) (s : State), (State.twinTakes m s) ∧ (mirrored (msgChan m) s = true) ∧ (joinOf (msgChan m) s = some .waiting) ∧ (act (pgECH (msgChan m)) s = stMUTED) ∧ (SMap.find (msgChan m) s.twn.snaps = none) ∧ (snapWhole m.body = false)) ∧
    (∃ (m : TwinMsg) (x : TwSnap) (s : State), (State.twinTakes m s) ∧ (SMap.find (msgChan m) s.twn.snaps = some x) ∧ (joinOf (msgChan m) s = some .joining) ∧ (x.pic = m.picture.toNat) ∧ (fieldAt 0 4 m.body = x.bytes.length) ∧ (fieldAt 4 4 m.body = crc crc32c x.bytes) ∧ (snapWhole x.bytes = true) ∧ (timeNs s < recordNs (msgChan m) x.pic 1 s) ∧ (twinRole s = 2)) ∧
    (∃ (m : TwinMsg) (s : State), (State.twinTakes m s) ∧ (joinOf (msgChan m) s = some .joining) ∧ (twinRole s ≠ 2)) ∧
    (∃ (ch : Fin 32) (x : TwSnap) (s : State), (SMap.find ch.val s.twn.snaps = some x) ∧ (joinOf ch.val s = some .joining) ∧ (twinRole s ≠ 2)) :=
  ⟨⟨1, cmd1 (folS .waiting), by decide +kernel⟩,
   ⟨tm 7 [], leadS, (by unfold State.twinTakes; decide +kernel), by decide +kernel⟩,
   ⟨1, 0, modEch 1 (fun x => { x with nextRow := 1, curJoin := true }) (modTwn (fun x => { x with joinReqs := [(1, 0)] }) leadS), by decide +kernel⟩,
   ⟨tm 0xA (beBytes 20 5), folS .waiting, (by unfold State.twinTakes; decide +kernel), by decide +kernel⟩,
   ⟨tm 0xB comB, ⟨0, snap0, false⟩, modTwn (fun x => { x with snaps := [(1, ⟨0, snap0, false⟩)] }) (modTwn (fun x => { x with join := [(1, .joining)] }) (twS 2)), (by unfold State.twinTakes; decide +kernel), by decide +kernel, by decide +kernel, by decide +kernel, by decide +kernel, fieldAt_check _ (crc32c_lt _), by decide +kernel⟩,
   ⟨tm 0xC [], folS .joining, (by unfold State.twinTakes; decide +kernel), by decide +kernel⟩,
   ⟨1, ⟨0, snap0, false⟩, modTwn (fun x => { x with snaps := [(1, ⟨0, snap0, false⟩)] }) (folS .joining), by decide +kernel⟩⟩

theorem witness_PatchesOfATwinPair :
    (∃ (m : TwinMsg) (packets : List (List Byte)) (s : State), (State.twinTakes m s) ∧ (twinRole s = 2) ∧ (fieldAt 2 2 m.body = 1)) ∧
    (∃ (m : TwinMsg) (packets : List (List Byte)) (s : State), (State.twinTakes m s) ∧ (twinRole s = 2) ∧ (fieldAt 2 2 m.body = 1)) ∧
    (∃ (m : TwinMsg) (pkt : MediaPkt) (e : Nat × Nat) (s : State), (State.twinTakes m s) ∧ (patchAsked m s = some e) ∧ (128 ≤ e.1 / 8) ∧ ((sourceMerge (e.1 / 8) (e.1 % 8) s).undecided (2 ^ 15) s.clk e.2 = true)) ∧
    (∃ (m : TwinMsg) (pkt : MediaPkt) (e : Nat × Nat) (s : State), (State.twinTakes m s) ∧ (patchAsked m s = some e) ∧ (128 ≤ e.1 / 8) ∧ ((sourceMerge (e.1 / 8) (e.1 % 8) s).undecided (2 ^ 15) s.clk e.2 = true)) ∧
    (∃ (m : TwinMsg) (e : Nat × Nat) (s : State), (State.twinTakes m s) ∧ (patchAsked m s = some e)) ∧
    (∃ (m : TwinMsg) (e : Nat × Nat) (s : State), (State.twinTakes m s) ∧ (patchAsked m s = some e)) ∧
    (∃ (ch : Fin 32) (s : State), (follows ch.val s = true) ∧ (patchesOf ch.val s ≠ [])) :=
  ⟨⟨tm 0x10 (beBytes 2 0 ++ beBytes 2 1 ++ beBytes 4 7), [[1]], modIng 0 (fun x => { x with merges := [(0, { Merge.reset with started := true, high := 9, got := [(7, g0), (9, g0)] })] }) leadS, (by unfold State.twinTakes; decide +kernel), by decide +kernel⟩,
   ⟨tm 0x10 (beBytes 2 0 ++ beBytes 2 1 ++ beBytes 4 8), [[1]], modIng 0 (fun x => { x with merges := [(0, { Merge.reset with started := true, high := 9, got := [(7, g0), (9, g0)] })] }) leadS, (by unfold State.twinTakes; decide +kernel), by decide +kernel⟩,
   ⟨tm 0x11 (beBytes 1 128 ++ beBytes 1 0 ++ beBytes 2 1 ++ beBytes 4 7), ⟨7, 0, [], [], [], []⟩, (1024, 7), modDch 0 (fun x => { x with merge := { Merge.reset with started := true, high := 9, got := [(9, g0)], expiry := [(7, ⟨1000, 5⟩)] } }) (modTwn (fun x => { x with patches := [(1024, 7)] }) (folS .joined)), (by unfold State.twinTakes; decide +kernel), by decide +kernel⟩,
   ⟨tm 0x11 (beBytes 1 128 ++ beBytes 1 0 ++ beBytes 2 1 ++ beBytes 4 7), ⟨7, 0, [], [], [], []⟩, (1024, 7), modDch 0 (fun x => { x with merge := { Merge.reset with started := true, high := 9, got := [(9, g0)], base := 100, baseEnd := 50 } }) (modTwn (fun x => { x with patches := [(1024, 7)] }) (folS .joined)), (by unfold State.twinTakes; decide +kernel), by decide +kernel⟩,
   ⟨tm 0x12 (beBytes 1 128 ++ beBytes 1 0 ++ beBytes 2 1 ++ beBytes 4 7), (1024, 7), modDch 0 (fun x => { x with merge := { Merge.reset with started := true, high := 9, got := [(9, g0)], expiry := [(7, ⟨1000, 5⟩)] } }) (modTwn (fun x => { x with patches := [(1024, 7)] }) (folS .joined)), (by unfold State.twinTakes; decide +kernel), by decide +kernel⟩,
   ⟨tm 0x12 (beBytes 1 0 ++ beBytes 1 1 ++ beBytes 2 1 ++ beBytes 4 7), (1, 7), modIng 0 (fun x => { x with merges := [(1, { Merge.reset with started := true, high := 9, got := [(9, g0)], expiry := [(7, ⟨1000, 5⟩)] })] }) (modTwn (fun x => { x with patches := [(1, 7)] }) (folS .joined)), (by unfold State.twinTakes; decide +kernel), by decide +kernel⟩,
   ⟨1, modTwn (fun x => { x with patches := [(1, 7), (5000, 3)] }) (folS .joined), by decide +kernel⟩⟩

theorem witness_HandoverOfATwinPair :
    (∃ (r : Req) (s : State), (State.lets r 3 pgTWN 0x110 s) ∧ (twinRole s = 2) ∧ (yieldOk s = true)) ∧
    (∃ (r : Req) (s : State), (State.lets r 3 pgTWN 0x110 s) ∧ (twinRole s = 2) ∧ (yieldOk s = false)) ∧
    (∃ (r : Req) (s : State), (State.lets r 3 pgTWN 0x110 s) ∧ (twinRole s = 2) ∧ (isF pgTWN TWN.ST_link_up s = true) ∧ (s.twn.hbRole = 1)) ∧
    (∃ (r : Req) (y : Yield) (s : State), (State.lets r 3 pgTWN 0x110 s) ∧ (s.twn.yield = some y) ∧ (timeNs s < y.at_)) ∧
    (∃ (m : TwinMsg) (s : State), (State.twinTakes m s) ∧ (twinRole s = 1) ∧ (m.body.length = 16)) ∧
    (∃ (y : Yield) (s : State) (m : TwinMsg), (s.twn.yield = some y) ∧ (y.gives = true) ∧ (y.acked = false) ∧ (State.twinTakes m s)) ∧
    (∃ (y : Yield) (s : State), (s.twn.yield = some y) ∧ (y.gives = true) ∧ (y.acked = false)) ∧
    (∃ (y : Yield) (s : State), (s.twn.yield = some y) ∧ (y.acked = true) ∧ (isF pgTWN TWN.ST_handover_pending s = true)) ∧
    (∃ (y : Yield) (s : State), (s.twn.yield = some y) ∧ (y.acked = true) ∧ (isF pgTWN TWN.ST_handover_pending s = true)) :=
  ⟨⟨fw, st [(pgTWN, TWN.JOINED_chans, 3)] leadS, fwLets (by decide +kernel), by decide +kernel⟩,
   ⟨fw, leadS, fwLets (by decide +kernel), by decide +kernel⟩,
   ⟨ses, leadS, ⟨by decide +kernel, _, rfl, by decide +kernel, by decide +kernel⟩, by decide +kernel⟩,
   ⟨ses, ⟨0, 500, true, false, 0⟩, st [(pgTWN, TWN.ST_handover_pending, 1)] (modTwn (fun x => { x with yield := some ⟨0, 500, true, false, 0⟩ }) leadS), ⟨by decide +kernel, _, rfl, by decide +kernel, by decide +kernel⟩, by decide +kernel⟩,
   ⟨tm 8 (beBytes 16 0), folS .joined, (by unfold State.twinTakes; decide +kernel), by decide +kernel⟩,
   ⟨⟨0, 500, true, false, 0⟩, modTwn (fun x => { x with yield := some ⟨0, 500, true, false, 0⟩ }) leadS, tm 9 [], by decide +kernel, by decide +kernel, by decide +kernel, (by unfold State.twinTakes; decide +kernel)⟩,
   ⟨⟨0, 500, true, false, 0⟩, st [(pgTWN, TWN.ST_handover_pending, 1)] (modTwn (fun x => { x with yield := some ⟨0, 500, true, false, 0⟩ }) leadS), by decide +kernel⟩,
   ⟨⟨0, 500, true, true, 0⟩, st [(pgTWN, TWN.ST_handover_pending, 1)] (modTwn (fun x => { x with yield := some ⟨0, 500, true, true, 0⟩ }) leadS), by decide +kernel⟩,
   ⟨⟨1, 500, false, true, 0⟩, st [(pgTWN, TWN.ST_handover_pending, 1)] (modTwn (fun x => { x with yield := some ⟨1, 500, false, true, 0⟩ }) (folS .joined)), by decide +kernel⟩⟩

theorem witness_TimePortsAndMessages :
    (∃ (port : Fin 2) (domain : Byte) (offset : Int) (age : Nat) (s : State), (s.hap.wats = []) ∧ (portUp port.val s = true) ∧ (ptpTakes port.val s = true) ∧ (domain.toNat = getF pgTIM TIM.PTP_CFG_domain s) ∧ (usable port.val s = true)) ∧
    (∃ (port : Fin 2) (domain : Byte) (offset : Int) (age : Nat) (s : State), (s.hap.wats = []) ∧ (portUp port.val s = true) ∧ (ptpTakes port.val s = true) ∧ (domain.toNat = getF pgTIM TIM.PTP_CFG_domain s) ∧ (usable port.val s = true)) ∧
    (∃ (port : Fin 2) (domain : Byte) (sample : Int) (s : State), (portUp port.val s = true) ∧ (ptpTakes port.val s = true) ∧ (domain.toNat = getF pgTIM TIM.PTP_CFG_domain s) ∧ ((timPort port.val s).abandoned = false) ∧ (guardOpen port.val s = true)) ∧
    (∃ (port : Fin 2) (domain : Byte) (gm : Announce) (s : State), (portUp port.val s = true) ∧ (ptpTakes port.val s = true) ∧ (domain.toNat = getF pgTIM TIM.PTP_CFG_domain s) ∧ ((timPort port.val s).chosen = none)) ∧
    (∃ (port : Fin 2) (gm : Announce) (s : State), ((timPort port.val s).chosen = some gm)) ∧
    (∃ (port : Fin 2) (ident : BitVec 16) (s : State), (ptpRuns s = true) ∧ (usable port.val s = true) ∧ ((timPort port.val s).txq.length < 64)) ∧
    (∃ (port : Fin 2) (domain : Byte) (ident : BitVec 16) (s : State), (portUp port.val s = true) ∧ (ptpTakes port.val s = true) ∧ (isF pgTIM TIM.PTP_CFG_delay_p2p s = true) ∧ (domain.toNat = getF pgTIM TIM.PTP_CFG_domain s) ∧ ((timPort port.val s).txq.length < 64)) ∧
    (∃ (port : Fin 2) (s : State), (guardOpen port.val s = false) ∧ (getF pgTIM TIM.GUARD_jump_count s ≤ (timPort port.val s).jumps)) ∧
    (∃ (port : Fin 2) (s : State), (guardOpen port.val s = true)) :=
  ⟨⟨0, 127, -5, 100, timG 0, by decide +kernel⟩,
   ⟨1, 127, 10000000000, 100, timG 1, by decide +kernel⟩,
   ⟨1, 127, 50, st [(pgTIM, TIM.ST_guard_b, 1)] (timG 1), by decide +kernel⟩,
   ⟨0, 127, gm0, timS, by decide +kernel⟩,
   ⟨1, gm0, timG 1, by decide +kernel⟩,
   ⟨1, 77, timG 1, by decide +kernel⟩,
   ⟨0, 127, 77, st [(pgTIM, TIM.PTP_CFG_delay_p2p, 1)] (timG 0), by decide +kernel⟩,
   ⟨0, modTimPort 0 (fun x => { x with jumps := 100, holdSamples := [1, 2] }) (timG 0), by decide +kernel⟩,
   ⟨1, st [(pgTIM, TIM.ST_guard_b, 1)] (timG 1), by decide +kernel⟩⟩

theorem witness_TimeLockAndGoverning :
    (∃ (s : State), (timSt s = 1) ∧ (getF pgTIM TIM.LOCK_lock_count s ≤ s.tim.lockRun) ∧ (s.tim.clamped = false)) ∧
    (∃ (s : State), (timSt s = 1) ∧ (getF pgTIM TIM.LOCK_lock_count s ≤ s.tim.lockRun) ∧ (s.tim.clamped = false)) ∧
    (∃ (s : State), (timSt s = 2) ∧ (getF pgTIM TIM.LOCK_lock_count s ≤ s.tim.unlockRun)) ∧
    (∃ (s : State), (isF pgTIM TIM.ST_cross_ok s = true) ∧ (getF pgTIM TIM.CROSS_cross_count s ≤ s.tim.crossBad)) ∧
    (∃ (s : State), (isF pgTIM TIM.ST_cross_ok s = false) ∧ (getF pgTIM TIM.CROSS_cross_count s ≤ s.tim.crossGood)) ∧
    (∃ (s : State) (r : Req), (usable 0 s = true) ∧ (guardOpen 0 s = false) ∧ (State.lets r 3 pgTIM 0x11C s) ∧ (getF pgTIM TIM.PTP_CFG_sel_mode s = 0)) ∧
    (∃ (s : State) (since : Nat), (usable 0 s = true) ∧ (guardOpen 0 s = false) ∧ (getF pgTIM TIM.PTP_CFG_sel_mode s = 1) ∧ (s.tim.aGood = some since)) ∧
    (∃ (r : Req) (s : State), (State.lets r 3 pgTIM 0x11C s) ∧ (grantOk s = true)) ∧
    (∃ (r : Req) (s : State), (State.lets r 3 pgTIM 0x11C s) ∧ (grantOk s = false)) ∧
    (∃ (s : State), (isF pgTIM TIM.ST_grant_armed s = true)) ∧
    (∃ (s : State), (timSt s ≠ 4)) ∧
    (∃ (vinUp : Bool) (s : State), (timSt s = 4) ∧ (s.hap.wats = [])) ∧
    (∃ (vinUp : Bool) (s : State), (timSt s = 4) ∧ (s.hap.wats = [])) :=
  ⟨⟨{ (st [(pgTIM, TIM.ST_state, 1)] (timG 0)) with tim := { (timG 0).tim with lockRun := 100 } }, by decide +kernel⟩,
   ⟨{ (st [(pgTIM, TIM.ST_state, 1), (pgTIM, TIM.ST_first_lock, 0)] (timG 0)) with tim := { (timG 0).tim with lockRun := 100 } }, by decide +kernel⟩,
   ⟨{ timG 0 with tim := { (timG 0).tim with unlockRun := 100 } }, by decide +kernel⟩,
   ⟨{ (st [(pgTIM, TIM.ST_cross_ok, 1)] (timG 0)) with tim := { (timG 0).tim with crossBad := 100 } }, by decide +kernel⟩,
   ⟨{ (st [(pgTIM, TIM.ST_cross_ok, 0)] (timG 0)) with tim := { (timG 0).tim with crossGood := 100 } }, by decide +kernel⟩,
   ⟨timG 0, ses, by decide +kernel, by decide +kernel, ⟨by decide +kernel, _, rfl, by decide +kernel, by decide +kernel⟩, by decide +kernel⟩,
   ⟨(fun x : State => { x with tim := { x.tim with aGood := some 7 } }) (st [(pgTIM, TIM.PTP_CFG_sel_mode, 1), (pgTIM, TIM.ST_cross_ok, 1)] (timG 0)), 7, by decide +kernel⟩,
   ⟨ses, timS, ⟨by decide +kernel, _, rfl, by decide +kernel, by decide +kernel⟩, by decide +kernel⟩,
   ⟨ses, on [(pgECH 0, 4)] timS, ⟨by decide +kernel, _, rfl, by decide +kernel, by decide +kernel⟩, by decide +kernel⟩,
   ⟨st [(pgTIM, TIM.ST_grant_armed, 1)] timS, by decide +kernel⟩,
   ⟨timS, by decide +kernel⟩,
   ⟨true, st [(pgTIM, TIM.ST_state, 4)] timS, by decide +kernel⟩,
   ⟨false, st [(pgTIM, TIM.ST_state, 4)] timS, by decide +kernel⟩⟩

theorem witness_TimeRegistersClocksAndPins :
    (∃ (i : Fin 8) (tag : BitVec 16) (x : Session) (s : State), (State.lets ⟨.session i, tag⟩ 1 pgTIM 0x120 s) ∧ (sessionAt i.val s = some x)) ∧
    (∃ (r : Req) (n : Fin 4) (s : State), (State.lets r 1 pgTIM (0x204 + 0x10 * n.val) s)) ∧
    (∃ (r : Req) (n : Fin 4) (s : State), (State.lets r 1 pgTIM (0x204 + 0x10 * n.val) s)) ∧
    (∃ (r : Req) (port : Fin 2) (s : State), (State.lets r 1 pgTIM (0x1A8 + 0x40 * port.val) s)) ∧
    (∃ (r : Req) (port : Fin 2) (s : State), (State.lets r 1 pgTIM (0x1A8 + 0x40 * port.val) s)) ∧
    (∃ (f : Fin 4) (s : State), (timSt s ≠ 4)) ∧
    (∃ (f : Fin 4) (s : State), (timSt s ≠ 4)) ∧
    (∃ (n : Fin 4) (rising : Bool) (sub : Fin 8) (stable : Nat) (gap : Nat) (s : State), (timSt s ≠ 4) ∧ (vioOk s = true) ∧ ((getF pgTIM (TIM.CAP_edge n.val) s).testBit (if rising then 0 else 1) = true) ∧ (2 ≤ stable) ∧ (4 ≤ gap) ∧ ((capsOf n.val s).length < 16)) ∧
    (∃ (n : Fin 4) (rising : Bool) (sub : Fin 8) (stable : Nat) (gap : Nat) (s : State), (timSt s ≠ 4) ∧ (vioOk s = true) ∧ ((getF pgTIM (TIM.CAP_edge n.val) s).testBit (if rising then 0 else 1) = true) ∧ (2 ≤ stable) ∧ (gap < 4)) ∧
    (∃ (n : Fin 2) (s : State), (timSt s ≠ 4) ∧ (isF pgTIM (TIM.PLS_en n.val) s = true) ∧ (pulseGate n.val (advanceToNs (nextEdge n.val s) s) = true)) ∧
    (∃ (n : Fin 2) (s : State), (SMap.get 0 n.val s.tim.pulses = 1)) ∧
    (∃ (s : State), (timSt s ≠ 4) ∧ (pendingGen pgTIM s = false) ∧ (s.hap.wats = [])) :=
  ⟨⟨0, 9, sess, timS, ⟨by decide +kernel, _, rfl, by decide +kernel, by decide +kernel⟩, by decide +kernel⟩,
   ⟨ses, 3, { timS with tim := { timS.tim with caps := [(3, [⟨5, 3, true⟩, ⟨6, 3, false⟩])] } }, ⟨by decide +kernel, _, rfl, by decide +kernel, by decide +kernel⟩⟩,
   ⟨ses, 0, timS, ⟨by decide +kernel, _, rfl, by decide +kernel, by decide +kernel⟩⟩,
   ⟨ses, 1, modTimPort 1 (fun x => { x with txq := [⟨4, 5⟩, ⟨6, 7⟩] }) timS, ⟨by decide +kernel, _, rfl, by decide +kernel, by decide +kernel⟩⟩,
   ⟨ses, 0, timS, ⟨by decide +kernel, _, rfl, by decide +kernel, by decide +kernel⟩⟩,
   ⟨0, timS, by decide +kernel⟩,
   ⟨3, timS, by decide +kernel⟩,
   ⟨3, true, 7, 2, 4, st [(pgTIM, TIM.CAP_edge 3, 1)] timS, by decide +kernel⟩,
   ⟨3, false, 7, 2, 3, st [(pgTIM, TIM.CAP_edge 3, 3)] timS, by decide +kernel⟩,
   ⟨1, st [(pgTIM, TIM.PLS_en 1, 1)] timS, by decide +kernel⟩,
   ⟨1, { timS with tim := { timS.tim with pulses := [(1, 1)] } }, by decide +kernel⟩,
   ⟨timS, by decide +kernel⟩⟩

theorem witness_LaneTrainingAndLock :
    (∃ (l : Fin 33) (x : Trained) (s : State), (act (pgLNE l.val) s = stSTARTING) ∧ (laneHasRef l.val s = true) ∧ (laneTrained l.val s = false) ∧ ((laneOf l.val s).failAt = none) ∧ ((laneOf l.val s).lost = false) ∧ (getF (pgLNE l.val) LNE.THRESH_lol_fom s ≤ x.snr)) ∧
    (∃ (l : Fin 33) (x : Trained) (s : State), (act (pgLNE l.val) s = stSTARTING) ∧ (laneHasRef l.val s = true) ∧ (laneTrained l.val s = false) ∧ ((laneOf l.val s).failAt = none) ∧ ((laneOf l.val s).lost = false) ∧ (getF (pgLNE l.val) LNE.THRESH_lol_fom s ≤ x.snr)) ∧
    (∃ (l : Fin 33) (x : Trained) (s : State), (act (pgLNE l.val) s = stSTARTING) ∧ (laneHasRef l.val s = true) ∧ (laneTrained l.val s = false) ∧ ((laneOf l.val s).failAt = none) ∧ ((laneOf l.val s).lost = false) ∧ (getF (pgLNE l.val) LNE.THRESH_lol_fom s ≤ x.snr)) ∧
    (∃ (l : Fin 33) (s : State), (act (pgLNE l.val) s = stSTARTING) ∧ (laneTrained l.val s = false) ∧ ((laneOf l.val s).fast = false)) ∧
    (∃ (l : Fin 33) (at_ : Nat) (s : State), ((laneOf l.val s).failAt = some at_) ∧ (ownerWants l.val s = true)) ∧
    (∃ (l : Fin 33) (s : State), ((act (pgLNE l.val) s = stRUNNING ∨ act (pgLNE l.val) s = stLOW)) ∧ (4 ≤ (laneOf l.val s).badRun)) ∧
    (∃ (l : Fin 33) (x : Trained) (s : State), (act (pgLNE l.val) s = stSTARTING) ∧ (laneHasRef l.val s = true) ∧ ((laneOf l.val s).failAt = none) ∧ ((laneOf l.val s).lost = true) ∧ (getF (pgLNE l.val) LNE.THRESH_lol_fom s ≤ x.snr)) ∧
    (∃ (l : Fin 33) (x : Trained) (s : State), (act (pgLNE l.val) s = stSTARTING) ∧ (laneHasRef l.val s = true) ∧ ((laneOf l.val s).failAt = none) ∧ ((laneOf l.val s).lost = true) ∧ (getF (pgLNE l.val) LNE.THRESH_lol_fom s ≤ x.snr)) ∧
    (∃ (r : Req) (l : Fin 33) (s : State), (State.lets r 3 (pgLNE l.val) 0x12C s) ∧ (act (laneOwner l.val) s ≠ stRUNNING) ∧ (act (pgLNE l.val) s ≠ stOFF) ∧ (act (pgLNE l.val) s ≠ stRESET)) ∧
    (∃ (r : Req) (l : Fin 33) (s : State), (State.lets r 3 (pgLNE l.val) 0x12C s) ∧ (act (laneOwner l.val) s = stRUNNING)) ∧
    (∃ (l : Fin 33) (s : State), (act (pgLNE l.val) s = stRUNNING) ∧ (isF (pgLNE l.val) LNE.CAL_cal_en s = true)) ∧
    (∃ (l : Fin 33) (s : State), (act (pgLNE l.val) s = stRUNNING) ∧ (isF (pgLNE l.val) LNE.CAL_cal_en s = true)) ∧
    (∃ (l : Fin 33) (s : State), (act (pgLNE l.val) s = stRUNNING) ∧ (isF (pgLNE l.val) LNE.CAL_cal_en s = false)) ∧
    (∃ (s : State), (s.pwr.mainRun = true)) ∧
    (∃ (s : State), (s.pwr.mainRun = true) ∧ (isF (pgLNE 32) LNE.ST_refclk_ok s = false)) :=
  ⟨⟨0, tr0, lnS 0 3, by decide +kernel⟩,
   ⟨32, tr0, lnS 32 3, by decide +kernel⟩,
   ⟨16, tr0, lnS 16 3, by decide +kernel⟩,
   ⟨17, lnS 17 3, by decide +kernel⟩,
   ⟨17, 500, cm [(laneOwner 17, HDR.CMD_state, 4)] (modLane 17 (fun x => { x with failAt := some 500 }) (lnS 17 3)), by decide +kernel⟩,
   ⟨17, modLane 17 (fun x => { x with badRun := 4 }) (lnS 17 4), by decide +kernel⟩,
   ⟨17, tr0, modLane 17 (fun x => { x with lost := true, fast := true }) (lnS 17 3), by decide +kernel⟩,
   ⟨3, tr0, modLane 3 (fun x => { x with lost := true, fast := false }) (lnS 3 3), by decide +kernel⟩,
   ⟨ses, 17, lnS 17 4, ⟨by decide +kernel, _, rfl, by decide +kernel, by decide +kernel⟩, by decide +kernel⟩,
   ⟨ses, 17, on [(laneOwner 17, 4)] (lnS 17 4), ⟨by decide +kernel, _, rfl, by decide +kernel, by decide +kernel⟩, by decide +kernel⟩,
   ⟨17, st [(pgLNE 17, LNE.CAL_cal_en, 1)] (lnS 17 4), by decide +kernel⟩,
   ⟨5, st [(pgLNE 5, LNE.CAL_cal_en, 1)] (lnS 5 4), by decide +kernel⟩,
   ⟨17, st [(pgLNE 17, LNE.CAL_cal_en, 0)] (lnS 17 4), by decide +kernel⟩,
   ⟨on [(pgLNE 17, 4), (pgLNE 3, 4)] (lnS 32 4), by decide +kernel⟩,
   ⟨st [(pgLNE 32, LNE.ST_refclk_ok, 0)] (lnS 32 4), by decide +kernel⟩⟩

theorem witness_LaneFiguresAndAdaptation :
    (∃ (l : Fin 33) (b : LaneBlock) (s : State), (act (pgLNE l.val) s = stRUNNING) ∧ (pendingGen (pgLNE l.val) s = false) ∧ ((laneOf l.val s).swapDue = false)) ∧
    (∃ (l : Fin 33) (b : LaneBlock) (s : State), (act (pgLNE l.val) s = stRUNNING) ∧ (pendingGen (pgLNE l.val) s = false) ∧ ((laneOf l.val s).swapDue = false)) ∧
    (∃ (l : Fin 33) (ctle : Nat) (ffe : List Int) (s : State), (act (pgLNE l.val) s = stRUNNING) ∧ (1024 ≤ (laneOf l.val s).blocks) ∧ (isF (pgLNE l.val) LNE.PIN_ctle s = false)) ∧
    (∃ (l : Fin 33) (s : State), (64 ≤ (laneOf l.val s).warnLow) ∧ (isF (pgLNE l.val) LNE.ST_fom_warn s = false)) ∧
    (∃ (l : Fin 33) (s : State), (64 ≤ (laneOf l.val s).alarmLow) ∧ (isF (pgLNE l.val) LNE.ST_fom_alarm s = false)) ∧
    (∃ (l : Fin 33) (s : State), (1024 ≤ (laneOf l.val s).alarmHigh) ∧ (isF (pgLNE l.val) LNE.ST_fom_alarm s = true)) ∧
    (∃ (l : Fin 33) (s : State), (1024 ≤ (laneOf l.val s).warnHigh)) ∧
    (∃ (r : Req) (l : Fin 33) (s : State), (State.lets r 1 (pgLNE l.val) 0x124 s)) ∧
    (∃ (l : Fin 33) (symbols : Nat) (errors : Nat) (s : State), (act (pgLNE l.val) s = stTEST) ∧ (isF (pgLNE l.val) LNE.PRBS_chk_en s = true) ∧ (isF (pgLNE l.val) LNE.ST_cdr_lock s = true)) :=
  ⟨⟨17, blk0, lnS 17 4, by decide +kernel⟩,
   ⟨32, { blk0 with snr := 10 }, lnS 32 4, by decide +kernel⟩,
   ⟨17, 31, eq0.ffe, modLane 17 (fun x => { x with blocks := 1024 }) (st [(pgLNE 17, LNE.PIN_ctle, 0)] (lnS 17 4)), by decide +kernel⟩,
   ⟨17, modLane 17 (fun x => { x with warnLow := 64 }) (lnS 17 4), by decide +kernel⟩,
   ⟨17, modLane 17 (fun x => { x with alarmLow := 64 }) (lnS 17 4), by decide +kernel⟩,
   ⟨17, modLane 17 (fun x => { x with alarmHigh := 1024 }) (st [(pgLNE 17, LNE.ST_fom_alarm, 1)] (lnS 17 4)), by decide +kernel⟩,
   ⟨17, modLane 17 (fun x => { x with warnHigh := 1024 }) (st [(pgLNE 17, LNE.ST_fom_warn, 1)] (lnS 17 4)), by decide +kernel⟩,
   ⟨ses, 17, st [(pgLNE 17, LNE.FOM_snr, 77)] (lnS 17 4), ⟨by decide +kernel, _, rfl, by decide +kernel, by decide +kernel⟩⟩,
   ⟨17, 3, 10, st [(pgLNE 17, LNE.PRBS_chk_en, 1), (pgLNE 17, LNE.ST_cdr_lock, 1)] (lnS 17 7), by decide +kernel⟩⟩

theorem witness_PortFramesReceived :
    (∃ (i : Fin 2) (f : PortFrame) (s : State), (pendingGen (pgETH i.val) s = false) ∧ (portUp i.val s = true) ∧ (f.fcsGood = false)) ∧
    (∃ (i : Fin 2) (f : PortFrame) (s : State), (pendingGen (pgETH i.val) s = false) ∧ (portUp i.val s = true) ∧ (f.body = .other) ∧ (f.uncorrectable = false)) ∧
    (∃ (i : Fin 2) (f : PortFrame) (s : State), (pendingGen (pgETH i.val) s = false) ∧ (portUp i.val s = true) ∧ (harletOpen i.val s = true) ∧ (f.uncorrectable = false) ∧ (f.fcsGood = true) ∧ (64 ≤ f.bytes) ∧ (f.bytes ≤ getF (pgETH i.val) ETH.MTU_bytes s) ∧ (f.tags.length < 2) ∧ (f.dmac.toNat = portMac i.val s) ∧ (f.body = .harletRaw) ∧ (underFc i.val (framePrio f) s = false) ∧ (grantCells (qPort i.val 1) (cellsFor (f.bytes - 4)) s = true)) ∧
    (∃ (i : Fin 2) (f : PortFrame) (s : State), (pendingGen (pgETH i.val) s = false) ∧ (portUp i.val s = true) ∧ (harletOpen i.val s = true) ∧ (f.uncorrectable = false) ∧ (f.fcsGood = true) ∧ (64 ≤ f.bytes) ∧ (f.bytes ≤ getF (pgETH i.val) ETH.MTU_bytes s) ∧ (f.tags.length < 2) ∧ (f.dmac.toNat = portMac i.val s) ∧ (f.body = .harletRaw) ∧ (underFc i.val (framePrio f) s = false) ∧ (grantCells (qPort i.val 1) (cellsFor (f.bytes - 4)) s = true)) ∧
    (∃ (i : Fin 2) (f : PortFrame) (s : State), (pendingGen (pgETH i.val) s = false) ∧ (portUp i.val s = true) ∧ (harletOpen i.val s = true) ∧ (f.uncorrectable = false) ∧ (f.fcsGood = true) ∧ (64 ≤ f.bytes) ∧ (f.bytes ≤ getF (pgETH i.val) ETH.MTU_bytes s) ∧ (f.tags.length < 2) ∧ (f.dmac.toNat = portMac i.val s) ∧ (f.body = .harletRaw) ∧ (underFc i.val (framePrio f) s = false) ∧ (grantCells (qPort i.val 1) (cellsFor (f.bytes - 4)) s = false)) ∧
    (∃ (f : PortFrame) (s : State), (pendingGen (pgETH 2) s = false) ∧ (portUp 2 s = true) ∧ (f.fcsGood = false ∨ f.body = .other)) ∧
    (∃ (f : PortFrame) (s : State), (pendingGen (pgETH 2) s = false) ∧ (portUp 2 s = true) ∧ (f.fcsGood = false ∨ f.body = .other)) ∧
    (∃ (f : PortFrame) (s : State), (pendingGen (pgETH 2) s = false) ∧ (portUp 2 s = true) ∧ (harletOpen 2 s = true) ∧ (f.uncorrectable = false) ∧ (f.fcsGood = true) ∧ (64 ≤ f.bytes) ∧ (f.bytes ≤ getF (pgETH 2) ETH.MTU_bytes s) ∧ (f.tags.length < 2) ∧ (f.dmac.toNat = portMac 2 s) ∧ (f.body = .harletRaw)) ∧
    (∃ (i : Fin 2) (f : PortFrame) (s : State), (pendingGen (pgETH i.val) s = false) ∧ (portUp i.val s = false)) ∧
    (∃ (i : Fin 2) (f : PortFrame) (s : State), (pendingGen (pgETH 2) s = false) ∧ (portUp 2 s = false)) :=
  ⟨⟨0, { fr0 0 64 .other with fcsGood := false }, etS, by decide +kernel⟩,
   ⟨1, fr0 1 64 .other, etS, by decide +kernel⟩,
   ⟨1, fr0 1 64 .harletRaw, etS, by decide +kernel⟩,
   ⟨1, fr0 1 (getF (pgETH 1) ETH.MTU_bytes etS) .harletRaw, etS, by decide +kernel⟩,
   ⟨1, fr0 1 64 .harletRaw, full1, by decide +kernel⟩,
   ⟨fr0 2 64 .other, etS, by decide +kernel⟩,
   ⟨{ fr0 2 64 .harletRaw with fcsGood := false }, etS, by decide +kernel⟩,
   ⟨fr0 2 64 .harletRaw, etS, by decide +kernel⟩,
   ⟨1, fr0 1 64 .other, st [(pgETH 1, ETH.SUBPORTS_up, 0)] etS, by decide +kernel⟩,
   ⟨1, fr0 1 64 .other, st [(pgETH 2, ETH.SUBPORTS_up, 0)] etS, by decide +kernel⟩⟩

theorem witness_PortLinksPauseAndSending :
    (∃ (i : Fin 3) (k : Fin 8) (s : State), ((i.val = 2 ∨ s.pwr.mainRun = true)) ∧ (subportLanes i.val k.val s ≠ []) ∧ (subportIsUp i.val k.val s = true)) ∧
    (∃ (i : Fin 3) (k : Fin 8) (s : State), ((i.val = 2 ∨ s.pwr.mainRun = true)) ∧ (subportLanes i.val k.val s ≠ []) ∧ (subportIsUp i.val k.val s = true)) ∧
    (∃ (i : Fin 3) (k : Fin 8) (speed : Fin 3) (a : Nat) (s : State), (SMap.find k.val (ethOf i.val s).upFrom = some a) ∧ (portRuns i.val s = true) ∧ (subportIsUp i.val k.val s = false) ∧ ((presentMask i.val s).testBit k.val = true)) ∧
    (∃ (i : Fin 3) (k : Fin 8) (speed : Fin 3) (a : Nat) (s : State), (SMap.find k.val (ethOf i.val s).upFrom = some a) ∧ (portRuns i.val s = true) ∧ (subportIsUp i.val k.val s = false) ∧ ((presentMask i.val s).testBit k.val = true)) ∧
    (∃ (i : Fin 2) (k : Fin 8) (pfc : Bool) (quanta : List (Nat × Nat)) (s : State), (pendingGen (pgETH i.val) s = false) ∧ (subportIsUp i.val k.val s = true)) ∧
    (∃ (i : Fin 2) (k : Fin 8) (pfc : Bool) (quanta : List (Nat × Nat)) (s : State), (pendingGen (pgETH i.val) s = false) ∧ (subportIsUp i.val k.val s = true)) ∧
    (∃ (i : Fin 2) (k : Fin 8) (pfc : Bool) (quanta : List (Nat × Nat)) (s : State), (pendingGen (pgETH i.val) s = false) ∧ (subportIsUp i.val k.val s = true)) ∧
    (∃ (i : Fin 2) (k : Fin 8) (prio : Fin 8) (a : Nat) (s : State), (SMap.find (k.val * 8 + prio.val) (ethOf i.val s).paused = some a)) ∧
    (∃ (i : Fin 2) (k : Nat) (a : Nat) (s : State) (u : State), (u = settleXoff i.val s) ∧ ((ethOf i.val u).xoff = [(k, a)])) ∧
    (∃ (i : Fin 2) (k : Nat) (a : Nat) (s : State) (u : State), (u = settleXoff i.val s) ∧ ((ethOf i.val u).xoff = [(k, a)])) ∧
    (∃ (i : Fin 2) (k : Fin 8) (x : StkPkt) (rest : List StkPkt) (s : State), (pendingGen (pgETH i.val) s = false) ∧ (subportIsUp i.val k.val s = true) ∧ (subportOf i.val 48 s = some k.val) ∧ (prioHeld i.val k.val (getF (pgETH i.val) ETH.HOST_pcp s) s = false) ∧ ((queueOf (qPort i.val 3) s).pkts = x :: rest) ∧ ((queueOf (qPort i.val 3) s).frozen = false)) ∧
    (∃ (i : Fin 2) (group : BitVec 128) (leave : Bool) (s : State), (firmwareRuns s = true) ∧ (portUp i.val s = true) ∧ (isMulticast group.toNat = true) ∧ ((filterGroups i.val s).contains group.toNat = !leave) ∧ (grantCells (qPort i.val 4) 1 s = true) ∧ (SMap.get [] 4 s.stk.stalls = [])) ∧
    (∃ (i : Fin 2) (group : BitVec 128) (leave : Bool) (s : State), (firmwareRuns s = true) ∧ (portUp i.val s = true) ∧ (isMulticast group.toNat = true) ∧ ((filterGroups i.val s).contains group.toNat = !leave) ∧ (grantCells (qPort i.val 4) 1 s = true) ∧ (SMap.get [] 4 s.stk.stalls = [])) ∧
    (∃ (r : Req) (i : Fin 3) (value : Word) (s : State), (State.lets r 3 (pgETH i.val) 0x218 s)) ∧
    (∃ (r : Req) (i : Fin 3) (value : Word) (s : State), (State.lets r 3 (pgETH i.val) 0x218 s)) :=
  ⟨⟨1, 0, etS, by decide +kernel⟩,
   ⟨2, 0, etS, by decide +kernel⟩,
   ⟨1, 0, 2, 300, modEth 1 (fun x => { x with upFrom := [(0, 300)] }) (st [(pgETH 1, ETH.SUBPORTS_up, 0)] etS), by decide +kernel⟩,
   ⟨2, 0, 1, 300, modEth 2 (fun x => { x with upFrom := [(0, 300)] }) (st [(pgETH 2, ETH.SUBPORTS_up, 0)] etS), by decide +kernel⟩,
   ⟨1, 0, true, [(3, 65535), (5, 0)], st [(pgETH 1, ETH.FC_mode, 2), (pgETH 1, ETH.FC_pfc_en, 0xFF)] etS, by decide +kernel⟩,
   ⟨0, 0, false, [(0, 5)], st [(pgETH 0, ETH.FC_mode, 1)] etS, by decide +kernel⟩,
   ⟨0, 0, false, [(0, 5)], etS, by decide +kernel⟩,
   ⟨1, 0, 3, 5000, modEth 1 (fun x => { x with paused := [(3, 5000)] }) etS, by decide +kernel⟩,
   ⟨1, 0, 5, xoffS 1 0, settleXoff 1 (xoffS 1 0), rfl, by decide +kernel⟩,
   ⟨1, 4, 5, xoffS 2 4, settleXoff 1 (xoffS 2 4), rfl, by decide +kernel⟩,
   ⟨1, 0, ⟨2, none, [7, 1, 2]⟩, [⟨1, none, [7]⟩], setQueue (qPort 1 3) { queueOf (qPort 1 3) etS with pkts := [⟨2, none, [7, 1, 2]⟩, ⟨1, none, [7]⟩], count := 3 } etS, by decide +kernel⟩,
   ⟨1, BitVec.ofNat 128 (0xFFFF * 2^32 + 0xE0000105), true, etS, by decide +kernel⟩,
   ⟨1, BitVec.ofNat 128 (0xFF * 2^120 + 5), true, etS, by decide +kernel⟩,
   ⟨ses, 2, 0x0A, etS, ⟨by decide +kernel, _, rfl, by decide +kernel, by decide +kernel⟩⟩,
   ⟨ses, 1, 0xFF, etS, ⟨by decide +kernel, _, rfl, by decide +kernel, by decide +kernel⟩⟩⟩

theorem witness_IztaubFramesAndReplay :
    (∃ (j : Fin 4) (f : List Byte) (s : State), (act (pgIZL j.val) s = stRUNNING) ∧ ((f.length ≠ 256 ∨ fieldAt 252 4 f ≠ crc crc32 (f.take 252 ++ beBytes 4 (izlOf j.val s).expect)))) ∧
    (∃ (j : Fin 4) (f : List Byte) (s : State), (act (pgIZL j.val) s = stRUNNING) ∧ ((f.length ≠ 256 ∨ fieldAt 252 4 f ≠ crc crc32 (f.take 252 ++ beBytes 4 (izlOf j.val s).expect)))) ∧
    (∃ (j : Fin 4) (f : List Byte) (corr : Nat) (uncorr : Nat) (vl : Fin 4) (s : State), (act (pgIZL j.val) s = stRUNNING) ∧ (f.length = 256) ∧ (fieldAt 252 4 f = crc crc32 (f.take 252 ++ beBytes 4 (izlOf j.val s).expect)) ∧ (fieldAt 12 2 f = getF (pgIZL j.val) IZL.EPOCH_epoch s) ∧ (fieldAt 0 1 f / 4 = 16 + vl.val * 4 + 3)) ∧
    (∃ (j : Fin 4) (f : List Byte) (corr : Nat) (uncorr : Nat) (vl : Fin 4) (s : State), (act (pgIZL j.val) s = stRUNNING) ∧ (f.length = 256) ∧ (fieldAt 252 4 f = crc crc32 (f.take 252 ++ beBytes 4 (izlOf j.val s).expect)) ∧ (fieldAt 12 2 f = getF (pgIZL j.val) IZL.EPOCH_epoch s) ∧ (fieldAt 0 1 f / 4 = 16 + vl.val * 4 + 3)) ∧
    (∃ (j : Fin 4) (f : List Byte) (q : Nat) (d : IzlTx) (rest : List (Nat × IzlTx)) (s : State), (act (pgIZL j.val) s = stRUNNING) ∧ ((izlOf j.val s).buffer = (q, d) :: rest) ∧ ((izlOf j.val s).rewind = none) ∧ (f.length = 256) ∧ (fieldAt 252 4 f = crc crc32 (f.take 252 ++ beBytes 4 (izlOf j.val s).expect)) ∧ (fieldAt 12 2 f = getF (pgIZL j.val) IZL.EPOCH_epoch s) ∧ (fieldAt 0 1 f / 64 = 2) ∧ (fieldAt 2 2 f = (q + 0xFFFF) % 2 ^ 16)) ∧
    (∃ (j : Fin 4) (f : List Byte) (q : Nat) (d : IzlTx) (rest : List (Nat × IzlTx)) (s : State), (act (pgIZL j.val) s = stRUNNING) ∧ ((izlOf j.val s).buffer = (q, d) :: rest) ∧ ((izlOf j.val s).rewind = none)) ∧
    (∃ (j : Fin 4) (a : Nat) (s : State), (act (pgIZL j.val) s = stRUNNING) ∧ ((izlOf j.val s).nakAt = some a)) ∧
    (∃ (j : Fin 4) (q : Nat) (d : IzlTx) (s : State), (act (pgIZL j.val) s = stRUNNING) ∧ ((izlOf j.val s).rewind = some q) ∧ ((izlOf j.val s).buffer.find? (fun e => e.1 == q) = some (q, d))) ∧
    (∃ (j : Fin 4) (q : Nat) (d : IzlTx) (s : State), (act (pgIZL j.val) s = stRUNNING) ∧ ((izlOf j.val s).rewind = some q) ∧ ((izlOf j.val s).buffer.find? (fun e => e.1 == q) = some (q, d))) ∧
    (∃ (j : Fin 4) (s : State) (v : Nat) (d : IzlTx) (rest : List IzlTx), (act (pgIZL j.val) s = stRUNNING) ∧ ((izlOf j.val s).rewind = none) ∧ (nextLane j.val s = some v) ∧ (SMap.get [] v (izlOf j.val s).waiting = d :: rest) ∧ ((izlOf j.val s).buffer.length < 1024)) ∧
    (∃ (j : Fin 4) (s : State) (v : Nat) (d : IzlTx) (rest : List IzlTx), (act (pgIZL j.val) s = stRUNNING) ∧ ((izlOf j.val s).rewind = none) ∧ (nextLane j.val s = some v) ∧ (SMap.get [] v (izlOf j.val s).waiting = d :: rest) ∧ ((izlOf j.val s).buffer.length < 1024)) ∧
    (∃ (j : Fin 4) (s : State), (act (pgIZL j.val) s = stRUNNING) ∧ ((izlOf j.val s).rewind = none) ∧ (nextLane j.val s = none ∨ 1024 ≤ (izlOf j.val s).buffer.length)) :=
  ⟨⟨1, [], izS 4, by decide +kernel, .inl (by decide +kernel)⟩,
   ⟨1, List.replicate 255 1, modIzl 1 (fun x => { x with nakAt := some 4 }) (izS 4), by decide +kernel, .inl (by decide +kernel)⟩,
   ⟨1, dataF 3, 5, 6, 3, izS 4, by decide +kernel, by decide +kernel, frame_check _ _ (by decide +kernel), by decide +kernel, by decide +kernel⟩,
   ⟨1, dataF 0, 5, 6, 0, modIzl 1 (fun x => { x with nakAt := some 4 }) (izS 4), by decide +kernel, by decide +kernel, frame_check _ _ (by decide +kernel), by decide +kernel, by decide +kernel⟩,
   ⟨1, zfr (beBytes 1 128 ++ beBytes 1 0 ++ beBytes 2 (0xFFFF) ++ beBytes 8 0 ++ beBytes 2 5), 0, tx0, [(1, tx0)], modIzl 1 (fun x => { x with buffer := [(0, tx0), (1, tx0)], nextSeq := 2 }) (izS 4), by decide +kernel, by decide +kernel, by decide +kernel, by decide +kernel, frame_check _ _ (by decide +kernel), by decide +kernel, by decide +kernel, by decide +kernel⟩,
   ⟨1, [], 0, tx0, [(1, tx0)], modIzl 1 (fun x => { x with buffer := [(0, tx0), (1, tx0)], nextSeq := 2 }) (izS 4), by decide +kernel⟩,
   ⟨1, 40, modIzl 1 (fun x => { x with nakAt := some 40 }) (izS 4), by decide +kernel⟩,
   ⟨1, 0, tx0, modIzl 1 (fun x => { x with buffer := [(0, tx0), (1, tx0)], nextSeq := 2, rewind := some 0 }) (izS 4), by decide +kernel⟩,
   ⟨1, 1, tx0, modIzl 1 (fun x => { x with buffer := [(0, tx0), (1, tx0)], nextSeq := 2, rewind := some 1 }) (izS 4), by decide +kernel⟩,
   ⟨1, (st [(pgIZL 1, IZL.CREDIT_credits 2, 1)] (modIzl 1 (fun x => { x with waiting := [(2, [tx0, tx0])] }) (izS 4))), 2, tx0, [tx0], by decide +kernel⟩,
   ⟨1, (st [(pgIZL 1, IZL.CREDIT_credits 2, 1), (pgIZL 1, IZL.CREDIT_credits 0, 9)] (modIzl 1 (fun x => { x with waiting := [(0, [tx0]), (2, [tx0, tx0])] }) (izS 4))), 0, tx0, [], by decide +kernel⟩,
   ⟨1, izS 4, by decide +kernel⟩⟩

theorem witness_IztaubWidthsTrainingAndRoutes :
    (∃ (j : Fin 4) (m : List Byte) (s : State), (act (pgIZL j.val) s = stRUNNING) ∧ (m.length = 16) ∧ (fieldAt 15 1 m = crc crc8 (m.take 15)) ∧ (fieldAt 0 6 m = 0xA5C396F00F69) ∧ (bitsOf 28 2 (fieldAt 6 4 m) ≠ 3)) ∧
    (∃ (j : Fin 4) (m : List Byte) (s : State), (act (pgIZL j.val) s = stRUNNING) ∧ (fieldAt 15 1 m ≠ crc crc8 (m.take 15))) ∧
    (∃ (j : Fin 4) (s : State), (act (pgIZL j.val) s = stRUNNING) ∧ (pendingGen (pgIZL j.val) s = false) ∧ ((izlOf j.val s).txReq = none)) ∧
    (∃ (j : Fin 4) (s : State) (w : Nat) (m : Nat), (act (pgIZL j.val) s = stRUNNING) ∧ (pendingGen (pgIZL j.val) s = false) ∧ ((izlOf j.val s).txReq = some (w, m)) ∧ (w < 4) ∧ (m < 16)) ∧
    (∃ (j : Fin 4) (s : State) (run : FecRun) (good : List Nat), (act (pgIZL j.val) s = stRUNNING) ∧ (good = (goodLanes j.val s).filter (fun k => !((if isF (pgIZL j.val) IZL.CFG_fast_narrow s then (faultyLane run).toList else []).contains k))) ∧ (good ≠ []) ∧ ((rxLanes j.val s).all (fun k => good.contains k) = false)) ∧
    (∃ (j : Fin 4) (s : State) (run : FecRun) (good : List Nat), (act (pgIZL j.val) s = stRUNNING) ∧ (good = (goodLanes j.val s).filter (fun k => !((if isF (pgIZL j.val) IZL.CFG_fast_narrow s then (faultyLane run).toList else []).contains k))) ∧ (good ≠ []) ∧ ((rxLanes j.val s).all (fun k => good.contains k) = false)) ∧
    (∃ (j : Fin 4) (s : State) (run : FecRun) (good : List Nat), (act (pgIZL j.val) s = stRUNNING) ∧ (good = (goodLanes j.val s).filter (fun k => !((if isF (pgIZL j.val) IZL.CFG_fast_narrow s then (faultyLane run).toList else []).contains k))) ∧ (good = []) ∧ (rxLanes j.val s ≠ [])) ∧
    (∃ (j : Fin 4) (a : Fin 4) (b : Fin 4) (since : Nat) (s : State), (act (pgIZL j.val) s = stRUNNING) ∧ (isF (pgIZL j.val) IZL.CFG_auto_widen s = true) ∧ ((izlOf j.val s).req = none) ∧ (getF (pgIZL j.val) IZL.WIDTH_rx_mask s = 2 ^ a.val) ∧ (getF (pgIZL j.val) IZL.WIDTH_rx_width s = 0) ∧ (1 ≤ getF (pgIZL j.val) IZL.CFG_max_width s) ∧ ((goodLanes j.val s).filter (· ≠ a.val) = [b.val]) ∧ (SMap.find b.val (izlOf j.val s).goodSince = some since) ∧ (getF (pgLNE (physLane j.val b.val s)) LNE.THRESH_alarm_fom s ≤ laneSnr j.val b.val s)) ∧
    (∃ (j : Fin 4) (a : Fin 4) (b : Fin 4) (since : Nat) (s : State), (act (pgIZL j.val) s = stRUNNING) ∧ (isF (pgIZL j.val) IZL.CFG_auto_widen s = true) ∧ ((izlOf j.val s).req = none) ∧ (getF (pgIZL j.val) IZL.WIDTH_rx_mask s = 2 ^ a.val) ∧ (getF (pgIZL j.val) IZL.WIDTH_rx_width s = 0) ∧ (1 ≤ getF (pgIZL j.val) IZL.CFG_max_width s) ∧ ((goodLanes j.val s).filter (· ≠ a.val) = [b.val]) ∧ (SMap.find b.val (izlOf j.val s).goodSince = some since) ∧ (getF (pgLNE (physLane j.val b.val s)) LNE.THRESH_alarm_fom s ≤ laneSnr j.val b.val s)) ∧
    (∃ (j : Fin 4) (far : Bool) (s : State), (act (pgIZL j.val) s = stRUNNING) ∧ (far = true ∨ goodLanes j.val s = [])) ∧
    (∃ (j : Fin 4) (far : Bool) (s : State), (act (pgIZL j.val) s = stRUNNING) ∧ (far = true ∨ goodLanes j.val s = [])) ∧
    (∃ (j : Fin 4) (far : Bool) (s : State), (act (pgIZL j.val) s = stRUNNING) ∧ (far = false) ∧ (goodLanes j.val s ≠ [])) ∧
    (∃ (j : Fin 4) (x : Exchange) (s : State), (act (pgIZL j.val) s = stSTARTING) ∧ ((goodLanes j.val s).length = 4) ∧ (x.sameVersion = true)) ∧
    (∃ (j : Fin 4) (x : Exchange) (s : State), (act (pgIZL j.val) s = stSTARTING) ∧ ((goodLanes j.val s).length = 4) ∧ (x.sameVersion = true)) ∧
    (∃ (j : Fin 4) (x : Exchange) (s : State), (act (pgIZL j.val) s = stSTARTING) ∧ ((goodLanes j.val s).length = 4) ∧ (x.sameVersion = false)) ∧
    (∃ (s : State), (s.routes.length ≤ 7)) ∧
    (∃ (j : Fin 4) (l : List (Nat × Nat)) (s : State), (memberLink j.val s = true)) ∧
    (∃ (j : Fin 4) (k : Fin 4) (m : List Byte) (s : State), (act (pgIZL j.val) s = stRUNNING) ∧ (36 ≤ m.length) ∧ (m.length ≤ 4096) ∧ (fieldAt 0 1 m = 4) ∧ (fieldAt 2 2 m % 1024 ≠ deviceNumber s) ∧ (fieldAt 1 1 m ≠ 0) ∧ (routeTo (fieldAt 2 2 m % 1024) s = some k.val) ∧ (act (pgIZL k.val) s = stRUNNING)) :=
  ⟨⟨1, mk0, izS 4, by decide +kernel⟩,
   ⟨1, List.replicate 16 1, izS 4, by decide +kernel⟩,
   ⟨1, izS 4, by decide +kernel⟩,
   ⟨1, (modIzl 1 (fun x => { x with txReq := some (1, 3) }) (izS 4)), 1, 3, by decide +kernel⟩,
   ⟨1, nwS [(pgLNE 21, LNE.ST_trained, 0)], ⟨0, []⟩, [0, 2, 3], by decide +kernel⟩,
   ⟨1, nwS [(pgIZL 1, IZL.CFG_fast_narrow, 1)], ⟨64, [0, 0, 900, 100]⟩, [0, 1, 3], by decide +kernel⟩,
   ⟨1, nwS [(pgLNE 20, LNE.ST_trained, 0), (pgLNE 21, LNE.ST_trained, 0), (pgLNE 22, LNE.ST_trained, 0), (pgLNE 23, LNE.ST_trained, 0)], ⟨0, []⟩, [], by decide +kernel⟩,
   ⟨1, 0, 1, 40, st [(pgLNE 22, LNE.ST_trained, 0), (pgLNE 23, LNE.ST_trained, 0), (pgIZL 1, IZL.WIDTH_rx_mask, 1), (pgIZL 1, IZL.WIDTH_rx_width, 0), (pgIZL 1, IZL.CFG_auto_widen, 1), (pgIZL 1, IZL.CFG_max_width, 2), (pgLNE 21, LNE.FOM_snr, 255)] (modIzl 1 (fun x => { x with goodSince := [(1, 40)] }) (izS 4)), by decide +kernel⟩,
   ⟨1, 3, 1, 40, st [(pgLNE 22, LNE.ST_trained, 0), (pgLNE 20, LNE.ST_trained, 0), (pgIZL 1, IZL.WIDTH_rx_mask, 8), (pgIZL 1, IZL.WIDTH_rx_width, 0), (pgIZL 1, IZL.CFG_auto_widen, 1), (pgIZL 1, IZL.CFG_max_width, 2), (pgLNE 21, LNE.FOM_snr, 255)] (modIzl 1 (fun x => { x with goodSince := [(1, 40)] }) (izS 4)), by decide +kernel⟩,
   ⟨1, true, { (modIzl 1 (fun x => { x with buffer := [(0, tx0)] }) (izS 4)) with routes := [⟨5, 1, 1⟩, ⟨6, 2, 1⟩] }, by decide +kernel⟩,
   ⟨1, false, on [(pgIZL 1, 4)] S0, by decide +kernel⟩,
   ⟨1, false, izS 4, by decide +kernel⟩,
   ⟨1, ex0, izS 3, by decide +kernel⟩,
   ⟨1, { ex0 with device := 0 }, izS 3, by decide +kernel⟩,
   ⟨1, { ex0 with sameVersion := false }, izS 3, by decide +kernel⟩,
   ⟨{ st [(pgIZL 1, IZL.ST_member_ok, 1)] (izS 4) with routes := [⟨5, 1, 1⟩, ⟨6, 2, 1⟩] }, by decide +kernel⟩,
   ⟨1, [(5, 1), (7, 2)], { st [(pgIZL 1, IZL.ST_member_ok, 1)] (izS 4) with routes := [⟨5, 1, 1⟩, ⟨6, 2, 1⟩] }, by decide +kernel⟩,
   ⟨1, 2, beBytes 1 4 ++ beBytes 1 3 ++ beBytes 2 6 ++ beBytes 40 0, on [(pgIZL 2, 4)] { st [(pgIZL 1, IZL.ST_member_ok, 1)] (izS 4) with routes := [⟨5, 1, 1⟩, ⟨6, 2, 1⟩] }, by decide +kernel⟩⟩

theorem witness_StackQueuesAndPackets :
    (∃ (q : Fin 1024) (x : StkPkt) (rest : List StkPkt) (s : State), ((queueOf q.val s).pkts = x :: rest) ∧ ((queueOf q.val s).frozen = false) ∧ (272 ≤ q.val) ∧ ((q.val < 288 → (q.val - 272) % 8 ≠ 3 ∧ (q.val - 272) % 8 ≠ 4)) ∧ (x.media = none)) ∧
    (∃ (q : Fin 1024) (x : StkPkt) (rest : List StkPkt) (s : State), ((queueOf q.val s).pkts = x :: rest) ∧ ((queueOf q.val s).frozen = false) ∧ (272 ≤ q.val) ∧ ((q.val < 288 → (q.val - 272) % 8 ≠ 3 ∧ (q.val - 272) % 8 ≠ 4)) ∧ (x.media = none)) ∧
    (∃ (q : Fin 1024) (x : StkPkt) (rest : List StkPkt) (s : State), ((queueOf q.val s).pkts = x :: rest) ∧ ((queueOf q.val s).frozen = false) ∧ (272 ≤ q.val) ∧ ((q.val < 288 → (q.val - 272) % 8 ≠ 3 ∧ (q.val - 272) % 8 ≠ 4)) ∧ (x.media = none)) ∧
    (∃ (i : Fin 16) (q : Fin 1024) (x : StkPkt) (rest : List StkPkt) (pkt : MediaPkt) (b : Bool) (n : Nat) (s : State), (q.val = qDch i.val) ∧ (act (pgDCH i.val) s = stRUNNING) ∧ ((queueOf q.val s).pkts = x :: rest) ∧ ((queueOf q.val s).frozen = false) ∧ (x.media = some (pkt, b, n))) ∧
    (∃ (side : Fin 6) (x : Stall) (s : State), (2 ≤ side.val) ∧ (SMap.get [] side.val s.stk.stalls = [x]) ∧ (grantCells x.queue x.pkt.cells s = true) ∧ ((x.queue < 176 ∨ 240 ≤ x.queue))) ∧
    (∃ (q : Fin 1024) (s : State), ((queueOf q.val s).high ≤ (queueOf q.val s).count) ∧ ((queueOf q.val s).congested = false)) ∧
    (∃ (q : Fin 1024) (s : State), ((queueOf q.val s).high ≤ (queueOf q.val s).count) ∧ ((queueOf q.val s).congested = false)) ∧
    (∃ (q : Fin 1024) (s : State), ((queueOf q.val s).count < (queueOf q.val s).low) ∧ ((queueOf q.val s).congested = true)) ∧
    (∃ (pin : Fin 4) (a : Nat) (s : State), (SMap.find pin.val s.stk.qfcAt = some a) ∧ (pinWanted pin.val s = false) ∧ ((getF pgSTK STK.ST_qfc s).testBit pin.val = true)) ∧
    (∃ (q : Fin 1024) (s : State), (queueEnabled q.val s = false) ∧ ((queueOf q.val s).pkts ≠ []) ∧ ((queueOf q.val s).frozen = false)) ∧
    (∃ (side : Fin 6) (a : Nat) (s : State), (stalledSince side.val s = some a) ∧ (side.val ∉ s.stk.alarmed)) :=
  ⟨⟨272, pk0, [pk0], withQ 272 (fun x => { x with pkts := [pk0, pk0], count := 4 }), by decide +kernel⟩,
   ⟨281, pk0, [], withQ 281 (fun x => { x with pkts := [pk0], count := 2 }), by decide +kernel⟩,
   ⟨1023, pk0, [], withQ 1023 (fun x => { x with pkts := [pk0], count := 2 }), by decide +kernel⟩,
   ⟨2, 162, ⟨2, some (med0, false, 5), []⟩, [], med0, false, 5, withQ 162 (fun x => { x with pkts := [⟨2, some (med0, false, 5), []⟩], count := 2 }), by decide +kernel⟩,
   ⟨5, ⟨300, pk0, 0⟩, { skS with stk := { (withQ 300 (fun x => { x with enabledFw := true })).stk with stalls := [(5, [⟨300, pk0, 0⟩])] } }, by decide +kernel⟩,
   ⟨5, withQ 5 (fun x => { x with count := x.high }), by decide +kernel⟩,
   ⟨1023, withQ 1023 (fun x => { x with count := x.high }), by decide +kernel⟩,
   ⟨5, withQ 5 (fun x => { x with congested := true }), by decide +kernel⟩,
   ⟨3, 40, st [(pgSTK, STK.ST_qfc, 8)] { skS with stk := { skS.stk with qfcAt := [(3, 40)] } }, by decide +kernel⟩,
   ⟨5, withQ 5 (fun x => { x with pkts := [pk0, pk0], count := 49 }), by decide +kernel⟩,
   ⟨5, 0, { skS with stk := { skS.stk with stalls := [(5, [⟨300, pk0, 0⟩])] } }, by decide +kernel⟩⟩

theorem witness_StackErrorsAndSettings :
    (∃ (r : Req) (s : State), (State.lets r 3 pgSTK 0x140 s) ∧ ((∃ q ∈ knownQueues s, (queueOf q s).frozen = true ∧ ∃ p, queueOwner q = some p ∧ act p s = stRUNNING))) ∧
    (∃ (r : Req) (s : State), (State.lets r 3 pgSTK 0x140 s) ∧ ((∀ q ∈ knownQueues s, (queueOf q s).frozen = true → ∀ p, queueOwner q = some p → act p s ≠ stRUNNING))) ∧
    (∃ (s : State), (s.stk.rebuilding = true)) ∧
    (∃ (r : Req) (value : Word) (q : Nat) (s : State), (State.lets r 3 pgSTK 0x120 s) ∧ (getF pgSTK STK.QSEL_queue s = q) ∧ (q < 288) ∧ (bitsOf 0 18 value.toNat < bitsOf 18 13 value.toNat ∨ 245752 < bitsOf 0 18 value.toNat ∨ bitsOf 0 18 value.toNat = 0)) ∧
    (∃ (r : Req) (value : Word) (q : Nat) (s : State) (m : Nat) (n : Nat), (State.lets r 3 pgSTK 0x120 s) ∧ (getF pgSTK STK.QSEL_queue s = q) ∧ (q < 288) ∧ (m = bitsOf 0 18 value.toNat) ∧ (n = bitsOf 18 13 value.toNat) ∧ (m ≠ (queueOf q s).max) ∧ (queueSettingsOk q { queueOf q s with min := n, max := m, high := 3 * m / 4, low := m / 2 } s = true)) ∧
    (∃ (r : Req) (value : Word) (q : Nat) (s : State), (State.lets r 3 pgSTK 0x124 s) ∧ (getF pgSTK STK.QSEL_queue s = q) ∧ (q < 288) ∧ (bitsOf 0 16 value.toNat = 0 ∨ bitsOf 16 16 value.toNat ≤ bitsOf 0 16 value.toNat ∨ (queueOf q s).max < 4 * bitsOf 16 16 value.toNat)) ∧
    (∃ (r : Req) (value : Word) (q : Nat) (s : State), (State.lets r 3 pgSTK 0x124 s) ∧ (getF pgSTK STK.QSEL_queue s = q) ∧ (q < 288) ∧ (queueSettingsOk q { queueOf q s with high := 4 * bitsOf 16 16 value.toNat, low := 4 * bitsOf 0 16 value.toNat } s = true)) ∧
    (∃ (r : Req) (s : State), (State.lets r 3 pgSTK 0x134 s)) ∧
    (∃ (r : Req) (s : State), (State.lets r 1 pgSTK 0x114 s)) ∧
    (∃ (s : State), (act pgSTK s = stSTARTING)) ∧
    (∃ (s : State), (act pgSTK s ≠ stSTARTING)) :=
  ⟨⟨ses, withQ 162 (fun x => { x with frozen := true }), ⟨by decide +kernel, _, rfl, by decide +kernel, by decide +kernel⟩, by decide +kernel⟩,
   ⟨ses, withQ 400 (fun x => { x with frozen := true }), ⟨by decide +kernel, _, rfl, by decide +kernel, by decide +kernel⟩, by decide +kernel⟩,
   ⟨st [(pgSTK, STK.LOST_cells, 3)] { (withQ 400 (fun x => { x with frozen := true })) with stk := { (withQ 400 (fun x => { x with frozen := true })).stk with rebuilding := true } }, by decide +kernel⟩,
   ⟨ses, 0x40000, 5, st [(pgSTK, STK.QSEL_queue, 5)] skS, ⟨by decide +kernel, _, rfl, by decide +kernel, by decide +kernel⟩, by decide +kernel⟩,
   ⟨ses, 100, 280, (st [(pgSTK, STK.QSEL_queue, 280)] skS), 100, 0, ⟨by decide +kernel, _, rfl, by decide +kernel, by decide +kernel⟩, by decide +kernel⟩,
   ⟨ses, 0x40000, 5, st [(pgSTK, STK.QSEL_queue, 5)] skS, ⟨by decide +kernel, _, rfl, by decide +kernel, by decide +kernel⟩, by decide +kernel⟩,
   ⟨ses, 0x00040002, 5, st [(pgSTK, STK.QSEL_queue, 5)] skS, ⟨by decide +kernel, _, rfl, by decide +kernel, by decide +kernel⟩, by decide +kernel⟩,
   ⟨ses, st [(pgSTK, STK.QSEL_queue, 1023)] skS, ⟨by decide +kernel, _, rfl, by decide +kernel, by decide +kernel⟩⟩,
   ⟨ses, skS, ⟨by decide +kernel, _, rfl, by decide +kernel, by decide +kernel⟩⟩,
   ⟨on [(pgSTK, 3)] skS, by decide +kernel⟩,
   ⟨skS, by decide +kernel⟩⟩

theorem witness_SlipsPostedAndTaken :
    (∃ (i : Fin 8) (tag : BitVec 16) (q : Fin 16) (b : List Byte) (x : Session) (s : State), (deskRuns s = true) ∧ (isF pgFWL FWL.ST_recovery s = false) ∧ (sessionAt i.val s = some x) ∧ (x.provisioning = false) ∧ (x.outstanding + x.unsent < 64) ∧ (slipOk b = false)) ∧
    (∃ (i : Fin 8) (tag : BitVec 16) (q : Fin 16) (b : List Byte) (x : Session) (s : State), (deskRuns s = true) ∧ (isF pgFWL FWL.ST_recovery s = false) ∧ (sessionAt i.val s = some x) ∧ (x.provisioning = false) ∧ (x.outstanding + x.unsent < 64) ∧ (slipOk b = true) ∧ ((∀ e ∈ s.cir.posts, e.2.1 ≠ q.val)) ∧ (queueOpen q.val s = true)) ∧
    (∃ (i : Fin 8) (tag : BitVec 16) (q : Fin 16) (b : List Byte) (x : Session) (s : State), (deskRuns s = true) ∧ (isF pgFWL FWL.ST_recovery s = false) ∧ (sessionAt i.val s = some x) ∧ (x.provisioning = false) ∧ (x.outstanding + x.unsent < 64) ∧ (slipOk b = true) ∧ ((∀ e ∈ s.cir.posts, e.2.1 ≠ q.val)) ∧ (queueOpen q.val s = false)) ∧
    (∃ (q : Fin 16) (e : Req × Nat × List Byte) (s : State), (deskRuns s = true) ∧ (queueOpen q.val s = true) ∧ (s.cir.posts.find? (fun e => e.2.1 == q.val) = some e)) ∧
    (∃ (ch : Fin 16) (b : List Byte) (s : State), (deskRuns s = true) ∧ (SMap.find ch.val s.cir.hwHeld = none) ∧ (slipOk b = true) ∧ (freeSlips s ≠ 0)) ∧
    (∃ (ch : Fin 16) (b : List Byte) (s : State), (deskRuns s = true) ∧ (SMap.find ch.val s.cir.hwHeld = none) ∧ (slipOk b = true) ∧ (freeSlips s = 0)) ∧
    (∃ (ch : Fin 16) (b : List Byte) (s : State), (deskRuns s = true) ∧ (SMap.find ch.val s.cir.hwHeld = none) ∧ (slipOk b = false)) ∧
    (∃ (core : Fin 48) (b : List Byte) (s : State), (deskRuns s = true) ∧ (slipOk b = true) ∧ (getF pgCIR CIR.RESERVE_fw_floor s < freeSlips s)) ∧
    (∃ (core : Fin 48) (b : List Byte) (s : State), (deskRuns s = true) ∧ (slipOk b = true) ∧ (freeSlips s ≤ getF pgCIR CIR.RESERVE_fw_floor s)) ∧
    (∃ (q : Fin 16) (x : Slip) (l : List Slip) (s : State), (deskRuns s = true) ∧ ((hostQ q.val s).en = true) ∧ ((hostQ q.val s).held = x :: l)) ∧
    (∃ (c : Fin 8) (x : Slip) (l : List Slip) (s : State), (deskRuns s = true) ∧ (getF pgCIR CIR.CFG_age_us s ≠ 0) ∧ (c.val < 6) ∧ (readyList c.val s = x :: l)) :=
  ⟨⟨0, 9, 15, slp 2 0, sess, ciS, by decide +kernel⟩,
   ⟨0, 9, 15, slp 1 7, sess, ciS, by decide +kernel⟩,
   ⟨0, 9, 15, slp 1 7, sess, modHostQ 15 (fun x => { x with en := false }) ciS, by decide +kernel⟩,
   ⟨3, (ses, 3, slp 1 2), modHostQ 3 (fun x => { x with waitSince := some 0 }) { (putSession 0 { sess with outstanding := 2 } ciS) with cir := { ciS.cir with posts := [(ses, 4, slp 1 1), (ses, 3, slp 1 2), (ses, 3, slp 1 3)] } }, by decide +kernel⟩,
   ⟨15, slp 1 7, ciS, by decide +kernel⟩,
   ⟨15, slp 1 7, noneFree 0, by decide +kernel⟩,
   ⟨15, slp 0 7, ciS, by decide +kernel⟩,
   ⟨47, slp 1 7, ciS, by decide +kernel⟩,
   ⟨47, slp 1 7, noneFree 0, by decide +kernel⟩,
   ⟨3, slip0, [slip0], modHostQ 3 (fun x => { x with held := [slip0, slip0] }) ciS, by decide +kernel⟩,
   ⟨5, slip0, [slip0], st [(pgCIR, CIR.CFG_age_us, 3)] (setReady 5 [slip0, slip0] ciS), by decide +kernel⟩⟩

theorem witness_SlipsDispatchedAndEnded :
    (∃ (c : Nat) (k : Nat) (x : Slip) (s : State), (deskRuns s = true) ∧ (c < 8) ∧ (readyList c s = [x]) ∧ ((∀ c', c' < 8 → c' ≠ c → readyList c' s = [])) ∧ (carrelFor c s = some k)) ∧
    (∃ (c : Nat) (k : Nat) (x : Slip) (s : State), (deskRuns s = true) ∧ (c < 8) ∧ (readyList c s = [x]) ∧ ((∀ c', c' < 8 → c' ≠ c → readyList c' s = [])) ∧ (carrelFor c s = some k)) ∧
    (∃ (c : Nat) (k : Nat) (x : Slip) (s : State) (v : Nat × Slip), (deskRuns s = true) ∧ (c < 8) ∧ (readyList c s = [x]) ∧ ((∀ c', c' < 8 → c' ≠ c → readyList c' s = [])) ∧ (carrelFor c s = none) ∧ (victimFor c s = some v)) ∧
    (∃ (c : Nat) (k : Nat) (x : Slip) (s : State) (v : Nat × Slip), (deskRuns s = true) ∧ (c < 8) ∧ (readyList c s = [x]) ∧ ((∀ c', c' < 8 → c' ≠ c → readyList c' s = [])) ∧ (carrelFor c s = none) ∧ (victimFor c s = some v)) ∧
    (∃ (k : Fin 48) (p : Slip) (s : State), (deskRuns s = true) ∧ ((deskCore k.val s).run = none) ∧ ((deskCore k.val s).pf = some p) ∧ ((deskCore k.val s).phase = 0) ∧ (corePowered k.val s = true)) ∧
    (∃ (k : Fin 48) (x : RunSlip) (result : Byte) (s : State), (deskRuns s = true) ∧ ((deskCore k.val s).run = some x) ∧ (x.slip.notify = true) ∧ (x.slip.source < 16) ∧ (s.cir.hwHeld = []) ∧ (x.late = false)) ∧
    (∃ (k : Fin 48) (x : RunSlip) (result : Byte) (s : State) (known : Bool), (deskRuns s = true) ∧ ((deskCore k.val s).run = some x) ∧ (x.slip.notify = true) ∧ (x.slip.source < 16) ∧ (s.cir.hwHeld = []) ∧ (x.late = true)) ∧
    (∃ (k : Fin 48) (x : RunSlip) (s : State), (deskRuns s = true) ∧ ((deskCore k.val s).run = some x) ∧ (x.overran = false)) ∧
    (∃ (k : Fin 48) (x : RunSlip) (s : State), (deskRuns s = true) ∧ ((deskCore k.val s).run = some x) ∧ (x.overran = true)) ∧
    (∃ (k : Fin 48) (x : RunSlip) (s : State), (deskRuns s = true) ∧ ((deskCore k.val s).run = some x) ∧ (getF pgCIR CIR.CORE_CFG_kill_ms s ≠ 0)) ∧
    (∃ (k : Fin 48) (s : State), (deskRuns s = true) ∧ ((deskCore k.val s).phase = 2)) ∧
    (∃ (k : Fin 48) (s : State), (s.pwr.mainRun = true) ∧ ((deskCore k.val s).phase ≠ 3)) ∧
    (∃ (r : Req) (q : Fin 16) (s : State), (State.lets r 3 pgCIR 0x164 s)) ∧
    (∃ (r : Req) (q : Nat) (s : State) (x : CplRec) (l : List CplRec), (State.lets r 1 pgCIR 0x154 s) ∧ (getF pgCIR CIR.CPL_SEL_queue s = q) ∧ ((hostQ q s).fifo = x :: l)) ∧
    (∃ (r : Req) (q : Nat) (s : State), (State.lets r 1 pgCIR 0x154 s) ∧ (getF pgCIR CIR.CPL_SEL_queue s = q) ∧ ((hostQ q s).fifo = [])) ∧
    (∃ (r : Req) (q : Nat) (s : State), (State.lets r 1 pgCIR 0x148 s) ∧ (getF pgCIR CIR.HSQ_SEL_queue s = q)) :=
  ⟨⟨2, 0, slip0, setReady 2 [slip0] ciS, by decide +kernel⟩,
   ⟨7, 1, { slip0 with cls := 7 }, modDeskCore 0 (fun x => { x with pf := some slip0 }) (setReady 7 [{ slip0 with cls := 7 }] ciS), by decide +kernel⟩,
   ⟨7, 0, { slip0 with cls := 7 }, setReady 7 [{ slip0 with cls := 7 }] allPf, (0, { slip0 with no := 100, cls := 1 }), by decide +kernel⟩,
   ⟨2, 0, { slip0 with cls := 2 }, setReady 2 [{ slip0 with cls := 2 }] allPf, (0, { slip0 with no := 100, cls := 1 }), by decide +kernel⟩,
   ⟨47, slip0, modDeskCore 47 (fun x => { x with pf := some slip0 }) ciS, by decide +kernel⟩,
   ⟨47, run0, 9, runS run0, by decide +kernel⟩,
   ⟨47, { run0 with late := true }, 9, runS { run0 with late := true }, true, by decide +kernel⟩,
   ⟨47, run0, st [(pgCIR, CIR.CFG_run_us, 10)] (runS run0), by decide +kernel⟩,
   ⟨47, { run0 with overran := true }, runS { run0 with overran := true }, by decide +kernel⟩,
   ⟨47, run0, st [(pgCIR, CIR.CORE_CFG_kill_ms, 10)] (runS run0), by decide +kernel⟩,
   ⟨47, modDeskCore 47 (fun x => { x with phase := 2, phaseAt := 5 }) ciS, by decide +kernel⟩,
   ⟨47, runS run0, by decide +kernel⟩,
   ⟨ses, 3, modHostQ 3 (fun x => { x with held := [slip0] }) ciS, ⟨by decide +kernel, _, rfl, by decide +kernel, by decide +kernel⟩⟩,
   ⟨ses, 3, (st [(pgCIR, CIR.CPL_SEL_queue, 3)] (modHostQ 3 (fun x => { x with fifo := [⟨4, 5, 6, 0⟩, ⟨5, 5, 6, 0⟩] }) ciS)), ⟨4, 5, 6, 0⟩, [⟨5, 5, 6, 0⟩], ⟨by decide +kernel, _, rfl, by decide +kernel, by decide +kernel⟩, by decide +kernel⟩,
   ⟨ses, 3, st [(pgCIR, CIR.CPL_SEL_queue, 3)] ciS, ⟨by decide +kernel, _, rfl, by decide +kernel, by decide +kernel⟩, by decide +kernel⟩,
   ⟨ses, 3, st [(pgCIR, CIR.HSQ_SEL_queue, 3)] (modHostQ 3 (fun x => { x with stalls := 7 }) ciS), ⟨by decide +kernel, _, rfl, by decide +kernel, by decide +kernel⟩, by decide +kernel⟩⟩

theorem witness_HbmRequestsRefreshAndRest :
    (∃ (i : Fin 2) (p : Fin 32) (a : HbmAccess) (s : State), (State.hbmQuiet i.val s) ∧ (a.requester.val < 36) ∧ (a.write = false) ∧ (eccFinds i.val p.val a s = .good) ∧ (SMap.get 0 a.bank.val (pcOf i.val p.val s).bankUntil ≤ s.clk) ∧ ((pcOf i.val p.val s).throttled = [])) ∧
    (∃ (i : Fin 2) (p : Fin 32) (a : HbmAccess) (s : State), (State.hbmQuiet i.val s) ∧ (a.requester.val < 36) ∧ (a.write = true)) ∧
    (∃ (i : Fin 2) (p : Fin 32) (a : HbmAccess) (s : State), (State.hbmQuiet i.val s) ∧ (36 ≤ a.requester.val)) ∧
    (∃ (i : Fin 2) (p : Fin 32) (s : State), (State.hbmQuiet i.val s)) ∧
    (∃ (i : Fin 2) (c : Byte) (s : State), (State.hbmQuiet i.val s)) ∧
    (∃ (i : Fin 2) (c : Byte) (s : State), (State.hbmQuiet i.val s)) ∧
    (∃ (i : Fin 2) (c : Byte) (s : State), (State.hbmQuiet i.val s)) ∧
    (∃ (i : Fin 2) (s : State), (State.hbmQuiet i.val s) ∧ ((hbmOf i.val s).tempFails = 2)) ∧
    (∃ (i : Fin 2) (s : State), (State.hbmQuiet i.val s) ∧ ((hbmOf i.val s).tempFails ≠ 2)) ∧
    (∃ (r : Req) (i : Fin 2) (s : State), (State.lets r 1 (pgHBM i.val) 0x120 s)) ∧
    (∃ (i : Fin 2) (p : Fin 32) (s : State), (State.hbmQuiet i.val s) ∧ (kept i.val p.val s = true) ∧ ((inD2 s = true ∨ ((getF (pgHBM i.val) HBM.SR_ALLOW_allow s).testBit p.val = true ∧ effTol 3 (32 * i.val + p.val) s ≠ 0)))) ∧
    (∃ (i : Fin 2) (p : Fin 32) (s : State), (State.hbmQuiet i.val s) ∧ (kept i.val p.val s = true) ∧ ((inD2 s = true ∨ ((getF (pgHBM i.val) HBM.SR_ALLOW_allow s).testBit p.val = true ∧ effTol 3 (32 * i.val + p.val) s ≠ 0)))) ∧
    (∃ (i : Fin 2) (s : State), (State.hbmQuiet i.val s)) :=
  ⟨⟨1, 31, acc1 35 false, hbS, (by unfold State.hbmQuiet; decide +kernel), by decide +kernel⟩,
   ⟨1, 31, acc1 35 true, hbS, (by unfold State.hbmQuiet; decide +kernel), by decide +kernel⟩,
   ⟨1, 31, acc1 36 true, hbS, (by unfold State.hbmQuiet; decide +kernel), by decide +kernel⟩,
   ⟨1, 31, hbS, (by unfold State.hbmQuiet; decide +kernel)⟩,
   ⟨1, 105, hbS, (by unfold State.hbmQuiet; decide +kernel)⟩,
   ⟨0, 82, hbS, (by unfold State.hbmQuiet; decide +kernel)⟩,
   ⟨0, 84, hbS, (by unfold State.hbmQuiet; decide +kernel)⟩,
   ⟨1, modHbm 1 (fun x => { x with tempFails := 2 }) hbS, (by unfold State.hbmQuiet; decide +kernel), by decide +kernel⟩,
   ⟨1, hbS, (by unfold State.hbmQuiet; decide +kernel), by decide +kernel⟩,
   ⟨ses, 1, st [(pgHBM 1, HBM.TEMP_max_c, 90)] hbS, ⟨by decide +kernel, _, rfl, by decide +kernel, by decide +kernel⟩⟩,
   ⟨1, 31, st [(pgHBM 1, HBM.SR_ALLOW_allow, 0xFFFFFFFF)] hbS, (by unfold State.hbmQuiet; decide +kernel), by decide +kernel⟩,
   ⟨1, 31, st [(pgPWR, PWR.DSTAT_state, 2)] hbS, (by unfold State.hbmQuiet; decide +kernel), by decide +kernel⟩,
   ⟨1, modPc 1 31 (fun x => { x with counts := [(5, 6)], throttled := [(7, 8)] }) hbS, (by unfold State.hbmQuiet; decide +kernel)⟩⟩

theorem witness_HbmPausesScrubAndCommits :
    (∃ (i : Fin 2) (p : Fin 32) (ticks : Fin 301) (eyes : List (Fin 36 × Byte)) (s : State), (State.hbmQuiet i.val s) ∧ (kept i.val p.val s = true) ∧ (inD2 s = false) ∧ (anyPaused s = false) ∧ ((pcOf i.val p.val s).bankUntil.all (fun e => decide (e.2 ≤ s.clk)) = true)) ∧
    (∃ (i : Fin 2) (p : Fin 32) (ticks : Fin 301) (eyes : List (Fin 36 × Byte)) (s : State), (State.hbmQuiet i.val s) ∧ (kept i.val p.val s = true) ∧ (inD2 s = false) ∧ (anyPaused s = false) ∧ ((pcOf i.val p.val s).bankUntil.all (fun e => decide (e.2 ≤ s.clk)) = true)) ∧
    (∃ (i : Fin 2) (j : Fin 2) (p : Fin 32) (q : Fin 32) (s : State), (State.hbmQuiet i.val s) ∧ (kept i.val p.val s = true) ∧ (inD2 s = false) ∧ (max s.clk (slotAt i.val p.val (dueSlot i.val p.val s) + 1300) < (pcOf j.val q.val s).pausedUntil)) ∧
    (∃ (i : Fin 2) (p : Fin 32) (a : HbmAccess) (s : State), (State.hbmQuiet i.val s) ∧ (kept i.val p.val s = true) ∧ (isF (pgHBM i.val) HBM.CFG_scrub_en s = true) ∧ (isF pgHLT HLT.ST_throttle s = false) ∧ (eccFinds i.val p.val a s = .good) ∧ (SMap.get 0 (a.bank.val * 2 ^ 14 + a.row.val) (pcOf i.val p.val s).counts = 0)) ∧
    (∃ (i : Fin 2) (s : State), (State.hbmQuiet i.val s) ∧ (pendingGen (pgHBM i.val) s = true)) ∧
    (∃ (i : Fin 2) (s : State), (pendingGen (pgHBM i.val) s = false)) ∧
    (∃ (i : Fin 2) (good : Bool) (s : State), (act (pgHBM i.val) s = stSTARTING)) ∧
    (∃ (i : Fin 2) (good : Bool) (s : State), (act (pgHBM i.val) s = stSTARTING)) :=
  ⟨⟨1, 31, 300, [(3, 20)], hbS, (by unfold State.hbmQuiet; decide +kernel), by decide +kernel⟩,
   ⟨0, 0, 0, [], hbS, (by unfold State.hbmQuiet; decide +kernel), by decide +kernel⟩,
   ⟨1, 0, 31, 0, modPc 0 0 (fun x => { x with pausedUntil := 10^9 }) hbS, (by unfold State.hbmQuiet; decide +kernel), by decide +kernel⟩,
   ⟨1, 31, acc1 40 false, st [(pgHBM 1, HBM.CFG_scrub_en, 1)] hbS, (by unfold State.hbmQuiet; decide +kernel), by decide +kernel⟩,
   ⟨1, st [(pgHBM 1, HDR.gen_committed, 1)] (cm [(pgHBM 1, HBM.KEEP_kept, 0x7FFFFFFF)] hbS), (by unfold State.hbmQuiet; decide +kernel), by decide +kernel⟩,
   ⟨1, hbS, by decide +kernel⟩,
   ⟨1, false, on [(pgHBM 1, 3)] hbS, by decide +kernel⟩,
   ⟨1, true, on [(pgHBM 1, 3)] hbS, by decide +kernel⟩⟩

theorem witness_CheckUnits :
    (∃ (r : Req) (k : Fin 8) (s : State), (State.lets r 3 (pgCHK k.val) 0x124 s) ∧ (isF (pgCHK k.val) CHK.STREAM_en s = true)) ∧
    (∃ (r : Req) (k : Fin 8) (s : State), (State.lets r 3 (pgCHK k.val) 0x124 s) ∧ (isF (pgCHK k.val) CHK.STREAM_en s = false) ∧ (chkWorks k.val s = true)) ∧
    (∃ (r : Req) (k : Fin 8) (w : Word) (s : State), (State.lets r 3 (pgCHK k.val) 0x128 s) ∧ (isF (pgCHK k.val) CHK.ST_busy s = true)) ∧
    (∃ (r : Req) (k : Fin 8) (w : Word) (s : State), (State.lets r 3 (pgCHK k.val) 0x128 s) ∧ (isF (pgCHK k.val) CHK.ST_busy s = false)) ∧
    (∃ (r : Req) (k : Fin 8) (last : BitVec 2) (m : List Byte) (s : State), (State.lets r 3 (pgCHK k.val) 0x124 s) ∧ (isF (pgCHK k.val) CHK.ST_busy s = true) ∧ (chkMessage last.toNat (chkOf k.val s).fed = m) ∧ (getF (pgCHK k.val) CHK.CFG_mode s < 2)) ∧
    (∃ (r : Req) (k : Fin 8) (last : BitVec 2) (m : List Byte) (s : State), (State.lets r 3 (pgCHK k.val) 0x124 s) ∧ (isF (pgCHK k.val) CHK.ST_busy s = true) ∧ (chkMessage last.toNat (chkOf k.val s).fed = m) ∧ (getF (pgCHK k.val) CHK.CFG_mode s < 2)) ∧
    (∃ (r : Req) (k : Fin 8) (last : BitVec 2) (m : List Byte) (s : State), (State.lets r 3 (pgCHK k.val) 0x124 s) ∧ (isF (pgCHK k.val) CHK.ST_busy s = true) ∧ (chkMessage last.toNat (chkOf k.val s).fed = m) ∧ (2 ≤ getF (pgCHK k.val) CHK.CFG_mode s) ∧ (m.length ≤ chkBytes k.val s)) ∧
    (∃ (r : Req) (k : Fin 8) (v : Word) (s : State), (State.lets r 3 (pgCHK k.val) 0x138 s) ∧ (r.origin ≠ .firmware)) ∧
    (∃ (r : Req) (k : Fin 8) (v : Word) (s : State), (State.lets r 3 (pgCHK k.val) 0x138 s) ∧ (r.origin = .firmware) ∧ (isF (pgCHK k.val) CHK.ST_busy s = false) ∧ (288 ≤ bitsOf 16 10 v.toNat) ∧ (288 ≤ bitsOf 0 10 v.toNat)) ∧
    (∃ (k : Fin 8) (src : Nat) (dst : Nat) (x : StkPkt) (rest : List StkPkt) (s : State), (isF (pgCHK k.val) CHK.STREAM_en s = true) ∧ (chkWorks k.val s = true) ∧ (getF (pgCHK k.val) CHK.STREAM_src_queue s = src) ∧ (getF (pgCHK k.val) CHK.STREAM_dst_queue s = dst) ∧ (288 ≤ dst) ∧ (src ≠ dst) ∧ ((queueOf src s).pkts = x :: rest) ∧ ((queueOf src s).frozen = false) ∧ (getF (pgCHK k.val) CHK.CFG_mode s = 0) ∧ (queueEnabled dst s = false)) ∧
    (∃ (k : Fin 8) (src : Nat) (dst : Nat) (x : StkPkt) (rest : List StkPkt) (s : State), (isF (pgCHK k.val) CHK.STREAM_en s = true) ∧ (chkWorks k.val s = true) ∧ (getF (pgCHK k.val) CHK.STREAM_src_queue s = src) ∧ (getF (pgCHK k.val) CHK.STREAM_dst_queue s = dst) ∧ (288 ≤ dst) ∧ (src ≠ dst) ∧ ((queueOf src s).pkts = x :: rest) ∧ ((queueOf src s).frozen = false) ∧ (getF (pgCHK k.val) CHK.CFG_mode s = 0) ∧ (queueEnabled dst s = true) ∧ ((queueOf dst s).frozen = false) ∧ ((queueOf dst s).count + cellsFor x.data.length ≤ min (queueOf dst s).min (queueOf dst s).max) ∧ (cellsFor x.data.length ≤ freeCells s) ∧ (freeCells s + x.cells < 2 ^ 19)) :=
  ⟨⟨ses, 3, st [(pgCHK 3, CHK.STREAM_en, 1)] ckS, ⟨by decide +kernel, _, rfl, by decide +kernel, by decide +kernel⟩, by decide +kernel⟩,
   ⟨ses, 3, ckS, ⟨by decide +kernel, _, rfl, by decide +kernel, by decide +kernel⟩, by decide +kernel⟩,
   ⟨ses, 3, 0x01020304, ckB 0 [9], ⟨by decide +kernel, _, rfl, by decide +kernel, by decide +kernel⟩, by decide +kernel⟩,
   ⟨ses, 3, 0x01020304, ckS, ⟨by decide +kernel, _, rfl, by decide +kernel, by decide +kernel⟩, by decide +kernel⟩,
   ⟨ses, 3, 3, [1, 2, 3], ckB 1 [1, 2, 3, 4], ⟨by decide +kernel, _, rfl, by decide +kernel, by decide +kernel⟩, by decide +kernel⟩,
   ⟨ses, 3, 0, [0x31, 0x32, 0x33, 0x34], ckB 0 [0x31, 0x32, 0x33, 0x34], ⟨by decide +kernel, _, rfl, by decide +kernel, by decide +kernel⟩, by decide +kernel⟩,
   ⟨ses, 3, 0, [1, 2, 3, 4], ckB 3 [1, 2, 3, 4], ⟨by decide +kernel, _, rfl, by decide +kernel, by decide +kernel⟩, by decide +kernel⟩,
   ⟨ses, 3, 0x80000000, ckS, ⟨by decide +kernel, _, rfl, by decide +kernel, by decide +kernel⟩, by decide +kernel⟩,
   ⟨fw, 3, 0x81200121, ckS, fwLets (by decide +kernel), by decide +kernel⟩,
   ⟨3, 300, 301, ⟨1, none, [1, 2, 300]⟩, [], ckT, by decide +kernel⟩,
   ⟨3, 300, 301, ⟨1, none, [1, 2, 300]⟩, [], modQueue 301 (fun x => { x with enabledFw := true, min := 1, max := 9 }) ckT, by decide +kernel⟩⟩

theorem witness_UpdateSessions :
    (∃ (i : Fin 8) (tag : BitVec 16) (kind : Byte) (n : Word) (s : State), (State.fwLets i.val s) ∧ (kind.toNat = 0 ∨ 5 < kind.toNat)) ∧
    (∃ (i : Fin 8) (tag : BitVec 16) (kind : Byte) (n : Word) (s : State), (State.fwLets i.val s) ∧ (1 ≤ kind.toNat) ∧ (kind.toNat ≤ 5) ∧ (lockHeld s = true) ∧ (inRecovery s = false)) ∧
    (∃ (i : Fin 8) (tag : BitVec 16) (kind : Byte) (n : Word) (s : State), (State.fwLets i.val s) ∧ (1 ≤ kind.toNat) ∧ (kind.toNat ≤ 3) ∧ (lockHeld s = false) ∧ (s.pwr.mainRun = false)) ∧
    (∃ (i : Fin 8) (tag : BitVec 16) (kind : Byte) (n : Word) (s : State), (State.fwLets i.val s) ∧ (4 ≤ kind.toNat) ∧ (kind.toNat ≤ 5) ∧ (lockHeld s = false)) ∧
    (∃ (i : Fin 8) (tag : BitVec 16) (off : Word) (b : List Byte) (x : Staging) (s : State), (State.fwLets i.val s) ∧ (holdsLock ⟨.session i, tag⟩ s = true) ∧ (s.fwl.staging = some x) ∧ (s.fwl.installing = none) ∧ (3 < x.kind) ∧ (b ≠ []) ∧ (b.length ≤ 1024) ∧ (off.toNat + b.length ≤ x.length)) ∧
    (∃ (i : Fin 8) (tag : BitVec 16) (off : Word) (b : List Byte) (x : Staging) (s : State), (State.fwLets i.val s) ∧ (holdsLock ⟨.session i, tag⟩ s = true) ∧ (s.fwl.staging = some x) ∧ (s.fwl.installing = none) ∧ (3 < x.kind) ∧ (b = [] ∨ 1024 < b.length ∨ x.length < off.toNat + b.length)) ∧
    (∃ (i : Fin 8) (tag : BitVec 16) (x : Staging) (s : State), (State.fwLets i.val s) ∧ (holdsLock ⟨.session i, tag⟩ s = true) ∧ (s.fwl.staging = some x)) ∧
    (∃ (i : Fin 8) (tag : BitVec 16) (x : Staging) (s : State), (State.fwLets i.val s) ∧ (holdsLock ⟨.session i, tag⟩ s = true) ∧ (s.fwl.staging = some x)) ∧
    (∃ (i : Fin 8) (tag : BitVec 16) (x : Staging) (s : State) (flags : Word), (State.fwLets i.val s) ∧ (holdsLock ⟨.session i, tag⟩ s = true) ∧ (s.fwl.staging = some x) ∧ (s.fwl.installing = none) ∧ ((x.kind ≠ 5 ∨ flags.toNat % 2 = 1))) ∧
    (∃ (i : Fin 8) (tag : BitVec 16) (x : Staging) (s : State) (flags : Word), (State.fwLets i.val s) ∧ (holdsLock ⟨.session i, tag⟩ s = true) ∧ (s.fwl.staging = some x) ∧ (s.fwl.installing = none) ∧ ((x.kind ≠ 5 ∨ flags.toNat % 2 = 1))) ∧
    (∃ (w : Installing) (s : State), (s.fwl.installing = some w) ∧ (w.kind ≠ 4)) ∧
    (∃ (w : Installing) (s : State), (s.fwl.installing = some w) ∧ (w.kind ≠ 4)) ∧
    (∃ (w : Installing) (s : State), (s.fwl.installing = some w) ∧ (w.kind ≠ 4)) ∧
    (∃ (w : Installing) (s : State), (s.fwl.installing = some w) ∧ (w.kind ≠ 4)) ∧
    (∃ (i : Fin 8) (tag : BitVec 16) (flags : Word) (f : BootFinds) (x : Staging) (s : State), (State.fwLets i.val s) ∧ (holdsLock ⟨.session i, tag⟩ s = true) ∧ (s.fwl.staging = some x) ∧ (x.installed = false)) ∧
    (∃ (i : Fin 8) (tag : BitVec 16) (flags : Word) (f : BootFinds) (x : Staging) (s : State), (State.fwLets i.val s) ∧ (holdsLock ⟨.session i, tag⟩ s = true) ∧ (s.fwl.staging = some x) ∧ (x.installed = true) ∧ (essenceRuns s = true) ∧ (flags.toNat % 2 = 0)) ∧
    (∃ (i : Fin 8) (tag : BitVec 16) (flags : Word) (f : BootFinds) (x : Staging) (s : State), (State.fwLets i.val s) ∧ (holdsLock ⟨.session i, tag⟩ s = true) ∧ (s.fwl.staging = some x) ∧ (x.installed = true) ∧ (flags.toNat % 2 = 1) ∧ (s.pwr.mainRun = false) ∧ (s.fwl.saving = none)) ∧
    (∃ (i : Fin 8) (tag : BitVec 16) (s : State), (State.fwLets i.val s) ∧ (holdsLock ⟨.session i, tag⟩ s = true) ∧ (s.fwl.installing = none)) ∧
    (∃ (i : Fin 8) (tag : BitVec 16) (s : State), (State.fwLets i.val s) ∧ (holdsLock ⟨.session i, tag⟩ s = true) ∧ (s.fwl.installing ≠ none)) ∧
    (∃ (i : Fin 8) (tag : BitVec 16) (off : Word) (flags : Word) (b : List Byte) (f : BootFinds) (s : State), (State.fwLets i.val s) ∧ (holdsLock ⟨.session i, tag⟩ s = false)) :=
  ⟨⟨0, 9, 6, 20, fwS, ⟨by decide +kernel, _, rfl, by decide +kernel, by decide +kernel⟩, by decide +kernel⟩,
   ⟨0, 9, 5, 20, lk fwS, ⟨by decide +kernel, _, rfl, by decide +kernel, by decide +kernel⟩, by decide +kernel⟩,
   ⟨0, 9, 3, 20, { fwS with pwr := { fwS.pwr with mainRun := false } }, ⟨by decide +kernel, _, rfl, by decide +kernel, by decide +kernel⟩, by decide +kernel⟩,
   ⟨0, 9, 4, 20, fwS, ⟨by decide +kernel, _, rfl, by decide +kernel, by decide +kernel⟩, by decide +kernel⟩,
   ⟨0, 9, 1, List.replicate 19 7, stg0, stgS stg0, ⟨by decide +kernel, _, rfl, by decide +kernel, by decide +kernel⟩, by decide +kernel⟩,
   ⟨0, 9, 2, List.replicate 19 7, stg0, stgS stg0, ⟨by decide +kernel, _, rfl, by decide +kernel, by decide +kernel⟩, by decide +kernel⟩,
   ⟨0, 9, stg0, stgS stg0, ⟨by decide +kernel, _, rfl, by decide +kernel, by decide +kernel⟩, by decide +kernel⟩,
   ⟨0, 9, { stg0 with kind := 1 }, stgS { stg0 with kind := 1 }, ⟨by decide +kernel, _, rfl, by decide +kernel, by decide +kernel⟩, by decide +kernel⟩,
   ⟨0, 9, stg0, stgS stg0, 1, ⟨by decide +kernel, _, rfl, by decide +kernel, by decide +kernel⟩, by decide +kernel⟩,
   ⟨0, 9, { stg0 with kind := 4 }, stgS { stg0 with kind := 4 }, 0, ⟨by decide +kernel, _, rfl, by decide +kernel, by decide +kernel⟩, by decide +kernel⟩,
   ⟨inst0 1, st [(pgFWL, FWL.ST_installing, 1)] (lk { fwS with fwl := { fwS.fwl with installing := some (inst0 1) } }), by decide +kernel⟩,
   ⟨inst0 5, st [(pgFWL, FWL.ST_installing, 1)] (lk { fwS with fwl := { fwS.fwl with installing := some (inst0 5) } }), by decide +kernel⟩,
   ⟨inst0 3, st [(pgFWL, FWL.ST_installing, 1)] (lk { fwS with fwl := { fwS.fwl with installing := some (inst0 3) } }), by decide +kernel⟩,
   ⟨inst0 2, st [(pgFWL, FWL.ST_installing, 1)] (lk { fwS with fwl := { fwS.fwl with installing := some (inst0 2), closing := true } }), by decide +kernel⟩,
   ⟨0, 9, 0, bf, stg0, stgS stg0, ⟨by decide +kernel, _, rfl, by decide +kernel, by decide +kernel⟩, by decide +kernel⟩,
   ⟨0, 9, 0, bf, { stg0 with installed := true }, on [(pgECH 0, 4)] (stgS { stg0 with installed := true }), ⟨by decide +kernel, _, rfl, by decide +kernel, by decide +kernel⟩, by decide +kernel⟩,
   ⟨0, 9, 1, bf, { stg0 with installed := true }, { (stgS { stg0 with installed := true }) with pwr := { PwrS.reset with mainRun := false } }, ⟨by decide +kernel, _, rfl, by decide +kernel, by decide +kernel⟩, by decide +kernel⟩,
   ⟨0, 9, stgS stg0, ⟨by decide +kernel, _, rfl, by decide +kernel, by decide +kernel⟩, by decide +kernel⟩,
   ⟨0, 9, { (stgS stg0) with fwl := { (stgS stg0).fwl with installing := some (inst0 1) } }, ⟨by decide +kernel, _, rfl, by decide +kernel, by decide +kernel⟩, by decide +kernel⟩,
   ⟨0, 9, 1, 1, [1], bf, fwS, ⟨by decide +kernel, _, rfl, by decide +kernel, by decide +kernel⟩, by decide +kernel⟩⟩

theorem witness_ProvenanceKeysAndParts :
    (∃ (i : Fin 8) (tag : BitVec 16) (nonce : List Byte) (x : Session) (s : State), (State.fwLets i.val s) ∧ (sessionAt i.val s = some x)) ∧
    (∃ (r : Req) (addr : Nat) (nonce : List Byte) (l : List (Req × Nat × List Byte)) (s : State), (s.fwl.quotes = (r, addr, nonce) :: l)) ∧
    (∃ (i : Fin 8) (tag : BitVec 16) (part : BitVec 16) (s : State), (State.fwLets i.val s)) ∧
    (∃ (i : Fin 8) (tag : BitVec 16) (part : BitVec 16) (s : State) (k : Nat) (x : CatSlot), (State.fwLets i.val s) ∧ (newestSlot [] s = some (k, x))) ∧
    (∃ (i : Fin 8) (tag : BitVec 16) (part : BitVec 16) (s : State), (State.fwLets i.val s) ∧ (newestSlot [] s = none)) ∧
    (∃ (i : Fin 8) (tag : BitVec 16) (kind : Byte) (s : State) (x : StoredImage), (State.fwLets i.val s) ∧ (1 ≤ kind.toNat) ∧ (kind.toNat ≤ 3) ∧ (installedImage kind.toNat s = some x) ∧ (getF pgFWL (floorField kind.toNat) s < hdrSvn x.header)) ∧
    (∃ (i : Fin 8) (tag : BitVec 16) (kind : Byte) (s : State) (x : StoredImage), (State.fwLets i.val s) ∧ (1 ≤ kind.toNat) ∧ (kind.toNat ≤ 3) ∧ (installedImage kind.toNat s = some x) ∧ (getF pgFWL (floorField kind.toNat) s < hdrSvn x.header)) ∧
    (∃ (i : Fin 8) (tag : BitVec 16) (kind : Byte) (s : State) (x : StoredImage), (State.fwLets i.val s) ∧ (1 ≤ kind.toNat) ∧ (kind.toNat ≤ 3) ∧ (installedImage kind.toNat s = some x) ∧ (hdrSvn x.header ≤ getF pgFWL (floorField kind.toNat) s)) ∧
    (∃ (i : Fin 8) (tag : BitVec 16) (kind : Byte) (s : State), (State.fwLets i.val s) ∧ (kind.toNat = 0 ∨ 3 < kind.toNat)) ∧
    (∃ (i : Fin 8) (tag : BitVec 16) (slot : Byte) (key : List Byte) (x : Session) (s : State), (s.fwl.stage ≠ 0) ∧ (sessionAt i.val s = some x) ∧ ((x.provisioning = true ∨ x.outstanding + x.unsent < 64)) ∧ (slot.toNat < 8) ∧ (key.length = 97)) ∧
    (∃ (i : Fin 8) (tag : BitVec 16) (slot : Byte) (key : List Byte) (x : Session) (s : State), (s.fwl.stage ≠ 0) ∧ (sessionAt i.val s = some x) ∧ ((x.provisioning = true ∨ x.outstanding + x.unsent < 64)) ∧ (slot.toNat < 8) ∧ (key.length = 97)) ∧
    (∃ (i : Fin 8) (tag : BitVec 16) (slot : Byte) (key : List Byte) (x : Session) (s : State), (s.fwl.stage ≠ 0) ∧ (sessionAt i.val s = some x) ∧ ((x.provisioning = true ∨ x.outstanding + x.unsent < 64)) ∧ (8 ≤ slot.toNat ∨ (key.length ≠ 97 ∧ key.length ≠ 0))) ∧
    (∃ (i : Fin 8) (tag : BitVec 16) (slot : Byte) (key : List Byte) (x : Session) (s : State), (s.fwl.stage ≠ 0) ∧ (sessionAt i.val s = some x) ∧ ((x.provisioning = true ∨ x.outstanding + x.unsent < 64)) ∧ (8 ≤ slot.toNat ∨ (key.length ≠ 97 ∧ key.length ≠ 0))) ∧
    (∃ (i : Fin 8) (tag : BitVec 16) (v : List Byte) (s : State), (State.fwLets i.val s) ∧ (v.length = 48)) ∧
    (∃ (i : Fin 8) (tag : BitVec 16) (v : List Byte) (s : State), (State.fwLets i.val s) ∧ (v.length ≠ 48)) ∧
    (∃ (i : Fin 8) (tag : BitVec 16) (s : State), (State.fwLets i.val s) ∧ (s.fwl.stage = 6)) ∧
    (∃ (i : Fin 8) (tag : BitVec 16) (s : State), (State.fwLets i.val s) ∧ (s.fwl.stage ≠ 6)) ∧
    (∃ (i : Fin 8) (tag : BitVec 16) (s : State), (State.fwLets i.val s)) ∧
    (∃ (i : Fin 8) (tag : BitVec 16) (part : BitVec 16) (s : State), (State.fwLets i.val s) ∧ (part ≠ 0)) :=
  ⟨⟨0, 9, List.replicate 32 1, sess, fwS, ⟨by decide +kernel, _, rfl, by decide +kernel, by decide +kernel⟩, by decide +kernel⟩,
   ⟨ses, 9, [1], [(fw, 8, [2])], { (putSession 0 { sess with outstanding := 3 } fwS) with fwl := { fwS.fwl with quotes := [(ses, 9, [1]), (fw, 8, [2])] } }, by decide +kernel⟩,
   ⟨0, 9, 0, fwS, ⟨by decide +kernel, _, rfl, by decide +kernel, by decide +kernel⟩⟩,
   ⟨0, 9, 0, { fwS with fwl := { fwS.fwl with catalogue := [(3, ⟨4, 5, []⟩), (4, ⟨6, 5, []⟩)] } }, 4, ⟨6, 5, []⟩, ⟨by decide +kernel, _, rfl, by decide +kernel, by decide +kernel⟩, by decide +kernel⟩,
   ⟨0, 9, 0, fwS, ⟨by decide +kernel, _, rfl, by decide +kernel, by decide +kernel⟩, by decide +kernel⟩,
   ⟨0, 9, 1, { fwS with fwl := { fwS.fwl with image := some (img0 5) } }, img0 5, ⟨by decide +kernel, _, rfl, by decide +kernel, by decide +kernel⟩, by decide +kernel⟩,
   ⟨0, 9, 3, { fwS with fwl := { fwS.fwl with vectors := some (img0 (2^32-1)) } }, img0 (2^32-1), ⟨by decide +kernel, _, rfl, by decide +kernel, by decide +kernel⟩, by decide +kernel⟩,
   ⟨0, 9, 1, st [(pgFWL, FWL.FLOOR_MAIN, 5)] { fwS with fwl := { fwS.fwl with image := some (img0 5) } }, img0 5, ⟨by decide +kernel, _, rfl, by decide +kernel, by decide +kernel⟩, by decide +kernel⟩,
   ⟨0, 9, 4, fwS, ⟨by decide +kernel, _, rfl, by decide +kernel, by decide +kernel⟩, by decide +kernel⟩,
   ⟨0, 9, 7, List.replicate 97 1, sess, fwS, by decide +kernel⟩,
   ⟨0, 9, 7, List.replicate 97 1, { sess with provisioning := true }, putSession 0 { sess with provisioning := true } fwS, by decide +kernel⟩,
   ⟨0, 9, 8, List.replicate 97 1, sess, fwS, by decide +kernel⟩,
   ⟨0, 9, 7, List.replicate 96 1, sess, fwS, by decide +kernel⟩,
   ⟨0, 9, List.replicate 48 1, fwS, ⟨by decide +kernel, _, rfl, by decide +kernel, by decide +kernel⟩, by decide +kernel⟩,
   ⟨0, 9, List.replicate 49 1, fwS, ⟨by decide +kernel, _, rfl, by decide +kernel, by decide +kernel⟩, by decide +kernel⟩,
   ⟨0, 9, st [(pgFWL, FWL.BOOT_state, 1)] fwS, ⟨by decide +kernel, _, rfl, by decide +kernel, by decide +kernel⟩, by decide +kernel⟩,
   ⟨0, 9, { fwS with fwl := { fwS.fwl with stage := 3 } }, ⟨by decide +kernel, _, rfl, by decide +kernel, by decide +kernel⟩, by decide +kernel⟩,
   ⟨0, 9, fwS, ⟨by decide +kernel, _, rfl, by decide +kernel, by decide +kernel⟩⟩,
   ⟨0, 9, 1, fwS, ⟨by decide +kernel, _, rfl, by decide +kernel, by decide +kernel⟩, by decide +kernel⟩⟩

theorem witness_BootCatalogueAndTwinSource :
    (∃ (f : BootFinds) (s : State), (s.pwr.inReset = false) ∧ (s.fwl.stage = 0) ∧ (act pgDEV s ≠ stFAULT) ∧ (s.fwl.loaderA = none) ∧ (s.fwl.loaderB = none)) ∧
    (∃ (f : BootFinds) (s : State), (s.pwr.inReset = false) ∧ (s.fwl.stage = 0) ∧ (act pgDEV s ≠ stFAULT) ∧ (s.pwr.mainRun = false)) ∧
    (∃ (f : BootFinds) (s : State), (s.pwr.inReset = false) ∧ (s.fwl.stage = 0) ∧ (act pgDEV s ≠ stFAULT) ∧ (s.pwr.mainRun = false)) ∧
    (∃ (f : BootFinds) (s : State), (s.fwl.stage = 3) ∧ (s.pwr.mainRun = true) ∧ (inRecovery s = false) ∧ (getF pgFWL FWL.BOOT_bootsel s = 1 ∨ getF pgFWL FWL.BOOT_bootsel s = 3)) ∧
    (∃ (f : BootFinds) (s : State), (s.fwl.stage = 3) ∧ (s.pwr.mainRun = true) ∧ (inRecovery s = false) ∧ (getF pgFWL FWL.BOOT_bootsel s ≠ 1) ∧ (getF pgFWL FWL.BOOT_bootsel s ≠ 3) ∧ (s.fwl.image = none)) ∧
    (∃ (r : Req) (s : State), (State.lets r 3 pgFWL 0x130 s) ∧ (bootState s = 1)) ∧
    (∃ (r : Req) (s : State), (State.lets r 3 pgFWL 0x130 s) ∧ (bootState s ≠ 1) ∧ (s.fwl.stage ≠ 6)) ∧
    (∃ (r : Req) (s : State) (a : Nat), (State.lets r 3 pgFWL 0x130 s) ∧ (bootState s ≠ 1) ∧ (s.fwl.stage = 6) ∧ (s.fwl.saving = none) ∧ (s.fwl.lastSave = some a) ∧ (s.clk < a + 10 * tickS)) ∧
    (∃ (r : Req) (s : State), (State.lets r 3 pgFWL 0x130 s) ∧ (bootState s ≠ 1) ∧ (s.fwl.stage = 6) ∧ (s.fwl.saving = none) ∧ ((∀ a, s.fwl.lastSave = some a → a + 10 * tickS ≤ s.clk))) ∧
    (∃ (x : CatSlot) (s : State), (s.fwl.saving = some x)) ∧
    (∃ (s : State), (inRecovery s = true) ∧ (lockHeld s = false)) ∧
    (∃ (s : State), (inRecovery s = true) ∧ (lockHeld s = false)) ∧
    (∃ (j : Fin 4) (c : List Byte) (s : State), (isF pgFWL FWL.RECOVERY_serve_twin s = false)) ∧
    (∃ (j : Fin 4) (c : List Byte) (s : State) (x : StoredImage), (isF pgFWL FWL.RECOVERY_serve_twin s = true) ∧ (inRecovery s = false) ∧ (s.fwl.image = some x) ∧ (act (pgIZL j.val) s = stRUNNING)) ∧
    (∃ (j : Fin 4) (n : Word) (off : Word) (b : List Byte) (f : BootFinds) (x : Staging) (s : State), (inRecovery s = true) ∧ (getF pgFWL FWL.RECOVERY_link s = j.val) ∧ (s.fwl.asked = true) ∧ (lockHeld s = true) ∧ (getF pgFWL FWL.LOCK_holder s = 2) ∧ (s.fwl.staging = some x) ∧ (b ≠ []) ∧ (off.toNat + b.length ≤ x.length) ∧ ((stageBytes off.toNat b x).1 = true) ∧ (((stageBytes off.toNat b x).2.parts.map (fun e => e.2.length)).sum < x.length)) ∧
    (∃ (j : Fin 4) (n : Word) (off : Word) (b : List Byte) (f : BootFinds) (x : Staging) (s : State), (inRecovery s = true) ∧ (getF pgFWL FWL.RECOVERY_link s = j.val) ∧ (s.fwl.asked = true) ∧ (lockHeld s = true) ∧ (getF pgFWL FWL.LOCK_holder s = 2) ∧ (s.fwl.staging = some x) ∧ (b ≠ []) ∧ (off.toNat + b.length ≤ x.length) ∧ ((stageBytes off.toNat b x).1 = true) ∧ (((stageBytes off.toNat b x).2.parts.map (fun e => e.2.length)).sum < x.length)) :=
  ⟨⟨bf, b0, by decide +kernel⟩,
   ⟨bf, R0, by decide +kernel⟩,
   ⟨{ bf with keysA := false, keysB := false }, R0, by decide +kernel⟩,
   ⟨bf, st [(pgFWL, FWL.BOOT_bootsel, 3)] b3, by decide +kernel⟩,
   ⟨bf, b3, by decide +kernel⟩,
   ⟨ses, st [(pgFWL, FWL.BOOT_state, 1)] fwS, ⟨by decide +kernel, _, rfl, by decide +kernel, by decide +kernel⟩, by decide +kernel⟩,
   ⟨ses, b3, ⟨by decide +kernel, _, rfl, by decide +kernel, by decide +kernel⟩, by decide +kernel⟩,
   ⟨ses, { fwS with clk := 10 * tickS - 1, fwl := { fwS.fwl with lastSave := some 0 } }, 0, ⟨by decide +kernel, _, rfl, by decide +kernel, by decide +kernel⟩, by decide +kernel⟩,
   ⟨ses, { fwS with clk := 10 * tickS, fwl := { fwS.fwl with lastSave := some 0 } }, ⟨by decide +kernel, _, rfl, by decide +kernel, by decide +kernel⟩, by decide +kernel⟩,
   ⟨⟨6, 5, []⟩, { fwS with fwl := { fwS.fwl with saving := some ⟨6, 5, []⟩ } }, by decide +kernel⟩,
   ⟨recS, by decide +kernel⟩,
   ⟨on [(pgIZL 1, 4)] recS, by decide +kernel⟩,
   ⟨1, [1], fwS, by decide +kernel⟩,
   ⟨1, [1], on [(pgIZL 1, 4)] (st [(pgFWL, FWL.RECOVERY_serve_twin, 1)] { fwS with fwl := { fwS.fwl with image := some (img0 5) } }), img0 5, by decide +kernel⟩,
   ⟨1, 5000, 0, [1, 2], bf, ⟨1, 5000, [], false⟩, tws, by decide +kernel⟩,
   ⟨1, 77, 4998, [1, 2], bf, ⟨1, 5000, [], false⟩, tws, by decide +kernel⟩⟩

theorem witness_StocktakeGovernorAndShutdown :
    (∃ (s : State) (w : State), (w = advanceTo ((s.clk / tickUs + 1) * tickUs) s) ∧ (stocktakeRuns s = true) ∧ (stockFailures w = [])) ∧
    (∃ (s : State) (w : State) (f : Nat) (k : Nat), (w = advanceTo ((s.clk / tickUs + 1) * tickUs) s) ∧ (stocktakeRuns s = true) ∧ (stockFailures w = [(f, k)]) ∧ ((f, k) ∉ s.hlt.failing) ∧ (s.hlt.snaps.length < 8)) ∧
    (∃ (s : State) (w : State) (f : Nat) (k : Nat), (w = advanceTo ((s.clk / tickUs + 1) * tickUs) s) ∧ (stocktakeRuns s = true) ∧ (stockFailures w = [(f, k)]) ∧ ((f, k) ∈ s.hlt.failing)) ∧
    (∃ (r : Req) (s : State), (State.lets r 3 pgHLT 0x190 s)) ∧
    (∃ (c : Byte) (s : State), (s.pwr.mainRun = true) ∧ (pendingGen pgHLT s = false) ∧ (isF pgHLT HLT.ST_throttle s = false) ∧ (c.toNat < 110)) ∧
    (∃ (c : Byte) (s : State), (s.pwr.mainRun = true) ∧ (pendingGen pgHLT s = false) ∧ (isF pgHLT HLT.ST_throttle s = false) ∧ (c.toNat < 110)) ∧
    (∃ (c : Byte) (s : State), (s.pwr.mainRun = true) ∧ (pendingGen pgHLT s = false) ∧ (isF pgHLT HLT.ST_throttle s = false) ∧ (110 ≤ c.toNat)) ∧
    (∃ (c : Byte) (s : State), (s.pwr.mainRun = true) ∧ (pendingGen pgHLT s = false) ∧ (isF pgHLT HLT.ST_throttle s = false) ∧ (110 ≤ c.toNat)) ∧
    (∃ (c : Byte) (s : State), (s.pwr.mainRun = true) ∧ (pendingGen pgHLT s = false) ∧ (isF pgHLT HLT.ST_throttle s = true) ∧ (c.toNat < 107)) ∧
    (∃ (c : Byte) (s : State), (s.pwr.mainRun = false)) ∧
    (∃ (s : State), (s.pwr.mainRun = true) ∧ (pendingGen pgHLT s = false)) ∧
    (∃ (a : Nat) (s : State), (s.hlt.belowSince = some a) ∧ (govLevel s < 3) ∧ (isF pgHLT HLT.ST_throttle s = false) ∧ (isF pgHLT HLT.ST_sensor_fail s = false)) ∧
    (∃ (s : State), (s.pwr.mainRun = true)) ∧
    (∃ (r : Req) (s : State), (State.lets r 3 pgHLT 0x120 s) ∧ (isF pgHLT HLT.ST_shutdown s = true) ∧ (s.hlt.tjNow < 95)) ∧
    (∃ (r : Req) (s : State), (State.lets r 3 pgHLT 0x120 s) ∧ (isF pgHLT HLT.ST_shutdown s = true) ∧ (s.hlt.tjNow < 95)) ∧
    (∃ (r : Req) (s : State), (State.lets r 3 pgHLT 0x120 s) ∧ (isF pgHLT HLT.ST_shutdown s = false ∨ 95 ≤ s.hlt.tjNow)) ∧
    (∃ (r : Req) (s : State), (State.lets r 1 pgHLT 0x124 s)) :=
  ⟨⟨hlS, advanceTo ((hlS.clk / tickUs + 1) * tickUs) hlS, rfl, by decide +kernel⟩,
   ⟨hlF, advanceTo ((hlF.clk / tickUs + 1) * tickUs) hlF, ((stockFailures hlF).head?.getD (0, 0)).1, ((stockFailures hlF).head?.getD (0, 0)).2, rfl, by decide +kernel⟩,
   ⟨hlG, advanceTo ((hlG.clk / tickUs + 1) * tickUs) hlG, ((stockFailures hlF).head?.getD (0, 0)).1, ((stockFailures hlF).head?.getD (0, 0)).2, rfl, by decide +kernel⟩,
   ⟨ses, { hlF with hlt := { hlF.hlt with snaps := [⟨0, 0, 0, []⟩], faultHeld := true } }, ⟨by decide +kernel, _, rfl, by decide +kernel, by decide +kernel⟩⟩,
   ⟨109, hlS, by decide +kernel⟩,
   ⟨20, hlS, by decide +kernel⟩,
   ⟨110, hlS, by decide +kernel⟩,
   ⟨255, on [(pgECH 0, 4), (pgECH 3, 4)] (st [(pgHLT, HLT.GOV_STAT_level, 3)] hlS), by decide +kernel⟩,
   ⟨106, st [(pgHLT, HLT.ST_throttle, 1)] hlS, by decide +kernel⟩,
   ⟨90, { hlS with pwr := { hlS.pwr with mainRun := false } }, by decide +kernel⟩,
   ⟨hlS, by decide +kernel⟩,
   ⟨500, st [(pgHLT, HLT.GOV_STAT_level, 2)] { hlS with hlt := { hlS.hlt with belowSince := some 500 } }, by decide +kernel⟩,
   ⟨hlS, by decide +kernel⟩,
   ⟨ses, st [(pgHLT, HLT.ST_shutdown, 1)] { hlS with hlt := { hlS.hlt with tjNow := 94 } }, ⟨by decide +kernel, _, rfl, by decide +kernel, by decide +kernel⟩, by decide +kernel⟩,
   ⟨ses, st [(pgHLT, HLT.ST_shutdown, 1)] { hlS with pwr := PwrS.reset }, ⟨by decide +kernel, _, rfl, by decide +kernel, by decide +kernel⟩, by decide +kernel⟩,
   ⟨ses, st [(pgHLT, HLT.ST_shutdown, 1)] { hlS with hlt := { hlS.hlt with tjNow := 95 } }, ⟨by decide +kernel, _, rfl, by decide +kernel, by decide +kernel⟩, by decide +kernel⟩,
   ⟨ses, st [(pgHLT, HLT.TJ_max_c, 99)] hlS, ⟨by decide +kernel, _, rfl, by decide +kernel, by decide +kernel⟩⟩⟩

theorem witness_AnnalsAndTests :
    (∃ (r : Req) (s : State), (State.lets r 3 pgHLT 0x120 s) ∧ ((∀ a, s.hlt.lastFlush = some a → a + tickS ≤ s.clk))) ∧
    (∃ (r : Req) (s : State) (a : Nat), (State.lets r 3 pgHLT 0x120 s) ∧ (s.hlt.lastFlush = some a) ∧ (s.clk < a + tickS)) ∧
    (∃ (mv : BitVec 16) (s : State), (s.pwr.mainRun = true)) ∧
    (∃ (mv : BitVec 16) (s : State), (s.pwr.mainRun = false)) ∧
    (∃ (k : Fin 8) (s : State), (s.pwr.mainRun = true) ∧ (act (pgDEC k.val) s = stIDLE) ∧ (isF pgHLT HLT.ST_throttle s = false)) ∧
    (∃ (k : Fin 8) (s : State), (s.pwr.mainRun = true) ∧ (act (pgDEC k.val) s ≠ stIDLE ∨ isF pgHLT HLT.ST_throttle s = true)) ∧
    (∃ (r : Req) (v : Word) (s : State), (State.lets r 3 pgHLT 0x14C s) ∧ (isF pgHLT HLT.TRES_pending s = true)) ∧
    (∃ (r : Req) (v : Word) (s : State), (State.lets r 3 pgHLT 0x14C s) ∧ (isF pgHLT HLT.TRES_pending s = false) ∧ (testUnits (bitsOf 24 3 v.toNat) ≤ bitsOf 0 6 v.toNat)) ∧
    (∃ (r : Req) (v : Word) (s : State), (State.lets r 3 pgHLT 0x14C s) ∧ (isF pgHLT HLT.TRES_pending s = false) ∧ (testUnits (bitsOf 24 3 v.toNat) ≤ bitsOf 0 6 v.toNat)) ∧
    (∃ (r : Req) (v : Word) (s : State), (State.lets r 3 pgHLT 0x14C s) ∧ (isF pgHLT HLT.TRES_pending s = false) ∧ (bitsOf 0 6 v.toNat < testUnits (bitsOf 24 3 v.toNat)) ∧ (testServes (bitsOf 24 3 v.toNat) (bitsOf 0 6 v.toNat) s = true) ∧ ((v.toNat.testBit 31 = true ∨ bitsOf 24 3 v.toNat ∈ [1, 3, 5, 6]))) ∧
    (∃ (r : Req) (v : Word) (s : State), (State.lets r 3 pgHLT 0x14C s) ∧ (isF pgHLT HLT.TRES_pending s = false) ∧ (bitsOf 0 6 v.toNat < testUnits (bitsOf 24 3 v.toNat)) ∧ (testServes (bitsOf 24 3 v.toNat) (bitsOf 0 6 v.toNat) s = false)) ∧
    (∃ (r : Req) (v : Word) (s : State), (State.lets r 3 pgHLT 0x14C s) ∧ (isF pgHLT HLT.TRES_pending s = false) ∧ (bitsOf 0 6 v.toNat < testUnits (bitsOf 24 3 v.toNat)) ∧ (testServes (bitsOf 24 3 v.toNat) (bitsOf 0 6 v.toNat) s = false)) ∧
    (∃ (r : Req) (v : Word) (s : State), (State.lets r 3 pgHLT 0x14C s) ∧ (isF pgHLT HLT.TRES_pending s = false) ∧ (bitsOf 0 6 v.toNat < testUnits (bitsOf 24 3 v.toNat)) ∧ (testServes (bitsOf 24 3 v.toNat) (bitsOf 0 6 v.toNat) s = false)) ∧
    (∃ (r : Req) (v : Word) (s : State), (State.lets r 3 pgHLT 0x14C s) ∧ (isF pgHLT HLT.TRES_pending s = false) ∧ (bitsOf 0 6 v.toNat < testUnits (bitsOf 24 3 v.toNat)) ∧ (testServes (bitsOf 24 3 v.toNat) (bitsOf 0 6 v.toNat) s = false)) ∧
    (∃ (pass : Bool) (s : State), (isF pgHLT HLT.TRES_pending s = true)) ∧
    (∃ (pass : Bool) (s : State), (isF pgHLT HLT.TRES_pending s = true)) ∧
    (∃ (pass : Bool) (s : State), (isF pgHLT HLT.TRES_pending s = false)) :=
  ⟨⟨ses, { hlS with clk := tickS, hlt := { hlS.hlt with lastFlush := some 0 } }, ⟨by decide +kernel, _, rfl, by decide +kernel, by decide +kernel⟩, by decide +kernel⟩,
   ⟨ses, { hlS with clk := tickS - 1, hlt := { hlS.hlt with lastFlush := some 0 } }, 0, ⟨by decide +kernel, _, rfl, by decide +kernel, by decide +kernel⟩, by decide +kernel⟩,
   ⟨800, hlS, by decide +kernel⟩,
   ⟨800, R0, by decide +kernel⟩,
   ⟨7, on [(pgDEC 7, 2)] hlS, by decide +kernel⟩,
   ⟨7, on [(pgDEC 7, 4)] hlS, by decide +kernel⟩,
   ⟨ses, 0, st [(pgHLT, HLT.TRES_pending, 1)] hlS, ⟨by decide +kernel, _, rfl, by decide +kernel, by decide +kernel⟩, by decide +kernel⟩,
   ⟨ses, 0x07000000, hlS, ⟨by decide +kernel, _, rfl, by decide +kernel, by decide +kernel⟩, by decide +kernel⟩,
   ⟨ses, 0x00000011, hlS, ⟨by decide +kernel, _, rfl, by decide +kernel, by decide +kernel⟩, by decide +kernel⟩,
   ⟨ses, 0x80000010, on [(pgENC 16, 4)] hlS, ⟨by decide +kernel, _, rfl, by decide +kernel, by decide +kernel⟩, by decide +kernel⟩,
   ⟨ses, 0x80000010, on [(pgENC 16, 2)] hlS, ⟨by decide +kernel, _, rfl, by decide +kernel, by decide +kernel⟩, by decide +kernel⟩,
   ⟨ses, 0x06000003, hlS, ⟨by decide +kernel, _, rfl, by decide +kernel, by decide +kernel⟩, by decide +kernel⟩,
   ⟨ses, 0x02000020, hlS, ⟨by decide +kernel, _, rfl, by decide +kernel, by decide +kernel⟩, by decide +kernel⟩,
   ⟨ses, 0x04000001, hlS, ⟨by decide +kernel, _, rfl, by decide +kernel, by decide +kernel⟩, by decide +kernel⟩,
   ⟨true, st [(pgHLT, HLT.TRES_pending, 1)] { hlS with hlt := { hlS.hlt with testKind := 1, testUnit := 3 } }, by decide +kernel⟩,
   ⟨false, on [(pgENC 3, 7)] (st [(pgHLT, HLT.TRES_pending, 1)] { hlS with hlt := { hlS.hlt with testKind := 0, testUnit := 3 } }), by decide +kernel⟩,
   ⟨true, hlS, by decide +kernel⟩⟩

theorem witness_PowerSequencesAndVoltage :
    (∃ (fast : Bool) (s : State), (isF pgPWR PWR.ST_vin_good s = true) ∧ (s.pwr.inReset = false)) ∧
    (∃ (fast : Bool) (s : State), (isF pgPWR PWR.ST_vin_good s = true) ∧ (s.pwr.inReset = false)) ∧
    (∃ (s : State), (isF pgPWR PWR.ST_vin_good s = false) ∧ (s.pwr.inReset = false) ∧ (act pgPWR s ≠ stFAULT)) ∧
    (∃ (s : State), (isF pgPWR PWR.ST_vin_good s = false) ∧ (s.pwr.inReset = false) ∧ (act pgPWR s ≠ stFAULT)) ∧
    (∃ (s : State), (s.pwr.inReset = false)) ∧
    (∃ (s : State), (s.pwr.inReset = false)) ∧
    (∃ (good : Byte) (s : State), (s.pwr.mainRun = true)) ∧
    (∃ (core : BitVec 16) (fab : BitVec 16) (s : State), (s.pwr.mainRun = true)) ∧
    (∃ (r : Req) (d : BitVec 2) (s : State), (State.lets r 3 pgPWR 0x100 s) ∧ (2 ≤ d.toNat) ∧ (essenceRuns s = true)) ∧
    (∃ (r : Req) (d : BitVec 2) (s : State), (State.lets r 3 pgPWR 0x100 s) ∧ (d.toNat < 3) ∧ ((d.toNat < 2 ∨ essenceRuns s = false)) ∧ (s.pwr.mainRun = true) ∧ (dstate s ≠ d.toNat)) ∧
    (∃ (r : Req) (d : BitVec 2) (s : State), (State.lets r 3 pgPWR 0x100 s) ∧ (d.toNat < 3) ∧ ((d.toNat < 2 ∨ essenceRuns s = false)) ∧ (s.pwr.mainRun = true) ∧ (dstate s ≠ d.toNat)) ∧
    (∃ (r : Req) (d : BitVec 2) (s : State), (State.lets r 3 pgPWR 0x100 s) ∧ (d.toNat < 3) ∧ ((d.toNat < 2 ∨ essenceRuns s = false)) ∧ (s.pwr.mainRun = true) ∧ (dstate s ≠ d.toNat)) ∧
    (∃ (r : Req) (d : BitVec 2) (s : State), (State.lets r 3 pgPWR 0x100 s) ∧ (d.toNat = 3) ∧ (essenceRuns s = false) ∧ (s.pwr.mainRun = true)) ∧
    (∃ (us : BitVec 16) (s : State), (isF pgPWR PWR.DSTAT_busy s = true) ∧ ((s.pwr.mainRun = false ∨ getF pgPWR PWR.DCMD_target s = 2 ∨ s.pwr.moveFrom = 0))) ∧
    (∃ (us : BitVec 16) (s : State), (isF pgPWR PWR.DSTAT_busy s = true) ∧ ((s.pwr.mainRun = false ∨ getF pgPWR PWR.DCMD_target s = 2 ∨ s.pwr.moveFrom = 0))) ∧
    (∃ (c : Fin 6) (u : Fin 128) (s : State), (s.pwr.mainRun = true) ∧ (c.val < 3) ∧ (engines.contains (c.val, u.val) = true) ∧ (dstate s ≠ 2) ∧ (unitState c.val u.val s = 1) ∧ (s.pwr.waking.contains (unitKey c.val u.val) = false)) ∧
    (∃ (c : Fin 6) (u : Fin 128) (s : State), (s.pwr.mainRun = true) ∧ (c.val = 4) ∧ (u.val < 33) ∧ (dstate s ≠ 2) ∧ (act (pgLNE u.val) s = stLOW)) ∧
    (∃ (c : Fin 6) (u : Fin 128) (s : State), (s.pwr.mainRun = true) ∧ (c.val = 3) ∧ (u.val < 64) ∧ ((pcOf (u.val / 32) (u.val % 32) s).mode = 2) ∧ (dstate s ≠ 2)) ∧
    (∃ (c : Fin 6) (u : Fin 128) (s : State), (s.pwr.mainRun = true) ∧ (c.val = 5)) ∧
    (∃ (c : Fin 6) (u : Fin 128) (s : State), (engines.contains (c.val, u.val) = true) ∧ (s.pwr.waking.contains (unitKey c.val u.val) = true) ∧ (pendingGen (enginePage c.val u.val) s = false)) ∧
    (∃ (a : BitVec 16) (b : BitVec 16) (c : BitVec 16) (d : BitVec 16) (s : State), (act pgPWR s ≠ stFAULT ∨ getF pgPWR HDR.ACT_reason s ≠ 0x0A)) ∧
    (∃ (a : BitVec 16) (b : BitVec 16) (c : BitVec 16) (d : BitVec 16) (s : State), (act pgPWR s = stFAULT) ∧ (getF pgPWR HDR.ACT_reason s = 0x0A)) ∧
    (∃ (b : BitVec 16) (c : BitVec 16) (d : BitVec 16) (s : State), (act pgPWR s ≠ stFAULT)) ∧
    (∃ (b : BitVec 16) (c : BitVec 16) (d : BitVec 16) (s : State), (act pgPWR s = stFAULT)) :=
  ⟨⟨true, pwS, by decide +kernel⟩,
   ⟨false, pwS, by decide +kernel⟩,
   ⟨st [(pgPWR, PWR.ST_vin_good, 0)] { pwS with pwr := { PwrS.reset with vinLost := true, hadVin := true } }, by decide +kernel⟩,
   ⟨R0, by decide +kernel⟩,
   ⟨pwS, by decide +kernel⟩,
   ⟨R0, by decide +kernel⟩,
   ⟨3, pwS, by decide +kernel⟩,
   ⟨700, 900, pwS, by decide +kernel⟩,
   ⟨ses, 2, on [(pgECH 0, 4)] pwS, ⟨by decide +kernel, _, rfl, by decide +kernel, by decide +kernel⟩, by decide +kernel⟩,
   ⟨ses, 2, pwS, ⟨by decide +kernel, _, rfl, by decide +kernel, by decide +kernel⟩, by decide +kernel⟩,
   ⟨ses, 1, pwS, ⟨by decide +kernel, _, rfl, by decide +kernel, by decide +kernel⟩, by decide +kernel⟩,
   ⟨ses, 0, st [(pgPWR, PWR.DSTAT_state, 2)] pwS, ⟨by decide +kernel, _, rfl, by decide +kernel, by decide +kernel⟩, by decide +kernel⟩,
   ⟨ses, 3, pwS, ⟨by decide +kernel, _, rfl, by decide +kernel, by decide +kernel⟩, by decide +kernel⟩,
   ⟨50, st [(pgPWR, PWR.DSTAT_busy, 1), (pgPWR, PWR.DCMD_target, 2)] pwS, by decide +kernel⟩,
   ⟨50, st [(pgPWR, PWR.DSTAT_busy, 1), (pgPWR, PWR.DCMD_target, 1)] { pwS with pwr := { pwS.pwr with moveFrom := 0 } }, by decide +kernel⟩,
   ⟨0, 16, { (st [(pgPWR, PWR.DSTAT_state, 1)] pwS) with pwr := { pwS.pwr with units := [(16, 1)] } }, by decide +kernel⟩,
   ⟨4, 32, on [(pgLNE 32, 8)] pwS, by decide +kernel⟩,
   ⟨3, 33, modHbm 1 (fun x => { x with pcs := SMap.put 1 { pcOf 1 1 pwS with mode := 2 } x.pcs }) pwS, by decide +kernel⟩,
   ⟨5, 40, pwS, by decide +kernel⟩,
   ⟨2, 3, { pwS with pwr := { pwS.pwr with units := [(259, 1)], waking := [259] } }, by decide +kernel⟩,
   ⟨1, 2, 3, 65535, pwS, by decide +kernel⟩,
   ⟨12000, 500, 3300, 5, st [(pgPWR, HDR.ACT_reason, 0x0A)] (on [(pgPWR, stFAULT)] pwS), by decide +kernel⟩,
   ⟨9, 3300, 5, pwS, by decide +kernel⟩,
   ⟨9, 3300, 5, st [(pgPWR, HDR.ACT_reason, 0x0A)] (on [(pgPWR, stFAULT)] pwS), by decide +kernel⟩⟩

theorem witness_ResetsAndStateErrors :
    (∃ (bpos : Fin 8) (bootsel : Fin 4) (uc : Bool) (s : State), ((s.pwr.inReset = false ∨ getF pgDEV DEV.RESET_CAUSE_cause s ≠ 2))) ∧
    (∃ (bpos : Fin 8) (bootsel : Fin 4) (uc : Bool) (s : State), ((s.pwr.inReset = false ∨ getF pgDEV DEV.RESET_CAUSE_cause s ≠ 2))) ∧
    (∃ (ns : Nat) (taken : Bool) (s : State), (isF pgDEV DEV.ST_vio_ok s = true) ∧ ((10000 ≤ ns ∨ (1000 ≤ ns ∧ taken = true)))) ∧
    (∃ (ns : Nat) (taken : Bool) (s : State), (isF pgDEV DEV.ST_vio_ok s = true) ∧ ((10000 ≤ ns ∨ (1000 ≤ ns ∧ taken = true)))) ∧
    (∃ (ns : Nat) (taken : Bool) (s : State), (ns < 1000 ∨ (ns < 10000 ∧ taken = false) ∨ isF pgDEV DEV.ST_vio_ok s = false)) ∧
    (∃ (bpos : Fin 8) (bootsel : Fin 4) (s : State), (s.pwr.inReset = true) ∧ (getF pgDEV DEV.RESET_CAUSE_cause s ≠ 2)) ∧
    (∃ (bpos : Fin 8) (bootsel : Fin 4) (s : State), (s.pwr.inReset = false)) ∧
    (∃ (r : Req) (s : State), (State.lets r 3 pgDEV 0x008 s)) ∧
    (∃ (r : Req) (s : State), (State.lets r 3 pgDEV 0x008 s)) ∧
    (∃ (r : Req) (s : State) (f : BootFinds), (State.lets r 3 pgDEV 0x008 s) ∧ (s.pwr.mainRun = false ∨ s.fwl.image = none)) ∧
    (∃ (r : Req) (s : State) (f : BootFinds), (State.lets r 3 pgDEV 0x008 s) ∧ (s.pwr.mainRun = false ∨ s.fwl.image = none)) ∧
    (∃ (f : BootFinds) (s : State), (getF pgDEV DEV.WDOG_timeout_ms s ≠ 0) ∧ (s.pwr.mainRun = true) ∧ (s.fwl.stage = 6) ∧ (s.fwl.image = none)) ∧
    (∃ (f : BootFinds) (s : State), (getF pgDEV DEV.WDOG_timeout_ms s = 0 ∨ s.fwl.stage ≠ 6)) ∧
    (∃ (s : State), (s.pwr.inReset = false)) ∧
    (∃ (r : Req) (p : BitVec 20) (s : State), (State.lets r 3 p.toNat 0x008 s) ∧ (p.toNat = pgDEV ∨ p.toNat = pgPWR)) ∧
    (∃ (r : Req) (p : BitVec 20) (s : State), (State.lets r 3 p.toNat 0x008 s) ∧ (p.toNat = pgDEV ∨ p.toNat = pgPWR)) ∧
    (∃ (r : Req) (p : BitVec 20) (s : State), (State.lets r 3 p.toNat 0x008 s) ∧ (p.toNat ≠ pgDEV) ∧ (p.toNat ≠ pgPWR) ∧ (act p.toNat s = stRUNNING)) ∧
    (∃ (r : Req) (p : BitVec 20) (s : State), (State.lets r 3 p.toNat 0x008 s) ∧ (p.toNat ≠ pgDEV) ∧ (p.toNat ≠ pgPWR) ∧ (act p.toNat s ≠ stRUNNING)) ∧
    (∃ (r : Req) (p : BitVec 20) (s : State), (State.lets r 3 p.toNat 0x008 s) ∧ (p.toNat ≠ pgDEV) ∧ (p.toNat ≠ pgPWR) ∧ (act p.toNat s ≠ stRUNNING)) ∧
    (∃ (r : Req) (p : BitVec 20) (s : State), (State.lets r 3 p.toNat 0x008 s) ∧ (p.toNat ≠ pgDEV) ∧ (p.toNat ≠ pgPWR) ∧ (act p.toNat s ≠ stRUNNING)) ∧
    (∃ (s : State), (isF pgDEV DEV.ST_vio_ok s = true)) ∧
    (∃ (p : BitVec 20) (s : State), (s.pwr.mainRun = true) ∧ (((∃ k, k < 8 ∧ p.toNat = pgMUX k) ∨ (∃ k, k < 16 ∧ p.toNat = pgSND k) ∨ p.toNat = pgCIR))) ∧
    (∃ (p : BitVec 20) (s : State), (s.pwr.mainRun = true) ∧ (((∃ k, k < 8 ∧ p.toNat = pgMUX k) ∨ (∃ k, k < 16 ∧ p.toNat = pgSND k) ∨ p.toNat = pgCIR))) ∧
    (∃ (p : BitVec 20) (s : State), (s.pwr.mainRun = true) ∧ (((∃ k, k < 8 ∧ p.toNat = pgMUX k) ∨ (∃ k, k < 16 ∧ p.toNat = pgSND k) ∨ p.toNat = pgCIR))) ∧
    (∃ (p : BitVec 20) (s : State), (s.pwr.mainRun = false) ∧ (standbyPage p.toNat = false)) :=
  ⟨⟨7, 3, true, pwS, by decide +kernel⟩,
   ⟨7, 3, false, R0, by decide +kernel⟩,
   ⟨10000, false, pwS, by decide +kernel⟩,
   ⟨1000, true, pwS, by decide +kernel⟩,
   ⟨999, true, pwS, by decide +kernel⟩,
   ⟨7, 3, { R0 with pwr := { R0.pwr with inReset := true } }, by decide +kernel⟩,
   ⟨7, 3, R0, by decide +kernel⟩,
   ⟨ses, pwS, ⟨by decide +kernel, _, rfl, by decide +kernel, by decide +kernel⟩⟩,
   ⟨ses, pwS, ⟨by decide +kernel, _, rfl, by decide +kernel, by decide +kernel⟩⟩,
   ⟨ses, { pwS with fwl := { pwS.fwl with image := none } }, bf, ⟨by decide +kernel, _, rfl, by decide +kernel, by decide +kernel⟩, by decide +kernel⟩,
   ⟨fw, R0, bf, fwLets (by decide +kernel), by decide +kernel⟩,
   ⟨bf, st [(pgDEV, DEV.WDOG_timeout_ms, 5)] { pwS with fwl := { pwS.fwl with image := none, stage := 6 } }, by decide +kernel⟩,
   ⟨bf, pwS, by decide +kernel⟩,
   ⟨pwS, by decide +kernel⟩,
   ⟨ses, 0x1A0, pwS, ⟨by decide +kernel, _, rfl, by decide +kernel, by decide +kernel⟩, by decide +kernel⟩,
   ⟨ses, 0, pwS, ⟨by decide +kernel, _, rfl, by decide +kernel, by decide +kernel⟩, by decide +kernel⟩,
   ⟨ses, 0x181, pwS, ⟨by decide +kernel, _, rfl, by decide +kernel, by decide +kernel⟩, by decide +kernel⟩,
   ⟨ses, 0x121, pwS, ⟨by decide +kernel, _, rfl, by decide +kernel, by decide +kernel⟩, by decide +kernel⟩,
   ⟨ses, 0x60, on [(0x60, 6)] (sh [(0x60, HDR.CMD_state, 4)] pwS), ⟨by decide +kernel, _, rfl, by decide +kernel, by decide +kernel⟩, by decide +kernel⟩,
   ⟨ses, 0x188, on [(0x188, 0xE)] pwS, ⟨by decide +kernel, _, rfl, by decide +kernel, by decide +kernel⟩, by decide +kernel⟩,
   ⟨pwS, by decide +kernel⟩,
   ⟨0x121, pwS, by decide +kernel⟩,
   ⟨0x181, pwS, by decide +kernel⟩,
   ⟨0x177, pwS, by decide +kernel⟩,
   ⟨0x60, R0, by decide +kernel⟩⟩

theorem witness_TicksNeverRunBack :
    (∃ (s : State) (t : State), (step s = .next t)) :=
  ⟨S0, idleTick S0, rfl⟩

theorem witness_SessionLimitsKept :
    (∃ (s : State) (t : State), (State.sessionLimits s) ∧ (step s = .next t)) :=
  ⟨S0, idleTick S0, (by unfold State.sessionLimits; decide +kernel), rfl⟩

theorem witness_RegisterMapsStaySorted :
    (∃ (s : State) (t : State), (State.mapsSorted s = true) ∧ (step s = .next t)) :=
  ⟨S0, idleTick S0, by decide +kernel, rfl⟩

theorem witness_SlipVersionRefusedAtEntry :
    (∃ (r : Req) (q : Fin 16) (b : List Byte) (s : State), (deskRuns s = true) ∧ (isF pgFWL FWL.ST_recovery s = false) ∧ (fieldAt 0 1 b ≠ 1) ∧ ((∀ i : Fin 8, r.origin = .session i → ∃ x, sessionAt i.val s = some x ∧ x.provisioning = false ∧ x.outstanding + x.unsent < 64)) ∧ ((∃ i : Fin 8, r.origin = .session i))) ∧
    (∃ (ch : Fin 16) (core : Fin 48) (b : List Byte) (s : State), (deskRuns s = true) ∧ (fieldAt 0 1 b ≠ 1) ∧ (SMap.find ch.val s.cir.hwHeld = none)) ∧
    (∃ (i : Fin 8) (tag : BitVec 16) (q : Fin 16) (b : List Byte) (x : Session) (m : Nat) (s : State), (deskRuns s = true) ∧ (isF pgFWL FWL.ST_recovery s = false) ∧ (sessionAt i.val s = some x) ∧ (x.provisioning = false) ∧ (x.outstanding + x.unsent < 64) ∧ (fieldAt 0 1 b = 1) ∧ (queueOpen q.val s = true) ∧ ((∀ e ∈ s.cir.posts, e.2.1 ≠ q.val)) ∧ ((hostQ q.val s).classMax = m)) ∧
    (∃ (i : Fin 8) (tag : BitVec 16) (q : Fin 16) (b : List Byte) (x : Session) (m : Nat) (s : State), (deskRuns s = true) ∧ (isF pgFWL FWL.ST_recovery s = false) ∧ (sessionAt i.val s = some x) ∧ (x.provisioning = false) ∧ (x.outstanding + x.unsent < 64) ∧ (fieldAt 0 1 b = 1) ∧ (queueOpen q.val s = true) ∧ ((∀ e ∈ s.cir.posts, e.2.1 ≠ q.val)) ∧ ((hostQ q.val s).classMax = m)) :=
  ⟨⟨ses, 3, slp 0 1, ciS, by decide +kernel⟩,
   ⟨3, 4, slp 2 1, ciS, by decide +kernel⟩,
   ⟨0, 9, 3, slp 1 7, sess, 3, ciS, by decide +kernel⟩,
   ⟨0, 9, 3, slp 1 3, sess, 3, ciS, by decide +kernel⟩⟩

theorem witness_StreamFoldSequence :
    (∃ (tag : BitVec 16) (k : Fin 8) (v : Word) (s : State), (State.lets ⟨.firmware, tag⟩ 3 (pgCHK k.val) 0x138 s) ∧ (isF (pgCHK k.val) CHK.ST_busy s = false) ∧ (isF (pgCHK k.val) CHK.STREAM_en s = false) ∧ (288 ≤ bitsOf 16 10 v.toNat) ∧ (288 ≤ bitsOf 0 10 v.toNat) ∧ (v.toNat / 2 ^ 31 = 1)) ∧
    (∃ (k : Fin 8) (x : StkPkt) (s1 : State) (s : State), (isF (pgCHK k.val) CHK.STREAM_en s = true) ∧ (chkWorks k.val s = true) ∧ (popPkt (getF (pgCHK k.val) CHK.STREAM_src_queue s) s = some (x, s1)) ∧ ((2 ≤ getF (pgCHK k.val) CHK.CFG_mode s → chkBytes k.val s < x.data.length))) ∧
    (∃ (k : Fin 8) (x : StkPkt) (s1 : State) (s : State), (isF (pgCHK k.val) CHK.STREAM_en s = true) ∧ (chkWorks k.val s = true) ∧ (popPkt (getF (pgCHK k.val) CHK.STREAM_src_queue s) s = some (x, s1)) ∧ ((2 ≤ getF (pgCHK k.val) CHK.CFG_mode s → chkBytes k.val s < x.data.length))) ∧
    (∃ (k : Fin 8) (x : StkPkt) (s1 : State) (s : State), (isF (pgCHK k.val) CHK.STREAM_en s = true) ∧ (chkWorks k.val s = true) ∧ (popPkt (getF (pgCHK k.val) CHK.STREAM_src_queue s) s = some (x, s1)) ∧ ((2 ≤ getF (pgCHK k.val) CHK.CFG_mode s → chkBytes k.val s < x.data.length))) :=
  ⟨⟨7, 3, 0xC1200121, ckS, fwLets (by decide +kernel), by decide +kernel⟩,
   ⟨3, ⟨1, none, [1, 2, 300]⟩, ((popPkt 300 ckT).getD (⟨1, none, []⟩, ckT)).2, ckT, by decide +kernel, by decide +kernel, rfl, by decide +kernel⟩,
   ⟨3, ⟨1, none, [1, 2, 3, 4, 300]⟩, ((popPkt 300 ckV).getD (⟨1, none, []⟩, ckV)).2, ckV, by decide +kernel, by decide +kernel, rfl, by decide +kernel⟩,
   ⟨3, ⟨1, none, [1, 2, 300]⟩, ((popPkt 300 (st [(pgCHK 3, CHK.STREAM_fold_seq, 1), (pgCHK 3, CHK.FOLD_value, 2^32-1), (pgCHK 3, CHK.CFG_fold, 1)] (modChk 3 (fun x => { x with packets := 1 }) ckT))).getD (⟨1, none, []⟩, ckT)).2, st [(pgCHK 3, CHK.STREAM_fold_seq, 1), (pgCHK 3, CHK.FOLD_value, 2^32-1), (pgCHK 3, CHK.CFG_fold, 1)] (modChk 3 (fun x => { x with packets := 1 }) ckT), by decide +kernel, by decide +kernel, rfl, by decide +kernel⟩⟩

end Sys2Proof.Tests
end

section
/-! # What every command keeps (R9, R43, R60, R68, R69)

Every command leads from a state to one with the same waiting commands, no lower tick count, the register maps in their canonical
order and the sessions within their limits: `Keeps` of Laws/Keeps.lean, carried through every operation of the model. -/

namespace Sys2Proof.Machine

/-! ## How `Keeps` is shown of an operation

`Keeps s₀ s` says that what came before led from `s₀` to `s` and kept what is to be kept. Each operation `f` of the model has one
lemma `f_keeps` that carries `Keeps s₀ s` on to `f s`; its proof is the body of `f` with each operation replaced by its lemma. The
lemmas of this part are the steps that such a body takes beside calls: an update of a block's own state, a branch, a fold. -/

section
variable {s₀ s t : State}

/-- an update that leaves the queue, the tick count, the register maps and the sessions alone. -/
theorem Keeps.frame (h : Keeps s₀ s) (e : (t.pending, t.clk, t.regs, t.shadow, t.committed, t.hap.sessions) =
    (s.pending, s.clk, s.regs, s.shadow, s.committed, s.hap.sessions)) : Keeps s₀ t := by
  simp only [Prod.mk.injEq] at e
  obtain ⟨hpending, hclk, hregs, hshadow, hcommitted, hsessions⟩ := e
  exact h.of_eq hpending hclk hregs hshadow hcommitted hsessions

theorem Keeps.snd {α : Type} {x : α} (h : Keeps s₀ s) : Keeps s₀ (x, s).2 := h

theorem Keeps.ite_snd {α : Type} {x y : α × State} {c : Prop} [Decidable c] (h : Keeps s₀ x.2) (k : Keeps s₀ y.2) :
    Keeps s₀ (if c then x else y).2 := by
  split <;> assumption

theorem Keeps.map_snd {α β : Type} {g : α → β} {f : State → State} {x : α × State} (h : Keeps s₀ x.2)
    (hf : ∀ u, Keeps s₀ u → Keeps s₀ (f u)) : Keeps s₀ (x.map g f).2 :=
  hf _ h

theorem Keeps.foldl_snd {α β : Type} {b : β} (g : β × State → α → β × State) (hg : ∀ x e, Keeps s₀ x.2 → Keeps s₀ (g x e).2)
    (h : Keeps s₀ s) (l : List α) : Keeps s₀ (l.foldl g (b, s)).2 := by
  suffices hl : ∀ x : β × State, Keeps s₀ x.2 → Keeps s₀ (l.foldl g x).2 from hl _ h
  induction l with
  | nil => exact fun _ hx => hx
  | cons e l ih => exact fun x hx => ih _ (hg _ _ hx)

theorem Keeps.getD {o : Option State} (ho : ∀ t, o = some t → Keeps s₀ t) (h : Keeps s₀ s) : Keeps s₀ (o.getD s) := by
  cases o with
  | none => exact h
  | some t => exact ho t rfl

theorem SMap.sorted_foldl_put {α : Type} (l m : SMap α) (h : SMap.sorted m = true) :
    SMap.sorted (l.foldl (fun m e => SMap.put e.1 e.2 m) m) = true := by
  induction l generalizing m with
  | nil => exact h
  | cons e l ih => exact ih _ (SMap.sorted_put _ _ _ h)

theorem standbyStates_sorted : SMap.sorted standbyStates = true := by decide

/-! ## Sessions (R43, R60) -/

/-- the contents of an open session may change if its subscriptions stay within the limit. -/
theorem putSession_keeps_of_le {i : Nat} {x y : Session} (h : Keeps s₀ s) (hi : sessionAt i s = some y)
    (hx : y.subs.length ≤ 32 → x.subs.length ≤ 32) : Keeps s₀ (putSession i x s) := by
  refine h.trans ⟨rfl, Nat.le_refl _, id, fun hs => ⟨SMap.sorted_put _ _ _ hs.1, fun e he => ?_⟩⟩
  obtain ⟨hlt, hle⟩ := hs.2 _ (SMap.mem_of_find _ _ _ hi)
  rcases SMap.mem_put _ _ _ _ he with rfl | he
  · exact ⟨hlt, hx hle⟩
  · exact hs.2 _ he

/-- a new session takes one of the eight indices and subscribes to nothing. -/
theorem putSession_keeps_of_new {i : Nat} {x : Session} (h : Keeps s₀ s) (hi : i < 8) (hx : x.subs = []) :
    Keeps s₀ (putSession i x s) := by
  refine h.trans ⟨rfl, Nat.le_refl _, id, fun hs => ⟨SMap.sorted_put _ _ _ hs.1, fun e he => ?_⟩⟩
  rcases SMap.mem_put _ _ _ _ he with rfl | he
  · exact ⟨hi, by simp [hx]⟩
  · exact hs.2 _ he

theorem pickFree_lt {n : Nat} (kind : Nat) (used : List Nat) (hn : 0 < n) : pickFree kind n used < n := by
  unfold pickFree
  extract_lets c
  split
  · cases hf : (List.range n).find? (fun k => !used.contains k) with
    | none => exact hn
    | some k => exact List.mem_range.1 (List.mem_of_find?_eq_some hf)
  · exact Nat.mod_lt _ hn

theorem subscribeList_length_le (e : Sub) (action : Nat) (l : List Sub) (h : l.length ≤ 32) :
    (subscribeList e action l).2.length ≤ 32 := by
  unfold subscribeList
  extract_lets same
  split
  · split
    · simpa using h
    · split
      · exact h
      · simp only [List.length_append, List.length_singleton]
        omega
  · split
    · exact (List.length_filter_le _ _).trans (by simpa using h)
    · exact h

/-! ## Writes of several actions (R9) -/

theorem onBit_keeps {k v : Nat} {op : State → Status × State} {x : Status × State} (h : Keeps s₀ x.2)
    (ho : ∀ u, Keeps s₀ u → Keeps s₀ (op u).2) : Keeps s₀ (onBit k v op x).2 := by
  unfold onBit
  split
  · split
    · exact ho _ h
    · exact ho _ h
  · exact h

/-! ## The shared operations -/

theorem drawFree_keeps (h : Keeps s₀ s) : Keeps s₀ (drawFree s).2 :=
  h.frame (by rfl)

theorem followWork_keeps {p : Nat} {busy gated : Bool} (h : Keeps s₀ s) : Keeps s₀ (followWork p busy gated s) :=
  .ite (.ite (setAct_keeps h _ _ _) h) (.ite (setAct_keeps h _ _ _) h)

/-! ## Frame fates -/

theorem ethReceived_keeps {i : Nat} (h : Keeps s₀ s) : Keeps s₀ (ethReceived i s) :=
  addF_keeps h _ _ _

theorem ethDelivered_keeps {i : Nat} (h : Keeps s₀ s) : Keeps s₀ (ethDelivered i s) :=
  addF_keeps h _ _ _

theorem ethDropped_keeps {i reason : Nat} (h : Keeps s₀ s) : Keeps s₀ (ethDropped i reason s) :=
  .ite (addF_keeps (addF_keeps h _ _ _) _ _ _) (addF_keeps h _ _ _)

theorem ethReject_keeps {i reason : Nat} (h : Keeps s₀ s) : Keeps s₀ (ethReject i reason s) :=
  ethDropped_keeps (ethReceived_keeps h)

theorem ethSent_keeps {i n bytes : Nat} (h : Keeps s₀ s) : Keeps s₀ (ethSent i n bytes s) :=
  addF_keeps (addF_keeps h _ _ _) _ _ _

/-! ## Latched words -/

theorem latchWord_keeps {r : Req} {addr v : Nat} (h : Keeps s₀ s) : Keeps s₀ (latchWord r addr v s) := by
  unfold latchWord
  split
  · split
    · exact h
    · rename_i hx
      exact putSession_keeps h _ _ _ hx (.inl rfl)
  · exact h

theorem takeLatch_keeps {r : Req} {addr v : Nat} (h : Keeps s₀ s) (e : takeLatch r addr s = some (v, t)) : Keeps s₀ t := by
  unfold takeLatch at e
  split at e
  · split at e
    · cases e
    · rename_i hx
      split at e
      · cases e
      · cases e
        exact putSession_keeps h _ _ _ hx (.inl rfl)
  · cases e

/-! ## The shared cell pool (chapter 13) -/

theorem setQueue_keeps {q : Nat} {x : QueueS} (h : Keeps s₀ s) : Keeps s₀ (setQueue q x s) :=
  h.frame (by rfl)

theorem modQueue_keeps {q : Nat} {f : QueueS → QueueS} (h : Keeps s₀ s) : Keeps s₀ (modQueue q f s) :=
  setQueue_keeps h

theorem poolAlarm_keeps {before : Nat} (h : Keeps s₀ s) : Keeps s₀ (poolAlarm before s) :=
  raiseIf_keeps h _ _ _

theorem commitPkt_keeps {q : Nat} {k : StkPkt} (h : Keeps s₀ s) : Keeps s₀ (commitPkt q k s) :=
  poolAlarm_keeps (setF_keeps (addF_keeps (modQueue_keeps (addF_keeps (setF_keeps h _ _ _) _ _ _)) _ _ _) _ _ _)

theorem writePkt_keeps {port q : Nat} {k : StkPkt} (h : Keeps s₀ s) : Keeps s₀ (writePkt port q k s) :=
  .ite (commitPkt_keeps h) (h.frame (by rfl))

theorem countStall_keeps {side t : Nat} (h : Keeps s₀ s) : Keeps s₀ (countStall side t s) :=
  addF_keeps (h.frame (by rfl)) _ _ _

theorem endStalls_keeps {side q : Nat} (h : Keeps s₀ s) : Keeps s₀ (endStalls side q s) := by
  unfold endStalls
  extract_lets +onlyGivenNames l rest
  clear_value l
  split
  · exact h
  · exact .ite (countStall_keeps (h.frame (by rfl))) (h.frame (by rfl))

theorem rewind_keeps (h : Keeps s₀ s) : Keeps s₀ (rewind s) :=
  addF_keeps h _ _ _

theorem popPkt_keeps {q : Nat} {k : StkPkt} (h : Keeps s₀ s) (e : popPkt q s = some (k, t)) : Keeps s₀ t := by
  simp only [popPkt] at e
  split at e
  · cases e
  · split at e
    · cases e
    · cases e
      exact addF_keeps (addF_keeps (subF_keeps (setQueue_keeps h) _ _ _) _ _ _) _ _ _

theorem takeIn_keeps {i ctl : Nat} (h : Keeps s₀ s) : Keeps s₀ (takeIn i ctl s) := by
  unfold takeIn
  split
  · exact .ite (ethReceived_keeps h) (subF_keeps h _ _ _)
  · split
    · rename_i e
      exact subF_keeps (popPkt_keeps h e) _ _ _
    · exact ethReceived_keeps h

theorem dropIn_keeps {i ctl reason : Nat} (h : Keeps s₀ s) : Keeps s₀ (dropIn i ctl reason s) :=
  ethDropped_keeps (takeIn_keeps h)

theorem acceptIn_keeps {i ctl : Nat} (h : Keeps s₀ s) : Keeps s₀ (acceptIn i ctl s) :=
  ethDelivered_keeps (takeIn_keeps h)

theorem modEth_keeps {i : Nat} {f : EthS → EthS} (h : Keeps s₀ s) : Keeps s₀ (modEth i f s) :=
  h.frame (by rfl)

/-! ## Time (chapter 09) -/

theorem setTim_keeps {t : TimS} (h : Keeps s₀ s) : Keeps s₀ (setTim t s) :=
  h.frame (by rfl)

theorem modTimPort_keeps {i : Nat} {f : TimPort → TimPort} (h : Keeps s₀ s) : Keeps s₀ (modTimPort i f s) :=
  setTim_keeps h

theorem governBy_keeps {i : Nat} (h : Keeps s₀ s) : Keeps s₀ (governBy i s) :=
  .ite h (raise_keeps (setF_keeps (setTim_keeps h) _ _ _) _ _)

theorem noteA_keeps (h : Keeps s₀ s) : Keeps s₀ (noteA s) :=
  .ite (setTim_keeps h) (.ite (setTim_keeps h) h)

theorem choosePort_keeps (h : Keeps s₀ s) : Keeps s₀ (choosePort s) :=
  .ite (setF_keeps (governBy_keeps h) _ _ _) (.ite (governBy_keeps (setF_keeps (governBy_keeps h) _ _ _))
    (.ite (setF_keeps (governBy_keeps h) _ _ _) (.ite (governBy_keeps h) (setF_keeps (governBy_keeps h) _ _ _))))

theorem reselect_keeps (h : Keeps s₀ s) : Keeps s₀ (reselect s) :=
  noteA_keeps (choosePort_keeps h)

theorem setFreq_keeps {f : Int} (h : Keeps s₀ s) : Keeps s₀ (setFreq f s) :=
  setTim_keeps h

theorem setPulse_keeps {n v : Nat} (h : Keeps s₀ s) : Keeps s₀ (setPulse n v s) :=
  emit_keeps (setTim_keeps h) _ _ _

theorem settlePulse_keeps {old : State} {n : Nat} (h : Keeps s₀ s) : Keeps s₀ (settlePulse old n s) :=
  .ite (setPulse_keeps h) (.ite (setPulse_keeps h) h)

theorem settlePulses_keeps {old : State} (h : Keeps s₀ s) : Keeps s₀ (settlePulses old s) :=
  settlePulse_keeps (settlePulse_keeps h)

theorem holdFreq_keeps (h : Keeps s₀ s) : Keeps s₀ (holdFreq s) :=
  setTim_keeps (setFreq_keeps h)

theorem holdoverIf_keeps (h : Keeps s₀ s) : Keeps s₀ (holdoverIf s) :=
  .ite (settlePulses_keeps (raise_keeps (setF_keeps (holdFreq_keeps h) _ _ _) _ _)) h

theorem stepCounter_keeps {ns : Int} (h : Keeps s₀ s) : Keeps s₀ (stepCounter ns s) :=
  raise_keeps (setF_keeps (setF_keeps (setF_keeps (setTim_keeps h) _ _ _) _ _ _) _ _ _) _ _

theorem servo_keeps {offset : Int} {age : Nat} (h : Keeps s₀ s) : Keeps s₀ (servo offset age s) :=
  raiseIf_keeps (setTim_keeps (setFreq_keeps (setTim_keeps h))) _ _ _

theorem countLock_keeps {offset : Int} (h : Keeps s₀ s) : Keeps s₀ (countLock offset s) :=
  .ite (setTim_keeps h) (setTim_keeps h)

theorem alarmOffset_keeps {offset : Int} (h : Keeps s₀ s) : Keeps s₀ (alarmOffset offset s) :=
  raiseIf_keeps (setTim_keeps h) _ _ _

theorem crossCheck_keeps (h : Keeps s₀ s) : Keeps s₀ (crossCheck s) :=
  .ite (.ite (setTim_keeps h) (setTim_keeps h)) h

theorem withdrawGrant_keeps (h : Keeps s₀ s) : Keeps s₀ (withdrawGrant s) :=
  .ite (raise_keeps (setF_keeps h _ _ _) _ _) h

theorem expireGrant_keeps (h : Keeps s₀ s) : Keeps s₀ (expireGrant s) :=
  .ite h (withdrawGrant_keeps h)

theorem governSolution_keeps {offset : Int} {age : Nat} (h : Keeps s₀ s) : Keeps s₀ (governSolution offset age s) := by
  unfold governSolution
  extract_lets +onlyGivenNames s0
  have k2 : Keeps s₀ s0 := expireGrant_keeps (alarmOffset_keeps (setF_keeps h _ _ _))
  exact .ite (stepCounter_keeps (setF_keeps k2 _ _ _))
    (.ite (.ite (setTim_keeps k2) (setF_keeps (setF_keeps (stepCounter_keeps (setTim_keeps k2)) _ _ _) _ _ _))
      (.ite (setF_keeps (countLock_keeps (servo_keeps k2)) _ _ _) (countLock_keeps (servo_keeps k2))))

theorem pushTx_keeps {i ident : Nat} (h : Keeps s₀ s) : Keeps s₀ (pushTx i ident s).2 :=
  .ite_snd (setF_keeps (modTimPort_keeps h) _ _ _) (raise_keeps (addF_keeps h _ _ _) _ _)

theorem advanceToNs_keeps {t : Int} (h : Keeps s₀ s) : Keeps s₀ (advanceToNs t s) :=
  .ite (passTicks_keeps h _) (passTicks_keeps h _)

theorem stopPtp_keeps (h : Keeps s₀ s) : Keeps s₀ (stopPtp s) :=
  modTimPort_keeps (modTimPort_keeps (setTim_keeps h))

theorem timState_keeps (h : Keeps s₀ s) : Keeps s₀ (timState s) :=
  .ite h (.ite (setAct_keeps h _ _ _)
    (raiseIf_keeps (setAct_keeps (setF_keeps (stopPtp_keeps (.ite (holdFreq_keeps h) (setTim_keeps h))) _ _ _) _ _ _) _ _ _))

theorem timCommand_keeps (h : Keeps s₀ s) : Keeps s₀ (timCommand s) :=
  holdoverIf_keeps (reselect_keeps (timState_keeps h))

theorem syncOp_keeps {i dom : Nat} {offset : Int} {age : Nat} (h : Keeps s₀ s) : Keeps s₀ (syncOp i dom offset age s) := by
  unfold syncOp
  split
  · exact h
  · split
    · exact dropIn_keeps h
    · split
      · exact acceptIn_keeps h
      · extract_lets +onlyGivenNames s s1
        have k1 : Keeps s₀ s1 := addF_keeps (setF_keeps (acceptIn_keeps h) _ _ _) _ _ _
        exact .ite k1 (governSolution_keeps (crossCheck_keeps k1))

theorem lockedOp_keeps (h : Keeps s₀ s) : Keeps s₀ (lockedOp s) :=
  .ite (raise_keeps (setF_keeps h _ _ _) _ _) h

theorem drainTx_keeps {i : Nat} (h : Keeps s₀ s) : Keeps s₀ (drainTx i s) :=
  modTimPort_keeps h

theorem takeSample_keeps {i : Nat} {sample : Int} (h : Keeps s₀ s) : Keeps s₀ (takeSample i sample s) :=
  setF_keeps (modTimPort_keeps h) _ _ _

theorem showMaster_keeps {i : Nat} {gm : Announce} (h : Keeps s₀ s) : Keeps s₀ (showMaster i gm s) := by
  unfold showMaster
  extract_lets +onlyGivenNames s1
  have k1 : Keeps s₀ s1 := setF_keeps (setF_keeps (setF_keeps (setF_keeps h _ _ _) _ _ _) _ _ _) _ _ _
  exact .ite (setF_keeps (setF_keeps k1 _ _ _) _ _ _) k1

theorem ptpSent_keeps {i n : Nat} (h : Keeps s₀ s) : Keeps s₀ (ptpSent i n s) :=
  ethSent_keeps h

theorem stepGrantOp_keeps (h : Keeps s₀ s) : Keeps s₀ (stepGrantOp s).2 :=
  .ite_snd (setF_keeps (setTim_keeps h) _ _ _) h

theorem revertOp_keeps (h : Keeps s₀ s) : Keeps s₀ (revertOp s) :=
  .ite (governBy_keeps h) h

theorem fclkTickOp_keeps {f : Nat} (h : Keeps s₀ s) : Keeps s₀ (fclkTickOp f s) :=
  setF_keeps (advanceToNs_keeps h) _ _ _

theorem timerefLostOp_keeps (h : Keeps s₀ s) : Keeps s₀ (timerefLostOp s) :=
  .ite h (raise_keeps (setF_keeps (setPulse_keeps (setPulse_keeps (setF_keeps (setTim_keeps h) _ _ _))) _ _ _) _ _)

theorem timerefReturnOp_keeps {vinUp : Bool} (h : Keeps s₀ s) : Keeps s₀ (timerefReturnOp vinUp s) := by
  unfold timerefReturnOp
  split
  · exact h
  · extract_lets +onlyGivenNames s0
    have k1 : Keeps s₀ s0 := raise_keeps (setF_keeps h _ _ _) _ _
    exact .ite (raiseIf_keeps (setF_keeps (setTim_keeps k1) _ _ _) _ _ _)
      (setF_keeps (setF_keeps (setTim_keeps k1) _ _ _) _ _ _)

theorem wholeSecondOp_keeps (h : Keeps s₀ s) : Keeps s₀ (wholeSecondOp s) :=
  .ite h (.ite (settlePulses_keeps (takeWith_keeps (advanceToNs_keeps h) _ _ (fun _ hu => timCommand_keeps hu)))
    (advanceToNs_keeps h))

/-! ## Ingest (chapter 03) -/

theorem modIng_keeps {i : Nat} {f : IngS → IngS} (h : Keeps s₀ s) : Keeps s₀ (modIng i f s) :=
  h.frame (by rfl)

theorem flowDrop_keeps {p b reason : Nat} (h : Keeps s₀ s) : Keeps s₀ (flowDrop p b reason s) :=
  .ite (addF_keeps (addF_keeps h _ _ _) _ _ _) (addF_keeps h _ _ _)

theorem dropPicture_keeps {i key : Nat} (h : Keeps s₀ s) : Keeps s₀ (dropPicture i key s) :=
  raise_keeps (addF_keeps (modIng_keeps h) _ _ _) _ _

theorem storeSlate_keeps {i : Nat} (h : Keeps s₀ s) : Keeps s₀ (storeSlate i s) := by
  unfold storeSlate
  split
  · exact h
  · split
    · exact modIng_keeps h
    · exact raise_keeps (setF_keeps (modIng_keeps h) _ _ _) _ _

theorem settleSlate_keeps {i : Nat} (h : Keeps s₀ s) : Keeps s₀ (settleSlate i s) := by
  unfold settleSlate
  split
  · exact h
  · split
    · exact .ite (storeSlate_keeps h) h
    · exact h

theorem freeSlot_keeps {i key : Nat} (h : Keeps s₀ s) : Keeps s₀ (freeSlot i key s) :=
  modIng_keeps (.ite (storeSlate_keeps h) h)

theorem chooseSlot_keeps {i key stamp : Nat} {second : Bool} (h : Keeps s₀ s) : Keeps s₀ (chooseSlot i key stamp second s) := by
  unfold chooseSlot
  extract_lets +onlyGivenNames x add
  split
  · exact modIng_keeps h
  · split
    · exact .ite (modIng_keeps (dropPicture_keeps h)) (modIng_keeps (freeSlot_keeps h))
    · exact dropPicture_keeps h

theorem storeSrd_keeps {i : Nat} {pkt : MediaPkt} {stamp : Nat} {d : Srd} (h : Keeps s₀ s) :
    Keeps s₀ (storeSrd i pkt stamp d s) :=
  modIng_keeps (.ite (chooseSlot_keeps h) h)

theorem storeVideo_keeps {i : Nat} {pkt : MediaPkt} {stamp : Nat} (h : Keeps s₀ s) : Keeps s₀ (storeVideo i pkt stamp s) :=
  settleSlate_keeps (.foldl _ (fun _ _ hu => storeSrd_keeps hu) h _)

theorem storeAnc_keeps {i : Nat} {pkt : MediaPkt} (h : Keeps s₀ s) : Keeps s₀ (storeAnc i pkt s) :=
  .ite (modIng_keeps (addF_keeps h _ _ _)) (raiseIf_keeps (modIng_keeps (addF_keeps h _ _ _)) _ _ _)

theorem storeAudio_keeps {i : Nat} {pkt : MediaPkt} (h : Keeps s₀ s) : Keeps s₀ (storeAudio i pkt s) :=
  modIng_keeps h

theorem ingSeen_keeps {i : Nat} {k : FlowKind} {legB : Bool} (h : Keeps s₀ s) : Keeps s₀ (ingSeen i k legB s) :=
  setF_keeps (addF_keeps (addF_keeps (modIng_keeps h) _ _ _) _ _ _) _ _ _

theorem concealMissing_keeps {i : Nat} {k : FlowKind} {u : Undecided} (h : Keeps s₀ s) : Keeps s₀ (concealMissing i k u s) :=
  .ite (raise_keeps (addF_keeps (modIng_keeps h) _ _ _) _ _) h

theorem setIngMerge_keeps {i : Nat} {k : FlowKind} {m : Merge} (h : Keeps s₀ s) : Keeps s₀ (setIngMerge i k m s) :=
  modIng_keeps h

theorem ingExpire_keeps {i : Nat} {k : FlowKind} (h : Keeps s₀ s) : Keeps s₀ (ingExpire i k s) :=
  .ite h (.foldl _ (fun _ _ hu => concealMissing_keeps hu) (setIngMerge_keeps h) _)

theorem ingArrive_keeps {i : Nat} {k : FlowKind} {legB fc : Bool} {pkt : MediaPkt} {stamp bytes : Nat} (h : Keeps s₀ s) :
    Keeps s₀ (ingArrive i k legB fc pkt stamp bytes s).2 := by
  unfold ingArrive
  extract_lets +onlyGivenNames p b s1
  have k1 : Keeps s₀ s1 := ingExpire_keeps (subF_keeps h _ _ _)
  extract_lets +onlyGivenNames drop m v
  split
  · exact rewind_keeps (flowDrop_keeps (raise_keeps k1 _ _))
  · split
    · exact rewind_keeps (addF_keeps k1 _ _ _)
    · split
      · exact rewind_keeps (flowDrop_keeps k1)
      · split
        · exact rewind_keeps (flowDrop_keeps (setIngMerge_keeps k1))
        · split
          · exact rewind_keeps (flowDrop_keeps k1)
          · extract_lets +onlyGivenNames q
            split
            · exact addF_keeps (.foldl _ (fun _ _ hu => concealMissing_keeps hu)
                (setIngMerge_keeps (commitPkt_keeps k1)) _) _ _ _
            · exact .ite_snd h (rewind_keeps (flowDrop_keeps (modQueue_keeps k1)))

theorem ingStore_keeps {i : Nat} {k : FlowKind} {pkt : MediaPkt} {stamp : Nat} (h : Keeps s₀ s) :
    Keeps s₀ (ingStore i k pkt stamp s) := by
  unfold ingStore
  split
  · exact storeVideo_keeps h
  · exact storeAudio_keeps h
  · exact storeAnc_keeps h

theorem ingDeliver_keeps {i : Nat} {k : FlowKind} {pkt : MediaPkt} {stamp : Nat} (h : Keeps s₀ s) :
    Keeps s₀ (ingDeliver i k pkt stamp s) :=
  ingStore_keeps (addF_keeps (subF_keeps h _ _ _) _ _ _)

theorem ingMissing_keeps {i : Nat} {k : FlowKind} (h : Keeps s₀ s) : Keeps s₀ (ingMissing i k s) := by
  unfold ingMissing
  split
  · exact h
  · exact ingExpire_keeps (advanceTo_keeps h _)

theorem concealRegion_keeps {i key cause : Nat} {reg : Nat × Nat} (h : Keeps s₀ s) :
    Keeps s₀ (concealRegion i key cause reg s) := by
  unfold concealRegion
  split
  · exact h
  · split
    · exact h
    · extract_lets +onlyGivenNames w n r len pix s1
      have k1 : Keeps s₀ s1 := raise_keeps (addF_keeps (modIng_keeps h) _ _ _) _ _
      exact .ite (raise_keeps (addF_keeps k1 _ _ _) _ _) k1

theorem poisonPixels_keeps {i media line column count : Nat} (h : Keeps s₀ s) :
    Keeps s₀ (poisonPixels i media line column count s) := by
  unfold poisonPixels
  extract_lets +onlyGivenNames pos n
  split
  · exact h
  · split
    · exact concealRegion_keeps h
    · exact h

theorem ingestDeadlineOp_keeps {i key first lines : Nat} (h : Keeps s₀ s) :
    Keeps s₀ (ingestDeadlineOp i key first lines s) := by
  unfold ingestDeadlineOp
  split
  · exact h
  · exact settleSlate_keeps (setIngMerge_keeps (modIng_keeps (.foldl _ (fun _ _ hu => concealRegion_keeps hu) h _)))

theorem dropOlder_keeps {i : Nat} {t : Int} {fed : RingSlot} (h : Keeps s₀ s) : Keeps s₀ (dropOlder i t fed s) :=
  .foldl _ (fun _ _ hu => dropPicture_keeps hu) h _

theorem feedPicture_keeps {i n : Nat} {t : Int} {x : RingSlot} (h : Keeps s₀ s) : Keeps s₀ (feedPicture i n t x s) := by
  unfold feedPicture
  extract_lets +onlyGivenNames p s1 readers y s2
  have k2 : Keeps s₀ s2 := modIng_keeps (dropOlder_keeps h)
  exact .ite (settleSlate_keeps (modIng_keeps (setF_keeps (addF_keeps k2 _ _ _) _ _ _)))
    (setF_keeps (addF_keeps k2 _ _ _) _ _ _)

theorem feedOther_keeps {i n kind : Nat} {odd : Bool} (h : Keeps s₀ s) : Keeps s₀ (feedOther i n kind odd s) :=
  raise_keeps (addF_keeps (addF_keeps (modIng_keeps h) _ _ _) _ _ _) _ _

theorem synchronise_keeps {i n : Nat} {t : Int} (h : Keeps s₀ s) : Keeps s₀ (synchronise i n t s) := by
  unfold synchronise
  extract_lets +onlyGivenNames p odd due x
  split
  · exact .ite (.ite (feedPicture_keeps (raise_keeps (setF_keeps (modIng_keeps h) _ _ _) _ _))
      (feedOther_keeps (modIng_keeps (.foldl _ (fun _ _ hu => dropPicture_keeps hu) h _)))) (feedPicture_keeps h)
  · exact .ite (feedOther_keeps (modIng_keeps h))
      (.ite (feedOther_keeps (addF_keeps (raise_keeps (setF_keeps (modIng_keeps (modIng_keeps h)) _ _ _) _ _) _ _ _))
        (feedOther_keeps (modIng_keeps h)))

theorem ingLose_keeps {i : Nat} (h : Keeps s₀ s) : Keeps s₀ (ingLose i s) :=
  setF_keeps (h.frame (by rfl)) _ _ _

theorem ingCommand_keeps {i : Nat} (h : Keeps s₀ s) : Keeps s₀ (ingCommand i s) :=
  .ite h (.ite (.ite h (setAct_keeps (setF_keeps (modIng_keeps h) _ _ _) _ _ _)) (.ite (.ite h (setAct_keeps h _ _ _))
    (.ite (setAct_keeps (ingLose_keeps h) _ _ _) (setAct_keeps h _ _ _))))

theorem pruneEssence_keeps {i : Nat} {t : Int} (h : Keeps s₀ s) : Keeps s₀ (pruneEssence i t s) :=
  modIng_keeps h

theorem lateSlate_keeps {i n : Nat} (h : Keeps s₀ s) : Keeps s₀ (lateSlate i n s) := by
  unfold lateSlate
  split
  · exact h
  · exact .ite h (storeSlate_keeps h)

theorem ingTick_keeps {i n : Nat} (h : Keeps s₀ s) : Keeps s₀ (ingTick i n s) := by
  unfold ingTick
  extract_lets +onlyGivenNames p t s0
  have k4 : Keeps s₀ s0 := .ite (setAct_keeps h _ _ _) h
  split
  · exact k4
  · extract_lets +onlyGivenNames s1
    have k6 : Keeps s₀ s1 := setF_keeps (setF_keeps (modIng_keeps (lateSlate_keeps (pruneEssence_keeps k4))) _ _ _) _ _ _
    extract_lets +onlyGivenNames s2
    have k7 : Keeps s₀ s2 := .ite (takeWith_keeps k6 _ _ (fun _ hu => ingCommand_keeps hu)) k6
    exact .ite (synchronise_keeps k7) k7

theorem doneReading_keeps {i who n : Nat} (h : Keeps s₀ s) : Keeps s₀ (doneReading i who n s) :=
  modIng_keeps h

theorem quitReading_keeps {i who : Nat} (h : Keeps s₀ s) : Keeps s₀ (quitReading i who s) :=
  modIng_keeps h

theorem slateCaptureOp_keeps {i : Nat} (h : Keeps s₀ s) : Keeps s₀ (slateCaptureOp i s) :=
  modIng_keeps h

theorem slateCopyOp_keeps {i j : Nat} (h : Keeps s₀ s) : Keeps s₀ (slateCopyOp i j s) :=
  .ite (raise_keeps (setF_keeps (modIng_keeps h) _ _ _) _ _) (raise_keeps h _ _)

/-! ## Decode channels (chapter 07) -/

theorem modDch_keeps {i : Nat} {f : DchS → DchS} (h : Keeps s₀ s) : Keeps s₀ (modDch i f s) :=
  h.frame (by rfl)

theorem decRefresh_keeps {k : Nat} (h : Keeps s₀ s) : Keeps s₀ (decRefresh k s) :=
  followWork_keeps h

theorem decRefreshAll_keeps (h : Keeps s₀ s) : Keeps s₀ (decRefreshAll s) :=
  .foldl _ (fun _ _ hu => decRefresh_keeps hu) h _

theorem dchSeen_keeps {i : Nat} {legB : Bool} (h : Keeps s₀ s) : Keeps s₀ (dchSeen i legB s) :=
  setF_keeps (addF_keeps (addF_keeps (modDch_keeps h) _ _ _) _ _ _) _ _ _

theorem dchExpire_keeps {i : Nat} (h : Keeps s₀ s) : Keeps s₀ (dchExpire i s) :=
  modDch_keeps h

theorem dchArrive_keeps {i : Nat} {legB fc : Bool} {pkt : MediaPkt} {bytes : Nat} (h : Keeps s₀ s) :
    Keeps s₀ (dchArrive i legB fc pkt bytes s).2 := by
  unfold dchArrive
  extract_lets +onlyGivenNames p b s1
  have k1 : Keeps s₀ s1 := dchExpire_keeps (subF_keeps h _ _ _)
  extract_lets +onlyGivenNames drop m v
  split
  · exact rewind_keeps (addF_keeps k1 _ _ _)
  · split
    · exact rewind_keeps (flowDrop_keeps k1)
    · split
      · exact rewind_keeps (flowDrop_keeps k1)
      · extract_lets +onlyGivenNames q
        split
        · exact addF_keeps (modDch_keeps (commitPkt_keeps k1)) _ _ _
        · exact .ite_snd h (rewind_keeps (flowDrop_keeps (modQueue_keeps k1)))

theorem dchStore_keeps {i : Nat} {pkt : MediaPkt} (h : Keeps s₀ s) : Keeps s₀ (dchStore i pkt s) :=
  addF_keeps (modDch_keeps h) _ _ _

theorem dchDeliver_keeps {i : Nat} {pkt : MediaPkt} (h : Keeps s₀ s) : Keeps s₀ (dchDeliver i pkt s) :=
  addF_keeps (subF_keeps (dchStore_keeps h) _ _ _) _ _ _

theorem dchMissing_keeps {i : Nat} (h : Keeps s₀ s) : Keeps s₀ (dchMissing i s) := by
  unfold dchMissing
  split
  · exact h
  · exact dchExpire_keeps (advanceTo_keeps h _)

theorem setStrict_keeps {i : Nat} (h : Keeps s₀ s) : Keeps s₀ (setStrict i s) :=
  setF_keeps h _ _ _

theorem damagePoc_keeps {i : Nat} (h : Keeps s₀ s) : Keeps s₀ (damagePoc i s).2 := by
  unfold damagePoc
  split
  · exact h
  · exact drawFree_keeps h

theorem strictStop_keeps {i code nalType : Nat} {poc : Int} {offset : Nat} (h : Keeps s₀ s) :
    Keeps s₀ (strictStop i code nalType poc offset s) :=
  setStrict_keeps
    (decRefreshAll_keeps
      (setAct_keeps (raise_keeps
        (setF_keeps (setF_keeps (setF_keeps (setF_keeps (modDch_keeps h) _ _ _) _ _ _) _ _ _) _ _ _) _ _) _ _ _))

theorem damage_keeps {i code nalType : Nat} {poc : Int} {offset : Nat} (h : Keeps s₀ s) :
    Keeps s₀ (damage i code nalType poc offset s) := by
  unfold damage
  extract_lets +onlyGivenNames p s1
  have k1 : Keeps s₀ s1 := by
    unfold s1
    split
    · exact addF_keeps h _ _ _
    · exact h
  exact .ite (strictStop_keeps k1) (raise_keeps (modDch_keeps k1) _ _)

theorem whileRunning_keeps {i : Nat} {k : State → State} (h : Keeps s₀ s) (hk : ∀ u, Keeps s₀ u → Keeps s₀ (k u)) :
    Keeps s₀ (whileRunning i k s) :=
  .ite (hk _ h) h

theorem concealCtus_keeps {i cause : Nat} {ctus : List Nat} (h : Keeps s₀ s) : Keeps s₀ (concealCtus i cause ctus s) := by
  unfold concealCtus
  split
  · exact .ite (raise_keeps (addF_keeps (addF_keeps (modDch_keeps h) _ _ _) _ _ _) _ _) (addF_keeps (modDch_keeps h) _ _ _)
  · exact h

theorem countCtus_keeps {i : Nat} {ctus : List Nat} (h : Keeps s₀ s) : Keeps s₀ (countCtus i ctus s) := by
  unfold countCtus
  split
  · exact .foldl _ (fun _ _ hu => addF_keeps hu _ _ _) h _
  · exact h

theorem concealSkipped_keeps {i upto nalType offset : Nat} (h : Keeps s₀ s) :
    Keeps s₀ (concealSkipped i upto nalType offset s) := by
  unfold concealSkipped
  split
  · exact h
  · extract_lets +onlyGivenNames bare tail gone s1
    have k3 : Keeps s₀ s1 := .ite h (damage_keeps h)
    refine whileRunning_keeps k3 (fun _ hu => ?_)
    extract_lets +onlyGivenNames s2
    have k5 : Keeps s₀ s2 := .ite hu (concealCtus_keeps hu)
    exact modDch_keeps (countCtus_keeps (.ite k5 (concealCtus_keeps k5)))

theorem dropReady_keeps {i uid : Nat} (h : Keeps s₀ s) : Keeps s₀ (dropReady i uid s) :=
  raise_keeps (addF_keeps (modDch_keeps h) _ _ _) _ _

theorem storePic_keeps {i : Nat} {q : DecPic} (h : Keeps s₀ s) : Keeps s₀ (storePic i q s) := by
  unfold storePic
  extract_lets +onlyGivenNames put
  split
  · exact modDch_keeps h
  · split
    · exact h
    · extract_lets +onlyGivenNames s1
      split
      · exact modDch_keeps (dropReady_keeps h)
      · exact dropReady_keeps h

theorem substitute_keeps {i : Nat} {nal : NalUnit} {poc : Int} {r : RefName} (h : Keeps s₀ s) :
    Keeps s₀ (substitute i nal poc r s) := by
  unfold substitute
  extract_lets +onlyGivenNames s1
  refine whileRunning_keeps (damage_keeps h) (fun _ hu => ?_)
  extract_lets +onlyGivenNames x base q
  split
  · exact modDch_keeps hu
  · exact hu

theorem finishPic_keeps {i : Nat} (h : Keeps s₀ s) : Keeps s₀ (finishPic i s) := by
  unfold finishPic
  split
  · refine whileRunning_keeps (concealSkipped_keeps h) (fun _ hu => ?_)
    split
    · exact hu
    · exact storePic_keeps (raiseIf_keeps (addF_keeps (setF_keeps (modDch_keeps hu) _ _ _) _ _ _) _ _ _)
  · exact h

theorem showStream_keeps {i : Nat} {v : Sps} (h : Keeps s₀ s) : Keeps s₀ (showStream i v s) :=
  setF_keeps (setF_keeps (setF_keeps (setF_keeps (setF_keeps (setF_keeps h _ _ _) _ _ _) _ _ _) _ _ _) _ _ _) _ _ _

theorem openPic_keeps {i : Nat} {nal : NalUnit} {sl : SliceNal} {v : Sps} {pps : Option Pps} (h : Keeps s₀ s) :
    Keeps s₀ (openPic i nal sl v pps s) := by
  unfold openPic
  extract_lets +onlyGivenNames x size s1
  have k2 : Keeps s₀ s1 := modDch_keeps (showStream_keeps h)
  extract_lets +onlyGivenNames absent starting s2
  have k3 : Keeps s₀ s2 := .ite k2 (.foldl _ (fun _ _ hu => whileRunning_keeps hu (fun _ hu => substitute_keeps hu)) k2 _)
  exact whileRunning_keeps k3 (fun _ hu => .ite (damage_keeps (modDch_keeps hu)) (modDch_keeps hu))

theorem decodeSlice_keeps {i : Nat} {nal : NalUnit} {sl : SliceNal} (h : Keeps s₀ s) : Keeps s₀ (decodeSlice i nal sl s) := by
  unfold decodeSlice
  refine whileRunning_keeps (concealSkipped_keeps h) (fun _ hu => ?_)
  extract_lets +onlyGivenNames own s1 s2
  have k1 : Keeps s₀ s2 := by
    unfold s2
    split
    · exact modDch_keeps hu
    · exact countCtus_keeps (modDch_keeps hu)
  extract_lets +onlyGivenNames s3
  have k2 : Keeps s₀ s3 := by
    unfold s3
    split
    · exact whileRunning_keeps (damage_keeps k1) (fun _ hu => concealCtus_keeps hu)
    · exact k1
  exact .ite (whileRunning_keeps k2 (fun _ hu => damage_keeps hu)) k2

theorem countPreRap_keeps {i n : Nat} (h : Keeps s₀ s) : Keeps s₀ (countPreRap i n s) :=
  addF_keeps h _ _ _

theorem holdPreRap_keeps {i : Nat} {nal : NalUnit} (h : Keeps s₀ s) : Keeps s₀ (holdPreRap i nal s) := by
  unfold holdPreRap
  split
  · split
    · split
      · exact countPreRap_keeps h
      · exact modDch_keeps h
    · exact modDch_keeps (countPreRap_keeps h)
  · exact modDch_keeps h

theorem discardPreRap_keeps {i : Nat} {nal : NalUnit} (h : Keeps s₀ s) : Keeps s₀ (discardPreRap i nal s) :=
  countPreRap_keeps (modDch_keeps h)

theorem endPreRap_keeps {i : Nat} {nal : NalUnit} (h : Keeps s₀ s) : Keeps s₀ (endPreRap i nal s) :=
  countPreRap_keeps (modDch_keeps h)

theorem refuseStream_keeps {i : Nat} {nal : NalUnit} {sl : SliceNal} (h : Keeps s₀ s) : Keeps s₀ (refuseStream i nal sl s) :=
  damage_keeps (modDch_keeps h)

theorem sliceNal_keeps {i : Nat} {nal : NalUnit} {sl : SliceNal} (h : Keeps s₀ s) : Keeps s₀ (sliceNal i nal sl s) := by
  unfold sliceNal
  extract_lets +onlyGivenNames x
  split
  · exact discardPreRap_keeps h
  · split
    · exact h
    · extract_lets +onlyGivenNames s0 s1
      have k1 : Keeps s₀ s1 := .ite (endPreRap_keeps h) (finishPic_keeps (endPreRap_keeps h))
      refine whileRunning_keeps k1 (fun _ hu => ?_)
      split
      · exact damage_keeps hu
      · exact .ite (refuseStream_keeps hu) (.ite (refuseStream_keeps hu) (whileRunning_keeps (.ite hu (openPic_keeps hu))
          (fun _ hu => .ite (damage_keeps hu) (decodeSlice_keeps hu))))

theorem badNal_keeps {i code : Nat} {nal : NalUnit} (h : Keeps s₀ s) : Keeps s₀ (badNal i code nal s) := by
  unfold badNal
  extract_lets +onlyGivenNames s1
  split
  · exact .ite (discardPreRap_keeps (modDch_keeps h)) (damage_keeps (modDch_keeps h))
  · exact .ite (holdPreRap_keeps (modDch_keeps h)) (damage_keeps (damagePoc_keeps (modDch_keeps h)))

theorem wholeNal_keeps {i : Nat} {nal : NalUnit} (h : Keeps s₀ s) : Keeps s₀ (wholeNal i nal s) := by
  unfold wholeNal
  split
  · exact modDch_keeps h
  · exact modDch_keeps h
  · exact modDch_keeps h
  · exact badNal_keeps h
  · exact badNal_keeps h
  · exact badNal_keeps h
  · exact sliceNal_keeps h
  · split
    · exact holdPreRap_keeps h
    · split
      · exact h
      · exact .ite (whileRunning_keeps (damage_keeps h) (fun _ hu => modDch_keeps hu)) h
  · exact .ite (holdPreRap_keeps h) h

theorem decCounts_keeps {p : Nat} {nal : NalUnit} (h : Keeps s₀ s) : Keeps s₀ (decCounts p nal s) :=
  addF_keeps (addF_keeps (raiseIf_keeps h _ _ _) _ _ _) _ _ _

theorem nalDecodeOp_keeps {i : Nat} {nal : NalUnit} (h : Keeps s₀ s) : Keeps s₀ (nalDecodeOp i nal s) :=
  .ite h (.ite h (.ite (badNal_keeps (modDch_keeps h)) (wholeNal_keeps (decCounts_keeps (modDch_keeps h)))))

theorem pictureReadyOp_keeps {i : Nat} {poc : Int} (h : Keeps s₀ s) : Keeps s₀ (pictureReadyOp i poc s) := by
  unfold pictureReadyOp
  extract_lets +onlyGivenNames s0
  have k1 : Keeps s₀ s0 := by
    unfold s0
    split
    · exact .ite (finishPic_keeps h) h
    · exact h
  refine whileRunning_keeps k1 (fun _ hu => ?_)
  extract_lets +onlyGivenNames x
  split
  · exact hu
  · extract_lets +onlyGivenNames s1
    split
    · split
      · exact dropReady_keeps (modDch_keeps hu)
      · exact modDch_keeps hu
    · exact modDch_keeps hu

theorem feedDecoded_keeps {i n : Nat} {t : Int} {q : DecPic} (h : Keeps s₀ s) : Keeps s₀ (feedDecoded i n t q s) := by
  unfold feedDecoded
  extract_lets +onlyGivenNames p s1
  have k2 : Keeps s₀ s1 := .foldl _ (fun _ _ hu => dropReady_keeps hu) h _
  exact setStrict_keeps
    (setF_keeps (setF_keeps (setF_keeps (addF_keeps (addF_keeps (modDch_keeps k2) _ _ _) _ _ _) _ _ _) _ _ _) _ _ _)

theorem feedAgain_keeps {i n kind : Nat} {odd : Bool} (h : Keeps s₀ s) : Keeps s₀ (feedAgain i n kind odd s) :=
  raise_keeps (addF_keeps (addF_keeps (modDch_keeps h) _ _ _) _ _ _) _ _

theorem synchroniseDch_keeps {i n : Nat} {t : Int} (h : Keeps s₀ s) : Keeps s₀ (synchroniseDch i n t s) := by
  unfold synchroniseDch
  extract_lets +onlyGivenNames p odd due x lossK
  split
  · exact .ite (.ite (feedDecoded_keeps (raise_keeps (setF_keeps (modDch_keeps h) _ _ _) _ _))
      (feedAgain_keeps (modDch_keeps (.foldl _ (fun _ _ hu => dropReady_keeps hu) h _)))) (feedDecoded_keeps h)
  · exact .ite (strictStop_keeps (drawFree_keeps (drawFree_keeps (drawFree_keeps h)))) (.ite (feedAgain_keeps (modDch_keeps h))
      (.ite (feedAgain_keeps (addF_keeps (raise_keeps (setF_keeps (modDch_keeps (modDch_keeps h)) _ _ _) _ _) _ _ _))
        (feedAgain_keeps (modDch_keeps h))))

theorem dchCommand_keeps {i : Nat} (h : Keeps s₀ s) : Keeps s₀ (dchCommand i s) :=
  .ite h (.ite (.ite h (setAct_keeps (setF_keeps (setF_keeps (modDch_keeps h) _ _ _) _ _ _) _ _ _))
    (.ite (.ite h (setStrict_keeps (decRefreshAll_keeps (setAct_keeps h _ _ _))))
      (setAct_keeps (.ite (clearFields_keeps (h.frame (by rfl)) _ _) (.ite (modDch_keeps h) h)) _ _ _)))

theorem dchTick_keeps {i n : Nat} (h : Keeps s₀ s) : Keeps s₀ (dchTick i n s) := by
  unfold dchTick
  extract_lets +onlyGivenNames p t s1
  have k4 : Keeps s₀ s1 := .ite (.ite (setStrict_keeps (decRefreshAll_keeps (setAct_keeps h _ _ _))) (setAct_keeps h _ _ _)) h
  split
  · exact k4
  · extract_lets +onlyGivenNames s2
    have k6 : Keeps s₀ s2 := setF_keeps (setF_keeps (modDch_keeps k4) _ _ _) _ _ _
    extract_lets +onlyGivenNames s3
    have k7 : Keeps s₀ s3 := .ite (setStrict_keeps (takeWith_keeps k6 _ _ (fun _ hu => dchCommand_keeps hu))) k6
    exact .ite (synchroniseDch_keeps k7) k7

theorem keepReaders_keeps {i : Nat} {f : Nat × Nat → Bool} (h : Keeps s₀ s) : Keeps s₀ (keepReaders i f s) :=
  modDch_keeps h

theorem doneReadingDch_keeps {i who n : Nat} (h : Keeps s₀ s) : Keeps s₀ (doneReadingDch i who n s) :=
  keepReaders_keeps h

theorem quitReadingDch_keeps {i who : Nat} (h : Keeps s₀ s) : Keeps s₀ (quitReadingDch i who s) :=
  keepReaders_keeps h

theorem decodeCoreFaultOp_keeps {k : Nat} {stateError : Bool} (h : Keeps s₀ s) :
    Keeps s₀ (decodeCoreFaultOp k stateError s) := by
  unfold decodeCoreFaultOp
  extract_lets +onlyGivenNames s1
  have k1 : Keeps s₀ s1 := raise_keeps (toFault_keeps h _ _) _ _
  exact decRefreshAll_keeps (.foldl _ (fun _ _ hu => .ite (setStrict_keeps (toFault_keeps hu _ _)) hu) k1 _)

/-! ## Conditioning (chapter 03) -/

theorem doneWith_keeps {pg who n : Nat} (h : Keeps s₀ s) : Keeps s₀ (doneWith pg who n s) := by
  unfold doneWith
  split
  · exact doneReadingDch_keeps h
  · exact doneReading_keeps h

theorem quitPage_keeps {pg who : Nat} (h : Keeps s₀ s) : Keeps s₀ (quitPage pg who s) := by
  unfold quitPage
  split
  · exact quitReadingDch_keeps h
  · exact quitReading_keeps h

theorem modCnd_keeps {u : Nat} {f : CndS → CndS} (h : Keeps s₀ s) : Keeps s₀ (modCnd u f s) :=
  h.frame (by rfl)

theorem cndRefresh_keeps {u : Nat} (h : Keeps s₀ s) : Keeps s₀ (cndRefresh u s) :=
  followWork_keeps h

theorem cndRefreshAll_keeps (h : Keeps s₀ s) : Keeps s₀ (cndRefreshAll s) :=
  .foldl _ (fun _ _ hu => cndRefresh_keeps hu) h _

theorem takePath_keeps {u p : Nat} (h : Keeps s₀ s) : Keeps s₀ (takePath u p s) := by
  unfold takePath
  extract_lets +onlyGivenNames pg
  split
  · exact h
  · extract_lets +onlyGivenNames s0
    have k2 : Keeps s₀ s0 := .foldl _ (fun _ _ hu => setF_keeps hu _ _ _) h _
    extract_lets +onlyGivenNames s1
    have k3 : Keeps s₀ s1 := raiseIf_keeps (modCnd_keeps k2) _ _ _
    exact .ite (modCnd_keeps (takeWith_keeps k3 _ _ (fun _ hu => followCommand_keeps hu _))) k3

theorem takeIdlePaths_keeps {u : Nat} (h : Keeps s₀ s) : Keeps s₀ (takeIdlePaths u s) := by
  unfold takeIdlePaths
  extract_lets +onlyGivenNames pg s1
  have k1 : Keeps s₀ s1 := .foldl _ (fun _ _ hu => .ite (takePath_keeps hu) hu) h _
  exact .ite (.foldl _ (fun _ _ hu => .ite (.foldl _ (fun _ _ hu => setF_keeps hu _ _ _) hu _) hu) k1 _) k1

theorem takePathsOf_keeps {pg : Nat} (h : Keeps s₀ s) : Keeps s₀ (takePathsOf pg s) :=
  .foldl _ (fun _ _ hu => .ite (takePath_keeps hu) hu) h _

theorem putRow_keeps {u m n row : Nat} {smp : List Nat} (h : Keeps s₀ s) : Keeps s₀ (putRow u m n row smp s) :=
  modCnd_keeps h

theorem lutWriteOp_keeps {u b : Nat} (h : Keeps s₀ s) : Keeps s₀ (lutWriteOp u b s).2 :=
  .ite_snd (raise_keeps h _ _) (setF_keeps (setF_keeps (modCnd_keeps h) _ _ _) _ _ _)

/-! ## Output legs (R200) -/

theorem legDrops_keeps {p leg n : Nat} (h : Keeps s₀ s) : Keeps s₀ (legDrops p leg n s) :=
  .ite (raise_keeps (addF_keeps h _ _ _) _ _) (raise_keeps (addF_keeps h _ _ _) _ _)

theorem legTakes_keeps {p leg tag : Nat} {dropping : Bool} {rtp payload : List Nat} (h : Keeps s₀ s) :
    Keeps s₀ (legTakes p leg tag dropping rtp payload s) :=
  .ite h (.ite (legDrops_keeps h) (writePkt_keeps h))

theorem legsDown_keeps {p : Nat} (h : Keeps s₀ s) : Keeps s₀ (legsDown p s) :=
  .foldl _ (fun _ _ hu => .ite hu (endStalls_keeps hu)) h _

theorem legSends_keeps {p leg at_ : Nat} {k : OutKind} {cnt : Fld} (h : Keeps s₀ s) (e : legSends p leg at_ k cnt s = some t) :
    Keeps s₀ t := by
  unfold legSends at e
  obtain ⟨r, hr, rfl⟩ := Option.map_eq_some_iff.1 e
  have k1 : Keeps s₀ r.2 := popPkt_keeps h hr
  exact .ite (ethSent_keeps (addF_keeps (emit_keeps (modEth_keeps k1) _ _ _) _ _ _)) (legDrops_keeps (modEth_keeps k1))

theorem reachNs_keeps {t : Nat} (h : Keeps s₀ s) : Keeps s₀ (reachNs t s) :=
  advanceToNs_keeps h

/-! ## Senders (R224 to R226) -/

theorem modSnd_keeps {n : Nat} {f : SndS → SndS} (h : Keeps s₀ s) : Keeps s₀ (modSnd n f s) :=
  h.frame (by rfl)

theorem sndDrain_keeps {n leg at_ fuel : Nat} (h : Keeps s₀ s) : Keeps s₀ (sndDrain n leg at_ fuel s) := by
  induction fuel generalizing s with
  | zero => exact h
  | succ fuel ih =>
    unfold sndDrain
    split
    · exact h
    · split
      · rename_i e
        exact ih (legSends_keeps h e)
      · exact h

theorem sendNext_keeps {n : Nat} (h : Keeps s₀ s) : Keeps s₀ (sendNext n s) := by
  unfold sendNext
  extract_lets +onlyGivenNames p x
  split
  · exact h
  · exact .foldl _ (fun _ _ hu => sndDrain_keeps (legTakes_keeps hu)) (modSnd_keeps (legsDown_keeps h)) _

theorem sendRest_keeps {n : Nat} (h : Keeps s₀ s) : Keeps s₀ (sendRest n s) :=
  .foldl _ (fun _ _ hu => sendNext_keeps hu) h _

theorem sndPop_keeps {n leg : Nat} (h : Keeps s₀ s) : Keeps s₀ (sndPop n leg s) := by
  unfold sndPop
  split
  · exact sendNext_keeps (reachNs_keeps h)
  · exact sndDrain_keeps h

theorem sndCommand_keeps {n : Nat} (h : Keeps s₀ s) : Keeps s₀ (sndCommand n s) := by
  unfold sndCommand
  extract_lets +onlyGivenNames p c
  split
  · exact cndRefreshAll_keeps (setAct_keeps (setF_keeps (modSnd_keeps h) _ _ _) _ _ _)
  · extract_lets +onlyGivenNames s1
    have k1 : Keeps s₀ s1 := plainCommand_keeps h _
    exact cndRefreshAll_keeps (.ite (clearFields_keeps (k1.frame (by rfl)) _ _) k1)

theorem senderTickOp_keeps {n : Nat} {late : Bool} (h : Keeps s₀ s) : Keeps s₀ (senderTickOp n late s) := by
  unfold senderTickOp
  extract_lets +onlyGivenNames p r s0
  have k24 : Keeps s₀ s0 := .ite (takeWith_keeps (sendRest_keeps h) _ _ (fun _ hu => sndCommand_keeps hu)) (sendRest_keeps h)
  split
  · exact k24
  · extract_lets +onlyGivenNames x nx
    split
    · exact k24
    · extract_lets +onlyGivenNames ck t u s1
      have k30 : Keeps s₀ s1 := .ite (reachNs_keeps (reachNs_keeps k24)) (reachNs_keeps k24)
      extract_lets +onlyGivenNames s2
      have k33 : Keeps s₀ s2 := .ite (.ite (raise_keeps (setF_keeps k30 _ _ _) _ _) k30)
        (addF_keeps (.ite k30 (raise_keeps (setF_keeps k30 _ _ _) _ _)) _ _ _)
      extract_lets +onlyGivenNames rows ts s3
      have k35 : Keeps s₀ s3 := modSnd_keeps (addF_keeps k33 _ _ _)
      exact .ite (doneReadingDch_keeps (sendNext_keeps (modSnd_keeps k35))) (sendNext_keeps (modSnd_keeps k35))

theorem shadowed_keeps {p : Nat} (h : Keeps s₀ s) : Keeps s₀ (shadowed p s) :=
  .foldl _ (fun _ _ hu => setF_keeps hu _ _ _) h _

theorem inView_keeps (h : Keeps s₀ s) : Keeps s₀ (inView s) :=
  .foldl _ (fun _ _ hu => .foldl _ (fun _ _ hu => setF_keeps hu _ _ _) hu _) h _

/-! ## Encode cores -/

theorem modEch_keeps {c : Nat} {f : EchS → EchS} (h : Keeps s₀ s) : Keeps s₀ (modEch c f s) :=
  h.frame (by rfl)

theorem modOut_keeps {c : Nat} {f : OutS → OutS} (h : Keeps s₀ s) : Keeps s₀ (modOut c f s) :=
  h.frame (by rfl)

theorem modMux_keeps {g : Nat} {f : MuxS → MuxS} (h : Keeps s₀ s) : Keeps s₀ (modMux g f s) :=
  h.frame (by rfl)

theorem encRefresh_keeps {p : Nat} (h : Keeps s₀ s) : Keeps s₀ (encRefresh p s) :=
  followWork_keeps h

theorem rclRefresh_keeps (h : Keeps s₀ s) : Keeps s₀ (rclRefresh s) :=
  .ite (takeGen_keeps (setAct_keeps h _ _ _) _) (setAct_keeps h _ _ _)

theorem echRefresh_keeps (h : Keeps s₀ s) : Keeps s₀ (echRefresh s) :=
  cndRefreshAll_keeps (rclRefresh_keeps (.foldl _ (fun _ _ hu => encRefresh_keeps hu) h _))

theorem modCore_keeps {q : Nat} {f : CoreS → CoreS} (h : Keeps s₀ s) : Keeps s₀ (modCore q f s) :=
  h.frame (by rfl)

theorem finishJob_keeps {ch q n k stall : Nat} (h : Keeps s₀ s) : Keeps s₀ (finishJob ch q n k stall s) :=
  .ite (reachNs_keeps (modCore_keeps h)) (modCore_keeps h)

theorem moveJobs_keeps {a b : Nat} (h : Keeps s₀ s) : Keeps s₀ (moveJobs a b s) :=
  modCore_keeps (modCore_keeps h)

/-! ## Coding of rows -/

theorem modRefPic_keeps {c n : Nat} {f : RefPic → RefPic} (h : Keeps s₀ s) : Keeps s₀ (modRefPic c n f s) :=
  modEch_keeps h

theorem storeCtus_keeps {c col : Nat} {r : EchRow} {a : SliceCode} (h : Keeps s₀ s) : Keeps s₀ (storeCtus c col r a s) :=
  modRefPic_keeps h

/-! ## Lanes and their owners -/

theorem modLane_keeps {l : Nat} {f : LneS → LneS} (h : Keeps s₀ s) : Keeps s₀ (modLane l f s) :=
  h.frame (by rfl)

theorem setAll_keeps {p : Nat} {l : List (Fld × Nat)} (h : Keeps s₀ s) : Keeps s₀ (setAll p l s) :=
  .foldl _ (fun _ _ hu => setF_keeps hu _ _ _) h _

theorem applyPins_keeps {l : Nat} (h : Keeps s₀ s) : Keeps s₀ (applyPins l s) := by
  unfold applyPins
  extract_lets +onlyGivenNames p s1
  have k3 : Keeps s₀ s1 := .ite (setAll_keeps h) h
  extract_lets +onlyGivenNames s2
  have k5 : Keeps s₀ s2 := .ite (setF_keeps k3 _ _ _) k3
  exact .ite (setF_keeps (.ite (setAll_keeps k5) k5) _ _ _) (.ite (setAll_keeps k5) k5)

theorem setFfe_keeps {l : Nat} {taps : List Int} (h : Keeps s₀ s) : Keeps s₀ (setFfe l taps s) :=
  setAll_keeps h

theorem applyEq_keeps {l : Nat} {e : Equaliser} (h : Keeps s₀ s) : Keeps s₀ (applyEq l e s) :=
  applyPins_keeps (setFfe_keeps (setF_keeps (setF_keeps (setAll_keeps h) _ _ _) _ _ _))

theorem setPrecode_keeps {l : Nat} {tx rx : Bool} (h : Keeps s₀ s) : Keeps s₀ (setPrecode l tx rx s) :=
  setF_keeps (setF_keeps h _ _ _) _ _ _

theorem laneBringUp_keeps {l step reason : Nat} (h : Keeps s₀ s) : Keeps s₀ (laneBringUp l step reason s) :=
  setAct_keeps (setF_keeps (setF_keeps (setF_keeps (modLane_keeps h) _ _ _) _ _ _) _ _ _) _ _ _

theorem laneStop_keeps {l st : Nat} (h : Keeps s₀ s) : Keeps s₀ (laneStop l st s) := by
  unfold laneStop
  extract_lets +onlyGivenNames p s1
  have k1 : Keeps s₀ s1 := setAct_keeps (setF_keeps (setF_keeps (setF_keeps (h.frame (by rfl)) _ _ _) _ _ _) _ _ _) _ _ _
  exact .ite (clearFields_keeps k1 _ _) k1

theorem laneSleep_keeps {l : Nat} (h : Keeps s₀ s) : Keeps s₀ (laneSleep l s) :=
  setAct_keeps (modLane_keeps h) _ _ _

theorem laneAwake_keeps {l : Nat} (h : Keeps s₀ s) : Keeps s₀ (laneAwake l s) :=
  .ite (modLane_keeps h) h

theorem laneCommand_keeps {l c : Nat} (h : Keeps s₀ s) : Keeps s₀ (laneCommand l c s) := by
  unfold laneCommand
  extract_lets +onlyGivenNames p s1
  have k1 : Keeps s₀ s1 := settleTimer_keeps (setCm_keeps (setSh_keeps (setF_keeps h _ _ _) _ _ _) _ _ _) _
  exact .ite (.ite (laneAwake_keeps k1) (.ite k1 (laneBringUp_keeps k1))) (.ite (.ite (laneSleep_keeps k1) k1)
    (laneStop_keeps k1))

theorem lanesCommand_keeps {owner c : Nat} (h : Keeps s₀ s) : Keeps s₀ (lanesCommand owner c s) :=
  .foldl _ (fun _ _ hu => laneCommand_keeps hu) h _

/-! ## Rate control and the lending pool (chapter 05) -/

theorem poolAdd_keeps {g x : Nat} (h : Keeps s₀ s) : Keeps s₀ (poolAdd g x s) :=
  .ite (raise_keeps (addF_keeps (addF_keeps h _ _ _) _ _ _) _ _) (addF_keeps h _ _ _)

theorem countTokens_keeps {c x : Nat} {own group : Fld} (h : Keeps s₀ s) : Keeps s₀ (countTokens c x own group s) :=
  .ite (addF_keeps (addF_keeps h _ _ _) _ _ _) (addF_keeps h _ _ _)

theorem lapse_keeps {c x : Nat} (h : Keeps s₀ s) : Keeps s₀ (lapse c x s) :=
  raiseIf_keeps (countTokens_keeps h) _ _ _

theorem sendLending_keeps {dest kind g ch row ref pic tokens deadline : Nat} (h : Keeps s₀ s) :
    Keeps s₀ (sendLending dest kind g ch row ref pic tokens deadline s) := by
  unfold sendLending
  extract_lets +onlyGivenNames m s1
  have k2 : Keeps s₀ s1 := addF_keeps (sendManagement_keeps (emit_keeps h _ _ _) _ _ _ _ _) _ _ _
  exact .ite (.ite (addF_keeps k2 _ _ _) (raise_keeps (addF_keeps (addF_keeps k2 _ _ _) _ _ _) _ _)) k2

theorem giveBack_keeps {kind c n k x : Nat} (h : Keeps s₀ s) : Keeps s₀ (giveBack kind c n k x s) :=
  .ite h (.ite (poolAdd_keeps (addF_keeps (subF_keeps h _ _ _) _ _ _))
    (sendLending_keeps (addF_keeps (subF_keeps h _ _ _) _ _ _)))

theorem giveExcess_keeps {c n k x : Nat} (h : Keeps s₀ s) : Keeps s₀ (giveExcess c n k x s) :=
  raiseIf_keeps (addF_keeps (subF_keeps (giveBack_keeps h) _ _ _) _ _ _) _ _ _

theorem accrueRow_keeps {c n k : Nat} (h : Keeps s₀ s) : Keeps s₀ (accrueRow c n k s) :=
  countTokens_keeps (addF_keeps (addF_keeps (modEch_keeps h) _ _ _) _ _ _)

theorem groupBoundary_keeps {c n k : Nat} (h : Keeps s₀ s) : Keeps s₀ (groupBoundary c n k s) := by
  unfold groupBoundary
  split
  · exact h
  · extract_lets +onlyGivenNames g
    split
    · exact h
    · extract_lets +onlyGivenNames t s1
      have k1 : Keeps s₀ s1 := .ite (modMux_keeps (takeGen_keeps h _)) (takeGen_keeps h _)
      exact .ite k1 (poolAdd_keeps (addF_keeps (modMux_keeps k1) _ _ _))

theorem missLoan_keeps {c : Nat} (h : Keeps s₀ s) : Keeps s₀ (missLoan c s) :=
  raiseIf_keeps (raise_keeps (addF_keeps (addF_keeps (modEch_keeps h) _ _ _) _ _ _) _ _) _ _ _

theorem takeGrant_keeps {c g : Nat} (h : Keeps s₀ s) : Keeps s₀ (takeGrant c g s) :=
  raise_keeps (satF_keeps (addF_keeps (addF_keeps (addF_keeps (modEch_keeps h) _ _ _) _ _ _) _ _ _) _ _ _) _ _

theorem settleLoan_keeps {c n k : Nat} (h : Keeps s₀ s) : Keeps s₀ (settleLoan c n k s) := by
  unfold settleLoan
  split
  · exact h
  · split
    · exact h
    · split
      · exact takeGrant_keeps (subF_keeps h _ _ _)
      · exact missLoan_keeps h

theorem returnUnspent_keeps {c : Nat} (h : Keeps s₀ s) : Keeps s₀ (returnUnspent c s) :=
  addF_keeps (addF_keeps (modEch_keeps h) _ _ _) _ _ _

theorem capAccount_keeps {c n k : Nat} (h : Keeps s₀ s) : Keeps s₀ (capAccount c n k s).2 := by
  unfold capAccount
  extract_lets +onlyGivenNames p cap held ex s1
  split
  · exact setF_keeps h _ _ _
  · split
    · exact giveExcess_keeps (setF_keeps h _ _ _)
    · extract_lets +onlyGivenNames s2
      have k1 : Keeps s₀ s2 := subF_keeps (setF_keeps h _ _ _) _ _ _
      exact .ite_snd (addF_keeps (addF_keeps k1 _ _ _) _ _ _) (lapse_keeps k1)

theorem settlePicture_keeps {c n k : Nat} (h : Keeps s₀ s) : Keeps s₀ (settlePicture c n k s) :=
  .ite h (giveBack_keeps (giveBack_keeps (subF_keeps h _ _ _)))

theorem setBudget_keeps {c n k d : Nat} (h : Keeps s₀ s) : Keeps s₀ (setBudget c n k d s).2 :=
  raiseIf_keeps (subF_keeps (subF_keeps (setF_keeps (setF_keeps h _ _ _) _ _ _) _ _ _) _ _ _) _ _ _

theorem poolAnswer_keeps {g req : Nat} (h : Keeps s₀ s) : Keeps s₀ (poolAnswer g req s).2 :=
  .ite_snd (addF_keeps (subF_keeps h _ _ _) _ _ _) (raise_keeps (addF_keeps h _ _ _) _ _)

theorem askLoan_keeps {ask : Bool} {c n k d : Nat} (h : Keeps s₀ s) : Keeps s₀ (askLoan ask c n k d s) := by
  unfold askLoan
  extract_lets +onlyGivenNames p x g
  split
  · exact h
  · extract_lets +onlyGivenNames req
    split
    · exact h
    · extract_lets +onlyGivenNames l s1
      have k1 : Keeps s₀ s1 := raise_keeps (addF_keeps (modEch_keeps h) _ _ _) _ _
      exact .ite k1 (sendLending_keeps (modMux_keeps k1))

theorem answerLoan_keeps {c n k : Nat} (h : Keeps s₀ s) : Keeps s₀ (answerLoan c n k s) := by
  unfold answerLoan
  extract_lets +onlyGivenNames g
  split
  · exact h
  · split
    · exact h
    · extract_lets +onlyGivenNames a
      split
      · exact addF_keeps (modEch_keeps (poolAnswer_keeps h)) _ _ _
      · exact modEch_keeps (poolAnswer_keeps h)

theorem initialCredit_keeps {c n : Nat} (h : Keeps s₀ s) : Keeps s₀ (initialCredit c n s) :=
  countTokens_keeps (setF_keeps (setF_keeps (setF_keeps (modEch_keeps h) _ _ _) _ _ _) _ _ _)

theorem muxStart_keeps {c : Nat} (h : Keeps s₀ s) : Keeps s₀ (muxStart c s) :=
  .ite h (.ite h (setAct_keeps (modMux_keeps h) _ _ _))

theorem muxClear_keeps {g : Nat} (h : Keeps s₀ s) : Keeps s₀ (muxClear g s) :=
  clearFields_keeps (h.frame (by rfl)) _ _

theorem muxCommand_keeps {g : Nat} (h : Keeps s₀ s) : Keeps s₀ (muxCommand g s) :=
  .ite h (.ite (.ite h (.ite (setAct_keeps h _ _ _) (setAct_keeps h _ _ _))) (.ite (muxClear_keeps (plainCommand_keeps h _))
    (plainCommand_keeps h _)))

theorem accountLeaves_keeps {c : Nat} (h : Keeps s₀ s) : Keeps s₀ (accountLeaves c s) := by
  unfold accountLeaves
  extract_lets +onlyGivenNames p x drop
  have hd {u : State} (hu : Keeps s₀ u) : Keeps s₀ (drop u) := setF_keeps (setF_keeps (modEch_keeps hu) _ _ _) _ _ _
  split
  · exact lapse_keeps (hd h)
  · extract_lets +onlyGivenNames g grant s0 m s1
    have k0 : Keeps s₀ s0 := subF_keeps h _ _ _
    have k1 : Keeps s₀ s1 := by
      unfold s1
      split
      · exact poolAdd_keeps (addF_keeps (hd k0) _ _ _)
      · split
        · exact addF_keeps (hd k0) _ _ _
        · exact sendLending_keeps (addF_keeps (hd k0) _ _ _)
    exact .ite (takeAfterStop_keeps (setAct_keeps k1 _ _ _) _ _ (fun _ hu => muxCommand_keeps hu)) k1

theorem poolTickOp_keeps {g : Nat} (h : Keeps s₀ s) : Keeps s₀ (poolTickOp g s) := by
  unfold poolTickOp
  extract_lets +onlyGivenNames p f
  split
  · exact h
  · extract_lets +onlyGivenNames s1
    have k2 : Keeps s₀ s1 := .ite (takeWith_keeps h _ _ (fun _ hu => muxCommand_keeps hu)) h
    exact .ite k2 (poolAdd_keeps
      (addF_keeps (modMux_keeps (.ite k2 (setF_keeps (setAct_keeps (modMux_keeps k2) _ _ _) _ _ _))) _ _ _))

theorem dropLending_keeps (h : Keeps s₀ s) : Keeps s₀ (dropLending s) :=
  raise_keeps (addF_keeps h _ _ _) _ _

theorem remoteGrant_keeps {g c ref pic row tokens : Nat} (h : Keeps s₀ s) :
    Keeps s₀ (remoteGrant g c ref pic row tokens s) := by
  unfold remoteGrant
  extract_lets +onlyGivenNames s1
  split
  · exact .ite (addF_keeps (modEch_keeps (addF_keeps h _ _ _)) _ _ _)
      (raise_keeps (addF_keeps (addF_keeps (sendLending_keeps (addF_keeps h _ _ _)) _ _ _) _ _ _) _ _)
  · exact raise_keeps (addF_keeps (addF_keeps (sendLending_keeps (addF_keeps h _ _ _)) _ _ _) _ _ _) _ _

theorem homeAnswers_keeps {g : Nat} (h : Keeps s₀ s) : Keeps s₀ (homeAnswers g s) :=
  setF_keeps (modMux_keeps h) _ _ _

theorem lendingOp_keeps {m : List Byte} (h : Keeps s₀ s) : Keeps s₀ (lendingOp m s) := by
  unfold lendingOp
  extract_lets +onlyGivenNames s0 kind g src c row ref pic tokens p toHome
  split
  · exact dropLending_keeps (addF_keeps h _ _ _)
  · clear_value kind
    split
    · extract_lets +onlyGivenNames a
      split
      · exact sendLending_keeps (poolAnswer_keeps (addF_keeps h _ _ _))
      · exact sendLending_keeps (poolAnswer_keeps (addF_keeps h _ _ _))
    · exact remoteGrant_keeps (homeAnswers_keeps (addF_keeps h _ _ _))
    · exact modEch_keeps (homeAnswers_keeps (addF_keeps h _ _ _))
    · exact poolAdd_keeps (addF_keeps (addF_keeps h _ _ _) _ _ _)

theorem takeManagement_keeps (h : Keeps s₀ s) : Keeps s₀ (takeManagement s) := by
  unfold takeManagement
  split
  · exact takeMsg_keeps h _ _
  · exact h

theorem homeUnreachableOp_keeps {g : Nat} (h : Keeps s₀ s) : Keeps s₀ (homeUnreachableOp g s) := by
  unfold homeUnreachableOp
  extract_lets +onlyGivenNames p
  split
  · exact h
  · exact .ite h (raise_keeps (raise_keeps (setF_keeps (modMux_keeps (advanceTo_keeps h _)) _ _ _) _ _) _ _)

/-! ## Frame clocks (R29) -/

theorem tickClock_keeps {k : Option Nat} (h : Keeps s₀ s) : Keeps s₀ (tickClock k s) :=
  .foldl _ (fun _ _ hu => mismatchTick_keeps hu _) h _

theorem frameClockTickOp_keeps {i n : Nat} (h : Keeps s₀ s) : Keeps s₀ (frameClockTickOp i n s) :=
  tickClock_keeps (cndRefreshAll_keeps (takePathsOf_keeps (ingTick_keeps h)))

theorem decodeTickOp_keeps {i n : Nat} (h : Keeps s₀ s) : Keeps s₀ (decodeTickOp i n s) :=
  tickClock_keeps (cndRefreshAll_keeps (takePathsOf_keeps (dchTick_keeps h)))

/-! ## Harlet frames sent -/

theorem holdOp_keeps {r : Req} (h : Keeps s₀ s) : Keeps s₀ (holdOp r s) := by
  unfold holdOp
  split
  · split
    · exact h
    · rename_i hx
      exact putSession_keeps h _ _ _ hx (.inl rfl)
  · exact h

theorem freeOp_keeps {r : Req} (h : Keeps s₀ s) : Keeps s₀ (freeOp r s) := by
  unfold freeOp
  split
  · split
    · exact h
    · rename_i hx
      exact putSession_keeps h _ _ _ hx (.inl rfl)
  · exact h

theorem lateReply_keeps {r : Req} {opcode addr : Nat} {st : Status} {body : List Byte} (h : Keeps s₀ s) :
    Keeps s₀ (lateReply r opcode addr st body s) := by
  unfold lateReply
  extract_lets +onlyGivenNames s1
  have k1 : Keeps s₀ s1 := reply_keeps (freeOp_keeps h) _ _ _ _ _
  split
  · exact sendResponses_keeps k1 _
  · exact k1

/-! ## Check units (chapter 16) -/

theorem modChk_keeps {k : Nat} {f : ChkS → ChkS} (h : Keeps s₀ s) : Keeps s₀ (modChk k f s) :=
  h.frame (by rfl)

theorem chkRecord_keeps {k len : Nat} {x : ChkResult} (h : Keeps s₀ s) : Keeps s₀ (chkRecord k len x s) := by
  unfold chkRecord
  extract_lets +onlyGivenNames p s1
  have k3 : Keeps s₀ s1 := addF_keeps (setF_keeps (setF_keeps h _ _ _) _ _ _) _ _ _
  extract_lets +onlyGivenNames s2
  have k4 : Keeps s₀ s2 := by
    unfold s2
    split
    · exact setF_keeps k3 _ _ _
    · exact k3
  extract_lets +onlyGivenNames s3
  have k5 : Keeps s₀ s3 := by
    unfold s3
    split
    · exact k4
    · exact addF_keeps (setF_keeps k4 _ _ _) _ _ _
    · exact raise_keeps (addF_keeps (setF_keeps k4 _ _ _) _ _ _) _ _
  exact raiseIf_keeps k5 _ _ _

theorem chkSettle_keeps {k : Nat} (h : Keeps s₀ s) : Keeps s₀ (chkSettle k s) :=
  followWork_keeps h

theorem chkStartOp_keeps {k : Nat} (h : Keeps s₀ s) : Keeps s₀ (chkStartOp k s).2 :=
  .ite_snd h (.ite_snd h (chkSettle_keeps (setF_keeps (setF_keeps (modChk_keeps h) _ _ _) _ _ _)))

theorem chkDataOp_keeps {k v : Nat} (h : Keeps s₀ s) : Keeps s₀ (chkDataOp k v s).2 :=
  .ite_snd (raise_keeps h _ _) (modChk_keeps h)

theorem chkFinishOp_keeps {k last : Nat} (h : Keeps s₀ s) : Keeps s₀ (chkFinishOp k last s).2 :=
  .ite_snd (raise_keeps h _ _) (chkSettle_keeps (setF_keeps (chkRecord_keeps (modChk_keeps h)) _ _ _))

theorem streamOp_keeps {r : Req} {k v : Nat} (h : Keeps s₀ s) : Keeps s₀ (streamOp r k v s).2 := by
  unfold streamOp
  extract_lets +onlyGivenNames p en src dst
  split
  · exact h
  · split
    · exact h
    · extract_lets +onlyGivenNames s1
      have k2 : Keeps s₀ s1 := setF_keeps (setF_keeps (setF_keeps (setF_keeps h _ _ _) _ _ _) _ _ _) _ _ _
      exact chkSettle_keeps (setF_keeps (.ite (modChk_keeps k2) k2) _ _ _)

theorem streamPacketOp_keeps {k : Nat} (h : Keeps s₀ s) : Keeps s₀ (streamPacketOp k s) := by
  unfold streamPacketOp
  extract_lets +onlyGivenNames p dst
  split
  · exact h
  · split
    · exact h
    · rename_i e
      extract_lets +onlyGivenNames msg x s2 new
      have k2 : Keeps s₀ s2 := chkRecord_keeps (modChk_keeps (popPkt_keeps h e))
      exact .ite (rewind_keeps k2) (.ite (commitPkt_keeps k2) h)

/-! ## The circulation desk (chapter 14) -/

theorem modHostQ_keeps {q : Nat} {f : HostQ → HostQ} (h : Keeps s₀ s) : Keeps s₀ (modHostQ q f s) :=
  h.frame (by rfl)

theorem setReady_keeps {c : Nat} {l : List Slip} (h : Keeps s₀ s) : Keeps s₀ (setReady c l s) :=
  h.frame (by rfl)

theorem modDeskCore_keeps {k : Nat} {f : DeskCore → DeskCore} (h : Keeps s₀ s) : Keeps s₀ (modDeskCore k f s) :=
  h.frame (by rfl)

theorem settleUnserved_keeps {before : State} (h : Keeps s₀ s) : Keeps s₀ (settleUnserved before s) :=
  raiseIf_keeps h _ _ _

theorem settleFloor_keeps {before : State} (h : Keeps s₀ s) : Keeps s₀ (settleFloor before s) :=
  raiseIf_keeps h _ _ _

theorem makeReady_keeps {x : Slip} (h : Keeps s₀ s) : Keeps s₀ (makeReady x s) :=
  setReady_keeps h

theorem grantHeld_keeps (h : Keeps s₀ s) : Keeps s₀ (grantHeld s) :=
  .foldl _ (fun _ _ hu => .ite hu (settleFloor_keeps (makeReady_keeps (addF_keeps (hu.frame (by rfl)) _ _ _)))) h _

theorem badSlip_keeps (h : Keeps s₀ s) : Keeps s₀ (badSlip s) :=
  raise_keeps (addF_keeps h _ _ _) _ _

theorem hwSlipPostOp_keeps {ch : Nat} {b : List Byte} (h : Keeps s₀ s) : Keeps s₀ (hwSlipPostOp ch b s) :=
  .ite h (.ite (badSlip_keeps h) (.ite (raise_keeps (h.frame (by rfl)) _ _) (settleFloor_keeps (makeReady_keeps h))))

theorem fwSlipPostOp_keeps {b : List Byte} (h : Keeps s₀ s) : Keeps s₀ (fwSlipPostOp b s) :=
  .ite h (.ite (badSlip_keeps h) (.ite h (settleFloor_keeps (makeReady_keeps h))))

theorem enqueueSlip_keeps {q : Nat} {b : List Byte} (h : Keeps s₀ s) : Keeps s₀ (enqueueSlip q b s) :=
  settleFloor_keeps (.ite (addF_keeps (modHostQ_keeps h) _ _ _) (modHostQ_keeps h))

theorem postWait_keeps {q : Nat} (h : Keeps s₀ s) : Keeps s₀ (postWait q s) :=
  modHostQ_keeps h

theorem postWaitEnd_keeps {q : Nat} (h : Keeps s₀ s) : Keeps s₀ (postWaitEnd q s) :=
  .ite h (modHostQ_keeps h)

theorem slipPostOp_keeps {r : Req} {q : Nat} {b : List Byte} (h : Keeps s₀ s) : Keeps s₀ (slipPostOp r q b s) :=
  .ite (reply_keeps h _ _ _ _ _) (.ite (reply_keeps h _ _ _ _ _) (.ite (reply_keeps (enqueueSlip_keeps h) _ _ _ _ _)
    (postWait_keeps (holdOp_keeps (h.frame (by rfl))))))

theorem slipPostAcceptOp_keeps {q : Nat} (h : Keeps s₀ s) : Keeps s₀ (slipPostAcceptOp q s) := by
  unfold slipPostAcceptOp
  split
  · exact h
  · split
    · exact h
    · exact lateReply_keeps (postWaitEnd_keeps (enqueueSlip_keeps (h.frame (by rfl))))

theorem dropPosts_keeps (h : Keeps s₀ s) : Keeps s₀ (dropPosts s) :=
  .foldl _ (fun _ _ hu => lateReply_keeps hu) (h.frame (by rfl)) _

theorem slipTakeOp_keeps {q : Nat} (h : Keeps s₀ s) : Keeps s₀ (slipTakeOp q s) := by
  unfold slipTakeOp
  split
  · exact h
  · split
    · exact h
    · exact makeReady_keeps (modHostQ_keeps h)

theorem fillOne_keeps (h : Keeps s₀ s) : Keeps s₀ (fillOne s) := by
  unfold fillOne
  split
  · exact h
  · exact modDeskCore_keeps (setReady_keeps h)

theorem withdrawOne_keeps (h : Keeps s₀ s) : Keeps s₀ (withdrawOne s) := by
  unfold withdrawOne
  split
  · exact h
  · exact addF_keeps (modDeskCore_keeps (setReady_keeps (setReady_keeps h))) _ _ _

theorem slipStartOp_keeps {k : Nat} (h : Keeps s₀ s) : Keeps s₀ (slipStartOp k s) := by
  unfold slipStartOp
  extract_lets +onlyGivenNames x
  split
  · exact .ite (addF_keeps (modDeskCore_keeps h) _ _ _) h
  · exact h

theorem slipAgeingOp_keeps {c : Nat} (h : Keeps s₀ s) : Keeps s₀ (slipAgeingOp c s) := by
  unfold slipAgeingOp
  extract_lets +onlyGivenNames age
  split
  · exact h
  · exact .ite h (addF_keeps (makeReady_keeps (setReady_keeps (advanceTo_keeps h _))) _ _ _)

theorem finishSlip_keeps {x : Slip} {core status result : Nat} (h : Keeps s₀ s) :
    Keeps s₀ (finishSlip x core status result s) := by
  unfold finishSlip
  extract_lets +onlyGivenNames s1 s2
  have k1 : Keeps s₀ s2 := .ite (addF_keeps h _ _ _) (.ite (modHostQ_keeps (addF_keeps h _ _ _))
    (modHostQ_keeps (addF_keeps h _ _ _)))
  exact grantHeld_keeps k1

theorem slipCompleteOp_keeps {k result : Nat} {known : Bool} (h : Keeps s₀ s) : Keeps s₀ (slipCompleteOp k result known s) := by
  unfold slipCompleteOp
  split
  · exact h
  · exact .ite h (.ite (finishSlip_keeps (addF_keeps (modDeskCore_keeps h) _ _ _))
      (.ite (finishSlip_keeps (modDeskCore_keeps h)) (finishSlip_keeps (drawFree_keeps (modDeskCore_keeps h)))))

theorem runLimitOp_keeps {k : Nat} (h : Keeps s₀ s) : Keeps s₀ (runLimitOp k s) := by
  unfold runLimitOp
  split
  · exact h
  · exact .ite h (raise_keeps (addF_keeps (modDeskCore_keeps (advanceTo_keeps h _)) _ _ _) _ _)

theorem stopCore_keeps {k phase : Nat} (h : Keeps s₀ s) : Keeps s₀ (stopCore k phase s) := by
  unfold stopCore
  extract_lets +onlyGivenNames x s1 s2
  have k1 : Keeps s₀ s2 := by
    unfold s2
    split
    · exact modDeskCore_keeps h
    · exact setReady_keeps (modDeskCore_keeps h)
  split
  · exact k1
  · exact finishSlip_keeps (drawFree_keeps k1)

theorem killLimitOp_keeps {k : Nat} (h : Keeps s₀ s) : Keeps s₀ (killLimitOp k s) := by
  unfold killLimitOp
  extract_lets +onlyGivenNames ms
  split
  · exact h
  · exact .ite h (raise_keeps (addF_keeps (stopCore_keeps (advanceTo_keeps h _)) _ _ _) _ _)

theorem coreReturnOp_keeps {k : Nat} (h : Keeps s₀ s) : Keeps s₀ (coreReturnOp k s) :=
  .ite h (modDeskCore_keeps (advanceTo_keeps h _))

theorem obrovCoreFaultOp_keeps {k : Nat} (h : Keeps s₀ s) : Keeps s₀ (obrovCoreFaultOp k s) :=
  .ite h (settleUnserved_keeps (raise_keeps (addF_keeps (stopCore_keeps h) _ _ _) _ _))

theorem cancelAll_keeps {l : List Slip} (h : Keeps s₀ s) : Keeps s₀ (cancelAll l s) :=
  .foldl _ (fun _ _ hu => finishSlip_keeps (addF_keeps (drawFree_keeps (drawFree_keeps hu)) _ _ _)) h _

theorem cancelOp_keeps {q : Nat} (h : Keeps s₀ s) : Keeps s₀ (cancelOp q s) :=
  cancelAll_keeps
    (setF_keeps (setF_keeps (setF_keeps (setF_keeps (modHostQ_keeps (h.frame (by rfl))) _ _ _) _ _ _) _ _ _) _ _ _)

theorem cplStatOp_keeps {r : Req} (h : Keeps s₀ s) : Keeps s₀ (cplStatOp r s).2 := by
  unfold cplStatOp
  extract_lets +onlyGivenNames q
  split
  · exact h
  · exact latchWord_keeps (modHostQ_keeps h)

theorem hsqStatOp_keeps (h : Keeps s₀ s) : Keeps s₀ (hsqStatOp s).2 :=
  modHostQ_keeps h

theorem coreCfgOp_keeps {v : Nat} (h : Keeps s₀ s) : Keeps s₀ (coreCfgOp v s) :=
  settleUnserved_keeps (setF_keeps (modDeskCore_keeps h) _ _ _)

theorem hsqCfgOp_keeps {v : Nat} (h : Keeps s₀ s) : Keeps s₀ (hsqCfgOp v s) :=
  modHostQ_keeps h

/-! ## Twin roles and messages -/

theorem modTwn_keeps {f : TwnS → TwnS} (h : Keeps s₀ s) : Keeps s₀ (modTwn f s) :=
  h.frame (by rfl)

theorem showJoins_keeps (h : Keeps s₀ s) : Keeps s₀ (showJoins s) :=
  setF_keeps (setF_keeps (setF_keeps h _ _ _) _ _ _) _ _ _

theorem setJoin_keeps {c : Nat} {j : Join} (h : Keeps s₀ s) : Keeps s₀ (setJoin c j s) :=
  showJoins_keeps (modTwn_keeps h)

theorem dropJoin_keeps {c : Nat} (h : Keeps s₀ s) : Keeps s₀ (dropJoin c s) :=
  showJoins_keeps (modTwn_keeps h)

theorem twinSend_keeps {kind flags ch row pic : Nat} {body : List Byte} (h : Keeps s₀ s) :
    Keeps s₀ (twinSend kind flags ch row pic body s) :=
  izlPost_keeps (emit_keeps h _ _ _) _ _ _

theorem goSolo_keeps (h : Keeps s₀ s) : Keeps s₀ (goSolo s) :=
  setF_keeps (modTwn_keeps h) _ _ _

theorem setSourceMerge_keeps {src f : Nat} {m : Merge} (h : Keeps s₀ s) : Keeps s₀ (setSourceMerge src f m s) :=
  .ite (modDch_keeps h) (setIngMerge_keeps h)

theorem askLead_keeps {src f : Nat} {seqs : List Nat} (h : Keeps s₀ s) : Keeps s₀ (askLead src f seqs s) :=
  addF_keeps (twinSend_keeps (modTwn_keeps (setSourceMerge_keeps h))) _ _ _

/-! ## Ingest bands -/

theorem bandDue_keeps {i : Nat} {b : Band} (h : Keeps s₀ s) : Keeps s₀ (bandDue i b s) :=
  .ite (.foldl _ (fun _ _ hu => askLead_keeps hu) (modIng_keeps h) _) (ingestDeadlineOp_keeps h)

theorem bandsDue_keeps {i fuel : Nat} (h : Keeps s₀ s) : Keeps s₀ (bandsDue i fuel s) := by
  induction fuel generalizing s with
  | zero => exact h
  | succ fuel ih =>
    unfold bandsDue
    split
    · exact h
    · exact .ite (ih (bandDue_keeps h)) h

theorem allBandsDue_keeps (h : Keeps s₀ s) : Keeps s₀ (allBandsDue s) :=
  .foldl _ (fun _ _ hu => bandsDue_keeps hu) h _

theorem ingestDeadline_keeps {i first lines : Nat} (h : Keeps s₀ s) : Keeps s₀ (ingestDeadline i first lines s) := by
  unfold ingestDeadline
  split
  · exact h
  · exact .ite (bandDue_keeps (reachNs_keeps h)) h

theorem giveRow_keeps {u m n row : Nat} {ready : Bool} {f : Feed} (h : Keeps s₀ s) : Keeps s₀ (giveRow u m n row ready f s) :=
  .ite (doneWith_keeps (raiseIf_keeps (putRow_keeps h) _ _ _)) (raiseIf_keeps (putRow_keeps h) _ _ _)

theorem cndRowOp_keeps {u m row : Nat} {ready : Bool} (h : Keeps s₀ s) : Keeps s₀ (cndRowOp u m row ready s) := by
  unfold cndRowOp
  extract_lets +onlyGivenNames p
  split
  · exact h
  · split
    · exact raiseIf_keeps h _ _ _
    · extract_lets +onlyGivenNames n s1
      have k1 : Keeps s₀ s1 := allBandsDue_keeps (reachNs_keeps h)
      split
      · exact k1
      · exact giveRow_keeps k1

/-! ## Slice rings and packets (chapter 06) -/

theorem modSeg_keeps {c col : Nat} {f : Seg → Seg} (h : Keeps s₀ s) : Keeps s₀ (modSeg c col f s) :=
  modOut_keeps h

theorem closeSlice_keeps {c : Nat} {e : RingEntry} (h : Keeps s₀ s) : Keeps s₀ (closeSlice c e s) :=
  addF_keeps (addF_keeps (addF_keeps (modOut_keeps (modSeg_keeps h)) _ _ _) _ _ _) _ _ _

theorem stallSeg_keeps {c col len : Nat} (h : Keeps s₀ s) : Keeps s₀ (stallSeg c col len s) :=
  addF_keeps (raise_keeps (modSeg_keeps h) _ _) _ _ _

theorem passEntry_keeps {c : Nat} {e : RingEntry} (h : Keeps s₀ s) : Keeps s₀ (passEntry c e s) :=
  modOut_keeps (modSeg_keeps h)

theorem modEntry_keeps {c seqNo : Nat} {f : RingEntry → RingEntry} (h : Keeps s₀ s) : Keeps s₀ (modEntry c seqNo f s) :=
  modOut_keeps h

theorem queuePacket_keeps {c tag : Nat} {marker : Bool} {pt ts : Nat} {payload : List Nat} (h : Keeps s₀ s) :
    Keeps s₀ (queuePacket c tag marker pt ts payload s) :=
  modOut_keeps (.foldl _ (fun _ _ hu => legTakes_keeps hu) h _)

theorem tsPush_keeps {c tag ts : Nat} {pkt : List Nat} (h : Keeps s₀ s) : Keeps s₀ (tsPush c tag ts pkt s) :=
  .ite (modOut_keeps h) (queuePacket_keeps (modOut_keeps h))

theorem tsSend_keeps {c tag ts pid : Nat} {start : Bool} {pcr : Option Nat} {l : List Nat} (h : Keeps s₀ s) :
    Keeps s₀ (tsSend c tag ts pid start pcr l s) :=
  tsPush_keeps (modOut_keeps h)

theorem tsData_keeps {c tag ts pid : Nat} {start : Bool} {pcr : Option Nat} {l : List Nat} (h : Keeps s₀ s) :
    Keeps s₀ (tsData c tag ts pid start pcr l s) :=
  .foldl _ (fun _ _ hu => tsSend_keeps hu) (tsSend_keeps h) _

theorem tsAudio_keeps {c tag n ts pts : Nat} (h : Keeps s₀ s) : Keeps s₀ (tsAudio c tag n ts pts s) :=
  .ite h (.foldl _ (fun _ _ hu => tsData_keeps hu) h _)

theorem tsSlice_keeps {c tag : Nat} {e : RingEntry} (h : Keeps s₀ s) : Keeps s₀ (tsSlice c tag e s) := by
  unfold tsSlice
  extract_lets +onlyGivenNames p vvc video x pts due s1
  have k2 : Keeps s₀ s1 := .ite (tsSend_keeps (tsSend_keeps (modOut_keeps h))) h
  exact .ite (tsAudio_keeps (tsData_keeps k2)) (tsData_keeps k2)

theorem sendSlice_keeps {c tag : Nat} {ends : Bool} {e : RingEntry} (h : Keeps s₀ s) : Keeps s₀ (sendSlice c tag ends e s) :=
  .ite (tsSlice_keeps h) (.foldl _ (fun _ _ hu => queuePacket_keeps hu) h _)

theorem sendFiller_keeps {c tag : Nat} {ends : Bool} {f : Filler} (h : Keeps s₀ s) : Keeps s₀ (sendFiller c tag ends f s) :=
  .ite (tsData_keeps h) (.foldl _ (fun _ _ hu => queuePacket_keeps hu) h _)

theorem releaseCopied_keeps {c : Nat} (h : Keeps s₀ s) : Keeps s₀ (releaseCopied c s) :=
  .foldl _ (fun _ _ hu => passEntry_keeps hu) h _

theorem copyOut_keeps {c : Nat} {e : RingEntry} (h : Keeps s₀ s) : Keeps s₀ (copyOut c e s) :=
  releaseCopied_keeps (raiseIf_keeps (raiseIf_keeps (modEntry_keeps (sendSlice_keeps (modOut_keeps h))) _ _ _) _ _ _)

theorem sendFillers_keeps {c : Nat} {sent : Bool} (h : Keeps s₀ s) : Keeps s₀ (sendFillers c sent s) :=
  .foldl _ (fun _ _ hu => .ite (sendFiller_keeps (modOut_keeps hu)) (modOut_keeps hu)) h _

theorem withhold_keeps {c : Nat} {e : RingEntry} (h : Keeps s₀ s) : Keeps s₀ (withhold c e s) :=
  passEntry_keeps (addF_keeps (subF_keeps h _ _ _) _ _ _)

theorem checkOnly_keeps {c : Nat} {bad : Bool} (h : Keeps s₀ s) : Keeps s₀ (checkOnly c bad s) :=
  .ite (raise_keeps (addF_keeps h _ _ _) _ _) h

theorem dropJobs_keeps {c : Nat} (h : Keeps s₀ s) : Keeps s₀ (dropJobs c s) :=
  h.frame (by rfl)

theorem muteChannel_keeps {c reason : Nat} {j : Join} (h : Keeps s₀ s) : Keeps s₀ (muteChannel c reason j s) := by
  unfold muteChannel
  extract_lets +onlyGivenNames p s1
  have k3 : Keeps s₀ s1 := .foldl _ (fun _ _ hu => .ite hu (withhold_keeps hu)) h _
  extract_lets +onlyGivenNames left s2
  have k5 : Keeps s₀ s2 := setF_keeps (setF_keeps (modEch_keeps (dropJobs_keeps k3)) _ _ _) _ _ _
  exact echRefresh_keeps (raise_keeps (setJoin_keeps (setAct_keeps (modTwn_keeps (modOut_keeps (lapse_keeps k5))) _ _ _)) _ _)

theorem diverge_keeps {c : Nat} (h : Keeps s₀ s) : Keeps s₀ (diverge c s) :=
  raise_keeps (addF_keeps (twinSend_keeps (muteChannel_keeps h)) _ _ _) _ _

theorem leadCopy_keeps {c : Nat} {rd : ReadBack} {e : RingEntry} (h : Keeps s₀ s) : Keeps s₀ (leadCopy c rd e s).2 := by
  unfold leadCopy
  extract_lets +onlyGivenNames p ring table
  split
  · exact copyOut_keeps (checkOnly_keeps (.ite h (modEntry_keeps h)))
  · exact raise_keeps (addF_keeps (addF_keeps (subF_keeps (modOut_keeps (passEntry_keeps h)) _ _ _) _ _ _) _ _ _) _ _

theorem followerCopy_keeps {c : Nat} {rd : ReadBack} {e : RingEntry} (h : Keeps s₀ s) : Keeps s₀ (followerCopy c rd e s).2 := by
  unfold followerCopy
  extract_lets +onlyGivenNames p
  split
  · exact .ite_snd (withhold_keeps h) (modEntry_keeps h)
  · extract_lets +onlyGivenNames s1
    split
    · exact withhold_keeps (modTwn_keeps h)
    · split
      · exact copyOut_keeps (checkOnly_keeps (modTwn_keeps h))
      · split
        · exact raise_keeps (addF_keeps (withhold_keeps (modTwn_keeps h)) _ _ _) _ _
        · exact .snd (diverge_keeps (modTwn_keeps h))

theorem copyEntry_keeps {c : Nat} {rd : ReadBack} {e : RingEntry} (h : Keeps s₀ s) : Keeps s₀ (copyEntry c rd e s).2 :=
  .ite_snd (followerCopy_keeps h) (leadCopy_keeps h)

theorem pushReady_keeps {c pic row due depart n first : Nat} (h : Keeps s₀ s) :
    Keeps s₀ (pushReady c pic row due depart n first s) :=
  .ite h (modOut_keeps h)

theorem copyRow_keeps {c : Nat} {r : EchRow} {depart : Nat} {l : List (RingEntry × ReadBack)} (h : Keeps s₀ s) :
    Keeps s₀ (copyRow c r depart l s) :=
  pushReady_keeps (sendFillers_keeps (.foldl_snd _ (fun _ _ hu => by exact copyEntry_keeps hu) h _))

theorem discardSlices_keeps {c : Nat} (h : Keeps s₀ s) : Keeps s₀ (discardSlices c s) :=
  setF_keeps (addF_keeps (modOut_keeps h) _ _ _) _ _ _

theorem outCommand_keeps {c : Nat} (h : Keeps s₀ s) : Keeps s₀ (outCommand c s) := by
  unfold outCommand
  extract_lets +onlyGivenNames p k a s0
  have k2 : Keeps s₀ s0 := .ite h (modOut_keeps h)
  split
  · exact k2
  · split
    · exact .ite k2 (.ite (setAct_keeps k2 _ _ _) (setAct_keeps (setF_keeps (modOut_keeps k2) _ _ _) _ _ _))
    · split
      · exact k2
      · extract_lets +onlyGivenNames s1
        have k3 : Keeps s₀ s1 := setAct_keeps (.ite (discardSlices_keeps k2) k2) _ _ _
        exact .ite (clearFields_keeps (k3.frame (by rfl)) _ _) k3

theorem outBoundary_keeps {c : Nat} (h : Keeps s₀ s) : Keeps s₀ (outBoundary c s) :=
  .ite (outCommand_keeps (takeGen_keeps h _)) h

theorem legPop_keeps {c leg : Nat} (h : Keeps s₀ s) (e : legPop c leg s = some t) : Keeps s₀ t := by
  unfold legPop at e
  extract_lets +onlyGivenNames at_ at e
  split at e
  · cases e
  · obtain ⟨u, hu, rfl⟩ := Option.map_eq_some_iff.1 e
    exact modOut_keeps (legSends_keeps h hu)

theorem popLeg_keeps {c leg fuel : Nat} (h : Keeps s₀ s) : Keeps s₀ (popLeg c leg fuel s) := by
  induction fuel generalizing s with
  | zero => exact h
  | succ fuel ih =>
    unfold popLeg
    split
    · exact h
    · split
      · exact h
      · split
        · exact h
        · rename_i e
          exact ih (legPop_keeps h e)

theorem sendLeg_keeps {c leg : Nat} (h : Keeps s₀ s) : Keeps s₀ (sendLeg c leg s) :=
  .ite h (popLeg_keeps h)

theorem departureOp_keeps {c : Nat} (h : Keeps s₀ s) : Keeps s₀ (departureOp c s) := by
  unfold departureOp
  extract_lets +onlyGivenNames p
  split
  · exact h
  · extract_lets +onlyGivenNames s1 late s2
    have k2 : Keeps s₀ s2 := sendLeg_keeps (sendLeg_keeps (modOut_keeps (reachNs_keeps h)))
    exact addF_keeps (subF_keeps (.ite k2 (setF_keeps k2 _ _ _)) _ _ _) _ _ _

theorem legTimesOut_keeps {p leg us : Nat} (h : Keeps s₀ s) : Keeps s₀ (legTimesOut p leg us s) :=
  legDrops_keeps (endStalls_keeps (advanceTo_keeps h _))

theorem legStallTimeoutOp_keeps {o : LegOwner} {leg : Nat} (h : Keeps s₀ s) : Keeps s₀ (legStallTimeoutOp o leg s) := by
  unfold legStallTimeoutOp
  split
  · exact .ite h (releaseCopied_keeps (modOut_keeps (legTimesOut_keeps h)))
  · exact .ite h (modSnd_keeps (legTimesOut_keeps h))

theorem legDropEndOp_keeps {o : LegOwner} {leg : Nat} (h : Keeps s₀ s) : Keeps s₀ (legDropEndOp o leg s) := by
  unfold legDropEndOp
  split
  · exact .ite (modOut_keeps h) h
  · exact .ite (modSnd_keeps h) h

theorem ringPeakClear_keeps {c : Nat} (h : Keeps s₀ s) : Keeps s₀ (ringPeakClear c s) :=
  modSeg_keeps h

/-! ## Ethernet ports (chapter 11) -/

theorem ptpAfterPort_keeps {i : Nat} (h : Keeps s₀ s) : Keeps s₀ (ptpAfterPort i s) :=
  .ite h (holdoverIf_keeps (reselect_keeps h))

theorem legsOfPortDown_keeps {i : Nat} (h : Keeps s₀ s) : Keeps s₀ (legsOfPortDown i s) :=
  .ite h (.foldl _ (fun _ _ hu => legsDown_keeps hu) (.foldl _ (fun _ _ hu => releaseCopied_keeps (legsDown_keeps hu)) h _) _)

theorem subportDown_keeps {i k : Nat} (h : Keeps s₀ s) : Keeps s₀ (subportDown i k s) := by
  unfold subportDown
  extract_lets +onlyGivenNames p s0
  split
  · exact modEth_keeps h
  · extract_lets +onlyGivenNames up s1
    have k2 : Keeps s₀ s1 := emit_keeps (raise_keeps (addF_keeps (setF_keeps (modEth_keeps h) _ _ _) _ _ _) _ _) _ _ _
    exact .ite k2 (ptpAfterPort_keeps (legsOfPortDown_keeps (.ite (setAct_keeps (raise_keeps k2 _ _) _ _ _)
      (raise_keeps k2 _ _))))

theorem portDown_keeps {i : Nat} (h : Keeps s₀ s) : Keeps s₀ (portDown i s) :=
  .foldl _ (fun _ _ hu => subportDown_keeps hu) h _

theorem portLaneUp_keeps {l : Nat} (h : Keeps s₀ s) : Keeps s₀ (portLaneUp l s) :=
  .ite (modEth_keeps h) h

theorem showSpeed_keeps (h : Keeps s₀ s) : Keeps s₀ (showSpeed s) :=
  .ite (setF_keeps h _ _ _) h

theorem linkUpOp_keeps {i k speed : Nat} (h : Keeps s₀ s) : Keeps s₀ (linkUpOp i k speed s) := by
  unfold linkUpOp
  extract_lets +onlyGivenNames p
  split
  · exact h
  · split
    · exact h
    · extract_lets +onlyGivenNames s0 first an s1
      have k3 : Keeps s₀ s1 := setF_keeps (setF_keeps (setF_keeps (setF_keeps (advanceTo_keeps h _) _ _ _) _ _ _) _ _ _) _ _ _
      extract_lets +onlyGivenNames s2
      have k5 : Keeps s₀ s2 := .ite (showSpeed_keeps (modEth_keeps k3)) k3
      exact ptpAfterPort_keeps (.ite (setAct_keeps (raise_keeps (raise_keeps k5 _ _) _ _) _ _ _) (raise_keeps k5 _ _))

theorem sendPause_keeps {i prio quanta : Nat} (h : Keeps s₀ s) : Keeps s₀ (sendPause i prio quanta s) :=
  .foldl _ (fun _ _ hu => emit_keeps (ethSent_keeps (addF_keeps hu _ _ _)) _ _ _) h _

theorem settleXoff_keeps {i : Nat} (h : Keeps s₀ s) : Keeps s₀ (settleXoff i s) := by
  unfold settleXoff
  extract_lets +onlyGivenNames want have_ s1
  have k2 : Keeps s₀ s1 := .foldl _ (fun _ _ hu => modEth_keeps (sendPause_keeps hu)) h _
  exact setF_keeps (.foldl _ (fun _ _ hu => modEth_keeps (sendPause_keeps hu)) k2 _) _ _ _

theorem ethCommand_keeps {i : Nat} (h : Keeps s₀ s) : Keeps s₀ (ethCommand i s) := by
  unfold ethCommand
  extract_lets +onlyGivenNames p c s0
  have k2 : Keeps s₀ s0 := settleXoff_keeps (setF_keeps h _ _ _)
  extract_lets +onlyGivenNames a
  split
  · exact k2
  · split
    · exact .ite (lanesCommand_keeps (.ite (showSpeed_keeps k2) k2)) (lanesCommand_keeps (setAct_keeps k2 _ _ _))
    · split
      · exact plainCommand_keeps (lanesCommand_keeps k2) _
      · extract_lets +onlyGivenNames s1
        have k3 : Keeps s₀ s1 := setAct_keeps (lanesCommand_keeps (portDown_keeps (setF_keeps k2 _ _ _))) _ _ _
        exact .ite (modEth_keeps (clearFields_keeps k3 _ _)) k3

theorem ethMode_keeps {i before : Nat} (h : Keeps s₀ s) : Keeps s₀ (ethMode i before s) :=
  .ite (.foldl _ (fun _ _ hu => laneBringUp_keeps hu) h _) h

theorem ethTake_keeps {i : Nat} (h : Keeps s₀ s) : Keeps s₀ (ethTake i s) :=
  ethMode_keeps (ethCommand_keeps (takeGen_keeps h _))

theorem ethBoundary_keeps {i : Nat} (h : Keeps s₀ s) : Keeps s₀ (ethBoundary i s) :=
  .ite (ethTake_keeps h) h

theorem ethRestart_keeps {i : Nat} (h : Keeps s₀ s) : Keeps s₀ (ethRestart i s) :=
  .ite (ethTake_keeps h) h

theorem linkDownOp_keeps {i k : Nat} {cause : DownCause} {mid : Bool} (h : Keeps s₀ s) :
    Keeps s₀ (linkDownOp i k cause mid s) := by
  unfold linkDownOp
  split
  · exact h
  · extract_lets +onlyGivenNames p s0
    have k2 : Keeps s₀ s0 := .ite (ethReject_keeps h) h
    extract_lets +onlyGivenNames s1
    have k3 : Keeps s₀ s1 := by
      unfold s1
      split
      · exact k2
      · exact raise_keeps (setF_keeps k2 _ _ _) _ _
      · exact raise_keeps (setF_keeps k2 _ _ _) _ _
    exact ethRestart_keeps (.ite (modEth_keeps (subportDown_keeps k3)) (subportDown_keeps k3))

theorem pauseFrameOp_keeps {i k : Nat} {pfc : Bool} {quanta : List (Nat × Nat)} (h : Keeps s₀ s) :
    Keeps s₀ (pauseFrameOp i k pfc quanta s) := by
  unfold pauseFrameOp
  extract_lets +onlyGivenNames s
  split
  · exact ethBoundary_keeps h
  · extract_lets +onlyGivenNames s1
    have k1 : Keeps s₀ s1 := addF_keeps (ethDelivered_keeps (ethReceived_keeps (ethBoundary_keeps h))) _ _ _
    exact .ite k1 (.foldl _ (fun _ _ hu => modEth_keeps hu) k1 _)

theorem hostSend_keeps {i k : Nat} {data : List Nat} (h : Keeps s₀ s) : Keeps s₀ (hostSend i k data s) :=
  writePkt_keeps h

theorem flowSeen_keeps {fl : Sys2Proof.Flow} {legB : Bool} (h : Keeps s₀ s) : Keeps s₀ (flowSeen fl legB s) := by
  unfold flowSeen
  split
  · exact ingSeen_keeps h
  · exact dchSeen_keeps h

theorem flowArrive_keeps {w : WaitFrame} {fl : Sys2Proof.Flow} {fc : Bool} (h : Keeps s₀ s) :
    Keeps s₀ (flowArrive w fl fc s).2 := by
  unfold flowArrive
  split
  · exact ingArrive_keeps h
  · exact dchArrive_keeps h

theorem flowReject_keeps {fl : Sys2Proof.Flow} {reason : Nat} (h : Keeps s₀ s) : Keeps s₀ (flowReject fl reason s) := by
  unfold flowReject
  split
  · exact flowDrop_keeps (subF_keeps h _ _ _)
  · exact flowDrop_keeps (subF_keeps h _ _ _)

theorem writeFrame_keeps {i : Nat} {w : WaitFrame} {fc : Bool} (h : Keeps s₀ s) : Keeps s₀ (writeFrame i w fc s).2 := by
  unfold writeFrame
  split
  · extract_lets +onlyGivenNames r
    split
    · exact flowArrive_keeps h
    · exact ethDropped_keeps (subF_keeps (flowArrive_keeps h) _ _ _)
    · exact ethDelivered_keeps (subF_keeps (flowArrive_keeps h) _ _ _)
  · split
    · exact .ite (ethDelivered_keeps (subF_keeps (commitPkt_keeps h) _ _ _)) (commitPkt_keeps h)
    · exact .ite_snd h (ethDropped_keeps (subF_keeps (rewind_keeps (modQueue_keeps h)) _ _ _))

theorem bufferFrame_keeps {i : Nat} {w : WaitFrame} (h : Keeps s₀ s) : Keeps s₀ (bufferFrame i w s) := by
  unfold bufferFrame
  split
  · exact modEth_keeps h
  · extract_lets +onlyGivenNames s1
    have k1 : Keeps s₀ s1 := by
      unfold s1
      split
      · exact flowReject_keeps h
      · exact h
    exact raise_keeps (addF_keeps (ethDropped_keeps (subF_keeps k1 _ _ _)) _ _ _) _ _

theorem takeFrame_keeps {i : Nat} {w : WaitFrame} (h : Keeps s₀ s) : Keeps s₀ (takeFrame i w s) := by
  unfold takeFrame
  extract_lets +onlyGivenNames s0
  have k1 : Keeps s₀ s0 := by
    unfold s0
    split
    · exact flowSeen_keeps h
    · exact h
  extract_lets +onlyGivenNames s1 fc
  split
  · exact bufferFrame_keeps (addF_keeps k1 _ _ _)
  · extract_lets +onlyGivenNames r
    split
    · exact bufferFrame_keeps (addF_keeps k1 _ _ _)
    · exact writeFrame_keeps (addF_keeps k1 _ _ _)

theorem fecUncorrectable_keeps {i : Nat} (h : Keeps s₀ s) : Keeps s₀ (fecUncorrectable i s) :=
  .ite (raise_keeps (modEth_keeps (addF_keeps h _ _ _)) _ _) (addF_keeps h _ _ _)

theorem hostAnswer_keeps {i : Nat} {f : PortFrame} (h : Keeps s₀ s) : Keeps s₀ (hostAnswer i f s) := by
  unfold hostAnswer
  split
  · exact .foldl _ (fun _ _ hu => hostSend_keeps hu) h _
  · exact modEth_keeps h
  · exact h

theorem portFrameOp_keeps {i : Nat} {f : PortFrame} (h : Keeps s₀ s) : Keeps s₀ (portFrameOp i f s) := by
  unfold portFrameOp
  extract_lets +onlyGivenNames s
  split
  · exact ethBoundary_keeps h
  · extract_lets +onlyGivenNames s0
    have k2 : Keeps s₀ s0 := addF_keeps (ethReceived_keeps (ethBoundary_keeps h)) _ _ _
    extract_lets +onlyGivenNames s1
    have k3 : Keeps s₀ s1 := .ite (fecUncorrectable_keeps k2) k2
    extract_lets +onlyGivenNames claim bad
    split
    · exact ethDropped_keeps (.ite (rewind_keeps k3) k3)
    · split
      · exact ethDropped_keeps (.ite (rewind_keeps k3) k3)
      · split
        · exact ethDropped_keeps k3
        · clear_value claim
          split
          · exact ethDropped_keeps k3
          · exact hostAnswer_keeps (takeFrame_keeps k3)
          · exact takeFrame_keeps k3

theorem portMFrameOp_keeps {f : PortFrame} (h : Keeps s₀ s) : Keeps s₀ (portMFrameOp f s) := by
  unfold portMFrameOp
  extract_lets +onlyGivenNames s
  split
  · exact ethBoundary_keeps h
  · extract_lets +onlyGivenNames s1
    have k2 : Keeps s₀ s1 := ethReceived_keeps (ethBoundary_keeps h)
    split
    · exact ethDropped_keeps k2
    · split
      · exact ethDropped_keeps k2
      · split
        · exact ethDropped_keeps k2
        · split
          · exact .ite (.foldl _ (fun _ _ hu => emit_keeps (ethSent_keeps hu) _ _ _) (ethDelivered_keeps k2) _)
              (ethDropped_keeps k2)
          · exact .ite (addF_keeps k2 _ _ _) (ethDropped_keeps k2)
          · exact .ite (addF_keeps k2 _ _ _) (ethDropped_keeps k2)
          · exact ethDropped_keeps k2

theorem sendControl_keeps {i k : Nat} (h : Keeps s₀ s) (e : sendControl i k s = some t) : Keeps s₀ t := by
  unfold sendControl at e
  split at e
  · cases e
  · rename_i hx
    cases e
    exact emit_keeps (ethSent_keeps (popPkt_keeps h hx)) _ _ _

theorem frameTransmitOp_keeps {i k : Nat} (h : Keeps s₀ s) : Keeps s₀ (frameTransmitOp i k s) := by
  unfold frameTransmitOp
  extract_lets +onlyGivenNames u own ptp
  have k0 : Keeps s₀ u := ethBoundary_keeps h
  have kp {t : State} (e : ptp = some t) : Keeps s₀ t := by
    unfold ptp at e
    split at e
    · exact sendControl_keeps k0 e
    · cases e
  clear_value ptp
  split
  · exact kp rfl
  · split
    · exact .getD (fun _ e => legPop_keeps k0 e) k0
    · split
      · exact sndPop_keeps k0
      · exact .ite (.getD (fun _ e => sendControl_keeps k0 e) k0) k0

/-! ## Rows of an encode channel -/

theorem stopReading_keeps {c : Nat} (h : Keeps s₀ s) : Keeps s₀ (stopReading c s) :=
  .ite h (quitPage_keeps h)

theorem echClear_keeps {c : Nat} (h : Keeps s₀ s) : Keeps s₀ (echClear c s) :=
  clearFields_keeps (h.frame (by rfl)) _ _

theorem echCommand_keeps {c : Nat} (h : Keeps s₀ s) : Keeps s₀ (echCommand c s) := by
  unfold echCommand
  extract_lets +onlyGivenNames p k a
  split
  · exact h
  · split
    · exact .ite h (setAct_keeps h _ _ _)
    · split
      · exact .ite h (setAct_keeps (modEch_keeps h) _ _ _)
      · split
        · exact h
        · extract_lets +onlyGivenNames s1
          have k2 : Keeps s₀ s1 := .ite (accountLeaves_keeps (dropJoin_keeps h)) h
          exact echRefresh_keeps (.ite (echClear_keeps (setAct_keeps k2 _ _ _)) (setAct_keeps k2 _ _ _))

theorem startPicture_keeps {c : Nat} {forced : Bool} (h : Keeps s₀ s) : Keeps s₀ (startPicture c forced s) :=
  setF_keeps (setF_keeps (modEch_keeps h) _ _ _) _ _ _

theorem takeEchGen_keeps {c : Nat} (h : Keeps s₀ s) : Keeps s₀ (takeEchGen c s).2 := by
  unfold takeEchGen
  extract_lets +onlyGivenNames p
  split
  · exact h
  · extract_lets +onlyGivenNames forced s1
    have k1 : Keeps s₀ s1 := takeWith_keeps h _ _ (fun _ hu => echCommand_keeps hu)
    exact .ite (raiseIf_keeps (setSh_keeps k1 _ _ _) _ _ _) k1

theorem stampPicture_keeps {c n feed rtp : Nat} (h : Keeps s₀ s) : Keeps s₀ (stampPicture c n feed rtp s) :=
  modEch_keeps h

theorem sampleEffort_keeps {c eff level : Nat} (h : Keeps s₀ s) : Keeps s₀ (sampleEffort c eff level s) :=
  setF_keeps (setF_keeps (setF_keeps (raiseIf_keeps (raiseIf_keeps h _ _ _) _ _ _) _ _ _) _ _ _) _ _ _

theorem noteSource_keeps {c feed : Nat} (h : Keeps s₀ s) : Keeps s₀ (noteSource c feed s) :=
  setF_keeps (raiseIf_keeps (raiseIf_keeps h _ _ _) _ _ _) _ _ _

theorem showRecord_keeps {c : Nat} {bytes : List Byte} (h : Keeps s₀ s) : Keeps s₀ (showRecord c bytes s) :=
  .foldl _ (fun _ _ hu => setF_keeps hu _ _ _) h _

theorem openRecord_keeps {c : Nat} {lead : Option RecBody} (h : Keeps s₀ s) : Keeps s₀ (openRecord c lead s).2 := by
  unfold openRecord
  extract_lets +onlyGivenNames p n k g s0
  have k0 : Keeps s₀ s0 := by
    refine takeGen_keeps ?_ _
    unfold g
    split
    · exact takeEchGen_keeps h
    · exact h
  split
  · exact k0
  · extract_lets +onlyGivenNames s1 own feed rtp level eff s2 s3 entries
    have k1 : Keeps s₀ s1 := .ite (startPicture_keeps k0) k0
    have k2 : Keeps s₀ s2 := sampleEffort_keeps (noteSource_keeps k1)
    exact .ite (stampPicture_keeps (addF_keeps k2 _ _ _)) k2

theorem planGrant_keeps {x : Plan} (h : Keeps s₀ s) : Keeps s₀ (planGrant x s).2 := by
  unfold planGrant
  extract_lets +onlyGivenNames due
  split
  · split
    · exact takeGrant_keeps (addF_keeps h _ _ _)
    · exact settleLoan_keeps h
  · exact settleLoan_keeps h

theorem planSettle_keeps {x : Plan} (h : Keeps s₀ s) : Keeps s₀ (planSettle x s).2 :=
  settlePicture_keeps (capAccount_keeps h)

theorem noteComplexity_keeps {c n k feed : Nat} (h : Keeps s₀ s) : Keeps s₀ (noteComplexity c n k feed s) :=
  modEch_keeps h

theorem pushRow_keeps {x : Plan} {budget qp : Nat} (h : Keeps s₀ s) : Keeps s₀ (pushRow x budget qp s) :=
  modEch_keeps h

theorem planBudget_keeps {x : Plan} (h : Keeps s₀ s) : Keeps s₀ (planBudget x s) :=
  askLoan_keeps (pushRow_keeps (noteComplexity_keeps (setBudget_keeps h)))

theorem closeRecord_keeps {x : Plan} (h : Keeps s₀ s) : Keeps s₀ (closeRecord x s) := by
  unfold closeRecord
  extract_lets +onlyGivenNames c y rcl mux changed b bytes s1
  have k1 : Keeps s₀ s1 := showRecord_keeps (modEch_keeps h)
  exact .ite (addF_keeps (twinSend_keeps (modTwn_keeps k1)) _ _ _) k1

theorem eachPlan_keeps {f : Plan → State → Plan × State} {l : List Plan} (h : Keeps s₀ s)
    (hf : ∀ x u, Keeps s₀ u → Keeps s₀ (f x u).2) : Keeps s₀ (eachPlan f l s).2 :=
  .foldl_snd _ (fun _ _ hu => by exact hf _ _ hu) h _

theorem formRows_keeps {l : List (Nat × Option RecBody)} (h : Keeps s₀ s) : Keeps s₀ (formRows l s) := by
  unfold formRows
  extract_lets +onlyGivenNames a s1 s2 b s3 d s4 s5
  have k1 : Keeps s₀ s1 := .foldl _ (fun _ _ hu => groupBoundary_keeps hu)
    (.foldl_snd _ (fun _ _ hu => by exact openRecord_keeps hu) h _) _
  have k2 : Keeps s₀ s2 := .foldl _ (fun _ _ hu => accrueRow_keeps hu) k1 _
  have k3 : Keeps s₀ s3 := .foldl _ (fun _ _ hu => returnUnspent_keeps hu)
    (eachPlan_keeps k2 (fun _ _ hu => planGrant_keeps hu)) _
  have k4 : Keeps s₀ s4 := .foldl _ (fun _ _ hu => planBudget_keeps hu)
    (eachPlan_keeps k3 (fun _ _ hu => planSettle_keeps hu)) _
  have k5 : Keeps s₀ s5 := .foldl _ (fun _ _ hu => .ite (answerLoan_keeps hu) hu) k4 _
  exact .foldl _ (fun _ _ hu => closeRecord_keeps hu) k5 _

theorem mutedBoundary_keeps {c : Nat} (h : Keeps s₀ s) : Keeps s₀ (mutedBoundary c s) :=
  .ite (takeEchGen_keeps h) h

theorem modRow_keeps {c n k : Nat} {f : EchRow → EchRow} (h : Keeps s₀ s) : Keeps s₀ (modRow c n k f s) :=
  modEch_keeps h

theorem pushJob_keeps {c q : Nat} {r : EchRow} {at_ : Nat} (h : Keeps s₀ s) : Keeps s₀ (pushJob c q r at_ s) :=
  modCore_keeps h

theorem lateSource_keeps {c : Nat} {r : EchRow} (h : Keeps s₀ s) : Keeps s₀ (lateSource c r s) :=
  .ite h (raise_keeps (.foldl _ (fun _ _ hu => putRow_keeps hu) h _) _ _)

theorem releaseRow_keeps {c : Nat} {corrected : Bool} {requests misses : Nat} {ready : Bool} {r : EchRow} (h : Keeps s₀ s) :
    Keeps s₀ (releaseRow c corrected requests misses ready r s) := by
  unfold releaseRow
  extract_lets +onlyGivenNames p s1 t at_ cores s2
  have k2 : Keeps s₀ s2 := modRow_keeps (.foldl _ (fun _ _ hu => pushJob_keeps hu)
    (.ite (reachNs_keeps h) (lateSource_keeps (reachNs_keeps h))) _)
  extract_lets +onlyGivenNames s3
  have k3 : Keeps s₀ s3 := setF_keeps (setF_keeps (setF_keeps k2 _ _ _) _ _ _) _ _ _
  split
  · exact k3
  · exact addF_keeps (addF_keeps (raiseIf_keeps k3 _ _ _) _ _ _) _ _ _

theorem feedAs_keeps {pg n kind : Nat} {key : Option Nat} (h : Keeps s₀ s) : Keeps s₀ (feedAs pg n kind key s) :=
  .ite (modDch_keeps h) (modIng_keeps h)

theorem concealFromLead_keeps {c i n k key : Nat} {entries : List Nat} (h : Keeps s₀ s) :
    Keeps s₀ (concealFromLead c i n k key entries s) :=
  .foldl _ (fun _ _ hu => .foldl _ (fun _ _ hu => modIng_keeps hu) hu _) (modIng_keeps h) _

theorem dropBefore_keeps {i : Nat} {fed : RingSlot} (h : Keeps s₀ s) : Keeps s₀ (dropBefore i fed s) :=
  .foldl _ (fun _ _ hu => dropPicture_keeps hu) h _

theorem concealDchFromLead_keeps {c i n k uid : Nat} {entries : List Nat} (h : Keeps s₀ s) :
    Keeps s₀ (concealDchFromLead c i n k uid entries s) :=
  modDch_keeps h

theorem feedFromLead_keeps {c n k : Nat} {b : RecBody} (h : Keeps s₀ s) (e : feedFromLead c n k b s = some t) : Keeps s₀ t := by
  simp only [feedFromLead] at e
  split at e
  · cases e
    exact h
  · split at e
    · cases e
      exact feedAs_keeps h
    · split at e
      · split at e
        · cases e
        · cases e
          exact concealDchFromLead_keeps (feedAs_keeps h)
      · split at e
        · cases e
        · cases e
          exact concealFromLead_keeps (feedAs_keeps (modIng_keeps (dropBefore_keeps h)))

theorem dropRecord_keeps {r : TwRec} (h : Keeps s₀ s) : Keeps s₀ (dropRecord r s) :=
  modTwn_keeps h

theorem loadLeadRow_keeps {c : Nat} (h : Keeps s₀ s) : Keeps s₀ (loadLeadRow c s) := by
  unfold loadLeadRow
  split
  · exact h
  · split
    · exact h
    · split
      · exact diverge_keeps (dropRecord_keeps h)
      · rename_i e
        exact formRows_keeps (feedFromLead_keeps (dropRecord_keeps h) e)

theorem recordCycle_keeps {c : Nat} (h : Keeps s₀ s) : Keeps s₀ (recordCycle c s) :=
  .foldl _ (fun _ _ hu => modEch_keeps hu) (formRows_keeps h) _

theorem rowRecordOp_keeps {c : Nat} (h : Keeps s₀ s) : Keeps s₀ (rowRecordOp c s) := by
  unfold rowRecordOp
  split
  · exact h
  · extract_lets +onlyGivenNames t
    have k1 : Keeps s₀ t := allBandsDue_keeps h
    split
    · exact recordCycle_keeps k1
    · split
      · exact recordCycle_keeps (dropRecord_keeps k1)
      · rename_i e
        exact formRows_keeps (feedFromLead_keeps (dropRecord_keeps k1) e)

theorem noteLeadRecord_keeps {c : Nat} {r : TwRec} (h : Keeps s₀ s) (e : noteLeadRecord c r s = some t) : Keeps s₀ t := by
  obtain ⟨u, hu, rfl⟩ := Option.map_eq_some_iff.1 e
  exact showRecord_keeps (sampleEffort_keeps (noteSource_keeps (feedFromLead_keeps (dropRecord_keeps h) hu)))

theorem prepareRow_keeps {c : Nat} (h : Keeps s₀ s) : Keeps s₀ (prepareRow c s) := by
  unfold prepareRow
  split
  · exact loadLeadRow_keeps h
  · split
    · exact h
    · split
      · rename_i e
        exact modRow_keeps (noteLeadRecord_keeps h e)
      · exact diverge_keeps h

theorem rowReleaseOp_keeps {c : Nat} {corrected : Bool} {requests misses : Nat} {ready : Bool} (h : Keeps s₀ s) :
    Keeps s₀ (rowReleaseOp c corrected requests misses ready s) := by
  unfold rowReleaseOp
  extract_lets +onlyGivenNames mine
  split
  · exact h
  · extract_lets +onlyGivenNames s1
    have k1 : Keeps s₀ s1 := .ite (prepareRow_keeps h) h
    split
    · exact k1
    · exact .ite k1 (releaseRow_keeps k1)

theorem settleJoin_keeps {c : Nat} (h : Keeps s₀ s) : Keeps s₀ (settleJoin c s) :=
  .ite (echRefresh_keeps (addF_keeps (raise_keeps (setAct_keeps (setJoin_keeps h) _ _ _) _ _) _ _ _)) h

theorem comparePics_keeps {c n : Nat} (h : Keeps s₀ s) : Keeps s₀ (comparePics c n s) :=
  .ite (.ite (diverge_keeps h) h) (.ite (settleJoin_keeps (modTwn_keeps h)) h)

theorem mapCore_keeps {q l : Nat} (h : Keeps s₀ s) : Keeps s₀ (mapCore q l s) :=
  setF_keeps (setF_keeps (setF_keeps (setF_keeps h _ _ _) _ _ _) _ _ _) _ _ _

theorem startGolden_keeps {q : Nat} (h : Keeps s₀ s) : Keeps s₀ (startGolden q s) :=
  setAct_keeps (setF_keeps h _ _ _) _ _ _

theorem endStep_keeps {last : Nat} (h : Keeps s₀ s) : Keeps s₀ (endStep last s) :=
  setF_keeps (h.frame (by rfl)) _ _ _

theorem coreChanged_keeps {l : List Nat} (h : Keeps s₀ s) : Keeps s₀ (coreChanged l s) :=
  .foldl _ (fun _ _ hu => raise_keeps hu _ _) h _

theorem completeStep_keeps (h : Keeps s₀ s) : Keeps s₀ (completeStep s) := by
  unfold completeStep
  extract_lets +onlyGivenNames l x q s1
  have k3 : Keeps s₀ s1 := mapCore_keeps (setF_keeps (setF_keeps (coreChanged_keeps h) _ _ _) _ _ _)
  extract_lets +onlyGivenNames s2
  have k5 : Keeps s₀ s2 := raise_keeps (raise_keeps k3 _ _) _ _
  exact endStep_keeps (encRefresh_keeps (startGolden_keeps (setAct_keeps (addF_keeps (setF_keeps k5 _ _ _) _ _ _) _ _ _)))

theorem finishRotation_keeps (h : Keeps s₀ s) : Keeps s₀ (finishRotation s) :=
  .ite (completeStep_keeps h) h

theorem shadowCompare_keeps {c col : Nat} {r : EchRow} {slice : List Byte} {diff : List (Nat × Byte)} (h : Keeps s₀ s) :
    Keeps s₀ (shadowCompare c col r slice diff s) := by
  unfold shadowCompare
  extract_lets +onlyGivenNames l
  split
  · exact h
  · extract_lets +onlyGivenNames x q note s1
    have hn {pg : Nat} {u : State} (hu : Keeps s₀ u) : Keeps s₀ (note pg u) := addF_keeps
      (raise_keeps (raise_keeps hu _ _) _ _) _ _ _
    have k1 : Keeps s₀ s1 := hn (hn (endStep_keeps h))
    clear_value s1
    exact startGolden_keeps (setF_keeps (setF_keeps (k1.frame (by rfl)) _ _ _) _ _ _)

theorem finishSlice_keeps {c col stall : Nat} {r : EchRow} (h : Keeps s₀ s) : Keeps s₀ (finishSlice c col stall r s) := by
  unfold finishSlice
  split
  · exact h
  · exact finishJob_keeps h

theorem coreCounts_keeps {c col : Nat} {run : SliceRun} {r : EchRow} (h : Keeps s₀ s) :
    Keeps s₀ (coreCounts c col run r s) := by
  unfold coreCounts
  split
  · exact h
  · extract_lets +onlyGivenNames p t s1
    have k1 : Keeps s₀ s1 := addF_keeps (addF_keeps (raiseIf_keeps h _ _ _) _ _ _) _ _ _
    exact .ite (raise_keeps (addF_keeps k1 _ _ _) _ _) (setF_keeps k1 _ _ _)

theorem pictureCompletes_keeps {c n : Nat} (h : Keeps s₀ s) : Keeps s₀ (pictureCompletes c n s) :=
  .ite (addF_keeps (modEch_keeps h) _ _ _) (doneWith_keeps (addF_keeps (modEch_keeps h) _ _ _))

theorem rowCompletes_keeps {c : Nat} {r : EchRow} (h : Keeps s₀ s) : Keeps s₀ (rowCompletes c r s) := by
  unfold rowCompletes
  extract_lets +onlyGivenNames p fl s1
  have k2 : Keeps s₀ s1 := setF_keeps (addF_keeps h _ _ _) _ _ _
  extract_lets +onlyGivenNames s2
  have k3 : Keeps s₀ s2 := .ite (raiseIf_keeps (addF_keeps k2 _ _ _) _ _ _) k2
  exact .ite k3 (pictureCompletes_keeps k3)

theorem twinSlice_keeps {c col : Nat} {r : EchRow} {e : RingEntry} {replace : Bool} (h : Keeps s₀ s) :
    Keeps s₀ (twinSlice c col r e replace s) := by
  unfold twinSlice
  extract_lets +onlyGivenNames lastRow
  split
  · extract_lets +onlyGivenNames s1
    have k2 : Keeps s₀ s1 := .ite h (twinSend_keeps h)
    extract_lets +onlyGivenNames s2
    have k3 : Keeps s₀ s2 := .ite (twinSend_keeps k2) k2
    split
    · exact .ite (twinSend_keeps (modTwn_keeps k3)) k3
    · exact k3
  · split
    · extract_lets +onlyGivenNames s1
      have k4 : Keeps s₀ s1 := .ite (comparePics_keeps (modTwn_keeps h)) h
      split
      · exact .ite (diverge_keeps k4) k4
      · exact k4
    · exact h

theorem slotSlice_keeps {c col kind depart : Nat} {z : SliceOf} {run : SliceRun} {r : EchRow} (h : Keeps s₀ s) :
    Keeps s₀ (slotSlice c col kind depart z run r s) := by
  unfold slotSlice
  extract_lets +onlyGivenNames e s1
  have k8 : Keeps s₀ s1 := countTokens_keeps (coreCounts_keeps (storeCtus_keeps (closeSlice_keeps h)))
  extract_lets +onlyGivenNames excess r1 s2 s3
  have k10 : Keeps s₀ s3 := .ite (rowCompletes_keeps (modRow_keeps k8)) (modRow_keeps k8)
  extract_lets +onlyGivenNames s4
  have k11 : Keeps s₀ s4 := finishRotation_keeps (shadowCompare_keeps (twinSlice_keeps k10))
  exact .ite (copyRow_keeps k11) k11

theorem sliceCloseOp_keeps {c col : Nat} {run : SliceRun} (h : Keeps s₀ s) : Keeps s₀ (sliceCloseOp c col run s) := by
  unfold sliceCloseOp
  split
  · exact h
  · extract_lets +onlyGivenNames g
    split
    · exact h
    · extract_lets +onlyGivenNames s0
      have k1 : Keeps s₀ s0 := finishSlice_keeps (outBoundary_keeps h)
      exact .ite k1 (.ite (stallSeg_keeps k1) (slotSlice_keeps k1))

theorem ringResumeOp_keeps {c col : Nat} (h : Keeps s₀ s) : Keeps s₀ (ringResumeOp c col s) := by
  unfold ringResumeOp
  extract_lets +onlyGivenNames g z
  split
  · exact h
  · split
    · exact h
    · extract_lets +onlyGivenNames s1
      split
      · exact modSeg_keeps h
      · exact addF_keeps (modCore_keeps (modSeg_keeps h)) _ _ _

theorem bookmarkOverrunOp_keeps {c col : Nat} {read : ReadFault} (h : Keeps s₀ s) :
    Keeps s₀ (bookmarkOverrunOp c col read s) := by
  unfold bookmarkOverrunOp
  split
  · exact h
  · extract_lets +onlyGivenNames p s0
    have k2 : Keeps s₀ s0 := finishSlice_keeps (outBoundary_keeps h)
    extract_lets +onlyGivenNames z
    split
    · exact h
    · extract_lets +onlyGivenNames s1
      have k3 : Keeps s₀ s1 := by
        unfold s1
        split
        · exact k2
        · exact reachNs_keeps (modCore_keeps k2)
      exact slotSlice_keeps (raise_keeps (addF_keeps (addF_keeps (addF_keeps k3 _ _ _) _ _ _) _ _ _) _ _)

theorem lateRow_keeps {c : Nat} {late : Bool} (h : Keeps s₀ s) : Keeps s₀ (lateRow c late s) :=
  .ite (addF_keeps (raise_keeps h _ _) _ _ _) h

theorem noteFiller_keeps {c : Nat} {r : EchRow} (h : Keeps s₀ s) : Keeps s₀ (noteFiller c r s) :=
  .ite h (modOut_keeps h)

theorem windowCloseOp_keeps {c : Nat} {reads : List ReadFault} (h : Keeps s₀ s) : Keeps s₀ (windowCloseOp c reads s) := by
  unfold windowCloseOp
  split
  · exact h
  · exact copyRow_keeps (noteFiller_keeps (lateRow_keeps (modRow_keeps (outBoundary_keeps (reachNs_keeps h)))))

theorem recodeTime_keeps {c col : Nat} (h : Keeps s₀ s) : Keeps s₀ (recodeTime c col s) := by
  unfold recodeTime
  split
  · exact h
  · exact reachNs_keeps (modCore_keeps h)

theorem recodeOp_keeps {c col : Nat} {read : ReadFault} (h : Keeps s₀ s) : Keeps s₀ (recodeOp c col read s) := by
  unfold recodeOp
  split
  · exact h
  · extract_lets +onlyGivenNames p old s1 gone depart r z e s2
    have k2 : Keeps s₀ s2 := raiseIf_keeps
      (addF_keeps (storeCtus_keeps (closeSlice_keeps (modOut_keeps (recodeTime_keeps h)))) _ _ _) _ _ _
    exact copyRow_keeps (twinSlice_keeps k2)

/-! ## Use of units -/

theorem setUnit_keeps {cls u v : Nat} (h : Keeps s₀ s) : Keeps s₀ (setUnit cls u v s) :=
  h.frame (by rfl)

theorem startWake_keeps {cls u : Nat} (h : Keeps s₀ s) : Keeps s₀ (startWake cls u s) :=
  .ite h (h.frame (by rfl))

theorem settleEngines_keeps (h : Keeps s₀ s) : Keeps s₀ (settleEngines s) :=
  .foldl _ (fun _ _ hu => .ite (.ite hu (setAct_keeps (setUnit_keeps hu) _ _ _)) (startWake_keeps hu)) h _

/-! ## HBM controllers (chapter 15) -/

theorem modHbm_keeps {i : Nat} {f : HbmS → HbmS} (h : Keeps s₀ s) : Keeps s₀ (modHbm i f s) :=
  h.frame (by rfl)

theorem modPc_keeps {i p : Nat} {f : PcS → PcS} (h : Keeps s₀ s) : Keeps s₀ (modPc i p f s) :=
  modHbm_keeps h

theorem countPc_keeps {i p k : Nat} (h : Keeps s₀ s) : Keeps s₀ (countPc i p k s) :=
  modHbm_keeps h

theorem issueRef_keeps {i p : Nat} (h : Keeps s₀ s) : Keeps s₀ (issueRef i p s) :=
  addF_keeps (modPc_keeps h) _ _ _

theorem activate_keeps {i p t : Nat} {a : HbmAccess} (h : Keeps s₀ s) : Keeps s₀ (activate i p t a s) := by
  unfold activate
  extract_lets +onlyGivenNames h' key x n excess tk known s1
  have k4 : Keeps s₀ s1 := modPc_keeps (h.frame (by rfl))
  split
  · exact modPc_keeps k4
  · extract_lets +onlyGivenNames s2 s3
    have k5 : Keeps s₀ s3 := setF_keeps
      (setF_keeps (setF_keeps (setF_keeps (countPc_keeps (modPc_keeps k4)) _ _ _) _ _ _) _ _ _) _ _ _
    exact raise_keeps (.ite k5 (addF_keeps k5 _ _ _)) _ _

theorem shelfError_keeps {c : Nat} (h : Keeps s₀ s) : Keeps s₀ (shelfError c s) :=
  raise_keeps (modEch_keeps h) _ _

theorem eccOutcome_keeps {i p : Nat} {a : HbmAccess} (h : Keeps s₀ s) : Keeps s₀ (eccOutcome i p a s) := by
  unfold eccOutcome
  extract_lets +onlyGivenNames h'
  split
  · exact h
  · extract_lets +onlyGivenNames per x n s1
    split
    · exact .ite (raise_keeps (modHbm_keeps (modPc_keeps h)) _ _) (modPc_keeps h)
    · exact raise_keeps (modHbm_keeps (modPc_keeps h)) _ _
  · exact raise_keeps (countPc_keeps (setF_keeps (setF_keeps (setF_keeps (setF_keeps h _ _ _) _ _ _) _ _ _) _ _ _)) _ _

theorem ownerActs_keeps {a : HbmAccess} (h : Keeps s₀ s) : Keeps s₀ (ownerActs a s) := by
  unfold ownerActs
  split
  · exact shelfError_keeps h
  · exact poisonPixels_keeps h
  · exact h

theorem burstEcc_keeps {i p : Nat} {a : HbmAccess} (h : Keeps s₀ s) : Keeps s₀ (burstEcc i p a s) :=
  .ite (modPc_keeps h) (.ite (eccOutcome_keeps h) (.ite (modPc_keeps (eccOutcome_keeps h))
    (ownerActs_keeps (eccOutcome_keeps h))))

theorem issueReq_keeps {i p t : Nat} {e : HReq × Nat} (h : Keeps s₀ s) : Keeps s₀ (issueReq i p t e s) :=
  burstEcc_keeps (addF_keeps (modPc_keeps (.ite h (activate_keeps h))) _ _ _)

theorem pcStep_keeps {i p : Nat} (h : Keeps s₀ s) (e : pcStep i p s = some t) : Keeps s₀ t := by
  simp only [pcStep] at e
  split at e
  · split at e
    · cases e
      exact addF_keeps (modPc_keeps h) _ _ _
    · cases e
  · split at e
    · cases e
    · split at e
      · cases e
        exact issueRef_keeps h
      · split at e
        · cases e
          exact issueReq_keeps (modPc_keeps h)
        · split at e
          · cases e
            exact issueRef_keeps h
          · cases e

theorem pcRunN_keeps {i p n : Nat} (h : Keeps s₀ s) : Keeps s₀ (pcRunN i p n s) := by
  induction n generalizing s with
  | zero => exact h
  | succ n ih =>
    unfold pcRunN
    split
    · exact h
    · rename_i e
      exact ih (pcStep_keeps h e)

theorem pcRun_keeps {i p : Nat} (h : Keeps s₀ s) : Keeps s₀ (pcRun i p s) :=
  modPc_keeps (pcRunN_keeps h)

theorem srExit_keeps {i p : Nat} (h : Keeps s₀ s) : Keeps s₀ (srExit i p s) :=
  modPc_keeps h

theorem srAbort_keeps {i p : Nat} (h : Keeps s₀ s) : Keeps s₀ (srAbort i p s) :=
  countPc_keeps (addF_keeps (modPc_keeps h) _ _ _)

theorem pcWake_keeps {i p : Nat} (h : Keeps s₀ s) : Keeps s₀ (pcWake i p s) := by
  unfold pcWake
  split
  · exact srAbort_keeps h
  · exact .ite h (srExit_keeps h)
  · exact h

theorem joinQueue_keeps {i p : Nat} {q : HReq} (h : Keeps s₀ s) : Keeps s₀ (joinQueue i p q s) :=
  pcRun_keeps (modPc_keeps (pcWake_keeps (pcRun_keeps h)))

theorem unblock_keeps {i : Nat} (h : Keeps s₀ s) : Keeps s₀ (unblock i s) :=
  .foldl _ (fun _ _ hu => .ite (modHbm_keeps hu) (joinQueue_keeps hu)) (modHbm_keeps h) _

theorem hbmSettle_keeps {i : Nat} (h : Keeps s₀ s) : Keeps s₀ (hbmSettle i s) :=
  unblock_keeps (.foldl _ (fun _ _ hu => pcRun_keeps hu) h _)

theorem hbmRequestOp_keeps {i p : Nat} {a : HbmAccess} (h : Keeps s₀ s) : Keeps s₀ (hbmRequestOp i p a s) :=
  .ite h (.ite (modHbm_keeps (hbmSettle_keeps h)) (unblock_keeps (joinQueue_keeps (hbmSettle_keeps h))))

theorem refreshIntervalOp_keeps {i p : Nat} (h : Keeps s₀ s) : Keeps s₀ (refreshIntervalOp i p s) :=
  .ite h (pcRun_keeps (modPc_keeps (hbmSettle_keeps (advanceTo_keeps h _))))

theorem revalue_keeps {i : Nat} {hot : Bool} (h : Keeps s₀ s) : Keeps s₀ (revalue i hot s) := by
  unfold revalue
  extract_lets +onlyGivenNames h' s1
  have k4 : Keeps s₀ s1 := .ite (modHbm_keeps h) (addF_keeps h _ _ _)
  extract_lets +onlyGivenNames s2 s3
  have k5 : Keeps s₀ s3 := .foldl _ (fun _ _ hu => .ite hu (modPc_keeps hu)) (setF_keeps k4 _ _ _) _
  exact raise_keeps (.foldl _ (fun _ _ hu => pcRun_keeps hu) k5 _) _ _

theorem temperatureOp_keeps {i : Nat} {temp : Option Byte} (h : Keeps s₀ s) : Keeps s₀ (temperatureOp i temp s) := by
  unfold temperatureOp
  extract_lets +onlyGivenNames h'
  split
  · exact h
  · extract_lets +onlyGivenNames s1
    split
    · extract_lets +onlyGivenNames n s2
      have k1 : Keeps s₀ s2 := modHbm_keeps (hbmSettle_keeps h)
      exact .ite (raise_keeps (setF_keeps (.ite k1 (revalue_keeps k1)) _ _ _) _ _) k1
    · extract_lets +onlyGivenNames s2
      have k3 : Keeps s₀ s2 := setF_keeps (setF_keeps (setF_keeps (modHbm_keeps (hbmSettle_keeps h)) _ _ _) _ _ _) _ _ _
      exact raiseIf_keeps (.ite (revalue_keeps k3) (.ite (revalue_keeps k3) k3)) _ _ _

theorem tempReadOp_keeps {i : Nat} (h : Keeps s₀ s) : Keeps s₀ (tempReadOp i s).2 :=
  setF_keeps h _ _ _

theorem selfRefreshOp_keeps {i p : Nat} (h : Keeps s₀ s) : Keeps s₀ (selfRefreshOp i p s) := by
  unfold selfRefreshOp
  split
  · exact h
  · extract_lets +onlyGivenNames s0 x0
    split
    · exact hbmSettle_keeps h
    · split
      · exact hbmSettle_keeps h
      · extract_lets +onlyGivenNames idle s1
        have k2 : Keeps s₀ s1 := pcRun_keeps (advanceTo_keeps (hbmSettle_keeps h) _)
        exact pcRun_keeps (modPc_keeps (.foldl _ (fun _ _ hu => issueReq_keeps hu) k2 _))

theorem hammerWindowOp_keeps {i : Nat} (h : Keeps s₀ s) : Keeps s₀ (hammerWindowOp i s) :=
  .ite h (hbmSettle_keeps (modHbm_keeps (hbmSettle_keeps (advanceTo_keeps h _))))

theorem repairLane_keeps {i p l : Nat} (h : Keeps s₀ s) : Keeps s₀ (repairLane i p l s) :=
  .ite (raise_keeps h _ _) (raise_keeps (countPc_keeps (h.frame (by rfl))) _ _)

theorem measureEyes_keeps {i p : Nat} {eyes : List (Fin 36 × Byte)} (h : Keeps s₀ s) : Keeps s₀ (measureEyes i p eyes s) :=
  .foldl _ (fun _ _ hu => modPc_keeps hu) h _

theorem startPause_keeps {i p ticks : Nat} {eyes : List (Fin 36 × Byte)} (h : Keeps s₀ s) :
    Keeps s₀ (startPause i p ticks eyes s) :=
  measureEyes_keeps (.foldl _ (fun _ _ hu => repairLane_keeps hu) (modPc_keeps h) _)

theorem retrainPauseOp_keeps {i p ticks : Nat} {eyes : List (Fin 36 × Byte)} (h : Keeps s₀ s) :
    Keeps s₀ (retrainPauseOp i p ticks eyes s) :=
  .ite h (.ite (startPause_keeps (modPc_keeps (hbmSettle_keeps (advanceTo_keeps h _)))) (hbmSettle_keeps (advanceTo_keeps h _)))

theorem pauseSkipOp_keeps {i p : Nat} (h : Keeps s₀ s) : Keeps s₀ (pauseSkipOp i p s) := by
  unfold pauseSkipOp
  split
  · exact h
  · extract_lets +onlyGivenNames k s1
    have k1 : Keeps s₀ s1 := hbmSettle_keeps (advanceTo_keeps h _)
    exact .ite k1 (raise_keeps (addF_keeps (satF_keeps (modPc_keeps k1) _ _ _) _ _ _) _ _)

theorem patrolScrubOp_keeps {i p : Nat} {a : HbmAccess} (h : Keeps s₀ s) : Keeps s₀ (patrolScrubOp i p a s) := by
  unfold patrolScrubOp
  split
  · exact h
  · extract_lets +onlyGivenNames s1 x key
    split
    · exact hbmSettle_keeps h
    · extract_lets +onlyGivenNames s2
      have k1 : Keeps s₀ s2 := issueReq_keeps (hbmSettle_keeps h)
      split
      · exact addF_keeps k1 _ _ _
      · exact k1

theorem placeBuffer_keeps {g : Nat → Fld → State → Nat} {p : Nat} (h : Keeps s₀ s) (e : placeBuffer g p s = some t) :
    Keeps s₀ t := by
  unfold placeBuffer at e
  split at e
  · cases e
    exact h
  · obtain ⟨b, -, rfl⟩ := Option.map_eq_some_iff.1 e
    exact h.frame (by rfl)

theorem dropBuffer_keeps {p : Nat} (h : Keeps s₀ s) : Keeps s₀ (dropBuffer p s) :=
  h.frame (by rfl)

theorem hbmCommand_keeps {i : Nat} (h : Keeps s₀ s) : Keeps s₀ (hbmCommand i s) :=
  .ite (.ite (setAct_keeps h _ _ _) h) (.ite h (.ite h (setAct_keeps (setF_keeps (h.frame (by rfl)) _ _ _) _ _ _)))

theorem takeHbm_keeps {i : Nat} (h : Keeps s₀ s) : Keeps s₀ (takeHbm i s) := by
  unfold takeHbm
  extract_lets +onlyGivenNames l old s1 _ s2
  have k2 : Keeps s₀ s2 := .foldl _ (fun _ _ hu => .ite (modPc_keeps hu) (modPc_keeps hu)) (takeGen_keeps h _) _
  exact .ite k2 (hbmCommand_keeps k2)

theorem keepApplyOp_keeps {i : Nat} (h : Keeps s₀ s) : Keeps s₀ (keepApplyOp i s) :=
  .ite h (.ite (takeHbm_keeps (hbmSettle_keeps h)) (hbmSettle_keeps h))

theorem trainingDoneOp_keeps {i : Nat} {seedsGood : Bool} (h : Keeps s₀ s) : Keeps s₀ (trainingDoneOp i seedsGood s) :=
  .ite h (raiseIf_keeps (setAct_keeps (setF_keeps (h.frame (by rfl)) _ _ _) _ _ _) _ _ _)

/-! ## Iztaub links (chapter 12) -/

theorem settleSpare_keeps {j : Nat} (h : Keeps s₀ s) : Keeps s₀ (settleSpare j s) :=
  setF_keeps h _ _ _

theorem settleRoutes_keeps {j : Nat} (h : Keeps s₀ s) : Keeps s₀ (settleRoutes j s) :=
  raiseIf_keeps (.ite h (raise_keeps (h.frame (by rfl)) _ _)) _ _ _

theorem sendIzl_keeps {j typ vl : Nat} {som eom : Bool} {seq : Nat} {payload : List Byte} (h : Keeps s₀ s) :
    Keeps s₀ (sendIzl j typ vl som eom seq payload s) :=
  emit_keeps h _ _ _

theorem sendNak_keeps {j : Nat} (h : Keeps s₀ s) : Keeps s₀ (sendNak j s) :=
  modIzl_keeps (sendIzl_keeps h) _ _

theorem startRewind_keeps {j : Nat} (h : Keeps s₀ s) : Keeps s₀ (startRewind j s) := by
  unfold startRewind
  extract_lets +onlyGivenNames x
  split
  · exact h
  · exact .ite h (raise_keeps (setF_keeps (addF_keeps (modIzl_keeps h _ _) _ _ _) _ _ _) _ _)

theorem takeAck_keeps {j : Nat} {f : List Byte} (h : Keeps s₀ s) : Keeps s₀ (takeAck j f s) := by
  unfold takeAck
  extract_lets +onlyGivenNames x base d n s1
  have k1 : Keeps s₀ s1 := .foldl _ (fun _ _ hu => addF_keeps (modIzl_keeps hu _ _) _ _ _) h _
  exact .ite k1 (setF_keeps (modIzl_keeps k1 _ _) _ _ _)

theorem acceptData_keeps {j vl : Nat} {som eom : Bool} {payload : List Byte} (h : Keeps s₀ s) :
    Keeps s₀ (acceptData j vl som eom payload s) :=
  addF_keeps (addF_keeps (modIzl_keeps h _ _) _ _ _) _ _ _

theorem izlReceive_keeps {j : Nat} {f : List Byte} (h : Keeps s₀ s) : Keeps s₀ (izlReceive j f s) := by
  unfold izlReceive
  extract_lets +onlyGivenNames p
  split
  · exact h
  · extract_lets +onlyGivenNames x typ good
    split
    · exact .ite (addF_keeps h _ _ _) (sendNak_keeps (addF_keeps h _ _ _))
    · extract_lets +onlyGivenNames s1
      clear_value typ
      split
      · exact acceptData_keeps (takeAck_keeps h)
      · exact startRewind_keeps (takeAck_keeps h)
      · exact takeAck_keeps h

theorem izlSendOp_keeps {j : Nat} (h : Keeps s₀ s) : Keeps s₀ (izlSendOp j s) := by
  unfold izlSendOp
  extract_lets +onlyGivenNames p x
  split
  · exact h
  · split
    · exact setF_keeps (addF_keeps (addF_keeps (modIzl_keeps (sendIzl_keeps h) _ _) _ _ _) _ _ _) _ _ _
    · split
      · exact sendIzl_keeps h
      · split
        · exact h
        · exact addF_keeps (subF_keeps (modIzl_keeps (sendIzl_keeps h) _ _) _ _ _) _ _ _

theorem countDoubt_keeps {l : List (Nat × Nat)} (h : Keeps s₀ s) : Keeps s₀ (countDoubt l s) :=
  .foldl _ (fun _ _ hu => raise_keeps (addF_keeps hu _ _ _) _ _) h _

theorem izlDown_keeps {j st reason : Nat} (h : Keeps s₀ s) : Keeps s₀ (izlDown j st reason s) := by
  unfold izlDown
  extract_lets +onlyGivenNames p
  split
  · exact h
  · extract_lets +onlyGivenNames n _ s1 s2
    have k2 : Keeps s₀ s2 := setAll_keeps (modIzl_keeps h _ _)
    extract_lets +onlyGivenNames s3
    have k3 : Keeps s₀ s3 := raise_keeps (addF_keeps (setAct_keeps k2 _ _ _) _ _ _) _ _
    exact settleRoutes_keeps (countDoubt_keeps (raiseIf_keeps (addF_keeps k3 _ _ _) _ _ _))

theorem askWidth_keeps {j code mask : Nat} (h : Keeps s₀ s) : Keeps s₀ (askWidth j code mask s) :=
  modIzl_keeps h _ _

theorem narrowOp_keeps {j : Nat} {bad : List Nat} (h : Keeps s₀ s) : Keeps s₀ (narrowOp j bad s) :=
  .ite h (.ite (settleSpare_keeps h)
    (.ite (izlDown_keeps h) (settleSpare_keeps (raise_keeps (addF_keeps (askWidth_keeps h) _ _ _) _ _))))

theorem widenOp_keeps {j : Nat} (h : Keeps s₀ s) : Keeps s₀ (widenOp j s) :=
  .ite h (.ite h (raise_keeps (addF_keeps (askWidth_keeps (advanceTo_keeps h _)) _ _ _) _ _))

theorem markerOp_keeps {j : Nat} {m : List Byte} (h : Keeps s₀ s) : Keeps s₀ (markerOp j m s) := by
  unfold markerOp
  extract_lets +onlyGivenNames p
  split
  · exact h
  · extract_lets +onlyGivenNames w txw txm rqw rqm _ _ s1
    have k1 : Keeps s₀ s1 := .ite h (settleSpare_keeps (setF_keeps (setF_keeps (modIzl_keeps h _ _) _ _ _) _ _ _))
    exact .ite k1 (modIzl_keeps k1 _ _)

theorem izlCommand_keeps {j : Nat} (h : Keeps s₀ s) : Keeps s₀ (izlCommand j s) := by
  unfold izlCommand
  extract_lets +onlyGivenNames p c a
  split
  · exact h
  · split
    · exact .ite (lanesCommand_keeps h) (lanesCommand_keeps (setAct_keeps h _ _ _))
    · split
      · exact plainCommand_keeps (lanesCommand_keeps h) _
      · extract_lets +onlyGivenNames s1
        have k2 : Keeps s₀ s1 := lanesCommand_keeps (izlDown_keeps h)
        exact .ite (clearFields_keeps (setAct_keeps (k2.frame (by rfl)) _ _ _) _ _) (setAct_keeps (k2.frame (by rfl)) _ _ _)

theorem keepAlloc_keeps {j : Nat} {old : State} (h : Keeps s₀ s) : Keeps s₀ (keepAlloc j old s) :=
  .ite (setAll_keeps h) h

theorem markerSendOp_keeps {j : Nat} (h : Keeps s₀ s) : Keeps s₀ (markerSendOp j s) := by
  unfold markerSendOp
  extract_lets +onlyGivenNames p s0
  have k3 : Keeps s₀ s0 := .ite (izlCommand_keeps (keepAlloc_keeps (takeGen_keeps h _))) h
  split
  · exact k3
  · extract_lets +onlyGivenNames s1
    have k4 : Keeps s₀ s1 := by
      unfold s1
      split
      · exact k3
      · exact startRewind_keeps (modIzl_keeps (setF_keeps (setF_keeps (modIzl_keeps k3 _ _) _ _ _) _ _ _) _ _)
    exact modIzl_keeps (.foldl _ (fun _ _ hu => emit_keeps hu _ _ _) k4 _) _ _

theorem sendExchange_keeps {j : Nat} (h : Keeps s₀ s) : Keeps s₀ (sendExchange j s) :=
  sendIzl_keeps h

theorem trainingOp_keeps {j : Nat} {x : Exchange} (h : Keeps s₀ s) : Keeps s₀ (trainingOp j x s) := by
  unfold trainingOp
  extract_lets +onlyGivenNames p good
  split
  · exact h
  · extract_lets +onlyGivenNames s0
    have k8 : Keeps s₀ s0 := sendExchange_keeps (setAll_keeps (.ite h (advanceTo_keeps h _)))
    split
    · exact raise_keeps k8 _ _
    · extract_lets +onlyGivenNames own same code mask s1 _ s2
      have k10 : Keeps s₀ s2 := modIzl_keeps (addF_keeps (setAll_keeps k8) _ _ _) _ _
      extract_lets +onlyGivenNames s3
      have k11 : Keeps s₀ s3 := .foldl _ (fun _ _ hu => setAct_keeps hu _ _ _) (setAct_keeps k10 _ _ _) _
      exact settleRoutes_keeps (settleSpare_keeps (raiseIf_keeps (raise_keeps k11 _ _) _ _ _))

theorem routeAnnounceOp_keeps (h : Keeps s₀ s) : Keeps s₀ (routeAnnounceOp s) :=
  .foldl _ (fun _ _ hu => izlPost_keeps hu _ _ _) (advanceTo_keeps h _) _

theorem routeAnnouncementOp_keeps {j : Nat} {l : List (Nat × Nat)} (h : Keeps s₀ s) : Keeps s₀ (routeAnnouncementOp j l s) :=
  .ite h (settleRoutes_keeps (modIzl_keeps h _ _))

/-! ## Serial lanes (chapter 10) -/

theorem settleOrder_keeps {l : Nat} (h : Keeps s₀ s) : Keeps s₀ (settleOrder l s) :=
  .ite h (setF_keeps h _ _ _)

theorem applySync_keeps {l : Nat} {inverted reversed : Bool} (h : Keeps s₀ s) : Keeps s₀ (applySync l inverted reversed s) := by
  unfold applySync
  split
  · exact h
  · extract_lets +onlyGivenNames s1
    have k1 : Keeps s₀ s1 := .ite (raiseIf_keeps (setF_keeps h _ _ _) _ _ _) (setF_keeps h _ _ _)
    exact .foldl _ (fun _ _ hu => settleOrder_keeps (raiseIf_keeps (setF_keeps hu _ _ _) _ _ _)) k1 _

theorem finishTraining_keeps {l : Nat} {t : Trained} (h : Keeps s₀ s) : Keeps s₀ (finishTraining l t s) := by
  unfold finishTraining
  extract_lets +onlyGivenNames p s1
  have k2 : Keeps s₀ s1 := applySync_keeps (setPrecode_keeps (applyEq_keeps h))
  exact modLane_keeps (setF_keeps (setF_keeps (setF_keeps (setF_keeps k2 _ _ _) _ _ _) _ _ _) _ _ _)

theorem ownerTakes_keeps {l : Nat} (h : Keeps s₀ s) : Keeps s₀ (ownerTakes l s) :=
  .ite (.ite (settleSpare_keeps (setAct_keeps (modIzl_keeps h _ _) _ _ _)) (modIzl_keeps h _ _))
    (portLaneUp_keeps (setAct_keeps h _ _ _))

theorem sleepInD2_keeps {l : Nat} (h : Keeps s₀ s) : Keeps s₀ (sleepInD2 l s) :=
  .ite (laneSleep_keeps h) h

theorem laneTrainedOp_keeps {l : Nat} {t : Trained} (h : Keeps s₀ s) : Keeps s₀ (laneTrainedOp l t s) :=
  .ite h (sleepInD2_keeps (ownerTakes_keeps (raise_keeps (finishTraining_keeps h) _ _)))

theorem failLane_keeps {l : Nat} (h : Keeps s₀ s) : Keeps s₀ (failLane l s) :=
  raise_keeps (modLane_keeps (setF_keeps h _ _ _)) _ _

theorem trainFailedOp_keeps {l : Nat} {why : TrainFail} (h : Keeps s₀ s) : Keeps s₀ (trainFailedOp l why s) := by
  unfold trainFailedOp
  split
  · exact h
  · split
    · exact failLane_keeps h
    · exact .ite (.foldl _ (fun _ _ hu => failLane_keeps hu) h _) h
    · exact .ite (raise_keeps (failLane_keeps h) _ _) h

theorem swapSlice_keeps {l : Nat} (h : Keeps s₀ s) : Keeps s₀ (swapSlice l s) :=
  addF_keeps (setF_keeps (modLane_keeps h) _ _ _) _ _ _

theorem laneGen_keeps {l : Nat} (h : Keeps s₀ s) : Keeps s₀ (laneGen l s) := by
  unfold laneGen
  extract_lets +onlyGivenNames p
  split
  · exact h
  · extract_lets +onlyGivenNames s1
    have k2 : Keeps s₀ s1 := applyPins_keeps (takeGen_keeps h _)
    exact .ite (setPrecode_keeps k2) (.ite (laneStop_keeps (setPrecode_keeps k2)) (setPrecode_keeps k2))

theorem blockEndOp_keeps {l : Nat} {b : LaneBlock} (h : Keeps s₀ s) : Keeps s₀ (blockEndOp l b s) := by
  unfold blockEndOp
  extract_lets +onlyGivenNames p a
  split
  · exact h
  · extract_lets +onlyGivenNames s0 swap locked s1
    have k12 : Keeps s₀ s1 := setF_keeps (setF_keeps (.ite (swapSlice_keeps (laneGen_keeps h)) (laneGen_keeps h)) _ _ _) _ _ _
    extract_lets +onlyGivenNames snr n low shown s2
    have k20 : Keeps s₀ s2 := .ite (setF_keeps (setF_keeps (setF_keeps k12 _ _ _) _ _ _) _ _ _) k12
    extract_lets +onlyGivenNames warn alarm bad s3 s4
    have k22 : Keeps s₀ s4 := .ite (modIzl_keeps (modLane_keeps k20) _ _) (modLane_keeps k20)
    extract_lets +onlyGivenNames s5
    have k23 : Keeps s₀ s5 := .ite (applyPins_keeps (setFfe_keeps (setF_keeps k22 _ _ _))) k22
    exact .ite (addF_keeps (addF_keeps k23 _ _ _) _ _ _) (.ite (setAct_keeps (modLane_keeps k23) _ _ _) k23)

theorem ctleOp_keeps {l ctle : Nat} {ffe : List Int} (h : Keeps s₀ s) : Keeps s₀ (ctleOp l ctle ffe s) :=
  .ite h (applyPins_keeps (setFfe_keeps (setF_keeps (modLane_keeps h) _ _ _)))

theorem fomWarnOp_keeps {l : Nat} (h : Keeps s₀ s) : Keeps s₀ (fomWarnOp l s) :=
  .ite (raise_keeps (setF_keeps h _ _ _) _ _) h

theorem loseLock_keeps {l step : Nat} {fast : Bool} (h : Keeps s₀ s) : Keeps s₀ (loseLock l step fast s) := by
  unfold loseLock
  extract_lets +onlyGivenNames p s1
  have k4 : Keeps s₀ s1 := raise_keeps (addF_keeps (setF_keeps (setF_keeps h _ _ _) _ _ _) _ _ _) _ _
  extract_lets +onlyGivenNames s2
  have k6 : Keeps s₀ s2 := .ite k4 (setAct_keeps (modLane_keeps k4) _ _ _)
  extract_lets +onlyGivenNames s3
  have k7 : Keeps s₀ s3 := .ite (raise_keeps (addF_keeps (satF_keeps (modLane_keeps k6) _ _ _) _ _ _) _ _) k6
  exact .ite (narrowOp_keeps (modIzl_keeps k7 _ _)) (subportDown_keeps k7)

theorem annalsAdd_keeps {i n : Nat} (h : Keeps s₀ s) : Keeps s₀ (annalsAdd i n s) :=
  h.frame (by rfl)

theorem reacquiredOp_keeps {l : Nat} {t : Trained} (h : Keeps s₀ s) : Keeps s₀ (reacquiredOp l t s) :=
  .ite h (sleepInD2_keeps (ownerTakes_keeps (raise_keeps (annalsAdd_keeps (addF_keeps (finishTraining_keeps h) _ _ _)) _ _)))

theorem calibrationOp_keeps {l : Nat} (h : Keeps s₀ s) : Keeps s₀ (calibrationOp l s) :=
  .ite (modLane_keeps (advanceTo_keeps h _))
    (.ite (modLane_keeps (raise_keeps (addF_keeps (satF_keeps (advanceTo_keeps h _) _ _ _) _ _ _) _ _)) (advanceTo_keeps h _))

theorem refclkLostOp_keeps (h : Keeps s₀ s) : Keeps s₀ (refclkLostOp s) := by
  unfold refclkLostOp
  extract_lets +onlyGivenNames s1
  have k2 : Keeps s₀ s1 := by
    unfold s1
    split
    · refine .foldl _ (fun _ _ hu => ?_) h _
      extract_lets +onlyGivenNames p s1
      have k1 : Keeps s₀ s1 := setF_keeps (raiseIf_keeps hu _ _ _) _ _ _
      exact .ite (loseLock_keeps k1) (.ite (modLane_keeps k1) k1)
    · exact h
  exact .ite (loseLock_keeps (setF_keeps k2 _ _ _)) (setF_keeps k2 _ _ _)

theorem timerefLostAll_keeps (h : Keeps s₀ s) : Keeps s₀ (timerefLostAll s) :=
  .ite h (.ite (loseLock_keeps (showSpeed_keeps (timerefLostOp_keeps h))) (showSpeed_keeps (timerefLostOp_keeps h)))

theorem retrainOp_keeps {l : Nat} (h : Keeps s₀ s) : Keeps s₀ (retrainOp l s).2 :=
  .ite_snd h (.ite_snd h (laneBringUp_keeps h))

/-! ## Core faults, rotation, channel start and stop -/

theorem echFault_keeps {c reason : Nat} (h : Keeps s₀ s) : Keeps s₀ (echFault c reason s) := by
  unfold echFault
  extract_lets +onlyGivenNames s1
  have k2 : Keeps s₀ s1 := toFault_keeps (discardSlices_keeps (dropJobs_keeps h)) _ _
  extract_lets +onlyGivenNames s2
  have k3 : Keeps s₀ s2 := stopReading_keeps (accountLeaves_keeps k2)
  exact echRefresh_keeps (.ite (dropJoin_keeps k3) k3)

theorem dropRecodes_keeps {c : Nat} (h : Keeps s₀ s) : Keeps s₀ (dropRecodes c s) :=
  modOut_keeps h

theorem channelStoppedOp_keeps {c : Nat} (h : Keeps s₀ s) : Keeps s₀ (channelStoppedOp c s) := by
  unfold channelStoppedOp
  extract_lets +onlyGivenNames p
  split
  · exact muteChannel_keeps (modTwn_keeps h)
  · split
    · exact h
    · extract_lets +onlyGivenNames k s1
      have k4 : Keeps s₀ s1 := setAct_keeps (stopReading_keeps (dropRecodes_keeps h)) _ _ _
      extract_lets +onlyGivenNames s2 s3
      have k5 : Keeps s₀ s3 := .ite (dropJoin_keeps (accountLeaves_keeps k4)) (accountLeaves_keeps k4)
      exact echRefresh_keeps (takeAfterStop_keeps (.ite (echClear_keeps k5) k5) _ _ (fun _ hu => echCommand_keeps hu))

theorem channelStartOp_keeps {c : Nat} (h : Keeps s₀ s) : Keeps s₀ (channelStartOp c s) := by
  unfold channelStartOp
  extract_lets +onlyGivenNames p
  split
  · exact h
  · split
    · exact setAct_keeps (setJoin_keeps h) _ _ _
    · split
      · exact setAct_keeps h _ _ _
      · extract_lets +onlyGivenNames ck x _ s1 n s2 s3 s4 s5
        have k2 : Keeps s₀ s2 := allBandsDue_keeps (reachNs_keeps (modEch_keeps (modEch_keeps h)))
        have k4 : Keeps s₀ s4 := formRows_keeps (muxStart_keeps (setAct_keeps (initialCredit_keeps k2) _ _ _))
        have k5 : Keeps s₀ s5 := by
          unfold s5
          split
          · exact k4
          · exact releaseRow_keeps k4
        clear_value s5
        exact echRefresh_keeps (k5.frame (by rfl))

theorem showAbsent_keeps {l : Nat} {absent : Bool} (h : Keeps s₀ s) : Keeps s₀ (showAbsent l absent s) :=
  setF_keeps h _ _ _

theorem abandonStep_keeps (h : Keeps s₀ s) : Keeps s₀ (abandonStep s) :=
  .ite h (endStep_keeps (setF_keeps h _ _ _))

theorem rotationStepOp_keeps (h : Keeps s₀ s) : Keeps s₀ (rotationStepOp s) := by
  unfold rotationStepOp
  split
  · exact h
  · extract_lets +onlyGivenNames s0
    have k3 : Keeps s₀ s0 := advanceTo_keeps h _
    extract_lets +onlyGivenNames _ s1
    have k4 : Keeps s₀ s1 := k3.frame (by rfl)
    split
    · exact k4
    · extract_lets +onlyGivenNames want l
      split
      · exact .ite (k4.frame (by rfl)) (completeStep_keeps (k4.frame (by rfl)))
      · exact raise_keeps (setF_keeps k4 _ _ _) _ _

theorem shadowStartOp_keeps (h : Keeps s₀ s) : Keeps s₀ (shadowStartOp s) := by
  unfold shadowStartOp
  split
  · exact h
  · split
    · exact completeStep_keeps h
    · extract_lets +onlyGivenNames n s1
      have k1 : Keeps s₀ s1 := reachNs_keeps h
      exact setF_keeps (k1.frame (by rfl)) _ _ _

theorem shadowEndOp_keeps (h : Keeps s₀ s) : Keeps s₀ (shadowEndOp s) := by
  unfold shadowEndOp
  split
  · exact h
  · extract_lets +onlyGivenNames s1
    have k1 : Keeps s₀ s1 := by
      unfold s1
      split
      · exact h
      · exact reachNs_keeps h
    exact setF_keeps (k1.frame (by rfl)) _ _ _

theorem coreSwitchOp_keeps {c : Nat} (h : Keeps s₀ s) : Keeps s₀ (coreSwitchOp c s) := by
  unfold coreSwitchOp
  split
  · exact h
  · extract_lets +onlyGivenNames s1
    have k1 : Keeps s₀ s1 := by
      unfold s1
      split
      · exact reachNs_keeps h
      · exact h
    exact finishRotation_keeps (raise_keeps (k1.frame (by rfl)) _ _)

theorem offerCore_keeps {q : Nat} (h : Keeps s₀ s) : Keeps s₀ (offerCore q s) := by
  unfold offerCore
  extract_lets +onlyGivenNames p
  split
  · exact encRefresh_keeps (setAct_keeps (showAbsent_keeps (mapCore_keeps h)) _ _ _)
  · exact setAct_keeps (setF_keeps (setF_keeps h _ _ _) _ _ _) _ _ _

theorem goldenVectorDoneOp_keeps {q : Nat} {pass : Bool} (h : Keeps s₀ s) : Keeps s₀ (goldenVectorDoneOp q pass s) :=
  .ite h (.ite (offerCore_keeps h)
    (raise_keeps (satF_keeps (setF_keeps (toFault_keeps (setF_keeps (setF_keeps h _ _ _) _ _ _) _ _) _ _ _) _ _ _) _ _))

theorem abandonGolden_keeps (h : Keeps s₀ s) : Keeps s₀ (abandonGolden s) :=
  .foldl _ (fun _ _ hu => .ite (setF_keeps (offerCore_keeps hu) _ _ _) hu) h _

theorem passRows_keeps {a b : Nat} (h : Keeps s₀ s) : Keeps s₀ (passRows a b s) :=
  .foldl _ (fun _ _ hu => modEch_keeps hu) (moveJobs_keeps h) _

theorem floorHeld_keeps {c a b : Nat} {r : EchRow} (h : Keeps s₀ s) : Keeps s₀ (floorHeld c a b r s) := by
  unfold floorHeld
  extract_lets +onlyGivenNames cols
  split
  · exact h
  · extract_lets +onlyGivenNames s1 s2
    have k1 : Keeps s₀ s2 := .foldl _ (fun _ _ hu => pushJob_keeps hu) (modRow_keeps h) _
    exact .ite (setF_keeps (raise_keeps (addF_keeps k1 _ _ _) _ _) _ _ _) k1

theorem floorRows_keeps {a b : Nat} (h : Keeps s₀ s) : Keeps s₀ (floorRows a b s) :=
  .foldl _ (fun _ _ hu => .foldl _ (fun _ _ hu => floorHeld_keeps hu) hu _) (modCore_keeps (modCore_keeps h)) _

theorem takeOver_keeps {q l : Nat} (h : Keeps s₀ s) : Keeps s₀ (takeOver q l s) := by
  unfold takeOver
  split
  · exact encRefresh_keeps (coreChanged_keeps (floorRows_keeps (mapCore_keeps (setAct_keeps h _ _ _))))
  · exact .foldl _ (fun _ _ hu => echFault_keeps hu) (showAbsent_keeps h) _

theorem shadowTakes_keeps {x q l : Nat} (h : Keeps s₀ s) : Keeps s₀ (shadowTakes x q l s) :=
  encRefresh_keeps (coreChanged_keeps (passRows_keeps (mapCore_keeps h)))

theorem coreFaultOp_keeps {q reason : Nat} (h : Keeps s₀ s) : Keeps s₀ (coreFaultOp q reason s) := by
  unfold coreFaultOp
  extract_lets +onlyGivenNames p
  split
  · exact h
  · extract_lets +onlyGivenNames l r s1
    have k1 : Keeps s₀ s1 := raise_keeps
      (toFault_keeps (setF_keeps (setF_keeps (setF_keeps (setF_keeps h _ _ _) _ _ _) _ _ _) _ _ _) _ _) _ _
    exact .ite (.ite (endStep_keeps (coreChanged_keeps (floorRows_keeps k1))) (endStep_keeps k1))
      (.ite (shadowTakes_keeps (endStep_keeps k1)) (.ite (shadowTakes_keeps (setAct_keeps (setF_keeps k1 _ _ _) _ _ _))
        (.ite (encRefresh_keeps (coreChanged_keeps (floorRows_keeps (mapCore_keeps (endStep_keeps k1)))))
          (.ite (takeOver_keeps (.ite (abandonStep_keeps k1) k1)) k1))))

theorem overdueRowOp_keeps {c : Nat} (h : Keeps s₀ s) : Keeps s₀ (overdueRowOp c s) := by
  unfold overdueRowOp
  split
  · exact h
  · extract_lets +onlyGivenNames t
    split
    · exact h
    · split
      · exact h
      · exact coreFaultOp_keeps (reachNs_keeps h)

theorem encCommand_keeps {q : Nat} (h : Keeps s₀ s) : Keeps s₀ (encCommand q s) :=
  .ite (.ite (startGolden_keeps h) (.ite (setAct_keeps h _ _ _) h))
    (.ite h (.ite (startGolden_keeps h) (.ite (encRefresh_keeps (setAct_keeps h _ _ _)) (setAct_keeps h _ _ _))))

/-! ## Twin operation (chapter 08) -/

theorem twinIn_keeps {m : TwinMsg} {f : State → State} (h : Keeps s₀ s) (hf : ∀ u, Keeps s₀ u → Keeps s₀ (f u)) :
    Keeps s₀ (twinIn m f s) := by
  have k1 : Keeps s₀ (takeMsg (getF pgTWN TWN.CFG_link s) (twinLane m.kind.toNat) s) := takeMsg_keeps h _ _
  exact .ite k1 (.ite (addF_keeps k1 _ _ _) (hf _ k1))

theorem setRole_keeps {r : Nat} (h : Keeps s₀ s) : Keeps s₀ (setRole r s) :=
  setF_keeps (modTwn_keeps h) _ _ _

theorem setEpoch_keeps {e : Nat} (h : Keeps s₀ s) : Keeps s₀ (setEpoch e s) :=
  setF_keeps (setF_keeps h _ _ _) _ _ _

theorem takeLead_keeps (h : Keeps s₀ s) : Keeps s₀ (takeLead s) :=
  setRole_keeps (setEpoch_keeps h)

theorem claimFrameSendOp_keeps (h : Keeps s₀ s) : Keeps s₀ (claimFrameSendOp s) :=
  .ite h (emit_keeps (passTicks_keeps h _) _ _ _)

theorem bothLeadYield_keeps (h : Keeps s₀ s) : Keeps s₀ (bothLeadYield s) := by
  unfold bothLeadYield
  extract_lets +onlyGivenNames s1
  have k1 : Keeps s₀ s1 := raise_keeps
    (raise_keeps (addF_keeps (setRole_keeps (goSolo_keeps (setF_keeps (modTwn_keeps h) _ _ _))) _ _ _) _ _) _ _
  exact .foldl _ (fun _ _ hu => .ite (muteChannel_keeps hu) hu) (setF_keeps k1 _ _ _) _

theorem takeClaim_keeps {claim role e6 : Nat} (h : Keeps s₀ s) : Keeps s₀ (takeClaim claim role e6 s) := by
  unfold takeClaim
  extract_lets +onlyGivenNames s1
  have k2 : Keeps s₀ s1 := setF_keeps (setF_keeps (setF_keeps (setF_keeps (modTwn_keeps h) _ _ _) _ _ _) _ _ _) _ _ _
  exact .ite k2 (.ite (.ite (.ite k2 (raise_keeps (setF_keeps k2 _ _ _) _ _)) (.ite (setRole_keeps (setF_keeps k2 _ _ _))
    (setF_keeps k2 _ _ _))) (.ite (bothLeadYield_keeps k2) k2))

theorem claimFrameReceivedOp_keeps {w : Word} (h : Keeps s₀ s) : Keeps s₀ (claimFrameReceivedOp w s) :=
  .ite h (.ite (addF_keeps h _ _ _) (.ite h (takeClaim_keeps h)))

theorem restartChannel_keeps {c : Nat} (h : Keeps s₀ s) : Keeps s₀ (restartChannel c s) :=
  setAct_keeps (setF_keeps (modOut_keeps (dropJoin_keeps (muteChannel_keeps h))) _ _ _) _ _ _

theorem sendHeld_keeps {c : Nat} (h : Keeps s₀ s) : Keeps s₀ (sendHeld c s) := by
  unfold sendHeld
  refine .foldl _ (fun _ _ hu => ?_) h _
  split
  · exact .ite hu (copyRow_keeps hu)
  · exact hu

theorem promote_keeps (h : Keeps s₀ s) : Keeps s₀ (promote s) := by
  unfold promote
  extract_lets +onlyGivenNames chans joined s1
  have k8 : Keeps s₀ s1 := takeLead_keeps (modTwn_keeps h)
  extract_lets +onlyGivenNames s2
  have k12 : Keeps s₀ s2 := .foldl _ (fun _ _ hu => sendHeld_keeps (dropJoin_keeps hu)) k8 _
  extract_lets +onlyGivenNames others s3
  have k14 : Keeps s₀ s3 := .foldl _ (fun _ _ hu => restartChannel_keeps hu) k12 _
  extract_lets +onlyGivenNames groups s4
  have k15 : Keeps s₀ s4 := .foldl _ (fun _ _ hu => setF_keeps (addF_keeps hu _ _ _) _ _ _) k14 _
  exact raise_keeps (addF_keeps (setF_keeps (setF_keeps (setF_keeps (showJoins_keeps k15) _ _ _) _ _ _) _ _ _) _ _ _) _ _

theorem partnerDeadOp_keeps (h : Keeps s₀ s) : Keeps s₀ (partnerDeadOp s) := by
  unfold partnerDeadOp
  split
  · exact h
  · extract_lets +onlyGivenNames quit s1
    have k1 : Keeps s₀ s1 := by
      unfold s1
      split
      · exact h
      · split
        · exact setF_keeps (advanceTo_keeps h _) _ _ _
        · exact advanceTo_keeps h _
    extract_lets +onlyGivenNames s2 s3
    have k3 : Keeps s₀ s3 := .ite (raise_keeps (addF_keeps (modTwn_keeps k1) _ _ _) _ _) (modTwn_keeps k1)
    exact .ite k3 (.ite (promote_keeps (raise_keeps (setF_keeps k3 _ _ _) _ _)) (raise_keeps (setF_keeps k3 _ _ _) _ _))

theorem roleTakenOp_keeps (h : Keeps s₀ s) : Keeps s₀ (roleTakenOp s) :=
  .ite h (.ite (setF_keeps (takeLead_keeps (advanceTo_keeps h _)) _ _ _) (advanceTo_keeps h _))

theorem heartbeatSendOp_keeps (h : Keeps s₀ s) : Keeps s₀ (heartbeatSendOp s) :=
  .ite h (modTwn_keeps (twinSend_keeps (advanceTo_keeps h _)))

theorem endDoubtAlive_keeps (h : Keeps s₀ s) : Keeps s₀ (endDoubtAlive s) :=
  .foldl _ (fun _ _ hu => .ite (muteChannel_keeps hu) hu) (setF_keeps (modTwn_keeps h) _ _ _) _

theorem takeHeartbeat_keeps {m : TwinMsg} (h : Keeps s₀ s) : Keeps s₀ (takeHeartbeat m s) := by
  unfold takeHeartbeat
  extract_lets +onlyGivenNames b role q ver same s1 s2
  have k4 : Keeps s₀ s2 := setF_keeps (setF_keeps (setF_keeps (modTwn_keeps h) _ _ _) _ _ _) _ _ _
  extract_lets +onlyGivenNames first s3 s4
  have k5 : Keeps s₀ s4 := .ite (setEpoch_keeps (raiseIf_keeps k4 _ _ _)) (.ite (setF_keeps (raiseIf_keeps k4 _ _ _) _ _ _)
    (raiseIf_keeps k4 _ _ _))
  exact .ite (endDoubtAlive_keeps k5) k5

theorem recordOp_keeps {m : TwinMsg} (h : Keeps s₀ s) : Keeps s₀ (recordOp m s) :=
  .ite h (addF_keeps (twinSend_keeps (modTwn_keeps h)) _ _ _)

theorem ackOp_keeps {m : TwinMsg} (h : Keeps s₀ s) : Keeps s₀ (ackOp m s) :=
  .ite h (modTwn_keeps h)

theorem ackTimeoutOp_keeps (h : Keeps s₀ s) : Keeps s₀ (ackTimeoutOp s) := by
  unfold ackTimeoutOp
  split
  · exact h
  · exact raise_keeps (addF_keeps (goSolo_keeps (modTwn_keeps (advanceTo_keeps h _))) _ _ _) _ _

theorem enterDoubt_keeps {m : Nat} (h : Keeps s₀ s) : Keeps s₀ (enterDoubt m s) :=
  .ite h (raise_keeps (setF_keeps (modTwn_keeps h) _ _ _) _ _)

theorem recordWaitExpiryOp_keeps {c : Nat} (h : Keeps s₀ s) : Keeps s₀ (recordWaitExpiryOp c s) :=
  .ite h (.ite (muteChannel_keeps (reachNs_keeps h)) (enterDoubt_keeps (reachNs_keeps h)))

theorem linkLostVerdictOp_keeps (h : Keeps s₀ s) : Keeps s₀ (linkLostVerdictOp s) := by
  unfold linkLostVerdictOp
  split
  · exact h
  · split
    · exact h
    · extract_lets +onlyGivenNames s1 s2
      have k1 : Keeps s₀ s2 := setF_keeps (setF_keeps (modTwn_keeps (advanceTo_keeps h _)) _ _ _) _ _ _
      exact raise_keeps (.foldl _ (fun _ _ hu => .ite (muteChannel_keeps hu) hu) k1 _) _ _

theorem releaseHeld_keeps {c : Nat} {e : RingEntry} (h : Keeps s₀ s) : Keeps s₀ (releaseHeld c e s) := by
  unfold releaseHeld
  split
  · exact h
  · exact copyRow_keeps h

theorem checkOp_keeps {m : TwinMsg} (h : Keeps s₀ s) : Keeps s₀ (checkOp m s) := by
  unfold checkOp
  extract_lets +onlyGivenNames c b
  split
  · exact h
  · extract_lets +onlyGivenNames k s1
    split
    · exact modOut_keeps (modTwn_keeps h)
    · split
      · exact modTwn_keeps h
      · exact .ite (releaseHeld_keeps (modTwn_keeps h)) (.ite (diverge_keeps (modTwn_keeps h)) (modTwn_keeps h))

theorem lockstepTimeoutOp_keeps {c : Nat} (h : Keeps s₀ s) : Keeps s₀ (lockstepTimeoutOp c s) := by
  unfold lockstepTimeoutOp
  split
  · exact h
  · exact .ite h (.ite (raise_keeps (addF_keeps (withhold_keeps (reachNs_keeps h)) _ _ _) _ _)
      (enterDoubt_keeps (reachNs_keeps h)))

theorem piccheckOp_keeps {m : TwinMsg} (h : Keeps s₀ s) : Keeps s₀ (piccheckOp m s) :=
  .ite h (comparePics_keeps (modTwn_keeps h))

theorem unpair_keeps {c : Nat} (h : Keeps s₀ s) : Keeps s₀ (unpair c s) :=
  setF_keeps (modTwn_keeps h) _ _ _

theorem joinReqSendOp_keeps {c : Nat} (h : Keeps s₀ s) : Keeps s₀ (joinReqSendOp c s) :=
  .ite h (twinSend_keeps (setAct_keeps (setJoin_keeps h) _ _ _))

theorem joinReqOp_keeps {c : Nat} (h : Keeps s₀ s) : Keeps s₀ (joinReqOp c s) :=
  .ite h (.ite (modEch_keeps (modTwn_keeps h)) (modTwn_keeps h))

theorem sendParts_keeps {c n : Nat} {bytes : List Byte} (h : Keeps s₀ s) : Keeps s₀ (sendParts c n bytes s) :=
  .foldl _ (fun _ _ hu => twinSend_keeps hu) h _

theorem snapshotTakeOp_keeps {c : Nat} (h : Keeps s₀ s) : Keeps s₀ (snapshotTakeOp c s) := by
  unfold snapshotTakeOp
  extract_lets +onlyGivenNames x
  split
  · split
    · exact h
    · exact .ite h (modEch_keeps (modTwn_keeps (sendParts_keeps (reachNs_keeps h))))
  · split
    · exact h
    · exact .ite h (addF_keeps (setF_keeps (twinSend_keeps (modTwn_keeps (sendParts_keeps h))) _ _ _) _ _ _)

theorem joinFails_keeps {c : Nat} (h : Keeps s₀ s) : Keeps s₀ (joinFails c s) := by
  unfold joinFails
  extract_lets +onlyGivenNames s1
  have k1 : Keeps s₀ s1 := raise_keeps (addF_keeps h _ _ _) _ _
  exact .ite (restartChannel_keeps k1) (twinSend_keeps (muteChannel_keeps k1))

theorem applySnapshot_keeps {c : Nat} {b : List Byte} (h : Keeps s₀ s) : Keeps s₀ (applySnapshot c b s) := by
  unfold applySnapshot
  extract_lets +onlyGivenNames w n before ck ccs stats idr loan s1
  have k3 : Keeps s₀ s1 := modEch_keeps (.ite (modMux_keeps h) h)
  extract_lets +onlyGivenNames s2
  have k5 : Keeps s₀ s2 := countTokens_keeps (setF_keeps (setF_keeps (setF_keeps k3 _ _ _) _ _ _) _ _ _)
  exact .ite (setF_keeps (modOut_keeps k5) _ _ _) (modEch_keeps (setF_keeps (modOut_keeps k5) _ _ _))

theorem snapPartOp_keeps {m : TwinMsg} (h : Keeps s₀ s) : Keeps s₀ (snapPartOp m s) := by
  unfold snapPartOp
  extract_lets +onlyGivenNames c idle
  split
  · exact h
  · extract_lets +onlyGivenNames old b s1
    have k1 : Keeps s₀ s1 := setAct_keeps (setJoin_keeps (modTwn_keeps h)) _ _ _
    exact .ite k1 (.ite (twinSend_keeps (joinFails_keeps k1)) (applySnapshot_keeps k1))

theorem settleTail_keeps {c : Nat} {b body : List Byte} (h : Keeps s₀ s) : Keeps s₀ (settleTail c b body s) :=
  countTokens_keeps (addF_keeps (addF_keeps (modEch_keeps h) _ _ _) _ _ _)

theorem snapCommitOp_keeps {m : TwinMsg} (h : Keeps s₀ s) : Keeps s₀ (snapCommitOp m s) := by
  unfold snapCommitOp
  extract_lets +onlyGivenNames c
  split
  · exact h
  · split
    · exact h
    · split
      · exact joinFails_keeps h
      · extract_lets +onlyGivenNames s1
        have k1 : Keeps s₀ s1 := settleTail_keeps (modTwn_keeps h)
        exact .ite (echRefresh_keeps (setAct_keeps (dropJoin_keeps k1) _ _ _)) (settleJoin_keeps (setJoin_keeps k1))

theorem joinDeadlineOp_keeps {c : Nat} (h : Keeps s₀ s) : Keeps s₀ (joinDeadlineOp c s) := by
  unfold joinDeadlineOp
  split
  · exact h
  · exact .ite (joinFails_keeps (reachNs_keeps h)) h

theorem patchReqOp_keeps {m : TwinMsg} {packets : List (List Byte)} (h : Keeps s₀ s) : Keeps s₀ (patchReqOp m packets s) := by
  unfold patchReqOp
  extract_lets +onlyGivenNames src f n
  split
  · exact h
  · refine .foldl_snd _ (fun a i ha => ?_) h _
    extract_lets +onlyGivenNames seq g head
    split
    · split
      · exact twinSend_keeps ha
      · exact twinSend_keeps ha
    · exact twinSend_keeps ha

theorem dropPatch_keeps {e : Nat × Nat} (h : Keeps s₀ s) : Keeps s₀ (dropPatch e s) :=
  modTwn_keeps h

theorem storePatch_keeps {src f u : Nat} {pkt : MediaPkt} (h : Keeps s₀ s) : Keeps s₀ (storePatch src f u pkt s) :=
  .ite (.ite h (dchStore_keeps (setSourceMerge_keeps h)))
    (.ite h (ingStore_keeps (.foldl _ (fun _ _ hu => concealMissing_keeps hu) (setSourceMerge_keeps h) _)))

theorem patchOp_keeps {m : TwinMsg} {pkt : MediaPkt} (h : Keeps s₀ s) : Keeps s₀ (patchOp m pkt s) := by
  unfold patchOp
  split
  · exact h
  · exact addF_keeps (storePatch_keeps (dropPatch_keeps h)) _ _ _

theorem loseAsked_keeps {e : Nat × Nat} (h : Keeps s₀ s) : Keeps s₀ (loseAsked e s) := by
  unfold loseAsked
  extract_lets +onlyGivenNames src f m s1
  have k1 : Keeps s₀ s1 := setSourceMerge_keeps (dropPatch_keeps h)
  split
  · exact .ite k1 (concealMissing_keeps k1)
  · exact k1

theorem patchNoneOp_keeps {m : TwinMsg} (h : Keeps s₀ s) : Keeps s₀ (patchNoneOp m s) := by
  unfold patchNoneOp
  split
  · exact h
  · exact addF_keeps (loseAsked_keeps h) _ _ _

theorem patchWaitExpiryOp_keeps {c : Nat} (h : Keeps s₀ s) : Keeps s₀ (patchWaitExpiryOp c s) :=
  .ite h (raise_keeps (addF_keeps (.foldl _ (fun _ _ hu => loseAsked_keeps hu) (reachNs_keeps h) _) _ _ _) _ _)

theorem mergeWindowExpiryOp_keeps {f : Sys2Proof.Flow} (h : Keeps s₀ s) : Keeps s₀ (mergeWindowExpiryOp f s) := by
  unfold mergeWindowExpiryOp
  split
  · split
    · exact .ite (askLead_keeps (advanceTo_keeps h _)) (ingMissing_keeps h)
    · exact h
  · split
    · exact .ite (askLead_keeps (advanceTo_keeps h _)) (dchMissing_keeps h)
    · exact h

theorem legLostOp_keeps {p timeout : Nat} {legB : Bool} {up e : Fld} {at_ : Option Nat} (h : Keeps s₀ s) :
    Keeps s₀ (legLostOp p timeout legB up e at_ s) :=
  .ite h (raise_keeps (addF_keeps (setF_keeps (advanceTo_keeps h _) _ _ _) _ _ _) _ _)

theorem startYield_keeps {mode : Nat} {ok : Bool} (h : Keeps s₀ s) : Keeps s₀ (startYield mode ok s) :=
  .ite h (.ite (raise_keeps h _ _) (setF_keeps (twinSend_keeps (modTwn_keeps h)) _ _ _))

theorem yieldOp_keeps (h : Keeps s₀ s) : Keeps s₀ (yieldOp s) :=
  startYield_keeps h

theorem handoverOp_keeps (h : Keeps s₀ s) : Keeps s₀ (handoverOp s) :=
  startYield_keeps h

theorem dropYield_keeps (h : Keeps s₀ s) : Keeps s₀ (dropYield s) :=
  setF_keeps (modTwn_keeps h) _ _ _

theorem yieldAbortOp_keeps (h : Keeps s₀ s) : Keeps s₀ (yieldAbortOp s) := by
  unfold yieldAbortOp
  split
  · exact .ite (dropYield_keeps h) h
  · exact h

theorem yieldReceivedOp_keeps {m : TwinMsg} (h : Keeps s₀ s) : Keeps s₀ (yieldReceivedOp m s) :=
  .ite h (setF_keeps (twinSend_keeps (modTwn_keeps h)) _ _ _)

theorem handoverTimeOp_keeps (h : Keeps s₀ s) : Keeps s₀ (handoverTimeOp s) := by
  unfold handoverTimeOp
  split
  · exact h
  · split
    · exact h
    · extract_lets +onlyGivenNames s1
      have k3 : Keeps s₀ s1 := setF_keeps (addF_keeps (raise_keeps (reachNs_keeps h) _ _) _ _ _) _ _ _
      extract_lets +onlyGivenNames chans run
      split
      · extract_lets +onlyGivenNames s2
        have k4 : Keeps s₀ s2 := setRole_keeps (setF_keeps (modTwn_keeps k3) _ _ _)
        exact .ite (.foldl _ (fun _ _ hu => setJoin_keeps hu) k4 _) (modTwn_keeps k4)
      · exact .ite (showJoins_keeps (modTwn_keeps (takeLead_keeps k3))) (.foldl _ (fun _ _ hu => .ite (muteChannel_keeps hu) hu)
          (setF_keeps (takeLead_keeps k3) _ _ _) _)

theorem twnCommand_keeps (h : Keeps s₀ s) : Keeps s₀ (twnCommand s) := by
  unfold twnCommand
  extract_lets +onlyGivenNames k a
  split
  · exact h
  · split
    · exact .ite h (setAct_keeps (setRole_keeps (modTwn_keeps h)) _ _ _)
    · split
      · exact h
      · extract_lets +onlyGivenNames mine s1
        have k2 : Keeps s₀ s1 := .foldl _ (fun _ _ hu => .ite (setAct_keeps (dropJoin_keeps (muteChannel_keeps hu)) _ _ _) hu)
          h _
        extract_lets +onlyGivenNames s2
        have k3 : Keeps s₀ s2 := setRole_keeps (setF_keeps (setF_keeps (dropYield_keeps (modTwn_keeps k2)) _ _ _) _ _ _)
        exact echRefresh_keeps (setAct_keeps (.ite (clearFields_keeps k3 _ _) k3) _ _ _)

/-! ## Commands of the stacks -/

theorem writable_keeps {i : Nat} {l : List WaitFrame} {w : WaitFrame} (h : Keeps s₀ s) (e : writable i l s = some (w, t)) :
    Keeps s₀ t := by
  obtain ⟨x, -, e⟩ := List.exists_of_findSome?_eq_some e
  split at e
  · cases e
  · simp only [] at e
    split at e
    · cases e
    · cases e
      exact writeFrame_keeps h

theorem stallEndOp_keeps {side : Nat} (h : Keeps s₀ s) : Keeps s₀ (stallEndOp side s) := by
  unfold stallEndOp
  split
  · extract_lets +onlyGivenNames l
    split
    · exact h
    · rename_i e
      have k1 := writable_keeps h e
      exact modEth_keeps (.ite (countStall_keeps k1) k1)
  · extract_lets +onlyGivenNames l
    split
    · exact h
    · extract_lets +onlyGivenNames rest _ s1 s2
      have k1 : Keeps s₀ s1 := commitPkt_keeps (h.frame (by rfl))
      have k2 : Keeps s₀ s2 := .ite (countStall_keeps k1) k1
      exact .ite (releaseCopied_keeps k2) k2

theorem queuedDrop_keeps {q reason : Nat} (h : Keeps s₀ s) : Keeps s₀ (queuedDrop q reason s) := by
  unfold queuedDrop
  split
  · exact flowDrop_keeps (subF_keeps h _ _ _)
  · exact flowDrop_keeps (subF_keeps h _ _ _)
  · exact flowDrop_keeps (subF_keeps h _ _ _)
  · exact flowDrop_keeps (subF_keeps h _ _ _)
  · exact .ite (ethDropped_keeps (subF_keeps h _ _ _)) h
  · exact h

theorem legDropPacket_keeps {q : Nat} (h : Keeps s₀ s) : Keeps s₀ (legDropPacket q s) := by
  unfold legDropPacket
  split
  · exact legDrops_keeps h
  · exact legDrops_keeps h
  · exact h

theorem popOp_keeps {q : Nat} (h : Keeps s₀ s) : Keeps s₀ (popOp q s) := by
  unfold popOp
  split
  · exact h
  · split
    · exact .ite (.getD (fun _ e => legPop_keeps h e) h) h
    · exact sndPop_keeps h
    · extract_lets +onlyGivenNames i k
      split
      · exact .ite (.getD (fun _ e => sendControl_keeps h e) h) h
      · split
        · exact h
        · rename_i e
          exact .ite (ethDelivered_keeps (subF_keeps (popPkt_keeps h e) _ _ _)) (popPkt_keeps h e)
    · split
      · exact h
      · rename_i e
        have k1 := popPkt_keeps h e
        split
        · exact k1
        · split
          · exact ingDeliver_keeps k1
          · exact ingDeliver_keeps k1
          · exact ingDeliver_keeps k1
          · exact dchDeliver_keeps k1
          · exact k1

theorem drivePin_keeps {n : Nat} (h : Keeps s₀ s) : Keeps s₀ (drivePin n s) :=
  emit_keeps h _ _ _

theorem settlePin_keeps {n : Nat} (h : Keeps s₀ s) : Keeps s₀ (settlePin n s) := by
  unfold settlePin
  extract_lets +onlyGivenNames v on
  split
  · split
    · exact h
    · refine drivePin_keeps ?_
      extract_lets +onlyGivenNames u
      have k1 : Keeps s₀ u := setF_keeps h _ _ _
      exact k1.frame (by rfl)
  · exact .ite (drivePin_keeps (setF_keeps h _ _ _)) h

theorem settleCongestion_keeps (h : Keeps s₀ s) : Keeps s₀ (settleCongestion s) :=
  .foldl _ (fun _ _ hu => settlePin_keeps hu) (settleXoff_keeps (settleXoff_keeps h)) _

theorem flushPackets_keeps {q fuel : Nat} (h : Keeps s₀ s) : Keeps s₀ (flushPackets q fuel s) := by
  induction fuel generalizing s with
  | zero => exact h
  | succ fuel ih =>
    unfold flushPackets
    split
    · exact h
    · rename_i e
      extract_lets +onlyGivenNames s2 stopped s3
      have k2 : Keeps s₀ s2 := subF_keeps (popPkt_keeps h e) _ _ _
      have k3 : Keeps s₀ s3 := .ite (queuedDrop_keeps k2) (.ite k2 (legDropPacket_keeps k2))
      exact ih k3

theorem faultOwners_keeps (h : Keeps s₀ s) : Keeps s₀ (faultOwners s) :=
  .foldl _ (fun _ _ hu => toFault_keeps hu _ _) h _

theorem stackErrorOp_keeps {x : StackError} (h : Keeps s₀ s) : Keeps s₀ (stackErrorOp x s) := by
  unfold stackErrorOp
  split
  · exact raise_keeps (addF_keeps h _ _ _) _ _
  · split
    · exact h
    · rename_i e
      exact .ite (queuedDrop_keeps (popPkt_keeps h e)) (legDropPacket_keeps (popPkt_keeps h e))
  · extract_lets +onlyGivenNames x gone cells s1 s2 s3
    have k2 : Keeps s₀ s2 := addF_keeps (subF_keeps (setQueue_keeps h) _ _ _) _ _ _
    have k3 : Keeps s₀ s3 := .foldl _ (fun _ _ hu => .ite (queuedDrop_keeps hu) (legDropPacket_keeps hu)) k2 _
    refine raise_keeps ?_ _ _
    split
    · exact toFault_keeps k3 _ _
    · exact k3
  · exact raise_keeps (faultOwners_keeps (toFault_keeps h _ _)) _ _

theorem stkCommand_keeps (h : Keeps s₀ s) : Keeps s₀ (stkCommand s) :=
  .ite h (plainCommand_keeps h _)

theorem rebuildOp_keeps (h : Keeps s₀ s) : Keeps s₀ (rebuildOp s).2 :=
  .ite_snd h (h.frame (by rfl))

theorem qcfgOp_keeps {r : Req} {v : Nat} (h : Keeps s₀ s) : Keeps s₀ (qcfgOp r v s).2 :=
  .ite_snd h (.ite_snd h (setQueue_keeps h))

theorem qwmOp_keeps {r : Req} {v : Nat} (h : Keeps s₀ s) : Keeps s₀ (qwmOp r v s).2 :=
  .ite_snd h (.ite_snd h (setQueue_keeps h))

theorem qmapOp_keeps {r : Req} {v : Nat} (h : Keeps s₀ s) : Keeps s₀ (qmapOp r v s).2 :=
  .ite_snd h (.ite_snd h (.snd (settleCongestion_keeps (modQueue_keeps h))))

theorem qpeakClearOp_keeps (h : Keeps s₀ s) : Keeps s₀ (qpeakClearOp s) :=
  modQueue_keeps h

/-! ## Commits (R68, R69) -/

theorem raiseVideoMin_keeps {i : Nat} (h : Keeps s₀ s) : Keeps s₀ (raiseVideoMin i s) :=
  .ite (modQueue_keeps h) h

theorem takeNow_keeps {p : Nat} (h : Keeps s₀ s) : Keeps s₀ (takeNow p s) := by
  unfold takeNow
  split
  · exact takeWith_keeps h _ _ (fun _ hu => ingCommand_keeps hu)
  · exact setStrict_keeps (takeWith_keeps h _ _ (fun _ hu => dchCommand_keeps hu))
  · exact takeIdlePaths_keeps h
  · exact takeEchGen_keeps h
  · exact takeWith_keeps h _ _ (fun _ hu => muxCommand_keeps hu)
  · exact outCommand_keeps (takeGen_keeps h _)
  · exact takeWith_keeps h _ _ (fun _ hu => sndCommand_keeps hu)
  · exact takeWith_keeps h _ _ (fun _ hu => encCommand_keeps hu)
  · exact decRefreshAll_keeps (takeWith_keeps h _ _ (fun _ hu => followCommand_keeps hu _))
  · exact twnCommand_keeps (.ite (takeGen_keeps h _) (setF_keeps (takeGen_keeps h _) _ _ _))
  · exact settlePulses_keeps (takeWith_keeps h _ _ (fun _ hu => timCommand_keeps hu))
  · exact ethTake_keeps h
  · exact izlCommand_keeps (takeGen_keeps h _)
  · exact laneGen_keeps h
  · exact takeHbm_keeps h
  · exact chkSettle_keeps (takeWith_keeps h _ _ (fun _ hu => followCommand_keeps hu _))
  · exact .ite (takeGen_keeps h _) (takeWith_keeps h _ _ (fun _ hu => plainCommand_keeps hu _))
  · exact takeWith_keeps h _ _ (fun _ hu => stkCommand_keeps hu)
  · exact takeWith_keeps h _ _ (fun _ hu => plainCommand_keeps hu _)
  · exact takeGen_keeps h _
  · exact takeGen_keeps h _
  · exact takeGen_keeps h _
  · exact takeGen_keeps h _
  · exact takeGen_keeps h _
  · exact takeGen_keeps h _

theorem showRows_keeps {c : Nat} (h : Keeps s₀ s) : Keeps s₀ (showRows c s) :=
  setF_keeps (setF_keeps (setF_keeps h _ _ _) _ _ _) _ _ _

theorem afterCommit_keeps {p : Nat} (h : Keeps s₀ s) : Keeps s₀ (afterCommit p s) := by
  unfold afterCommit
  extract_lets +onlyGivenNames s0
  have k1 : Keeps s₀ s0 := by
    unfold s0
    split
    · exact showRows_keeps h
    · exact h.frame (by rfl)
    · exact modCnd_keeps h
    · exact h
  extract_lets +onlyGivenNames s1
  have k3 : Keeps s₀ s1 := .ite (takeGen_keeps k1 _) (.ite k1 (takeNow_keeps k1))
  extract_lets +onlyGivenNames s2
  have k4 : Keeps s₀ s2 := by
    unfold s2
    split
    · exact cndRefreshAll_keeps k3
    · exact cndRefreshAll_keeps k3
    · exact cndRefreshAll_keeps k3
    · exact cndRefreshAll_keeps k3
    · exact cndRefreshAll_keeps k3
    · exact k3
  exact settleEngines_keeps k4

theorem commitOp_keeps {p : Nat} (h : Keeps s₀ s) : Keeps s₀ (commitOp p s).2 := by
  unfold commitOp
  split
  · exact setF_keeps h _ _ _
  · split
    · exact h
    · extract_lets +onlyGivenNames v filters
      split
      · exact .foldl _ (fun _ _ hu => raiseIf_keeps hu _ _ _) h _
      · extract_lets +onlyGivenNames s1
        have k1 : Keeps s₀ s1 := .ite (.getD (fun _ e => placeBuffer_keeps h e) h) h
        exact .snd (afterCommit_keeps (commitShadows_keeps k1 _))

/-! ## Resets (R65, R482) -/

theorem withdrawPictures_keeps (h : Keeps s₀ s) : Keeps s₀ (withdrawPictures s) :=
  .foldl _ (fun _ _ hu => watWithdraw_keeps hu _) h _

theorem discardWats_keeps (h : Keeps s₀ s) : Keeps s₀ (discardWats s) :=
  setWats_keeps h _

theorem loseStaging_keeps (h : Keeps s₀ s) : Keeps s₀ (loseStaging s) := by
  unfold loseStaging
  split
  · split
    · exact h
    · extract_lets +onlyGivenNames _ f s1
      have k1 : Keeps s₀ s1 := setF_keeps (setF_keeps (setF_keeps (h.frame (by rfl)) _ _ _) _ _ _) _ _ _
      split
      · exact lateReply_keeps k1
      · exact k1
  · split
    · exact .ite h (setF_keeps (h.frame (by rfl)) _ _ _)
    · exact h

theorem noteReset_keeps {old : State} {p : Nat} (h : Keeps s₀ s) : Keeps s₀ (noteReset old p s) :=
  .ite (setF_keeps (setF_keeps (h.frame (by rfl)) _ _ _) _ _ _) (setF_keeps (setF_keeps (h.frame (by rfl)) _ _ _) _ _ _)

/-- a main-domain reset keeps of each register map the entries of the standby domain. -/
theorem mainReset_keeps (h : Keeps s₀ s) : Keeps s₀ (mainReset s) := by
  unfold mainReset
  extract_lets +onlyGivenNames u _ _ _ s1 s2
  have k1 : Keeps s₀ s1 := by
    refine (loseStaging_keeps (dropPosts_keeps h)).trans ⟨rfl, Nat.le_refl _, fun hs => ?_, id⟩
    simp only [State.mapsSorted, Bool.and_eq_true] at hs ⊢
    exact ⟨⟨SMap.sorted_filter _ _ hs.1.1, SMap.sorted_filter _ _ hs.1.2⟩, SMap.sorted_filter _ _ hs.2⟩
  have k2 : Keeps s₀ s2 := .foldl _ (fun _ _ hu => noteReset_keeps hu) k1 _
  exact setF_keeps (setF_keeps (setF_keeps (setF_keeps k2 _ _ _) _ _ _) _ _ _) _ _ _

theorem mapCores_keeps (h : Keeps s₀ s) : Keeps s₀ (mapCores s) :=
  setF_keeps (.foldl _ (fun _ _ hu => setF_keeps hu _ _ _) h _) _ _ _

theorem mainUp_keeps {reason : Nat} (h : Keeps s₀ s) : Keeps s₀ (mainUp reason s) := by
  unfold mainUp
  extract_lets +onlyGivenNames _ _ _ s1 s2
  have k1 : Keeps s₀ s2 := .foldl _ (fun _ _ hu => setF_keeps hu _ _ _) (h.frame (by rfl)) _
  exact .foldl _ (fun _ _ hu => setAct_keeps hu _ _ _) (mapCores_keeps k1) _

theorem recordReset_keeps {kind cause : Nat} (h : Keeps s₀ s) : Keeps s₀ (recordReset kind cause s) :=
  raise_keeps (addF_keeps (setF_keeps (setF_keeps h _ _ _) _ _ _) _ _ _) _ _

/-- a reset of the whole device puts the kept entries into the order of the reset values, and closes every session. -/
theorem fullReset_keeps {portM : Bool} (h : Keeps s₀ s) : Keeps s₀ (fullReset portM s) := by
  unfold fullReset
  extract_lets +onlyGivenNames keep _ _ _ _ s1 fresh s2 s3
  have k2 : Keeps s₀ s2 := by
    refine h.trans ⟨rfl, Nat.le_refl _, fun hs => ?_, fun _ => ⟨rfl, fun e he => by cases he⟩⟩
    simp only [State.mapsSorted, Bool.and_eq_true] at hs ⊢
    exact ⟨⟨SMap.sorted_foldl_put _ _ (SMap.sorted_filter _ _ standbyStates_sorted), SMap.sorted_filter _ _ hs.1.2⟩,
      SMap.sorted_filter _ _ hs.2⟩
  have k3 : Keeps s₀ s3 := .foldl _ (fun _ _ hu => setF_keeps hu _ _ _) k2 _
  exact .ite (setF_keeps k3 _ _ _) k3

theorem takeDeviceNumber_keeps (h : Keeps s₀ s) : Keeps s₀ (takeDeviceNumber s) :=
  setF_keeps h _ _ _

theorem sampleStraps_keeps {bpos bootsel : Nat} (h : Keeps s₀ s) : Keeps s₀ (sampleStraps bpos bootsel s) :=
  takeDeviceNumber_keeps (setF_keeps (setF_keeps h _ _ _) _ _ _)

theorem dropUnit_keeps {p : Nat} (h : Keeps s₀ s) : Keeps s₀ (dropUnit p s) := by
  unfold dropUnit
  split
  · exact h.frame (by rfl)
  · exact h.frame (by rfl)
  · extract_lets +onlyGivenNames c s1
    have k2 : Keeps s₀ s1 := .ite (accountLeaves_keeps h) h
    extract_lets +onlyGivenNames s2
    have k3 : Keeps s₀ s2 := dropJoin_keeps (stopReading_keeps k2)
    exact k3.frame (by rfl)
  · exact h.frame (by rfl)
  · exact h.frame (by rfl)
  · exact h.frame (by rfl)
  · exact h.frame (by rfl)
  · exact h.frame (by rfl)
  · exact h.frame (by rfl)
  · extract_lets +onlyGivenNames s1
    have k4 : Keeps s₀ s1 := lanesCommand_keeps (portDown_keeps h)
    exact k4.frame (by rfl)
  · extract_lets +onlyGivenNames s1
    have k5 : Keeps s₀ s1 := lanesCommand_keeps h
    exact k5.frame (by rfl)
  · exact h.frame (by rfl)
  · exact h.frame (by rfl)
  · extract_lets +onlyGivenNames u
    have k6 : Keeps s₀ u := dropPosts_keeps h
    exact k6.frame (by rfl)
  · exact h.frame (by rfl)
  · exact h.frame (by rfl)
  · exact h.frame (by rfl)
  · exact h

/-- a unit reset keeps of each register map the entries of other pages and the retained ones. -/
theorem resetUnit_keeps {p : Nat} (h : Keeps s₀ s) : Keeps s₀ (resetUnit p s) := by
  unfold resetUnit
  extract_lets +onlyGivenNames s1 keep s2 s3
  have k1 : Keeps s₀ s1 := dropUnit_keeps h
  have k2 : Keeps s₀ s2 := by
    refine watLeave_keeps (k1.trans ?_) _
    refine ⟨rfl, Nat.le_refl _, fun hs => ?_, id⟩
    simp only [State.mapsSorted, Bool.and_eq_true] at hs ⊢
    exact ⟨⟨SMap.sorted_filter _ _ hs.1.1, SMap.sorted_filter _ _ hs.1.2⟩, SMap.sorted_filter _ _ hs.2⟩
  exact settleEngines_keeps (echRefresh_keeps (decRefreshAll_keeps (setAct_keeps k2 _ _ _)))

theorem unitResetOp_keeps {p : Nat} (h : Keeps s₀ s) : Keeps s₀ (unitResetOp p s).2 := by
  unfold unitResetOp
  split
  · exact h
  · split
    · exact h
    · refine .snd (resetUnit_keeps ?_)
      split
      · rename_i c u _
        have k1 : Keeps s₀ (setUnit c u 0 s) := setUnit_keeps h
        exact k1.frame (by rfl)
      · exact h

/-! ## Firmware and trust (chapter 17) -/

theorem extendSlot_keeps {n : Nat} {m : List Byte} (h : Keeps s₀ s) : Keeps s₀ (extendSlot n m s) :=
  h.frame (by rfl)

theorem measureFloors_keeps (h : Keeps s₀ s) : Keeps s₀ (measureFloors s) :=
  extendSlot_keeps h

theorem measureKeys_keeps (h : Keeps s₀ s) : Keeps s₀ (measureKeys s) :=
  extendSlot_keeps h

theorem setBootState_keeps {n : Nat} (h : Keeps s₀ s) : Keeps s₀ (setBootState n s) := by
  unfold setBootState
  extract_lets +onlyGivenNames s1
  have k1 : Keeps s₀ s1 := setF_keeps (setF_keeps (setF_keeps h _ _ _) _ _ _) _ _ _
  exact .ite k1 (measureFloors_keeps k1)

theorem storeWritten_keeps {bytes : Nat} (h : Keeps s₀ s) : Keeps s₀ (storeWritten bytes s) :=
  annalsAdd_keeps h

theorem showVerify_keeps {n : Nat} (h : Keeps s₀ s) : Keeps s₀ (showVerify n s) :=
  .ite (setF_keeps (setF_keeps h _ _ _) _ _ _) (raise_keeps (addF_keeps (setF_keeps (setF_keeps h _ _ _) _ _ _) _ _ _) _ _)

theorem releaseLock_keeps (h : Keeps s₀ s) : Keeps s₀ (releaseLock s) :=
  setF_keeps (setF_keeps
    (setF_keeps (setF_keeps
      (setF_keeps (setF_keeps (dropBuffer_keeps (h.frame (by rfl))) _ _ _) _ _ _) _ _ _) _ _ _) _ _ _) _ _ _

theorem closeLock_keeps (h : Keeps s₀ s) : Keeps s₀ (closeLock s) :=
  .ite (h.frame (by rfl)) (releaseLock_keeps h)

theorem lockSessionClosed_keeps {i : Nat} (h : Keeps s₀ s) : Keeps s₀ (lockSessionClosed i s) :=
  .ite (closeLock_keeps h) h

theorem fwOp_keeps {r : Req} {addr : Nat} {op : State → Status × List Byte × State} (h : Keeps s₀ s)
    (ho : ∀ u, Keeps s₀ u → Keeps s₀ (op u).2.2) : Keeps s₀ (fwOp r addr op s) :=
  opStart_keeps h _ _ _ _ (fun u hu => .ite (reply_keeps hu _ _ _ _ _) (reply_keeps (ho u hu) _ _ _ _ _))

theorem fwHeld_keeps {r : Req} {addr : Nat} {op : State → Status × List Byte × State} (h : Keeps s₀ s)
    (ho : ∀ u, Keeps s₀ u → Keeps s₀ (op u).2.2) : Keeps s₀ (fwHeld r addr op s) := by
  refine fwOp_keeps h (fun u hu => ?_)
  split
  · exact ho u hu
  · exact hu

theorem placeStaging_keeps {n : Nat} (h : Keeps s₀ s) (e : placeStaging n s = some t) : Keeps s₀ t := by
  obtain ⟨g, -, rfl⟩ := Option.map_eq_some_iff.1 e
  exact h.frame (by rfl)

theorem takeLock_keeps {holder session kind n : Nat} (h : Keeps s₀ s) : Keeps s₀ (takeLock holder session kind n s) :=
  setF_keeps (setF_keeps (setF_keeps (setF_keeps (setF_keeps (h.frame (by rfl)) _ _ _) _ _ _) _ _ _) _ _ _) _ _ _

theorem fwOpenOp_keeps {r : Req} {kind n : Nat} (h : Keeps s₀ s) : Keeps s₀ (fwOpenOp r kind n s).2.2 := by
  unfold fwOpenOp
  extract_lets +onlyGivenNames twin
  split
  · exact h
  · split
    · exact h
    · extract_lets +onlyGivenNames s1 i
      have k1 : Keeps s₀ s1 := .ite (raise_keeps (releaseLock_keeps h) _ _) h
      split
      · split
        · exact k1
        · split
          · exact k1
          · rename_i e
            exact takeLock_keeps (placeStaging_keeps k1 e)
      · exact takeLock_keeps k1

theorem fwDataOp_keeps {off : Nat} {b : List Byte} (h : Keeps s₀ s) : Keeps s₀ (fwDataOp off b s).2.2 := by
  unfold fwDataOp
  split
  · exact h
  · split
    · exact h
    · exact setF_keeps (setF_keeps (h.frame (by rfl)) _ _ _) _ _ _

theorem verifyOp_keeps (h : Keeps s₀ s) : Keeps s₀ (verifyOp s).2.2 := by
  unfold verifyOp
  split
  · exact h
  · exact showVerify_keeps h

theorem installOp_keeps {r : Req} {addr flags : Nat} (h : Keeps s₀ s) : Keeps s₀ (installOp r addr flags s) := by
  unfold installOp
  refine opStart_keeps h _ _ _ _ (fun _ hu => ?_)
  extract_lets +onlyGivenNames fail
  split
  · exact reply_keeps hu _ _ _ _ _
  · split
    · exact reply_keeps hu _ _ _ _ _
    · split
      · exact reply_keeps hu _ _ _ _ _
      · split
        · exact reply_keeps hu _ _ _ _ _
        · extract_lets +onlyGivenNames v s1
          have k1 : Keeps s₀ s1 := showVerify_keeps hu
          exact .ite (reply_keeps k1 _ _ _ _ _) (holdOp_keeps (setF_keeps (setF_keeps (k1.frame (by rfl)) _ _ _) _ _ _))

theorem writeSlot_keeps {x : CatSlot} (h : Keeps s₀ s) : Keeps s₀ (writeSlot x s) :=
  storeWritten_keeps (setF_keeps (setF_keeps (setF_keeps (h.frame (by rfl)) _ _ _) _ _ _) _ _ _)

theorem loadPage_keeps {withCmd : Bool} {x : CatSlot} {p : Nat} (h : Keeps s₀ s) : Keeps s₀ (loadPage withCmd x p s) := by
  unfold loadPage
  extract_lets +onlyGivenNames l s1
  have k1 : Keeps s₀ s1 := .foldl _ (fun _ _ hu => setSh_keeps hu _ _ _) h _
  have k2 : Keeps s₀ (if placesBuffer p s1 then (placeBuffer getSh p s1).getD s1 else s1) :=
    .ite (.getD (fun _ e => placeBuffer_keeps k1 e) k1) k1
  exact .ite (afterCommit_keeps (commitShadows_keeps k2 _)) k1

theorem loadSlot_keeps {x : CatSlot} (h : Keeps s₀ s) : Keeps s₀ (loadSlot x s) :=
  .foldl _ (fun _ _ hu => loadPage_keeps hu) (.foldl _ (fun _ _ hu => loadPage_keeps hu) h _) _

theorem enterQuarantine_keeps (h : Keeps s₀ s) : Keeps s₀ (enterQuarantine s) :=
  raise_keeps (setF_keeps (setBootState_keeps h) _ _ _) _ _

theorem endQuarantine_keeps (h : Keeps s₀ s) : Keeps s₀ (endQuarantine s) :=
  .ite (raise_keeps (setF_keeps (setBootState_keeps h) _ _ _) _ _) h

theorem leaveReset_keeps (h : Keeps s₀ s) : Keeps s₀ (leaveReset s) :=
  echRefresh_keeps (.foldl _ (fun _ _ hu => takeAfterStop_keeps (setAct_keeps hu _ _ _) _ _ (fun _ hu => hu)) h _)

theorem recoveryUnits_keeps (h : Keeps s₀ s) : Keeps s₀ (recoveryUnits s) := by
  unfold recoveryUnits
  split
  · exact h
  · extract_lets +onlyGivenNames s1
    have k2 : Keeps s₀ s1 := .foldl _ (fun _ _ hu => setAct_keeps hu _ _ _) h _
    extract_lets +onlyGivenNames j p s2
    have k3 : Keeps s₀ s2 := .foldl _ (fun _ _ hu => setAct_keeps hu _ _ _) k2 _
    exact izlCommand_keeps (setF_keeps (setCm_keeps (setSh_keeps k3 _ _ _) _ _ _) _ _ _)

theorem enterRecovery_keeps {cause : Nat} (h : Keeps s₀ s) : Keeps s₀ (enterRecovery cause s) := by
  unfold enterRecovery
  extract_lets +onlyGivenNames s1
  have k4 : Keeps s₀ s1 := setBootState_keeps (extendSlot_keeps h)
  extract_lets +onlyGivenNames s2
  have k6 : Keeps s₀ s2 := setF_keeps (addF_keeps k4 _ _ _) _ _ _
  extract_lets +onlyGivenNames s3
  have k7 : Keeps s₀ s3 := setF_keeps (setF_keeps k6 _ _ _) _ _ _
  exact recoveryUnits_keeps (raise_keeps (k7.frame (by rfl)) _ _)

theorem leaveOut_keeps {bad : List Nat} (h : Keeps s₀ s) : Keeps s₀ (leaveOut bad s) := by
  unfold leaveOut
  extract_lets +onlyGivenNames s1
  have k1 : Keeps s₀ s1 := .foldl _ (fun _ _ hu => toFault_keeps (setF_keeps (setF_keeps hu _ _ _) _ _ _) _ _) h _
  extract_lets +onlyGivenNames lost
  clear_value lost
  split
  · exact k1
  · exact .ite (.foldl _ (fun _ _ hu => showAbsent_keeps hu) k1 _) (.foldl _ (fun _ _ hu => showAbsent_keeps hu)
      (mapCore_keeps k1) _)

theorem bootStep6_keeps {f : BootFinds} (h : Keeps s₀ s) : Keeps s₀ (bootStep6 f s) := by
  unfold bootStep6
  extract_lets +onlyGivenNames bad _ s1
  have k2 : Keeps s₀ s1 := setAct_keeps (leaveOut_keeps (leaveReset_keeps (h.frame (by rfl)))) _ _ _
  extract_lets +onlyGivenNames zero unread
  split
  · exact .ite (extendSlot_keeps (enterQuarantine_keeps k2)) (extendSlot_keeps (setF_keeps (setBootState_keeps k2) _ _ _))
  · exact .ite (extendSlot_keeps (enterQuarantine_keeps (setF_keeps k2 _ _ _)))
      (loadSlot_keeps
        (extendSlot_keeps (setF_keeps (setF_keeps (setF_keeps (setBootState_keeps (setF_keeps k2 _ _ _)) _ _ _) _ _ _) _ _ _)))

theorem bootMain_keeps {activated : Bool} {f : BootFinds} (h : Keeps s₀ s) : Keeps s₀ (bootMain activated f s) := by
  unfold bootMain
  split
  · exact recoveryUnits_keeps h
  · extract_lets +onlyGivenNames n s1
    split
    · exact enterRecovery_keeps (raise_keeps (addF_keeps (setF_keeps (setF_keeps h _ _ _) _ _ _) _ _ _) _ _)
    · extract_lets +onlyGivenNames h' s2
      have k4 : Keeps s₀ s2 := setF_keeps
        (setF_keeps (setF_keeps (setF_keeps (extendSlot_keeps (setF_keeps h _ _ _)) _ _ _) _ _ _) _ _ _) _ _ _
      extract_lets +onlyGivenNames s3
      have k6 : Keeps s₀ s3 := .ite (setF_keeps (setBootState_keeps k4) _ _ _) k4
      split
      · exact bootStep6_keeps k6
      · extract_lets +onlyGivenNames k _ s4
        have k7 : Keeps s₀ s4 := k6.frame (by rfl)
        exact .ite (enterRecovery_keeps (k7.frame (by rfl))) k7

theorem bootFrom4_keeps {f : BootFinds} (h : Keeps s₀ s) : Keeps s₀ (bootFrom4 f s) := by
  unfold bootFrom4
  split
  · exact h.frame (by rfl)
  · extract_lets +onlyGivenNames _ s1
    have k2 : Keeps s₀ s1 := extendSlot_keeps (h.frame (by rfl))
    extract_lets +onlyGivenNames s2
    have k3 : Keeps s₀ s2 := .ite (setF_keeps k2 _ _ _) (raise_keeps (setF_keeps k2 _ _ _) _ _)
    exact .ite (enterRecovery_keeps k3) (bootMain_keeps k3)

theorem raisePortM_keeps (h : Keeps s₀ s) : Keeps s₀ (raisePortM s) :=
  ethCommand_keeps (setF_keeps (setCm_keeps (setSh_keeps h _ _ _) _ _ _) _ _ _)

theorem bootRomOp_keeps {f : BootFinds} (h : Keeps s₀ s) : Keeps s₀ (bootRomOp f s) := by
  unfold bootRomOp
  split
  · exact h
  · extract_lets +onlyGivenNames _ s1
    have k4 : Keeps s₀ s1 := extendSlot_keeps (h.frame (by rfl))
    extract_lets +onlyGivenNames s2
    have k6 : Keeps s₀ s2 := addF_keeps (setF_keeps k4 _ _ _) _ _ _
    split
    · exact toFault_keeps k6 _ _
    · split
      · exact toFault_keeps k6 _ _
      · extract_lets +onlyGivenNames s3
        have k7 : Keeps s₀ s3 := setAct_keeps (setF_keeps (setF_keeps (extendSlot_keeps k6) _ _ _) _ _ _) _ _ _
        exact bootFrom4_keeps (raisePortM_keeps (measureKeys_keeps (measureFloors_keeps k7)))

theorem bootResumeOp_keeps {f : BootFinds} (h : Keeps s₀ s) : Keeps s₀ (bootResumeOp f s) :=
  .ite h (bootFrom4_keeps h)

theorem writeInstall_keeps {i : Installing} (h : Keeps s₀ s) : Keeps s₀ (writeInstall i s) := by
  unfold writeInstall
  extract_lets +onlyGivenNames x f
  split
  · exact storeWritten_keeps (setF_keeps (h.frame (by rfl)) _ _ _)
  · split
    · exact storeWritten_keeps (.ite (h.frame (by rfl)) (h.frame (by rfl)))
    · split
      · exact storeWritten_keeps (h.frame (by rfl))
      · split
        · split
          · exact h
          · exact .ite (loadSlot_keeps (endQuarantine_keeps (extendSlot_keeps (writeSlot_keeps h))))
              (extendSlot_keeps (writeSlot_keeps h))
        · exact raise_keeps (setF_keeps (storeWritten_keeps (extendSlot_keeps (h.frame (by rfl)))) _ _ _) _ _

theorem installCompleteOp_keeps {good : Bool} (h : Keeps s₀ s) : Keeps s₀ (installCompleteOp good s) := by
  unfold installCompleteOp
  split
  · exact h
  · extract_lets +onlyGivenNames _ s0 w _ s2 _ s1 s3
    have k0 : Keeps s₀ s0 := setF_keeps (setF_keeps (h.frame (by rfl)) _ _ _) _ _ _
    have kw : Keeps s₀ w := raise_keeps (annalsAdd_keeps (addF_keeps (writeInstall_keeps k0) _ _ _)) _ _
    have k2 : Keeps s₀ s2 := showVerify_keeps k0
    have k1 : Keeps s₀ s1 := .ite (setF_keeps (kw.frame (by rfl)) _ _ _) (.ite (k2.frame (by rfl)) k2)
    have k3 : Keeps s₀ s3 := by
      unfold s3
      split
      · exact lateReply_keeps k1
      · exact k1
    exact .ite (releaseLock_keeps k3) k3

theorem saveDone_keeps (h : Keeps s₀ s) : Keeps s₀ (saveDone s) := by
  unfold saveDone
  split
  · exact h
  · exact raise_keeps (addF_keeps (writeSlot_keeps (h.frame (by rfl))) _ _ _) _ _

theorem restartMain_keeps {kind cause : Nat} {activated : Bool} {f : BootFinds} (h : Keeps s₀ s) :
    Keeps s₀ (restartMain kind cause activated f s) := by
  unfold restartMain
  extract_lets +onlyGivenNames s1
  have k2 : Keeps s₀ s1 := recordReset_keeps (mainReset_keeps h)
  exact .ite (bootMain_keeps (mainUp_keeps (k2.frame (by rfl)))) (.ite (setBootState_keeps (k2.frame (by rfl)))
    (k2.frame (by rfl)))

theorem activateOp_keeps {r : Req} {addr flags : Nat} {f : BootFinds} (h : Keeps s₀ s) :
    Keeps s₀ (activateOp r addr flags f s) :=
  opStart_keeps h _ _ _ _ (fun _ hu => .ite (reply_keeps hu _ _ _ _ _) (.ite (reply_keeps hu _ _ _ _ _)
    (.ite (reply_keeps hu _ _ _ _ _) (.ite (reply_keeps hu _ _ _ _ _)
      (restartMain_keeps (withdrawPictures_keeps (saveDone_keeps (reply_keeps hu _ _ _ _ _))))))))

theorem partReply_keeps {k : Nat} {l : List Byte} (h : Keeps s₀ s) : Keeps s₀ (partReply k l s).2.2 := by
  unfold partReply
  split
  · exact h
  · exact h

theorem raiseFloorOp_keeps {kind : Nat} (h : Keeps s₀ s) : Keeps s₀ (raiseFloorOp kind s).2.2 := by
  unfold raiseFloorOp
  split
  · exact h
  · split
    · exact h
    · exact .ite (raise_keeps (measureFloors_keeps (storeWritten_keeps (setF_keeps h _ _ _))) _ _) h

theorem keySetOp_keeps {k : Nat} {key : List Byte} (h : Keeps s₀ s) : Keeps s₀ (keySetOp k key s).2.2 := by
  unfold keySetOp
  split
  · exact h
  · exact raise_keeps (measureKeys_keeps (storeWritten_keeps (setF_keeps (h.frame (by rfl)) _ _ _))) _ _

theorem keySetRun_keeps {r : Req} {addr k : Nat} {key : List Byte} (h : Keeps s₀ s) : Keeps s₀ (keySetRun r addr k key s) :=
  .ite (reply_keeps (keySetOp_keeps h) _ _ _ _ _) (fwOp_keeps h (fun _ hu => keySetOp_keeps hu))

theorem extendOp_keeps {v : List Byte} (h : Keeps s₀ s) : Keeps s₀ (extendOp v s).2.2 := by
  unfold extendOp
  split
  · exact h
  · exact extendSlot_keeps h

theorem catReadOp_keeps {k : Nat} (h : Keeps s₀ s) : Keeps s₀ (catReadOp k s).2.2 :=
  partReply_keeps h

theorem catDiscardOp_keeps (h : Keeps s₀ s) : Keeps s₀ (catDiscardOp s).2.2 := by
  unfold catDiscardOp
  split
  · exact h
  · exact endQuarantine_keeps (writeSlot_keeps h)

theorem folioExportOp_keeps {k : Nat} (h : Keeps s₀ s) : Keeps s₀ (folioExportOp k s).2.2 :=
  partReply_keeps (.ite (addF_keeps (h.frame (by rfl)) _ _ _) h)

theorem attestOp_keeps {r : Req} {addr : Nat} {nonce : List Byte} (h : Keeps s₀ s) : Keeps s₀ (attestOp r addr nonce s) :=
  opStart_keeps h _ _ _ _ (fun _ hu => .ite (reply_keeps hu _ _ _ _ _) (holdOp_keeps (hu.frame (by rfl))))

theorem quoteCompleteOp_keeps (h : Keeps s₀ s) : Keeps s₀ (quoteCompleteOp s) := by
  unfold quoteCompleteOp
  split
  · exact h
  · exact lateReply_keeps (addF_keeps (h.frame (by rfl)) _ _ _)

theorem catalogueSaveOp_keeps (h : Keeps s₀ s) : Keeps s₀ (catalogueSaveOp s).2 :=
  .ite_snd h (.ite_snd h (.ite_snd h (h.frame (by rfl))))

theorem twinSourceRequestOp_keeps (h : Keeps s₀ s) : Keeps s₀ (twinSourceRequestOp s) := by
  unfold twinSourceRequestOp
  split
  · exact h
  · extract_lets +onlyGivenNames s1
    have k1 : Keeps s₀ s1 := advanceTo_keeps h _
    exact izlPost_keeps (k1.frame (by rfl)) _ _ _

theorem twinSourceServeOp_keeps {j : Nat} {cert : List Byte} (h : Keeps s₀ s) : Keeps s₀ (twinSourceServeOp j cert s) := by
  unfold twinSourceServeOp
  split
  · exact h
  · split
    · exact h
    · exact .foldl _ (fun _ _ hu => izlPost_keeps hu _ _ _) h _

theorem twinFails_keeps (h : Keeps s₀ s) : Keeps s₀ (twinFails s) :=
  releaseLock_keeps (h.frame (by rfl))

theorem twinPackageOp_keeps {j n off : Nat} {b : List Byte} {f : BootFinds} (h : Keeps s₀ s) :
    Keeps s₀ (twinPackageOp j n off b f s) := by
  unfold twinPackageOp
  extract_lets +onlyGivenNames mine
  split
  · exact h
  · extract_lets +onlyGivenNames s0
    have k0 {t : State} (e : s0 = some t) : Keeps s₀ t := by
      unfold s0 at e
      split at e
      · cases e
        exact h
      · obtain ⟨u, hu, rfl⟩ := Option.map_eq_some_iff.1 e
        exact takeLock_keeps (placeStaging_keeps h hu)
    clear_value s0
    split
    · exact twinFails_keeps h
    · have k1 := k0 rfl
      split
      · exact twinFails_keeps k1
      · split
        · exact twinFails_keeps k1
        · extract_lets +onlyGivenNames y got _ s2
          have k2 : Keeps s₀ s2 := setF_keeps (k1.frame (by rfl)) _ _ _
          split
          · exact twinFails_keeps (showVerify_keeps k2)
          · split
            · exact k2
            · extract_lets +onlyGivenNames v s3
              have k3 : Keeps s₀ s3 := showVerify_keeps k2
              split
              · exact twinFails_keeps k3
              · extract_lets +onlyGivenNames _ s4 s5
                clear_value s3
                have k5 : Keeps s₀ s5 := installCompleteOp_keeps (k3.frame (by rfl))
                exact .ite (restartMain_keeps (withdrawPictures_keeps (releaseLock_keeps k5))) (twinFails_keeps k5)

/-! ## Health and the annals (chapter 18) -/

theorem clientFault_keeps {p reason : Nat} (h : Keeps s₀ s) : Keeps s₀ (clientFault p reason s) := by
  unfold clientFault
  split
  · exact echFault_keeps h
  · exact toFault_keeps h _ _

theorem unitFault_keeps {p reason : Nat} (h : Keeps s₀ s) : Keeps s₀ (unitFault p reason s) := by
  unfold unitFault
  split
  · exact echFault_keeps h
  · exact .ite (echFault_keeps (toFault_keeps h _ _)) (toFault_keeps h _ _)
  · exact cndRefreshAll_keeps (toFault_keeps h _ _)
  · exact setStrict_keeps (decRefreshAll_keeps (toFault_keeps h _ _))
  · exact .ite (setF_keeps (goSolo_keeps (modTwn_keeps h)) _ _ _)
      (toFault_keeps (.foldl _ (fun _ _ hu => .ite (muteChannel_keeps hu) hu) h _) _ _)
  · exact settlePulses_keeps (setF_keeps (setTim_keeps (toFault_keeps h _ _)) _ _ _)
  · exact loseLock_keeps h
  · exact toFault_keeps (portDown_keeps h) _ _
  · exact .ite (izlDown_keeps h) (toFault_keeps h _ _)
  · exact faultOwners_keeps (toFault_keeps h _ _)
  · exact .foldl _ (fun _ _ hu => .ite (clientFault_keeps hu) hu) (toFault_keeps h _ _) _
  · exact setF_keeps (setF_keeps (toFault_keeps h _ _) _ _ _) _ _ _
  · exact toFault_keeps h _ _

theorem mismatchEvent_keeps {f k : Nat} (h : Keeps s₀ s) : Keeps s₀ (mismatchEvent f k s) :=
  .ite (raise_keeps h _ _) (.ite (raise_keeps h _ _) (.ite (raise_keeps h _ _) (.ite (raise_keeps h _ _) h)))

theorem takeSnap_keeps {f k : Nat} (h : Keeps s₀ s) : Keeps s₀ (takeSnap f k s) :=
  .ite (setF_keeps (h.frame (by rfl)) _ _ _) (satF_keeps h _ _ _)

theorem stockFailure_keeps {f k : Nat} (h : Keeps s₀ s) : Keeps s₀ (stockFailure f k s) := by
  unfold stockFailure
  extract_lets +onlyGivenNames sev s1 s2
  have k2 : Keeps s₀ s2 := .ite (mismatchEvent_keeps (raise_keeps (takeSnap_keeps h) _ _)) (takeSnap_keeps h)
  exact .ite (unitFault_keeps (.ite (k2.frame (by rfl)) k2)) (.ite (k2.frame (by rfl)) k2)

theorem stocktakeOp_keeps (h : Keeps s₀ s) : Keeps s₀ (stocktakeOp s) := by
  unfold stocktakeOp
  split
  · exact h
  · extract_lets +onlyGivenNames s0
    have k1 : Keeps s₀ s0 := advanceTo_keeps h _
    exact .foldl _ (fun _ _ hu => .ite (satF_keeps hu _ _ _) (stockFailure_keeps hu)) (k1.frame (by rfl)) _

theorem snapClrOp_keeps (h : Keeps s₀ s) : Keeps s₀ (snapClrOp s).2 :=
  setF_keeps (h.frame (by rfl)) _ _ _

theorem lowerLevel_keeps {n : Nat} (h : Keeps s₀ s) : Keeps s₀ (lowerLevel n s) :=
  .ite (setF_keeps (h.frame (by rfl)) _ _ _) h

theorem stackStep_keeps (h : Keeps s₀ s) : Keeps s₀ (stackStep s) :=
  .ite h (lowerLevel_keeps (h.frame (by rfl)))

theorem startThrottle_keeps (h : Keeps s₀ s) : Keeps s₀ (startThrottle s) :=
  .ite (lowerLevel_keeps h)
    (settleEngines_keeps (abandonGolden_keeps (abandonStep_keeps (raise_keeps (setF_keeps (lowerLevel_keeps h) _ _ _) _ _))))

theorem endThrottle_keeps (h : Keeps s₀ s) : Keeps s₀ (endThrottle s) :=
  .ite (settleEngines_keeps (setF_keeps h _ _ _)) h

theorem trackDwell_keeps {tj : Nat} (h : Keeps s₀ s) : Keeps s₀ (trackDwell tj s) :=
  .ite (h.frame (by rfl)) (.ite (.ite h (h.frame (by rfl))) (h.frame (by rfl)))

theorem trackCycle_keeps {tj : Nat} (h : Keeps s₀ s) : Keeps s₀ (trackCycle tj s) :=
  .ite (.ite (annalsAdd_keeps (h.frame (by rfl))) (h.frame (by rfl))) (.ite (h.frame (by rfl)) (h.frame (by rfl)))

theorem showTj_keeps {tj : Nat} (h : Keeps s₀ s) : Keeps s₀ (showTj tj s) :=
  setF_keeps (setF_keeps (h.frame (by rfl)) _ _ _) _ _ _

theorem governorReadingOp_keeps {tj : Option Byte} (h : Keeps s₀ s) : Keeps s₀ (governorReadingOp tj s) := by
  unfold governorReadingOp
  split
  · split
    · exact h
    · exact trackCycle_keeps (h.frame (by rfl))
  · extract_lets +onlyGivenNames s0
    have k6 : Keeps s₀ s0 := .ite (takeWith_keeps h _ _ (fun _ hu => plainCommand_keeps hu _)) h
    split
    · exact lowerLevel_keeps (raiseIf_keeps (setF_keeps (k6.frame (by rfl)) _ _ _) _ _ _)
    · extract_lets +onlyGivenNames c s1
      have k9 : Keeps s₀ s1 := trackCycle_keeps (showTj_keeps (setF_keeps k6 _ _ _))
      extract_lets +onlyGivenNames n _ s2
      have k11 : Keeps s₀ s2 := lowerLevel_keeps (k9.frame (by rfl))
      exact trackDwell_keeps (.ite (startThrottle_keeps k11) (.ite (endThrottle_keeps k11) k11))

theorem governorRestoreOp_keeps (h : Keeps s₀ s) : Keeps s₀ (governorRestoreOp s) := by
  unfold governorRestoreOp
  split
  · exact h
  · split
    · exact h
    · extract_lets +onlyGivenNames s1
      have k1 : Keeps s₀ s1 := advanceTo_keeps h _
      exact trackDwell_keeps (setF_keeps (k1.frame (by rfl)) _ _ _)

theorem writeAnnals_keeps (h : Keeps s₀ s) : Keeps s₀ (writeAnnals s) := by
  unfold writeAnnals
  extract_lets +onlyGivenNames cal s1
  have k1 : Keeps s₀ s1 := annalsAdd_keeps (annalsAdd_keeps h)
  exact k1.frame (by rfl)

theorem annFlushOp_keeps (h : Keeps s₀ s) : Keeps s₀ (annFlushOp s).2 := by
  unfold annFlushOp
  split
  · exact .ite_snd h (writeAnnals_keeps (h.frame (by rfl)))
  · exact writeAnnals_keeps (h.frame (by rfl))

theorem loadAnnals_keeps (h : Keeps s₀ s) : Keeps s₀ (loadAnnals s) := by
  unfold loadAnnals
  extract_lets +onlyGivenNames best x
  clear_value best
  split
  · exact h.frame (by rfl)
  · exact raise_keeps (setF_keeps (h.frame (by rfl)) _ _ _) _ _

theorem secondCounters_keeps (h : Keeps s₀ s) : Keeps s₀ (secondCounters s) := by
  unfold secondCounters
  extract_lets +onlyGivenNames s1 s2
  have k2 : Keeps s₀ s2 := .foldl _ (fun _ _ hu => .ite (annalsAdd_keeps hu) hu) (annalsAdd_keeps h) _
  extract_lets +onlyGivenNames s3
  have k3 : Keeps s₀ s3 := .foldl _ (fun _ _ hu => .ite (annalsAdd_keeps hu) hu) k2 _
  exact .foldl _ (fun _ _ hu => .ite (annalsAdd_keeps hu) hu) k3 _

theorem stressOp_keeps {mv : Nat} (h : Keeps s₀ s) : Keeps s₀ (stressOp mv s) := by
  unfold stressOp
  split
  · exact h
  · extract_lets +onlyGivenNames s1
    have k1 : Keeps s₀ s1 := passTicks_keeps h _
    exact secondCounters_keeps (setF_keeps (annalsAdd_keeps (k1.frame (by rfl))) _ _ _)

theorem lockOp_keeps (h : Keeps s₀ s) : Keeps s₀ (lockOp s) := by
  unfold lockOp
  extract_lets +onlyGivenNames s1
  have k1 : Keeps s₀ s1 := lockedOp_keeps h
  exact .ite (.ite (annalsAdd_keeps (k1.frame (by rfl))) (k1.frame (by rfl))) k1

theorem startDecGolden_keeps {k : Nat} (h : Keeps s₀ s) : Keeps s₀ (startDecGolden k s) :=
  setAct_keeps (setF_keeps h _ _ _) _ _ _

theorem decodeCoreTestOp_keeps {k : Nat} (h : Keeps s₀ s) : Keeps s₀ (decodeCoreTestOp k s) := by
  unfold decodeCoreTestOp
  split
  · exact h
  · extract_lets +onlyGivenNames s1
    have k1 : Keeps s₀ s1 := advanceTo_keeps h _
    exact .ite (startDecGolden_keeps (k1.frame (by rfl))) (k1.frame (by rfl))

theorem forceStep_keeps {q : Nat} (h : Keeps s₀ s) : Keeps s₀ (forceStep q s) := by
  unfold forceStep
  split
  · exact startGolden_keeps h
  · extract_lets +onlyGivenNames l
    split
    · exact .ite (completeStep_keeps (h.frame (by rfl))) h
    · exact h

theorem startTest_keeps {kind u : Nat} {force : Bool} (h : Keeps s₀ s) : Keeps s₀ (startTest kind u force s) :=
  .ite (.ite (forceStep_keeps h) h) (.ite (.ite (startDecGolden_keeps h) h) (.ite (laneBringUp_keeps h)
    (.ite (.ite (setAct_keeps h _ _ _) h) h)))

theorem treqOp_keeps {v : Nat} (h : Keeps s₀ s) : Keeps s₀ (treqOp v s).2 := by
  unfold treqOp
  extract_lets +onlyGivenNames kind u force
  split
  · exact h
  · split
    · exact h
    · split
      · exact raise_keeps (setF_keeps (setF_keeps h _ _ _) _ _ _) _ _
      · exact startTest_keeps (setF_keeps (setF_keeps (setF_keeps (h.frame (by rfl)) _ _ _) _ _ _) _ _ _)

theorem endTest_keeps {kind u : Nat} {pass : Bool} (h : Keeps s₀ s) : Keeps s₀ (endTest kind u pass s) :=
  .ite (goldenVectorDoneOp_keeps h) (.ite (.ite (raise_keeps (setAct_keeps (setF_keeps h _ _ _) _ _ _) _ _)
    (raise_keeps (toFault_keeps (setF_keeps h _ _ _) _ _) _ _)) (.ite (cndRefresh_keeps (setAct_keeps h _ _ _)) h))

theorem testDoneOp_keeps {pass : Bool} (h : Keeps s₀ s) : Keeps s₀ (testDoneOp pass s) :=
  .ite h (raise_keeps (setF_keeps (setF_keeps (setF_keeps (endTest_keeps h) _ _ _) _ _ _) _ _ _) _ _)

/-! ## Power (chapter 19) -/

theorem showState_keeps {n : Nat} (h : Keeps s₀ s) : Keeps s₀ (showState n s) :=
  .ite h (setF_keeps (setF_keeps h _ _ _) _ _ _)

theorem railsDown_keeps (h : Keeps s₀ s) : Keeps s₀ (railsDown s) := by
  unfold railsDown
  extract_lets +onlyGivenNames s1
  have k1 : Keeps s₀ s1 := .foldl _ (fun _ _ hu => setF_keeps hu _ _ _) h _
  exact k1.frame (by rfl)

theorem vinSideOff_keeps (h : Keeps s₀ s) : Keeps s₀ (vinSideOff s) := by
  unfold vinSideOff
  split
  · exact h
  · extract_lets +onlyGivenNames s1
    have k1 : Keeps s₀ s1 := showState_keeps (railsDown_keeps (mainReset_keeps (withdrawPictures_keeps h)))
    clear_value s1
    exact k1.frame (by rfl)

theorem powerDown_keeps (h : Keeps s₀ s) : Keeps s₀ (powerDown s) :=
  .ite (passTicks_keeps (vinSideOff_keeps h) _) h

theorem enterD2_keeps (h : Keeps s₀ s) : Keeps s₀ (enterD2 s) := by
  unfold enterD2
  extract_lets +onlyGivenNames _ s1
  have k2 : Keeps s₀ s1 := .foldl _ (fun _ _ hu => setUnit_keeps (.ite (setAct_keeps hu _ _ _) hu)) (h.frame (by rfl)) _
  extract_lets +onlyGivenNames s2
  have k3 : Keeps s₀ s2 := .foldl _ (fun _ _ hu => .ite (modPc_keeps hu) hu) k2 _
  exact .foldl _ (fun _ _ hu => .ite (laneSleep_keeps hu) hu) k3 _

theorem powerUp_keeps {cause : Nat} (h : Keeps s₀ s) : Keeps s₀ (powerUp cause s) := by
  unfold powerUp
  split
  · exact h
  · extract_lets +onlyGivenNames again _ s1
    have k3 : Keeps s₀ s1 := passTicks_keeps
      (setF_keeps (setF_keeps (setF_keeps (setF_keeps (h.frame (by rfl)) _ _ _) _ _ _) _ _ _) _ _ _) _
    extract_lets +onlyGivenNames t s2
    have k5 : Keeps s₀ s2 := showState_keeps (mainUp_keeps k3)
    exact .ite (recordReset_keeps (.ite (enterD2_keeps k5) k5)) (.ite (enterD2_keeps k5) k5)

theorem vinLowOp_keeps {fast : Bool} (h : Keeps s₀ s) : Keeps s₀ (vinLowOp fast s) := by
  unfold vinLowOp
  split
  · exact h
  · extract_lets +onlyGivenNames _ s1
    have k1 : Keeps s₀ s1 := raise_keeps (addF_keeps (setF_keeps (h.frame (by rfl)) _ _ _) _ _ _) _ _
    exact .ite (raise_keeps (addF_keeps (vinSideOff_keeps k1) _ _ _) _ _) (powerDown_keeps k1)

theorem vinGoodOp_keeps (h : Keeps s₀ s) : Keeps s₀ (vinGoodOp s) := by
  unfold vinGoodOp
  split
  · exact h
  · extract_lets +onlyGivenNames s1
    have k2 : Keeps s₀ s1 := setF_keeps (passTicks_keeps h _) _ _ _
    exact powerUp_keeps (.ite (raise_keeps (k2.frame (by rfl)) _ _) k2)

theorem vinOverOp_keeps (h : Keeps s₀ s) : Keeps s₀ (vinOverOp s) :=
  .ite h (raise_keeps (addF_keeps (vinSideOff_keeps (setF_keeps (h.frame (by rfl)) _ _ _)) _ _ _) _ _)

theorem railFaultOp_keeps {good : Nat} (h : Keeps s₀ s) : Keeps s₀ (railFaultOp good s) :=
  .ite h (setF_keeps (powerDown_keeps (raise_keeps (addF_keeps (setF_keeps h _ _ _) _ _ _) _ _)) _ _ _)

theorem thermalShutdownOp_keeps (h : Keeps s₀ s) : Keeps s₀ (thermalShutdownOp s) := by
  unfold thermalShutdownOp
  split
  · exact h
  · extract_lets +onlyGivenNames s1
    have k1 : Keeps s₀ s1 := .foldl _ (fun _ _ hu => .ite (unitFault_keeps hu) hu) h _
    exact powerDown_keeps (annalsAdd_keeps (raise_keeps (setF_keeps k1 _ _ _) _ _))

theorem rearmOp_keeps (h : Keeps s₀ s) : Keeps s₀ (rearmOp s).2 :=
  .ite_snd (powerUp_keeps (setF_keeps h _ _ _)) h

theorem avsSettle_keeps {l : AvsLoop} (h : Keeps s₀ s) : Keeps s₀ (avsSettle l s) :=
  .ite h (setF_keeps (.ite (raise_keeps (addF_keeps (setF_keeps h _ _ _) _ _ _) _ _) (setF_keeps h _ _ _)) _ _ _)

theorem avsOp_keeps {core fab : Nat} (h : Keeps s₀ s) : Keeps s₀ (avsOp core fab s) := by
  unfold avsOp
  split
  · exact h
  · extract_lets +onlyGivenNames step s1
    have k4 : Keeps s₀ s1 := setF_keeps (setF_keeps (passTicks_keeps h _) _ _ _) _ _ _
    extract_lets +onlyGivenNames s2
    have k6 : Keeps s₀ s2 := avsSettle_keeps (avsSettle_keeps k4)
    extract_lets +onlyGivenNames lim s3
    have k7 : Keeps s₀ s3 := setF_keeps (raiseIf_keeps k6 _ _ _) _ _ _
    exact k7.frame (by rfl)

theorem avsWrite_keeps {l : AvsLoop} {v : Nat} (h : Keeps s₀ s) : Keeps s₀ (avsWrite l v s).2 :=
  .ite_snd (avsSettle_keeps (setF_keeps (setF_keeps h _ _ _) _ _ _)) h

theorem engineAwake_keeps {cls u : Nat} (h : Keeps s₀ s) : Keeps s₀ (engineAwake cls u s) := by
  unfold engineAwake
  extract_lets +onlyGivenNames p _ s1
  have k3 : Keeps s₀ s1 := setUnit_keeps (h.frame (by rfl))
  extract_lets +onlyGivenNames s2
  have k5 : Keeps s₀ s2 := .ite (setAct_keeps k3 _ _ _) k3
  exact echRefresh_keeps (decRefreshAll_keeps (.ite (takeNow_keeps k5) k5))

theorem unitWakeOp_keeps {cls u : Nat} (h : Keeps s₀ s) : Keeps s₀ (unitWakeOp cls u s) :=
  .ite h (.ite (.ite (startWake_keeps h) h) (.ite (.ite (pcWake_keeps h) h) (.ite (laneAwake_keeps h) h)))

theorem unitWakeDoneOp_keeps {cls u : Nat} (h : Keeps s₀ s) : Keeps s₀ (unitWakeDoneOp cls u s) :=
  .ite (settleEngines_keeps (engineAwake_keeps h)) h

theorem wakeUnmet_keeps (h : Keeps s₀ s) : Keeps s₀ (wakeUnmet s) := by
  unfold wakeUnmet
  extract_lets +onlyGivenNames s1
  have k2 : Keeps s₀ s1 := .foldl _ (fun _ _ hu => .ite (raise_keeps (startWake_keeps hu) _ _) hu) h _
  extract_lets +onlyGivenNames s2
  have k3 : Keeps s₀ s2 := .foldl _ (fun _ _ hu => .ite (raise_keeps (pcWake_keeps hu) _ _) hu) k2 _
  exact .foldl _ (fun _ _ hu => .ite (raise_keeps (laneAwake_keeps hu) _ _) hu) k3 _

theorem wakeTolWrite_keeps {v : Nat} (h : Keeps s₀ s) : Keeps s₀ (wakeTolWrite v s).2 :=
  .ite_snd (.ite (settleEngines_keeps (wakeUnmet_keeps (h.frame (by rfl)))) (h.frame (by rfl))) h

theorem leaveLow_keeps {old : Nat} (h : Keeps s₀ s) : Keeps s₀ (leaveLow old s) := by
  unfold leaveLow
  extract_lets +onlyGivenNames s1
  have k2 : Keeps s₀ s1 := .foldl _ (fun _ _ hu => .ite (modPc_keeps (.ite (srExit_keeps hu) hu)) hu) h _
  extract_lets +onlyGivenNames s2
  have k3 : Keeps s₀ s2 := .ite (.foldl _ (fun _ _ hu => .ite hu (laneAwake_keeps hu)) k2 _) k2
  exact .foldl _ (fun _ _ hu => .ite (engineAwake_keeps hu) hu) k3 _

theorem dcmdOp_keeps {t : Nat} (h : Keeps s₀ s) : Keeps s₀ (dcmdOp t s).2 := by
  unfold dcmdOp
  split
  · exact raise_keeps h _ _
  · extract_lets +onlyGivenNames fault s1
    have k1 : Keeps s₀ s1 := setF_keeps (setF_keeps (.ite (setF_keeps h _ _ _) h) _ _ _) _ _ _
    extract_lets +onlyGivenNames cur move
    split
    · exact .ite (setF_keeps (.frame (powerDown_keeps k1) (by rfl)) _ _ _) k1
    · split
      · exact .ite (setF_keeps k1 _ _ _) (setF_keeps (k1.frame (by rfl)) _ _ _)
      · exact .ite_snd (setF_keeps (.frame (powerUp_keeps k1) (by rfl)) _ _ _) k1

theorem dstateChangedOp_keeps {us : Nat} (h : Keeps s₀ s) : Keeps s₀ (dstateChangedOp us s) := by
  unfold dstateChangedOp
  split
  · exact h
  · extract_lets +onlyGivenNames t old s1
    have k4 : Keeps s₀ s1 := setF_keeps (setF_keeps (setF_keeps h _ _ _) _ _ _) _ _ _
    extract_lets +onlyGivenNames s2
    have k6 : Keeps s₀ s2 := .ite (setF_keeps k4 _ _ _) k4
    extract_lets +onlyGivenNames s3
    have k7 : Keeps s₀ s3 := .ite k6 (.ite (enterD2_keeps k6) (.ite (settleEngines_keeps (leaveLow_keeps k6))
      (settleEngines_keeps k6)))
    exact raise_keeps k7 _ _

theorem measured_keeps {vinMv vinMa sbyMv sbyMa : Nat} (h : Keeps s₀ s) : Keeps s₀ (measured vinMv vinMa sbyMv sbyMa s) := by
  unfold measured
  extract_lets +onlyGivenNames uw e s1
  have k1 : Keeps s₀ s1 := setF_keeps (setF_keeps (setF_keeps (setF_keeps (setF_keeps h _ _ _) _ _ _) _ _ _) _ _ _) _ _ _
  exact annalsAdd_keeps (k1.frame (by rfl))

theorem measureFails_keeps (h : Keeps s₀ s) : Keeps s₀ (measureFails s) :=
  toFault_keeps (powerDown_keeps (setF_keeps h _ _ _)) _ _

theorem powerMeasureOp_keeps {vin : Option (Nat × Nat)} {sbyMv sbyMa : Nat} (h : Keeps s₀ s) :
    Keeps s₀ (powerMeasureOp vin sbyMv sbyMa s) := by
  unfold powerMeasureOp
  split
  · exact .ite h (measureFails_keeps h)
  · exact measured_keeps (.ite (setAct_keeps h _ _ _) h)

theorem deviceReset_keeps {kind cause : Nat} (h : Keeps s₀ s) : Keeps s₀ (deviceReset kind cause s) :=
  takeDeviceNumber_keeps (recordReset_keeps (fullReset_keeps (powerDown_keeps h)))

theorem vstbyPowerUpOp_keeps {bpos bootsel : Nat} {uncontrolled : Bool} (h : Keeps s₀ s) :
    Keeps s₀ (vstbyPowerUpOp bpos bootsel uncontrolled s) := by
  unfold vstbyPowerUpOp
  extract_lets +onlyGivenNames brown s1
  have k2 : Keeps s₀ s1 := .ite h (raise_keeps (setF_keeps (setF_keeps (setF_keeps (fullReset_keeps h) _ _ _) _ _ _) _ _ _) _ _)
  extract_lets +onlyGivenNames _ s2
  have k3 : Keeps s₀ s2 := loadAnnals_keeps (sampleStraps_keeps (k2.frame (by rfl)))
  exact .ite (addF_keeps k3 _ _ _) k3

theorem heldReset_keeps {cause : Nat} (h : Keeps s₀ s) : Keeps s₀ (heldReset cause s) := by
  have k1 : Keeps s₀ (deviceReset 0 cause s) := deviceReset_keeps h
  exact k1.frame (by rfl)

theorem devReset_keeps {r : Req} {op : State → State} (h : Keeps s₀ s) (ho : ∀ u, Keeps s₀ u → Keeps s₀ (op u)) :
    Keeps s₀ (devReset r op s) :=
  opStart_keeps h _ _ _ _ (fun _ hu => ho _ (sendAllResponses_keeps (reply_keeps hu _ _ _ _ _)))

theorem warmOp_keeps {cause : Nat} {f : BootFinds} (h : Keeps s₀ s) : Keeps s₀ (warmOp cause f s) :=
  restartMain_keeps (takeDeviceNumber_keeps (discardWats_keeps h))

theorem stateErrorOp_keeps {p : Nat} (h : Keeps s₀ s) : Keeps s₀ (stateErrorOp p s) := by
  unfold stateErrorOp
  split
  · exact h
  · split
    · exact coreFaultOp_keeps h
    · exact .ite h (decodeCoreFaultOp_keeps h)
    · exact .ite (izlDown_keeps h) (.ite (toFault_keeps h _ _) h)
    · exact stackErrorOp_keeps h
    · exact toFault_keeps (h.frame (by rfl)) _ _
    · exact toFault_keeps (powerDown_keeps (h.frame (by rfl))) _ _
    · exact setF_keeps h _ _ _
    · exact setF_keeps h _ _ _
    · exact setF_keeps h _ _ _
    · exact setF_keeps h _ _ _
    · exact unitFault_keeps h

/-! ## Register reads and writes (R7 to R9) -/

theorem readAction_keeps {r : Req} {p off v : Nat} (h : Keeps s₀ s) (e : readAction r p off s = some (v, t)) : Keeps s₀ t := by
  unfold readAction at e
  split at e
  · split at e
    · cases e
      exact setF_keeps h _ _ _
    · cases e
  · split at e
    · cases e
      exact setF_keeps h _ _ _
    · cases e
  · split at e
    · cases e
      exact setF_keeps h _ _ _
    · cases e
  · split at e
    · cases Option.some.inj e
      exact hsqStatOp_keeps h
    · split at e
      · have k1 : Keeps s₀ (cplStatOp r s).2 := cplStatOp_keeps h
        rwa [Option.some.inj e] at k1
      · cases e
  · split at e
    · have k1 : Keeps s₀ (tempReadOp (p - Block.first .hbm) s).2 := tempReadOp_keeps h
      rwa [Option.some.inj e] at k1
    · cases e
  · split at e
    · cases e
      exact setF_keeps h _ _ _
    · cases e
  · split at e
    · cases e
      exact .foldl _ (fun _ _ hu => latchWord_keeps hu) h _
    · split at e
      · cases e
        exact setF_keeps h _ _ _
      · split at e
        · cases e
          exact setF_keeps h _ _ _
        · split at e
          · cases e
          · cases e
            exact .foldl _ (fun _ _ hu => latchWord_keeps hu) (setTim_keeps h) _
  · cases e

theorem readReg_keeps {r : Req} {p off : Nat} (h : Keeps s₀ s) : Keeps s₀ (readReg r p off s).2 := by
  unfold readReg
  split
  · rename_i e
    exact readAction_keeps h e
  · split
    · rename_i e
      exact takeLatch_keeps h e
    · exact .ite (latchWord_keeps h) h

theorem plainWrite_keeps {p off v : Nat} (h : Keeps s₀ s) : Keeps s₀ (plainWrite p off v s).2 := by
  unfold plainWrite
  extract_lets +onlyGivenNames l
  split
  · exact h
  · refine .foldl _ (fun _ _ hu => ?_) h _
    split
    · exact setF_keeps hu _ _ _
    · exact setSh_keeps hu _ _ _
    · exact hu

theorem always_keeps {op : State → State} (h : Keeps s₀ s) (ho : ∀ u, Keeps s₀ u → Keeps s₀ (op u)) :
    Keeps s₀ (always op s).2 :=
  ho _ h

theorem eventSetOp_keeps {p v : Nat} (h : Keeps s₀ s) : Keeps s₀ (eventSetOp p v s) :=
  raiseWord_keeps h _ _

theorem headerWrite_keeps {p off v : Nat} (h : Keeps s₀ s) : Keeps s₀ (headerWrite p off v s).2 := by
  unfold headerWrite
  split
  · exact onBit_keeps h (fun _ hu => unitResetOp_keeps hu)
  · split
    · exact clearEvents_keeps h _ _
    · split
      · exact .foldl _ (fun _ _ hu => setF_keeps hu _ _ _) h _
      · split
        · exact eventSetOp_keeps h
        · split
          · exact .ite_snd (commitOp_keeps h) (.ite_snd (discardShadows_keeps h _) h)
          · exact .ite_snd (.ite_snd h (.ite_snd (setSh_keeps h _ _ _) h)) h

theorem watCancelOp_keeps {slot : Nat} (h : Keeps s₀ s) : Keeps s₀ (watCancelOp slot s).2 := by
  unfold watCancelOp
  split
  · exact h
  · exact watWithdraw_keeps h _

theorem dkeyLoadOp_keeps (h : Keeps s₀ s) : Keeps s₀ (dkeyLoadOp s) :=
  h.frame (by rfl)

theorem hapWrite_keeps {r : Req} {off v : Nat} (h : Keeps s₀ s) : Keeps s₀ (hapWrite r off v s).2 := by
  unfold hapWrite
  split
  · exact watCancelOp_keeps h
  · split
    · split
      · exact h
      · exact .ite_snd (onBit_keeps h (fun _ hu => always_keeps hu (fun _ hu => dkeyLoadOp_keeps hu))) (setF_keeps h _ _ _)
    · exact plainWrite_keeps h

theorem ingWrite_keeps {i off v : Nat} (h : Keeps s₀ s) : Keeps s₀ (ingWrite i off v s).2 := by
  unfold ingWrite
  extract_lets +onlyGivenNames p
  split
  · exact onBit_keeps (onBit_keeps (plainWrite_keeps h) (fun _ hu => always_keeps hu (fun _ hu => slateCopyOp_keeps hu)))
      (fun _ hu => always_keeps hu (fun _ hu => slateCaptureOp_keeps hu))
  · exact .ite_snd (.map_snd (plainWrite_keeps h) (fun _ hu => setF_keeps hu _ _ _)) (plainWrite_keeps h)

theorem stkWrite_keeps {r : Req} {off v : Nat} (h : Keeps s₀ s) : Keeps s₀ (stkWrite r off v s).2 := by
  unfold stkWrite
  split
  · exact qcfgOp_keeps h
  · split
    · exact qwmOp_keeps h
    · split
      · exact qmapOp_keeps h
      · split
        · exact onBit_keeps h (fun _ hu => always_keeps hu (fun _ hu => qpeakClearOp_keeps hu))
        · exact .ite_snd (onBit_keeps h (fun _ hu => rebuildOp_keeps hu)) (plainWrite_keeps h)

theorem cirWrite_keeps {off v : Nat} (h : Keeps s₀ s) : Keeps s₀ (cirWrite off v s).2 := by
  unfold cirWrite
  split
  · exact .ite_snd h (.map_snd (plainWrite_keeps h) (fun _ hu => settleFloor_keeps hu))
  · split
    · exact coreCfgOp_keeps h
    · split
      · split
        · exact hsqCfgOp_keeps h
        · exact h
      · exact .ite_snd (onBit_keeps h (fun _ hu => always_keeps hu (fun _ hu => cancelOp_keeps hu))) (plainWrite_keeps h)

theorem chkPair_keeps {k off v : Nat} {f : Fld} (h : Keeps s₀ s) : Keeps s₀ (chkPair k off v f s).2 :=
  .ite_snd h (.ite_snd (modChk_keeps h) (.ite_snd h (setF_keeps (modChk_keeps h) _ _ _)))

theorem chkRegWrite_keeps {r : Req} {k off v : Nat} (h : Keeps s₀ s) : Keeps s₀ (chkRegWrite r k off v s).2 := by
  unfold chkRegWrite
  extract_lets +onlyGivenNames p
  split
  · exact chkPair_keeps h
  · split
    · exact .ite_snd h (plainWrite_keeps h)
    · split
      · exact onBit_keeps (onBit_keeps h (fun _ hu => chkStartOp_keeps hu)) (fun _ hu => chkFinishOp_keeps hu)
      · exact .ite_snd (chkDataOp_keeps h) (.ite_snd (streamOp_keeps h) (plainWrite_keeps h))

theorem pwrWrite_keeps {off v : Nat} (h : Keeps s₀ s) : Keeps s₀ (pwrWrite off v s).2 := by
  unfold pwrWrite
  split
  · exact dcmdOp_keeps h
  · split
    · exact avsWrite_keeps h
    · exact .ite_snd (avsWrite_keeps h) (.ite_snd h (.ite_snd (wakeTolWrite_keeps h) (.ite_snd h (plainWrite_keeps h))))

theorem blockWrite_keeps {r : Req} {p off v : Nat} (h : Keeps s₀ s) : Keeps s₀ (blockWrite r p off v s).2 := by
  unfold blockWrite
  split
  · exact h
  · extract_lets +onlyGivenNames i plain
    split
    · exact hapWrite_keeps h
    · exact ingWrite_keeps h
    · exact .ite_snd (lutWriteOp_keeps h) (plainWrite_keeps h)
    · exact .ite_snd (onBit_keeps h (fun _ hu => always_keeps hu (fun _ hu => setF_keeps hu _ _ _))) (plainWrite_keeps h)
    · exact .ite_snd (onBit_keeps h (fun _ hu => always_keeps hu (fun _ hu => ringPeakClear_keeps hu))) (plainWrite_keeps h)
    · split
      · exact onBit_keeps (onBit_keeps (onBit_keeps h (fun _ hu => always_keeps hu (fun _ hu => yieldOp_keeps hu)))
          (fun _ hu => always_keeps hu (fun _ hu => handoverOp_keeps hu))) (fun _ hu => always_keeps hu
            (fun _ hu => yieldAbortOp_keeps hu))
      · exact plainWrite_keeps h
    · split
      · exact onBit_keeps (onBit_keeps h (fun _ hu => stepGrantOp_keeps hu)) (fun _ hu => always_keeps hu
          (fun _ hu => revertOp_keeps hu))
      · exact plainWrite_keeps h
    · exact .ite_snd (setSh_keeps h _ _ _) (.ite_snd (onBit_keeps h (fun _ hu => retrainOp_keeps hu)) (plainWrite_keeps h))
    · exact .ite_snd (setF_keeps (plainWrite_keeps h) _ _ _) (plainWrite_keeps h)
    · exact .ite_snd (.map_snd (plainWrite_keeps h) (fun _ hu => setF_keeps hu _ _ _)) (plainWrite_keeps h)
    · exact stkWrite_keeps h
    · exact cirWrite_keeps h
    · exact chkRegWrite_keeps h
    · exact .ite_snd (onBit_keeps h (fun _ hu => catalogueSaveOp_keeps hu)) (plainWrite_keeps h)
    · split
      · exact onBit_keeps (onBit_keeps h (fun _ hu => rearmOp_keeps hu)) (fun _ hu => annFlushOp_keeps hu)
      · exact .ite_snd (treqOp_keeps h) (.ite_snd (onBit_keeps h (fun _ hu => snapClrOp_keeps hu)) (plainWrite_keeps h))
    · exact pwrWrite_keeps h
    · exact plainWrite_keeps h

theorem writeReg_keeps {r : Req} {p off v : Nat} (h : Keeps s₀ s) : Keeps s₀ (writeReg r p off v s).2 :=
  .ite_snd h (.ite_snd (headerWrite_keeps h) (blockWrite_keeps h))

theorem drawFinds_keeps (h : Keeps s₀ s) : Keeps s₀ (drawFinds s).2 :=
  drawFree_keeps h

theorem resetByWord_keeps {v : Nat} (h : Keeps s₀ s) : Keeps s₀ (resetByWord v s) :=
  .ite (deviceReset_keeps h) (.ite (deviceReset_keeps h) (warmOp_keeps (drawFinds_keeps h)))

/-! ## Harlet operations (chapter 02) -/

theorem readOp_keeps {r : Req} {addr : Nat} (h : Keeps s₀ s) : Keeps s₀ (readOp r addr s) :=
  asRead_keeps h _ _ _ _ (fun _ hu => readReg_keeps hu)

theorem burstWords_keeps {r : Req} {p : Nat} {l : List Nat} (h : Keeps s₀ s) : Keeps s₀ (burstWords r p l s).2.2 := by
  induction l generalizing s with
  | nil => exact h
  | cons off l ih =>
    unfold burstWords
    split
    · exact ih (readReg_keeps h)
    · exact ih h

theorem burstOp_keeps {r : Req} {addr n : Nat} (h : Keeps s₀ s) : Keeps s₀ (burstOp r addr n s) :=
  opStart_keeps h _ _ _ _ (fun _ hu => .ite (reply_keeps hu _ _ _ _ _) (reply_keeps (burstWords_keeps hu) _ _ _ _ _))

theorem writeOp_keeps {r : Req} {opcode addr : Nat} {v : State → Nat} (h : Keeps s₀ s) :
    Keeps s₀ (writeOp r opcode addr v s) := by
  unfold writeOp
  refine opStart_keeps h _ _ _ _ (fun _ hu => ?_)
  extract_lets +onlyGivenNames p off
  split
  · exact .ite (resetByWord_keeps (sendAllResponses_keeps (reply_keeps hu _ _ _ _ _)))
      (reply_keeps (writeReg_keeps hu) _ _ _ _ _)
  · exact reply_keeps hu _ _ _ _ _

theorem writeMaskedOp_keeps {r : Req} {addr mask v : Nat} (h : Keeps s₀ s) : Keeps s₀ (writeMaskedOp r addr mask v s) :=
  writeOp_keeps h

theorem writeAtOp_keeps {r : Req} {addr : Nat} {b : WatBody} (h : Keeps s₀ s) : Keeps s₀ (writeAtOp r addr b s) := by
  unfold writeAtOp
  refine opStart_keeps h _ _ _ _ (fun _ hu => ?_)
  split
  · exact reply_keeps (setWats_keeps (hu.frame (by rfl)) _) _ _ _ _ _
  · exact reply_keeps hu _ _ _ _ _

theorem fireEntry_keeps {k : Nat} {e : WatEntry} (h : Keeps s₀ s) : Keeps s₀ (fireEntry k e s) := by
  unfold fireEntry
  extract_lets +onlyGivenNames s1 p off v done
  split
  · exact .ite (resetByWord_keeps (watNotify_keeps (setWats_keeps h _) _ _))
      (watNotify_keeps (writeReg_keeps (setWats_keeps h _)) _ _)
  · exact watNotify_keeps (setWats_keeps h _) _ _

theorem fireAll_keeps {due : WatEntry → Bool} {fuel : Nat} (h : Keeps s₀ s) : Keeps s₀ (fireAll due fuel s) := by
  induction fuel generalizing s with
  | zero => exact h
  | succ fuel ih =>
    unfold fireAll
    split
    · exact h
    · exact ih (fireEntry_keeps h)

theorem fireDue_keeps (h : Keeps s₀ s) : Keeps s₀ (fireDue s) :=
  fireAll_keeps h

theorem firePictures_keeps {p n : Nat} (h : Keeps s₀ s) : Keeps s₀ (firePictures p n s) :=
  fireAll_keeps h

theorem reachBoundary_keeps {p n : Nat} {t : Int} (h : Keeps s₀ s) : Keeps s₀ (reachBoundary p n t s) :=
  firePictures_keeps (fireDue_keeps (advanceToNs_keeps h))

theorem watFireOp_keeps {k : Nat} (h : Keeps s₀ s) : Keeps s₀ (watFireOp k s) := by
  unfold watFireOp
  split
  · exact h
  · exact .ite h (fireDue_keeps (advanceToNs_keeps h))

theorem subscribeOp_keeps {r : Req} {addr mask action : Nat} (h : Keeps s₀ s) :
    Keeps s₀ (subscribeOp r addr mask action s) := by
  refine opStart_keeps h _ _ _ _ (fun u hu => ?_)
  split
  · split
    · exact hu
    · rename_i hx
      exact reply_keeps (putSession_keeps_of_le hu hx (subscribeList_length_le _ _ _)) _ _ _ _ _
  · exact reply_keeps hu _ _ _ _ _

theorem unknownOp_keeps {r : Req} {opcode addr pos later : Nat} (h : Keeps s₀ s) :
    Keeps s₀ (unknownOp r opcode addr pos later s) := by
  unfold unknownOp
  extract_lets +onlyGivenNames s1
  have k1 : Keeps s₀ s1 := opStart_keeps h _ _ _ _ (fun _ hu => reply_keeps hu _ _ _ _ _)
  split
  · exact .foldl _ (fun _ _ hu => reply_keeps hu _ _ _ _ _) k1 _
  · exact k1

theorem eventFrameOp_keeps {i : Nat} (h : Keeps s₀ s) : Keeps s₀ (eventFrameOp i s) := by
  unfold eventFrameOp
  split
  · exact h
  · rename_i x hx
    exact .ite h (sendFrame_keeps (putSession_keeps h i { x with records := x.records.drop 64 } x hx (.inl rfl)) _ _ _ _)

/-! ## Harlet frames and sessions (R37 to R54) -/

theorem harletDrop_keeps {port : HPort} {reason : Nat} (h : Keeps s₀ s) : Keeps s₀ (harletDrop port reason s) :=
  .ite h (dropIn_keeps h)

theorem harletTake_keeps {port : HPort} (h : Keeps s₀ s) : Keeps s₀ (harletTake port s) :=
  .ite h (acceptIn_keeps h)

theorem closeSession_keeps {i : Nat} (h : Keeps s₀ s) : Keeps s₀ (closeSession i s) := by
  unfold closeSession
  extract_lets +onlyGivenNames mine _ _ _ s1
  have k1 : Keeps s₀ s1 := by
    refine lockSessionClosed_keeps (h.trans ⟨rfl, Nat.le_refl _, id, fun hs => ⟨SMap.sorted_drop _ _ hs.1, fun e he => ?_⟩⟩)
    exact hs.2 e (List.mem_of_mem_filter he)
  exact .foldl _ (fun _ _ hu => postWaitEnd_keeps hu) k1 _

theorem refuseOpen_keeps {port : HPort} {peer : Peer} {st : Status} (h : Keeps s₀ s) : Keeps s₀ (refuseOpen port peer st s) :=
  transmit_keeps h _ _ _

theorem openFrame_keeps {port : HPort} {peer : Peer} {f : List Byte} (h : Keeps s₀ s) : Keeps s₀ (openFrame port peer f s) := by
  unfold openFrame
  extract_lets +onlyGivenNames b k
  split
  · exact harletDrop_keeps h
  · extract_lets +onlyGivenNames s1
    have k1 : Keeps s₀ s1 := harletTake_keeps h
    exact .ite (refuseOpen_keeps k1) (.ite (refuseOpen_keeps k1) (.ite (refuseOpen_keeps k1)
      (transmit_keeps (k1.frame (by rfl)) _ _ _)))

theorem confirmFrame_keeps {port : HPort} {peer : Peer} {f : List Byte} (h : Keeps s₀ s) :
    Keeps s₀ (confirmFrame port peer f s) := by
  unfold confirmFrame
  extract_lets +onlyGivenNames b
  split
  · exact harletDrop_keeps h
  · split
    · exact harletDrop_keeps h
    · extract_lets +onlyGivenNames _ s1 c sig prov good prk x
      have k1 : Keeps s₀ s1 := harletTake_keeps (h.frame (by rfl))
      exact .ite (refuseOpen_keeps k1) (.ite (refuseOpen_keeps k1)
        (raiseIf_keeps (putSession_keeps_of_new k1 (pickFree_lt _ _ (by decide)) rfl) _ _ _))

theorem acceptExpiryOp_keeps {sid : Nat} (h : Keeps s₀ s) : Keeps s₀ (acceptExpiryOp sid s) := by
  unfold acceptExpiryOp
  split
  · exact h
  · extract_lets +onlyGivenNames s1
    have k1 : Keeps s₀ s1 := advanceTo_keeps h _
    exact k1.frame (by rfl)

theorem idleTimeoutOp_keeps {i : Nat} (h : Keeps s₀ s) : Keeps s₀ (idleTimeoutOp i s) := by
  unfold idleTimeoutOp
  split
  · exact h
  · exact closeSession_keeps (advanceTo_keeps h _)

theorem runFw_keeps {r : Req} {addr : Nat} {b : List Byte} (h : Keeps s₀ s) : Keeps s₀ (runFw r addr b s) :=
  .ite (fwOp_keeps h (fun _ hu => fwOpenOp_keeps hu)) (.ite (fwHeld_keeps h (fun _ hu => fwDataOp_keeps hu))
    (.ite (fwHeld_keeps h (fun _ hu => verifyOp_keeps hu)) (.ite (installOp_keeps h)
      (.ite (activateOp_keeps (drawFinds_keeps h)) (.ite (fwHeld_keeps h (fun _ hu => closeLock_keeps hu))
        (.ite (fwOp_keeps h (fun _ hu => partReply_keeps hu)) (.ite (fwOp_keeps h (fun _ hu => raiseFloorOp_keeps hu))
          (.ite (keySetRun_keeps h) (.ite (fwOp_keeps h (fun _ hu => extendOp_keeps hu))
            (.ite (fwOp_keeps h (fun _ hu => catReadOp_keeps hu)) (.ite (fwOp_keeps h (fun _ hu => catDiscardOp_keeps hu))
              (.ite (fwOp_keeps h (fun _ hu => folioExportOp_keeps hu)) (fwOp_keeps h (fun _ hu => hu))))))))))))))

theorem runOp_keeps {o : Origin} {b : List Byte} {pos later : Nat} (h : Keeps s₀ s) : Keeps s₀ (runOp o b pos later s) :=
  .ite (readOp_keeps h) (.ite (burstOp_keeps h) (.ite (writeOp_keeps h) (.ite (writeMaskedOp_keeps h) (.ite (writeAtOp_keeps h)
    (.ite (opStart_keeps h _ _ _ _ (fun _ hu => .ite (reply_keeps hu _ _ _ _ _) (slipPostOp_keeps hu)))
      (.ite (subscribeOp_keeps h) (.ite (attestOp_keeps h) (.ite (runFw_keeps h) (unknownOp_keeps h)))))))))

theorem countUnsent_keeps {o : Origin} {n : Nat} (h : Keeps s₀ s) : Keeps s₀ (countUnsent o n s) := by
  unfold countUnsent
  split
  · split
    · rename_i hx
      exact .ite (putSession_keeps h _ _ _ hx (.inl rfl)) h
    · exact h
  · exact h

theorem runOps_keeps {o : Origin} {count pos : Nat} {l : List (List Byte)} (h : Keeps s₀ s) :
    Keeps s₀ (runOps o count pos l s) := by
  induction l generalizing pos s with
  | nil => exact h
  | cons b l ih => exact ih (countUnsent_keeps (runOp_keeps h))

theorem domainFrame_keeps {port : HPort} {f : List Byte} (h : Keeps s₀ s) : Keeps s₀ (domainFrame port f s) := by
  unfold domainFrame
  extract_lets +onlyGivenNames x
  split
  · exact harletDrop_keeps h
  · split
    · exact harletDrop_keeps h
    · extract_lets +onlyGivenNames w _ s1
      have k1 : Keeps s₀ s1 := h.frame (by rfl)
      split
      · exact harletDrop_keeps k1
      · split
        · exact harletDrop_keeps k1
        · exact runOps_keeps (harletTake_keeps k1)

theorem sessionFrame_keeps {i : Fin 8} {x : Session} {port : HPort} {peer : Peer} {f : List Byte} (h : Keeps s₀ s)
    (hx : sessionAt i.val s = some x) : Keeps s₀ (sessionFrame i x port peer f s) := by
  have hp (y : Session) (e : y.subs = x.subs) : Keeps s₀ (putSession i.val y s) := putSession_keeps h _ _ _ hx (.inl e)
  unfold sessionFrame
  extract_lets +onlyGivenNames d
  split
  · exact harletDrop_keeps h
  · split
    · exact harletDrop_keeps h
    · extract_lets +onlyGivenNames w y
      split
      · exact closeSession_keeps (harletTake_keeps h)
      · split
        · exact harletDrop_keeps (hp _ rfl)
        · split
          · exact harletDrop_keeps (hp _ rfl)
          · extract_lets +onlyGivenNames s1
            have k1 : Keeps s₀ s1 := harletTake_keeps (hp _ rfl)
            exact .ite (sendFrame_keeps k1 _ _ _ _) (sendResponses_keeps (runOps_keeps k1) _)

theorem localFrame_keeps {port : HPort} {peer : Peer} {f : List Byte} (h : Keeps s₀ s) :
    Keeps s₀ (localFrame port peer f s) := by
  have hd {r : Nat} : Keeps s₀ (harletDrop port r s) := harletDrop_keeps h
  unfold localFrame
  extract_lets +onlyGivenNames x
  split
  · exact .ite hd (.ite hd (domainFrame_keeps h))
  · refine .ite (openFrame_keeps h) (.ite (confirmFrame_keeps h) (.ite hd (.ite hd ?_)))
    split
    · exact hd
    · split
      · split
        · exact hd
        · rename_i hx
          exact sessionFrame_keeps h hx
      · exact hd

theorem forwardFrame_keeps {port : HPort} {peer : Peer} {f : List Byte} (h : Keeps s₀ s) :
    Keeps s₀ (forwardFrame port peer f s) :=
  .ite (harletDrop_keeps h) (sendManagement_keeps (harletTake_keeps h) _ _ _ _ _)

theorem broadcastCopies_keeps {port : HPort} {peer : Peer} {f : List Byte} (h : Keeps s₀ s) :
    Keeps s₀ (broadcastCopies port peer f s) :=
  .ite (.foldl _ (fun _ _ hu => sendManagement_keeps hu _ _ _ _ _) h _) h

theorem harletOp_keeps {port : HPort} {peer : Peer} {f : List Byte} (h : Keeps s₀ s) : Keeps s₀ (harletOp port peer f s) :=
  .ite h (.ite (harletDrop_keeps h) (.ite (harletDrop_keeps h) (.ite (.ite h (forwardFrame_keeps h))
    (.ite (localFrame_keeps (broadcastCopies_keeps h)) (.ite (harletTake_keeps (broadcastCopies_keeps h))
      (harletDrop_keeps (broadcastCopies_keeps h)))))))

theorem passOn_keeps {m : List Byte} (h : Keeps s₀ s) : Keeps s₀ (passOn m s) := by
  unfold passOn
  split
  · exact izlPost_keeps h _ _ _
  · exact h

theorem managementLocal_keeps {j : Nat} {m : List Byte} (h : Keeps s₀ s) : Keeps s₀ (managementLocal j m s) :=
  .ite (harletOp_keeps h) (.ite (transmit_keeps h _ _ _) (.ite (lendingOp_keeps h) (.ite (routeAnnouncementOp_keeps h) h)))

theorem managementOp_keeps {j : Nat} {m : List Byte} (h : Keeps s₀ s) : Keeps s₀ (managementOp j m s) :=
  .ite h (.ite (takeMsg_keeps h _ _) (.ite (managementLocal_keeps (takeMsg_keeps h _ _)) (.ite (takeMsg_keeps h _ _)
    (passOn_keeps (takeMsg_keeps h _ _)))))

/-! ## Picture boundaries -/

theorem ingClockOp_keeps {i : Nat} (h : Keeps s₀ s) : Keeps s₀ (ingClockOp i s) :=
  frameClockTickOp_keeps (reachBoundary_keeps h)

theorem ingestStartOp_keeps {i : Nat} (h : Keeps s₀ s) : Keeps s₀ (ingestStartOp i s) :=
  .ite (ingClockOp_keeps h) (.ite (setAct_keeps h _ _ _) h)

theorem dchClockOp_keeps {i : Nat} (h : Keeps s₀ s) : Keeps s₀ (dchClockOp i s) :=
  decodeTickOp_keeps (reachBoundary_keeps h)

theorem rowRecordBoundary_keeps {c : Nat} (h : Keeps s₀ s) : Keeps s₀ (rowRecordBoundary c s) :=
  .ite (mutedBoundary_keeps (reachBoundary_keeps h))
    (.ite h (rowRecordOp_keeps (.foldl _ (fun _ _ hu => firePictures_keeps hu) (fireDue_keeps (reachNs_keeps h)) _)))

theorem rowReleaseBoundary_keeps {c : Nat} {corrected : Bool} {requests misses : Nat} {ready : Bool} (h : Keeps s₀ s) :
    Keeps s₀ (rowReleaseBoundary c corrected requests misses ready s) :=
  rowReleaseOp_keeps (.ite (firePictures_keeps (fireDue_keeps h)) h)

theorem idleTick_keeps (h : Keeps s₀ s) : Keeps s₀ (idleTick s) :=
  fireDue_keeps (passTicks_keeps h _)

end

/-! ## Every command

Each command answers a next state, and from the state it finds to the one it answers `Keeps` holds. -/

/-- the outcome is a next state, and what is to be kept from `s` is kept. -/
def Answers (s : State) (o : Host.Outcome State Fault Refusal) : Prop := ∃ t, o = .next t ∧ Keeps s t

section
variable {s t : State}

theorem Answers.next (h : Keeps s t) : Answers s (.next t) := ⟨t, rfl, h⟩

theorem Answers.ite {o p : Host.Outcome State Fault Refusal} {c : Prop} [Decidable c] (h : Answers s o) (k : Answers s p) :
    Answers s (if c then o else p) := by
  split <;> assumption

theorem execLegLost_answers {flow : Sys2Proof.Flow} {legB : Bool} : Answers s (execLegLost flow legB s) := by
  have h := Keeps.refl s
  unfold execLegLost
  refine .next ?_
  split
  · exact legLostOp_keeps h
  · exact legLostOp_keeps h

theorem execIngestStopped_answers {i : Fin 64} : Answers s (execIngestStopped i s) := by
  have h := Keeps.refl s
  unfold execIngestStopped
  exact .ite (.next (takeAfterStop_keeps (setAct_keeps h _ _ _) _ _ (fun _ hu => ingCommand_keeps hu))) (.next h)

theorem execDecodeStopped_answers {i : Fin 16} : Answers s (execDecodeStopped i s) := by
  have h := Keeps.refl s
  unfold execDecodeStopped
  exact .ite (.next (takeAfterStop_keeps (setAct_keeps (modDch_keeps h) _ _ _) _ _ (fun _ hu => dchCommand_keeps hu))) (.next h)

theorem execDecodeGoldenDone_answers {core : Fin 8} {pass : Bool} : Answers s (execDecodeGoldenDone core pass s) := by
  have h := Keeps.refl s
  unfold execDecodeGoldenDone
  exact .ite (.next (.ite (raise_keeps (setAct_keeps (setF_keeps h _ _ _) _ _ _) _ _)
    (raise_keeps (toFault_keeps (setF_keeps h _ _ _) _ _) _ _))) (.next h)

theorem execYieldAck_answers {msg : Option TwinMsg} : Answers s (execYieldAck msg s) := by
  have h := Keeps.refl s
  unfold execYieldAck
  refine .next ?_
  split
  · exact h
  · split
    · exact h
    · split
      · exact twinIn_keeps h (fun _ hu => modTwn_keeps hu)
      · exact raise_keeps (dropYield_keeps (advanceTo_keeps h _)) _ _

theorem execCrossMismatch_answers : Answers s (execCrossMismatch s) := by
  have h := Keeps.refl s
  unfold execCrossMismatch
  exact .ite (.next (noteA_keeps (raise_keeps (setF_keeps h _ _ _) _ _))) (.ite (.next (noteA_keeps (setF_keeps h _ _ _))) (.next h))

theorem execDelayResp_answers {port : Fin 2} {msg : Byte × Int} : Answers s (execDelayResp port msg s) := by
  have h := Keeps.refl s
  unfold execDelayResp
  extract_lets +onlyGivenNames i sample p d
  split
  · exact .next h
  · split
    · exact .next (dropIn_keeps h)
    · extract_lets +onlyGivenNames u
      have k1 : Keeps s u := drainTx_keeps (acceptIn_keeps h)
      exact .ite (.next (modTimPort_keeps k1)) (.ite (.next (modTimPort_keeps k1)) (.ite (.next (modTimPort_keeps k1))
        (.next (reselect_keeps (takeSample_keeps k1)))))

theorem execPathGuardOpen_answers {port : Fin 2} : Answers s (execPathGuardOpen port s) := by
  have h := Keeps.refl s
  unfold execPathGuardOpen
  exact .ite (.next (reselect_keeps (raise_keeps (addF_keeps (setF_keeps (modTimPort_keeps h) _ _ _) _ _ _) _ _))) (.next h)

theorem execPathGuardClose_answers {port : Fin 2} : Answers s (execPathGuardClose port s) := by
  have h := Keeps.refl s
  unfold execPathGuardClose
  exact .ite (.next (reselect_keeps (raise_keeps (setF_keeps (setF_keeps (modTimPort_keeps (advanceTo_keeps h _)) _ _ _) _ _ _) _ _)))
    (.next h)

theorem execAnnounce_answers {port : Fin 2} {domain : Byte} {gm : Announce} : Answers s (execAnnounce port domain gm s) := by
  have h := Keeps.refl s
  unfold execAnnounce
  extract_lets +onlyGivenNames i
  split
  · exact .next h
  · split
    · exact .next (dropIn_keeps h)
    · extract_lets +onlyGivenNames u s1
      have k2 : Keeps s s1 := addF_keeps (acceptIn_keeps h) _ _ _
      exact .ite (.next (reselect_keeps (raiseIf_keeps (raiseIf_keeps (showMaster_keeps (modTimPort_keeps k2)) _ _ _) _ _ _)))
        (.next k2)

theorem execAnnounceTimeout_answers {port : Fin 2} : Answers s (execAnnounceTimeout port s) := by
  have h := Keeps.refl s
  unfold execAnnounceTimeout
  extract_lets +onlyGivenNames i
  split
  · exact .next h
  · exact .next (holdoverIf_keeps (reselect_keeps (modTimPort_keeps (advanceTo_keeps h _))))

theorem execDelayReqSend_answers {port : Fin 2} {ident : BitVec 16} : Answers s (execDelayReqSend port ident s) := by
  have h := Keeps.refl s
  unfold execDelayReqSend
  exact .ite (.next (emit_keeps (ptpSent_keeps (addF_keeps (modTimPort_keeps (pushTx_keeps h)) _ _ _)) _ _ _)) (.next h)

theorem execPdelayReq_answers {port : Fin 2} {msg : Byte × BitVec 16} : Answers s (execPdelayReq port msg s) := by
  have h := Keeps.refl s
  unfold execPdelayReq
  extract_lets +onlyGivenNames i ident
  split
  · exact .next h
  · split
    · extract_lets +onlyGivenNames r s1
      have k1 : Keeps s s1 := emit_keeps (ptpSent_keeps (pushTx_keeps h)) _ _ _
      exact .ite (.next (emit_keeps (ptpSent_keeps (drainTx_keeps (acceptIn_keeps k1))) _ _ _)) (.next (dropIn_keeps k1))
    · exact .next (dropIn_keeps h)

theorem execRevertTimer_answers : Answers s (execRevertTimer s) := by
  have h := Keeps.refl s
  unfold execRevertTimer
  split
  · exact .next h
  · exact .ite (.next (governBy_keeps (advanceTo_keeps h _))) (.next h)

theorem execPulseEdge_answers {n : Fin 2} : Answers s (execPulseEdge n s) := by
  have h := Keeps.refl s
  unfold execPulseEdge
  exact .ite (.next h) (.ite (.next (setPulse_keeps (setTim_keeps (advanceToNs_keeps h)))) (.next (advanceToNs_keeps h)))

theorem execTrainRetry_answers {l : Fin 33} : Answers s (execTrainRetry l s) := by
  have h := Keeps.refl s
  unfold execTrainRetry
  refine .next ?_
  split
  · exact h
  · exact .ite (modLane_keeps (advanceTo_keeps h _)) h

theorem execFomRecovered_answers {l : Fin 33} {alarm : Bool} : Answers s (execFomRecovered l alarm s) := by
  have h := Keeps.refl s
  unfold execFomRecovered
  exact .next (.ite (.ite (raise_keeps (setF_keeps h _ _ _) _ _) h) (.ite (setF_keeps h _ _ _) h))

theorem execRefclkReturn_answers : Answers s (execRefclkReturn s) := by
  have h := Keeps.refl s
  unfold execRefclkReturn
  exact .ite (.next h) (.next (.foldl _ (fun _ _ hu => .ite (.ite (modLane_keeps (setF_keeps hu _ _ _)) (setF_keeps hu _ _ _)) hu)
    (passTicks_keeps h _) _))

theorem execPauseRepeat_answers {port : Fin 2} : Answers s (execPauseRepeat port s) := by
  have h := Keeps.refl s
  unfold execPauseRepeat
  extract_lets +onlyGivenNames i u
  split
  · exact .next (settleXoff_keeps h)
  · exact .next (modEth_keeps (sendPause_keeps (advanceTo_keeps (settleXoff_keeps h) _)))

theorem execPauseQuantaExpiry_answers {port : Fin 2} {subport : Fin 8} {prio : Fin 8} :
    Answers s (execPauseQuantaExpiry port subport prio s) := by
  have h := Keeps.refl s
  unfold execPauseQuantaExpiry
  split
  · exact .next h
  · exact .next (modEth_keeps (advanceTo_keeps h _))

theorem execNakRepeat_answers {link : Fin 4} : Answers s (execNakRepeat link s) := by
  have h := Keeps.refl s
  unfold execNakRepeat
  extract_lets +onlyGivenNames j
  refine .next ?_
  split
  · exact .ite (sendNak_keeps (advanceTo_keeps h _)) h
  · exact h

theorem execNarrow_answers {link : Fin 4} {run : FecRun} : Answers s (execNarrow link run s) := by
  have h := Keeps.refl s
  unfold execNarrow
  refine .next ?_
  split
  · exact narrowOp_keeps h
  · exact narrowOp_keeps h

theorem execPoolStallAlarm_answers {side : Fin 6} : Answers s (execPoolStallAlarm side s) := by
  have h := Keeps.refl s
  unfold execPoolStallAlarm
  split
  · exact .next h
  · split
    · exact .next h
    · extract_lets +onlyGivenNames s1
      have k1 : Keeps s s1 := advanceTo_keeps h _
      exact .next (raise_keeps (k1.frame (by rfl)) _ _)

theorem execQfcMinHoldExpiry_answers {pin : Fin 4} : Answers s (execQfcMinHoldExpiry pin s) := by
  have h := Keeps.refl s
  unfold execQfcMinHoldExpiry
  split
  · exact .next h
  · exact .next (settlePin_keeps (advanceTo_keeps h _))

theorem execTemperatureReading_answers {stack : Fin 2} {temp : Option Byte} :
    Answers s (execTemperatureReading stack temp s) := by
  have h : Keeps s (temperatureOp stack.val temp s) := temperatureOp_keeps (.refl s)
  unfold execTemperatureReading
  extract_lets hot
  clear_value hot
  refine .next ?_
  split
  · exact stackStep_keeps h
  · exact h

end

/-- Every command answers a next state that keeps the waiting commands, the tick count from below, the order of the register maps
and the limits of the sessions. -/
theorem exec_answers (c : Instr) (s : State) : Answers s (exec c s) := by
  have h := Keeps.refl s
  cases c with
  | harletFrame => exact .next (harletOp_keeps h)
  | sessionOpen => exact .next (.ite (harletOp_keeps h) h)
  | sessionConfirm => exact .next (.ite (harletOp_keeps h) h)
  | sessionClose => exact .next (.ite (harletOp_keeps h) h)
  | acceptExpiry => exact .next (acceptExpiryOp_keeps h)
  | sessionIdleTimeout => exact .next (idleTimeoutOp_keeps h)
  | read => exact .next (readOp_keeps h)
  | readBurst => exact .next (burstOp_keeps h)
  | write => exact .next (writeOp_keeps h)
  | writeMasked => exact .next (writeMaskedOp_keeps h)
  | writeAt => exact .next (writeAtOp_keeps h)
  | slipPost => exact .next (opStart_keeps h _ _ _ _ (fun _ hu => slipPostOp_keeps hu))
  | subscribe => exact .next (subscribeOp_keeps h)
  | unknownOpcode => exact .next (.ite h (unknownOp_keeps h))
  | writeAtFire => exact .next (watFireOp_keeps h)
  | watCancel => exact .next (asWrite_keeps h _ _ _ _ (fun _ hu => watCancelOp_keeps hu))
  | dkeyLoad => exact .next (asWrite_keeps h _ _ _ _ (fun _ hu => .ite_snd (dkeyLoadOp_keeps hu) hu))
  | eventSet => exact .next (asWrite_keeps h _ _ _ _ (fun _ hu => eventSetOp_keeps hu))
  | eventFrameSend => exact .next (eventFrameOp_keeps h)
  | eventClear => exact .next (asWrite_keeps h _ _ _ _ (fun _ hu => clearEvents_keeps (eventSetOp_keeps hu) _ _))
  | commit => exact .next (asWrite_keeps h _ _ _ _ (fun _ hu => commitOp_keeps hu))
  | discard => exact .next (asWrite_keeps h _ _ _ _ (fun _ hu => discardShadows_keeps hu _))
  | unitReset => exact .next (asWrite_keeps h _ _ _ _ (fun _ hu => unitResetOp_keeps hu))
  | counterLowRead => exact .next (readOp_keeps h)
  | stateMismatch => exact .next (mismatchTick_keeps h _)
  | registerWrite => exact .next (writeOp_keeps h)
  | mergeWindowExpiry => exact .next (mergeWindowExpiryOp_keeps h)
  | ingestDeadline => exact .next (ingestDeadline_keeps h)
  | frameClockTick => exact .next (ingClockOp_keeps h)
  | ingestStart => exact .next (ingestStartOp_keeps h)
  | sourceLost => exact .ite (.next (ingClockOp_keeps h)) (.next h)
  | sourceReturned => exact .ite (.next (ingClockOp_keeps h)) (.next h)
  | legLost => exact execLegLost_answers
  | slateCapture => exact .next (asWrite_keeps h _ _ _ _ (fun _ hu => slateCaptureOp_keeps hu))
  | slateCopy => exact .next (asWrite_keeps h _ _ _ _ (fun _ hu => slateCopyOp_keeps (setF_keeps hu _ _ _)))
  | ingestStopped => exact execIngestStopped_answers
  | cndOutputRow => exact .next (cndRowOp_keeps h)
  | lutWrite => exact .next (asWrite_keeps h _ _ _ _ (fun _ hu => lutWriteOp_keeps hu))
  | rowRecord => exact .next (.ite (rowRecordBoundary_keeps h) h)
  | rowRelease => exact .next (rowReleaseBoundary_keeps h)
  | sliceClose => exact .next (sliceCloseOp_keeps h)
  | ringResume => exact .next (ringResumeOp_keeps h)
  | bookmarkOverrun => exact .next (bookmarkOverrunOp_keeps h)
  | windowClose => exact .next (windowCloseOp_keeps h)
  | departure => exact .next (departureOp_keeps h)
  | recode => exact .next (recodeOp_keeps h)
  | legStallTimeout => exact .next (legStallTimeoutOp_keeps h)
  | legDropEnd => exact .next (legDropEndOp_keeps h)
  | coreFault => exact .next (coreFaultOp_keeps h)
  | overdueRow => exact .next (overdueRowOp_keeps h)
  | rotationStep => exact .next (rotationStepOp_keeps h)
  | shadowStart => exact .next (shadowStartOp_keeps h)
  | shadowEnd => exact .next (shadowEndOp_keeps h)
  | coreSwitch => exact .next (coreSwitchOp_keeps h)
  | goldenVectorDone => exact .next (goldenVectorDoneOp_keeps h)
  | slackClear => exact .next (asWrite_keeps h _ _ _ _ (fun _ hu => setF_keeps hu _ _ _))
  | departErrRead => exact .next (asRead_keeps h _ _ _ _ (fun _ hu => setF_keeps hu _ _ _))
  | channelStart => exact .next (channelStartOp_keeps h)
  | channelStopped => exact .next (channelStoppedOp_keeps h)
  | poolTick => exact .next (poolTickOp_keeps h)
  | lendingMessage => exact .next (lendingOp_keeps (takeManagement_keeps h))
  | homeUnreachable => exact .next (homeUnreachableOp_keeps h)
  | nalDecode => exact .next (nalDecodeOp_keeps h)
  | pictureReady => exact .next (.ite (pictureReadyOp_keeps h) h)
  | decodeTick => exact .next (dchClockOp_keeps h)
  | decodeCoreFault => exact .next (.ite h (decodeCoreFaultOp_keeps h))
  | decodeStopped => exact execDecodeStopped_answers
  | decodeGoldenDone => exact execDecodeGoldenDone_answers
  | senderTick => exact .next (senderTickOp_keeps h)
  | lateStart => exact .next (.ite (raise_keeps (senderTickOp_keeps h) _ _) h)
  | claimFrameSend => exact .next (claimFrameSendOp_keeps h)
  | claimFrameReceived => exact .next (claimFrameReceivedOp_keeps h)
  | partnerDead => exact .next (partnerDeadOp_keeps h)
  | roleTaken => exact .next (roleTakenOp_keeps h)
  | heartbeatSend => exact .next (heartbeatSendOp_keeps h)
  | heartbeat => exact .next (twinIn_keeps h (fun _ hu => takeHeartbeat_keeps hu))
  | record => exact .next (twinIn_keeps h (fun _ hu => recordOp_keeps hu))
  | ack => exact .next (twinIn_keeps h (fun _ hu => ackOp_keeps hu))
  | ackTimeout => exact .next (ackTimeoutOp_keeps h)
  | recordWaitExpiry => exact .next (recordWaitExpiryOp_keeps h)
  | linkLostVerdict => exact .next (linkLostVerdictOp_keeps h)
  | check => exact .next (twinIn_keeps h (fun _ hu => checkOp_keeps hu))
  | lockstepTimeout => exact .next (lockstepTimeoutOp_keeps h)
  | piccheck => exact .next (twinIn_keeps h (fun _ hu => piccheckOp_keeps hu))
  | muteNote => exact .next (twinIn_keeps h (fun _ hu => .ite (unpair_keeps hu) hu))
  | joinReqSend => exact .next (joinReqSendOp_keeps h)
  | joinReq => exact .next (twinIn_keeps h (fun _ hu => joinReqOp_keeps hu))
  | snapshotTake => exact .next (.ite (snapshotTakeOp_keeps h) h)
  | snapPart => exact .next (twinIn_keeps h (fun _ hu => snapPartOp_keeps hu))
  | snapCommit => exact .next (twinIn_keeps h (fun _ hu => snapCommitOp_keeps hu))
  | snapAbort => exact .next (twinIn_keeps h (fun _ hu => .ite (joinFails_keeps hu) (.ite (unpair_keeps hu) hu)))
  | joinDeadline => exact .next (joinDeadlineOp_keeps h)
  | patchReq => exact .next (twinIn_keeps h (fun _ hu => patchReqOp_keeps hu))
  | patch => exact .next (twinIn_keeps h (fun _ hu => patchOp_keeps hu))
  | patchNone => exact .next (twinIn_keeps h (fun _ hu => patchNoneOp_keeps hu))
  | patchWaitExpiry => exact .next (patchWaitExpiryOp_keeps h)
  | yield => exact .next (asWrite_keeps h _ _ _ _ (fun _ hu => yieldOp_keeps hu))
  | handover => exact .next (asWrite_keeps h _ _ _ _ (fun _ hu => handoverOp_keeps hu))
  | yieldAbort => exact .next (asWrite_keeps h _ _ _ _ (fun _ hu => yieldAbortOp_keeps hu))
  | yieldReceived => exact .next (twinIn_keeps h (fun _ hu => yieldReceivedOp_keeps hu))
  | yieldAck => exact execYieldAck_answers
  | handoverTime => exact .next (handoverTimeOp_keeps h)
  | sync => exact .next (fireDue_keeps (syncOp_keeps h))
  | crossMismatch => exact execCrossMismatch_answers
  | locked => exact .next (lockOp_keeps h)
  | lockLoss => exact .ite (.next (settlePulses_keeps (setF_keeps (setTim_keeps h) _ _ _))) (.next h)
  | delayResp => exact execDelayResp_answers
  | pathGuardOpen => exact execPathGuardOpen_answers
  | pathGuardClose => exact execPathGuardClose_answers
  | announce => exact execAnnounce_answers
  | announceTimeout => exact execAnnounceTimeout_answers
  | delayReqSend => exact execDelayReqSend_answers
  | pdelayReq => exact execPdelayReq_answers
  | revertTimer => exact execRevertTimer_answers
  | stepGrant => exact .next (asWrite_keeps h _ _ _ _ (fun _ hu => stepGrantOp_keeps hu))
  | grantWithdrawn => exact .ite (.next (withdrawGrant_keeps (.ite (advanceTo_keeps h _) h))) (.next h)
  | revert => exact .next (asWrite_keeps h _ _ _ _ (fun _ hu => revertOp_keeps hu))
  | nowRead => exact .next (readOp_keeps h)
  | fclkTick => exact .next (.ite h (.ite (tickClock_keeps (fclkTickOp_keeps h)) (fclkTickOp_keeps h)))
  | tcapEdge => exact .ite (.next h) (.ite (.next (raise_keeps (satF_keeps h _ _ _) _ _)) (.next (setTim_keeps h)))
  | capturePop => exact .next (readOp_keeps h)
  | pulseEdge => exact execPulseEdge_answers
  | timerefLost => exact .next (timerefLostAll_keeps h)
  | timerefReturn => exact .next (fireDue_keeps (.ite (showSpeed_keeps (timerefReturnOp_keeps h)) h))
  | txqRead => exact .next (readOp_keeps h)
  | wholeSecond => exact .next (fireDue_keeps (wholeSecondOp_keeps h))
  | pulseWidthEnd => exact .ite (.next (setPulse_keeps (advanceTo_keeps h _))) (.next h)
  | laneTrained => exact .next (laneTrainedOp_keeps h)
  | trainFailed => exact .next (trainFailedOp_keeps h)
  | trainRetry => exact execTrainRetry_answers
  | blockEnd => exact .next (blockEndOp_keeps h)
  | ctleReevaluate => exact .next (ctleOp_keeps h)
  | fomWarn => exact .next (fomWarnOp_keeps h)
  | fomAlarm => exact .next (.ite (raise_keeps (setF_keeps (fomWarnOp_keeps h) _ _ _) _ _) h)
  | fomRecovered => exact execFomRecovered_answers
  | fomRead => exact .next (asRead_keeps h _ _ _ _ (fun _ hu => setF_keeps hu _ _ _))
  | lossOfLock => exact .next (.ite (loseLock_keeps h) h)
  | reacquired => exact .next (reacquiredOp_keeps h)
  | calibrationWindow => exact .next (calibrationOp_keeps h)
  | refclkLost => exact .next (refclkLostOp_keeps h)
  | refclkReturn => exact execRefclkReturn_answers
  | prbsResync => exact .next (.ite (addF_keeps (addF_keeps h _ _ _) _ _ _) h)
  | retrain => exact .next (asWrite_keeps h _ _ _ _ (fun _ hu => retrainOp_keeps hu))
  | portFrameReceived => exact .next (portFrameOp_keeps h)
  | portMFrame => exact .next (portMFrameOp_keeps h)
  | frameTransmit => exact .next (.ite (frameTransmitOp_keeps h) h)
  | linkDown => exact .next (linkDownOp_keeps h)
  | linkUp => exact .next (linkUpOp_keeps h)
  | pauseFrame => exact .next (pauseFrameOp_keeps h)
  | pauseRepeat => exact execPauseRepeat_answers
  | pauseQuantaExpiry => exact execPauseQuantaExpiry_answers
  | multicastReport => exact .ite (.next (hostSend_keeps h)) (.next h)
  | dropSelWrite => exact .next (asWrite_keeps h _ _ _ _ (fun _ hu => setF_keeps (setF_keeps hu _ _ _) _ _ _))
  | izlFrame => exact .next (izlReceive_keeps (.ite (addF_keeps (addF_keeps h _ _ _) _ _ _) h))
  | nak => exact .next (.ite (izlReceive_keeps h) h)
  | replayTimeout => exact .next (.ite (startRewind_keeps (advanceTo_keeps h _)) h)
  | nakRepeat => exact execNakRepeat_answers
  | izlFrameSend => exact .next (izlSendOp_keeps h)
  | alignmentMarker => exact .next (markerOp_keeps h)
  | alignmentMarkerSend => exact .next (markerSendOp_keeps h)
  | narrow => exact execNarrow_answers
  | widen => exact .next (widenOp_keeps h)
  | izlLinkDown => exact .next (.ite (izlDown_keeps h) h)
  | trainingExchange => exact .next (trainingOp_keeps h)
  | routeAnnounceSend => exact .next (routeAnnounceOp_keeps h)
  | routeAnnouncement => exact .next (routeAnnouncementOp_keeps (takeMsg_keeps h _ _))
  | managementMessage => exact .next (managementOp_keeps h)
  | stallEnd => exact .next (stallEndOp_keeps h)
  | pop => exact .next (popOp_keeps h)
  | queueCongested => exact .ite (.next (settleCongestion_keeps (raise_keeps (modQueue_keeps h) _ _))) (.next h)
  | queueReleased => exact .ite (.next (settleCongestion_keeps (raise_keeps (modQueue_keeps h) _ _))) (.next h)
  | queueFlush => exact .ite (.next h) (.next (flushPackets_keeps (passTicks_keeps h _)))
  | stackEccError => exact .next (stackErrorOp_keeps h)
  | rebuild => exact .next (asWrite_keeps h _ _ _ _ (fun _ hu => rebuildOp_keeps hu))
  | rebuildDone => exact .ite (.next (setF_keeps (addF_keeps (h.frame (by rfl)) _ _ _) _ _ _)) (.next h)
  | qcfgWrite => exact .next (asWrite_keeps h _ _ _ _ (fun _ hu => qcfgOp_keeps hu))
  | qwmWrite => exact .next (asWrite_keeps h _ _ _ _ (fun _ hu => qwmOp_keeps hu))
  | qpeakClear => exact .next (asWrite_keeps h _ _ _ _ (fun _ hu => qpeakClearOp_keeps hu))
  | freeLowRead => exact .next (asRead_keeps h _ _ _ _ (fun _ hu => setF_keeps hu _ _ _))
  | poolStallAlarm => exact execPoolStallAlarm_answers
  | stackInitDone => exact .ite (.next (setF_keeps (setAct_keeps h _ _ _) _ _ _)) (.next h)
  | qfcMinHoldExpiry => exact execQfcMinHoldExpiry_answers
  | slipPostAccept => exact .next (slipPostAcceptOp_keeps h)
  | hwSlipPost => exact .next (hwSlipPostOp_keeps h)
  | fwSlipPost => exact .next (fwSlipPostOp_keeps h)
  | slipTake => exact .next (slipTakeOp_keeps h)
  | carrelFill => exact .ite (.next (withdrawOne_keeps (fillOne_keeps (fillOne_keeps h)))) (.next h)
  | slipStart => exact .next (slipStartOp_keeps h)
  | slipComplete => exact .next (slipCompleteOp_keeps h)
  | slipAgeing => exact .next (slipAgeingOp_keeps h)
  | runLimit => exact .next (runLimitOp_keeps h)
  | killLimit => exact .next (killLimitOp_keeps h)
  | coreReturn => exact .next (coreReturnOp_keeps h)
  | obrovCoreFault => exact .next (obrovCoreFaultOp_keeps h)
  | cancel => exact .next (asWrite_keeps h _ _ _ _ (fun _ hu => cancelOp_keeps hu))
  | cplStatRead => exact .next (asRead_keeps h _ _ _ _ (fun _ hu => cplStatOp_keeps hu))
  | hsqStatRead => exact .next (asRead_keeps h _ _ _ _ (fun _ hu => hsqStatOp_keeps hu))
  | hbmRequest => exact .next (hbmRequestOp_keeps h)
  | refreshInterval => exact .next (refreshIntervalOp_keeps h)
  | temperatureReading => exact execTemperatureReading_answers
  | tempRead => exact .next (asRead_keeps h _ _ _ _ (fun _ hu => tempReadOp_keeps hu))
  | selfRefreshEntry => exact .next (selfRefreshOp_keeps h)
  | hammerWindow => exact .next (hammerWindowOp_keeps h)
  | retrainPause => exact .next (retrainPauseOp_keeps h)
  | pauseSkip => exact .next (pauseSkipOp_keeps h)
  | patrolScrub => exact .next (patrolScrubOp_keeps h)
  | keepApply => exact .next (keepApplyOp_keeps h)
  | hbmTrainingDone => exact .next (trainingDoneOp_keeps h)
  | chkStart => exact .next (asWrite_keeps h _ _ _ _ (fun _ hu => chkStartOp_keeps hu))
  | chkData => exact .next (asWrite_keeps h _ _ _ _ (fun _ hu => chkDataOp_keeps hu))
  | chkFinish => exact .next (asWrite_keeps h _ _ _ _ (fun _ hu => chkFinishOp_keeps hu))
  | streamEnable => exact .next (asWrite_keeps h _ _ _ _ (fun _ hu => streamOp_keeps hu))
  | streamPacket => exact .next (streamPacketOp_keeps h)
  | attest => exact .next (attestOp_keeps h)
  | quoteComplete => exact .next (quoteCompleteOp_keeps h)
  | fwOpen => exact .next (fwOp_keeps h (fun _ hu => fwOpenOp_keeps hu))
  | fwData => exact .next (fwHeld_keeps h (fun _ hu => fwDataOp_keeps hu))
  | verify => exact .next (fwHeld_keeps h (fun _ hu => verifyOp_keeps hu))
  | install => exact .next (installOp_keeps h)
  | installComplete => exact .next (installCompleteOp_keeps h)
  | activate => exact .next (activateOp_keeps h)
  | fwClose => exact .next (fwHeld_keeps h (fun _ hu => closeLock_keeps hu))
  | cert => exact .next (fwOp_keeps h (fun _ hu => partReply_keeps hu))
  | raiseFloor => exact .next (fwOp_keeps h (fun _ hu => raiseFloorOp_keeps hu))
  | keySet => exact .next (keySetRun_keeps h)
  | extend => exact .next (fwOp_keeps h (fun _ hu => extendOp_keeps hu))
  | catRead => exact .next (fwOp_keeps h (fun _ hu => catReadOp_keeps hu))
  | catDiscard => exact .next (fwOp_keeps h (fun _ hu => catDiscardOp_keeps hu))
  | folioExport => exact .next (fwOp_keeps h (fun _ hu => folioExportOp_keeps hu))
  | bootRom => exact .next (bootRomOp_keeps h)
  | bootResume => exact .next (bootResumeOp_keeps h)
  | twinSourceRequest => exact .next (twinSourceRequestOp_keeps h)
  | twinSourceServe => exact .next (twinSourceServeOp_keeps (takeMsg_keeps h _ _))
  | twinPackage => exact .next (twinPackageOp_keeps (takeMsg_keeps h _ _))
  | catalogueSave => exact .next (asWrite_keeps h _ _ _ _ (fun _ hu => catalogueSaveOp_keeps hu))
  | catalogueSaved => exact .next (saveDone_keeps h)
  | stocktake => exact .next (stocktakeOp_keeps h)
  | snapClr => exact .next (asWrite_keeps h _ _ _ _ (fun _ hu => snapClrOp_keeps hu))
  | governorReading => exact .next (governorReadingOp_keeps h)
  | governorRestore => exact .next (governorRestoreOp_keeps h)
  | thermalShutdown => exact .next (thermalShutdownOp_keeps h)
  | rearm => exact .next (asWrite_keeps h _ _ _ _ (fun _ hu => rearmOp_keeps hu))
  | tjRead => exact .next (asRead_keeps h _ _ _ _ (fun _ hu => setF_keeps hu _ _ _))
  | annalsWrite => exact .next (writeAnnals_keeps (advanceTo_keeps h _))
  | annFlush => exact .next (asWrite_keeps h _ _ _ _ (fun _ hu => annFlushOp_keeps hu))
  | stressIncrement => exact .next (stressOp_keeps h)
  | decodeCoreTest => exact .next (decodeCoreTestOp_keeps h)
  | treq => exact .next (asWrite_keeps h _ _ _ _ (fun _ hu => treqOp_keeps hu))
  | testDone => exact .next (testDoneOp_keeps h)
  | vstbyPowerUp => exact .next (vstbyPowerUpOp_keeps h)
  | vstbyBrownout => exact .next (heldReset_keeps h)
  | vioFault => exact .next (.ite (timerefLostAll_keeps (raise_keeps (setF_keeps h _ _ _) _ _)) h)
  | vioReturn => exact .next (setF_keeps h _ _ _)
  | vinLow => exact .next (vinLowOp_keeps h)
  | vinGood => exact .next (vinGoodOp_keeps h)
  | vinOver => exact .next (vinOverOp_keeps h)
  | railFault => exact .next (railFaultOp_keeps h)
  | avsEvaluation => exact .next (avsOp_keeps h)
  | dcmd => exact .next (asWrite_keeps h _ _ _ _ (fun _ hu => dcmdOp_keeps hu))
  | dstateChanged => exact .next (dstateChangedOp_keeps h)
  | unitWake => exact .next (unitWakeOp_keeps h)
  | unitWakeDone => exact .next (unitWakeDoneOp_keeps h)
  | powerMeasure => exact .next (powerMeasureOp_keeps h)
  | resetNLow => exact .next (.ite h (heldReset_keeps h))
  | resetRelease => exact .next (.ite (sampleStraps_keeps (passTicks_keeps (h.frame (by rfl)) _)) h)
  | standbyReset => exact .next (devReset_keeps h (fun _ hu => deviceReset_keeps hu))
  | coldReset => exact .next (devReset_keeps h (fun _ hu => deviceReset_keeps hu))
  | warmReset => exact .next (devReset_keeps h (fun _ hu => warmOp_keeps hu))
  | mainWatchdog => exact .next (.ite (warmOp_keeps h) h)
  | mgmtWatchdog => exact .next (.ite h (deviceReset_keeps h))
  | uncorrectableStateError => exact .next (stateErrorOp_keeps h)

/-! ## The order of the register maps (R9, R68, R69) -/

/-- A step runs the front of the queue, or idles: either way the register maps stay in order. -/
theorem step_mapsSorted {s t : State} (hs : s.mapsSorted = true) (e : step s = .next t) : t.mapsSorted = true := by
  unfold step at e
  split at e
  · rename_i c l _
    obtain ⟨u, hu, k⟩ := exec_answers c { s with pending := l }
    cases hu.symm.trans e
    exact k.maps hs
  · cases e
    exact (idleTick_keeps (.refl s)).maps hs

/-- Settles O57: every command keeps the order (`exec_answers`), and so does the idle tick. -/
theorem registerMapsStaySorted : Obligations.RegisterMapsStaySorted :=
  fun _ _ hs e => step_mapsSorted hs e

end Sys2Proof.Machine
end

section
/-! PROOFS. Events, writes and reads: what an event word sets and clears, what a register operation that runs answers with. -/

namespace Sys2Proof.Machine

/-! ## The state after a standby reset -/

theorem reset_sessionLimits : State.reset.sessionLimits :=
  ⟨rfl, fun _ he => absurd he List.not_mem_nil⟩

theorem reset_mapsSorted : State.reset.mapsSorted = true := by
  simp only [State.mapsSorted, Bool.and_eq_true]
  exact ⟨⟨standbyStates_sorted, rfl⟩, rfl⟩

/-- Settles O58: no session is open after a standby reset, and the state codes of the standby pages are in order. -/
theorem resetMeetsTheInvariants : Obligations.ResetMeetsTheInvariants :=
  ⟨reset_sessionLimits, reset_mapsSorted, rfl, rfl⟩

/-! ## Changes of the registers, or of the registers and the sessions, alone -/

/-- from `s` to `t` only registers change. -/
def RegsOnly (s t : State) : Prop := t = { s with regs := t.regs }

/-- from `s` to `t` only registers and the sessions' records and views change, as an event does (R60, R66). -/
def EventsOnly (s t : State) : Prop :=
  t = { s with regs := t.regs, hap := { s.hap with sessions := t.hap.sessions } }

theorem RegsOnly.refl (s : State) : RegsOnly s s := rfl

theorem RegsOnly.trans {s t u : State} (h : RegsOnly s t) (k : RegsOnly t u) : RegsOnly s u :=
  Eq.trans k (congrArg (fun x : State => { x with regs := u.regs }) (show t = _ from h))

theorem RegsOnly.eventsOnly {s t : State} (h : RegsOnly s t) : EventsOnly s t := by
  have hs : t.hap = s.hap := by rw [show t = { s with regs := t.regs } from h]
  unfold EventsOnly
  rw [hs]
  exact h

theorem EventsOnly.refl (s : State) : EventsOnly s s := rfl

theorem EventsOnly.trans {s t u : State} (h : EventsOnly s t) (k : EventsOnly t u) : EventsOnly s u :=
  Eq.trans k (congrArg (fun x : State => { x with regs := u.regs, hap := { x.hap with sessions := u.hap.sessions } })
    (show t = _ from h))

theorem setF_regsOnly (p : Nat) (f : Fld) (v : Nat) (s : State) : RegsOnly s (setF p f v s) := rfl

theorem notify_eventsOnly (p k : Nat) (s : State) : EventsOnly s (notify p k s) := rfl

theorem latchFirst_regsOnly (p k : Nat) (s : State) : RegsOnly s (latchFirst p k s) := by
  unfold latchFirst
  split
  · exact .refl s
  · exact setF_regsOnly _ _ _ _

theorem raise_eventsOnly (p k : Nat) (s : State) : EventsOnly s (raise p k s) := by
  have hset : EventsOnly s (setF p (HDR.EVENT k) 1 (latchFirst p k s)) :=
    ((latchFirst_regsOnly p k s).trans (setF_regsOnly _ _ _ _)).eventsOnly
  unfold raise
  dsimp only
  split
  · exact hset.trans (notify_eventsOnly _ _ _)
  · exact hset

/-! ## Event bits: one at a time, then a word of them (R9, R10, R66, R67) -/

/-- A run over the first `n` bits acts once on the field of bit `j`, and only where `j` is among them. -/
theorem getF_foldl_range {p j : Nat} {f : Fld} {g : State → Nat → State} {φ : Nat → Nat}
    (same : ∀ u, getF p f (g u j) = φ (getF p f u)) (other : ∀ u k, k ≠ j → getF p f (g u k) = getF p f u)
    (n : Nat) (s : State) :
    getF p f ((List.range n).foldl g s) = if j < n then φ (getF p f s) else getF p f s := by
  induction n with
  | zero => rfl
  | succ n ih =>
    rw [List.range_succ, List.foldl_append, List.foldl_cons, List.foldl_nil]
    by_cases hj : j = n
    · subst hj
      rw [same, ih, if_neg (Nat.lt_irrefl j), if_pos (Nat.lt_succ_self j)]
    · rw [other _ _ (Ne.symm hj), ih]
      exact if_congr (by omega) rfl rfl

theorem event_loc (k : Nat) : (HDR.EVENT k).loc = 128 + k := by
  simp only [Fld.loc, HDR.EVENT, Nat.reduceMul]

theorem eventEn_loc (k : Nat) : (HDR.EVENT_EN k).loc = 160 + k := by
  simp only [Fld.loc, HDR.EVENT_EN, Nat.reduceMul]

/-- the event bits lie below EVENT_FIRST. -/
theorem event_loc_ne_of_le {j : Nat} {f : Fld} (hj : j < 32) (hf : 224 ≤ f.loc) : (HDR.EVENT j).loc ≠ f.loc := by
  rw [event_loc]; omega

/-- an event leaves the page's other event bits. -/
theorem raise_event_ne (p k j : Nat) (s : State) (hj : j < 32) (h : k ≠ j) :
    getF p (HDR.EVENT j) (raise p k s) = getF p (HDR.EVENT j) s := by
  apply raise_getF
  · rw [event_loc, event_loc]; omega
  · exact event_loc_ne_of_le hj (by decide)
  · exact event_loc_ne_of_le hj (by decide)
  · exact event_loc_ne_of_le hj (by decide)

/-- each 1 of the word sets its event bit, each 0 leaves it. -/
theorem raiseWord_event (p w j : Nat) (s : State) (hj : j < 32) :
    getF p (HDR.EVENT j) (raiseWord p w s) = if w.testBit j then 1 else getF p (HDR.EVENT j) s := by
  unfold raiseWord
  rw [getF_foldl_range (φ := fun x => if w.testBit j then 1 else x), if_pos hj]
  · intro u
    split
    · exact raise_event p j u
    · rfl
  · intro u k hk
    split
    · exact raise_event_ne p k j u hj hk
    · rfl

/-- reserved bits are ignored, the others set (R8, R66). -/
theorem eventSetOp_event (p v j : Nat) (s : State) (hj : j < 32) :
    getF p (HDR.EVENT j) (eventSetOp p v s) =
      if v.testBit j && (eventMask p).testBit j then 1 else getF p (HDR.EVENT j) s := by
  have hbit : (Nat.land v (eventMask p)).testBit j = (v.testBit j && (eventMask p).testBit j) := Nat.testBit_land _ _ _
  unfold eventSetOp
  rw [raiseWord_event p _ j s hj, hbit]

/-- the event bits of `w` written 0, before EVENT_FIRST is looked at. -/
def clearBits (p w : Nat) (s : State) : State :=
  (List.range 32).foldl (fun s k => if w.testBit k then setF p (HDR.EVENT k) 0 s else s) s

/-- EVENT_FIRST clears when EVENT returns to all 0 (R67). -/
theorem clearEvents_eq (p w : Nat) (s : State) :
    clearEvents p w s =
      if bitWord HDR.EVENT p (clearBits p w s) = 0 then
        setF p HDR.FIRST_index 0 (setF p HDR.FIRST_valid 0 (setF p HDR.FIRST_time_us 0 (clearBits p w s)))
      else clearBits p w s := rfl

theorem clearBits_event (p w j : Nat) (s : State) (hj : j < 32) :
    getF p (HDR.EVENT j) (clearBits p w s) = if w.testBit j then 0 else getF p (HDR.EVENT j) s := by
  unfold clearBits
  rw [getF_foldl_range (φ := fun x => if w.testBit j then 0 else x), if_pos hj]
  · intro u
    split
    · rw [getF_setF_same, Nat.zero_mod]
    · rfl
  · intro u k hk
    split
    · exact getF_setF_field _ _ _ _ _ (by rw [event_loc, event_loc]; omega)
    · rfl

/-- each 1 of the word clears its event bit, each 0 leaves it. -/
theorem clearEvents_event (p w j : Nat) (s : State) (hj : j < 32) :
    getF p (HDR.EVENT j) (clearEvents p w s) = if w.testBit j then 0 else getF p (HDR.EVENT j) s := by
  rw [clearEvents_eq]
  split
  · rw [getF_setF_field _ _ _ _ _ (event_loc_ne_of_le hj (by decide)),
      getF_setF_field _ _ _ _ _ (event_loc_ne_of_le hj (by decide)),
      getF_setF_field _ _ _ _ _ (event_loc_ne_of_le hj (by decide))]
    exact clearBits_event p w j s hj
  · exact clearBits_event p w j s hj

theorem eventSetOp_eventsOnly (p v : Nat) (s : State) : EventsOnly s (eventSetOp p v s) := by
  refine List.foldlRecOn (motive := EventsOnly s) _ _ (.refl s) fun u hu k _ => ?_
  split
  · exact hu.trans (raise_eventsOnly p k u)
  · exact hu

theorem eventSetOp_regsBut (p v : Nat) (s : State) : State.regsBut [p] s (eventSetOp p v s) := by
  refine List.foldlRecOn (motive := State.regsBut [p] s) _ _ (.refl _ s) fun u hu k hk => ?_
  exact hu.trans (.ite (raise_regsBut p k u (List.mem_range.1 hk)) (.refl _ _))

theorem clearBits_regsOnly (p w : Nat) (s : State) : RegsOnly s (clearBits p w s) := by
  refine List.foldlRecOn (motive := RegsOnly s) _ _ (.refl s) fun u hu k _ => ?_
  split
  · exact hu.trans (setF_regsOnly _ _ _ _)
  · exact hu

theorem clearEvents_regsOnly (p w : Nat) (s : State) : RegsOnly s (clearEvents p w s) := by
  rw [clearEvents_eq]
  split
  · exact (clearBits_regsOnly p w s).trans (setF_regsOnly _ _ _ _)
  · exact clearBits_regsOnly p w s

theorem clearBits_regsBut (p w : Nat) (s : State) : State.regsBut [p] s (clearBits p w s) := by
  refine List.foldlRecOn (motive := State.regsBut [p] s) _ _ (.refl _ s) fun u hu k hk => ?_
  have hk := List.mem_range.1 hk
  exact hu.trans (.ite (setF_regsBut _ _ _ _ (by rw [event_loc]; omega)) (.refl _ _))

theorem clearEvents_regsBut (p w : Nat) (s : State) : State.regsBut [p] s (clearEvents p w s) := by
  have hbits := clearBits_regsBut p w s
  have htime := hbits.trans (setF_regsBut p HDR.FIRST_time_us 0 _ (by decide))
  have hvalid := htime.trans (setF_regsBut p HDR.FIRST_valid 0 _ (by decide))
  exact .ite (hvalid.trans (setF_regsBut p HDR.FIRST_index 0 _ (by decide))) hbits

/-! ## EVENT_SET and EVENT_CLEAR (R10) -/

theorem exec_eventSet (r : Req) (page : BitVec 20) (bits : Word) (s : State) (h : State.lets r 3 page.toNat 0x018 s) :
    exec (.eventSet r page bits) s =
      .next (reply r 0x83 (regAddr page.toNat 0x018) .success [] (eventSetOp page.toNat bits.toNat s)) :=
  congrArg Host.Outcome.next (asWrite_runs _ _ _ _ _ h)

theorem exec_eventClear (r : Req) (page : BitVec 20) (bits sets : Word) (s : State)
    (h : State.lets r 3 page.toNat 0x010 s) :
    exec (.eventClear r page bits sets) s =
      .next (reply r 0x83 (regAddr page.toNat 0x010) .success []
        (clearEvents page.toNat (Nat.ldiff bits.toNat sets.toNat) (eventSetOp page.toNat sets.toNat s))) :=
  congrArg Host.Outcome.next (asWrite_runs _ _ _ _ _ h)

/-- a clear that races a set: the bits being set are not cleared, so the two do not meet. -/
theorem clearEvents_eventSetOp_event (p bits sets j : Nat) (s : State) (hj : j < 32) :
    getF p (HDR.EVENT j) (clearEvents p (Nat.ldiff bits sets) (eventSetOp p sets s)) =
      if sets.testBit j && (eventMask p).testBit j then 1
      else if bits.testBit j && !sets.testBit j then 0 else getF p (HDR.EVENT j) s := by
  rw [clearEvents_event p _ j _ hj, eventSetOp_event p sets j s hj, Nat.testBit_ldiff]
  by_cases hset : sets.testBit j = true
  · simp [hset]
  · simp [hset]

/-- Settles O7: the bit rules of `eventSetOp` and `clearEvents`, one bit at a time. -/
theorem eventBitsSetAndClear : Obligations.EventBitsSetAndClear := by
  refine ⟨fun r page bits s h => ?_, fun r page bits sets s h => ?_⟩
  · exact ⟨_, exec_eventSet r page bits s h, fun k hk => eventSetOp_event _ _ k s hk,
      eventSetOp_eventsOnly _ _ s, eventSetOp_regsBut _ _ s⟩
  · exact ⟨_, exec_eventClear r page bits sets s h, fun k hk => clearEvents_eventSetOp_event _ _ _ k s hk,
      (eventSetOp_eventsOnly _ _ s).trans (clearEvents_regsOnly _ _ _).eventsOnly,
      (eventSetOp_regsBut _ _ s).trans (clearEvents_regsBut _ _ _)⟩

/-! ## WRITE, REGISTER_WRITE and WRITE_MASKED (R9, R25, R49, R66) -/

/-- a write that may run and resets nothing performs the register's write and answers with its status. -/
theorem writeOp_runs (r : Req) (opcode addr : Nat) (v : State → Nat) (s : State)
    (h : State.lets r opcode (addr / 4096) (addr % 4096) s)
    (hr : resetsDevice (addr / 4096) (addr % 4096) (v s) = false) :
    writeOp r opcode addr v s =
      reply r (opcode + 128) addr (writeReg r (addr / 4096) (addr % 4096) (v s) s).1 []
        (writeReg r (addr / 4096) (addr % 4096) (v s) s).2 := by
  unfold writeOp
  rw [opStart_runs _ _ _ _ _ _ _ h]
  simp only [h.1, hr, Bool.false_eq_true, if_false]

theorem exec_write (r : Req) (addr value : Word) (s : State)
    (h : State.lets r 3 (addr.toNat / 4096) (addr.toNat % 4096) s)
    (hr : resetsDevice (addr.toNat / 4096) (addr.toNat % 4096) value.toNat = false) :
    exec (.write r addr value) s =
      .next (reply r 0x83 addr.toNat (writeReg r (addr.toNat / 4096) (addr.toNat % 4096) value.toNat s).1 []
        (writeReg r (addr.toNat / 4096) (addr.toNat % 4096) value.toNat s).2) :=
  congrArg Host.Outcome.next (writeOp_runs r 3 addr.toNat (fun _ => value.toNat) s h hr)

theorem exec_registerWrite (r : Req) (addr value : Word) (s : State) :
    exec (.registerWrite r addr value) s = exec (.write r addr value) s := rfl

theorem exec_writeMasked (r : Req) (addr mask value : Word) (s : State)
    (h : State.lets r 4 (addr.toNat / 4096) (addr.toNat % 4096) s)
    (hr : resetsDevice (addr.toNat / 4096) (addr.toNat % 4096)
      (maskedWord (addr.toNat / 4096) (addr.toNat % 4096) mask.toNat value.toNat s) = false) :
    exec (.writeMasked r addr mask value) s =
      .next (reply r 0x84 addr.toNat (writeReg r (addr.toNat / 4096) (addr.toNat % 4096)
          (maskedWord (addr.toNat / 4096) (addr.toNat % 4096) mask.toNat value.toNat s) s).1 []
        (writeReg r (addr.toNat / 4096) (addr.toNat % 4096)
          (maskedWord (addr.toNat / 4096) (addr.toNat % 4096) mask.toNat value.toNat s) s).2) :=
  congrArg Host.Outcome.next (writeOp_runs r 4 addr.toNat
    (maskedWord (addr.toNat / 4096) (addr.toNat % 4096) mask.toNat value.toNat) s h hr)

/-- only the register of DEV with the reset bits resets the device. -/
theorem resetsDevice_of_ne {p off v : Nat} (h : off ≠ 0x008) : resetsDevice p off v = false := by
  simp [resetsDevice, h]

/-- the enables of the page's events, as a write of EVENT_EN leaves them. -/
def writeEnables (p v : Nat) (s : State) : State :=
  (List.range 32).foldl (fun s k => setF p (HDR.EVENT_EN k) (Nat.land v (eventMask p) / 2 ^ k % 2) s) s

theorem writeReg_eventEn (r : Req) (p v : Nat) (s : State) : writeReg r p 0x014 v s = (.success, writeEnables p v s) := rfl

theorem writeReg_event (r : Req) (p v : Nat) (s : State) : writeReg r p 0x010 v s = (.success, clearEvents p v s) := rfl

theorem writeReg_stateCmd (r : Req) (p v : Nat) (s : State) (hp : hasState p = true) :
    writeReg r p 0x024 v s =
      if commandable (v % 16) then (.success, setSh p HDR.CMD_state (v % 16) s) else (.invalidValue, s) := by
  simp [writeReg, headerWrite, hp]

/-- bit `k` of a word cut to a mask. -/
theorem land_div_mod_two (v m k : Nat) : Nat.land v m / 2 ^ k % 2 = if m.testBit k then v / 2 ^ k % 2 else 0 := by
  have hbit : (Nat.land v m).testBit k = (v.testBit k && m.testBit k) := Nat.testBit_land _ _ _
  rw [← Nat.toNat_testBit, ← Nat.toNat_testBit, hbit]
  cases m.testBit k <;> simp

theorem writeEnables_eventEn (p v j : Nat) (s : State) (hj : j < 32) :
    getF p (HDR.EVENT_EN j) (writeEnables p v s) = if (eventMask p).testBit j then v / 2 ^ j % 2 else 0 := by
  unfold writeEnables
  rw [getF_foldl_range (φ := fun _ => Nat.land v (eventMask p) / 2 ^ j % 2), if_pos hj, land_div_mod_two]
  · intro u
    rw [getF_setF_same]
    exact Nat.mod_mod _ 2
  · intro u k hk
    exact getF_setF_field _ _ _ _ _ (by rw [eventEn_loc, eventEn_loc]; omega)

theorem writeEnables_regsOnly (p v : Nat) (s : State) : RegsOnly s (writeEnables p v s) :=
  List.foldlRecOn (motive := RegsOnly s) _ _ (.refl s) fun _ hu _ _ => hu.trans (setF_regsOnly _ _ _ _)

theorem writeEnables_fieldsBut (p v : Nat) (s : State) :
    State.fieldsBut p ((List.range 32).map HDR.EVENT_EN) s (writeEnables p v s) := by
  intro n hn
  refine List.foldlRecOn (motive := fun u : State => SMap.find n u.regs = SMap.find n s.regs) _ _ rfl fun u hu k hk => ?_
  have hne : n ≠ (HDR.EVENT_EN k).key p := by
    rintro rfl
    exact hn (List.mem_map_of_mem (List.mem_map_of_mem hk))
  rw [find_setF n p _ _ u hne, hu]

@[simp] theorem getSh_setSh_same (p : Nat) (f : Fld) (v : Nat) (s : State) : getSh p f (setSh p f v s) = v % 2 ^ f.width := by
  simp [getSh, setSh, SMap.get_set]

theorem commandable_iff (c : Nat) : commandable c = true ↔ c ∈ [stOFF, stIDLE, stRUNNING, stTEST, stLOW] :=
  List.contains_iff_mem

/-- Of EVENT, WRITE_MASKED clears the bits set in both its mask and its value (R49). -/
theorem maskedWord_event (p mask v : Nat) (s : State) : maskedWord p 0x010 mask v s = Nat.land mask v := rfl

/-- a WRITE of EVENT_EN runs. -/
theorem write_eventEn (r : Req) (addr value : Word) (s : State) (h : State.lets r 3 (addr.toNat / 4096) 0x014 s)
    (ho : addr.toNat % 4096 = 0x014) :
    exec (.write r addr value) s =
      .next (reply r 0x83 addr.toNat .success [] (writeEnables (addr.toNat / 4096) value.toNat s)) := by
  rw [exec_write r addr value s (by rwa [ho]) (by rw [ho]; exact resetsDevice_of_ne (by decide)), ho, writeReg_eventEn]

/-- a REGISTER_WRITE of STATE_CMD runs. -/
theorem registerWrite_stateCmd (r : Req) (addr value : Word) (s : State)
    (h : State.lets r 3 (addr.toNat / 4096) 0x024 s) (ho : addr.toNat % 4096 = 0x024)
    (hp : hasState (addr.toNat / 4096) = true) :
    exec (.registerWrite r addr value) s =
      if commandable (value.toNat % 16) then
        .next (reply r 0x83 addr.toNat .success [] (setSh (addr.toNat / 4096) HDR.CMD_state (value.toNat % 16) s))
      else .next (reply r 0x83 addr.toNat .invalidValue [] s) := by
  rw [exec_registerWrite, exec_write r addr value s (by rwa [ho]) (by rw [ho]; exact resetsDevice_of_ne (by decide)), ho,
    writeReg_stateCmd r _ _ s hp]
  split <;> rfl

/-- a WRITE_MASKED of EVENT runs. -/
theorem writeMasked_event (r : Req) (addr mask value : Word) (s : State)
    (h : State.lets r 4 (addr.toNat / 4096) 0x010 s) (ho : addr.toNat % 4096 = 0x010) :
    exec (.writeMasked r addr mask value) s =
      .next (reply r 0x84 addr.toNat .success []
        (clearEvents (addr.toNat / 4096) (Nat.land mask.toNat value.toNat) s)) := by
  rw [exec_writeMasked r addr mask value s (by rwa [ho]) (by rw [ho]; exact resetsDevice_of_ne (by decide)), ho,
    maskedWord_event, writeReg_event]

/-- Settles O6: `exec_write` and `exec_writeMasked`, and what the writes of EVENT_EN, STATE_CMD and EVENT do. -/
theorem writesTakeTheirValue : Obligations.WritesTakeTheirValue := by
  refine ⟨fun r addr value s h hr => ?_, fun r addr mask value s h hr => ?_, fun r addr value s h ho => ?_,
    fun r addr value s h ho hp => ⟨fun hv => ?_, fun hv => ?_⟩, fun r addr mask value s h ho => ?_⟩
  · exact ⟨exec_write r addr value s h hr, exec_registerWrite r addr value s⟩
  · exact exec_writeMasked r addr mask value s h hr
  · exact ⟨_, write_eventEn r addr value s h ho, fun k hk => writeEnables_eventEn _ _ k s hk,
      writeEnables_regsOnly _ _ s, writeEnables_fieldsBut _ _ s⟩
  · have hc := (commandable_iff _).2 hv
    refine ⟨_, (registerWrite_stateCmd r addr value s h ho hp).trans (if_pos hc), ?_, rfl⟩
    rw [getSh_setSh_same]
    exact Nat.mod_mod _ 16
  · have hc := mt (commandable_iff _).1 hv
    exact (registerWrite_stateCmd r addr value s h ho hp).trans (if_neg hc)
  · refine ⟨_, writeMasked_event r addr mask value s h ho, fun k hk => ?_, clearEvents_regsOnly _ _ s⟩
    have hbit : (Nat.land mask.toNat value.toNat).testBit k = (mask.getLsbD k && value.getLsbD k) := Nat.testBit_land _ _ _
    rw [clearEvents_event _ _ k s hk, hbit]

/-! ## READ, COUNTER_LOW_READ and READ_BURST (R7, R20, R41, R48) -/

/-- an address is its page and its offset (R7). -/
theorem regAddr_div_mod (a : Nat) : regAddr (a / 4096) (a % 4096) = a := Nat.div_add_mod' a 4096

theorem regAddr_add (p off n : Nat) : regAddr p (off + n) = regAddr p off + n := (Nat.add_assoc _ _ _).symm

theorem exec_read (r : Req) (addr : Word) (s : State) (h : State.lets r 1 (addr.toNat / 4096) (addr.toNat % 4096) s) :
    exec (.read r addr) s =
      .next (reply r 0x81 addr.toNat .success (beBytes 4 (readReg r (addr.toNat / 4096) (addr.toNat % 4096) s).1)
        (readReg r (addr.toNat / 4096) (addr.toNat % 4096) s).2) := by
  have hrun := asRead_runs r _ _ (readReg r (addr.toNat / 4096) (addr.toNat % 4096)) s h
  rw [regAddr_div_mod] at hrun
  exact congrArg Host.Outcome.next hrun

theorem exec_counterLowRead (r : Req) (addr : Word) (s : State) :
    exec (.counterLowRead r addr) s = exec (.read r addr) s := rfl

/-- a register with no read action whose word is latched for the session reads as that word, used up. -/
theorem readReg_latched {r : Req} {p off v : Nat} {s u : State} (ha : readAction r p off s = none)
    (hl : takeLatch r (regAddr p off) s = some (v, u)) : readReg r p off s = (v, u) := by
  simp only [readReg, ha, hl]

/-- a register with no read action and no latched word, but with the low word of a pair, latches the high one (R20). -/
theorem readReg_pairLow {r : Req} {p off : Nat} {s : State} (ha : readAction r p off s = none)
    (hl : takeLatch r (regAddr p off) s = none) (hp : pairLow p off = true) :
    readReg r p off s = (regWord p off s, latchWord r (regAddr p (off + 4)) (regWord p (off + 4) s) s) := by
  simp only [readReg, ha, hl, hp, if_true]

/-- A plain register: it answers with its word and its read has no effect. -/
structure PlainRead (r : Req) (p off : Nat) (s : State) : Prop where
  action : readAction r p off s = none
  latch : takeLatch r (regAddr p off) s = none
  pair : pairLow p off = false

theorem PlainRead.readReg {r : Req} {p off : Nat} {s : State} (h : PlainRead r p off s) :
    readReg r p off s = (regWord p off s, s) := by
  simp only [Machine.readReg, h.action, h.latch, h.pair, Bool.false_eq_true, if_false]

theorem putSession_sessionAt (i : Nat) (x : Session) (s : State) : sessionAt i (putSession i x s) = some x :=
  (SMap.find_put x i i _).trans (if_pos rfl)

/-- the word latched for a session is its next read's, which uses it up (R20). -/
theorem takeLatch_latchWord (i : Fin 8) (tag : BitVec 16) (a v : Nat) (x : Session) (s : State)
    (hx : sessionAt i.val s = some x) :
    ∃ u, takeLatch ⟨.session i, tag⟩ a (latchWord ⟨.session i, tag⟩ a v s) = some (v, u) ∧
      takeLatch ⟨.session i, tag⟩ a u = none := by
  have hl : latchWord ⟨.session i, tag⟩ a v s = putSession i.val { x with latched := SMap.put a v x.latched } s := by
    simp only [latchWord, hx]
  rw [hl]
  refine ⟨putSession i.val { x with latched := SMap.drop a (SMap.put a v x.latched) }
    (putSession i.val { x with latched := SMap.put a v x.latched } s), ?_, ?_⟩
  · simp only [takeLatch, putSession_sessionAt, SMap.find_put, if_true]
  · simp only [takeLatch, putSession_sessionAt, SMap.find_drop, if_true]

theorem beBytes_length (k n : Nat) : (beBytes k n).length = k := by
  induction k generalizing n with
  | zero => rfl
  | succ k ih => rw [beBytes, List.length_append, ih, List.length_singleton]

/-- a burst answers four bytes for each of its words, whichever of them answer. -/
theorem burstWords_length (r : Req) (p : Nat) (l : List Nat) (s : State) : (burstWords r p l s).2.1.length = 4 * l.length := by
  induction l generalizing s with
  | nil => rfl
  | cons off l ih =>
    unfold burstWords
    split
    · simp only [List.length_append, beBytes_length, ih, List.length_cons]; omega
    · simp only [List.length_append, beBytes_length, ih, List.length_cons]; omega

/-- a burst of plain registers that all answer gives their words in order and changes nothing. -/
theorem burstWords_plain (r : Req) (p : Nat) (l : List Nat) (s : State)
    (h : ∀ off ∈ l, regStatus p off s = .success ∧ PlainRead r p off s) :
    burstWords r p l s = (.success, l.flatMap (fun off => beBytes 4 (regWord p off s)), s) := by
  induction l with
  | nil => rfl
  | cons off l ih =>
    obtain ⟨hst, hplain⟩ := h off List.mem_cons_self
    have hrest := ih fun o ho => h o (List.mem_cons_of_mem off ho)
    simp only [burstWords, hst, hplain.readReg, hrest, List.flatMap_cons]

/-- a register that answers lies on a page of the index (R71). -/
theorem blockOf_isNone_of_regStatus {p off : Nat} {s : State} (h : regStatus p off s = .success) :
    (blockOf p).isNone = false := by
  by_contra hb
  rw [Bool.not_eq_false] at hb
  simp [regStatus, hb] at h

/-- the offsets of a burst of `n` words from `off`. -/
def burstOffsets (off n : Nat) : List Nat := (List.range n).map (fun k => off + 4 * k)

theorem burstOffsets_length (off n : Nat) : (burstOffsets off n).length = n := by
  rw [burstOffsets, List.length_map, List.length_range]

/-- a burst within its page answers with its words. -/
theorem burstOp_inside (r : Req) (addr n : Nat) (s : State) (h : State.lets r 2 (addr / 4096) (addr % 4096) s)
    (hn : addr % 4096 + 4 * n ≤ 4096) :
    burstOp r addr n s =
      reply r 0x82 addr (burstWords r (addr / 4096) (burstOffsets (addr % 4096) n) s).1
        (burstWords r (addr / 4096) (burstOffsets (addr % 4096) n) s).2.1
        (burstWords r (addr / 4096) (burstOffsets (addr % 4096) n) s).2.2 := by
  have hpage : ¬ ((blockOf (addr / 4096)).isNone = true ∨ 4096 < addr % 4096 + 4 * n) := by
    rw [blockOf_isNone_of_regStatus h.1]
    simp only [Bool.false_eq_true, false_or]
    omega
  unfold burstOp
  rw [opStart_runs _ _ _ _ _ _ _ h]
  exact if_neg hpage

/-- a burst across the end of its page answers invalid-address. -/
theorem burstOp_crosses (r : Req) (addr n : Nat) (s : State) (h : State.lets r 2 (addr / 4096) (addr % 4096) s)
    (hn : 4096 < addr % 4096 + 4 * n) :
    burstOp r addr n s = reply r 0x82 addr .invalidAddress (List.replicate (4 * n) 0) s := by
  unfold burstOp
  rw [opStart_runs _ _ _ _ _ _ _ h]
  exact if_pos (.inr hn)

/-- a burst of plain registers within its page answers with their words and changes nothing. -/
theorem burstOp_plain (r : Req) (addr n : Nat) (s : State) (h : State.lets r 2 (addr / 4096) (addr % 4096) s)
    (hn : addr % 4096 + 4 * n ≤ 4096)
    (hall : ∀ off ∈ burstOffsets (addr % 4096) n,
      regStatus (addr / 4096) off s = .success ∧ PlainRead r (addr / 4096) off s) :
    burstOp r addr n s =
      reply r 0x82 addr .success
        ((List.range n).flatMap (fun k => beBytes 4 (regWord (addr / 4096) (addr % 4096 + 4 * k) s))) s := by
  rw [burstOp_inside r addr n s h hn, burstWords_plain r _ _ s hall, burstOffsets, List.flatMap_map]

/-- Settles O5: `exec_read` with the cases of `readReg`, and `burstOp` with what `burstWords` answers. -/
theorem readsAnswerTheWord : Obligations.ReadsAnswerTheWord := by
  refine ⟨exec_read, fun r addr s h ha hl hp => ?_, fun r addr v u s h ha hl => ?_, fun r addr s h ha hl hp => ?_,
    takeLatch_latchWord, fun r addr count s h hn => ⟨?_, fun hall => ?_⟩, fun r addr count s h hn => ?_⟩
  · have hplain : PlainRead r (addr.toNat / 4096) (addr.toNat % 4096) s := ⟨ha, by rwa [regAddr_div_mod], hp⟩
    rw [exec_read r addr s h, hplain.readReg]
  · rw [exec_read r addr s h, readReg_latched ha (by rwa [regAddr_div_mod])]
  · rw [exec_counterLowRead, exec_read r addr s h, readReg_pairLow ha (by rwa [regAddr_div_mod]) hp, regAddr_add,
      regAddr_div_mod]
  · refine ⟨_, _, _, congrArg Host.Outcome.next (burstOp_inside r addr.toNat (count.toNat + 1) s h hn), ?_⟩
    rw [burstWords_length, burstOffsets_length]
  · refine congrArg Host.Outcome.next (burstOp_plain r addr.toNat (count.toNat + 1) s h hn fun off hoff => ?_)
    obtain ⟨k, hk, rfl⟩ := List.mem_map.1 hoff
    obtain ⟨hst, ha, hl, hp⟩ := hall k (Nat.lt_succ_iff.1 (List.mem_range.1 hk))
    exact ⟨hst, ha, by rwa [regAddr_add, regAddr_div_mod], hp⟩
  · exact congrArg Host.Outcome.next (burstOp_crosses r addr.toNat (count.toNat + 1) s h hn)

end Sys2Proof.Machine
end

section
/-! # Steps: the queue, the tick count, and the idle tick (R15, R21, R57) -/

namespace Sys2Proof.Machine

/-- Settles O54: `exec_answers` says it, and more, of every command. -/
theorem everyCommandAnswersAndKeepsTheQueue : Obligations.EveryCommandAnswersAndKeepsTheQueue := by
  intro c s
  obtain ⟨t, ht, hkeeps⟩ := exec_answers c s
  exact ⟨t, ht, hkeeps.pending⟩

/-- Settles O55: the command in front keeps the tick count from falling (`exec_answers`), and so does the idle tick. -/
theorem ticksNeverRunBack : Obligations.TicksNeverRunBack := by
  intro s t hstep
  unfold step at hstep
  split at hstep
  · rename_i c l _
    obtain ⟨u, hu, hkeeps⟩ := exec_answers c { s with pending := l }
    cases hu.symm.trans hstep
    exact hkeeps.clk
  · cases hstep
    exact (idleTick_keeps (.refl s)).clk

/-- Settles O1: `step` on a queue that is not empty. -/
theorem stepRunsTheFront : Obligations.StepRunsTheFront := fun _ _ _ => rfl

/-- A write of 1 to EVENT_EN of DEV, scheduled for the PTP time 0 (R55, R57). -/
def dueWrite : WatEntry where
  sid := 0
  target := 0x014
  picture := false
  masked := false
  mask := 0
  value := 1
  refPage := 0
  time := 0
  tag := 0
  order := 0
  origin := .firmware

/-- The device after its reset, with that one scheduled write waiting in slot 0. -/
def dueState : State := { State.reset with hap := { State.reset.hap with wats := [(0, dueWrite)] } }

/-- Refutes O2: a scheduled write whose time has come fires in the idle tick (R57), so that more than the time changes. -/
theorem not_idleStepPassesOneTick : ¬ Obligations.IdleStepPassesOneTick := by
  intro h
  obtain ⟨t, ht, hframe, -, -⟩ := h dueState rfl
  have hidle : t = idleTick dueState := (Host.Outcome.next.inj ht).symm
  have hkept : t.hap.wats.length = 1 := by rw [hframe]; rfl
  have hfired : (idleTick dueState).hap.wats.length = 0 := by decide
  rw [hidle, hfired] at hkept
  exact absurd hkept (by decide)

end Sys2Proof.Machine
end

section
/-! # Two statements that do not hold of every state (R57, R58, R97, R303) -/

namespace Sys2Proof.Machine

/-! ## A departure under a count that stopped ahead of now (R16, R97, R128) -/

/-- A row of one slice that departs at 10 ns of PTP time. -/
def readyRow : Ready where
  pic := 0
  row := 0
  due := 10
  depart := 10
  slices := 1
  first := 0
  last := 0

/-- TIMEREF is lost, noted at a tick that is still to come, and the row waits on OUT 0. -/
def stoppedAhead : State :=
  { setF pgTIM TIM.ST_state 4 State.reset with
    tim := { TimS.reset with stopAt := 1000 }
    outs := [(0, { OutS.reset with ready := [readyRow] })] }

/-- Refutes O18: where the stop of TIME lies ahead of the tick count, the PTP time as FAB carries it stands still (`fabNs`), and the
departure's 10 ns are not reached. No run leads to such a state; the statement speaks of every state. -/
theorem not_departureAndOutputLegs : ¬ Obligations.DepartureAndOutputLegs := by
  rintro ⟨hdeparture, -⟩
  have hnext : nextReady (0 : Fin 32).val stoppedAhead = some readyRow := by decide
  obtain ⟨t, ht, -, hreached, -⟩ := hdeparture 0 readyRow stoppedAhead hnext
  cases (show Host.Outcome.next (departureOp 0 stoppedAhead) = .next t from ht)
  have hstill : ¬ readyRow.depart ≤ fabNs (departureOp 0 stoppedAhead) := by decide
  exact hstill hreached

/-! ## A picture write that names lane 32 (R57, R58, R303) -/

/-- A picture write that names the page of lane 32. -/
def laneWrite : WatEntry where
  order := 0
  picture := true
  refPage := pgLNE 32
  time := 0
  masked := false
  mask := 0
  value := 0
  target := 0
  tag := 0
  sid := 0
  origin := .firmware

/-- Lane 32 is trained without REFCLK_PORT, and the one scheduled write that HAP counts names its page. -/
def laneWatched : State :=
  setWats [(0, laneWrite)] (setF (pgLNE 32) LNE.ST_refclk_ok 0 (setF (pgLNE 32) LNE.ST_trained 1 State.reset))

/-- Refutes O32: TIMEREF_LOST makes lane 32 lose lock, its page leaves its state, and the write that names it is withdrawn, which
HAP.WAT_PENDING counts (R58); HAP is not among the pages that the statement lets change. WRITE_AT takes no such entry; the statement
speaks of every state. -/
theorem not_timeLockAndGoverning : ¬ Obligations.TimeLockAndGoverning := by
  rintro ⟨-, -, -, -, -, -, hlost, -⟩
  obtain ⟨t, ht, -, -, -, -, hframe⟩ := hlost laneWatched (by decide)
  cases (show Host.Outcome.next (timerefLostAll laneWatched) = .next t from ht)
  have hkept := hframe (HAP.WAT_PENDING_count.key pgHAP) (by decide)
  have hchanged : SMap.find (HAP.WAT_PENDING_count.key pgHAP) (timerefLostAll laneWatched).regs ≠
      SMap.find (HAP.WAT_PENDING_count.key pgHAP) laneWatched.regs := by decide
  exact hchanged hkept

end Sys2Proof.Machine
end

section
/-! # Which registers an operation writes (R9)

`State.regsBut` and `State.fieldsBut` are the two forms in which the statements bound what is written: by pages, and by fields of one
page. Both are cases of `WritesIn`, over which the rules are stated once. -/

namespace Sys2Proof.Machine

/-- From `s` to `t` only registers whose keys lie in `K` are written. -/
def WritesIn (K : Nat → Prop) (s t : State) : Prop := ∀ k, ¬ K k → SMap.find k t.regs = SMap.find k s.regs

/-- the keys of some fields of page `p`. -/
def AtFields (p : Nat) (l : List Fld) (k : Nat) : Prop := k ∈ l.map (Fld.key p)

theorem regsBut_iff {l : List Nat} {s t : State} : State.regsBut l s t ↔ WritesIn (fun k => k / 2 ^ 20 ∈ l) s t := Iff.rfl

theorem fieldsBut_iff {p : Nat} {l : List Fld} {s t : State} : State.fieldsBut p l s t ↔ WritesIn (AtFields p l) s t := Iff.rfl

section
variable {K L : Nat → Prop} {s t u : State}

theorem WritesIn.of_eq (h : t.regs = s.regs) : WritesIn K s t := fun _ _ => by rw [h]

theorem WritesIn.refl (s : State) : WritesIn K s s := .of_eq rfl

theorem WritesIn.trans (h : WritesIn K s t) (k : WritesIn K t u) : WritesIn K s u :=
  fun n hn => (k n hn).trans (h n hn)

theorem WritesIn.mono (h : WritesIn K s t) (hl : ∀ k, K k → L k) : WritesIn L s t := fun n hn => h n (mt (hl n) hn)

theorem WritesIn.ite {c : Prop} [Decidable c] (h : WritesIn K s t) (k : WritesIn K s u) :
    WritesIn K s (if c then t else u) := by split <;> assumption

theorem WritesIn.foldl {α : Type} {g : State → α → State} {l : List α} (hg : ∀ u, ∀ x ∈ l, WritesIn K u (g u x)) (s : State) :
    WritesIn K s (l.foldl g s) :=
  List.foldlRecOn (motive := WritesIn K s) l g (.refl s) fun u hu x hx => hu.trans (hg u x hx)

end

/-- the value of a field is its register's, or the reset value where none is listed. -/
theorem getF_eq_find (p : Nat) (f : Fld) (s : State) : getF p f s = (SMap.find (f.key p) s.regs).getD (f.resetAt p) := by
  unfold getF
  induction s.regs with
  | nil => rfl
  | cons e m ih =>
    obtain ⟨k, v⟩ := e
    unfold SMap.get SMap.find
    split
    · rfl
    · exact ih

/-- a field outside what is written keeps its value. -/
theorem WritesIn.getF {K : Nat → Prop} {s t : State} (h : WritesIn K s t) {p : Nat} {f : Fld} (hf : ¬ K (f.key p)) :
    getF p f t = getF p f s := by
  rw [getF_eq_find, getF_eq_find, h _ hf]

theorem WritesIn.isF {K : Nat → Prop} {s t : State} (h : WritesIn K s t) {p : Nat} {f : Fld} (hf : ¬ K (f.key p)) :
    isF p f t = isF p f s := congrArg (· == 1) (h.getF hf)

theorem WritesIn.act {K : Nat → Prop} {s t : State} (h : WritesIn K s t) {p : Nat} (hf : ¬ K (HDR.ACT_state.key p)) :
    act p t = act p s := h.getF hf

/-! ## Keys -/

theorem key_mod {p : Nat} {f : Fld} (hf : f.loc < 2 ^ 20) : f.key p % 2 ^ 20 = f.loc := by
  unfold Fld.key; omega

theorem key_div {p : Nat} {f : Fld} (hf : f.loc < 2 ^ 20) : f.key p / 2 ^ 20 = p := by
  unfold Fld.key; omega

theorem atFields_of_mem {p : Nat} {l : List Fld} {f : Fld} (h : f ∈ l) : AtFields p l (f.key p) := List.mem_map_of_mem h

theorem atFields_mono {p : Nat} {l m : List Fld} (h : l ⊆ m) {k : Nat} (hk : AtFields p l k) : AtFields p m k :=
  List.map_subset _ h hk

/-- another place in the page is none of the fields. -/
theorem not_atFields {p : Nat} {l : List Fld} {f : Fld} (h : f.loc ∉ l.map Fld.loc) : ¬ AtFields p l (f.key p) := by
  intro hk
  obtain ⟨g, hg, hkey⟩ := List.mem_map.1 hk
  have hloc : g.loc = f.loc := Nat.add_left_cancel hkey
  exact h (hloc ▸ List.mem_map_of_mem hg)

/-- fields of a page lie on it; a page has 2¹⁵ bits. -/
theorem div_of_atFields {p k : Nat} {l : List Fld} (hl : ∀ f ∈ l, f.loc < 2 ^ 20) (hk : AtFields p l k) : k / 2 ^ 20 = p := by
  obtain ⟨f, hf, rfl⟩ := List.mem_map.1 hk
  exact key_div (hl f hf)

/-- what writes only fields of page `p` writes only page `p`. -/
theorem WritesIn.onPage {p : Nat} {l : List Fld} {s t : State} (h : WritesIn (AtFields p l) s t) (hl : ∀ f ∈ l, f.loc < 2 ^ 20) :
    State.regsBut [p] s t :=
  h.mono fun _ hk => List.mem_singleton.2 (div_of_atFields hl hk)

/-! ## The shared operations -/

section
variable {K : Nat → Prop} {p : Nat} {s : State}

theorem setF_writesIn {f : Fld} {v : Nat} (h : K (f.key p)) : WritesIn K s (setF p f v s) := by
  intro n hn
  exact find_setF n p f v s (by rintro rfl; exact hn h)

theorem addF_writesIn {f : Fld} {n : Nat} (h : K (f.key p)) : WritesIn K s (addF p f n s) := setF_writesIn h

theorem satF_writesIn {f : Fld} {n : Nat} (h : K (f.key p)) : WritesIn K s (satF p f n s) := setF_writesIn h

theorem subF_writesIn {f : Fld} {n : Nat} (h : K (f.key p)) : WritesIn K s (subF p f n s) := setF_writesIn h

/-- what an event writes: its bit and EVENT_FIRST (R66, R67). -/
def eventFields (k : Nat) : List Fld := [HDR.EVENT k, HDR.FIRST_index, HDR.FIRST_valid, HDR.FIRST_time_us]

theorem raise_writesIn {k : Nat} (h : ∀ f ∈ eventFields k, K (f.key p)) : WritesIn K s (raise p k s) := by
  have hlatch : WritesIn K s (latchFirst p k s) :=
    .ite (.refl s) (((setF_writesIn (h HDR.FIRST_time_us (by simp [eventFields]))).trans
      (setF_writesIn (h HDR.FIRST_valid (by simp [eventFields])))).trans
      (setF_writesIn (h HDR.FIRST_index (by simp [eventFields]))))
  have hset : WritesIn K s (setF p (HDR.EVENT k) 1 (latchFirst p k s)) :=
    hlatch.trans (setF_writesIn (h _ (by simp [eventFields])))
  exact .ite (hset.trans (.of_eq rfl)) hset

theorem raiseIf_writesIn {c : Bool} {k : Nat} (h : ∀ f ∈ eventFields k, K (f.key p)) : WritesIn K s (raiseIf c p k s) :=
  .ite (raise_writesIn h) (.refl s)

end

theorem eventFields_loc {k : Nat} (hk : k < 32) : ∀ f ∈ eventFields k, f.loc < 2 ^ 20 := by
  intro f hf
  simp only [eventFields, List.mem_cons, List.not_mem_nil, or_false] at hf
  rcases hf with rfl | rfl | rfl | rfl
  · rw [event_loc]; omega
  · decide
  · decide
  · decide

end Sys2Proof.Machine
end

section
namespace Sys2Proof.Machine

/-! ## A page's state and its generations (R22 to R29, R68, R69) -/

/-- the fields of STATE_ACT. -/
def actFields : List Fld := [HDR.ACT_state, HDR.ACT_prev, HDR.ACT_reason, HDR.ACT_changes]

/-- STATE_ACT written with a change to `st` (R26). -/
def writeAct (p st r : Nat) (s : State) : State :=
  setF p HDR.ACT_state st (setF p HDR.ACT_prev (act p s) (setF p HDR.ACT_reason r (addF p HDR.ACT_changes 1 s)))

/-- the change itself, before what follows from leaving the old state: STATE_ACT, its age and the mismatch timer (R26, R28, R29). -/
def enterAct (p st r : Nat) (s : State) : State :=
  settleTimer p { writeAct p st r s with actAt := SMap.put p s.clk (writeAct p st r s).actAt }

/-- the change, and what the readers of a page that leaves RUNNING see of it (R105). -/
def leaveAct (p st r : Nat) (s : State) : State :=
  if act p s = stRUNNING then sourceGone p (enterAct p st r s) else enterAct p st r s

theorem setAct_of_eq {p st r : Nat} {s : State} (h : act p s = st) :
    setAct p st r s = if getF p HDR.ACT_reason s = 0x0C then s else setF p HDR.ACT_reason r s := if_pos h

theorem setAct_of_ne {p st r : Nat} {s : State} (h : act p s ≠ st) :
    setAct p st r s = if st = stRUNNING ∨ st = stMUTED then leaveAct p st r s else watLeave p (leaveAct p st r s) := if_neg h

section
variable {K : Nat → Prop} {p : Nat} {s : State}

theorem watWithdraw_writesIn {k : Nat} (h : K (HAP.WAT_PENDING_count.key pgHAP)) : WritesIn K s (watWithdraw k s) := by
  have hset : ∀ m, WritesIn K s (setWats m s) := fun m =>
    WritesIn.trans (t := { s with hap := { s.hap with wats := m } }) (.of_eq rfl) (setF_writesIn h)
  unfold watWithdraw
  split
  · exact .refl s
  · exact (hset _).trans (.of_eq rfl)

theorem watLeave_writesIn (h : K (HAP.WAT_PENDING_count.key pgHAP)) : WritesIn K s (watLeave p s) :=
  .foldl (fun _ _ _ => watWithdraw_writesIn h) s

theorem sourceGone_writesIn (h : ∀ u < 4, ∀ f ∈ eventFields 0, K (f.key (pgCND u))) : WritesIn K s (sourceGone p s) :=
  .foldl (fun _ _ hu => raiseIf_writesIn (h _ (List.mem_range.1 hu))) s

theorem enterAct_writesIn {st r : Nat} (h : ∀ f ∈ actFields, K (f.key p)) : WritesIn K s (enterAct p st r s) := by
  have hwrite : WritesIn K s (writeAct p st r s) :=
    (((addF_writesIn (h _ (by simp [actFields]))).trans (setF_writesIn (h _ (by simp [actFields])))).trans
      (setF_writesIn (h _ (by simp [actFields])))).trans (setF_writesIn (h _ (by simp [actFields])))
  exact hwrite.trans (.of_eq (settleTimer_regs _ _))

theorem leaveAct_writesIn {st r : Nat} (hact : ∀ f ∈ actFields, K (f.key p))
    (hcnd : ∀ u < 4, ∀ f ∈ eventFields 0, K (f.key (pgCND u))) : WritesIn K s (leaveAct p st r s) :=
  .ite ((enterAct_writesIn hact).trans (sourceGone_writesIn hcnd)) (enterAct_writesIn hact)

/-- What a change of state writes: STATE_ACT, the events of the conditioning units that read the page (R105), and the count of the
scheduled writes withdrawn with it (R58). -/
theorem setAct_writesIn {st r : Nat} (hact : ∀ f ∈ actFields, K (f.key p)) (hwat : K (HAP.WAT_PENDING_count.key pgHAP))
    (hcnd : ∀ u < 4, ∀ f ∈ eventFields 0, K (f.key (pgCND u))) : WritesIn K s (setAct p st r s) := by
  by_cases h : act p s = st
  · rw [setAct_of_eq h]
    exact .ite (.refl s) (setF_writesIn (hact _ (by simp [actFields])))
  · rw [setAct_of_ne h]
    exact .ite (leaveAct_writesIn hact hcnd) ((leaveAct_writesIn hact hcnd).trans (watLeave_writesIn hwat))

/-- taking a generation writes the page's RWC fields, gen_applied and the event of R69. -/
theorem takeGen_writesIn (hrows : ∀ f ∈ rwcRows p, K (f.key p)) (hgen : K (HDR.gen_applied.key p))
    (hevent : ∀ f ∈ eventFields 30, K (f.key p)) : WritesIn K s (takeGen p s) :=
  .ite (((WritesIn.foldl (fun _ f hf => setF_writesIn (hrows f hf)) s).trans (setF_writesIn hgen)).trans (raise_writesIn hevent))
    (.refl s)

end

/-- the keys whose place in their page is none of `l`. -/
def OffPlaces (l : List Nat) (k : Nat) : Prop := k % 2 ^ 20 ∉ l

theorem offPlaces_of {p : Nat} {f : Fld} {l : List Nat} (hf : f.loc < 2 ^ 20) (h : f.loc ∉ l) : OffPlaces l (f.key p) := by
  unfold OffPlaces
  rwa [key_mod hf]

theorem not_offPlaces {p : Nat} {f : Fld} {l : List Nat} (hf : f.loc < 2 ^ 20) (h : f.loc ∈ l) : ¬ OffPlaces l (f.key p) := by
  unfold OffPlaces
  rwa [key_mod hf, not_not]

/-- a change of state puts its page into that state. -/
theorem setAct_act {p st r : Nat} {s : State} (hst : st < 16) : act p (setAct p st r s) = st := by
  by_cases h : act p s = st
  · have hreason : act p (setF p HDR.ACT_reason r s) = act p s := getF_setF_field _ _ _ _ _ (by decide)
    rw [setAct_of_eq h]
    split
    · exact h
    · rw [hreason, h]
  · have henter : act p (enterAct p st r s) = st := by
      have hwrite : act p (writeAct p st r s) = st := (getF_setF_same p HDR.ACT_state st _).trans (Nat.mod_eq_of_lt hst)
      exact (getF_congr _ _ _ _ (settleTimer_regs _ _)).trans hwrite
    have hoff : ∀ {t u : State}, WritesIn (OffPlaces [HDR.ACT_state.loc]) t u → act p u = act p t := fun hw =>
      hw.act (not_offPlaces (by decide) (by decide))
    have hgone : ∀ t, act p (sourceGone p t) = act p t := fun t => hoff (sourceGone_writesIn fun u _ f hf =>
      offPlaces_of (eventFields_loc (by decide) f hf) (by revert f; decide))
    have hleave : ∀ t, act p (watLeave p t) = act p t := fun t => hoff (watLeave_writesIn (offPlaces_of (by decide) (by decide)))
    have hleaves : act p (leaveAct p st r s) = st := by
      unfold leaveAct
      split
      · rw [hgone, henter]
      · exact henter
    rw [setAct_of_ne h]
    split
    · exact hleaves
    · rw [hleave, hleaves]

end Sys2Proof.Machine
end

section
/-! # COMMIT, DISCARD and the mismatch timer (R24, R29, R68, R69) -/

namespace Sys2Proof.Machine

/-! ## COMMIT -/

theorem exec_commit (r : Req) (page : BitVec 20) (s : State) (h : State.lets r 3 page.toNat 0x020 s) :
    exec (.commit r page) s =
      .next (reply r 0x83 (regAddr page.toNat 0x020) (commitOp page.toNat s).1 [] (commitOp page.toNat s).2) :=
  congrArg Host.Outcome.next (asWrite_runs _ _ _ _ _ h)

theorem commitOp_refused {p : Nat} {s : State} (h : commitRefused p s = true) :
    commitOp p s = (.refusedInService, setF p HDR.ACT_reason 0x0C s) := if_pos h

theorem commitOp_invalid {p : Nat} {s : State} (hr : commitRefused p s = false) (hv : commitValid p s = false) :
    commitOp p s = (.invalidValue, s) := by
  simp [commitOp, hr, hv]

/-- TEST and OFF, newly commanded, are refused of a unit in service (R24). -/
theorem commitRefused_inService {p : Nat} {s : State} (hp : hasState p = true) (ha : act p s = stRUNNING)
    (hc : getSh p HDR.CMD_state s ∈ [stTEST, stOFF]) (hnew : getSh p HDR.CMD_state s ≠ cmdOf p s) :
    commitRefused p s = true := by
  have hcmd : (getSh p HDR.CMD_state s == stTEST || getSh p HDR.CMD_state s == stOFF) = true := by simpa using hc
  unfold hasState at hp
  unfold commitRefused
  cases hb : blockOf p with
  | none => simp [hb] at hp
  | some b =>
    simp only [hb] at hp
    simp only [hp, ha, bne_iff_ne.2 hnew, hcmd, beq_self_eq_true, Bool.true_and, Bool.true_or]

/-! ## COMMIT of RCL, which has no state and no buffer -/

/-- the pages on which the engines' states and their withdrawn writes are shown. -/
def enginePages : List Nat := engines.map (fun e => enginePage e.1 e.2) ++ [pgHAP]

theorem actPages_subset_enginePages {e : Nat × Nat} (he : e ∈ engines) : ∀ p ∈ actPages (enginePage e.1 e.2), p ∈ enginePages := by
  have hown : ∀ e ∈ engines, enginePage e.1 e.2 ∈ enginePages := fun e he =>
    List.mem_append_left _ (List.mem_map_of_mem (f := fun e : Nat × Nat => enginePage e.1 e.2) he)
  intro p hp
  rcases List.mem_cons.1 hp with rfl | hp
  · exact hown e he
  · have hrest : ∀ q ∈ [pgHAP, pgCND 0, pgCND 1, pgCND 2, pgCND 3], q ∈ enginePages := by decide
    exact hrest p hp

/-- what the engines take up or leave shows on their own pages. -/
theorem settleEngines_regsBut (s : State) : State.regsBut enginePages s (settleEngines s) := by
  have hwake : ∀ (c u : Nat) (t : State), (startWake c u t).regs = t.regs := fun c u t => by
    unfold startWake
    split <;> rfl
  have hgate : ∀ e ∈ engines, ∀ t : State,
      State.regsBut enginePages t (setAct (enginePage e.1 e.2) stLOW 0 (setUnit e.1 e.2 1 t)) := fun e he t => by
    have hunit : State.regsBut enginePages t (setUnit e.1 e.2 1 t) := .of_eq rfl
    have hact := setAct_regsBut (enginePage e.1 e.2) stLOW 0 (setUnit e.1 e.2 1 t)
    exact hunit.trans (hact.mono (actPages_subset_enginePages he))
  rw [regsBut_iff]
  unfold settleEngines
  refine WritesIn.foldl (fun u e he => ?_) s
  split
  · exact .ite (.refl u) (hgate e he u)
  · exact .of_eq (hwake _ _ u)

theorem commitRefused_rcl (s : State) : commitRefused pgRCL s = false := rfl

theorem placeBuffer_rcl (s : State) : placeBuffer getSh pgRCL s = some s := rfl

theorem commitShadows_regs (p : Nat) (s : State) : (commitShadows p s).regs = (addF p HDR.gen_committed 1 s).regs := by
  have hcm : ∀ (l : List Fld) (t : State), (l.foldl (fun s f => setCm p f (getSh p f s) s) t).regs = t.regs := fun l t =>
    foldl_keeps (fun s => s.regs) _ (by intros; rfl) l t
  have hadd : (addF p HDR.gen_committed 1 ((rwcRows p).foldl (fun s f => setCm p f (getSh p f s) s) s)).regs =
      (addF p HDR.gen_committed 1 s).regs := by
    simp only [addF, setF, getF, hcm]
  unfold commitShadows
  dsimp only
  split
  · rw [settleTimer_regs, hadd]
  · exact hadd

/-- RCL takes its generation, or waits for its boundary with it; then the engines settle. -/
theorem afterCommit_rcl (s : State) :
    afterCommit pgRCL s = settleEngines (if waitsBoundary pgRCL s then s else takeGen pgRCL s) := rfl

theorem afterCommit_rcl_committed (s : State) :
    getF pgRCL HDR.gen_committed (afterCommit pgRCL s) = getF pgRCL HDR.gen_committed s := by
  have htake : ∀ u, WritesIn (OffPlaces [HDR.gen_committed.loc]) u (takeGen pgRCL u) := fun u => by
    refine takeGen_writesIn (fun f hf => ?_) (offPlaces_of (by decide) (by decide)) (fun f hf => ?_)
    · exact offPlaces_of (by revert f; decide) (by revert f; decide)
    · exact offPlaces_of (eventFields_loc (by decide) f hf) (by revert f; decide)
  have hengines : ∀ u, getF pgRCL HDR.gen_committed (settleEngines u) = getF pgRCL HDR.gen_committed u := fun u =>
    WritesIn.getF (settleEngines_regsBut u) (by decide)
  rw [afterCommit_rcl, hengines]
  split
  · rfl
  · exact (htake s).getF (not_offPlaces (by decide) (by decide))

theorem commitOp_rcl {s : State} (h : commitValid pgRCL s = true) :
    commitOp pgRCL s = (.success, afterCommit pgRCL (commitShadows pgRCL s)) := by
  unfold commitOp
  simp only [commitRefused_rcl, h, placeBuffer_rcl, Bool.false_eq_true, Bool.not_true, if_false, Option.getD_some, ite_self]
  rfl

theorem commitOp_rcl_committed (s : State) :
    getF pgRCL HDR.gen_committed (afterCommit pgRCL (commitShadows pgRCL s)) =
      (getF pgRCL HDR.gen_committed s + 1) % 2 ^ 12 := by
  rw [afterCommit_rcl_committed, getF_congr _ _ _ _ (commitShadows_regs pgRCL s)]
  exact getF_addF_same _ _ _ _

/-! ## DISCARD -/

theorem exec_discard (r : Req) (page : BitVec 20) (s : State) (h : State.lets r 3 page.toNat 0x020 s) :
    exec (.discard r page) s =
      .next (reply r 0x83 (regAddr page.toNat 0x020) .success [] (discardShadows page.toNat s)) :=
  congrArg Host.Outcome.next (asWrite_runs _ _ _ _ _ h)

/-- the RWC fields of a block. -/
def blockRwc (b : Block) : List Fld :=
  (if b.hasState then [HDR.CMD_state] else []) ++ b.rows.filter (fun f => f.acc == Acc.rwc)

/-- no two RWC fields of a block start at the same bit. -/
theorem blockRwc_apart : ∀ b ∈ Block.all, ((blockRwc b).map Fld.loc).Nodup := by decide +kernel

theorem rwcRows_apart (p : Nat) : ((rwcRows p).map Fld.loc).Nodup := by
  unfold rwcRows
  cases hb : blockOf p with
  | none => exact List.nodup_nil
  | some b => exact blockRwc_apart b (List.mem_of_find?_eq_some hb)

theorem getSh_setSh_loc {p : Nat} {f g : Fld} (v : Nat) (s : State) (h : g.loc ≠ f.loc) :
    getSh p g (setSh p f v s) = getSh p g s := by
  have hkey : g.key p ≠ f.key p := by unfold Fld.key; omega
  unfold getSh setSh SMap.set
  split
  · exact (SMap.get_drop _ _ _ _).trans (if_neg hkey)
  · exact (SMap.get_put _ _ _ _ _).trans (if_neg hkey)

/-- writing shadows elsewhere leaves a field's shadow. -/
theorem getSh_discard_of_notMem {p : Nat} {g : Fld} {l : List Fld} (h : g.loc ∉ l.map Fld.loc) (s : State) :
    getSh p g (l.foldl (fun s f => setSh p f (getF p f s) s) s) = getSh p g s := by
  induction l generalizing s with
  | nil => rfl
  | cons f l ih =>
    rw [List.map_cons, List.mem_cons, not_or] at h
    rw [List.foldl_cons, ih h.2, getSh_setSh_loc _ _ h.1]

/-- fields that lie apart each get their active value for a shadow. -/
theorem getSh_discard_of_mem {p : Nat} {l : List Fld} (hl : (l.map Fld.loc).Nodup) (s : State) :
    ∀ f ∈ l, getSh p f (l.foldl (fun s f => setSh p f (getF p f s) s) s) = getF p f s % 2 ^ f.width := by
  induction l generalizing s with
  | nil => exact fun f hf => absurd hf List.not_mem_nil
  | cons g l ih =>
    obtain ⟨hg, hrest⟩ := List.nodup_cons.1 hl
    intro f hf
    rw [List.foldl_cons]
    rcases List.mem_cons.1 hf with rfl | hf
    · rw [getSh_discard_of_notMem hg, getSh_setSh_same]
    · exact ih hrest _ f hf

theorem discardShadows_shadow (p : Nat) (s : State) :
    ∀ f ∈ rwcRows p, getSh p f (discardShadows p s) = getF p f s % 2 ^ f.width :=
  getSh_discard_of_mem (rwcRows_apart p) s

theorem discardShadows_frame (p : Nat) (s : State) : discardShadows p s = { s with shadow := (discardShadows p s).shadow } :=
  List.foldlRecOn (motive := fun t : State => t = { s with shadow := t.shadow }) _ _ rfl fun u hu f _ =>
    congrArg (fun x : State => { x with shadow := (setSh p f (getF p f u) u).shadow }) hu

/-! ## STATE_MISMATCH -/

theorem mismatchTick_agree {p : Nat} {s : State} (h : statesAgree p s = true) : mismatchTick p s = s := if_pos h

theorem exec_stateMismatch (page : BitVec 20) (s : State) : exec (.stateMismatch page) s = .next (mismatchTick page.toNat s) := rfl

/-- a tick counted on page `p`. -/
def countTick (p : Nat) (s : State) : State := { s with ticks := SMap.set 0 p (SMap.get 0 p s.ticks + 1) s.ticks }

theorem mismatchTick_differ {p : Nat} {s : State} (h : statesAgree p s = false) :
    mismatchTick p s = raiseIf (mismatchPp p (countTick p s) == 2) p 31 (countTick p s) := by
  simp only [mismatchTick, h, Bool.false_eq_true, if_false]
  rfl

theorem countTick_ticks (p : Nat) (s : State) : SMap.get 0 p (countTick p s).ticks = SMap.get 0 p s.ticks + 1 := by
  unfold countTick
  rw [SMap.get_set, if_pos rfl]

theorem raiseIf_eventsOnly (c : Bool) (p k : Nat) (s : State) : EventsOnly s (raiseIf c p k s) := by
  unfold raiseIf
  split
  · exact raise_eventsOnly p k s
  · exact .refl s

theorem stateMismatch_differ {p : Nat} {s : State} (h : statesAgree p s = false) :
    SMap.get 0 p (mismatchTick p s).ticks = SMap.get 0 p s.ticks + 1 ∧
      (SMap.get 0 p s.ticks = 2 → getF p (HDR.EVENT 31) (mismatchTick p s) = 1) ∧
      mismatchTick p s = { s with
        regs := (mismatchTick p s).regs, ticks := (mismatchTick p s).ticks
        hap := { s.hap with sessions := (mismatchTick p s).hap.sessions } } ∧
      State.regsBut [p] s (mismatchTick p s) := by
  rw [mismatchTick_differ h]
  refine ⟨?_, fun h2 => ?_, ?_, ?_⟩
  · rw [raiseIf_ticks, countTick_ticks]
  · have hpp : (mismatchPp p (countTick p s) == 2) = true := by
      rw [mismatchPp, countTick_ticks, h2]
      rfl
    rw [hpp]
    exact raise_event p 31 _
  · rw [raiseIf_ticks]
    exact raiseIf_eventsOnly _ p 31 (countTick p s)
  · exact raiseIf_regsBut _ p 31 (countTick p s) (by decide)

/-- Settles O8: what `commitOp`, `discardShadows` and `mismatchTick` do, case by case. -/
theorem commitDiscardMismatch : Obligations.CommitDiscardMismatch := by
  refine ⟨fun r page s h => ⟨exec_commit r page s h, fun hr hv => ?_⟩, fun r s h hv => ?_, fun r page s h hp ha hc hnew => ?_,
    fun r page s h => ?_, fun page s h => ?_, fun page s h => ?_⟩
  · rw [exec_commit r page s h, commitOp_invalid hr hv]
  · have hpage : (BitVec.ofNat 20 pgRCL).toNat = pgRCL := by decide
    have hexec := exec_commit r (BitVec.ofNat 20 pgRCL) s (by rwa [hpage])
    rw [hpage, commitOp_rcl hv] at hexec
    refine ⟨_, hexec, ?_⟩
    rw [commitOp_rcl_committed]
  · have hexec := exec_commit r page s h
    rw [commitOp_refused (commitRefused_inService hp ha hc hnew)] at hexec
    exact ⟨_, hexec, getF_setF_same _ _ _ _, rfl, setF_writesIn (atFields_of_mem List.mem_cons_self)⟩
  · exact ⟨_, exec_discard r page s h, discardShadows_shadow _ s, discardShadows_frame _ s⟩
  · exact ⟨_, exec_stateMismatch page s, stateMismatch_differ h⟩
  · exact congrArg Host.Outcome.next (mismatchTick_agree h)

end Sys2Proof.Machine
end

section
/-! # The stacks' packets, watermarks and pins (R361 to R370) -/

namespace Sys2Proof.Machine

/-! ## What a key of another page is -/

theorem not_atFields_page {p q : Nat} {l : List Fld} {g : Fld} (hpq : q ≠ p) (hl : ∀ f ∈ l, f.loc < 2 ^ 20) (hg : g.loc < 2 ^ 20) :
    ¬ AtFields p l (g.key q) := fun hk => hpq ((key_div hg).symm.trans (div_of_atFields hl hk))

theorem passTicks_regs (n : Nat) (s : State) : (passTicks n s).regs = s.regs := by
  unfold passTicks; split <;> rfl

theorem passTicks_clk (n : Nat) (s : State) : (passTicks n s).clk = s.clk + n := by
  unfold passTicks; split <;> rfl

theorem passTicks_stk (n : Nat) (s : State) : (passTicks n s).stk = s.stk := by
  unfold passTicks; split <;> rfl

theorem passTicks_out (n : Nat) (s : State) : (passTicks n s).out = s.out := by
  unfold passTicks; split <;> rfl

theorem advanceTo_stk (t : Nat) (s : State) : (advanceTo t s).stk = s.stk := passTicks_stk _ s

theorem EventsOnly.stk {s t : State} (h : EventsOnly s t) : t.stk = s.stk := by
  unfold EventsOnly at h
  rw [h]

theorem EventsOnly.clk {s t : State} (h : EventsOnly s t) : t.clk = s.clk := by
  unfold EventsOnly at h
  rw [h]

theorem EventsOnly.out {s t : State} (h : EventsOnly s t) : t.out = s.out := by
  unfold EventsOnly at h
  rw [h]

theorem addF_eventsOnly (p : Nat) (f : Fld) (n : Nat) (s : State) : EventsOnly s (addF p f n s) :=
  (setF_regsOnly p f _ s).eventsOnly

theorem subF_eventsOnly (p : Nat) (f : Fld) (n : Nat) (s : State) : EventsOnly s (subF p f n s) :=
  (setF_regsOnly p f _ s).eventsOnly

theorem EventsOnly.ite {s t u : State} {c : Prop} [Decidable c] (h : EventsOnly s t) (k : EventsOnly s u) :
    EventsOnly s (if c then t else u) := by split <;> assumption

/-! ## Queues -/

theorem queueOf_congr {s t : State} (q : Nat) (h : t.stk.queues = s.stk.queues) : queueOf q t = queueOf q s := by
  unfold queueOf; rw [h]

theorem queueOf_setQueue (q : Nat) (x : QueueS) (s : State) : queueOf q (setQueue q x s) = x :=
  (SMap.get_put _ _ _ _ _).trans (if_pos rfl)

theorem queueOf_modQueue (q : Nat) (f : QueueS → QueueS) (s : State) : queueOf q (modQueue q f s) = f (queueOf q s) :=
  queueOf_setQueue q _ s

theorem qClass_port {q : Nat} (h : 272 ≤ q) (h' : q < 288) : qClass q = 6 := by
  unfold qClass
  simp [show ¬ q < 64 by omega, show ¬ q < 128 by omega, show ¬ q < 160 by omega, show ¬ q < 176 by omega,
    show ¬ q < 240 by omega, show ¬ q < 272 by omega, h']

theorem qClass_fw {q : Nat} (h : 288 ≤ q) : qClass q = 7 := by
  unfold qClass
  simp [show ¬ q < 64 by omega, show ¬ q < 128 by omega, show ¬ q < 160 by omega, show ¬ q < 176 by omega,
    show ¬ q < 240 by omega, show ¬ q < 272 by omega, show ¬ q < 288 by omega]

theorem qClass_dch {i : Nat} (h : i < 16) : qClass (qDch i) = 3 := by
  unfold qClass qDch
  simp [show ¬ 160 + i < 64 by omega, show ¬ 160 + i < 128 by omega, show 160 + i < 176 by omega]

/-! ## A pop (R362) -/

/-- the head packet `k` has left queue `q`, `rest` stays behind it. -/
def popped (q : Nat) (k : StkPkt) (rest : List StkPkt) (s : State) : State :=
  addF pgSTK STK.POPS_packets 1 (addF pgSTK STK.FREE_cells k.cells (subF pgSTK STK.HELD_cells k.cells
    (setQueue q { queueOf q s with count := (queueOf q s).count - k.cells, pkts := rest } s)))

section
variable {q : Nat} {k : StkPkt} {rest : List StkPkt} {s : State}

theorem popPkt_of_cons (hp : (queueOf q s).pkts = k :: rest) (hf : (queueOf q s).frozen = false) :
    popPkt q s = some (k, popped q k rest s) := by
  unfold popPkt
  simp only [hp]
  rw [if_neg (by rw [hf]; exact Bool.false_ne_true)]
  rfl

theorem popped_queue :
    queueOf q (popped q k rest s) = { queueOf q s with count := (queueOf q s).count - k.cells, pkts := rest } :=
  queueOf_setQueue q _ s

theorem popped_writesIn {K : Nat → Prop} (h : ∀ f ∈ [STK.POPS_packets, STK.FREE_cells, STK.HELD_cells], K (f.key pgSTK)) :
    WritesIn K s (popped q k rest s) := by
  have hq : WritesIn K s (setQueue q { queueOf q s with count := (queueOf q s).count - k.cells, pkts := rest } s) := .of_eq rfl
  exact ((hq.trans (subF_writesIn (h _ (by simp)))).trans (addF_writesIn (h _ (by simp)))).trans (addF_writesIn (h _ (by simp)))

theorem popped_regsBut : State.regsBut [pgSTK] s (popped q k rest s) :=
  popped_writesIn (by decide)

theorem popped_pops : getF pgSTK STK.POPS_packets (popped q k rest s) = (getF pgSTK STK.POPS_packets s + 1) % 2 ^ 64 := by
  unfold popped
  rw [getF_addF_same, getF_addF_field _ _ _ _ _ (by decide)]
  have hsub : WritesIn (AtFields pgSTK [STK.HELD_cells]) s (subF pgSTK STK.HELD_cells k.cells
      (setQueue q { queueOf q s with count := (queueOf q s).count - k.cells, pkts := rest } s)) :=
    WritesIn.trans (t := setQueue q { queueOf q s with count := (queueOf q s).count - k.cells, pkts := rest } s)
      (.of_eq rfl) (subF_writesIn (atFields_of_mem List.mem_cons_self))
  rw [hsub.getF (not_atFields (by decide))]
  rfl

theorem popped_free : getF pgSTK STK.FREE_cells (popped q k rest s) = (getF pgSTK STK.FREE_cells s + k.cells) % 2 ^ 19 := by
  unfold popped
  rw [getF_addF_field _ _ _ _ _ (by decide), getF_addF_same]
  have hsub : WritesIn (AtFields pgSTK [STK.HELD_cells]) s (subF pgSTK STK.HELD_cells k.cells
      (setQueue q { queueOf q s with count := (queueOf q s).count - k.cells, pkts := rest } s)) :=
    WritesIn.trans (t := setQueue q { queueOf q s with count := (queueOf q s).count - k.cells, pkts := rest } s)
      (.of_eq rfl) (subF_writesIn (atFields_of_mem List.mem_cons_self))
  rw [hsub.getF (not_atFields (by decide))]
  rfl

/-- A port's delivered frame leaves the frames in flight. -/
def portTakes (i : Nat) (s : State) : State := ethDelivered i (subF (pgETH i) ETH.INFLIGHT_frames 1 s)

theorem portTakes_writesIn (i : Nat) : WritesIn (AtFields (pgETH i) [ETH.INFLIGHT_frames, ETH.DELIV_frames]) s (portTakes i s) :=
  (subF_writesIn (atFields_of_mem (by simp))).trans (addF_writesIn (atFields_of_mem (by simp)))

theorem portTakes_stk (i : Nat) : (portTakes i s).stk = s.stk := by
  unfold portTakes ethDelivered
  rw [addF_stk, subF_stk]

theorem portTakes_deliv (i : Nat) :
    getF (pgETH i) ETH.DELIV_frames (portTakes i s) = (getF (pgETH i) ETH.DELIV_frames s + 1) % 2 ^ 64 := by
  unfold portTakes ethDelivered
  rw [getF_addF_same]
  exact congrArg (fun n => (n + 1) % 2 ^ 64) (getF_setF_field _ _ _ _ _ (by decide))

/-- a pop of a control receive queue, or of a queue of the Harlet engine. -/
theorem popOp_port (h : 272 ≤ q) (h' : q < 288) (hk : (q - 272) % 8 ≠ 3 ∧ (q - 272) % 8 ≠ 4)
    (hp : (queueOf q s).pkts = k :: rest) (hf : (queueOf q s).frozen = false) :
    popOp q s = if (q - 272) % 8 < 2 then portTakes ((q - 272) / 8) (popped q k rest s) else popped q k rest s := by
  unfold popOp readerRuns
  simp only [qClass_port h h', popPkt_of_cons hp hf, hk, Bool.not_true, Bool.false_eq_true, if_false, or_self]
  rfl

theorem popOp_fw (h : 288 ≤ q) (hm : k.media = none) (hp : (queueOf q s).pkts = k :: rest) (hf : (queueOf q s).frozen = false) :
    popOp q s = popped q k rest s := by
  unfold popOp readerRuns
  simp only [qClass_fw h, popPkt_of_cons hp hf, hm, Bool.not_true, Bool.false_eq_true, if_false]

end

theorem popOp_dch {i : Nat} {k : StkPkt} {rest : List StkPkt} {pkt : MediaPkt} {b : Bool} {n : Nat} {s : State} (hi : i < 16)
    (hact : act (pgDCH i) s = stRUNNING) (hp : (queueOf (qDch i) s).pkts = k :: rest)
    (hf : (queueOf (qDch i) s).frozen = false) (hm : k.media = some (pkt, b, n)) :
    popOp (qDch i) s = dchDeliver i pkt (popped (qDch i) k rest s) := by
  have hsub : qDch i - 160 = i := Nat.add_sub_cancel_left 160 i
  have hreads : readerRuns (qDch i) s = true := by
    unfold readerRuns queueOwner
    simp only [qClass_dch hi, hsub, Option.any_some, hact, beq_self_eq_true]
  unfold popOp
  simp only [hreads, qClass_dch hi, popPkt_of_cons hp hf, hm, hsub, Bool.not_true, Bool.false_eq_true, if_false]

/-- a frame read into the compressed buffer writes its channel's counters. -/
theorem dchStore_writesIn (i : Nat) (pkt : MediaPkt) (s : State) : WritesIn (AtFields (pgDCH i) [DCH.C_ts_disc]) s (dchStore i pkt s) :=
  WritesIn.trans (t := modDch i (fun x => { x with pkts := _ }) s) (.of_eq rfl) (addF_writesIn (atFields_of_mem (by simp)))

theorem dchStore_stk (i : Nat) (pkt : MediaPkt) (s : State) : (dchStore i pkt s).stk = s.stk := rfl

theorem dchDeliver_stk (i : Nat) (pkt : MediaPkt) (s : State) : (dchDeliver i pkt s).stk = s.stk := dchStore_stk i pkt s

theorem dchDeliver_deliv (i : Nat) (pkt : MediaPkt) (s : State) :
    getF (pgDCH i) (FCNT.deliv (fcBase .video)) (dchDeliver i pkt s) =
      (getF (pgDCH i) (FCNT.deliv (fcBase .video)) s + 1) % 2 ^ 64 := by
  have hflight : getF (pgDCH i) (FCNT.deliv (fcBase .video)) (subF (pgDCH i) (FCNT.inflight (fcBase .video)) 1 (dchStore i pkt s)) =
      getF (pgDCH i) (FCNT.deliv (fcBase .video)) (dchStore i pkt s) := getF_setF_field _ _ _ _ _ (by decide)
  unfold dchDeliver
  simp only []
  rw [getF_addF_same, hflight, (dchStore_writesIn i pkt s).getF (not_atFields (by decide))]
  rfl

theorem dchDeliver_regsBut (i : Nat) (pkt : MediaPkt) (s : State) : State.regsBut [pgDCH i] s (dchDeliver i pkt s) := by
  have hstore := (dchStore_writesIn i pkt s).onPage (by decide)
  have hflight := setF_regsBut (pgDCH i) (FCNT.inflight (fcBase .video))
    (getF (pgDCH i) (FCNT.inflight (fcBase .video)) (dchStore i pkt s) - 1) (dchStore i pkt s) (by decide)
  exact (hstore.trans hflight).trans (addF_regsBut _ _ _ _ (by decide))

/-! ## A commit and the end of a stall (R360, R361) -/

section
variable (q : Nat) (k : StkPkt) (s : State)

/-- the cells of a committed packet are held. -/
def cellsTaken (n : Nat) (s : State) : State := addF pgSTK STK.HELD_cells n (setF pgSTK STK.FREE_cells (freeCells s - n) s)

/-- the packet has joined its queue. -/
def joined : State := modQueue q (fun x => { x with
  count := x.count + k.cells, pkts := x.pkts ++ [k], peak := max x.peak (x.count + k.cells) }) (cellsTaken k.cells s)

/-- what a commit writes: the two accounts, COMMITS, the low mark of FREE, and the event of the pool's alarm. -/
def commitFields : List Fld :=
  [STK.HELD_cells, STK.FREE_cells, STK.COMMITS_packets, STK.FREE_LOW_cells] ++ eventFields 2

theorem commitPkt_stk : (commitPkt q k s).stk = (joined q k s).stk := raiseIf_stk _ _ _ _

theorem commitPkt_clk : (commitPkt q k s).clk = s.clk := raiseIf_clk _ _ _ _

theorem commitPkt_stalls : (commitPkt q k s).stk.stalls = s.stk.stalls := by
  rw [commitPkt_stk]; rfl

theorem commitPkt_queue :
    queueOf q (commitPkt q k s) = { queueOf q s with
      count := (queueOf q s).count + k.cells, pkts := (queueOf q s).pkts ++ [k]
      peak := max (queueOf q s).peak ((queueOf q s).count + k.cells) } := by
  rw [queueOf_congr q (congrArg StkS.queues (commitPkt_stk q k s))]
  exact queueOf_modQueue q _ (cellsTaken k.cells s)

theorem joined_writesIn : WritesIn (AtFields pgSTK [STK.HELD_cells, STK.FREE_cells]) s (joined q k s) :=
  ((setF_writesIn (atFields_of_mem (by simp))).trans (addF_writesIn (atFields_of_mem (by simp)))).trans (.of_eq rfl)

/-- what follows the packet into its queue leaves COMMITS alone. -/
theorem commitPkt_after : WritesIn (AtFields pgSTK ([STK.FREE_LOW_cells] ++ eventFields 2))
    (addF pgSTK STK.COMMITS_packets 1 (joined q k s)) (commitPkt q k s) :=
  (setF_writesIn (atFields_of_mem List.mem_cons_self)).trans (raiseIf_writesIn fun _ hf => atFields_of_mem (List.mem_cons_of_mem _ hf))

theorem commitPkt_commits :
    getF pgSTK STK.COMMITS_packets (commitPkt q k s) = (getF pgSTK STK.COMMITS_packets s + 1) % 2 ^ 64 := by
  rw [(commitPkt_after q k s).getF (not_atFields (by decide)), getF_addF_same, (joined_writesIn q k s).getF (not_atFields (by decide))]
  rfl

theorem commitPkt_writesIn : WritesIn (AtFields pgSTK commitFields) s (commitPkt q k s) := by
  have hjoin := (joined_writesIn q k s).mono fun _ => atFields_mono (m := commitFields) (by simp [commitFields])
  have hcount : WritesIn (AtFields pgSTK commitFields) (joined q k s) (addF pgSTK STK.COMMITS_packets 1 (joined q k s)) :=
    addF_writesIn (atFields_of_mem (by simp [commitFields]))
  have hafter := (commitPkt_after q k s).mono fun _ => atFields_mono (m := commitFields) (by decide)
  exact (hjoin.trans hcount).trans hafter

end

theorem countStall_wstall (side t : Nat) (s : State) :
    getF pgSTK (STK.WSTALL_cycles side) (countStall side t s) =
      (getF pgSTK (STK.WSTALL_cycles side) s + 6 * (s.clk - t)) % 2 ^ 32 :=
  getF_addF_same _ _ _ _

theorem countStall_writesIn (side t : Nat) (s : State) : WritesIn (AtFields pgSTK [STK.WSTALL_cycles side]) s (countStall side t s) :=
  WritesIn.trans (t := { s with stk := { s.stk with alarmed := s.stk.alarmed.filter (· != side) } }) (.of_eq rfl)
    (addF_writesIn (atFields_of_mem (by simp)))

/-- the stall list of write side `side` is empty. -/
def unstalled (side : Nat) (s : State) : State := { s with stk := { s.stk with stalls := SMap.put side [] s.stk.stalls } }

/-- the one packet for which a packetiser's or sender's write side waits is granted its cells. -/
theorem stallEndOp_single {side : Nat} {x : Stall} {s : State} (h2 : 2 ≤ side) (hl : SMap.get [] side s.stk.stalls = [x])
    (hg : grantCells x.queue x.pkt.cells s = true) (hq : x.queue < 176 ∨ 240 ≤ x.queue) :
    stallEndOp side s = countStall side x.since (commitPkt x.queue x.pkt (unstalled side s)) := by
  have hout : ¬ (176 ≤ x.queue ∧ x.queue < 240) := by omega
  unfold stallEndOp
  simp only [Nat.not_lt.2 h2, if_false, hl, List.zipIdx_cons, List.zipIdx_nil, List.find?_cons, hg, List.take_zero, List.any_nil,
    Bool.not_false, Bool.and_self, hout, if_true, List.eraseIdx_cons_zero, List.map_nil]
  rfl

/-! ## Pause frames and pins, which follow congestion (R321, R365 to R367) -/

/-- From `s` to `t` only port `i`'s registers, its own state and what the device sends change. -/
structure PortOnly (i : Nat) (s t : State) : Prop where
  regs : State.regsBut [pgETH i] s t
  stk : t.stk = s.stk

section
variable {i : Nat} {s t u : State}

theorem PortOnly.refl (s : State) : PortOnly i s s := ⟨.refl _ s, rfl⟩

theorem PortOnly.trans (h : PortOnly i s t) (k : PortOnly i t u) : PortOnly i s u := ⟨h.regs.trans k.regs, k.stk.trans h.stk⟩

theorem PortOnly.foldl {α : Type} {g : State → α → State} (hg : ∀ u x, PortOnly i u (g u x)) (l : List α) (s : State) :
    PortOnly i s (l.foldl g s) :=
  List.foldlRecOn (motive := PortOnly i s) l g (.refl s) fun u hu x _ => hu.trans (hg u x)

theorem emit_regsBut (l : List Nat) (k : OutKind) (p : Nat) (d : List Nat) (s : State) : State.regsBut l s (emit k p d s) := .of_eq rfl

theorem ethSent_regsBut (i n bytes : Nat) (s : State) : State.regsBut [pgETH i] s (ethSent i n bytes s) :=
  State.regsBut.trans (addF_regsBut _ _ _ _ (by decide)) (addF_regsBut _ _ _ _ (by decide))

theorem sendPause_portOnly (prio quanta : Nat) (s : State) : PortOnly i s (sendPause i prio quanta s) := by
  unfold sendPause
  refine .foldl (fun u k => ?_) _ s
  have hpause := addF_regsBut (pgETH i) ETH.PAUSE_TX_frames 1 u (by decide)
  have hsent := ethSent_regsBut i 1 64 (addF (pgETH i) ETH.PAUSE_TX_frames 1 u)
  have hstk : (ethSent i 1 64 (addF (pgETH i) ETH.PAUSE_TX_frames 1 u)).stk = u.stk := by
    unfold ethSent
    rw [addF_stk, addF_stk, addF_stk]
  exact ⟨hpause.trans (hsent.trans (emit_regsBut [pgETH i] .pause (pgETH i) [k, prio, quanta] _)), hstk⟩

theorem settleXoff_portOnly (i : Nat) (s : State) : PortOnly i s (settleXoff i s) := by
  have hmod : ∀ (f : EthS → EthS) (u : State), PortOnly i u (modEth i f u) := fun _ _ => ⟨.of_eq rfl, rfl⟩
  have hset : ∀ (v : Nat) (u : State), PortOnly i u (setF (pgETH i) ETH.ST_tx_xoff v u) := fun v u =>
    ⟨setF_regsBut _ _ _ _ (by decide), rfl⟩
  unfold settleXoff
  dsimp only
  refine PortOnly.trans (PortOnly.trans ?_ (PortOnly.foldl ?_ _ _)) (hset _ _)
  · exact .foldl (fun u k => (sendPause_portOnly k _ u).trans (hmod _ _)) _ s
  · exact fun u k => (sendPause_portOnly k _ u).trans (hmod _ _)

end

theorem settlePin_writesIn (n : Nat) (s : State) : WritesIn (AtFields pgSTK [STK.ST_qfc]) s (settlePin n s) := by
  have hdrive : ∀ (v : Nat) (x : StkS), WritesIn (AtFields pgSTK [STK.ST_qfc]) s
      (drivePin n { setF pgSTK STK.ST_qfc v s with stk := x }) := fun v x =>
    (setF_writesIn (f := STK.ST_qfc) (v := v) (atFields_of_mem List.mem_cons_self)).trans (.of_eq rfl)
  unfold settlePin
  exact .ite (.ite (.refl s) (hdrive _ _)) (.ite (hdrive _ s.stk) (.refl s))

theorem settlePin_queues (n : Nat) (s : State) : (settlePin n s).stk.queues = s.stk.queues := by
  unfold settlePin
  simp only []
  split_ifs <;> rfl

/-- what the consumers of congestion write: the ports' pages, and the pins. -/
def CongestionKeys (k : Nat) : Prop := k / 2 ^ 20 ∈ [pgETH 0, pgETH 1] ∨ AtFields pgSTK [STK.ST_qfc] k

theorem settleCongestion_writesIn (s : State) : WritesIn CongestionKeys s (settleCongestion s) := by
  have hpage : ∀ i < 2, pgETH i ∈ [pgETH 0, pgETH 1] := by decide
  have hport : ∀ i < 2, ∀ u, WritesIn CongestionKeys u (settleXoff i u) := fun i hi u =>
    (regsBut_iff.1 (settleXoff_portOnly i u).regs).mono fun k hk => .inl (List.mem_singleton.1 hk ▸ hpage i hi)
  unfold settleCongestion
  exact ((hport 0 (by decide) s).trans (hport 1 (by decide) _)).trans
    (.foldl (fun u n _ => (settlePin_writesIn n u).mono fun _ => .inr) _)

theorem settleCongestion_queues (s : State) : (settleCongestion s).stk.queues = s.stk.queues := by
  unfold settleCongestion
  rw [foldl_keeps (fun s => s.stk.queues) _ (fun u n => settlePin_queues n u), (settleXoff_portOnly 1 _).stk, (settleXoff_portOnly 0 s).stk]

theorem congestionKeys_event {k : Nat} (hk : k < 32) : ¬ CongestionKeys ((HDR.EVENT k).key pgSTK) := by
  have hdiv : (HDR.EVENT k).key pgSTK / 2 ^ 20 = pgSTK := key_div (by rw [event_loc]; omega)
  rintro (h | h)
  · rw [hdiv] at h
    exact absurd h (by decide)
  · refine not_atFields ?_ h
    rw [event_loc]
    have hloc : [STK.ST_qfc].map Fld.loc = [STK.ST_qfc.loc] := rfl
    have hlow : STK.ST_qfc.loc < 128 := by decide
    rw [hloc, List.mem_singleton]
    omega

theorem congestionKeys_page {k : Nat} (h : CongestionKeys k) : k / 2 ^ 20 ∈ [pgSTK, pgETH 0, pgETH 1] := by
  rcases h with h | h
  · exact List.mem_cons_of_mem _ h
  · rw [div_of_atFields (by decide) h]
    exact List.mem_cons_self

/-- a queue's congestion changes, with event `k`; what follows of it is left to the consumers. -/
def markCongested (k q : Nat) (b : Bool) (s : State) : State := raise pgSTK k (modQueue q (fun x => { x with congested := b }) s)

theorem settled_congested (k q : Nat) (b : Bool) (s : State) (hk : k < 32) :
    (queueOf q (settleCongestion (markCongested k q b s))).congested = b ∧
      getF pgSTK (HDR.EVENT k) (settleCongestion (markCongested k q b s)) = 1 ∧
      State.regsBut [pgSTK, pgETH 0, pgETH 1] s (settleCongestion (markCongested k q b s)) := by
  refine ⟨?_, ?_, ?_⟩
  · have hqueue : queueOf q (markCongested k q b s) = queueOf q (modQueue q (fun x => { x with congested := b }) s) :=
      queueOf_congr q (congrArg StkS.queues (raise_stk _ _ _))
    rw [queueOf_congr q (settleCongestion_queues _), hqueue, queueOf_modQueue]
  · rw [(settleCongestion_writesIn _).getF (congestionKeys_event hk)]
    exact raise_event pgSTK k _
  · have hraise : State.regsBut [pgSTK] s (markCongested k q b s) :=
      State.regsBut.trans (t := modQueue q (fun x => { x with congested := b }) s) (.of_eq rfl) (raise_regsBut _ _ _ hk)
    exact (hraise.mono (by simp)).trans ((settleCongestion_writesIn _).mono fun _ => congestionKeys_page)

theorem pinWanted_congr {s t : State} (n : Nat) (h : t.stk = s.stk) : pinWanted n t = pinWanted n s := by
  simp only [pinWanted, knownQueues, qfcPin, queueOf, h]
  rfl

/-- 2ⁿ taken from a number with bit `n` set clears the bit. -/
theorem testBit_sub_two_pow {v n : Nat} (h : v.testBit n = true) : (v - 2 ^ n).testBit n = false := by
  have hle : 2 ^ n ≤ v := Nat.ge_two_pow_of_testBit h
  have hsum := Nat.testBit_two_pow_add_eq (v - 2 ^ n) n
  rw [Nat.add_sub_cancel' hle, h] at hsum
  simpa using hsum

/-- a pin that no queue wants falls once its minimum time has passed. -/
theorem settlePin_falls {n : Nat} {s : State} (hw : pinWanted n s = false) (hv : (getF pgSTK STK.ST_qfc s).testBit n = true)
    (ht : SMap.get 0 n s.stk.qfcAt * 5 + getF pgSTK STK.QFC_CFG_min_ns s ≤ s.clk * 5) :
    settlePin n s = drivePin n (setF pgSTK STK.ST_qfc (getF pgSTK STK.ST_qfc s - 2 ^ n) s) := by
  unfold settlePin
  simp only [hw, hv, ht, Bool.false_eq_true, and_self, if_false, if_true]

theorem SMap.get_of_find {α : Type} {d v : α} {k : Nat} {m : SMap α} (h : SMap.find k m = some v) : SMap.get d k m = v := by
  induction m with
  | nil => exact absurd h (by simp [SMap.find])
  | cons e t ih =>
    obtain ⟨a, w⟩ := e
    unfold SMap.find at h
    unfold SMap.get
    split at h
    next ha => exact (if_pos ha).trans (Option.some.inj h)
    next ha => exact (if_neg ha).trans (ih h)

/-! ## The flush of a disabled queue (R364) -/

theorem flowDrop_eventsOnly (p b reason : Nat) (s : State) : EventsOnly s (flowDrop p b reason s) := by
  unfold flowDrop
  exact .ite ((addF_eventsOnly _ _ _ _).trans (addF_eventsOnly _ _ _ _)) (addF_eventsOnly _ _ _ _)

theorem ethDropped_eventsOnly (i reason : Nat) (s : State) : EventsOnly s (ethDropped i reason s) := by
  unfold ethDropped
  exact .ite ((addF_eventsOnly _ _ _ _).trans (addF_eventsOnly _ _ _ _)) (addF_eventsOnly _ _ _ _)

theorem legDrops_eventsOnly (p leg n : Nat) (s : State) : EventsOnly s (legDrops p leg n s) := by
  unfold legDrops
  exact .ite ((addF_eventsOnly _ _ _ _).trans (raise_eventsOnly _ _ _)) ((addF_eventsOnly _ _ _ _).trans (raise_eventsOnly _ _ _))

theorem queuedDrop_eventsOnly (q reason : Nat) (s : State) : EventsOnly s (queuedDrop q reason s) := by
  have hflow : ∀ p b, EventsOnly s (flowDrop p b reason (subF p (FCNT.inflight b) 1 s)) := fun p b =>
    (subF_eventsOnly _ _ _ _).trans (flowDrop_eventsOnly _ _ _ _)
  unfold queuedDrop
  split
  · exact hflow _ _
  · exact hflow _ _
  · exact hflow _ _
  · exact hflow _ _
  · exact .ite ((subF_eventsOnly _ _ _ _).trans (ethDropped_eventsOnly _ _ _)) (.refl s)
  · exact .refl s

theorem legDropPacket_eventsOnly (q : Nat) (s : State) : EventsOnly s (legDropPacket q s) := by
  unfold legDropPacket
  split
  · exact legDrops_eventsOnly _ _ _ _
  · exact legDrops_eventsOnly _ _ _ _
  · exact .refl s

/-- the fate of a flushed packet is counted; that of a transmit leg's only while its owner runs (R364). -/
def flushFate (q : Nat) (stopped : Bool) (s : State) : State :=
  if q < 176 ∨ qClass q = 6 then queuedDrop q 7 (subF pgSTK STK.POPS_packets 1 s)
  else if stopped then subF pgSTK STK.POPS_packets 1 s
  else legDropPacket q (subF pgSTK STK.POPS_packets 1 s)

theorem flushFate_eventsOnly (q : Nat) (stopped : Bool) (s : State) : EventsOnly s (flushFate q stopped s) :=
  .ite ((subF_eventsOnly _ _ _ _).trans (queuedDrop_eventsOnly _ _ _))
    (.ite (subF_eventsOnly _ _ _ _) ((subF_eventsOnly _ _ _ _).trans (legDropPacket_eventsOnly _ _)))

theorem flushPackets_succ {q n : Nat} {k : StkPkt} {rest : List StkPkt} {s : State} (hp : (queueOf q s).pkts = k :: rest)
    (hf : (queueOf q s).frozen = false) :
    flushPackets q (n + 1) s =
      flushPackets q n (flushFate q ((queueOwner q).any fun p => act p s != stRUNNING) (popped q k rest s)) := by
  rw [flushPackets, popPkt_of_cons hp hf]
  rfl

/-- As many turns as there are packets empty a queue that is not frozen, and take no time. -/
theorem flushPackets_empties {q : Nat} (l : List StkPkt) (s : State) (hp : (queueOf q s).pkts = l)
    (hf : (queueOf q s).frozen = false) :
    (queueOf q (flushPackets q l.length s)).pkts = [] ∧ (flushPackets q l.length s).clk = s.clk ∧
      (flushPackets q l.length s).out = s.out := by
  induction l generalizing s with
  | nil => exact ⟨hp, rfl, rfl⟩
  | cons k rest ih =>
    have hfate := flushFate_eventsOnly q ((queueOwner q).any fun p => act p s != stRUNNING) (popped q k rest s)
    have hqueue := queueOf_congr q (congrArg StkS.queues hfate.stk)
    have hnext := ih _ (by rw [hqueue, popped_queue]) (by rw [hqueue, popped_queue]; exact hf)
    rw [hfate.clk, hfate.out] at hnext
    rw [List.length_cons, flushPackets_succ hp hf]
    exact hnext

end Sys2Proof.Machine
end

section
namespace Sys2Proof.Machine

/-! ## The commands -/

/-- a pop of a control receive or a firmware queue that holds a packet (R362). -/
theorem popOp_front {q : Nat} {k : StkPkt} {rest : List StkPkt} {s : State} (hp : (queueOf q s).pkts = k :: rest)
    (hf : (queueOf q s).frozen = false) (h : 272 ≤ q) (hk : q < 288 → (q - 272) % 8 ≠ 3 ∧ (q - 272) % 8 ≠ 4) (hm : k.media = none) :
    popOp q s = if q < 288 ∧ (q - 272) % 8 < 2 then portTakes ((q - 272) / 8) (popped q k rest s) else popped q k rest s := by
  by_cases h' : q < 288
  · rw [popOp_port h h' (hk h') hp hf]
    simp only [h', true_and]
  · rw [popOp_fw (Nat.not_lt.1 h') hm hp hf, if_neg fun hc => h' hc.1]

theorem popOp_moves {q : Nat} {k : StkPkt} {rest : List StkPkt} {s : State} (hp : (queueOf q s).pkts = k :: rest)
    (hf : (queueOf q s).frozen = false) (h : 272 ≤ q) (hk : q < 288 → (q - 272) % 8 ≠ 3 ∧ (q - 272) % 8 ≠ 4) (hm : k.media = none) :
    (popOp q s).stk = (popped q k rest s).stk ∧
      ∀ f : Fld, f.loc < 2 ^ 20 → getF pgSTK f (popOp q s) = getF pgSTK f (popped q k rest s) := by
  rw [popOp_front hp hf h hk hm]
  split
  next hport =>
    have hpage : pgSTK ≠ pgETH ((q - 272) / 8) := by unfold pgSTK pgETH; omega
    have hstk : (portTakes ((q - 272) / 8) (popped q k rest s)).stk = (popped q k rest s).stk := portTakes_stk _
    exact ⟨hstk, fun f hf => (portTakes_writesIn _).getF (not_atFields_page hpage (by decide) hf)⟩
  next => exact ⟨rfl, fun _ _ => rfl⟩

theorem countStall_stk (side t : Nat) (s : State) :
    (countStall side t s).stk = { s.stk with alarmed := s.stk.alarmed.filter (· != side) } := addF_stk _ _ _ _

theorem countStall_stalls (side t : Nat) (s : State) : (countStall side t s).stk.stalls = s.stk.stalls := by
  rw [countStall_stk]

theorem countStall_queue (q side t : Nat) (s : State) : queueOf q (countStall side t s) = queueOf q s :=
  by
  refine queueOf_congr q ?_
  rw [countStall_stk]

/-- a stalled transmit side granted its cells commits and counts its stall (R361). -/
theorem stallEnd_commits {side : Fin 6} {x : Stall} {s : State} (h2 : 2 ≤ side.val) (hl : SMap.get [] side.val s.stk.stalls = [x])
    (hg : grantCells x.queue x.pkt.cells s = true) (hq : x.queue < 176 ∨ 240 ≤ x.queue) :
    ∃ t, exec (.stallEnd side) s = .next t ∧ SMap.get [] side.val t.stk.stalls = [] ∧
      (queueOf x.queue t).pkts = (queueOf x.queue s).pkts ++ [x.pkt] ∧
      getF pgSTK STK.COMMITS_packets t = (getF pgSTK STK.COMMITS_packets s + 1) % 2 ^ 64 ∧
      getF pgSTK (STK.WSTALL_cycles side.val) t =
        (getF pgSTK (STK.WSTALL_cycles side.val) s + 6 * (s.clk - x.since)) % 2 ^ 32 ∧ State.regsBut [pgSTK] s t := by
  have hwstall : ∀ n < 6, (STK.WSTALL_cycles n).loc ∉ commitFields.map Fld.loc := by decide
  have hcommits : ∀ n < 6, STK.COMMITS_packets.loc ∉ [STK.WSTALL_cycles n].map Fld.loc := by decide
  have hloc : ∀ n < 6, ∀ f ∈ [STK.WSTALL_cycles n], f.loc < 2 ^ 20 := by decide
  have hfrom : ∀ f, getF pgSTK f (unstalled side.val s) = getF pgSTK f s := fun _ => rfl
  have hcommit := commitPkt_writesIn x.queue x.pkt (unstalled side.val s)
  have hcount := countStall_writesIn side.val x.since (commitPkt x.queue x.pkt (unstalled side.val s))
  refine ⟨_, congrArg Host.Outcome.next (stallEndOp_single h2 hl hg hq), ?_, ?_, ?_, ?_, ?_⟩
  · rw [countStall_stalls, commitPkt_stalls]
    exact (SMap.get_put _ _ _ _ _).trans (if_pos rfl)
  · rw [countStall_queue, commitPkt_queue]
    exact congrArg (fun x : QueueS => x.pkts ++ _) (queueOf_congr (s := s) (t := unstalled side.val s) x.queue rfl)
  · rw [hcount.getF (not_atFields (hcommits _ side.isLt)), commitPkt_commits, hfrom]
  · rw [countStall_wstall, commitPkt_clk, hcommit.getF (not_atFields (hwstall _ side.isLt)), hfrom]
    rfl
  · have hstart : State.regsBut [pgSTK] s (unstalled side.val s) := .of_eq rfl
    have hcommitPage := hcommit.onPage (by decide)
    have hcountPage := hcount.onPage (hloc _ side.isLt)
    exact (hstart.trans hcommitPage).trans hcountPage

/-- the pin's minimum time is over, and nothing wants it (R367). -/
theorem qfcMinHoldExpiry_falls {pin : Fin 4} {a : Nat} {s : State} (ha : SMap.find pin.val s.stk.qfcAt = some a)
    (hw : pinWanted pin.val s = false) (hv : (getF pgSTK STK.ST_qfc s).testBit pin.val = true) :
    ∃ t, exec (.qfcMinHoldExpiry pin) s = .next t ∧ (getF pgSTK STK.ST_qfc t).testBit pin.val = false ∧
      5 * a + getF pgSTK STK.QFC_CFG_min_ns s ≤ 5 * t.clk ∧ State.fieldsBut pgSTK [STK.ST_qfc] s t := by
  let u := advanceTo (a + (getF pgSTK STK.QFC_CFG_min_ns s + 4) / 5) s
  have hreg : ∀ f, getF pgSTK f u = getF pgSTK f s := fun f => getF_congr _ _ _ _ (advanceTo_regs _ s)
  have hclk : a + (getF pgSTK STK.QFC_CFG_min_ns s + 4) / 5 ≤ u.clk := by
    rw [advanceTo_clk]
    exact Nat.le_max_right _ _
  have hexec : exec (.qfcMinHoldExpiry pin) s = .next (settlePin pin.val u) := by
    show execQfcMinHoldExpiry pin s = _
    unfold execQfcMinHoldExpiry
    rw [ha]
  have hfalls : settlePin pin.val u = drivePin pin.val (setF pgSTK STK.ST_qfc (getF pgSTK STK.ST_qfc s - 2 ^ pin.val) u) := by
    rw [← hreg STK.ST_qfc]
    refine settlePin_falls ((pinWanted_congr _ (advanceTo_stk _ s)).trans hw) (by rwa [hreg]) ?_
    rw [hreg, show u.stk = s.stk from advanceTo_stk _ s, SMap.get_of_find ha]
    omega
  refine ⟨_, hexec, ?_, ?_, ?_⟩
  · have hwidth : pin.val < STK.ST_qfc.width := pin.isLt
    rw [hfalls]
    have hval : getF pgSTK STK.ST_qfc (drivePin pin.val (setF pgSTK STK.ST_qfc (getF pgSTK STK.ST_qfc s - 2 ^ pin.val) u)) =
        (getF pgSTK STK.ST_qfc s - 2 ^ pin.val) % 2 ^ STK.ST_qfc.width := getF_setF_same _ _ _ _
    rw [hval, Nat.testBit_mod_two_pow, testBit_sub_two_pow hv, Bool.and_false]
  · rw [hfalls]
    have hkeep : (drivePin pin.val (setF pgSTK STK.ST_qfc (getF pgSTK STK.ST_qfc s - 2 ^ pin.val) u)).clk = u.clk := rfl
    rw [hkeep]
    omega
  · exact WritesIn.trans (t := u) (.of_eq (advanceTo_regs _ s)) (settlePin_writesIn pin.val u)

/-- a disabled queue is flushed, 48 cells in a tick (R364). -/
theorem queueFlush_empties {q : Fin 1024} {s : State} (he : queueEnabled q.val s = false) (hp : (queueOf q.val s).pkts ≠ [])
    (hf : (queueOf q.val s).frozen = false) :
    ∃ t, exec (.queueFlush q) s = .next t ∧ (queueOf q.val t).pkts = [] ∧
      t.clk = s.clk + ((queueOf q.val s).count + 47) / 48 ∧ t.out = s.out := by
  have hqueue := queueOf_congr q.val (congrArg StkS.queues (passTicks_stk (((queueOf q.val s).count + 47) / 48) s))
  obtain ⟨hempty, hclk, hout⟩ := flushPackets_empties (queueOf q.val s).pkts (passTicks (((queueOf q.val s).count + 47) / 48) s)
    (by rw [hqueue]) (by rw [hqueue, hf])
  refine ⟨_, if_neg ?_, hempty, ?_, ?_⟩
  · rw [he]
    simp [hp]
  · rw [hclk, passTicks_clk]
  · rw [hout, passTicks_out]

/-- a stall that has lasted stall_us is reported (R370). -/
theorem poolStallAlarm_raises {side : Fin 6} {a : Nat} {s : State} (ha : stalledSince side.val s = some a)
    (hn : s.stk.alarmed.contains side.val = false) :
    ∃ t, exec (.poolStallAlarm side) s = .next t ∧ a + getF pgSTK STK.POOL_ALARM_stall_us s * tickUs ≤ t.clk ∧
      getF pgSTK (HDR.EVENT 3) t = 1 ∧ side.val ∈ t.stk.alarmed ∧ State.regsBut [pgSTK] s t := by
  let u := advanceTo (a + getF pgSTK STK.POOL_ALARM_stall_us s * tickUs) s
  let v : State := { u with stk := { u.stk with alarmed := side.val :: u.stk.alarmed } }
  have hexec : exec (.poolStallAlarm side) s = .next (raise pgSTK 3 v) := by
    show execPoolStallAlarm side s = _
    unfold execPoolStallAlarm
    rw [ha]
    exact if_neg (by rw [hn]; exact Bool.false_ne_true)
  refine ⟨_, hexec, ?_, raise_event pgSTK 3 v, ?_, ?_⟩
  · have hclk : u.clk = max s.clk (a + getF pgSTK STK.POOL_ALARM_stall_us s * tickUs) := advanceTo_clk _ s
    rw [raise_clk]
    exact hclk ▸ Nat.le_max_right _ _
  · rw [raise_stk]
    exact List.mem_cons_self
  · exact State.regsBut.trans (t := v) (.of_eq (advanceTo_regs _ s)) (raise_regsBut pgSTK 3 v (by decide))

/-- Settles O40: packets popped and granted, congestion, pins, flushes and stall alarms, command by command. -/
theorem stackQueuesAndPackets : Obligations.StackQueuesAndPackets := by
  refine ⟨fun q x rest s hp hf h hk hm => ?_, fun i q x rest pkt b n s hq hact hp hf hm => ?_, fun side x s h2 hl hg hq => ?_,
    fun q s => ⟨fun hhigh hc => ?_, fun hlow hc => ?_⟩, fun pin a s ha hw hv => ?_, fun q s he hp hf => ?_, fun side a s ha hn => ?_⟩
  · obtain ⟨hstk, hreg⟩ := popOp_moves hp hf h hk hm
    have hqueue := (queueOf_congr q.val (congrArg StkS.queues hstk)).trans popped_queue
    refine ⟨_, rfl, by rw [hqueue], by rw [hqueue], ?_, ?_, fun i k hi hk2 hport => ?_⟩
    · rw [hreg _ (by decide), popped_pops]
    · rw [hreg _ (by decide), popped_free]
    · have hpage : pgETH i ≠ pgSTK := by unfold pgSTK pgETH; omega
      have hkeep : getF (pgETH i) ETH.DELIV_frames (popped q.val x rest s) = getF (pgETH i) ETH.DELIV_frames s :=
        (popped_writesIn (K := AtFields pgSTK [STK.POPS_packets, STK.FREE_cells, STK.HELD_cells])
          (fun _ => atFields_of_mem)).getF (not_atFields_page hpage (by decide) (by decide))
      unfold qPort at hport
      have hcond : q.val < 288 ∧ (q.val - 272) % 8 < 2 := by omega
      have hi' : (q.val - 272) / 8 = i := by omega
      rw [popOp_front hp hf h hk hm, if_pos hcond, hi', portTakes_deliv, hkeep]
  · rw [hq] at hp hf ⊢
    have hexec : exec (.pop q) s = .next (popOp (qDch i.val) s) := congrArg (fun n => Host.Outcome.next (popOp n s)) hq
    have hpage : pgDCH i.val ≠ pgSTK := by unfold pgDCH pgSTK; omega
    have hkeep : getF (pgDCH i.val) (FCNT.deliv (fcBase .video)) (popped (qDch i.val) x rest s) =
        getF (pgDCH i.val) (FCNT.deliv (fcBase .video)) s :=
      (popped_writesIn (K := AtFields pgSTK [STK.POPS_packets, STK.FREE_cells, STK.HELD_cells])
        (fun _ => atFields_of_mem)).getF (not_atFields_page hpage (by decide) (by decide))
    rw [popOp_dch i.isLt hact hp hf hm] at hexec
    refine ⟨_, hexec, ?_, ?_, ?_⟩
    · rw [queueOf_congr _ (congrArg StkS.queues (dchDeliver_stk _ _ _)), popped_queue]
    · rw [dchDeliver_deliv, hkeep]
    · exact (popped_regsBut.mono (by simp)).trans ((dchDeliver_regsBut _ _ _).mono (by simp))
  · exact stallEnd_commits h2 hl hg hq
  · have hover : (overHigh q.val s && !(queueOf q.val s).congested) = true := by
      unfold overHigh
      simp only [hhigh, hc, decide_true, Bool.not_false, Bool.and_self]
    exact ⟨_, if_pos hover, settled_congested 0 q.val true s (by decide)⟩
  · have hunder : (underLow q.val s && (queueOf q.val s).congested) = true := by
      unfold underLow
      simp only [hlow, hc, decide_true, Bool.and_self]
    exact ⟨_, if_pos hunder, settled_congested 1 q.val false s (by decide)⟩
  · exact qfcMinHoldExpiry_falls ha hw hv
  · exact queueFlush_empties he hp hf
  · have hset : stalledSince side.val s = some a ∧ s.stk.alarmed.contains side.val = false :=
      ⟨ha, by simpa using hn⟩
    exact poolStallAlarm_raises hset.1 hset.2

end Sys2Proof.Machine
end

section
/-! # Frames that a port receives (R317 to R319, R326, R327, R361) -/

namespace Sys2Proof.Machine

/-- a field whose place in a page is none of those of `l` is written on no page. -/
theorem not_atFields_off {p q : Nat} {l : List Fld} {f : Fld} (hl : ∀ g ∈ l, g.loc < 2 ^ 20) (hf : f.loc < 2 ^ 20)
    (h : f.loc ∉ l.map Fld.loc) : ¬ AtFields p l (f.key q) := by
  intro hk
  obtain ⟨g, hg, hkey⟩ := List.mem_map.1 hk
  have hloc : g.loc = f.loc := by rw [← key_mod (p := p) (hl g hg), hkey, key_mod hf]
  exact h (hloc ▸ List.mem_map_of_mem hg)

/-! ## What R358 reads -/

/-- the fields by which a queue's owner enables it (R357). -/
def enableFields : List Fld :=
  [HDR.ACT_state, ING.VFMT_v_en, ING.AFMT_a_en, ING.ANC_anc_en, MATCH.en 0x200, MATCH.en 0x240, OLEG.en 0x180, OLEG.en 0x1C0]

section
variable {s t : State}

theorem knownQueues_congr (h : t.stk.queues = s.stk.queues) : knownQueues t = knownQueues s := by
  unfold knownQueues; rw [h]

/-- the leg of an output or sender queue. -/
theorem qClass_leg {q : Nat} : (qClass q = 4 → (q - 176) / 32 < 2) ∧ (qClass q = 5 → (q - 240) / 16 < 2) := by
  unfold qClass
  split_ifs <;> constructor <;> intro h <;> omega

theorem queueEnabled_congr (h : ∀ f ∈ enableFields, ∀ p, getF p f t = getF p f s) (hq : t.stk.queues = s.stk.queues) (q : Nat) :
    queueEnabled q t = queueEnabled q s := by
  have hact : ∀ p, act p t = act p s := h _ (by simp [enableFields])
  have hvideo : ∀ p, isF p ING.VFMT_v_en t = isF p ING.VFMT_v_en s := fun p => congrArg (· == 1) (h _ (by simp [enableFields]) p)
  have haudio : ∀ p, isF p ING.AFMT_a_en t = isF p ING.AFMT_a_en s := fun p => congrArg (· == 1) (h _ (by simp [enableFields]) p)
  have hanc : ∀ p, isF p ING.ANC_anc_en t = isF p ING.ANC_anc_en s := fun p => congrArg (· == 1) (h _ (by simp [enableFields]) p)
  have hmatchA : ∀ p, isF p (MATCH.en 0x200) t = isF p (MATCH.en 0x200) s := fun p =>
    congrArg (· == 1) (h _ (by simp [enableFields]) p)
  have hmatchB : ∀ p, isF p (MATCH.en 0x240) t = isF p (MATCH.en 0x240) s := fun p =>
    congrArg (· == 1) (h _ (by simp [enableFields]) p)
  have hlegs : ∀ n < 2, OLEG.en (0x180 + 0x40 * n) ∈ enableFields := by decide
  have hleg : ∀ n < 2, ∀ p, isF p (OLEG.en (0x180 + 0x40 * n)) t = isF p (OLEG.en (0x180 + 0x40 * n)) s := fun n hn p =>
    congrArg (· == 1) (h _ (hlegs n hn) p)
  unfold queueEnabled
  split
  next => simp only [hvideo, hact]
  next => simp only [haudio, hact]
  next => simp only [hanc, hact]
  next => simp only [hmatchA, hmatchB, hact]
  next hc => simp only [hleg _ (qClass_leg.1 hc), hact]
  next hc => simp only [hleg _ (qClass_leg.2 hc), hact]
  next => simp only [portRuns, hact]
  next => simp only [queueOf_congr q hq]

theorem sharedFree_congr (h : ∀ f ∈ enableFields, ∀ p, getF p f t = getF p f s) (hfree : freeCells t = freeCells s)
    (hq : t.stk.queues = s.stk.queues) : sharedFree t = sharedFree s := by
  have henabled : ∀ q, queueEnabled q t = queueEnabled q s := queueEnabled_congr h hq
  have hqueue : ∀ q, queueOf q t = queueOf q s := fun q => queueOf_congr q hq
  unfold sharedFree reservedFree
  simp only [henabled, hqueue, hfree, knownQueues_congr hq]

theorem grantCells_congr (h : ∀ f ∈ enableFields, ∀ p, getF p f t = getF p f s) (hfree : freeCells t = freeCells s)
    (hq : t.stk.queues = s.stk.queues) (q n : Nat) : grantCells q n t = grantCells q n s := by
  unfold grantCells
  simp only [queueOf_congr q hq, hfree, sharedFree_congr h hfree hq]

end

/-! ## Fates of a frame -/

theorem ethReceived_rx (i : Nat) (s : State) :
    getF (pgETH i) ETH.RX_frames (ethReceived i s) = (getF (pgETH i) ETH.RX_frames s + 1) % 2 ^ 64 := getF_addF_same _ _ _ _

theorem ethReceived_writesIn (i : Nat) (s : State) : WritesIn (AtFields (pgETH i) [ETH.RX_frames]) s (ethReceived i s) :=
  addF_writesIn (atFields_of_mem List.mem_cons_self)

theorem ethDropped_drop (i reason : Nat) (s : State) :
    getF (pgETH i) ETH.DROP_frames (ethDropped i reason s) = (getF (pgETH i) ETH.DROP_frames s + 1) % 2 ^ 64 := by
  unfold ethDropped
  simp only []
  split
  · rw [getF_addF_field _ _ _ _ _ (by decide), getF_addF_same]
    rfl
  · rw [getF_addF_same]
    rfl

theorem ethDropped_writesIn (i reason : Nat) (s : State) :
    WritesIn (AtFields (pgETH i) [ETH.DROP_frames, ETH.DROP_BY_REASON_frames]) s (ethDropped i reason s) := by
  have hdrop : WritesIn (AtFields (pgETH i) [ETH.DROP_frames, ETH.DROP_BY_REASON_frames]) s (addF (pgETH i) ETH.DROP_frames 1 s) :=
    addF_writesIn (atFields_of_mem (by simp))
  exact .ite (hdrop.trans (addF_writesIn (atFields_of_mem (by simp)))) hdrop

theorem ethDropped_regsOnly (i reason : Nat) (s : State) : RegsOnly s (ethDropped i reason s) := by
  unfold ethDropped
  simp only []
  split
  · exact (setF_regsOnly _ _ _ s).trans (setF_regsOnly _ _ _ _)
  · exact setF_regsOnly _ _ _ s

theorem ethDropped_stk (i reason : Nat) (s : State) : (ethDropped i reason s).stk = s.stk :=
  (ethDropped_eventsOnly i reason s).stk

theorem rewind_writesIn (s : State) : WritesIn (AtFields pgSTK [STK.REWINDS_packets]) s (rewind s) :=
  addF_writesIn (atFields_of_mem List.mem_cons_self)

/-- the frame has come in on port `i`, its codewords counted (R317, R324). -/
def receivedFrame (i : Nat) (f : PortFrame) (s : State) : State :=
  if f.uncorrectable then fecUncorrectable i (addF (pgETH i) ETH.FEC_CORR_codewords f.corrected (ethReceived i s))
  else addF (pgETH i) ETH.FEC_CORR_codewords f.corrected (ethReceived i s)

/-- what the codewords of a frame write besides RX. -/
def codewordFields : List Fld := [ETH.FEC_CORR_codewords, ETH.FEC_UNCORR_codewords] ++ eventFields 6

section
variable {i : Nat} {f : PortFrame} {s : State}

theorem fecUncorrectable_writesIn (s : State) : WritesIn (AtFields (pgETH i) codewordFields) s (fecUncorrectable i s) := by
  have hcount : WritesIn (AtFields (pgETH i) codewordFields) s (addF (pgETH i) ETH.FEC_UNCORR_codewords 1 s) :=
    addF_writesIn (atFields_of_mem (by simp [codewordFields]))
  have hraise : ∀ u, WritesIn (AtFields (pgETH i) codewordFields) u (raise (pgETH i) 6 u) := fun u =>
    raise_writesIn fun _ hf => atFields_of_mem (List.mem_append_right _ hf)
  unfold fecUncorrectable
  exact .ite (hcount.trans (WritesIn.trans (.of_eq rfl) (hraise _))) hcount

theorem receivedFrame_codewords : WritesIn (AtFields (pgETH i) codewordFields) (ethReceived i s) (receivedFrame i f s) := by
  have hcount : WritesIn (AtFields (pgETH i) codewordFields) (ethReceived i s)
      (addF (pgETH i) ETH.FEC_CORR_codewords f.corrected (ethReceived i s)) :=
    addF_writesIn (atFields_of_mem (by simp [codewordFields]))
  exact .ite (hcount.trans (fecUncorrectable_writesIn _)) hcount

theorem receivedFrame_rx :
    getF (pgETH i) ETH.RX_frames (receivedFrame i f s) = (getF (pgETH i) ETH.RX_frames s + 1) % 2 ^ 64 := by
  rw [receivedFrame_codewords.getF (not_atFields (by decide)), ethReceived_rx]

theorem receivedFrame_writesIn :
    WritesIn (AtFields (pgETH i) (ETH.RX_frames :: codewordFields)) s (receivedFrame i f s) :=
  ((ethReceived_writesIn i s).mono fun _ => atFields_mono (by simp)).trans
    (receivedFrame_codewords.mono fun _ => atFields_mono (by simp))

theorem receivedFrame_good (h : f.uncorrectable = false) :
    receivedFrame i f s = addF (pgETH i) ETH.FEC_CORR_codewords f.corrected (ethReceived i s) := by
  unfold receivedFrame
  rw [h]
  rfl

theorem receivedFrame_stk (h : f.uncorrectable = false) : (receivedFrame i f s).stk = s.stk := by
  rw [receivedFrame_good h, addF_stk]
  exact addF_stk _ _ _ _

/-! ## The cases of PORT_FRAME_RECEIVED -/

theorem ethBoundary_idle (h : pendingGen (pgETH i) s = false) : ethBoundary i s = s := by
  unfold ethBoundary
  rw [h]
  rfl

theorem portFrameOp_down (hg : pendingGen (pgETH i) s = false) (hu : portUp i s = false) : portFrameOp i f s = s := by
  unfold portFrameOp
  simp only [ethBoundary_idle hg, hu, Bool.not_false, if_true]

/-- what a queue had taken of a frame that fails a check is rewound. -/
def rewoundFrame (i : Nat) (f : PortFrame) (s : State) : State :=
  if (claimOf i f (receivedFrame i f s)).isSome then rewind (receivedFrame i f s) else receivedFrame i f s

theorem portFrameOp_badFcs (hg : pendingGen (pgETH i) s = false) (hu : portUp i s = true) (hf : f.fcsGood = false) :
    portFrameOp i f s = ethDropped i 1 (rewoundFrame i f s) := by
  unfold portFrameOp
  simp only [ethBoundary_idle hg, hu, hf, Bool.not_true, Bool.not_false, Bool.false_eq_true, if_false, or_true, if_true]
  rfl

theorem claimOf_other (hb : f.body = .other) : claimOf i f s = none := by
  unfold claimOf
  rw [hb]

/-- a frame that nothing claims is dropped. -/
theorem portFrameOp_other (hg : pendingGen (pgETH i) s = false) (hu : portUp i s = true) (hb : f.body = .other)
    (hc : f.uncorrectable = false) : ∃ reason, portFrameOp i f s = ethDropped i reason (receivedFrame i f s) := by
  rw [receivedFrame_good hc]
  unfold portFrameOp
  simp only [ethBoundary_idle hg, hu, hc, claimOf_other hb, Bool.not_true, Bool.false_eq_true, if_false, false_or, Option.isSome_none]
  split
  · exact ⟨1, rfl⟩
  · split
    · exact ⟨2, rfl⟩
    · exact ⟨3, ite_self _⟩

end

section
variable {i : Nat} {f : PortFrame} {s : State}

/-- a raw Harlet frame as it waits for its queue. -/
def harletFrame (i : Nat) (f : PortFrame) (s : State) : WaitFrame :=
  ⟨qPort i 1, none, false, framePrio f, ⟨0, 0, [], [], [], []⟩, 0, f.bytes - 4, s.clk⟩

theorem badHeader_harletRaw (ht : f.tags.length < 2) (hb : f.body = .harletRaw) : badHeader f = false := by
  unfold badHeader
  rw [hb]
  simp only [Bool.or_false, decide_eq_false_iff_not]
  omega

theorem acceptsMac_own (hm : f.dmac.toNat = portMac i s) : acceptsMac i f s = true := by
  unfold acceptsMac
  simp only [hm, beq_self_eq_true, Bool.true_or]

/-- a good raw Harlet frame to the port's own address goes to the port's Harlet queue. -/
theorem portFrameOp_harlet (hg : pendingGen (pgETH i) s = false) (hu : portUp i s = true) (ho : harletOpen i s = true)
    (hc : f.uncorrectable = false) (hf : f.fcsGood = true) (hmin : 64 ≤ f.bytes) (hmax : f.bytes ≤ getF (pgETH i) ETH.MTU_bytes s)
    (ht : f.tags.length < 2) (hm : f.dmac.toNat = portMac i s) (hb : f.body = .harletRaw) :
    portFrameOp i f s = takeFrame i (harletFrame i f (receivedFrame i f s)) (receivedFrame i f s) := by
  have hfields : ∀ g ∈ ETH.RX_frames :: codewordFields, g.loc < 2 ^ 20 := by decide
  have hkeep : ∀ (g : Fld) (p : Nat), g.loc < 2 ^ 20 → g.loc ∉ (ETH.RX_frames :: codewordFields).map Fld.loc →
      getF p g (receivedFrame i f s) = getF p g s := fun g p hg h => receivedFrame_writesIn.getF (not_atFields_off hfields hg h)
  have hmac : f.dmac.toNat = portMac i (receivedFrame i f s) := by
    rw [hm, portMac, portMac, hkeep ETH.MAC_HI_mac _ (by decide) (by decide), hkeep ETH.MAC_LO_mac _ (by decide) (by decide)]
  have hopen : harletOpen i (receivedFrame i f s) = true := by
    have hA := hkeep HAP.PORT_EN_a pgHAP (by decide) (by decide)
    have hB := hkeep HAP.PORT_EN_b pgHAP (by decide) (by decide)
    have hM := hkeep HAP.PORT_EN_m pgHAP (by decide) (by decide)
    rw [← ho]
    unfold harletOpen isF
    split_ifs
    · rw [hA]
    · rw [hB]
    · rw [hM]
  have hclaim : claimOf i f (receivedFrame i f s) = some (qPort i 1, none) := by
    unfold claimOf
    rw [hb]
    exact if_pos hopen
  have hsize : ¬ (f.bytes < 64 ∨ getF (pgETH i) ETH.MTU_bytes s < f.bytes ∨ badHeader f = true) := by
    rw [badHeader_harletRaw ht hb]
    simp only [Bool.false_eq_true, or_false]
    omega
  rw [receivedFrame_good hc] at hclaim hmac ⊢
  unfold portFrameOp
  simp only [ethBoundary_idle hg, hu, hc, hf, hsize, acceptsMac_own hmac, hclaim, Bool.not_true, Bool.false_eq_true, if_false, or_self]
  unfold hostAnswer
  rw [hb]
  rfl

/-- the port counts the frame in flight. -/
def inFlight (i : Nat) (s : State) : State := addF (pgETH i) ETH.INFLIGHT_frames 1 s

/-- without flow control for its priority a frame takes its cells at once (R361). -/
theorem takeFrame_granted {w : WaitFrame} (hfc : underFc i w.prio s = false) (hw : w.flow = none) (hq : w.queue ≠ qPort i 2)
    (hgrant : grantCells w.queue (cellsFor w.bytes) (inFlight i s) = true) :
    takeFrame i w s = commitPkt w.queue ⟨cellsFor w.bytes, none, []⟩ (inFlight i s) := by
  unfold inFlight at *
  unfold takeFrame writeFrame
  simp only [hfc, hw, hq, hgrant, Bool.false_eq_true, false_and, if_false, if_true]

/-- the queue takes none of the frame, which is dropped with reason 0x06. -/
def refusedFrame (i : Nat) (w : WaitFrame) (s : State) : State :=
  subF (pgETH i) ETH.INFLIGHT_frames 1 (rewind (modQueue w.queue (fun x => { x with drops := x.drops + 1 }) (inFlight i s)))

theorem takeFrame_refused {w : WaitFrame} (hfc : underFc i w.prio s = false) (hw : w.flow = none)
    (hgrant : grantCells w.queue (cellsFor w.bytes) (inFlight i s) = false) :
    takeFrame i w s = ethDropped i 6 (refusedFrame i w s) := by
  unfold inFlight at hgrant
  unfold takeFrame writeFrame
  simp only [hfc, hw, hgrant, Bool.false_eq_true, false_and, if_false]
  rfl

theorem inFlight_writesIn (s : State) : WritesIn (AtFields (pgETH i) [ETH.INFLIGHT_frames]) s (inFlight i s) :=
  addF_writesIn (atFields_of_mem List.mem_cons_self)

theorem inFlight_count (s : State) : getF (pgETH i) ETH.INFLIGHT_frames (inFlight i s) =
    (getF (pgETH i) ETH.INFLIGHT_frames s + 1) % 2 ^ ETH.INFLIGHT_frames.width := getF_addF_same _ _ _ _

theorem inFlight_stk (s : State) : (inFlight i s).stk = s.stk := addF_stk _ _ _ _

theorem refusedFrame_writesIn {w : WaitFrame} : WritesIn (fun k => AtFields (pgETH i) [ETH.INFLIGHT_frames] k ∨
    AtFields pgSTK [STK.REWINDS_packets] k) s (refusedFrame i w s) := by
  have hin := (inFlight_writesIn (i := i) s).mono (L := fun k => AtFields (pgETH i) [ETH.INFLIGHT_frames] k ∨
    AtFields pgSTK [STK.REWINDS_packets] k) fun _ => .inl
  have hdrops : ∀ u : State, WritesIn (fun k => AtFields (pgETH i) [ETH.INFLIGHT_frames] k ∨ AtFields pgSTK [STK.REWINDS_packets] k)
      u (modQueue w.queue (fun x => { x with drops := x.drops + 1 }) u) := fun _ => .of_eq rfl
  exact ((hin.trans (hdrops _)).trans ((rewind_writesIn _).mono fun _ => .inr)).trans
    (subF_writesIn (.inl (atFields_of_mem List.mem_cons_self)))

theorem refusedFrame_queue {w : WaitFrame} :
    queueOf w.queue (refusedFrame i w s) = { queueOf w.queue s with drops := (queueOf w.queue s).drops + 1 } := by
  have hstk : (refusedFrame i w s).stk = (modQueue w.queue (fun x => { x with drops := x.drops + 1 }) (inFlight i s)).stk := by
    unfold refusedFrame rewind
    rw [subF_stk, addF_stk]
  rw [queueOf_congr _ (congrArg StkS.queues hstk), queueOf_modQueue, queueOf_congr _ (congrArg StkS.queues (inFlight_stk s))]

theorem refusedFrame_rewinds {w : WaitFrame} (hi : pgSTK ≠ pgETH i) :
    getF pgSTK STK.REWINDS_packets (refusedFrame i w s) = (getF pgSTK STK.REWINDS_packets s + 1) % 2 ^ 32 := by
  have hsub : ∀ u, getF pgSTK STK.REWINDS_packets (subF (pgETH i) ETH.INFLIGHT_frames 1 u) = getF pgSTK STK.REWINDS_packets u :=
    fun u => getF_setF_page _ _ _ _ _ _ hi (by decide) (by decide)
  have hrewind : ∀ u, getF pgSTK STK.REWINDS_packets (rewind u) = (getF pgSTK STK.REWINDS_packets u + 1) % 2 ^ 32 := fun u =>
    getF_addF_same _ _ _ _
  have hdrops : ∀ u : State, getF pgSTK STK.REWINDS_packets (modQueue w.queue (fun x => { x with drops := x.drops + 1 }) u) =
      getF pgSTK STK.REWINDS_packets u := fun u => getF_congr _ _ _ _ rfl
  unfold refusedFrame
  rw [hsub, hrewind, hdrops, (inFlight_writesIn s).getF (not_atFields_page hi (by decide) (by decide))]

end

end Sys2Proof.Machine
end

section
namespace Sys2Proof.Machine

/-! ## A raw Harlet frame on ports A and B -/

section
variable {i : Nat} {f : PortFrame} {s : State}

/-- what the arrival of a frame writes before its queue takes it. -/
def arrivalFields : List Fld := ETH.INFLIGHT_frames :: ETH.RX_frames :: codewordFields

theorem arrival_writesIn :
    WritesIn (AtFields (pgETH i) arrivalFields) s (inFlight i (receivedFrame i f s)) :=
  (receivedFrame_writesIn.mono fun _ => atFields_mono (by simp [arrivalFields])).trans
    ((inFlight_writesIn _).mono fun _ => atFields_mono (by simp [arrivalFields]))

theorem underFc_congr {t : State} {prio : Nat} (hmode : getF (pgETH i) ETH.FC_mode t = getF (pgETH i) ETH.FC_mode s)
    (hpfc : getF (pgETH i) ETH.FC_pfc_en t = getF (pgETH i) ETH.FC_pfc_en s) : underFc i prio t = underFc i prio s := by
  unfold underFc
  rw [hmode, hpfc]

theorem underFc_received (prio : Nat) : underFc i prio (receivedFrame i f s) = underFc i prio s :=
  underFc_congr (receivedFrame_writesIn.getF (not_atFields (by decide))) (receivedFrame_writesIn.getF (not_atFields (by decide)))

theorem arrival_stk (h : f.uncorrectable = false) : (inFlight i (receivedFrame i f s)).stk = s.stk := by
  rw [inFlight_stk, receivedFrame_stk h]

/-- the arrival of a frame changes nothing that R358 reads. -/
theorem grantCells_arrival (h : f.uncorrectable = false) (q n : Nat) :
    grantCells q n (inFlight i (receivedFrame i f s)) = grantCells q n s := by
  have hlow : ∀ g ∈ arrivalFields, g.loc < 2 ^ 20 := by decide
  have hoff : ∀ g ∈ enableFields, g.loc < 2 ^ 20 ∧ g.loc ∉ arrivalFields.map Fld.loc := by decide
  have hfree : freeCells (inFlight i (receivedFrame i f s)) = freeCells s :=
    arrival_writesIn.getF (not_atFields_off hlow (by decide) (by decide))
  exact grantCells_congr (fun g hg p => arrival_writesIn.getF (not_atFields_off hlow (hoff g hg).1 (hoff g hg).2)) hfree
    (congrArg StkS.queues (arrival_stk h)) q n

theorem pgSTK_ne_pgETH (hi : i < 3) : pgSTK ≠ pgETH i := by unfold pgSTK pgETH; omega

/-- the port's counters after the frame has come in. -/
theorem arrival_counts :
    getF (pgETH i) ETH.RX_frames (inFlight i (receivedFrame i f s)) = (getF (pgETH i) ETH.RX_frames s + 1) % 2 ^ 64 ∧
      getF (pgETH i) ETH.INFLIGHT_frames (inFlight i (receivedFrame i f s)) =
        (getF (pgETH i) ETH.INFLIGHT_frames s + 1) % 2 ^ ETH.INFLIGHT_frames.width := by
  constructor
  · rw [(inFlight_writesIn _).getF (not_atFields (by decide)), receivedFrame_rx]
  · rw [inFlight_count, receivedFrame_writesIn.getF (not_atFields (by decide))]

/-- the frame is committed to the Harlet queue. -/
theorem arrival_committed (hi : i < 2) (hc : f.uncorrectable = false) (q : Nat) (k : StkPkt) :
    getF (pgETH i) ETH.RX_frames (commitPkt q k (inFlight i (receivedFrame i f s))) =
        (getF (pgETH i) ETH.RX_frames s + 1) % 2 ^ 64 ∧
      getF (pgETH i) ETH.INFLIGHT_frames (commitPkt q k (inFlight i (receivedFrame i f s))) =
        (getF (pgETH i) ETH.INFLIGHT_frames s + 1) % 2 ^ ETH.INFLIGHT_frames.width ∧
      getF (pgETH i) ETH.DROP_frames (commitPkt q k (inFlight i (receivedFrame i f s))) = getF (pgETH i) ETH.DROP_frames s ∧
      (queueOf q (commitPkt q k (inFlight i (receivedFrame i f s)))).pkts = (queueOf q s).pkts ++ [k] ∧
      getF pgSTK STK.COMMITS_packets (commitPkt q k (inFlight i (receivedFrame i f s))) =
        (getF pgSTK STK.COMMITS_packets s + 1) % 2 ^ 64 := by
  have hpage := pgSTK_ne_pgETH (i := i) (by omega)
  have hport : ∀ g : Fld, g.loc < 2 ^ 20 →
      getF (pgETH i) g (commitPkt q k (inFlight i (receivedFrame i f s))) = getF (pgETH i) g (inFlight i (receivedFrame i f s)) :=
    fun g hg => (commitPkt_writesIn q k _).getF (not_atFields_page hpage.symm (by decide) hg)
  obtain ⟨hrx, hflight⟩ := arrival_counts (i := i) (f := f) (s := s)
  refine ⟨?_, ?_, ?_, ?_, ?_⟩
  · rw [hport _ (by decide), hrx]
  · rw [hport _ (by decide), hflight]
  · rw [hport _ (by decide), arrival_writesIn.getF (not_atFields (by decide))]
  · rw [commitPkt_queue, queueOf_congr q (congrArg StkS.queues (arrival_stk hc))]
  · rw [commitPkt_commits, arrival_writesIn.getF (not_atFields_page hpage (by decide) (by decide))]

/-- the queue refuses the frame's cells (R361). -/
theorem arrival_refused {w : WaitFrame} (hi : i < 2) (hc : f.uncorrectable = false) :
    getF (pgETH i) ETH.DROP_frames (ethDropped i 6 (refusedFrame i w (receivedFrame i f s))) =
        (getF (pgETH i) ETH.DROP_frames s + 1) % 2 ^ 64 ∧
      (queueOf w.queue (ethDropped i 6 (refusedFrame i w (receivedFrame i f s)))).pkts = (queueOf w.queue s).pkts ∧
      getF pgSTK STK.REWINDS_packets (ethDropped i 6 (refusedFrame i w (receivedFrame i f s))) =
        (getF pgSTK STK.REWINDS_packets s + 1) % 2 ^ 32 := by
  have hpage := pgSTK_ne_pgETH (i := i) (by omega)
  refine ⟨?_, ?_, ?_⟩
  · have hoff : ¬ (AtFields (pgETH i) [ETH.INFLIGHT_frames] (ETH.DROP_frames.key (pgETH i)) ∨
        AtFields pgSTK [STK.REWINDS_packets] (ETH.DROP_frames.key (pgETH i))) :=
      not_or.2 ⟨not_atFields (by decide), not_atFields_page hpage.symm (by decide) (by decide)⟩
    rw [ethDropped_drop, refusedFrame_writesIn.getF hoff, receivedFrame_writesIn.getF (not_atFields (by decide))]
  · rw [queueOf_congr _ (congrArg StkS.queues (ethDropped_stk i 6 _)), refusedFrame_queue,
      queueOf_congr _ (congrArg StkS.queues (receivedFrame_stk hc))]
  · rw [(ethDropped_writesIn i 6 _).getF (not_atFields_page hpage (by decide) (by decide)), refusedFrame_rewinds hpage,
      receivedFrame_writesIn.getF (not_atFields_page hpage (by decide) (by decide))]

/-! ## A frame with a bad FCS -/

theorem rewoundFrame_writesIn : WritesIn (AtFields pgSTK [STK.REWINDS_packets]) (receivedFrame i f s) (rewoundFrame i f s) :=
  .ite (rewind_writesIn _) (.refl _)

theorem rewoundFrame_counts (hi : i < 2) (g : Fld) (hg : g.loc < 2 ^ 20) :
    getF (pgETH i) g (rewoundFrame i f s) = getF (pgETH i) g (receivedFrame i f s) :=
  rewoundFrame_writesIn.getF (not_atFields_page (pgSTK_ne_pgETH (i := i) (by omega)).symm (by decide) hg)

/-! ## Port M -/

theorem portMFrameOp_down (hg : pendingGen (pgETH 2) s = false) (hu : portUp 2 s = false) : portMFrameOp f s = s := by
  unfold portMFrameOp
  simp only [ethBoundary_idle hg, hu, Bool.not_false, if_true]

/-- nothing on port M claims a damaged frame, nor one of another protocol. -/
theorem portMFrameOp_dropped (hg : pendingGen (pgETH 2) s = false) (hu : portUp 2 s = true) (h : f.fcsGood = false ∨ f.body = .other) :
    ∃ reason, portMFrameOp f s = ethDropped 2 reason (ethReceived 2 s) := by
  unfold portMFrameOp
  simp only [ethBoundary_idle hg, hu, Bool.not_true, Bool.false_eq_true, if_false]
  by_cases hbad : f.fcsGood = false
  · exact ⟨1, if_pos (.inl (by rw [hbad]; rfl))⟩
  · rw [h.resolve_left hbad]
    split
    · exact ⟨1, rfl⟩
    · split
      · exact ⟨2, rfl⟩
      · exact ⟨3, ite_self _⟩

theorem portMFrameOp_harlet (hg : pendingGen (pgETH 2) s = false) (hu : portUp 2 s = true) (ho : harletOpen 2 s = true)
    (hc : f.uncorrectable = false) (hf : f.fcsGood = true) (hmin : 64 ≤ f.bytes) (hmax : f.bytes ≤ getF (pgETH 2) ETH.MTU_bytes s)
    (ht : f.tags.length < 2) (hm : f.dmac.toNat = portMac 2 s) (hb : f.body = .harletRaw) :
    portMFrameOp f s = inFlight 2 (ethReceived 2 s) := by
  have hmac : f.dmac.toNat = portMac 2 (ethReceived 2 s) := by
    rw [hm, portMac, portMac, (ethReceived_writesIn 2 s).getF (not_atFields (by decide)),
      (ethReceived_writesIn 2 s).getF (not_atFields (by decide))]
  have hsize : ¬ (f.bytes < 64 ∨ getF (pgETH 2) ETH.MTU_bytes s < f.bytes ∨ badHeader f = true) := by
    rw [badHeader_harletRaw ht hb]
    simp only [Bool.false_eq_true, or_false]
    omega
  unfold portMFrameOp
  simp only [ethBoundary_idle hg, hu, hc, hf, hsize, acceptsMac_own hmac, hb, ho, Bool.not_true, Bool.false_eq_true, if_false, or_self,
    if_true]
  rfl

end

/-- Settles O36: the fate of a frame on ports A, B and M, by the check that decides it. -/
theorem portFramesReceived : Obligations.PortFramesReceived := by
  refine ⟨fun i f s hg hu hf => ?_, fun i f s hg hu hb hc => ?_, fun i f s hg hu ho hc hf hmin hmax ht hm hb hfc => ?_,
    fun f s hg hu => ⟨fun h => ?_, fun ho hc hf hmin hmax ht hm hb => ?_⟩, fun i f s => ⟨fun hg hu => ?_, fun hg hu => ?_⟩⟩
  · refine ⟨_, congrArg Host.Outcome.next (portFrameOp_badFcs hg hu hf), ?_, ?_, ?_, ?_⟩
    · rw [(ethDropped_writesIn _ _ _).getF (not_atFields (by decide)), rewoundFrame_counts i.isLt _ (by decide), receivedFrame_rx]
    · rw [ethDropped_drop, rewoundFrame_counts i.isLt _ (by decide), receivedFrame_writesIn.getF (not_atFields (by decide))]
    · rw [(ethDropped_writesIn _ _ _).getF (not_atFields (by decide)), rewoundFrame_counts i.isLt _ (by decide),
        receivedFrame_writesIn.getF (not_atFields (by decide))]
    · rw [(ethDropped_writesIn _ _ _).getF (not_atFields (by decide)), rewoundFrame_counts i.isLt _ (by decide),
        receivedFrame_writesIn.getF (not_atFields (by decide))]
  · obtain ⟨reason, hop⟩ := portFrameOp_other hg hu hb hc
    refine ⟨_, congrArg Host.Outcome.next hop, ?_, ?_, ?_, ?_, ?_⟩
    · rw [(ethDropped_writesIn _ _ _).getF (not_atFields (by decide)), receivedFrame_rx]
    · rw [ethDropped_drop, receivedFrame_writesIn.getF (not_atFields (by decide))]
    · rw [(ethDropped_writesIn _ _ _).getF (not_atFields (by decide)), receivedFrame_writesIn.getF (not_atFields (by decide))]
    · exact (receivedFrame_writesIn.onPage (by decide)).trans ((ethDropped_writesIn _ _ _).onPage (by decide))
    · rw [ethDropped_stk, receivedFrame_stk hc]
  · have hop := portFrameOp_harlet hg hu ho hc hf hmin hmax ht hm hb
    have hfree : underFc i.val (harletFrame i.val f (receivedFrame i.val f s)).prio (receivedFrame i.val f s) = false :=
      (underFc_received _).trans hfc
    have hcells := grantCells_arrival (i := i.val) (s := s) hc (qPort i.val 1) (cellsFor (f.bytes - 4))
    constructor
    · intro hgrant
      have htake := takeFrame_granted (w := harletFrame i.val f (receivedFrame i.val f s)) hfree rfl
        (by show qPort i.val 1 ≠ qPort i.val 2; unfold qPort; omega) (hcells.trans hgrant)
      exact ⟨_, congrArg Host.Outcome.next (hop.trans htake), arrival_committed i.isLt hc _ _⟩
    · intro hgrant
      have htake := takeFrame_refused (w := harletFrame i.val f (receivedFrame i.val f s)) hfree rfl (hcells.trans hgrant)
      exact ⟨_, congrArg Host.Outcome.next (hop.trans htake), arrival_refused i.isLt hc⟩
  · obtain ⟨reason, hop⟩ := portMFrameOp_dropped hg hu h
    refine ⟨_, congrArg Host.Outcome.next hop, ?_, ?_, ?_, ?_⟩
    · rw [(ethDropped_writesIn _ _ _).getF (not_atFields (by decide)), ethReceived_rx]
    · rw [ethDropped_drop, (ethReceived_writesIn 2 s).getF (not_atFields (by decide))]
    · exact (setF_regsOnly _ _ _ s).trans (ethDropped_regsOnly 2 reason _)
    · exact fieldsBut_iff.2 (((ethReceived_writesIn 2 s).mono fun _ => atFields_mono (by simp)).trans
        ((ethDropped_writesIn 2 reason _).mono fun _ => atFields_mono (by simp)))
  · refine ⟨_, congrArg Host.Outcome.next (portMFrameOp_harlet hg hu ho hc hf hmin hmax ht hm hb), ?_, ?_, ?_, ?_⟩
    · rw [(inFlight_writesIn _).getF (not_atFields (by decide)), ethReceived_rx]
    · rw [inFlight_count, (ethReceived_writesIn 2 s).getF (not_atFields (by decide))]
    · exact (setF_regsOnly _ _ _ s).trans (setF_regsOnly _ _ _ _)
    · exact fieldsBut_iff.2 (((ethReceived_writesIn 2 s).mono fun _ => atFields_mono (by simp)).trans
        ((inFlight_writesIn _).mono fun _ => atFields_mono (by simp)))
  · exact congrArg Host.Outcome.next (portFrameOp_down hg hu)
  · exact congrArg Host.Outcome.next (portMFrameOp_down hg hu)

end Sys2Proof.Machine
end

section
/-! # A tick of an input page (R87 to R97) -/

namespace Sys2Proof.Machine

/-! ## Time up to a tick's boundary -/

theorem advanceToNs_regs (t : Int) (s : State) : (advanceToNs t s).regs = s.regs := by
  unfold advanceToNs; split <;> exact passTicks_regs _ s

theorem passTicks_frame (n : Nat) (s : State) : passTicks n s = { s with clk := (passTicks n s).clk, tim := (passTicks n s).tim } := by
  unfold passTicks; split <;> rfl

theorem advanceToNs_frame (t : Int) (s : State) :
    advanceToNs t s = { s with clk := (advanceToNs t s).clk, tim := (advanceToNs t s).tim } := by
  unfold advanceToNs; split <;> exact passTicks_frame _ s

theorem advanceToNs_ing (t : Int) (s : State) : (advanceToNs t s).ing = s.ing := by
  rw [advanceToNs_frame]

theorem advanceToNs_bufs (t : Int) (s : State) : (advanceToNs t s).bufs = s.bufs := by
  rw [advanceToNs_frame]

theorem advanceToNs_hap (t : Int) (s : State) : (advanceToNs t s).hap = s.hap := by
  rw [advanceToNs_frame]

/-- where no write is scheduled, nothing fires. -/
theorem fireAll_none {due : WatEntry → Bool} {s : State} (h : s.hap.wats = []) : fireAll due s.hap.wats.length s = s := by
  rw [h]; rfl

theorem reachBoundary_unscheduled {p n : Nat} {t : Int} {s : State} (h : s.hap.wats = []) :
    reachBoundary p n t s = advanceToNs t s := by
  have hwats : (advanceToNs t s).hap.wats = [] := (congrArg HapS.wats (advanceToNs_hap t s)).trans h
  have hdue : fireDue (advanceToNs t s) = advanceToNs t s := fireAll_none hwats
  unfold reachBoundary
  rw [hdue]
  exact fireAll_none hwats

/-! ## The page's own state -/

theorem ingOf_modIng (i : Nat) (f : IngS → IngS) (s : State) : ingOf i (modIng i f s) = f (ingOf i s) := by
  unfold ingOf modIng modAt
  exact (SMap.get_put _ _ _ _ _).trans (if_pos rfl)

theorem ingOf_congr {s t : State} (i : Nat) (h : t.ing = s.ing) : ingOf i t = ingOf i s := by
  unfold ingOf; rw [h]

/-- events of one page. -/
def eventsFields (l : List Nat) : List Fld := l.flatMap eventFields

theorem raise_atFields {p k : Nat} {l : List Fld} (h : eventFields k ⊆ l) (s : State) : WritesIn (AtFields p l) s (raise p k s) :=
  raise_writesIn fun _ hf => atFields_of_mem (h hf)

theorem modIng_writesIn {K : Nat → Prop} (i : Nat) (f : IngS → IngS) (s : State) : WritesIn K s (modIng i f s) := .of_eq rfl

section
variable {i : Nat}

/-! ## What a tick's feed writes (R88, R90 to R94) -/

/-- what the feed of a source picture writes. -/
def pictureFields : List Fld :=
  [SYNC.fs_drops, SYNC.fed, ING.FS_LEAD_lead_ns, ING.ST_slate_valid] ++ (eventFields 3 ++ eventFields 10)

/-- what the feed of anything else writes. -/
def otherFields : List Fld := [SYNC.repeats, SYNC.fed] ++ eventFields 2

/-- what the loss of a source and its return write besides. -/
def sourceFields : List Fld := [SYNC.losses, ING.ST_src_lost] ++ (eventFields 0 ++ eventFields 1)

/-- what the synchroniser writes. -/
def feedFields : List Fld := pictureFields ++ (otherFields ++ sourceFields)

theorem storeSlate_writesIn (s : State) :
    WritesIn (AtFields (pgING i) (ING.ST_slate_valid :: eventFields 10)) s (storeSlate i s) := by
  have hset : ∀ u, WritesIn (AtFields (pgING i) (ING.ST_slate_valid :: eventFields 10)) u (setF (pgING i) ING.ST_slate_valid 1 u) :=
    fun u => setF_writesIn (atFields_of_mem List.mem_cons_self)
  unfold storeSlate
  split
  · exact .refl s
  · split
    · exact modIng_writesIn _ _ _
    · exact ((modIng_writesIn _ _ s).trans (hset _)).trans (raise_atFields (List.subset_cons_self _ _) _)

theorem settleSlate_writesIn (s : State) :
    WritesIn (AtFields (pgING i) (ING.ST_slate_valid :: eventFields 10)) s (settleSlate i s) := by
  unfold settleSlate
  split
  · exact .refl s
  · split
    · exact .ite (storeSlate_writesIn s) (.refl s)
    · exact .refl s

theorem dropPicture_writesIn (key : Nat) (s : State) :
    WritesIn (AtFields (pgING i) (SYNC.fs_drops :: eventFields 3)) s (dropPicture i key s) := by
  have hadd : ∀ u, WritesIn (AtFields (pgING i) (SYNC.fs_drops :: eventFields 3)) u (addF (pgING i) SYNC.fs_drops 1 u) :=
    fun u => addF_writesIn (atFields_of_mem List.mem_cons_self)
  exact ((modIng_writesIn _ _ s).trans (hadd _)).trans (raise_atFields (List.subset_cons_self _ _) _)

theorem dropOlder_writesIn (t : Int) (x : RingSlot) (s : State) :
    WritesIn (AtFields (pgING i) (SYNC.fs_drops :: eventFields 3)) s (dropOlder i t x s) :=
  .foldl (fun u key _ => dropPicture_writesIn key u) s

theorem feedPicture_writesIn (n : Nat) (t : Int) (x : RingSlot) (s : State) :
    WritesIn (AtFields (pgING i) pictureFields) s (feedPicture i n t x s) := by
  have hdrop := (dropOlder_writesIn (i := i) t x s).mono fun _ => atFields_mono (m := pictureFields) (by decide)
  have hfed : ∀ u, WritesIn (AtFields (pgING i) pictureFields) u (addF (pgING i) SYNC.fed 1 u) := fun u =>
    addF_writesIn (atFields_of_mem (by simp [pictureFields]))
  have hlead : ∀ v u, WritesIn (AtFields (pgING i) pictureFields) u (setF (pgING i) ING.FS_LEAD_lead_ns v u) := fun v u =>
    setF_writesIn (atFields_of_mem (by simp [pictureFields]))
  have hslate : ∀ u, WritesIn (AtFields (pgING i) pictureFields) u (settleSlate i u) := fun u =>
    (settleSlate_writesIn u).mono fun _ => atFields_mono (by decide)
  have hfeed : ∀ f v u, WritesIn (AtFields (pgING i) pictureFields) u
      (setF (pgING i) ING.FS_LEAD_lead_ns v (addF (pgING i) SYNC.fed 1 (modIng i f u))) := fun f v u =>
    ((modIng_writesIn _ _ u).trans (hfed _)).trans (hlead _ _)
  unfold feedPicture
  dsimp only
  exact .ite ((hdrop.trans (hfeed _ _ _)).trans ((modIng_writesIn _ _ _).trans (hslate _))) (hdrop.trans (hfeed _ _ _))

theorem feedOther_writesIn (n kind : Nat) (odd : Bool) (s : State) :
    WritesIn (AtFields (pgING i) otherFields) s (feedOther i n kind odd s) := by
  have hfed : ∀ u, WritesIn (AtFields (pgING i) otherFields) u (addF (pgING i) SYNC.fed 1 u) := fun u =>
    addF_writesIn (atFields_of_mem (by simp [otherFields]))
  have hrep : ∀ u, WritesIn (AtFields (pgING i) otherFields) u (addF (pgING i) SYNC.repeats 1 u) := fun u =>
    addF_writesIn (atFields_of_mem (by simp [otherFields]))
  unfold feedOther
  dsimp only
  exact (((modIng_writesIn _ _ s).trans (hfed _)).trans (hrep _)).trans (raise_atFields (by decide) _)

/-- a source picture is due again often enough (R93). -/
def sourceBack (i : Nat) (s : State) : State :=
  raise (pgING i) 1 (setF (pgING i) ING.ST_src_lost 0 (modIng i (fun y => { y with foundRun := 0 }) s))

/-- no source picture was due often enough (R92). -/
def sourceGoes (i : Nat) (s : State) : State :=
  addF (pgING i) SYNC.losses 1 (raise (pgING i) 0 (setF (pgING i) ING.ST_src_lost 1
    (modIng i (fun y => { y with missRun := 0 }) (modIng i (fun y => { y with missRun := y.missRun + 1, foundRun := 0 }) s))))

theorem sourceBack_writesIn (s : State) : WritesIn (AtFields (pgING i) sourceFields) s (sourceBack i s) := by
  have hset : ∀ u, WritesIn (AtFields (pgING i) sourceFields) u (setF (pgING i) ING.ST_src_lost 0 u) := fun u =>
    setF_writesIn (atFields_of_mem (by simp [sourceFields]))
  exact ((modIng_writesIn _ _ s).trans (hset _)).trans (raise_atFields (by decide) _)

theorem sourceGoes_writesIn (s : State) : WritesIn (AtFields (pgING i) sourceFields) s (sourceGoes i s) := by
  have hset : ∀ u, WritesIn (AtFields (pgING i) sourceFields) u (setF (pgING i) ING.ST_src_lost 1 u) := fun u =>
    setF_writesIn (atFields_of_mem (by simp [sourceFields]))
  have hadd : ∀ u, WritesIn (AtFields (pgING i) sourceFields) u (addF (pgING i) SYNC.losses 1 u) := fun u =>
    addF_writesIn (atFields_of_mem (by simp [sourceFields]))
  exact ((((modIng_writesIn _ _ s).trans (modIng_writesIn _ _ _)).trans (hset _)).trans (raise_atFields (by decide) _)).trans (hadd _)

theorem synchronise_writesIn (n : Nat) (t : Int) (s : State) : WritesIn (AtFields (pgING i) feedFields) s (synchronise i n t s) := by
  have hpicture : ∀ x u, WritesIn (AtFields (pgING i) feedFields) u (feedPicture i n t x u) := fun x u =>
    (feedPicture_writesIn n t x u).mono fun _ => atFields_mono (by decide)
  have hother : ∀ kind odd u, WritesIn (AtFields (pgING i) feedFields) u (feedOther i n kind odd u) := fun kind odd u =>
    (feedOther_writesIn n kind odd u).mono fun _ => atFields_mono (by decide)
  have hback := (sourceBack_writesIn (i := i) s).mono fun _ => atFields_mono (m := feedFields) (by decide)
  have hgoes := (sourceGoes_writesIn (i := i) s).mono fun _ => atFields_mono (m := feedFields) (by decide)
  have hdrop : ∀ l : List Nat, WritesIn (AtFields (pgING i) feedFields) s (l.foldl (fun s m => dropPicture i m s) s) := fun l =>
    .foldl (fun u key _ => (dropPicture_writesIn key u).mono fun _ => atFields_mono (by decide)) s
  unfold synchronise
  dsimp only
  split
  · exact .ite (.ite (hback.trans (hpicture _ _)) (((hdrop _).trans (modIng_writesIn _ _ _)).trans (hother _ _ _))) (hpicture _ _)
  · exact .ite ((modIng_writesIn _ _ s).trans (hother _ _ _))
      (.ite (hgoes.trans (hother _ _ _)) ((modIng_writesIn _ _ s).trans (hother _ _ _)))

/-! ## The chosen picture -/

theorem choosePic_none {t : Int} {s : State} : choosePic i t [] s = none := rfl

theorem choosePic_some {t : Int} {due : List RingSlot} {s : State} (h : due ≠ []) : ∃ c, choosePic i t due s = some c := by
  unfold choosePic
  cases hd : due.reverse with
  | nil => exact absurd (List.reverse_eq_nil_iff.1 hd) h
  | cons newest l =>
    cases l with
    | nil => exact ⟨_, rfl⟩
    | cons older l =>
      dsimp only
      split
      · exact ⟨_, rfl⟩
      · exact ⟨_, rfl⟩

/-- the tick that completes loss_pics ticks without a due picture (R92). -/
theorem synchronise_loses {n : Nat} {t : Int} {s : State} (hdue : duePics i t (n % 2 == 1) s = [])
    (hlost : isF (pgING i) ING.ST_src_lost s = false) (hrun : getF (pgING i) ING.LOSS_loss_pics s ≤ (ingOf i s).missRun + 1) :
    ∃ kind, synchronise i n t s = feedOther i n kind (n % 2 == 1) (sourceGoes i s) := by
  unfold synchronise
  simp only [hdue, choosePic_none, hlost, hrun, Bool.false_eq_true, if_false, if_true]
  exact ⟨_, rfl⟩

/-- the tick that completes rejoin_pics ticks with a due picture (R93). -/
theorem synchronise_returns {n : Nat} {t : Int} {s : State} (hdue : duePics i t (n % 2 == 1) s ≠ [])
    (hlost : isF (pgING i) ING.ST_src_lost s = true) (hrun : getF (pgING i) ING.LOSS_rejoin_pics s ≤ (ingOf i s).foundRun + 1) :
    ∃ x, synchronise i n t s = feedPicture i n t x (sourceBack i s) := by
  obtain ⟨c, hc⟩ := choosePic_some (i := i) (t := t) (s := s) hdue
  unfold synchronise
  simp only [hc, hlost, hrun, if_true]
  exact ⟨_, rfl⟩

/-! ## The tick up to its feed -/

/-- The page's pictures and runs, and what the feed reads of its registers, are the same in `s` and `t`. -/
structure FeedKept (i : Nat) (s t : State) : Prop where
  ring : (ingOf i t).ring = (ingOf i s).ring
  missRun : (ingOf i t).missRun = (ingOf i s).missRun
  foundRun : (ingOf i t).foundRun = (ingOf i s).foundRun
  regs : WritesIn (AtFields (pgING i) ([ING.PICNUM_picture, ING.ST_holdover, ING.ST_slate_valid] ++ eventFields 10)) s t

section
variable {s t u : State}

theorem FeedKept.refl (s : State) : FeedKept i s s := ⟨rfl, rfl, rfl, .refl s⟩

theorem FeedKept.trans (h : FeedKept i s t) (k : FeedKept i t u) : FeedKept i s u :=
  ⟨k.ring.trans h.ring, k.missRun.trans h.missRun, k.foundRun.trans h.foundRun, h.regs.trans k.regs⟩

/-- a change of the page's own state that touches neither its pictures nor its runs. -/
theorem feedKept_modIng {f : IngS → IngS} (h : ∀ x, (f x).ring = x.ring ∧ (f x).missRun = x.missRun ∧ (f x).foundRun = x.foundRun) :
    FeedKept i s (modIng i f s) := by
  obtain ⟨hring, hmiss, hfound⟩ := h (ingOf i s)
  exact ⟨by rw [ingOf_modIng, hring], by rw [ingOf_modIng, hmiss], by rw [ingOf_modIng, hfound], modIng_writesIn _ _ _⟩

theorem feedKept_regs (h : t.ing = s.ing)
    (hregs : WritesIn (AtFields (pgING i) ([ING.PICNUM_picture, ING.ST_holdover, ING.ST_slate_valid] ++ eventFields 10)) s t) :
    FeedKept i s t :=
  ⟨by rw [ingOf_congr i h], by rw [ingOf_congr i h], by rw [ingOf_congr i h], hregs⟩

theorem FeedKept.ite {c : Prop} [Decidable c] (h : FeedKept i s t) (k : FeedKept i s u) : FeedKept i s (if c then t else u) := by
  split <;> assumption

theorem slateShown_feedKept (s : State) : FeedKept i s (raise (pgING i) 10 (setF (pgING i) ING.ST_slate_valid 1 s)) :=
  feedKept_regs (by rw [raise_ing, setF_ing])
    (WritesIn.trans (setF_writesIn (atFields_of_mem (by simp))) (raise_atFields (by decide) _))

theorem tickShown_feedKept (v n : Nat) (s : State) :
    FeedKept i s (setF (pgING i) ING.ST_holdover v (setF (pgING i) ING.PICNUM_picture n s)) :=
  feedKept_regs (by rw [setF_ing, setF_ing])
    (WritesIn.trans (setF_writesIn (atFields_of_mem (by simp))) (setF_writesIn (atFields_of_mem (by simp))))

theorem storeSlate_feedKept (s : State) : FeedKept i s (storeSlate i s) := by
  unfold storeSlate
  split
  · exact .refl s
  · split
    · exact feedKept_modIng fun _ => ⟨rfl, rfl, rfl⟩
    · refine FeedKept.trans ?_ (slateShown_feedKept _)
      exact feedKept_modIng fun _ => ⟨rfl, rfl, rfl⟩

theorem lateSlate_feedKept (n : Nat) (s : State) : FeedKept i s (lateSlate i n s) := by
  unfold lateSlate
  split
  · exact .refl s
  · exact .ite (.refl s) (storeSlate_feedKept s)

/-- the page at tick `n`, before its feed. -/
def beforeFeed (i n : Nat) (u s : State) : State :=
  setF (pgING i) ING.ST_holdover (if timSt u = 3 ∨ timSt u = 4 then 1 else 0) (setF (pgING i) ING.PICNUM_picture n
    (modIng i (fun x => { x with tick := some n }) (lateSlate i n (pruneEssence i (ingTickNs i n u) s))))

theorem beforeFeed_feedKept (n : Nat) (u s : State) : FeedKept i s (beforeFeed i n u s) := by
  have hprune : FeedKept i s (pruneEssence i (ingTickNs i n u) s) := feedKept_modIng fun _ => ⟨rfl, rfl, rfl⟩
  have htick : ∀ v, FeedKept i v (modIng i (fun x => { x with tick := some n }) v) := fun v => feedKept_modIng fun _ => ⟨rfl, rfl, rfl⟩
  exact ((hprune.trans (lateSlate_feedKept n _)).trans (htick _)).trans (tickShown_feedKept _ n _)

theorem beforeFeed_picnum (n : Nat) (u s : State) : getF (pgING i) ING.PICNUM_picture (beforeFeed i n u s) = n % 2 ^ 32 :=
  (getF_setF_field _ _ _ _ _ (by decide)).trans (getF_setF_same _ _ _ _)

theorem FeedKept.getF (h : FeedKept i s t) {f : Fld}
    (hf : f.loc ∉ ([ING.PICNUM_picture, ING.ST_holdover, ING.ST_slate_valid] ++ eventFields 10).map Fld.loc) :
    getF (pgING i) f t = getF (pgING i) f s := h.regs.getF (not_atFields hf)

theorem FeedKept.duePics (h : FeedKept i s t) (at_ : Int) (odd : Bool) : duePics i at_ odd t = duePics i at_ odd s := by
  have hinter : isF (pgING i) ING.VFMT_interlaced t = isF (pgING i) ING.VFMT_interlaced s := congrArg (· == 1) (h.getF (by decide))
  unfold Sys2Proof.Machine.duePics
  rw [h.ring, h.getF (f := ING.FS_GUARD_guard_us) (by decide), hinter]

theorem FeedKept.pendingGen (h : FeedKept i s t) : pendingGen (pgING i) t = pendingGen (pgING i) s := by
  unfold Sys2Proof.Machine.pendingGen
  rw [h.getF (f := HDR.gen_applied) (by decide), h.getF (f := HDR.gen_committed) (by decide)]

theorem FeedKept.act (h : FeedKept i s t) : act (pgING i) t = act (pgING i) s := h.getF (by decide)

/-- a running page with no generation pending feeds a picture at its tick (R88). -/
theorem ingTick_running {n : Nat} (hact : act (pgING i) s = stRUNNING) (hgen : Sys2Proof.Machine.pendingGen (pgING i) s = false) :
    ingTick i n s = synchronise i n (ingTickNs i n s) (beforeFeed i n s s) := by
  have hstart : ingMayStart i s = false := by
    unfold ingMayStart
    rw [hact]
    rfl
  have hkept := beforeFeed_feedKept (i := i) n s s
  unfold beforeFeed at hkept
  unfold ingTick
  simp only [hstart, hact, hkept.act, hkept.pendingGen, hgen, Bool.false_eq_true, if_false, not_true_eq_false, ne_eq, if_true]
  rfl

/-- a starting page that may run does from this tick (R97). -/
theorem ingTick_starting {n : Nat} (hstart : ingMayStart i s = true) (hgen : Sys2Proof.Machine.pendingGen (pgING i) s = false) :
    ingTick i n s = synchronise i n (ingTickNs i n s) (beforeFeed i n s (setAct (pgING i) stRUNNING 0 s)) := by
  have hact : Sys2Proof.Machine.act (pgING i) (setAct (pgING i) stRUNNING 0 s) = stRUNNING := setAct_act (by decide)
  have hpage : ∀ f ∈ [HDR.gen_applied, HDR.gen_committed],
      Sys2Proof.Machine.getF (pgING i) f (setAct (pgING i) stRUNNING 0 s) = Sys2Proof.Machine.getF (pgING i) f s := fun f hf => by
    have hoff : WritesIn (OffPlaces [HDR.gen_applied.loc, HDR.gen_committed.loc]) s (setAct (pgING i) stRUNNING 0 s) :=
      setAct_writesIn (fun g hg => offPlaces_of (by revert g; decide) (by revert g; decide)) (offPlaces_of (by decide) (by decide))
        fun _ _ g hg => offPlaces_of (by revert g; decide) (by revert g; decide)
    exact hoff.getF (not_offPlaces (by revert f; decide) (by revert f; decide))
  have hgen' : Sys2Proof.Machine.pendingGen (pgING i) (setAct (pgING i) stRUNNING 0 s) = false := by
    rw [← hgen, Sys2Proof.Machine.pendingGen, Sys2Proof.Machine.pendingGen, hpage _ (by simp), hpage _ (by simp)]
  have hkept := beforeFeed_feedKept (i := i) n s (setAct (pgING i) stRUNNING 0 s)
  unfold beforeFeed at hkept
  unfold ingTick
  simp only [hstart, hact, hkept.act, hkept.pendingGen, hgen', Bool.false_eq_true, if_false, not_true_eq_false, ne_eq, if_true]
  rfl

end

end

end Sys2Proof.Machine
end

section
namespace Sys2Proof.Machine

/-! ## What follows the page's own tick (R29, R105, R110) -/

/-- Every register but those of page ING `i`, of which only the mismatch event may be written. -/
def TailKeys (i k : Nat) : Prop := k / 2 ^ 20 = pgING i → k % 2 ^ 20 ∈ (eventFields 31).map Fld.loc

theorem blockRwc_low : ∀ b ∈ Block.all, ∀ f ∈ blockRwc b, f.loc < 2 ^ 20 := by decide +kernel

theorem rwcRows_low {p : Nat} : ∀ f ∈ rwcRows p, f.loc < 2 ^ 20 := by
  unfold rwcRows
  cases hb : blockOf p with
  | none => exact fun _ h => absurd h List.not_mem_nil
  | some b => exact blockRwc_low b (List.mem_of_find?_eq_some hb)

section
variable {i : Nat}

theorem not_tailKeys {f : Fld} (hlow : f.loc < 2 ^ 20) (h : f.loc ∉ (eventFields 31).map Fld.loc) : ¬ TailKeys i (f.key (pgING i)) :=
  fun hk => h (key_mod hlow ▸ hk (key_div hlow))

theorem tailKeys_page {p : Nat} {f : Fld} (hlow : f.loc < 2 ^ 20) (h : p ≠ pgING i) : TailKeys i (f.key p) :=
  fun hk => absurd ((key_div hlow).symm.trans hk) h

theorem pgCND_ne (hi : i < 64) {u : Nat} (hu : u < 4) : pgCND u ≠ pgING i := by unfold pgCND pgING; omega

theorem setAct_tail (hi : i < 64) {u : Nat} (hu : u < 4) (st r : Nat) (s : State) :
    WritesIn (TailKeys i) s (setAct (pgCND u) st r s) := by
  have hact : ∀ f ∈ actFields, f.loc < 2 ^ 20 := by decide
  exact setAct_writesIn (fun f hf => tailKeys_page (hact f hf) (pgCND_ne hi hu))
    (tailKeys_page (by decide) (by unfold pgHAP pgING; omega))
    fun v hv f hf => tailKeys_page (eventFields_loc (by decide) f hf) (pgCND_ne hi hv)

theorem followWork_tail (hi : i < 64) {u : Nat} (hu : u < 4) (busy gated : Bool) (s : State) :
    WritesIn (TailKeys i) s (followWork (pgCND u) busy gated s) :=
  .ite (.ite (setAct_tail hi hu _ _ s) (.refl s)) (.ite (setAct_tail hi hu _ _ s) (.refl s))

theorem followCommand_tail (hi : i < 64) {u : Nat} (hu : u < 4) (s : State) :
    WritesIn (TailKeys i) s (followCommand (pgCND u) s) :=
  .ite (.refl s) (.ite (.refl s) (setAct_tail hi hu _ _ s))

theorem raise_tail (hi : i < 64) {u k : Nat} (hu : u < 4) (hk : k < 32) (s : State) :
    WritesIn (TailKeys i) s (raise (pgCND u) k s) :=
  raise_writesIn fun f hf => tailKeys_page (eventFields_loc hk f hf) (pgCND_ne hi hu)

theorem takeWith_tail (hi : i < 64) {u : Nat} (hu : u < 4) (s : State) :
    WritesIn (TailKeys i) s (takeWith (pgCND u) (followCommand (pgCND u)) s) := by
  have htake : WritesIn (TailKeys i) s (takeGen (pgCND u) s) :=
    takeGen_writesIn (fun f hf => tailKeys_page (rwcRows_low f hf) (pgCND_ne hi hu)) (tailKeys_page (by decide) (pgCND_ne hi hu))
      fun f hf => tailKeys_page (eventFields_loc (by decide) f hf) (pgCND_ne hi hu)
  exact .ite htake (htake.trans (followCommand_tail hi hu _))

theorem outputFields_low : ∀ m < 16, ∀ f ∈ outputFields m, f.loc < 2 ^ 20 := by decide

theorem pathFields_low {u p : Nat} (hp : p < 8) {s : State} : ∀ f ∈ pathFields u p s, f.loc < 2 ^ 20 := by
  have hpath : ∀ p < 8, ∀ f ∈ [CND.PATH_en p, CND.PATH_src_dch p, CND.PATH_src p], f.loc < 2 ^ 20 := by decide
  intro f hf
  rcases List.mem_append.1 hf with hf | hf
  · exact hpath p hp f hf
  · obtain ⟨m, hm, hf⟩ := List.mem_flatMap.1 hf
    exact outputFields_low m (List.mem_range.1 (List.mem_filter.1 hm).1) f hf

theorem takePath_tail (hi : i < 64) {u p : Nat} (hu : u < 4) (hp : p < 8) (s : State) :
    WritesIn (TailKeys i) s (takePath u p s) := by
  have hfields : WritesIn (TailKeys i) s ((pathFields u p s).foldl (fun s f => setF (pgCND u) f (getCm (pgCND u) f s) s) s) :=
    .foldl (fun v f hf => setF_writesIn (tailKeys_page (pathFields_low hp f hf) (pgCND_ne hi hu))) s
  have hmod : ∀ f v, WritesIn (TailKeys i) v (modCnd u f v) := fun _ _ => .of_eq rfl
  have hdark : ∀ c v, WritesIn (TailKeys i) v (raiseIf c (pgCND u) 0 v) := fun c v =>
    .ite (raise_tail hi hu (by decide) v) (.refl v)
  have htaken : ∀ c, WritesIn (TailKeys i) s (raiseIf c (pgCND u) 0 (modCnd u (fun x => { x with taken := p :: x.taken })
      ((pathFields u p s).foldl (fun s f => setF (pgCND u) f (getCm (pgCND u) f s) s) s))) := fun c =>
    (hfields.trans (hmod _ _)).trans (hdark c _)
  unfold takePath
  exact .ite (.refl s) (.ite (((htaken _).trans (takeWith_tail hi hu _)).trans (hmod _ _)) (htaken _))

theorem takePathsOf_tail (hi : i < 64) (pg : Nat) (s : State) : WritesIn (TailKeys i) s (takePathsOf pg s) := by
  refine .foldl (fun v q hq => ?_) s
  have hq := List.mem_range.1 hq
  exact .ite (takePath_tail hi (by omega) (by omega) v) (.refl v)

theorem cndRefreshAll_tail (hi : i < 64) (s : State) : WritesIn (TailKeys i) s (cndRefreshAll s) :=
  .foldl (fun v _ hu => followWork_tail hi (List.mem_range.1 hu) _ _ v) s

theorem mismatchTick_tail (p : Nat) (s : State) : WritesIn (TailKeys i) s (mismatchTick p s) := by
  have hraise : ∀ c v, WritesIn (TailKeys i) v (raiseIf c p 31 v) := fun c v => raiseIf_writesIn fun f hf _ => by
    rw [key_mod (eventFields_loc (by decide) f hf)]
    exact List.mem_map_of_mem hf
  exact .ite (.refl s) (WritesIn.trans (.of_eq rfl) (hraise _ _))

/-- The tick's other work leaves the page's registers alone but for the mismatch event. -/
theorem frameClockTickOp_tail (hi : i < 64) (n : Nat) (s : State) : WritesIn (TailKeys i) (ingTick i n s) (frameClockTickOp i n s) :=
  ((takePathsOf_tail hi _ _).trans (cndRefreshAll_tail hi _)).trans (.foldl (fun v p _ => mismatchTick_tail p v) _)

theorem frameClockTickOp_getF (hi : i < 64) (n : Nat) (s : State) {f : Fld} (hlow : f.loc < 2 ^ 20)
    (hf : f.loc ∉ (eventFields 31).map Fld.loc) :
    getF (pgING i) f (frameClockTickOp i n s) = getF (pgING i) f (ingTick i n s) :=
  (frameClockTickOp_tail hi n s).getF (not_tailKeys hlow hf)

/-! ## The tick from the boundary on -/

section
variable {s t : State}

theorem ingTickNs_congr (h : t.regs = s.regs) (n : Nat) : ingTickNs i n t = ingTickNs i n s := by
  have hrate : ingRate i t = ingRate i s := by
    unfold ingRate isF
    rw [getF_congr _ _ s t h, getF_congr _ _ s t h]
  unfold ingTickNs ingPhase
  rw [hrate, getF_congr _ _ s t h]

theorem duePics_congr (h : t.regs = s.regs) (hing : t.ing = s.ing) (at_ : Int) (odd : Bool) :
    duePics i at_ odd t = duePics i at_ odd s := by
  simp only [duePics, isF, ingOf_congr i hing, getF_congr _ _ s t h]

theorem pendingGen_congr {p : Nat} (h : t.regs = s.regs) : pendingGen p t = pendingGen p s := by
  simp only [pendingGen, getF_congr _ _ s t h]

theorem act_congr {p : Nat} (h : t.regs = s.regs) : act p t = act p s := getF_congr _ _ s t h

theorem stacksUp_congr {p : Nat} (h : t.regs = s.regs) (hb : t.bufs = s.bufs) : stacksUp p t = stacksUp p s := by
  simp only [stacksUp, hb, act_congr h]

/-- the page at the time of its next tick. -/
def atTick (i : Nat) (s : State) : State := advanceToNs (ingTickNs i (ingNextTick i s) s) s

theorem atTick_regs (s : State) : (atTick i s).regs = s.regs := advanceToNs_regs _ s

theorem atTick_ing (s : State) : (atTick i s).ing = s.ing := advanceToNs_ing _ s

theorem ingClockOp_unscheduled (hw : s.hap.wats = []) :
    ingClockOp i s = frameClockTickOp i (ingNextTick i s) (atTick i s) := by
  unfold ingClockOp
  simp only [reachBoundary_unscheduled hw]
  rfl

/-- what the feed of a running page starts from. -/
def feedStart (i : Nat) (s : State) : State := beforeFeed i (ingNextTick i s) (atTick i s) (atTick i s)

theorem feedStart_kept (s : State) : FeedKept i (atTick i s) (feedStart i s) := beforeFeed_feedKept _ _ _

/-- the tick of a running page, with no generation pending and nothing scheduled. -/
theorem ingTick_atTick (hact : act (pgING i) s = stRUNNING) (hgen : pendingGen (pgING i) s = false) :
    ingTick i (ingNextTick i s) (atTick i s) =
      synchronise i (ingNextTick i s) (ingTickNs i (ingNextTick i s) s) (feedStart i s) := by
  rw [ingTick_running ((act_congr (atTick_regs s)).trans hact) ((pendingGen_congr (atTick_regs s)).trans hgen),
    ingTickNs_congr (atTick_regs s)]
  rfl

theorem feedStart_getF {f : Fld}
    (hf : f.loc ∉ ([ING.PICNUM_picture, ING.ST_holdover, ING.ST_slate_valid] ++ eventFields 10).map Fld.loc) :
    getF (pgING i) f (feedStart i s) = getF (pgING i) f s :=
  ((feedStart_kept s).getF hf).trans (getF_congr _ _ _ _ (atTick_regs s))

theorem feedStart_duePics (at_ : Int) (odd : Bool) : duePics i at_ odd (feedStart i s) = duePics i at_ odd s :=
  ((feedStart_kept s).duePics at_ odd).trans (duePics_congr (atTick_regs s) (atTick_ing s) at_ odd)

theorem feedStart_missRun : (ingOf i (feedStart i s)).missRun = (ingOf i s).missRun :=
  (feedStart_kept s).missRun.trans (congrArg IngS.missRun (ingOf_congr i (atTick_ing s)))

theorem feedStart_foundRun : (ingOf i (feedStart i s)).foundRun = (ingOf i s).foundRun :=
  (feedStart_kept s).foundRun.trans (congrArg IngS.foundRun (ingOf_congr i (atTick_ing s)))

/-- PICNUM shows the tick's number whatever is fed. -/
theorem synchronise_picnum (n : Nat) (at_ : Int) (s : State) :
    getF (pgING i) ING.PICNUM_picture (synchronise i n at_ s) = getF (pgING i) ING.PICNUM_picture s :=
  (synchronise_writesIn n at_ s).getF (not_atFields (by decide))

theorem synchronise_act (n : Nat) (at_ : Int) (s : State) : act (pgING i) (synchronise i n at_ s) = act (pgING i) s :=
  (synchronise_writesIn n at_ s).act (not_atFields (by decide))

/-! ## The loss of a source, and its return -/

theorem sourceGoes_lost (s : State) : isF (pgING i) ING.ST_src_lost (sourceGoes i s) = true := by
  unfold sourceGoes isF
  rw [getF_addF_field _ _ _ _ _ (by decide), (raise_atFields (List.Subset.refl _) _).getF (not_atFields (by decide)), getF_setF_same]
  rfl

theorem sourceGoes_event (s : State) : getF (pgING i) (HDR.EVENT 0) (sourceGoes i s) = 1 := by
  unfold sourceGoes
  rw [getF_addF_field _ _ _ _ _ (by decide)]
  exact raise_event _ 0 _

theorem sourceGoes_losses (s : State) : getF (pgING i) SYNC.losses (sourceGoes i s) =
    (getF (pgING i) SYNC.losses s + 1) % 2 ^ SYNC.losses.width := by
  unfold sourceGoes
  rw [getF_addF_same, (raise_atFields (List.Subset.refl _) _).getF (not_atFields (by decide)), getF_setF_field _ _ _ _ _ (by decide)]
  rfl

theorem sourceBack_lost (s : State) : isF (pgING i) ING.ST_src_lost (sourceBack i s) = false := by
  unfold sourceBack isF
  rw [(raise_atFields (List.Subset.refl _) _).getF (not_atFields (by decide)), getF_setF_same]
  rfl

/-- a tick on which the source is lost (R92). -/
theorem ingTick_loses (hact : act (pgING i) s = stRUNNING) (hgen : pendingGen (pgING i) s = false)
    (hlost : isF (pgING i) ING.ST_src_lost s = false) (hdue : nextTickDue i s = false)
    (hrun : getF (pgING i) ING.LOSS_loss_pics s ≤ (ingOf i s).missRun + 1) :
    ∃ kind odd, ingTick i (ingNextTick i s) (atTick i s) = feedOther i (ingNextTick i s) kind odd (sourceGoes i (feedStart i s)) := by
  have hnone : duePics i (ingTickNs i (ingNextTick i s) s) (ingNextTick i s % 2 == 1) s = [] := by
    simpa [nextTickDue, ingTickNs] using hdue
  have hlost' : isF (pgING i) ING.ST_src_lost (feedStart i s) = false := by
    rw [← hlost]
    exact congrArg (· == 1) (feedStart_getF (by decide))
  obtain ⟨kind, hsync⟩ := synchronise_loses (n := ingNextTick i s) ((feedStart_duePics _ _).trans hnone) hlost'
    (by rwa [feedStart_missRun, feedStart_getF (by decide)])
  exact ⟨kind, _, (ingTick_atTick hact hgen).trans hsync⟩

/-- a tick on which the source is back (R93). -/
theorem ingTick_returns (hact : act (pgING i) s = stRUNNING) (hgen : pendingGen (pgING i) s = false)
    (hlost : isF (pgING i) ING.ST_src_lost s = true) (hdue : nextTickDue i s = true)
    (hrun : getF (pgING i) ING.LOSS_rejoin_pics s ≤ (ingOf i s).foundRun + 1) :
    ∃ x at_, ingTick i (ingNextTick i s) (atTick i s) = feedPicture i (ingNextTick i s) at_ x (sourceBack i (feedStart i s)) := by
  have hsome : duePics i (ingTickNs i (ingNextTick i s) s) (ingNextTick i s % 2 == 1) s ≠ [] := by
    simpa [nextTickDue, ingTickNs] using hdue
  have hlost' : isF (pgING i) ING.ST_src_lost (feedStart i s) = true := by
    rw [← hlost]
    exact congrArg (· == 1) (feedStart_getF (by decide))
  obtain ⟨x, hsync⟩ := synchronise_returns (n := ingNextTick i s) ((feedStart_duePics _ _).symm ▸ hsome) hlost'
    (by rwa [feedStart_foundRun, feedStart_getF (by decide)])
  exact ⟨x, _, (ingTick_atTick hact hgen).trans hsync⟩

/-! ## INGEST_STOPPED -/

theorem setAct_pendingGen (st r : Nat) (s : State) : pendingGen (pgING i) (setAct (pgING i) st r s) = pendingGen (pgING i) s := by
  have hoff : WritesIn (OffPlaces [HDR.gen_applied.loc, HDR.gen_committed.loc]) s (setAct (pgING i) st r s) :=
    setAct_writesIn (fun g hg => offPlaces_of (by revert g; decide) (by revert g; decide)) (offPlaces_of (by decide) (by decide))
      fun _ _ g hg => offPlaces_of (by revert g; decide) (by revert g; decide)
  have happlied : getF (pgING i) HDR.gen_applied (setAct (pgING i) st r s) = getF (pgING i) HDR.gen_applied s :=
    hoff.getF (not_offPlaces (by decide) (by decide))
  have hcommitted : getF (pgING i) HDR.gen_committed (setAct (pgING i) st r s) = getF (pgING i) HDR.gen_committed s :=
    hoff.getF (not_offPlaces (by decide) (by decide))
  unfold pendingGen
  rw [happlied, hcommitted]

end

end

/-- a stopping page whose last fed picture nobody reads (R97). -/
theorem exec_ingestStopped {i : Fin 64} {s : State} (hact : act (pgING i.val) s = stSTOPPING)
    (hfree : ∀ q ∈ (ingOf i.val s).ring, ∀ w ∈ q.readers, some w.2 = (ingOf i.val s).hist.head?.map FedTick.n →
      stillReads w.1 s = false) :
    exec (.ingestStopped i) s = .next (takeAfterStop (pgING i.val) (ingCommand i.val)
      (setAct (pgING i.val) (if cmdOf (pgING i.val) s = stOFF then stOFF else stIDLE) 0 s)) := by
  have hbusy : (ingOf i.val s).ring.any (fun t => t.readers.any fun w =>
      some w.2 == (ingOf i.val s).hist.head?.map FedTick.n && stillReads w.1 s) = false := by
    refine List.any_eq_false.2 fun q hq => ?_
    rw [Bool.not_eq_true]
    refine List.any_eq_false.2 fun w hw h => ?_
    obtain ⟨hlast, hreads⟩ := (Bool.and_eq_true _ _).mp h
    exact Bool.false_ne_true ((hfree q hq w hw (beq_iff_eq.1 hlast)).symm.trans hreads)
  show execIngestStopped i s = _
  unfold execIngestStopped
  simp only [hbusy, hact, Bool.not_false, and_self, if_true]

/-- Settles O13: the tick of an input page, from its start to its stop. -/
theorem ingestPageRuns : Obligations.IngestPageRuns := by
  refine ⟨fun i s hact => ⟨fun hlock hstacks => ?_, fun hlock hreason => ?_⟩, fun i s => rfl, fun i s hact hgen hw => ?_,
    fun i s hact hlost hdue hrun => ?_, fun i s hact hlost hdue hrun => ?_, fun i s hact hfree => ?_⟩
  · have hmay : ingMayStart i.val s = true := by
      unfold ingMayStart
      rw [hact, hlock, hstacks]
      rfl
    have hexec : exec (.ingestStart i) s = .next (ingClockOp i.val s) := congrArg Host.Outcome.next (if_pos hmay)
    refine ⟨hexec, fun hw hgen => ?_⟩
    have hmay' : ingMayStart i.val (atTick i.val s) = true := by
      have hbufs : (atTick i.val s).bufs = s.bufs := advanceToNs_bufs _ s
      rw [← hmay]
      simp only [ingMayStart, isF, act_congr (atTick_regs s), stacksUp_congr (atTick_regs s) hbufs, getF_congr _ _ s _ (atTick_regs s)]
    have htick := ingTick_starting (n := ingNextTick i.val s) hmay' ((pendingGen_congr (atTick_regs s)).trans hgen)
    rw [ingClockOp_unscheduled hw] at hexec
    refine ⟨_, hexec, ?_, ?_⟩
    · have hkeep : act (pgING i.val) (frameClockTickOp i.val (ingNextTick i.val s) (atTick i.val s)) = _ :=
        frameClockTickOp_getF i.isLt _ _ (by decide) (by decide)
      rw [hkeep, htick]
      exact (synchronise_act _ _ _).trans ((beforeFeed_feedKept _ _ _).act.trans (setAct_act (by decide)))
    · rw [frameClockTickOp_getF i.isLt _ _ (by decide) (by decide), htick, synchronise_picnum, beforeFeed_picnum]
  · have hmay : ingMayStart i.val s = false := by
      unfold ingMayStart
      rw [hlock]
      simp only [Bool.and_false, Bool.false_and]
    have hexec : ingestStartOp i.val s = setF (pgING i.val) HDR.ACT_reason 5 s := by
      unfold ingestStartOp
      rw [if_neg (by rw [hmay]; exact Bool.false_ne_true), if_pos hact, setAct_of_eq hact, if_neg hreason]
    refine ⟨_, congrArg Host.Outcome.next hexec, ?_, getF_setF_same _ _ _ _, rfl⟩
    exact (getF_setF_field _ _ _ _ _ (by decide)).trans hact
  · have hexec : exec (.frameClockTick i) s = .next (frameClockTickOp i.val (ingNextTick i.val s) (atTick i.val s)) :=
      congrArg Host.Outcome.next (ingClockOp_unscheduled hw)
    refine ⟨_, hexec, ?_⟩
    rw [frameClockTickOp_getF i.isLt _ _ (by decide) (by decide), ingTick_atTick hact hgen, synchronise_picnum]
    exact beforeFeed_picnum _ _ _
  · have hexec : exec (.sourceLost i) s = exec (.frameClockTick i) s := if_pos ⟨hact, by rw [hlost]; rfl, by rw [hdue]; rfl, hrun⟩
    refine ⟨hexec, fun hgen hw => ?_⟩
    obtain ⟨kind, odd, htick⟩ := ingTick_loses hact hgen hlost hdue hrun
    have hstep : exec (.sourceLost i) s = .next (frameClockTickOp i.val (ingNextTick i.val s) (atTick i.val s)) :=
      hexec.trans (congrArg Host.Outcome.next (ingClockOp_unscheduled hw))
    refine ⟨_, hstep, ?_, ?_, ?_⟩
    · rw [isF, frameClockTickOp_getF i.isLt _ _ (by decide) (by decide), htick, (feedOther_writesIn _ _ _ _).getF (not_atFields (by decide))]
      exact sourceGoes_lost _
    · rw [frameClockTickOp_getF i.isLt _ _ (by decide) (by decide), htick, (feedOther_writesIn _ _ _ _).getF (not_atFields (by decide)),
        sourceGoes_event]
    · rw [frameClockTickOp_getF i.isLt _ _ (by decide) (by decide), htick, (feedOther_writesIn _ _ _ _).getF (not_atFields (by decide)),
        sourceGoes_losses, feedStart_getF (by decide)]
  · have hexec : exec (.sourceReturned i) s = exec (.frameClockTick i) s := if_pos ⟨hact, hlost, hdue, hrun⟩
    refine ⟨hexec, fun hgen hw => ?_⟩
    obtain ⟨x, at_, htick⟩ := ingTick_returns hact hgen hlost hdue hrun
    have hstep : exec (.sourceReturned i) s = .next (frameClockTickOp i.val (ingNextTick i.val s) (atTick i.val s)) :=
      hexec.trans (congrArg Host.Outcome.next (ingClockOp_unscheduled hw))
    refine ⟨_, hstep, ?_, ?_⟩
    · rw [isF, frameClockTickOp_getF i.isLt _ _ (by decide) (by decide), htick,
        (feedPicture_writesIn _ _ _ _).getF (not_atFields (by decide))]
      exact sourceBack_lost _
    · rw [frameClockTickOp_getF i.isLt _ _ (by decide) (by decide), htick,
        (feedPicture_writesIn _ _ _ _).getF (not_atFields (by decide))]
      exact raise_event _ 1 _
  · have hexec := exec_ingestStopped hact hfree
    refine ⟨hexec, fun hgen => ?_⟩
    have hstop : takeAfterStop (pgING i.val) (ingCommand i.val)
        (setAct (pgING i.val) (if cmdOf (pgING i.val) s = stOFF then stOFF else stIDLE) 0 s) =
        setAct (pgING i.val) (if cmdOf (pgING i.val) s = stOFF then stOFF else stIDLE) 0 s :=
      if_neg (by rw [setAct_pendingGen, hgen]; exact Bool.false_ne_true)
    refine ⟨_, hexec.trans (congrArg Host.Outcome.next hstop), setAct_ing _ _ _ _, setAct_act ?_⟩
    split
    · decide
    · decide

end Sys2Proof.Machine
end

section
/-! # What unit faults leave alone (R30, R33, R453)

A unit's fault, and all that its chapter makes of it, takes no time, leaves the health and power blocks' own state, and takes no event
of page HLT back: `Calm`. As for `Keeps`, each operation `f` has one lemma `f_calm`, whose proof is the body of `f` with each operation
replaced by its lemma. -/

namespace Sys2Proof.Machine

/-- From `s` to `t` no time passes, the health and power blocks' own state stays, and HLT's events of a shutdown and of a failing
equation stay set. -/
structure Calm (s t : State) : Prop where
  clk : t.clk = s.clk
  hlt : t.hlt = s.hlt
  pwr : t.pwr = s.pwr
  event : ∀ k ∈ [1, 4], getF pgHLT (HDR.EVENT k) s = 1 → getF pgHLT (HDR.EVENT k) t = 1

section
variable {a s t u : State}

theorem Calm.refl (s : State) : Calm s s := ⟨rfl, rfl, rfl, fun _ _ h => h⟩

theorem Calm.trans (h : Calm s t) (k : Calm t u) : Calm s u :=
  ⟨k.clk.trans h.clk, k.hlt.trans h.hlt, k.pwr.trans h.pwr, fun n hn hs => k.event n hn (h.event n hn hs)⟩

theorem Calm.ite {c : Prop} [Decidable c] (h : Calm a s) (k : Calm a t) : Calm a (if c then s else t) := by
  split <;> assumption

theorem Calm.foldl {α : Type} (g : State → α → State) (hg : ∀ u x, Calm a u → Calm a (g u x)) (h : Calm a s) (l : List α) :
    Calm a (l.foldl g s) :=
  List.foldlRecOn (motive := Calm a) l g h fun u hu x _ => hg u x hu

theorem Calm.foldlMem {α : Type} (g : State → α → State) {l : List α} (hg : ∀ u, ∀ x ∈ l, Calm a u → Calm a (g u x))
    (h : Calm a s) :
    Calm a (l.foldl g s) :=
  List.foldlRecOn (motive := Calm a) l g h fun u hu x hx => hg u x hx hu

/-- an update that leaves the time, the registers and these two blocks alone. -/
theorem Calm.frame (h : Calm a s) (e : (t.clk, t.hlt, t.pwr, t.regs) = (s.clk, s.hlt, s.pwr, s.regs)) : Calm a t := by
  simp only [Prod.mk.injEq] at e
  obtain ⟨hclk, hhlt, hpwr, hregs⟩ := e
  exact h.trans ⟨hclk, hhlt, hpwr, fun _ _ hs => (getF_congr _ _ _ _ hregs).trans hs⟩

/-- the places of the two events. -/
def eventPlaces : List Nat := [129, 132]

theorem eventPlaces_spec : ∀ k ∈ [1, 4], (HDR.EVENT k).loc ∈ eventPlaces ∧ (HDR.EVENT k).loc < 2 ^ 20 := by decide

/-- writes elsewhere leave the events as they are. -/
theorem Calm.of_writesIn (h : Calm a s) (hw : WritesIn (OffPlaces eventPlaces) s t) (hclk : t.clk = s.clk) (hhlt : t.hlt = s.hlt)
    (hpwr : t.pwr = s.pwr) : Calm a t := by
  refine h.trans ⟨hclk, hhlt, hpwr, fun k hk hs => ?_⟩
  obtain ⟨hmem, hlow⟩ := eventPlaces_spec k hk
  exact (hw.getF (not_offPlaces hlow hmem)).trans hs

/-! ## The shared operations -/

theorem setF_calm (h : Calm a s) (p : Nat) (f : Fld) (v : Nat) (hf : f.loc % 2 ^ 20 ∉ eventPlaces) :
    Calm a (setF p f v s) := by
  refine h.of_writesIn (setF_writesIn ?_) rfl rfl rfl
  have hkey : f.key p % 2 ^ 20 = f.loc % 2 ^ 20 := by unfold Fld.key; omega
  unfold OffPlaces
  rwa [hkey]

theorem addF_calm (h : Calm a s) (p : Nat) (f : Fld) (n : Nat) (hf : f.loc % 2 ^ 20 ∉ eventPlaces) :
    Calm a (addF p f n s) := setF_calm h p f _ hf

theorem satF_calm (h : Calm a s) (p : Nat) (f : Fld) (n : Nat) (hf : f.loc % 2 ^ 20 ∉ eventPlaces) :
    Calm a (satF p f n s) := setF_calm h p f _ hf

theorem subF_calm (h : Calm a s) (p : Nat) (f : Fld) (n : Nat) (hf : f.loc % 2 ^ 20 ∉ eventPlaces) :
    Calm a (subF p f n s) := setF_calm h p f _ hf

theorem clearFields_calm (h : Calm a s) (p : Nat) (l : List Fld) (hl : ∀ f ∈ l, f.loc % 2 ^ 20 ∉ eventPlaces) :
    Calm a (clearFields p l s) :=
  .foldlMem _ (fun _ f hf hu => setF_calm hu p f _ (hl f hf)) h

theorem emit_calm (h : Calm a s) (k : OutKind) (p : Nat) (d : List Nat) : Calm a (emit k p d s) := h.frame (by rfl)

theorem event_resetAt (p k : Nat) : (HDR.EVENT k).resetAt p = 0 := by simp [Fld.resetAt, HDR.EVENT]

/-- a set event stays set whatever event is raised. -/
theorem event_stays {p q j k : Nat} (h : getF q (HDR.EVENT j) s = 1) : getF q (HDR.EVENT j) (setF p (HDR.EVENT k) 1 s) = 1 := by
  by_cases hkey : (HDR.EVENT j).key q = (HDR.EVENT k).key p
  · rw [getF_setF, if_pos ⟨hkey, (event_resetAt q j).trans (event_resetAt p k).symm⟩]
    rfl
  · rw [getF_setF_ne _ _ _ _ _ _ hkey, h]

theorem latchFirst_calm (h : Calm a s) (p k : Nat) : Calm a (latchFirst p k s) :=
  .ite h (setF_calm (setF_calm (setF_calm h _ _ _ (by decide)) _ _ _ (by decide)) _ _ _ (by decide))

theorem raise_calm (h : Calm a s) (p k : Nat) : Calm a (raise p k s) := by
  have hset : Calm a (setF p (HDR.EVENT k) 1 (latchFirst p k s)) :=
    (latchFirst_calm h p k).trans ⟨rfl, rfl, rfl, fun _ _ hs => event_stays hs⟩
  exact .ite (hset.frame (by rfl)) hset

theorem raiseIf_calm (h : Calm a s) (c : Bool) (p k : Nat) : Calm a (raiseIf c p k s) := .ite (raise_calm h _ _) h

theorem setWats_calm (h : Calm a s) (m : SMap WatEntry) : Calm a (setWats m s) :=
  setF_calm (h.frame (t := { s with hap := { s.hap with wats := m } }) (by rfl)) _ _ _ (by decide)

theorem watWithdraw_calm (h : Calm a s) (k : Nat) : Calm a (watWithdraw k s) := by
  unfold watWithdraw
  split
  · exact h
  · exact (setWats_calm h _).frame (by rfl)

theorem offEvents_of {p : Nat} {f : Fld} (hf : f.loc < 2 ^ 20) (h : f.loc ∉ eventPlaces) : OffPlaces eventPlaces (f.key p) :=
  offPlaces_of hf h

theorem setAct_calm (h : Calm a s) (p st r : Nat) : Calm a (setAct p st r s) :=
  h.of_writesIn (setAct_writesIn (fun f hf => offEvents_of (by revert f; decide) (by revert f; decide))
    (offEvents_of (by decide) (by decide)) fun _ _ f hf => offEvents_of (by revert f; decide) (by revert f; decide))
    (setAct_clk _ _ _ _) (setAct_hlt _ _ _ _) (setAct_pwr _ _ _ _)

theorem blockRwc_offEvents : ∀ b ∈ Block.all, ∀ f ∈ blockRwc b, f.loc ∉ eventPlaces := by decide +kernel

theorem rwcRows_offEvents {p : Nat} : ∀ f ∈ rwcRows p, f.loc ∉ eventPlaces := by
  unfold rwcRows
  cases hb : blockOf p with
  | none => exact fun _ h => absurd h List.not_mem_nil
  | some b => exact blockRwc_offEvents b (List.mem_of_find?_eq_some hb)

theorem takeGen_calm (h : Calm a s) (p : Nat) : Calm a (takeGen p s) :=
  h.of_writesIn (takeGen_writesIn (fun f hf => offEvents_of (rwcRows_low f hf) (rwcRows_offEvents f hf))
    (offEvents_of (by decide) (by decide)) fun f hf => offEvents_of (by revert f; decide) (by revert f; decide))
    (takeGen_clk _ _) (takeGen_hlt _ _) (takeGen_pwr _ _)

theorem toFault_calm (h : Calm a s) (p r : Nat) : Calm a (toFault p r s) := takeGen_calm (setAct_calm h _ _ _) _

theorem modIzl_calm (h : Calm a s) (j : Nat) (f : IzlS → IzlS) : Calm a (modIzl j f s) := h.frame (by rfl)

end

end Sys2Proof.Machine
end

section
namespace Sys2Proof.Machine
section
variable {s₀ s : State}

/-! ## Commands, answers and messages (R23, R24, R42, R348) -/

theorem putSession_calm (h : Calm s₀ s) (i : Nat) (x : Session) : Calm s₀ (putSession i x s) := h.frame (by rfl)

theorem plainCommand_calm (h : Calm s₀ s) (p : Nat) : Calm s₀ (plainCommand p s) :=
  .ite h (.ite h (setAct_calm h _ _ _))

theorem takeWith_calm (h : Calm s₀ s) (p : Nat) (cmd : State → State) (hc : ∀ u, Calm s₀ u → Calm s₀ (cmd u)) :
    Calm s₀ (takeWith p cmd s) := .ite (takeGen_calm h _) (hc _ (takeGen_calm h _))

theorem takeAfterStop_calm (h : Calm s₀ s) (p : Nat) (cmd : State → State) (hc : ∀ u, Calm s₀ u → Calm s₀ (cmd u)) :
    Calm s₀ (takeAfterStop p cmd s) := .ite (takeWith_calm h _ _ hc) h

theorem reply_calm (h : Calm s₀ s) (r : Req) (c addr : Nat) (st : Status) (b : List Byte) :
    Calm s₀ (reply r c addr st b s) := by
  unfold reply
  split
  · split
    · exact h
    · exact putSession_calm h _ _
  · split
    · exact addF_calm h _ _ _ (by decide)
    · exact setF_calm (setF_calm (addF_calm h _ _ _ (by decide)) _ _ _ (by decide)) _ _ _ (by decide)
  · exact h
  · exact h

theorem izlPost_calm (h : Calm s₀ s) (j vl : Nat) (m : List Byte) : Calm s₀ (izlPost j vl m s) :=
  .ite h (.ite (raise_calm (addF_calm h _ _ _ (by decide)) _ _) (modIzl_calm h _ _))

theorem sendManagement_calm (h : Calm s₀ s) (k hops d : Nat) (peer : Peer) (b : List Byte) :
    Calm s₀ (sendManagement k hops d peer b s) := by
  unfold sendManagement
  split
  · exact izlPost_calm h _ _ _
  · exact h

theorem transmit_calm (h : Calm s₀ s) (port : HPort) (peer : Peer) (f : List Byte) : Calm s₀ (transmit port peer f s) :=
  .ite (.ite (sendManagement_calm h _ _ _ _ _) h)
    (.ite (emit_calm (addF_calm (addF_calm h _ _ _ (by decide)) _ _ _ (by decide)) _ _ _) h)

theorem sendFrame_calm (h : Calm s₀ s) (i k n : Nat) (b : List Byte) : Calm s₀ (sendFrame i k n b s) := by
  unfold sendFrame
  split
  · exact h
  · exact transmit_calm (putSession_calm h _ _) _ _ _

theorem sendResponses_calm (h : Calm s₀ s) (i : Nat) : Calm s₀ (sendResponses i s) := by
  unfold sendResponses
  split
  · exact h
  · exact .foldl _ (fun _ _ hu => sendFrame_calm hu _ _ _ _) (putSession_calm h _ _) _

/-! ## Units that follow their work, and the stacks' stalls (R110, R361) -/

theorem followWork_calm {p : Nat} {busy gated : Bool} (h : Calm s₀ s) : Calm s₀ (followWork p busy gated s) :=
  .ite (.ite (setAct_calm h _ _ _) h) (.ite (setAct_calm h _ _ _) h)

theorem ethSent_calm {i n bytes : Nat} (h : Calm s₀ s) : Calm s₀ (ethSent i n bytes s) :=
  addF_calm (addF_calm h _ _ _ (by decide)) _ _ _ (by decide)

theorem countStall_calm {side t : Nat} (h : Calm s₀ s) : Calm s₀ (countStall side t s) :=
  addF_calm (h.frame (by rfl)) _ _ _ (by simp [Fld.loc, STK.WSTALL_cycles, eventPlaces]; omega)

theorem endStalls_calm {side q : Nat} (h : Calm s₀ s) : Calm s₀ (endStalls side q s) := by
  unfold endStalls
  extract_lets +onlyGivenNames l rest
  clear_value l
  split
  · exact h
  · exact .ite (countStall_calm (h.frame (by rfl))) (h.frame (by rfl))

theorem modEth_calm {i : Nat} {f : EthS → EthS} (h : Calm s₀ s) : Calm s₀ (modEth i f s) :=
  h.frame (by rfl)

/-! ## Time and pulses (R275 to R288) -/

theorem setTim_calm {t : TimS} (h : Calm s₀ s) : Calm s₀ (setTim t s) :=
  h.frame (by rfl)

theorem governBy_calm {i : Nat} (h : Calm s₀ s) : Calm s₀ (governBy i s) :=
  .ite h (raise_calm (setF_calm (setTim_calm h) _ _ _ (by decide)) _ _)

theorem noteA_calm (h : Calm s₀ s) : Calm s₀ (noteA s) :=
  .ite (setTim_calm h) (.ite (setTim_calm h) h)

theorem choosePort_calm (h : Calm s₀ s) : Calm s₀ (choosePort s) :=
  .ite (setF_calm (governBy_calm h) _ _ _ (by decide)) (.ite (governBy_calm (setF_calm (governBy_calm h) _ _ _ (by decide)))
    (.ite (setF_calm (governBy_calm h) _ _ _ (by decide)) (.ite (governBy_calm h) (setF_calm (governBy_calm h) _ _ _ (by decide)))))

theorem reselect_calm (h : Calm s₀ s) : Calm s₀ (reselect s) :=
  noteA_calm (choosePort_calm h)

theorem setFreq_calm {f : Int} (h : Calm s₀ s) : Calm s₀ (setFreq f s) :=
  setTim_calm h

theorem setPulse_calm {n v : Nat} (h : Calm s₀ s) : Calm s₀ (setPulse n v s) :=
  emit_calm (setTim_calm h) _ _ _

theorem settlePulse_calm {old : State} {n : Nat} (h : Calm s₀ s) : Calm s₀ (settlePulse old n s) :=
  .ite (setPulse_calm h) (.ite (setPulse_calm h) h)

theorem settlePulses_calm {old : State} (h : Calm s₀ s) : Calm s₀ (settlePulses old s) :=
  settlePulse_calm (settlePulse_calm h)

theorem holdFreq_calm (h : Calm s₀ s) : Calm s₀ (holdFreq s) :=
  setTim_calm (setFreq_calm h)

theorem holdoverIf_calm (h : Calm s₀ s) : Calm s₀ (holdoverIf s) :=
  .ite (settlePulses_calm (raise_calm (setF_calm (holdFreq_calm h) _ _ _ (by decide)) _ _)) h

/-! ## Sources and their readers (R86, R97, R110, R206) -/

theorem modIng_calm {i : Nat} {f : IngS → IngS} (h : Calm s₀ s) : Calm s₀ (modIng i f s) :=
  h.frame (by rfl)

theorem quitReading_calm {i who : Nat} (h : Calm s₀ s) : Calm s₀ (quitReading i who s) :=
  modIng_calm h

theorem modDch_calm {i : Nat} {f : DchS → DchS} (h : Calm s₀ s) : Calm s₀ (modDch i f s) :=
  h.frame (by rfl)

theorem decRefresh_calm {k : Nat} (h : Calm s₀ s) : Calm s₀ (decRefresh k s) :=
  followWork_calm h

theorem decRefreshAll_calm (h : Calm s₀ s) : Calm s₀ (decRefreshAll s) :=
  .foldl _ (fun _ _ hu => decRefresh_calm hu) h _

theorem setStrict_calm {i : Nat} (h : Calm s₀ s) : Calm s₀ (setStrict i s) :=
  setF_calm h _ _ _ (by decide)

theorem keepReaders_calm {i : Nat} {f : Nat × Nat → Bool} (h : Calm s₀ s) : Calm s₀ (keepReaders i f s) :=
  modDch_calm h

theorem quitReadingDch_calm {i who : Nat} (h : Calm s₀ s) : Calm s₀ (quitReadingDch i who s) :=
  keepReaders_calm h

theorem quitPage_calm {pg who : Nat} (h : Calm s₀ s) : Calm s₀ (quitPage pg who s) := by
  unfold quitPage
  split
  · exact quitReadingDch_calm h
  · exact quitReading_calm h

theorem cndRefresh_calm {u : Nat} (h : Calm s₀ s) : Calm s₀ (cndRefresh u s) :=
  followWork_calm h

theorem cndRefreshAll_calm (h : Calm s₀ s) : Calm s₀ (cndRefreshAll s) :=
  .foldl _ (fun _ _ hu => cndRefresh_calm hu) h _

theorem legsDown_calm {p : Nat} (h : Calm s₀ s) : Calm s₀ (legsDown p s) :=
  .foldl _ (fun _ _ hu => .ite hu (endStalls_calm hu)) h _

/-! ## Channels, cores and lanes -/

theorem modEch_calm {c : Nat} {f : EchS → EchS} (h : Calm s₀ s) : Calm s₀ (modEch c f s) :=
  h.frame (by rfl)

theorem modOut_calm {c : Nat} {f : OutS → OutS} (h : Calm s₀ s) : Calm s₀ (modOut c f s) :=
  h.frame (by rfl)

theorem encRefresh_calm {p : Nat} (h : Calm s₀ s) : Calm s₀ (encRefresh p s) :=
  followWork_calm h

theorem rclRefresh_calm (h : Calm s₀ s) : Calm s₀ (rclRefresh s) :=
  .ite (takeGen_calm (setAct_calm h _ _ _) _) (setAct_calm h _ _ _)

theorem echRefresh_calm (h : Calm s₀ s) : Calm s₀ (echRefresh s) :=
  cndRefreshAll_calm (rclRefresh_calm (.foldl _ (fun _ _ hu => encRefresh_calm hu) h _))

theorem modLane_calm {l : Nat} {f : LneS → LneS} (h : Calm s₀ s) : Calm s₀ (modLane l f s) :=
  h.frame (by rfl)

theorem setAll_calm {p : Nat} {l : List (Fld × Nat)} (h : Calm s₀ s) (hl : ∀ f ∈ l.map Prod.fst, f.loc % 2 ^ 20 ∉ eventPlaces) :
    Calm s₀ (setAll p l s) :=
  .foldlMem _ (fun _ e he hu => setF_calm hu _ _ _ (hl e.1 (List.mem_map_of_mem he))) h

/-! ## Tokens (R149 to R173) -/

theorem poolAdd_calm {g x : Nat} (h : Calm s₀ s) : Calm s₀ (poolAdd g x s) :=
  .ite (raise_calm (addF_calm (addF_calm h _ _ _ (by decide)) _ _ _ (by decide)) _ _) (addF_calm h _ _ _ (by decide))

theorem countTokens_calm {c x : Nat} {own group : Fld} (h : Calm s₀ s) (hown : own.loc % 2 ^ 20 ∉ eventPlaces)
    (hgroup : group.loc % 2 ^ 20 ∉ eventPlaces) : Calm s₀ (countTokens c x own group s) :=
  .ite (addF_calm (addF_calm h _ _ _ hown) _ _ _ hgroup) (addF_calm h _ _ _ hown)

theorem lapse_calm {c x : Nat} (h : Calm s₀ s) : Calm s₀ (lapse c x s) :=
  raiseIf_calm (countTokens_calm h (by decide) (by decide)) _ _ _

theorem sendLending_calm {dest kind g ch row ref pic tokens deadline : Nat} (h : Calm s₀ s) :
    Calm s₀ (sendLending dest kind g ch row ref pic tokens deadline s) := by
  unfold sendLending
  extract_lets +onlyGivenNames m s1
  have k2 : Calm s₀ s1 := addF_calm (sendManagement_calm (emit_calm h _ _ _) _ _ _ _ _) _ _ _ (by decide)
  exact .ite (.ite (addF_calm k2 _ _ _ (by decide)) (raise_calm (addF_calm (addF_calm k2 _ _ _ (by decide)) _ _ _ (by decide)) _ _)) k2

theorem muxClear_calm {g : Nat} (h : Calm s₀ s) : Calm s₀ (muxClear g s) :=
  clearFields_calm (h.frame (by rfl)) _ _ (by decide)

theorem muxCommand_calm {g : Nat} (h : Calm s₀ s) : Calm s₀ (muxCommand g s) :=
  .ite h (.ite (.ite h (.ite (setAct_calm h _ _ _) (setAct_calm h _ _ _))) (.ite (muxClear_calm (plainCommand_calm h _))
    (plainCommand_calm h _)))

theorem accountLeaves_calm {c : Nat} (h : Calm s₀ s) : Calm s₀ (accountLeaves c s) := by
  unfold accountLeaves
  extract_lets +onlyGivenNames p x drop
  have hd {u : State} (hu : Calm s₀ u) : Calm s₀ (drop u) := setF_calm (setF_calm (modEch_calm hu) _ _ _ (by decide)) _ _ _ (by decide)
  split
  · exact lapse_calm (hd h)
  · extract_lets +onlyGivenNames g grant s0 m s1
    have k0 : Calm s₀ s0 := subF_calm h _ _ _ (by decide)
    have k1 : Calm s₀ s1 := by
      unfold s1
      split
      · exact poolAdd_calm (addF_calm (hd k0) _ _ _ (by decide))
      · split
        · exact addF_calm (hd k0) _ _ _ (by decide)
        · exact sendLending_calm (addF_calm (hd k0) _ _ _ (by decide))
    exact .ite (takeAfterStop_calm (setAct_calm k1 _ _ _) _ _ (fun _ hu => muxCommand_calm hu)) k1

theorem freeOp_calm {r : Req} (h : Calm s₀ s) : Calm s₀ (freeOp r s) := by
  unfold freeOp
  split
  · split
    · exact h
    · exact putSession_calm h _ _
  · exact h

theorem lateReply_calm {r : Req} {opcode addr : Nat} {st : Status} {body : List Byte} (h : Calm s₀ s) :
    Calm s₀ (lateReply r opcode addr st body s) := by
  unfold lateReply
  extract_lets +onlyGivenNames s1
  have k1 : Calm s₀ s1 := reply_calm (freeOp_calm h) _ _ _ _ _
  split
  · exact sendResponses_calm k1 _
  · exact k1

theorem dropPosts_calm (h : Calm s₀ s) : Calm s₀ (dropPosts s) :=
  .foldl _ (fun _ _ hu => lateReply_calm hu) (h.frame (by rfl)) _

/-! ## The twin, the output ring and a muted channel (R191, R236 to R266) -/

theorem modTwn_calm {f : TwnS → TwnS} (h : Calm s₀ s) : Calm s₀ (modTwn f s) :=
  h.frame (by rfl)

theorem showJoins_calm (h : Calm s₀ s) : Calm s₀ (showJoins s) :=
  setF_calm (setF_calm (setF_calm h _ _ _ (by decide)) _ _ _ (by decide)) _ _ _ (by decide)

theorem setJoin_calm {c : Nat} {j : Join} (h : Calm s₀ s) : Calm s₀ (setJoin c j s) :=
  showJoins_calm (modTwn_calm h)

theorem dropJoin_calm {c : Nat} (h : Calm s₀ s) : Calm s₀ (dropJoin c s) :=
  showJoins_calm (modTwn_calm h)

theorem goSolo_calm (h : Calm s₀ s) : Calm s₀ (goSolo s) :=
  setF_calm (modTwn_calm h) _ _ _ (by decide)

theorem modSeg_calm {c col : Nat} {f : Seg → Seg} (h : Calm s₀ s) : Calm s₀ (modSeg c col f s) :=
  modOut_calm h

theorem passEntry_calm {c : Nat} {e : RingEntry} (h : Calm s₀ s) : Calm s₀ (passEntry c e s) :=
  modOut_calm (modSeg_calm h)

theorem releaseCopied_calm {c : Nat} (h : Calm s₀ s) : Calm s₀ (releaseCopied c s) :=
  .foldl _ (fun _ _ hu => passEntry_calm hu) h _

theorem withhold_calm {c : Nat} {e : RingEntry} (h : Calm s₀ s) : Calm s₀ (withhold c e s) :=
  passEntry_calm (addF_calm (subF_calm h _ _ _ (by decide)) _ _ _ (by decide))

theorem dropJobs_calm {c : Nat} (h : Calm s₀ s) : Calm s₀ (dropJobs c s) :=
  h.frame (by rfl)

theorem muteChannel_calm {c reason : Nat} {j : Join} (h : Calm s₀ s) : Calm s₀ (muteChannel c reason j s) := by
  unfold muteChannel
  extract_lets +onlyGivenNames p s1
  have k3 : Calm s₀ s1 := .foldl _ (fun _ _ hu => .ite hu (withhold_calm hu)) h _
  extract_lets +onlyGivenNames left s2
  have k5 : Calm s₀ s2 := setF_calm (setF_calm (modEch_calm (dropJobs_calm k3)) _ _ _ (by decide)) _ _ _ (by decide)
  exact echRefresh_calm (raise_calm (setJoin_calm (setAct_calm (modTwn_calm (modOut_calm (lapse_calm k5))) _ _ _)) _ _)

theorem discardSlices_calm {c : Nat} (h : Calm s₀ s) : Calm s₀ (discardSlices c s) :=
  setF_calm (addF_calm (modOut_calm h) _ _ _ (by decide)) _ _ _ (by decide)

/-! ## Ports and links that go down (R325, R336, R344) -/

theorem ptpAfterPort_calm {i : Nat} (h : Calm s₀ s) : Calm s₀ (ptpAfterPort i s) :=
  .ite h (holdoverIf_calm (reselect_calm h))

theorem legsOfPortDown_calm {i : Nat} (h : Calm s₀ s) : Calm s₀ (legsOfPortDown i s) :=
  .ite h (.foldl _ (fun _ _ hu => legsDown_calm hu) (.foldl _ (fun _ _ hu => releaseCopied_calm (legsDown_calm hu)) h _) _)

theorem subportDown_calm {i k : Nat} (h : Calm s₀ s) : Calm s₀ (subportDown i k s) := by
  unfold subportDown
  extract_lets +onlyGivenNames p s0
  split
  · exact modEth_calm h
  · extract_lets +onlyGivenNames up s1
    have k2 : Calm s₀ s1 := emit_calm (raise_calm (addF_calm (setF_calm (modEth_calm h) _ _ _ (by decide)) _ _ _ (by decide)) _ _) _ _ _
    exact .ite k2 (ptpAfterPort_calm (legsOfPortDown_calm (.ite (setAct_calm (raise_calm k2 _ _) _ _ _)
      (raise_calm k2 _ _))))

theorem portDown_calm {i : Nat} (h : Calm s₀ s) : Calm s₀ (portDown i s) :=
  .foldl _ (fun _ _ hu => subportDown_calm hu) h _

theorem stopReading_calm {c : Nat} (h : Calm s₀ s) : Calm s₀ (stopReading c s) :=
  .ite h (quitPage_calm h)

theorem settleSpare_calm {j : Nat} (h : Calm s₀ s) : Calm s₀ (settleSpare j s) :=
  setF_calm h _ _ _ (by decide)

theorem settleRoutes_calm {j : Nat} (h : Calm s₀ s) : Calm s₀ (settleRoutes j s) :=
  raiseIf_calm (.ite h (raise_calm (h.frame (by rfl)) _ _)) _ _ _

theorem countDoubt_calm {l : List (Nat × Nat)} (h : Calm s₀ s) : Calm s₀ (countDoubt l s) :=
  .foldl _ (fun _ _ hu => raise_calm (addF_calm hu _ _ _ (by decide)) _ _) h _

theorem izlDown_calm {j st reason : Nat} (h : Calm s₀ s) : Calm s₀ (izlDown j st reason s) := by
  unfold izlDown
  extract_lets +onlyGivenNames p
  split
  · exact h
  · extract_lets +onlyGivenNames n _ s1 s2
    have k2 : Calm s₀ s2 := setAll_calm (modIzl_calm h _ _) (by decide)
    extract_lets +onlyGivenNames s3
    have k3 : Calm s₀ s3 := raise_calm (addF_calm (setAct_calm k2 _ _ _) _ _ _ (by decide)) _ _
    exact settleRoutes_calm (countDoubt_calm (raiseIf_calm (addF_calm k3 _ _ _ (by decide)) _ _ _))

theorem askWidth_calm {j code mask : Nat} (h : Calm s₀ s) : Calm s₀ (askWidth j code mask s) :=
  modIzl_calm h _ _

theorem narrowOp_calm {j : Nat} {bad : List Nat} (h : Calm s₀ s) : Calm s₀ (narrowOp j bad s) :=
  .ite h (.ite (settleSpare_calm h)
    (.ite (izlDown_calm h) (settleSpare_calm (raise_calm (addF_calm (askWidth_calm h) _ _ _ (by decide)) _ _))))

theorem loseLock_calm {l step : Nat} {fast : Bool} (h : Calm s₀ s) : Calm s₀ (loseLock l step fast s) := by
  unfold loseLock
  extract_lets +onlyGivenNames p s1
  have k4 : Calm s₀ s1 := raise_calm (addF_calm (setF_calm (setF_calm h _ _ _ (by decide)) _ _ _ (by decide)) _ _ _ (by decide)) _ _
  extract_lets +onlyGivenNames s2
  have k6 : Calm s₀ s2 := .ite k4 (setAct_calm (modLane_calm k4) _ _ _)
  extract_lets +onlyGivenNames s3
  have k7 : Calm s₀ s3 := .ite (raise_calm (addF_calm (satF_calm (modLane_calm k6) _ _ _ (by decide)) _ _ _ (by decide)) _ _) k6
  exact .ite (narrowOp_calm (modIzl_calm k7 _ _)) (subportDown_calm k7)

/-! ## Unit faults (R143, R368, R404) -/

theorem echFault_calm {c reason : Nat} (h : Calm s₀ s) : Calm s₀ (echFault c reason s) := by
  unfold echFault
  extract_lets +onlyGivenNames s1
  have k2 : Calm s₀ s1 := toFault_calm (discardSlices_calm (dropJobs_calm h)) _ _
  extract_lets +onlyGivenNames s2
  have k3 : Calm s₀ s2 := stopReading_calm (accountLeaves_calm k2)
  exact echRefresh_calm (.ite (dropJoin_calm k3) k3)

theorem faultOwners_calm (h : Calm s₀ s) : Calm s₀ (faultOwners s) :=
  .foldl _ (fun _ _ hu => toFault_calm hu _ _) h _

theorem clientFault_calm {p reason : Nat} (h : Calm s₀ s) : Calm s₀ (clientFault p reason s) := by
  unfold clientFault
  split
  · exact echFault_calm h
  · exact toFault_calm h _ _

theorem unitFault_calm {p reason : Nat} (h : Calm s₀ s) : Calm s₀ (unitFault p reason s) := by
  unfold unitFault
  split
  · exact echFault_calm h
  · exact .ite (echFault_calm (toFault_calm h _ _)) (toFault_calm h _ _)
  · exact cndRefreshAll_calm (toFault_calm h _ _)
  · exact setStrict_calm (decRefreshAll_calm (toFault_calm h _ _))
  · exact .ite (setF_calm (goSolo_calm (modTwn_calm h)) _ _ _ (by decide))
      (toFault_calm (.foldl _ (fun _ _ hu => .ite (muteChannel_calm hu) hu) h _) _ _)
  · exact settlePulses_calm (setF_calm (setTim_calm (toFault_calm h _ _)) _ _ _ (by decide))
  · exact loseLock_calm h
  · exact toFault_calm (portDown_calm h) _ _
  · exact .ite (izlDown_calm h) (toFault_calm h _ _)
  · exact faultOwners_calm (toFault_calm h _ _)
  · exact .foldl _ (fun _ _ hu => .ite (clientFault_calm hu) hu) (toFault_calm h _ _) _
  · exact setF_calm (setF_calm (toFault_calm h _ _) _ _ _ (by decide)) _ _ _ (by decide)
  · exact toFault_calm h _ _

/-! ## What a reset of the main domain ends -/

theorem loseStaging_calm (h : Calm s₀ s) : Calm s₀ (loseStaging s) := by
  unfold loseStaging
  split
  · split
    · exact h
    · extract_lets +onlyGivenNames _ f s1
      have k1 : Calm s₀ s1 := setF_calm (setF_calm (setF_calm (h.frame (by rfl)) _ _ _ (by decide)) _ _ _ (by decide)) _ _ _ (by decide)
      split
      · exact lateReply_calm k1
      · exact k1
  · split
    · exact .ite h (setF_calm (h.frame (by rfl)) _ _ _ (by decide))
    · exact h

end

end Sys2Proof.Machine
end

section
/-! # The governor's registers and what leaves them alone (R452, R453) -/

namespace Sys2Proof.Machine

/-- the registers of page HLT by which the governor and the shutdown are known. -/
def governorFields : List Fld := [HLT.ST_throttle, HLT.ST_shutdown, HLT.GOV_STAT_level, HDR.EVENT 0, HDR.EVENT 1]

/-- any key but theirs. -/
def Spares (k : Nat) : Prop := ¬ AtFields pgHLT governorFields k

theorem governorFields_low : ∀ f ∈ governorFields, f.loc < 2 ^ 20 := by decide

theorem spares_page {p : Nat} {f : Fld} (hp : p ≠ pgHLT) (hf : f.loc < 2 ^ 20) : Spares (f.key p) :=
  not_atFields_page hp governorFields_low hf

theorem spares_off {p : Nat} {f : Fld} (hf : f.loc < 2 ^ 20) (h : f.loc ∉ governorFields.map Fld.loc) : Spares (f.key p) :=
  not_atFields_off governorFields_low hf h

theorem WritesIn.spared {s t : State} {f : Fld} (h : WritesIn Spares s t) (hf : f ∈ governorFields) :
    Sys2Proof.Machine.getF pgHLT f t = Sys2Proof.Machine.getF pgHLT f s :=
  h.getF (not_not.2 (atFields_of_mem hf))

section
variable {p : Nat} {s : State}

/-- a write of another page. -/
theorem setF_sparesPage (hp : p ≠ pgHLT) (f : Fld) (v : Nat) (s : State) (hf : f.loc < 2 ^ 20) :
    WritesIn Spares s (setF p f v s) := setF_writesIn (spares_page hp hf)

/-- a write of another place of whatever page. -/
theorem setF_spares (p : Nat) (f : Fld) (v : Nat) (s : State)
    (hf : f.loc < 2 ^ 20 ∧ f.loc ∉ governorFields.map Fld.loc) : WritesIn Spares s (setF p f v s) :=
  setF_writesIn (spares_off hf.1 hf.2)

theorem raise_spares {k : Nat} (hk : ∀ f ∈ eventFields k, f.loc < 2 ^ 20 ∧ f.loc ∉ governorFields.map Fld.loc) :
    WritesIn Spares s (raise p k s) := raise_writesIn fun f hf => spares_off (hk f hf).1 (hk f hf).2

theorem raise_sparesPage {k : Nat} (hp : p ≠ pgHLT) (hk : k < 32) : WritesIn Spares s (raise p k s) :=
  raise_writesIn fun f hf => spares_page hp (eventFields_loc hk f hf)

theorem pgCND_ne_pgHLT {u : Nat} (hu : u < 4) : pgCND u ≠ pgHLT := by unfold pgCND pgHLT; omega

theorem setAct_spares (hp : p ≠ pgHLT) (st r : Nat) (s : State) : WritesIn Spares s (setAct p st r s) :=
  setAct_writesIn (fun f hf => spares_page hp (by revert f; decide)) (spares_page (by decide) (by decide))
    fun _ hu f hf => spares_page (pgCND_ne_pgHLT hu) (by revert f; decide)

theorem followWork_spares (hp : p ≠ pgHLT) (busy gated : Bool) (s : State) : WritesIn Spares s (followWork p busy gated s) :=
  .ite (.ite (setAct_spares hp _ _ _) (.refl s)) (.ite (setAct_spares hp _ _ _) (.refl s))

/-! ## Throttling's beginning and end (R452) -/

theorem enginePage_ne_pgHLT : ∀ e ∈ engines, enginePage e.1 e.2 ≠ pgHLT := by decide

theorem startWake_writesIn {K : Nat → Prop} (cls u : Nat) (s : State) : WritesIn K s (startWake cls u s) :=
  .ite (.refl s) (.of_eq rfl)

theorem settleEngines_spares (s : State) : WritesIn Spares s (settleEngines s) := by
  refine .foldl (fun u e he => ?_) s
  have hunit : WritesIn Spares u (setUnit e.1 e.2 1 u) := .of_eq rfl
  exact .ite (.ite (.refl u) (hunit.trans (setAct_spares (enginePage_ne_pgHLT e he) _ _ _))) (startWake_writesIn _ _ _)

theorem endStep_spares (last : Nat) (s : State) : WritesIn Spares s (endStep last s) :=
  WritesIn.trans (t := { s with rot := { s.rot with phase := 0, moved := [] } }) (.of_eq rfl) (setF_spares _ _ _ _ (by decide))

theorem abandonStep_spares (s : State) : WritesIn Spares s (abandonStep s) :=
  .ite (.refl s) ((setF_spares _ _ _ _ (by decide)).trans (endStep_spares _ _))

theorem pgENC_ne_pgHLT {q : Nat} (hq : q < 17) : pgENC q ≠ pgHLT := by unfold pgENC pgHLT; omega

theorem mapCore_spares {q : Nat} (hq : q < 17) (l : Nat) (s : State) : WritesIn Spares s (mapCore q l s) :=
  (((setF_sparesPage (pgENC_ne_pgHLT hq) _ _ _ (by decide)).trans (setF_sparesPage (pgENC_ne_pgHLT hq) _ _ _ (by decide))).trans
    (setF_sparesPage (pgENC_ne_pgHLT hq) _ _ _ (by decide))).trans (setF_sparesPage (pgENC_ne_pgHLT hq) _ _ _ (by decide))

theorem offerCore_spares {q : Nat} (hq : q < 17) (s : State) : WritesIn Spares s (offerCore q s) := by
  have hp : pgENC q ≠ pgHLT := pgENC_ne_pgHLT hq
  unfold offerCore
  dsimp only
  split
  · exact (((mapCore_spares hq _ s).trans (setF_spares _ _ _ _ (by decide))).trans (setAct_spares hp _ _ _)).trans
      (followWork_spares hp _ _ _)
  · exact ((setF_sparesPage hp _ _ s (by decide)).trans (setF_sparesPage hp _ _ _ (by decide))).trans (setAct_spares hp _ _ _)

theorem abandonGolden_spares (s : State) : WritesIn Spares s (abandonGolden s) :=
  .foldl (fun u q hq => .ite ((offerCore_spares (List.mem_range.1 hq) u).trans (setF_spares _ _ _ _ (by decide))) (.refl u)) s

/-! ## The level (R452) -/

theorem lowerLevel_writesIn (n : Nat) (s : State) : WritesIn (AtFields pgHLT [HLT.GOV_STAT_level]) s (lowerLevel n s) :=
  .ite (WritesIn.trans (t := { s with hlt := { s.hlt with belowSince := none } }) (.of_eq rfl)
    (setF_writesIn (atFields_of_mem (by simp)))) (.refl s)

theorem govLevel_congr {s t : State} (h : t.regs = s.regs) : govLevel t = govLevel s := getF_congr _ _ _ _ h

/-- the level falls to what is allowed and never rises. -/
theorem lowerLevel_level {n : Nat} (hn : n < 4) (s : State) : govLevel (lowerLevel n s) = min (govLevel s) n := by
  unfold lowerLevel
  split
  · next h => rw [Nat.min_eq_right h.le]; exact (getF_setF_same pgHLT HLT.GOV_STAT_level n _).trans (Nat.mod_eq_of_lt hn)
  · next h => rw [Nat.min_eq_left (Nat.not_lt.1 h)]

theorem levelFor_lt (c : Nat) (s : State) : levelFor c s < 4 := by unfold levelFor; split_ifs <;> omega

theorem levelFor_congr {c : Nat} {s t : State} (h : ∀ f ∈ [HLT.GOV_t0, HLT.GOV_t1, HLT.GOV_t2], getF pgHLT f t = getF pgHLT f s) :
    levelFor c t = levelFor c s := by
  unfold levelFor
  rw [h HLT.GOV_t0 (by simp), h HLT.GOV_t1 (by simp), h HLT.GOV_t2 (by simp)]

theorem trackDwell_regs (c : Nat) (s : State) : (trackDwell c s).regs = s.regs := by
  unfold trackDwell; split_ifs <;> rfl

theorem trackDwell_clk (c : Nat) (s : State) : (trackDwell c s).clk = s.clk := by
  unfold trackDwell; split_ifs <;> rfl

theorem trackCycle_regs (c : Nat) (s : State) : (trackCycle c s).regs = s.regs := by
  unfold trackCycle; dsimp only; split_ifs <;> rfl

theorem trackCycle_tjNow (c : Nat) (s : State) : (trackCycle c s).hlt.tjNow = s.hlt.tjNow := by
  unfold trackCycle; dsimp only; split_ifs <;> rfl

/-! ## A reading of Tj (R452) -/

/-- a good reading is shown. -/
def readingShown (c : Nat) (s : State) : State := trackCycle c (showTj c (setF pgHLT HLT.ST_sensor_fail 0 s))

/-- the fields that show a reading. -/
def readingFields : List Fld := [HLT.ST_sensor_fail, HLT.TJ_max_c, HLT.TJ_tj_c]

theorem readingShown_writesIn (c : Nat) (s : State) : WritesIn (AtFields pgHLT readingFields) s (readingShown c s) := by
  have hmax : ∀ u : State, WritesIn (AtFields pgHLT readingFields) u (showTj c u) := fun u =>
    (WritesIn.of_eq (t := { u with hlt := { u.hlt with tjNow := c, tjSecond := max c u.hlt.tjSecond } }) rfl).trans
      ((setF_writesIn (atFields_of_mem (by simp [readingFields]))).trans (setF_writesIn (atFields_of_mem (by simp [readingFields]))))
  exact ((setF_writesIn (atFields_of_mem (by simp [readingFields]))).trans (hmax _)).trans (.of_eq (trackCycle_regs _ _))

/-- the level after a good reading, before throttling. -/
def readingLevelled (c : Nat) (s : State) : State :=
  lowerLevel (levelFor c (readingShown c s)) { readingShown c s with hlt := { (readingShown c s).hlt with
    byStack := (readingShown c s).hlt.byStack.filter (· < levelFor c (readingShown c s)) } }

theorem readingLevelled_writesIn (c : Nat) (s : State) :
    WritesIn (AtFields pgHLT (HLT.GOV_STAT_level :: readingFields)) s (readingLevelled c s) :=
  ((readingShown_writesIn c s).mono fun _ => atFields_mono (List.subset_cons_self _ _)).trans
    ((WritesIn.of_eq (t := { readingShown c s with hlt := { (readingShown c s).hlt with
      byStack := (readingShown c s).hlt.byStack.filter (· < levelFor c (readingShown c s)) } }) rfl).trans
      ((lowerLevel_writesIn _ _).mono fun _ => atFields_mono (by simp)))

theorem readingLevelled_level (c : Nat) (s : State) : govLevel (readingLevelled c s) = min (govLevel s) (levelFor c s) := by
  have hshown : ∀ f : Fld, f.loc ∉ readingFields.map Fld.loc → getF pgHLT f (readingShown c s) = getF pgHLT f s := fun f hf =>
    (readingShown_writesIn c s).getF (not_atFields hf)
  have hlevel : govLevel (readingShown c s) = govLevel s := hshown _ (by decide)
  have hfor : levelFor c (readingShown c s) = levelFor c s :=
    levelFor_congr fun f hf => hshown f (by revert f; decide)
  refine (lowerLevel_level (levelFor_lt _ _) _).trans ?_
  rw [hfor]
  exact congrArg (min · _) hlevel

theorem readingLevelled_throttle (c : Nat) (s : State) : isF pgHLT HLT.ST_throttle (readingLevelled c s) = isF pgHLT HLT.ST_throttle s :=
  (readingLevelled_writesIn c s).isF (not_atFields (by decide))

theorem governorReading_good {c : Byte} {s : State} (hrun : s.pwr.mainRun = true) (hgen : pendingGen pgHLT s = false) :
    governorReadingOp (some c) s = trackDwell c.toNat
      (if 110 ≤ c.toNat then startThrottle (readingLevelled c.toNat s)
       else if c.toNat < 107 then endThrottle (readingLevelled c.toNat s) else readingLevelled c.toNat s) := by
  unfold governorReadingOp
  rw [hrun, hgen]
  rfl

end
end Sys2Proof.Machine
end

section
/-! # Readings of Tj, the dwell, and stocktake, one clause of O50 at a time -/

namespace Sys2Proof.Machine

section
variable {s : State}

/-! ## Readings (R452) -/

theorem getF_trackDwell (c p : Nat) (f : Fld) (s : State) : getF p f (trackDwell c s) = getF p f s :=
  getF_congr _ _ _ _ (trackDwell_regs c s)

theorem isF_trackDwell (c p : Nat) (f : Fld) (s : State) : isF p f (trackDwell c s) = isF p f s :=
  congrArg (· == 1) (getF_trackDwell c p f s)

theorem readingShown_tj (c : Byte) (s : State) : getF pgHLT HLT.TJ_tj_c (readingShown c.toNat s) = c.toNat :=
  (getF_congr _ _ _ _ (trackCycle_regs _ _)).trans
    ((getF_setF_same pgHLT HLT.TJ_tj_c _ _).trans (Nat.mod_eq_of_lt c.isLt))

theorem readingShown_max (c : Nat) (s : State) :
    getF pgHLT HLT.TJ_max_c (readingShown c s) = max c (getF pgHLT HLT.TJ_max_c s) % 2 ^ 8 := by
  have hbefore : getF pgHLT HLT.TJ_max_c (setF pgHLT HLT.ST_sensor_fail 0 s) = getF pgHLT HLT.TJ_max_c s :=
    getF_setF_field _ _ _ _ _ (by decide)
  refine (getF_congr _ _ _ _ (trackCycle_regs _ _)).trans ?_
  unfold showTj
  rw [getF_setF_field _ _ _ _ _ (by decide), getF_setF_same, hbefore]
  rfl

theorem endThrottle_of_not (h : isF pgHLT HLT.ST_throttle s = false) : endThrottle s = s := by
  unfold endThrottle; rw [h]; rfl

theorem startThrottle_of_not (h : isF pgHLT HLT.ST_throttle s = false) : startThrottle s =
    settleEngines (abandonGolden (abandonStep (raise pgHLT 0 (setF pgHLT HLT.ST_throttle 1 (lowerLevel 0 s))))) := by
  unfold startThrottle; rw [h]; rfl

theorem governorReading_below {c : Byte} (hrun : s.pwr.mainRun = true) (hgen : pendingGen pgHLT s = false)
    (hthr : isF pgHLT HLT.ST_throttle s = false) (hc : c.toNat < 110) :
    governorReadingOp (some c) s = trackDwell c.toNat (readingLevelled c.toNat s) := by
  rw [governorReading_good hrun hgen, if_neg (Nat.not_le.2 hc), endThrottle_of_not ((readingLevelled_throttle _ _).trans hthr),
    ite_self]

/-- below 110 °C with no throttling, the reading is shown and the level falls to what it allows. -/
theorem governorReading_shows {c : Byte} (hrun : s.pwr.mainRun = true) (hgen : pendingGen pgHLT s = false)
    (hthr : isF pgHLT HLT.ST_throttle s = false) (hc : c.toNat < 110) :
    getF pgHLT HLT.TJ_tj_c (governorReadingOp (some c) s) = c.toNat ∧
    getF pgHLT HLT.TJ_max_c (governorReadingOp (some c) s) = max c.toNat (getF pgHLT HLT.TJ_max_c s) % 2 ^ 8 ∧
    getF pgHLT HLT.GOV_STAT_level (governorReadingOp (some c) s) = min (govLevel s) (levelFor c.toNat s) ∧
    State.regsBut [pgHLT] s (governorReadingOp (some c) s) := by
  have hlowered : ∀ f : Fld, f.loc ∉ [HLT.GOV_STAT_level].map Fld.loc →
      getF pgHLT f (readingLevelled c.toNat s) = getF pgHLT f (readingShown c.toNat s) := fun f hf =>
    ((lowerLevel_writesIn _ _).getF (not_atFields hf)).trans (getF_congr _ _ _ _ rfl)
  rw [governorReading_below hrun hgen hthr hc]
  refine ⟨?_, ?_, ?_, ?_⟩
  · rw [getF_trackDwell, hlowered _ (by decide), readingShown_tj]
  · rw [getF_trackDwell, hlowered _ (by decide), readingShown_max]
  · rw [getF_trackDwell]
    exact readingLevelled_level _ _
  · exact ((readingLevelled_writesIn _ s).onPage (by decide)).trans (.of_eq (trackDwell_regs _ _))

/-- from 110 °C throttling begins, at level 0. -/
theorem governorReading_throttles {c : Byte} (hrun : s.pwr.mainRun = true) (hgen : pendingGen pgHLT s = false)
    (hthr : isF pgHLT HLT.ST_throttle s = false) (hc : 110 ≤ c.toNat) :
    getF pgHLT HLT.GOV_STAT_level (governorReadingOp (some c) s) = 0 ∧
    isF pgHLT HLT.ST_throttle (governorReadingOp (some c) s) = true ∧
    getF pgHLT (HDR.EVENT 0) (governorReadingOp (some c) s) = 1 := by
  generalize hu : raise pgHLT 0 (setF pgHLT HLT.ST_throttle 1 (lowerLevel 0 (readingLevelled c.toNat s))) = u
  have hafter : ∀ f ∈ governorFields, getF pgHLT f (governorReadingOp (some c) s) = getF pgHLT f u := fun f hf => by
    rw [governorReading_good hrun hgen, if_pos hc, getF_trackDwell, startThrottle_of_not ((readingLevelled_throttle _ _).trans hthr), hu]
    exact (((abandonStep_spares u).trans (abandonGolden_spares _)).trans (settleEngines_spares _)).spared hf
  have hraise : ∀ f : Fld, f.loc ∉ (eventFields 0).map Fld.loc →
      getF pgHLT f u = getF pgHLT f (setF pgHLT HLT.ST_throttle 1 (lowerLevel 0 (readingLevelled c.toNat s))) := fun f hf => by
    rw [← hu]
    exact (raise_writesIn (K := AtFields pgHLT (eventFields 0)) fun _ => atFields_of_mem).getF (not_atFields hf)
  refine ⟨?_, ?_, ?_⟩
  · rw [hafter _ (by simp [governorFields]), hraise _ (by decide), getF_setF_field _ _ _ _ _ (by decide)]
    exact (lowerLevel_level (by decide) _).trans (Nat.min_zero _)
  · unfold isF
    rw [hafter _ (by simp [governorFields]), hraise _ (by decide), getF_setF_same]
    rfl
  · rw [hafter _ (by simp [governorFields]), ← hu]
    exact raise_event _ _ _

/-- below 107 °C throttling ends. -/
theorem governorReading_recovers {c : Byte} (hrun : s.pwr.mainRun = true) (hgen : pendingGen pgHLT s = false)
    (hthr : isF pgHLT HLT.ST_throttle s = true) (hc : c.toNat < 107) :
    isF pgHLT HLT.ST_throttle (governorReadingOp (some c) s) = false := by
  rw [governorReading_good hrun hgen, if_neg (by omega), if_pos hc, isF_trackDwell]
  unfold endThrottle
  rw [readingLevelled_throttle, hthr, if_pos rfl]
  unfold isF
  rw [(settleEngines_spares _).spared (by simp [governorFields]), getF_setF_same]
  rfl

/-- with the main domain off the reading is followed and nothing is shown. -/
theorem governorReading_off {c : Byte} (hoff : s.pwr.mainRun = false) :
    (governorReadingOp (some c) s).hlt.tjNow = c.toNat ∧ (governorReadingOp (some c) s).regs = s.regs := by
  unfold governorReadingOp
  rw [hoff]
  exact ⟨trackCycle_tjNow _ _, trackCycle_regs _ _⟩

/-- every sensor failed: noted, with its event, before the level. -/
def sensorsFailed (s : State) : State :=
  raiseIf (!isF pgHLT HLT.ST_sensor_fail s) pgHLT 6 (setF pgHLT HLT.ST_sensor_fail 1 { s with hlt := { s.hlt with belowSince := none } })

theorem governorReading_none (hrun : s.pwr.mainRun = true) (hgen : pendingGen pgHLT s = false) :
    governorReadingOp none s = lowerLevel 0 (sensorsFailed s) := by
  unfold governorReadingOp
  rw [hrun, hgen]
  rfl

theorem sensorsFailed_shown (s : State) : isF pgHLT HLT.ST_sensor_fail (sensorsFailed s) = true := by
  have hraise : ∀ u : State, isF pgHLT HLT.ST_sensor_fail (raiseIf (!isF pgHLT HLT.ST_sensor_fail s) pgHLT 6 u) =
      isF pgHLT HLT.ST_sensor_fail u := fun u =>
    (raiseIf_writesIn (K := AtFields pgHLT (eventFields 6)) fun _ => atFields_of_mem).isF (not_atFields (by decide))
  refine (hraise _).trans ?_
  unfold isF
  rw [getF_setF_same]
  rfl

theorem sensorsFailed_event (h : isF pgHLT HLT.ST_sensor_fail s = false) : getF pgHLT (HDR.EVENT 6) (sensorsFailed s) = 1 := by
  unfold sensorsFailed raiseIf
  rw [h]
  exact raise_event _ _ _

theorem sensorsFailed_regsBut (s : State) : State.regsBut [pgHLT] s (sensorsFailed s) :=
  (State.regsBut.of_eq (t := { s with hlt := { s.hlt with belowSince := none } }) rfl).trans
    ((setF_regsBut _ _ _ _ (by decide)).trans (raiseIf_regsBut _ _ _ _ (by decide)))

/-- with every sensor failed the level is 0. -/
theorem governorReading_fails (hrun : s.pwr.mainRun = true) (hgen : pendingGen pgHLT s = false) :
    getF pgHLT HLT.GOV_STAT_level (governorReadingOp none s) = 0 ∧ isF pgHLT HLT.ST_sensor_fail (governorReadingOp none s) = true ∧
    (isF pgHLT HLT.ST_sensor_fail s = false → getF pgHLT (HDR.EVENT 6) (governorReadingOp none s) = 1) ∧
    State.regsBut [pgHLT] s (governorReadingOp none s) := by
  have hlow : WritesIn (AtFields pgHLT [HLT.GOV_STAT_level]) (sensorsFailed s) (lowerLevel 0 (sensorsFailed s)) :=
    lowerLevel_writesIn 0 _
  rw [governorReading_none hrun hgen]
  refine ⟨(lowerLevel_level (by decide) _).trans (Nat.min_zero _), ?_, fun h => ?_,
    (sensorsFailed_regsBut s).trans (hlow.onPage (by decide))⟩
  · rw [hlow.isF (not_atFields (by decide)), sensorsFailed_shown]
  · rw [hlow.getF (not_atFields (by decide)), sensorsFailed_event h]

/-- when its dwell is over the level rises by one (R452). -/
theorem governorRestore_raises {a : Nat} (ha : s.hlt.belowSince = some a) (hlevel : govLevel s < 3)
    (hthr : isF pgHLT HLT.ST_throttle s = false) (hfail : isF pgHLT HLT.ST_sensor_fail s = false) :
    govLevel (governorRestoreOp s) = govLevel s + 1 ∧ a + getF pgHLT HLT.GOV_dwell_s s * tickS ≤ (governorRestoreOp s).clk ∧
    State.fieldsBut pgHLT [HLT.GOV_STAT_level] s (governorRestoreOp s) := by
  generalize hu : advanceTo (a + getF pgHLT HLT.GOV_dwell_s s * tickS) s = u
  have hop : governorRestoreOp s = trackDwell s.hlt.tjNow
      (setF pgHLT HLT.GOV_STAT_level (govLevel s + 1) { u with hlt := { u.hlt with belowSince := none } }) := by
    unfold governorRestoreOp
    rw [ha, ← hu]
    exact if_neg (by simp [hthr, hfail, hlevel.ne])
  have hregs : u.regs = s.regs := by rw [← hu, advanceTo_regs]
  have hclk : a + getF pgHLT HLT.GOV_dwell_s s * tickS ≤ u.clk := by
    rw [← hu, advanceTo_clk]
    exact le_max_right _ _
  rw [hop]
  refine ⟨?_, ?_, ?_⟩
  · rw [govLevel_congr (trackDwell_regs _ _)]
    exact (getF_setF_same pgHLT HLT.GOV_STAT_level _ _).trans (Nat.mod_eq_of_lt (show govLevel s + 1 < 4 by omega))
  · rw [trackDwell_clk, setF_clk]
    exact hclk
  · exact fieldsBut_iff.2 (((WritesIn.of_eq (t := { u with hlt := { u.hlt with belowSince := none } }) hregs).trans
      (setF_writesIn (atFields_of_mem (by simp)))).trans (.of_eq (trackDwell_regs _ _)))

/-! ## Snapshots (R451) and TJ -/

theorem snapClrOp_clears (s : State) : (snapClrOp s).2.hlt.snaps = [] ∧ (snapClrOp s).2.hlt.faultHeld = false ∧
    getF pgHLT HLT.SNAP_CNT_held (snapClrOp s).2 = 0 ∧ State.fieldsBut pgHLT [HLT.SNAP_CNT_held] s (snapClrOp s).2 := by
  refine ⟨?_, ?_, getF_setF_same _ _ _ _, ?_⟩
  · exact congrArg HltS.snaps (setF_hlt _ _ _ _)
  · exact congrArg HltS.faultHeld (setF_hlt _ _ _ _)
  · exact fieldsBut_iff.2 ((WritesIn.of_eq (t := { s with hlt := { s.hlt with snaps := [], faultHeld := false } }) rfl).trans
      (setF_writesIn (atFields_of_mem (by simp))))

/-! ## Stocktake (R33, R450, R451) -/

theorem advanceTo_hlt (t : Nat) (s : State) : (advanceTo t s).hlt = s.hlt := by
  unfold advanceTo passTicks; split <;> rfl

/-- the tick of the equations' next microsecond is still to come. -/
theorem nextMicrosecond_clk (s : State) : (advanceTo ((s.clk / tickUs + 1) * tickUs) s).clk = (s.clk / tickUs + 1) * tickUs := by
  have htick : tickUs = 200 := rfl
  rw [advanceTo_clk, htick]
  omega

variable {w : State}

/-- the equations that fail, kept. -/
def stocktaken (w : State) : State := { w with hlt := { w.hlt with failing := stockFailures w } }

theorem stocktake_runs (hw : w = advanceTo ((s.clk / tickUs + 1) * tickUs) s) (hrun : stocktakeRuns s = true) :
    stocktakeOp s = (stockFailures w).foldl (fun u e =>
      if s.hlt.failing.contains e then satF pgHLT HLT.VIOL_us 1 u else stockFailure e.1 e.2 u) (stocktaken w) := by
  have hhlt : s.hlt = w.hlt := by rw [hw, advanceTo_hlt]
  rw [hhlt, hw]
  unfold stocktakeOp
  rw [hrun]
  exact if_neg Bool.false_ne_true

theorem stocktake_none (hw : w = advanceTo ((s.clk / tickUs + 1) * tickUs) s) (hrun : stocktakeRuns s = true)
    (h : stockFailures w = []) : stocktakeOp s = stocktaken w := by
  rw [stocktake_runs hw hrun, h, List.foldl_nil]

theorem stocktake_one {f k : Nat} (hw : w = advanceTo ((s.clk / tickUs + 1) * tickUs) s) (hrun : stocktakeRuns s = true)
    (h : stockFailures w = [(f, k)]) : stocktakeOp s =
      if s.hlt.failing.contains (f, k) then satF pgHLT HLT.VIOL_us 1 (stocktaken w) else stockFailure f k (stocktaken w) := by
  rw [stocktake_runs hw hrun, h, List.foldl_cons, List.foldl_nil]

theorem mismatchEvent_calm {f k : Nat} {a : State} (h : Calm a w) : Calm a (mismatchEvent f k w) :=
  .ite (raise_calm h _ _) (.ite (raise_calm h _ _) (.ite (raise_calm h _ _) (.ite (raise_calm h _ _) h)))

/-- with room for it a snapshot is taken. -/
theorem takeSnap_snaps {f k : Nat} (h : w.hlt.snaps.length < 8) :
    (takeSnap f k w).hlt.snaps.length = w.hlt.snaps.length + 1 := by
  unfold takeSnap
  dsimp only
  rw [if_pos h, setF_hlt, List.length_append]
  rfl

/-- what severity 1 adds to the snapshot: the events. -/
def failureTold (f k : Nat) (w : State) : State :=
  if 1 ≤ getF pgHLT (HLT.STK_SEV f) w then mismatchEvent f k (raise pgHLT 4 (takeSnap f k w)) else takeSnap f k w

/-- what severity 2 adds to that: FAULT_N held. -/
def failureHeld (f k : Nat) (w : State) : State :=
  if 2 ≤ getF pgHLT (HLT.STK_SEV f) w then
    { failureTold f k w with hlt := { (failureTold f k w).hlt with faultHeld := true } }
  else failureTold f k w

theorem stockFailure_eq (f k : Nat) (w : State) : stockFailure f k w =
    if getF pgHLT (HLT.STK_SEV f) w = 3 then unitFault (familyPage f k) 7 (failureHeld f k w) else failureHeld f k w := rfl

theorem failureTold_hlt (f k : Nat) (w : State) : (failureTold f k w).hlt = (takeSnap f k w).hlt := by
  unfold failureTold
  split
  · exact (mismatchEvent_calm (.refl _)).hlt.trans (raise_hlt _ _ _)
  · rfl

theorem failureHeld_regs (f k : Nat) (w : State) : (failureHeld f k w).regs = (failureTold f k w).regs := by
  unfold failureHeld; split <;> rfl

theorem failureHeld_snaps (f k : Nat) (w : State) : (failureHeld f k w).hlt.snaps = (takeSnap f k w).hlt.snaps := by
  rw [← failureTold_hlt]
  unfold failureHeld
  split <;> rfl

theorem stockFailure_calm (f k : Nat) (w : State) : Calm (failureHeld f k w) (stockFailure f k w) := by
  rw [stockFailure_eq]
  exact .ite (unitFault_calm (.refl _)) (.refl _)

/-- a first failure: a snapshot, an event from severity 1, FAULT_N from severity 2. -/
theorem stockFailure_told {f k : Nat} (h : w.hlt.snaps.length < 8) :
    (stockFailure f k w).hlt.snaps.length = w.hlt.snaps.length + 1 ∧
    (1 ≤ getF pgHLT (HLT.STK_SEV f) w → getF pgHLT (HDR.EVENT 4) (stockFailure f k w) = 1) ∧
    (2 ≤ getF pgHLT (HLT.STK_SEV f) w → (stockFailure f k w).hlt.faultHeld = true) := by
  have hcalm : Calm (failureHeld f k w) (stockFailure f k w) := stockFailure_calm f k w
  refine ⟨?_, fun hsev => hcalm.event 4 (by decide) ?_, fun hsev => ?_⟩
  · rw [hcalm.hlt, failureHeld_snaps, takeSnap_snaps h]
  · rw [getF_congr _ _ _ _ (failureHeld_regs _ _ _)]
    unfold failureTold
    rw [if_pos hsev]
    exact (mismatchEvent_calm (.refl _)).event 4 (by decide) (raise_event _ _ _)
  · rw [hcalm.hlt]
    unfold failureHeld
    rw [if_pos hsev]

theorem stocktaken_regs (hw : w = advanceTo ((s.clk / tickUs + 1) * tickUs) s) : (stocktaken w).regs = s.regs := by
  rw [hw]
  exact advanceTo_regs _ _

theorem stocktaken_snaps (hw : w = advanceTo ((s.clk / tickUs + 1) * tickUs) s) : (stocktaken w).hlt.snaps = s.hlt.snaps := by
  have hhlt : w.hlt = s.hlt := by rw [hw, advanceTo_hlt]
  show w.hlt.snaps = s.hlt.snaps
  rw [hhlt]

/-- every equation holds. -/
theorem stocktake_holds (hw : w = advanceTo ((s.clk / tickUs + 1) * tickUs) s) (hrun : stocktakeRuns s = true)
    (h : stockFailures w = []) : (stocktakeOp s).hlt.failing = [] ∧ (stocktakeOp s).clk = (s.clk / tickUs + 1) * tickUs ∧
    (stocktakeOp s).regs = s.regs := by
  have hclk : w.clk = (s.clk / tickUs + 1) * tickUs := by rw [hw, nextMicrosecond_clk]
  rw [stocktake_none hw hrun h]
  exact ⟨h, hclk, stocktaken_regs hw⟩

/-- an equation fails for the first time. -/
theorem stocktake_fails {f k : Nat} (hw : w = advanceTo ((s.clk / tickUs + 1) * tickUs) s) (hrun : stocktakeRuns s = true)
    (h : stockFailures w = [(f, k)]) (hnew : (f, k) ∉ s.hlt.failing) (hroom : s.hlt.snaps.length < 8) :
    (stocktakeOp s).hlt.snaps.length = s.hlt.snaps.length + 1 ∧
    (1 ≤ getF pgHLT (HLT.STK_SEV f) s → getF pgHLT (HDR.EVENT 4) (stocktakeOp s) = 1) ∧
    (2 ≤ getF pgHLT (HLT.STK_SEV f) s → (stocktakeOp s).hlt.faultHeld = true) := by
  have hsnaps : (stocktaken w).hlt.snaps = s.hlt.snaps := stocktaken_snaps hw
  rw [stocktake_one hw hrun h, if_neg (by simpa using hnew), ← getF_congr _ _ _ _ (stocktaken_regs hw), ← hsnaps]
  exact stockFailure_told (by rwa [hsnaps])

/-- an equation goes on failing. -/
theorem stocktake_goesOn {f k : Nat} (hw : w = advanceTo ((s.clk / tickUs + 1) * tickUs) s) (hrun : stocktakeRuns s = true)
    (h : stockFailures w = [(f, k)]) (hold : (f, k) ∈ s.hlt.failing) :
    getF pgHLT HLT.VIOL_us (stocktakeOp s) = min (2 ^ 32 - 1) (getF pgHLT HLT.VIOL_us s + 1) ∧
    (stocktakeOp s).hlt.snaps = s.hlt.snaps ∧ State.fieldsBut pgHLT [HLT.VIOL_us] s (stocktakeOp s) := by
  have hregs : (stocktaken w).regs = s.regs := stocktaken_regs hw
  rw [stocktake_one hw hrun h, if_pos (by simpa using hold)]
  refine ⟨?_, ?_, ?_⟩
  · rw [← getF_congr _ _ _ _ hregs]
    refine (getF_setF_same pgHLT HLT.VIOL_us _ _).trans (Nat.mod_eq_of_lt ?_)
    exact Nat.lt_of_le_of_lt (Nat.min_le_left _ _) (by decide)
  · rw [satF_hlt, stocktaken_snaps hw]
  · exact fieldsBut_iff.2 ((WritesIn.of_eq hregs).trans (satF_writesIn (atFields_of_mem (by simp))))

end
end Sys2Proof.Machine
end

section
/-! # Thermal shutdown and its end (R453, R461) -/

namespace Sys2Proof.Machine

section
variable {s : State}

/-! ## What is answered and lost with the main domain (R423, R391) -/

theorem reply_spares (r : Req) (c addr : Nat) (st : Status) (b : List Byte) (s : State) : WritesIn Spares s (reply r c addr st b s) := by
  unfold reply
  split
  · split
    · exact .refl s
    · exact .of_eq rfl
  · exact .ite (setF_spares _ _ _ _ (by decide))
      (((setF_spares _ _ _ s (by decide)).trans (setF_spares _ _ _ _ (by decide))).trans
        (setF_spares _ _ _ _ (by decide)))
  · exact .refl s
  · exact .refl s

theorem izlPost_spares (j vl : Nat) (m : List Byte) (s : State) : WritesIn Spares s (izlPost j vl m s) :=
  .ite (.refl s) (.ite ((setF_spares _ _ _ s (by decide)).trans (raise_spares (by decide))) (.of_eq rfl))

theorem sendManagement_spares (k hops d : Nat) (peer : Peer) (b : List Byte) (s : State) :
    WritesIn Spares s (sendManagement k hops d peer b s) := by
  unfold sendManagement
  split
  · exact izlPost_spares _ _ _ s
  · exact .refl s

theorem ethSent_spares (i n bytes : Nat) (s : State) : WritesIn Spares s (ethSent i n bytes s) :=
  (setF_spares _ _ _ s (by decide)).trans (setF_spares _ _ _ _ (by decide))

theorem transmit_spares (port : HPort) (peer : Peer) (b : List Byte) (s : State) : WritesIn Spares s (transmit port peer b s) :=
  .ite (.ite (sendManagement_spares _ _ _ _ _ s) (.refl s)) (.ite ((ethSent_spares _ _ _ s).trans (.of_eq rfl)) (.refl s))

theorem sendFrame_spares (i k n : Nat) (b : List Byte) (s : State) : WritesIn Spares s (sendFrame i k n b s) := by
  unfold sendFrame
  split
  · exact .refl s
  · exact .trans (t := putSession _ _ s) (.of_eq rfl) (transmit_spares _ _ _ _)

theorem sendResponses_spares (i : Nat) (s : State) : WritesIn Spares s (sendResponses i s) := by
  unfold sendResponses
  split
  · exact .refl s
  · exact .trans (t := putSession _ _ s) (.of_eq rfl) (.foldl (fun u l _ => sendFrame_spares _ _ _ _ u) _)

theorem freeOp_regs (r : Req) (s : State) : (freeOp r s).regs = s.regs := by
  unfold freeOp
  split
  · split <;> rfl
  · rfl

theorem lateReply_spares (r : Req) (c addr : Nat) (st : Status) (b : List Byte) (s : State) :
    WritesIn Spares s (lateReply r c addr st b s) := by
  have hreply : WritesIn Spares s (reply r c addr st b (freeOp r s)) :=
    (WritesIn.of_eq (freeOp_regs r s)).trans (reply_spares _ _ _ _ _ _)
  unfold lateReply
  dsimp only
  split
  · exact hreply.trans (sendResponses_spares _ _)
  · exact hreply

theorem dropPosts_spares (s : State) : WritesIn Spares s (dropPosts s) :=
  WritesIn.trans (t := { s with cir := { s.cir with posts := [] } }) (.of_eq rfl)
    (.foldl (fun u _ _ => lateReply_spares _ _ _ _ _ u) _)

theorem loseStaging_spares (s : State) : WritesIn Spares s (loseStaging s) := by
  unfold loseStaging
  split
  · split
    · exact .refl s
    · extract_lets +onlyGivenNames _ f s1
      have hlost : WritesIn Spares s s1 := WritesIn.trans (t := { s with fwl := f }) (.of_eq rfl)
        (((setF_spares _ _ _ _ (by decide)).trans (setF_sparesPage (by decide) _ _ _ (by decide))).trans
          (setF_sparesPage (by decide) _ _ _ (by decide)))
      split
      · exact hlost.trans (lateReply_spares _ _ _ _ _ _)
      · exact hlost
  · split
    · next x _ =>
      exact .ite (.refl s) (WritesIn.trans (t := { s with fwl := { s.fwl with staging := none } }) (.of_eq rfl)
        (setF_sparesPage (by decide) _ _ _ (by decide)))
    · exact .refl s

theorem withdrawPictures_spares (s : State) : WritesIn Spares s (withdrawPictures s) :=
  .foldl (fun _ _ _ => watWithdraw_writesIn (spares_page (by decide) (by decide))) s

theorem withdrawPictures_calm (s : State) : Calm s (withdrawPictures s) :=
  .foldl _ (fun _ _ hu => watWithdraw_calm hu _) (.refl s) _

/-! ## The main domain's reset keeps the shutdown (R11, R12, R454) -/

/-- the registers in which a shutdown shows. -/
def shutdownFields : List Fld := [HLT.ST_shutdown, HDR.EVENT 1]

theorem shutdownFields_subset : shutdownFields ⊆ governorFields := by simp [shutdownFields, governorFields]

theorem find_filter {α : Type} {P : Nat × α → Bool} {k : Nat} (h : ∀ v, P (k, v) = true) (m : SMap α) :
    SMap.find k (m.filter P) = SMap.find k m := by
  induction m with
  | nil => rfl
  | cons e m ih =>
    obtain ⟨j, v⟩ := e
    by_cases hj : j = k
    · subst hj
      rw [List.filter_cons, if_pos (h v)]
      simp only [SMap.find, if_true]
    · rw [List.filter_cons]
      split
      · simp only [SMap.find, if_neg hj, ih]
      · simp only [SMap.find, if_neg hj, ih]

/-- both lie in the standby domain. -/
theorem shutdownFields_standby : ∀ f ∈ shutdownFields,
    (standbyPage (keyPage (f.key pgHLT)) && !hltMain (keyPage (f.key pgHLT)) (f.key pgHLT % 2 ^ 20 / 8)) = true := by decide

theorem find_keepStandby {f : Fld} (hf : f ∈ shutdownFields) (m : SMap Nat) :
    SMap.find (f.key pgHLT) (keepStandby m) = SMap.find (f.key pgHLT) m :=
  find_filter (fun _ => by rw [shutdownFields_standby f hf, Bool.true_or]) m

theorem noteReset_clk (old : State) (p : Nat) (s : State) : (noteReset old p s).clk = s.clk := by
  unfold noteReset; split <;> simp only [setF_clk]

theorem noteReset_pwr (old : State) (p : Nat) (s : State) : (noteReset old p s).pwr = s.pwr := by
  unfold noteReset; split <;> simp only [setF_pwr]

theorem noteReset_spares {p : Nat} (hp : p ≠ pgHLT) (old s : State) : WritesIn Spares s (noteReset old p s) :=
  .ite (WritesIn.trans (t := { s with actAt := SMap.put p (SMap.get old.pwr.resetAt p old.actAt) s.actAt }) (.of_eq rfl)
      ((setF_sparesPage hp _ _ _ (by decide)).trans (setF_sparesPage hp _ _ _ (by decide))))
    (WritesIn.trans (t := { s with actAt := SMap.put p s.clk s.actAt }) (.of_eq rfl)
      ((setF_sparesPage hp _ _ _ (by decide)).trans (setF_sparesPage hp _ _ _ (by decide))))

theorem mainPage_ne_pgHLT {p : Nat} (hp : p ∈ allPages.filter (fun p => !standbyPage p)) : p ≠ pgHLT := by
  rintro rfl
  exact absurd (List.mem_filter.1 hp).2 (by decide)

/-- the state left of the reset, before the pages' changes of state are noted. -/
theorem mainReset_kept (s : State) : (mainReset s).clk = s.clk ∧ (mainReset s).pwr.mainRun = false ∧
    ∀ f ∈ shutdownFields, getF pgHLT f (mainReset s) = getF pgHLT f s := by
  have hlost : Calm s (loseStaging (dropPosts s)) := loseStaging_calm (dropPosts_calm (.refl s))
  unfold mainReset
  extract_lets +onlyGivenNames u _ _ _ s1 s2
  refine ⟨?_, ?_, fun f hf => ?_⟩
  · have hnoted : s2.clk = s1.clk := foldl_keeps (fun s => s.clk) _ (fun t p => noteReset_clk u p t) _ s1
    simp only [setF_clk]
    exact hnoted.trans hlost.clk
  · have hnoted : s2.pwr = s1.pwr := foldl_keeps (fun s => s.pwr) _ (fun t p => noteReset_pwr u p t) _ s1
    simp only [setF_pwr, hnoted]
    rfl
  · have hnoted : WritesIn Spares s1 s2 := .foldl (fun t p hp => noteReset_spares (mainPage_ne_pgHLT hp) u t) s1
    have hloc : f.loc ≠ HLT.ST_throttle.loc ∧ f.loc ≠ HLT.ST_sensor_fail.loc := by revert f; decide
    have hlow : f.loc < 2 ^ 20 := by revert f; decide
    rw [getF_setF_field _ _ _ _ _ hloc.1, getF_setF_field _ _ _ _ _ hloc.2, getF_setF_page _ _ _ _ _ _ (by decide) (by decide) hlow,
      getF_setF_page _ _ _ _ _ _ (by decide) (by decide) hlow, hnoted.spared (shutdownFields_subset hf)]
    calc getF pgHLT f s1 = getF pgHLT f u := by
          rw [getF_eq_find, getF_eq_find, show SMap.find (f.key pgHLT) s1.regs = _ from find_keepStandby hf u.regs]
      _ = getF pgHLT f s := ((dropPosts_spares s).trans (loseStaging_spares _)).spared (shutdownFields_subset hf)

/-! ## The rails go down (R461) -/

theorem showState_spares (n : Nat) (s : State) : WritesIn Spares s (showState n s) :=
  .ite (.refl s) ((setF_sparesPage (by decide) _ _ s (by decide)).trans (setF_sparesPage (by decide) _ _ _ (by decide)))

theorem showState_clk (n : Nat) (s : State) : (showState n s).clk = s.clk := by
  unfold showState; split <;> simp only [setF_clk]

theorem showState_pwr (n : Nat) (s : State) : (showState n s).pwr = s.pwr := by
  unfold showState; split <;> simp only [setF_pwr]

theorem railsDown_clk (s : State) : (railsDown s).clk = s.clk :=
  foldl_keeps (fun s => s.clk) _ (fun t f => setF_clk pgPWR f 0 t) _ s

theorem railsDown_mainRun (s : State) : (railsDown s).pwr.mainRun = s.pwr.mainRun :=
  foldl_keeps (fun s => s.pwr.mainRun) _ (fun t f => congrArg PwrS.mainRun (setF_pwr pgPWR f 0 t)) _ s

theorem railsDown_spares (s : State) : WritesIn Spares s (railsDown s) :=
  (WritesIn.foldl (fun u f hf => setF_sparesPage (by decide) f 0 u (by revert f; decide)) s).trans (.of_eq rfl)

/-- the main domain switched off: no time passes, and a shutdown goes on showing. -/
theorem vinSideOff_kept (h : s.pwr.mainRun = true) : (vinSideOff s).clk = s.clk ∧ (vinSideOff s).pwr.mainRun = false ∧
    ∀ f ∈ shutdownFields, getF pgHLT f (vinSideOff s) = getF pgHLT f s := by
  generalize hu : showState 3 (railsDown (mainReset (withdrawPictures s))) = u
  have hoff : vinSideOff s = { u with fwl := { u.fwl with stage := min 3 u.fwl.stage } } := by
    unfold vinSideOff
    rw [h, ← hu]
    exact if_neg Bool.false_ne_true
  obtain ⟨hclk, hrun, hkept⟩ := mainReset_kept (withdrawPictures s)
  rw [hoff]
  refine ⟨?_, ?_, fun f hf => ?_⟩
  · show u.clk = s.clk
    rw [← hu, showState_clk, railsDown_clk, hclk, (withdrawPictures_calm s).clk]
  · show u.pwr.mainRun = false
    rw [← hu, showState_pwr, railsDown_mainRun, hrun]
  · show getF pgHLT f u = getF pgHLT f s
    rw [← hu, ((railsDown_spares _).trans (showState_spares _ _)).spared (shutdownFields_subset hf), hkept f hf,
      (withdrawPictures_spares s).spared (shutdownFields_subset hf)]

/-- the units in service fault before the domain goes (R453). -/
def unitsFaulted (s : State) : State :=
  (allPages.filter (fun p => !standbyPage p && hasState p)).foldl (fun s p => if inService p s then unitFault p 6 s else s) s

theorem unitsFaulted_calm (s : State) : Calm s (unitsFaulted s) :=
  .foldl _ (fun _ _ hu => .ite (unitFault_calm hu) hu) (.refl s) _

/-- the shutdown shown and counted. -/
def shutdownShown (s : State) : State := annalsAdd 76 1 (raise pgHLT 1 (setF pgHLT HLT.ST_shutdown 1 s))

theorem annalsAdd_regs (i n : Nat) (s : State) : (annalsAdd i n s).regs = s.regs := rfl

theorem shutdownShown_clk (s : State) : (shutdownShown s).clk = s.clk := by
  refine (show (shutdownShown s).clk = (raise pgHLT 1 (setF pgHLT HLT.ST_shutdown 1 s)).clk from rfl).trans ?_
  rw [raise_clk, setF_clk]

theorem shutdownShown_pwr (s : State) : (shutdownShown s).pwr = s.pwr := by
  refine (show (shutdownShown s).pwr = (raise pgHLT 1 (setF pgHLT HLT.ST_shutdown 1 s)).pwr from rfl).trans ?_
  rw [raise_pwr, setF_pwr]

theorem shutdownShown_shows (s : State) : isF pgHLT HLT.ST_shutdown (shutdownShown s) = true ∧
    getF pgHLT (HDR.EVENT 1) (shutdownShown s) = 1 := by
  have hraise : WritesIn (AtFields pgHLT (eventFields 1)) (setF pgHLT HLT.ST_shutdown 1 s)
      (raise pgHLT 1 (setF pgHLT HLT.ST_shutdown 1 s)) := raise_writesIn fun _ => atFields_of_mem
  refine ⟨?_, (getF_congr _ _ _ _ (annalsAdd_regs _ _ _)).trans (raise_event _ _ _)⟩
  unfold isF
  rw [shutdownShown, getF_congr _ _ _ _ (annalsAdd_regs _ _ _), hraise.getF (not_atFields (by decide)), getF_setF_same]
  rfl

theorem thermalShutdown_eq (h : s.pwr.mainRun = true) : thermalShutdownOp s = powerDown (shutdownShown (unitsFaulted s)) := by
  unfold thermalShutdownOp
  rw [h]
  exact if_neg Bool.false_ne_true

theorem passTicks_pwr (n : Nat) (s : State) : (passTicks n s).pwr = s.pwr := by
  unfold passTicks; split <;> rfl

/-- the shutdown latches and the main domain goes off. -/
theorem thermalShutdown_latches (h : s.pwr.mainRun = true) : (thermalShutdownOp s).pwr.mainRun = false ∧
    isF pgHLT HLT.ST_shutdown (thermalShutdownOp s) = true ∧ getF pgHLT (HDR.EVENT 1) (thermalShutdownOp s) = 1 ∧
    (thermalShutdownOp s).clk = s.clk + 250 * tickUs := by
  have hcalm : Calm s (unitsFaulted s) := unitsFaulted_calm s
  have hrun : (shutdownShown (unitsFaulted s)).pwr.mainRun = true := by rw [shutdownShown_pwr, hcalm.pwr, h]
  obtain ⟨hclk, hoff, hkept⟩ := vinSideOff_kept hrun
  obtain ⟨hshut, hevent⟩ := shutdownShown_shows (unitsFaulted s)
  have hop : thermalShutdownOp s = passTicks (250 * tickUs) (vinSideOff (shutdownShown (unitsFaulted s))) := by
    rw [thermalShutdown_eq h, powerDown, if_pos hrun]
  have hget : ∀ f ∈ shutdownFields, getF pgHLT f (thermalShutdownOp s) = getF pgHLT f (shutdownShown (unitsFaulted s)) := fun f hf => by
    rw [hop, getF_congr _ _ _ _ (passTicks_regs _ _), hkept f hf]
  refine ⟨?_, ?_, ?_, ?_⟩
  · rw [hop, passTicks_pwr, hoff]
  · exact (congrArg (· == 1) (hget _ (by simp [shutdownFields]))).trans hshut
  · rw [hget _ (by simp [shutdownFields]), hevent]
  · rw [hop, passTicks_clk, hclk, shutdownShown_clk, hcalm.clk]

/-! ## Rearming, and the main domain's return (R453, R460) -/

theorem mapCores_spares (s : State) : WritesIn Spares s (mapCores s) :=
  (WritesIn.foldl (fun u q hq => setF_sparesPage (pgENC_ne_pgHLT (Nat.lt_succ_of_lt (List.mem_range.1 hq))) _ _ u (by decide)) s).trans
    (setF_sparesPage (by decide) _ _ _ (by decide))

theorem mainUp_spares (reason : Nat) (s : State) : WritesIn Spares s (mainUp reason s) := by
  unfold mainUp
  extract_lets +onlyGivenNames _ _ _ s1 s2
  have hup : WritesIn Spares s s1 := .of_eq rfl
  have hreason : WritesIn Spares s1 s2 := .foldl (fun u p hp => setF_sparesPage (mainPage_ne_pgHLT hp) _ _ u (by decide)) s1
  have hstart : WritesIn Spares (mapCores s2) ([pgSTK, pgCIR, pgHBM 0, pgHBM 1].foldl (fun s p => setAct p stSTARTING 1 s) (mapCores s2)) :=
    .foldl (fun u p hp => setAct_spares (by revert p; decide) _ _ u) _
  exact ((hup.trans hreason).trans (mapCores_spares s2)).trans hstart

theorem recordReset_spares (kind cause : Nat) (s : State) : WritesIn Spares s (recordReset kind cause s) :=
  (((setF_sparesPage (by decide) _ _ s (by decide)).trans (setF_sparesPage (by decide) _ _ _ (by decide))).trans
    (setF_sparesPage (by decide) _ _ _ (by decide))).trans
    (raise_sparesPage (by decide) (by decide))

theorem setUnit_regs (cls u v : Nat) (s : State) : (setUnit cls u v s).regs = s.regs := rfl

theorem restEngine_spares {e : Nat × Nat} (he : e ∈ engines) (s : State) : WritesIn Spares s (setUnit e.1 e.2 1
    (if act (enginePage e.1 e.2) s = stIDLE then setAct (enginePage e.1 e.2) stLOW 0 s else s)) :=
  (WritesIn.ite (setAct_spares (enginePage_ne_pgHLT e he) stLOW 0 s) (.refl s)).trans (.of_eq (setUnit_regs e.1 e.2 1 _))

theorem laneSleep_spares {l : Nat} (hl : l < 33) (s : State) : WritesIn Spares s (laneSleep l s) := by
  have hp : pgLNE l ≠ pgHLT := by unfold pgLNE pgHLT; omega
  exact WritesIn.trans (t := modLane l (fun x => { x with wakeDue := false }) s) (.of_eq rfl) (setAct_spares hp _ _ _)

theorem modPc_regs (i p : Nat) (f : PcS → PcS) (s : State) : (modPc i p f s).regs = s.regs := rfl

theorem enterD2_spares (s : State) : WritesIn Spares s (enterD2 s) := by
  unfold enterD2
  extract_lets +onlyGivenNames _ s1 s2
  have hengines : WritesIn Spares s s1 := WritesIn.trans (t := { s with pwr := { s.pwr with waking := [] } }) (.of_eq rfl)
    (.foldl (fun u _ he => restEngine_spares he u) _)
  have hstacks : WritesIn Spares s1 s2 := .foldl (fun u x _ => .ite (.of_eq (modPc_regs _ _ _ u)) (.refl u)) s1
  exact (hengines.trans hstacks).trans (.foldl (fun u l hl => .ite (laneSleep_spares (List.mem_range.1 hl) u) (.refl u)) s2)

theorem powerUp_spares (cause : Nat) (s : State) : WritesIn Spares s (powerUp cause s) := by
  unfold powerUp
  split
  · exact .refl s
  · extract_lets +onlyGivenNames again _ s1 t s2 s3
    have hrails : WritesIn Spares s s1 := WritesIn.trans
      (t := { s with pwr := { s.pwr with railCore := 800, railFab := 800, hadVin := true } })
      (.of_eq rfl) (((((setF_sparesPage (by decide) _ _ _ (by decide)).trans (setF_sparesPage (by decide) _ _ _ (by decide))).trans
        (setF_sparesPage (by decide) _ _ _ (by decide))).trans (setF_sparesPage (by decide) _ _ _ (by decide))).trans
        (.of_eq (passTicks_regs _ _)))
    have hshown : WritesIn Spares s1 s2 := (mainUp_spares _ s1).trans (showState_spares _ _)
    have hmoved : WritesIn Spares s2 s3 := .ite (enterD2_spares s2) (.refl s2)
    have hall : WritesIn Spares s s3 := (hrails.trans hshown).trans hmoved
    exact .ite (hall.trans (recordReset_spares _ _ _)) hall

theorem powerUp_running {cause : Nat} (h : s.pwr.mainRun = true) : powerUp cause s = s := by
  unfold powerUp
  rw [h, Bool.or_true, if_pos rfl]

theorem rearmOp_cools (hshut : isF pgHLT HLT.ST_shutdown s = true) (htj : s.hlt.tjNow < 95) :
    rearmOp s = (.success, powerUp 0x0A (setF pgHLT HLT.ST_shutdown 0 s)) := if_pos ⟨hshut, htj⟩

theorem rearmOp_invalid (h : isF pgHLT HLT.ST_shutdown s = false ∨ 95 ≤ s.hlt.tjNow) : rearmOp s = (.invalidValue, s) :=
  if_neg fun ⟨hshut, htj⟩ => h.elim (fun hf => Bool.false_ne_true (hf.symm.trans hshut)) (Nat.not_le.2 htj)

theorem rearmed_shutdown (s : State) : isF pgHLT HLT.ST_shutdown (powerUp 0x0A (setF pgHLT HLT.ST_shutdown 0 s)) = false := by
  unfold isF
  rw [(powerUp_spares _ _).spared (by simp [governorFields]), getF_setF_same]
  rfl

theorem rearmed_fieldsBut (h : s.pwr.mainRun = true) :
    State.fieldsBut pgHLT [HLT.ST_shutdown] s (powerUp 0x0A (setF pgHLT HLT.ST_shutdown 0 s)) := by
  rw [powerUp_running (by rw [setF_pwr, h])]
  exact fieldsBut_iff.2 (setF_writesIn (atFields_of_mem (by simp)))

/-- REARM answers by the shutdown and the temperature. -/
theorem exec_rearm {r : Req} (h : State.lets r 3 pgHLT 0x120 s) :
    exec (.rearm r) s = .next (reply r 0x83 (regAddr pgHLT 0x120) (rearmOp s).1 [] (rearmOp s).2) :=
  congrArg Host.Outcome.next (asWrite_runs r pgHLT 0x120 rearmOp s h)

/-- the reading of TJ clears the maximum (R452). -/
theorem exec_tjRead {r : Req} (h : State.lets r 1 pgHLT 0x124 s) :
    exec (.tjRead r) s = .next (reply r 0x81 (regAddr pgHLT 0x124) .success
      (beBytes 4 (getF pgHLT HLT.TJ_max_c s * 256 + getF pgHLT HLT.TJ_tj_c s)) (setF pgHLT HLT.TJ_max_c 0 s)) :=
  congrArg Host.Outcome.next (asRead_runs r pgHLT 0x124
    (fun s => (getF pgHLT HLT.TJ_max_c s * 256 + getF pgHLT HLT.TJ_tj_c s, setF pgHLT HLT.TJ_max_c 0 s)) s h)

theorem exec_snapClr {r : Req} (h : State.lets r 3 pgHLT 0x190 s) :
    exec (.snapClr r) s = .next (reply r 0x83 (regAddr pgHLT 0x190) .success [] (snapClrOp s).2) :=
  congrArg Host.Outcome.next (asWrite_runs r pgHLT 0x190 snapClrOp s h)

end

/-- Settles O50. Each clause is the lemma of its command: stocktake's by whether an equation fails, and anew or still; the governor's
readings by the temperature; the shutdown by what the unit faults (`Calm`) and the main domain's reset (`Spares`) leave alone. -/
theorem stocktakeGovernorAndShutdown : Obligations.StocktakeGovernorAndShutdown := by
  unfold Obligations.StocktakeGovernorAndShutdown
  refine ⟨fun s w hw hrun => ⟨fun hl => ⟨_, rfl, stocktake_holds hw hrun hl⟩, fun f k hl =>
      ⟨fun hnew hroom => ⟨_, rfl, stocktake_fails hw hrun hl hnew hroom⟩,
        fun hold => ⟨_, rfl, stocktake_goesOn hw hrun hl hold⟩⟩⟩,
    fun r s h => ⟨_, exec_snapClr h, snapClrOp_clears s⟩,
    fun c s hrun hgen hthr => ⟨fun hc => ⟨_, rfl, governorReading_shows hrun hgen hthr hc⟩,
      fun hc => ⟨_, rfl, governorReading_throttles hrun hgen hthr hc⟩⟩,
    fun c s hrun hgen hthr hc => ⟨_, rfl, governorReading_recovers hrun hgen hthr hc⟩,
    fun c s hoff => ⟨_, rfl, governorReading_off hoff⟩,
    fun s hrun hgen => ⟨_, rfl, governorReading_fails hrun hgen⟩,
    fun a s ha hlevel hthr hfail => ⟨_, rfl, governorRestore_raises ha hlevel hthr hfail⟩,
    fun s hrun => ⟨_, rfl, thermalShutdown_latches hrun⟩, ?_, ?_⟩
  · refine fun r s h => ⟨fun hshut htj => ⟨_, ?_, rearmed_shutdown s, rearmed_fieldsBut⟩, fun hno => ?_⟩
    · rw [exec_rearm h, rearmOp_cools hshut htj]
    · rw [exec_rearm h, rearmOp_invalid hno]
  · exact fun r s h => ⟨_, exec_tjRead h, getF_setF_same _ _ _ _, rfl,
      fieldsBut_iff.2 (setF_writesIn (atFields_of_mem (by simp)))⟩

end Sys2Proof.Machine
end

section
/-! # Sessions, the reset and responses (R41, R43, R48, R52, R60) -/

namespace Sys2Proof.Machine

/-- Settles O56: the command in front keeps the limits (`exec_answers`), and so does the idle tick. -/
theorem sessionLimitsKept : Obligations.SessionLimitsKept := by
  intro s t hlimits hstep
  unfold step at hstep
  split at hstep
  · rename_i c l _
    obtain ⟨u, hu, hkeeps⟩ := exec_answers c { s with pending := l }
    cases hu.symm.trans hstep
    exact hkeeps.sessions hlimits
  · cases hstep
    exact (idleTick_keeps (.refl s)).sessions hlimits

/-! ## The state after a standby reset (R23, R72, R489, R491) -/

theorem find_eq_none_of_forall_ne {α : Type} {k : Nat} {m : SMap α} (h : ∀ e ∈ m, e.1 ≠ k) : SMap.find k m = none := by
  induction m with
  | nil => rfl
  | cons e m ih =>
    rw [SMap.find, if_neg (h e List.mem_cons_self), ih fun x hx => h x (List.mem_cons_of_mem e hx)]

/-- the reset state lists the states of standby pages only. -/
theorem standbyStates_keys : ∀ e ∈ standbyStates, e.1 % 2 ^ 20 = HDR.ACT_state.loc ∧ standbyPage (e.1 / 2 ^ 20) = true := by
  decide

/-- a field that is not listed holds its reset value. -/
theorem getF_reset {p : Nat} {f : Fld} (h : ∀ e ∈ standbyStates, e.1 ≠ f.key p) : getF p f State.reset = f.resetAt p := by
  rw [getF_eq_find, show State.reset.regs = standbyStates from rfl, find_eq_none_of_forall_ne h]
  rfl

theorem act_resetAt (p : Nat) : HDR.ACT_state.resetAt p = stRESET := by simp [Fld.resetAt, HDR.ACT_state, stRESET]

/-- Settles O3: `standbyStates` lists the states of standby pages only. -/
theorem resetLeaves : Obligations.ResetLeaves := by
  refine ⟨rfl, rfl, rfl, rfl, rfl, rfl, rfl, by decide, by decide, by decide, fun p hp => ?_, fun p f hlow hne => ?_⟩
  · refine (getF_reset fun e he hkey => ?_).trans (act_resetAt p)
    obtain ⟨-, hstandby⟩ := standbyStates_keys e he
    rw [hkey, key_div (by decide), hp] at hstandby
    exact absurd hstandby (by decide)
  · refine getF_reset fun e he hkey => hne ?_
    obtain ⟨hloc, -⟩ := standbyStates_keys e he
    rwa [hkey, key_mod hlow] at hloc

/-! ## Responses (R41, R48, R52) -/

theorem sessionAt_putSession (i j : Nat) (x : Session) (s : State) :
    sessionAt j (putSession i x s) = if j = i then some x else sessionAt j s := SMap.find_put x j i _

theorem reply_domain_success (tag : BitVec 16) (opcode addr : Nat) (body : List Byte) (s : State) :
    reply ⟨.domain, tag⟩ opcode addr .success body s = addF pgHAP HAP.DOM_OK_count 1 s := rfl

theorem reply_domain_error {st : Status} (h : st ≠ .success) (tag : BitVec 16) (opcode addr : Nat) (body : List Byte) (s : State) :
    reply ⟨.domain, tag⟩ opcode addr st body s =
      setF pgHAP HAP.DOM_LAST_status st.code (setF pgHAP HAP.DOM_LAST_addr (addr / 256) (addF pgHAP HAP.DOM_ERR_count 1 s)) :=
  if_neg h

theorem status_code_lt (st : Status) : st.code < 2 ^ 8 := by cases st <;> decide

/-- Settles O4: `reply_session`, `reply_domain_success` and `reply_domain_error` say what an answer writes. -/
theorem responsesGoToTheRequester : Obligations.ResponsesGoToTheRequester := by
  refine ⟨fun i tag opcode addr st body x s hx => ?_, fun tag opcode addr body s => ?_, fun tag opcode addr st body s hst => ?_⟩
  · rw [reply_session i tag opcode addr st body x s hx]
    exact ⟨putSession_sessionAt _ _ _, fun j hj => (sessionAt_putSession _ _ _ _).trans (if_neg hj), rfl⟩
  · rw [reply_domain_success]
    exact ⟨getF_addF_same _ _ _ _, rfl, addF_writesIn (atFields_of_mem List.mem_cons_self)⟩
  · rw [reply_domain_error hst]
    refine ⟨?_, ?_, rfl, ?_⟩
    · rw [getF_setF_field _ _ _ _ _ (by decide), getF_setF_field _ _ _ _ _ (by decide), getF_addF_same]
      rfl
    · rw [getF_setF_same]
      exact Nat.mod_eq_of_lt (status_code_lt st)
    · refine fieldsBut_iff.2 (((addF_writesIn ?_).trans (setF_writesIn ?_)).trans (setF_writesIn ?_))
      · exact atFields_of_mem (by simp)
      · exact atFields_of_mem (by simp)
      · exact atFields_of_mem (by simp)

end Sys2Proof.Machine
end

section
/-! # Scheduled writes (R55 to R58) -/

namespace Sys2Proof.Machine

/-! ## A free number (log 16) -/

theorem exists_lt_not_mem {n : Nat} {used : List Nat} (h : used.length < n) : ∃ k < n, k ∉ used := by
  by_contra hall
  push Not at hall
  have hsub : List.range n ⊆ used := fun k hk => hall k (List.mem_range.1 hk)
  have hle := (List.nodup_range.subperm hsub).length_le
  rw [List.length_range] at hle
  omega

/-- what is picked is in use only where everything is. -/
theorem pickFree_not_mem {kind n : Nat} {used : List Nat} (h : used.length < n) : pickFree kind n used ∉ used := by
  unfold pickFree
  extract_lets c
  split
  · obtain ⟨k, hk, hfree⟩ := exists_lt_not_mem h
    cases hf : (List.range n).find? (fun k => !used.contains k) with
    | none =>
      have hused := List.find?_eq_none.1 hf k (List.mem_range.2 hk)
      simp [hfree] at hused
    | some j =>
      have hj := List.find?_some hf
      simpa using hj
  · next hc => simpa using hc

theorem find_eq_none_of_not_mem {α : Type} {k : Nat} {m : SMap α} (h : k ∉ m.map Prod.fst) : SMap.find k m = none :=
  find_eq_none_of_forall_ne fun _ he hk => h (hk ▸ List.mem_map_of_mem he)

/-! ## Acceptance (R56) -/

/-- the trigger of an entry: its picture, or its PTP time in ns. -/
def watTrigger (b : WatBody) : Nat :=
  if b.trigger.toNat == 2 then b.time.toNat / 2 ^ 16 else b.time.toNat * 10 ^ 9 + b.ns.toNat % 2 ^ 30

/-- the entry that an accepted WRITE_AT makes. -/
def watAccepted (r : Req) (addr : Nat) (b : WatBody) (s : State) : WatEntry :=
  ⟨s.hap.watOrder, b.trigger.toNat == 2, b.refPage.toNat, watTrigger b, b.masked, b.mask.toNat, b.value.toNat, addr, r.tag.toNat,
    sidOf r s, r.origin⟩

/-- the slot it takes. -/
def watSlot (s : State) : Nat := pickFree 0 256 (s.hap.wats.map Prod.fst)

/-- HAP with that entry. -/
def watHeld (r : Req) (addr : Nat) (b : WatBody) (s : State) : State :=
  setWats (SMap.put (watSlot s) (watAccepted r addr b s) s.hap.wats) { s with hap := { s.hap with watOrder := s.hap.watOrder + 1 } }

theorem writeAtOp_accepts {r : Req} {addr : Nat} {b : WatBody} {s : State} (h : State.lets r 5 (addr / 4096) (addr % 4096) s)
    (hc : watCheck addr b s = .success) :
    writeAtOp r addr b s = reply r 0x85 addr .success (beBytes 4 (watSlot s)) (watHeld r addr b s) := by
  unfold writeAtOp
  rw [opStart_runs _ _ _ _ _ _ _ h]
  simp only [hc]
  rfl

theorem watCheck_room {addr : Nat} {b : WatBody} {s : State} (h : watCheck addr b s = .success) : s.hap.wats.length < 256 := by
  unfold watCheck at h
  extract_lets ref pic ns t at h
  split_ifs at h
  omega

theorem setWats_writesIn (m : SMap WatEntry) (s : State) :
    WritesIn (AtFields pgHAP [HAP.WAT_PENDING_count]) s (setWats m s) :=
  WritesIn.trans (t := { s with hap := { s.hap with wats := m } }) (.of_eq rfl) (setF_writesIn (atFields_of_mem List.mem_cons_self))

theorem setWats_count (m : SMap WatEntry) (s : State) :
    getF pgHAP HAP.WAT_PENDING_count (setWats m s) = m.length % 2 ^ HAP.WAT_PENDING_count.width := getF_setF_same _ _ _ _

/-! ## Time that has come already -/

theorem passTicks_zero_of_absent {s : State} (h : timSt s = 4) : passTicks 0 s = s := by
  unfold passTicks
  rw [if_pos h]
  rfl

/-- the phase amount that a phase term removes is not gone in no cycle. -/
theorem runTime_zero (s : State) : runTime 0 s = s.tim := by
  have hleft : phaseTerm s ≠ 0 → s.tim.phaseLeft ≠ 0 := fun hph h0 => hph (if_pos (.inl h0))
  unfold runTime
  extract_lets t ph need m step
  have hm : m = 0 := Nat.zero_min need
  have hstep : step = 0 := by simp [step, hm]
  have hcount : ((t.count : Int) + step).toNat = t.count := by rw [hstep]; omega
  rw [hcount, hm]
  by_cases hph : ph = 0
  · rw [if_pos hph]
  · have hneed : 0 ≠ need := by
      have hamount : 0 < t.phaseLeft.natAbs := Int.natAbs_pos.2 (hleft hph)
      have hterm := Int.natAbs_pos.2 hph
      have hpos : 0 < need := by
        simp only [need, if_neg hph]
        exact Nat.div_pos (by omega) hterm
      omega
    rw [if_neg hph, if_neg hneed]
    simp [t]

theorem passTicks_zero (s : State) : passTicks 0 s = s := by
  by_cases h : timSt s = 4
  · exact passTicks_zero_of_absent h
  · unfold passTicks
    rw [if_neg h, Nat.mul_zero, runTime_zero]
    rfl

/-- a time that has come is reached at once. -/
theorem advanceToNs_past {t : Nat} {s : State} (h : t ≤ fabNs s) : advanceToNs t s = s := by
  unfold advanceToNs
  split
  · rw [show (((t : Int).toNat - fabNs s + 4) / 5) = 0 by omega, passTicks_zero]
  · next hst =>
    have hgap : (t : Int).toNat * 2 ^ 32 - s.tim.count = 0 := by
      rw [fabNs, if_neg hst, timeNs] at h
      omega
    extract_lets gap rate
    have hzero : (gap + 5 * rate.toNat - 1) / (5 * rate.toNat) = 0 := by
      rw [show gap = 0 from hgap, Nat.div_eq_zero_iff]
      omega
    rw [hzero, passTicks_zero]

/-! ## Firing (R57, R58) -/

theorem sorted_tail {α : Type} {e : Nat × α} {m : SMap α} (h : SMap.sorted (e :: m) = true) : SMap.sorted m = true :=
  (SMap.sorted_iff m).2 (List.pairwise_cons.1 ((SMap.sorted_iff _).1 h)).2

/-- in a map in order, an entry is what its key finds. -/
theorem find_of_mem {α : Type} {m : SMap α} (hs : SMap.sorted m = true) {e : Nat × α} (he : e ∈ m) :
    SMap.find e.1 m = some e.2 := by
  induction m with
  | nil => exact absurd he List.not_mem_nil
  | cons d m ih =>
    obtain ⟨hlt, -⟩ := List.pairwise_cons.1 ((SMap.sorted_iff _).1 hs)
    rcases List.mem_cons.1 he with rfl | he
    · exact if_pos rfl
    · have hne : ¬ d.1 = e.1 := Nat.ne_of_lt (hlt e he)
      rw [SMap.find, if_neg hne]
      exact ih (sorted_tail hs) he

/-- the choice between the first entry found so far and another one (R57, R58). -/
theorem firstEntry_none {due : WatEntry → Bool} {s : State} (h : ∀ e ∈ s.hap.wats, due e.2 = false) : firstEntry due s = none := by
  have hnil : s.hap.wats.filter (fun e => due e.2) = [] := List.filter_eq_nil_iff.2 fun e he => by rw [h e he]; decide
  unfold firstEntry
  rw [hnil]
  rfl

theorem filter_eq_singleton {α : Type} {m : SMap α} {P : Nat × α → Bool} {k : Nat} {v : α} (hs : SMap.sorted m = true)
    (hk : SMap.find k m = some v) (hP : P (k, v) = true) (hother : ∀ e ∈ m, e.1 ≠ k → P e = false) : m.filter P = [(k, v)] := by
  induction m with
  | nil => cases hk
  | cons d m ih =>
    obtain ⟨hlt, -⟩ := List.pairwise_cons.1 ((SMap.sorted_iff _).1 hs)
    obtain ⟨a, w⟩ := d
    by_cases ha : a = k
    · subst ha
      rw [SMap.find, if_pos rfl, Option.some.injEq] at hk
      subst hk
      have hnil : m.filter P = [] := List.filter_eq_nil_iff.2 fun e he => by
        rw [hother e (List.mem_cons_of_mem _ he) (Nat.ne_of_gt (hlt e he))]
        decide
      rw [List.filter_cons_of_pos hP, hnil]
    · rw [SMap.find, if_neg ha] at hk
      rw [List.filter_cons_of_neg (by rw [hother _ List.mem_cons_self ha]; decide)]
      exact ih (sorted_tail hs) hk fun e he => hother e (List.mem_cons_of_mem _ he)

theorem firstEntry_single {due : WatEntry → Bool} {s : State} {k : Nat} {e : WatEntry} (hs : SMap.sorted s.hap.wats = true)
    (hk : SMap.find k s.hap.wats = some e) (hdue : due e = true) (hother : ∀ d ∈ s.hap.wats, d.1 ≠ k → due d.2 = false) :
    firstEntry due s = some (k, e) := by
  unfold firstEntry
  rw [filter_eq_singleton (P := fun e => due e.2) hs hk hdue hother]
  rfl

theorem fireAll_of_none {due : WatEntry → Bool} {s : State} (fuel : Nat) (h : firstEntry due s = none) : fireAll due fuel s = s := by
  cases fuel with
  | zero => rfl
  | succ fuel => simp only [fireAll, h]

/-- a single entry that is due fires; where nothing is due after it, that is all. -/
theorem fireAll_single {due : WatEntry → Bool} {s : State} {k fuel : Nat} {e : WatEntry} (hfirst : firstEntry due s = some (k, e))
    (hnone : firstEntry due (fireEntry k e s) = none) : fireAll due (fuel + 1) s = fireEntry k e s := by
  simp only [fireAll, hfirst]
  exact fireAll_of_none fuel hnone

/-- the completion record of a firing entry (R58, R61). -/
def watDone (k : Nat) (e : WatEntry) (st : Status) (s u : State) : State :=
  watNotify e.sid (watRecord k st.code e.tag (timeNs s / 10 ^ 9) (timeNs s % 10 ^ 9)) u

/-- an entry for EVENT_EN of an answering page writes the page's enables. -/
theorem fireEntry_eventEn {k : Nat} {e : WatEntry} {s : State} (hm : e.masked = false) (ht : e.target % 4096 = 0x014)
    (hr : regStatus (e.target / 4096) 0x014 (setWats (SMap.drop k s.hap.wats) s) = .success) :
    fireEntry k e s = watDone k e .success s (writeEnables (e.target / 4096) e.value (setWats (SMap.drop k s.hap.wats) s)) := by
  unfold fireEntry
  simp only [ht, hm, hr, resetsDevice_of_ne (show (0x014 : Nat) ≠ 0x008 by decide), writeReg_eventEn, Bool.false_eq_true, if_false]
  rfl

theorem blockAnswers_congr {p : Nat} {s t : State} (hact : act p t = act p s) (hpwr : t.pwr = s.pwr)
    (hd : getF pgPWR PWR.DSTAT_state t = getF pgPWR PWR.DSTAT_state s) : blockAnswers p t = blockAnswers p s := by
  unfold blockAnswers unitState
  rw [hact, hpwr, hd]

theorem regStatus_congr {p off : Nat} {s t : State} (hact : act p t = act p s) (hpwr : t.pwr = s.pwr)
    (hd : getF pgPWR PWR.DSTAT_state t = getF pgPWR PWR.DSTAT_state s) : regStatus p off t = regStatus p off s := by
  unfold regStatus
  rw [blockAnswers_congr hact hpwr hd, hpwr]

theorem setWats_off {m : SMap WatEntry} {s : State} {p : Nat} {f : Fld} (hf : f.loc < 2 ^ 20)
    (h : f.loc ∉ [HAP.WAT_PENDING_count].map Fld.loc) : getF p f (setWats m s) = getF p f s :=
  (setWats_writesIn m s).getF (not_atFields_off (by decide) hf h)

theorem regStatus_setWats (p off : Nat) (m : SMap WatEntry) (s : State) : regStatus p off (setWats m s) = regStatus p off s :=
  regStatus_congr (setWats_off (by decide) (by decide)) (setWats_pwr _ _) (setWats_off (by decide) (by decide))

theorem fabNs_congr {s t : State} (hst : timSt t = timSt s) (hclk : t.clk = s.clk) (htim : t.tim = s.tim) : fabNs t = fabNs s := by
  unfold fabNs timeNs
  rw [hst, hclk, htim]

theorem mem_drop {α : Type} {k : Nat} {m : SMap α} {e : Nat × α} (h : e ∈ SMap.drop k m) : e ∈ m ∧ e.1 ≠ k := by
  obtain ⟨hm, hk⟩ := List.mem_filter.1 h
  exact ⟨hm, of_decide_eq_true hk⟩

theorem RegsOnly.hap {s t : State} (h : RegsOnly s t) : t.hap = s.hap := by rw [show t = { s with regs := t.regs } from h]

theorem RegsOnly.clk {s t : State} (h : RegsOnly s t) : t.clk = s.clk := by rw [show t = { s with regs := t.regs } from h]

theorem RegsOnly.tim {s t : State} (h : RegsOnly s t) : t.tim = s.tim := by rw [show t = { s with regs := t.regs } from h]

theorem watNotify_wats (sid : Nat) (r : List Byte) (s : State) : (watNotify sid r s).hap.wats = s.hap.wats := rfl

theorem setWats_wats (m : SMap WatEntry) (s : State) : (setWats m s).hap.wats = m := rfl

/-- the state after an entry for EVENT_EN has fired. -/
def enablesFired (k : Nat) (e : WatEntry) (s : State) : State :=
  watDone k e .success s (writeEnables (e.target / 4096) e.value (setWats (SMap.drop k s.hap.wats) s))

section
variable {k : Nat} {e : WatEntry} {s : State}

theorem enablesFired_wats : (enablesFired k e s).hap.wats = SMap.drop k s.hap.wats := by
  unfold enablesFired watDone
  rw [watNotify_wats, (writeEnables_regsOnly _ _ _).hap, setWats_wats]

theorem enablesFired_fabNs : fabNs (enablesFired k e s) = fabNs s := by
  have hregs : (enablesFired k e s).regs =
      (writeEnables (e.target / 4096) e.value (setWats (SMap.drop k s.hap.wats) s)).regs := watNotify_regs _ _ _
  have hstate := (fieldsBut_iff.1 (writeEnables_fieldsBut (e.target / 4096) e.value (setWats (SMap.drop k s.hap.wats) s))).getF
    (p := pgTIM) (f := TIM.ST_state) (not_atFields_off (by decide) (by decide) (by decide))
  refine fabNs_congr ((getF_congr _ _ _ _ hregs).trans (hstate.trans (setWats_off (by decide) (by decide)))) ?_ ?_
  · unfold enablesFired watDone
    rw [watNotify_clk, (writeEnables_regsOnly _ _ _).clk, setWats_clk]
  · unfold enablesFired watDone
    rw [watNotify_tim, (writeEnables_regsOnly _ _ _).tim, setWats_tim]

theorem enablesFired_eventEn {j : Nat} (hj : j < 32) : getF (e.target / 4096) (HDR.EVENT_EN j) (enablesFired k e s) =
    if (eventMask (e.target / 4096)).testBit j then e.value / 2 ^ j % 2 else 0 := by
  unfold enablesFired watDone
  rw [getF_congr _ _ _ _ (watNotify_regs _ _ _), writeEnables_eventEn _ _ _ _ hj]

end

/-- an entry of PTP time whose trigger has been reached. -/
def watDue (s : State) (e : WatEntry) : Bool := !e.picture && decide (e.time ≤ fabNs s)

theorem fireDue_eq (s : State) : fireDue s = fireAll (watDue s) s.hap.wats.length s := rfl

theorem watDue_eq_false {s : State} {e : WatEntry} (h : e.picture = true ∨ fabNs s < e.time) : watDue s e = false := by
  unfold watDue
  rcases h with h | h
  · rw [h]; rfl
  · rw [decide_eq_false (by omega), Bool.and_false]

/-- where one entry alone is due, and it writes EVENT_EN of an answering page, it fires and nothing after it. -/
theorem fireDue_eventEn {k : Nat} {e : WatEntry} {s : State} (hs : SMap.sorted s.hap.wats = true)
    (hk : SMap.find k s.hap.wats = some e) (hp : e.picture = false) (hm : e.masked = false) (hdue : e.time ≤ fabNs s)
    (ht : e.target % 4096 = 0x014)
    (hother : ∀ j q, j ≠ k → SMap.find j s.hap.wats = some q → q.picture = true ∨ fabNs s < q.time)
    (hr : regStatus (e.target / 4096) 0x014 s = .success) : fireDue s = enablesFired k e s := by
  have hrest : ∀ d ∈ s.hap.wats, d.1 ≠ k → watDue s d.2 = false := fun d hd hne =>
    watDue_eq_false (hother d.1 d.2 hne (find_of_mem hs hd))
  have hfirst : firstEntry (watDue s) s = some (k, e) :=
    firstEntry_single hs hk (by rw [watDue, hp, decide_eq_true hdue]; rfl) hrest
  have hfire : fireEntry k e s = enablesFired k e s := fireEntry_eventEn hm ht ((regStatus_setWats _ _ _ _).trans hr)
  have hnone : firstEntry (watDue s) (fireEntry k e s) = none := by
    rw [hfire]
    refine firstEntry_none fun d hd => ?_
    rw [enablesFired_wats] at hd
    exact hrest d (mem_drop hd).1 (mem_drop hd).2
  obtain ⟨n, hn⟩ : ∃ n, s.hap.wats.length = n + 1 :=
    Nat.exists_eq_succ_of_ne_zero (List.length_pos_of_mem (SMap.mem_of_find _ _ _ hk)).ne'
  rw [fireDue_eq, hn, fireAll_single hfirst hnone, hfire]

/-! ## The commands -/

theorem watFireOp_ptp {k : Nat} {e : WatEntry} {s : State} (hk : SMap.find k s.hap.wats = some e) (hp : e.picture = false) :
    watFireOp k s = fireDue (advanceToNs e.time s) := by
  simp only [watFireOp, hk, hp, Bool.false_eq_true, if_false]

theorem watFireOp_idle {k : Nat} {s : State} (h : (SMap.find k s.hap.wats).all (fun e => e.picture) = true) :
    watFireOp k s = s := by
  unfold watFireOp
  cases hk : SMap.find k s.hap.wats with
  | none => rfl
  | some e =>
    rw [hk] at h
    exact if_pos h

/-- the slot is empty, and its session has the record of the cancellation (R58). -/
theorem watWithdraw_some {k : Nat} {e : WatEntry} {s : State} (hk : SMap.find k s.hap.wats = some e) :
    watWithdraw k s = watNotify e.sid (watRecord k Status.cancelled.code e.tag 0 0) (setWats (SMap.drop k s.hap.wats) s) := by
  simp only [watWithdraw, hk]

theorem watCancelOp_some {k : Nat} {e : WatEntry} {s : State} (hk : SMap.find k s.hap.wats = some e) :
    watCancelOp k s = (.success, watWithdraw k s) := by
  simp only [watCancelOp, hk]

theorem watCancelOp_none {k : Nat} {s : State} (hk : SMap.find k s.hap.wats = none) : watCancelOp k s = (.tooLate, s) := by
  simp only [watCancelOp, hk]

theorem exec_watCancel {r : Req} {slot : Byte} {s : State} (h : State.lets r 3 pgHAP 0x118 s) :
    exec (.watCancel r slot) s = .next (reply r 0x83 (regAddr pgHAP 0x118) (watCancelOp slot.toNat s).1 []
      (watCancelOp slot.toNat s).2) :=
  congrArg Host.Outcome.next (asWrite_runs _ _ _ _ _ h)

/-- Settles O9: acceptance by `writeAtOp_accepts`, firing by `fireDue_eventEn`, cancelling by `watWithdraw_some`. -/
theorem scheduledWrites : Obligations.ScheduledWrites := by
  refine ⟨fun r addr body s h hc _ _ => ?_, fun slot e s hk hp => ?_, fun slot e s hs hk hp hm hdue ht hother hr => ?_,
    fun slot s h => ?_, fun r slot e s h hk => ?_, fun r slot s h hk => ?_⟩
  · have hused : watSlot s ∉ s.hap.wats.map Prod.fst := pickFree_not_mem (by rw [List.length_map]; exact watCheck_room hc)
    exact ⟨watSlot s, watHeld r addr.toNat body s, watAccepted r addr.toNat body s,
      congrArg Host.Outcome.next (writeAtOp_accepts h hc), pickFree_lt _ _ (by decide), find_eq_none_of_not_mem hused,
      (SMap.find_put _ _ _ _).trans (if_pos rfl), rfl, rfl, rfl, fun j hj => (SMap.find_put _ _ _ _).trans (if_neg hj),
      setWats_count _ _, rfl, setWats_writesIn _ _⟩
  · exact congrArg Host.Outcome.next (watFireOp_ptp hk hp)
  · refine ⟨enablesFired slot.val e s, ?_, ?_, fun j hj => ?_, fun j hj => enablesFired_eventEn hj⟩
    · refine congrArg Host.Outcome.next ((watFireOp_ptp hk hp).trans ?_)
      rw [advanceToNs_past hdue, fireDue_eventEn hs hk hp hm hdue ht hother hr]
    · rw [enablesFired_wats, SMap.find_drop, if_pos rfl]
    · rw [enablesFired_wats, SMap.find_drop, if_neg hj]
  · exact congrArg Host.Outcome.next (watFireOp_idle h)
  · refine ⟨watWithdraw slot.toNat s, by rw [exec_watCancel h, watCancelOp_some hk], ?_⟩
    rw [watWithdraw_some hk]
    exact ⟨(SMap.find_drop _ _ _).trans (if_pos rfl), fun j hj => (SMap.find_drop _ _ _).trans (if_neg hj), rfl,
      (setWats_writesIn _ _).trans (.of_eq rfl)⟩
  · rw [exec_watCancel h, watCancelOp_none hk]

end Sys2Proof.Machine
end

section
/-! # Harlet frames and sessions (R37 to R54)

What a frame's way through the port leaves of the state, and the fate of a frame that reaches this device. -/

namespace Sys2Proof.Machine

/-! ## What a frame's fate on its port changes (R34, R355) -/

/-- from `s` to `t` only registers and the shared cell pool change. -/
def CellsOnly (s t : State) : Prop := t = { s with regs := t.regs, stk := t.stk }

section
variable {s t u : State}

theorem CellsOnly.refl (s : State) : CellsOnly s s := rfl

theorem CellsOnly.trans (h : CellsOnly s t) (k : CellsOnly t u) : CellsOnly s u :=
  Eq.trans k (congrArg (fun x : State => { x with regs := u.regs, stk := u.stk }) (show t = _ from h))

theorem RegsOnly.stk (h : RegsOnly s t) : t.stk = s.stk := by rw [show t = { s with regs := t.regs } from h]

theorem RegsOnly.cellsOnly (h : RegsOnly s t) : CellsOnly s t := by
  unfold CellsOnly
  rw [h.stk]
  exact h

theorem CellsOnly.hap (h : CellsOnly s t) : t.hap = s.hap := by rw [show t = { s with regs := t.regs, stk := t.stk } from h]

theorem CellsOnly.clk (h : CellsOnly s t) : t.clk = s.clk := by rw [show t = { s with regs := t.regs, stk := t.stk } from h]

theorem CellsOnly.out (h : CellsOnly s t) : t.out = s.out := by rw [show t = { s with regs := t.regs, stk := t.stk } from h]

theorem CellsOnly.sessionAt (h : CellsOnly s t) (i : Nat) : sessionAt i t = Machine.sessionAt i s := by
  unfold Machine.sessionAt
  rw [h.hap]

end

theorem popPkt_cellsOnly {q : Nat} {k : StkPkt} {s t : State} (h : popPkt q s = some (k, t)) : CellsOnly s t := by
  unfold popPkt at h
  extract_lets x at h
  split at h
  · cases h
  · split at h
    · cases h
    · cases h
      rfl

theorem takeIn_cellsOnly (i ctl : Nat) (s : State) : CellsOnly s (takeIn i ctl s) := by
  unfold takeIn
  split
  · split
    · exact (setF_regsOnly _ _ _ s).cellsOnly
    · exact (setF_regsOnly _ _ _ s).cellsOnly
  · split
    · next hpop => exact (popPkt_cellsOnly hpop).trans (setF_regsOnly _ _ _ _).cellsOnly
    · exact (setF_regsOnly _ _ _ s).cellsOnly

theorem harletDrop_cellsOnly (port : HPort) (reason : Nat) (s : State) : CellsOnly s (harletDrop port reason s) := by
  unfold harletDrop
  split
  · exact .refl s
  · exact (takeIn_cellsOnly _ _ s).trans (ethDropped_regsOnly _ _ _).cellsOnly

theorem harletTake_cellsOnly (port : HPort) (s : State) : CellsOnly s (harletTake port s) := by
  unfold harletTake
  split
  · exact .refl s
  · exact (takeIn_cellsOnly _ _ s).trans (setF_regsOnly _ _ _ _).cellsOnly

/-! ## What sending a frame leaves of HAP -/

/-- From `s` to `t` HAP keeps all but its sessions, and of these who they are and what they subscribe to. -/
structure HapKept (s t : State) : Prop where
  hap : t.hap = { s.hap with sessions := t.hap.sessions }
  view : t.sessionView = s.sessionView

section
variable {s t u : State}

theorem HapKept.of_eq (h : t.hap = s.hap) : HapKept s t := by
  refine ⟨?_, ?_⟩
  · rw [h]
  · unfold State.sessionView
    rw [h]

theorem HapKept.refl (s : State) : HapKept s s := .of_eq rfl

theorem HapKept.trans (h : HapKept s t) (k : HapKept t u) : HapKept s u :=
  ⟨k.hap.trans (congrArg (fun x : HapS => { x with sessions := u.hap.sessions }) h.hap), k.view.trans h.view⟩

theorem HapKept.accepts (h : HapKept s t) : t.hap.accepts = s.hap.accepts := (congrArg HapS.accepts h.hap).trans rfl

theorem HapKept.dkey (h : HapKept s t) : t.hap.dkey = s.hap.dkey := (congrArg HapS.dkey h.hap).trans rfl

theorem HapKept.domHigh (h : HapKept s t) : t.hap.domHigh = s.hap.domHigh := (congrArg HapS.domHigh h.hap).trans rfl

theorem HapKept.domSeen (h : HapKept s t) : t.hap.domSeen = s.hap.domSeen := (congrArg HapS.domSeen h.hap).trans rfl

theorem HapKept.ite {c : Prop} [Decidable c] (h : HapKept s t) (k : HapKept s u) : HapKept s (if c then t else u) := by
  split <;> assumption

end

/-- a record for a subscriber changes neither its session_id nor its subscriptions (R60). -/
theorem notify_hapKept (p k : Nat) (s : State) : HapKept s (notify p k s) := by
  refine ⟨rfl, ?_⟩
  unfold State.sessionView notify
  rw [List.map_map]
  refine List.map_congr_left fun e _ => ?_
  rw [Function.comp_apply]
  split <;> rfl

theorem raise_hapKept (p k : Nat) (s : State) : HapKept s (raise p k s) := by
  have hset : HapKept s (setF p (HDR.EVENT k) 1 (latchFirst p k s)) :=
    .of_eq ((latchFirst_regsOnly p k s).trans (setF_regsOnly _ _ _ _)).hap
  exact .ite (hset.trans (notify_hapKept _ _ _)) hset

theorem izlPost_hapKept (j vl : Nat) (m : List Byte) (s : State) : HapKept s (izlPost j vl m s) := by
  have hlost : HapKept s (addF (pgIZL j) IZL.MSG_LOST_count 1 s) := .of_eq rfl
  exact .ite (.refl s) (.ite (hlost.trans (raise_hapKept _ _ _)) (.of_eq rfl))

theorem sendManagement_hapKept (k hops d : Nat) (peer : Peer) (b : List Byte) (s : State) :
    HapKept s (sendManagement k hops d peer b s) := by
  unfold sendManagement
  split
  · exact izlPost_hapKept _ _ _ s
  · exact .refl s

theorem transmit_hapKept (port : HPort) (peer : Peer) (f : List Byte) (s : State) : HapKept s (transmit port peer f s) :=
  .ite (.ite (sendManagement_hapKept _ _ _ _ _ s) (.refl s)) (.ite (.of_eq rfl) (.refl s))

theorem broadcastCopies_hapKept (port : HPort) (peer : Peer) (f : List Byte) (s : State) :
    HapKept s (broadcastCopies port peer f s) :=
  .ite (List.foldlRecOn (motive := HapKept s) _ _ (.refl s) fun _ hu _ _ => hu.trans (sendManagement_hapKept _ _ _ _ _ _)) (.refl s)

/-! ## Frames that reach this device (R37 to R40, R52) -/

theorem fieldAt_drop (n off len : Nat) (f : List Byte) : fieldAt off len (f.drop n) = fieldAt (n + off) len f := by
  unfold fieldAt sub
  rw [List.drop_drop]

section
variable {port : HPort} {peer : Peer} {f : List Byte} {s : State}

/-- a good frame on an open port, addressed to this device, is executed, its copies sent first. -/
theorem harletOp_local (hreset : s.pwr.inReset = false) (hup : port = .izt ∨ portUp (portNum port) s = true)
    (haddr : portAddressed port peer s = true) (hopen : portOpen port s = true) (hhead : headOk f = true)
    (hme : addressesMe f s = true) : harletOp port peer f s = localFrame port peer f (broadcastCopies port peer f s) := by
  have hlink : (port != .izt && !portUp (portNum port) s) = false := by
    rcases hup with rfl | hup
    · rfl
    · rw [hup, Bool.not_true, Bool.and_false]
  unfold harletOp
  simp only [hreset, hlink, haddr, hopen, hhead, hme, Bool.or_self, Bool.not_true, Bool.false_eq_true, if_false, and_false, if_true]

theorem broadcastCopies_unicast (h : (frameHead f).mode = 0) : broadcastCopies port peer f s = s :=
  if_neg fun hc => hc.1 h

theorem harletOp_hears (h : State.hears port peer f s) : harletOp port peer f s = localFrame port peer f s := by
  obtain ⟨hreset, hup, haddr, hopen, hhead, hmode, hme⟩ := h
  rw [harletOp_local hreset hup haddr hopen hhead hme, broadcastCopies_unicast hmode]

theorem State.hears.mode (h : State.hears port peer f s) : (frameHead f).mode = 0 := by
  obtain ⟨-, -, -, -, -, hmode, -⟩ := h
  exact hmode

theorem localFrame_open (hmode : (frameHead f).mode = 0) (hkind : (frameHead f).kind = 4) :
    localFrame port peer f s = openFrame port peer f s := by
  simp only [localFrame, hmode, hkind, ne_eq, not_true_eq_false, if_false, if_true]

theorem localFrame_confirm (hmode : (frameHead f).mode = 0) (hkind : (frameHead f).kind = 6) :
    localFrame port peer f s = confirmFrame port peer f s := by
  simp only [localFrame, hmode, hkind, ne_eq, not_true_eq_false, if_false, if_true, Nat.reduceEqDiff]

/-- a tagged frame of an open session. -/
theorem localFrame_session {i : Fin 8} {x : Session} (hmode : (frameHead f).mode = 0)
    (hkind : (frameHead f).kind = 1 ∨ (frameHead f).kind = 7) (hsid : (frameHead f).sid ≠ domainSid)
    (hof : sessionOf (frameHead f).sid s = some i.val) (hat : sessionAt i.val s = some x) :
    localFrame port peer f s = sessionFrame i x port peer f s := by
  have h4 : (frameHead f).kind ≠ 4 := by omega
  have h5 : (frameHead f).kind ≠ 5 := by omega
  have h6 : (frameHead f).kind ≠ 6 := by omega
  simp only [localFrame, hmode, h4, h5, h6, hsid, hof, hat, i.isLt, ne_eq, not_true_eq_false, if_false, dite_true]

/-! ## Opening a session (R44 to R46) -/

/-- an accept waits for its confirm. -/
def acceptHeld (x : Accept) (s : State) : State :=
  { s with free := s.free + 1, hap := { s.hap with accepts := s.hap.accepts ++ [x] } }

/-- an open frame that may open a session is answered with an accept. -/
theorem openFrame_accepts (hlen : f.length = 157) (hsuite : fieldAt 25 1 f = 1)
    (hkey : if fieldAt 24 1 f = 0xFF then mayProvision port s = true else (SMap.find (fieldAt 24 1 f) s.fwl.keys).isSome = true)
    (hroom : s.hap.sessions.length < 8) :
    ∃ x g, openFrame port peer f s = transmit port peer g (acceptHeld x (harletTake port s)) ∧
      x.keyIndex = fieldAt 24 1 f ∧ x.port = port ∧ x.peer = peer := by
  have hbody : (f.drop 24).length = 133 := by rw [List.length_drop, hlen]
  have hgood : (if fieldAt 24 1 f = 0xFF then mayProvision port s else (SMap.find (fieldAt 24 1 f) s.fwl.keys).isSome) = true := by
    split at hkey
    · next h => rw [if_pos h, hkey]
    · next h => rw [if_neg h, hkey]
  unfold openFrame
  simp only [fieldAt_drop, Nat.reduceAdd, hbody, hsuite, hgood, Nat.not_le.2 hroom, ne_eq, not_true_eq_false, if_false, Bool.not_true,
    Bool.false_eq_true]
  exact ⟨_, _, rfl, rfl, rfl, rfl⟩

/-- what of an accept decides whether its confirm opens a session: the room for a provisioning session, or the signature. -/
def confirmGood (a : Accept) (f : List Byte) (s : State) : Bool :=
  if a.keyIndex == 0xFF then mayProvision a.port s
  else match SMap.find a.keyIndex s.fwl.keys with
    | some key => Config.ecdsaOk key (Config.sha384 (a.transcript ++ f.take 28)) (f.drop 28)
    | none => false

/-- the accept is used up, its frame taken. -/
def acceptUsed (port : HPort) (a : Accept) (s : State) : State :=
  harletTake port { s with hap := { s.hap with accepts := s.hap.accepts.filter (fun x => x.sid != a.sid) } }

/-- the session that a confirm opens (R43, R45, R47). -/
def confirmedSession (port : HPort) (peer : Peer) (a : Accept) (f : List Byte) (s : State) : Session :=
  let prk := Config.hkdfExtract (Config.sha384 (a.transcript ++ f.take 28 ++ f.drop 28)) a.secret
  ⟨a.sid, port, peer, a.keyIndex == 0xFF, Config.hkdfExpand prk labelC2d, Config.hkdfExpand prk labelD2c, 0, [], 1, s.clk, 0, 0, [], [],
    [], []⟩

/-- the index that a new session takes. -/
def newIndex (s : State) : Nat := pickFree 1 8 (s.hap.sessions.map Prod.fst)

/-- the session is open; a provisioning one raises HAP's event 0 (R46). -/
def sessionOpened (port : HPort) (peer : Peer) (a : Accept) (f : List Byte) (s : State) : State :=
  raiseIf (a.keyIndex == 0xFF) pgHAP 0 (putSession (newIndex s) (confirmedSession port peer a f s) s)

theorem ite_bnot {α : Type} (b : Bool) (x y : α) : (if !b then x else y) = if b then y else x := by cases b <;> rfl

/-- the confirm of a pending accept, by whether it is good. -/
theorem confirmFrame_pending {a : Accept} (hlen : f.length = 124) (ha : acceptOf (fieldAt 24 4 f) s = some a)
    (hroom : s.hap.sessions.length < 8) :
    confirmFrame port peer f s =
      if confirmGood a f s then sessionOpened port peer a f (acceptUsed port a s)
      else refuseOpen port peer .accessDenied (acceptUsed port a s) := by
  have hbody : (f.drop 24).length = 100 := by rw [List.length_drop, hlen]
  unfold confirmFrame
  simp only [fieldAt_drop, Nat.reduceAdd, List.drop_drop, hbody, ha, Nat.not_le.2 hroom, ne_eq, not_true_eq_false, if_false]
  exact ite_bnot (confirmGood a f s) _ _

theorem acceptUsed_accepts (a : Accept) :
    (acceptUsed port a s).hap.accepts = s.hap.accepts.filter (fun x => x.sid != a.sid) :=
  congrArg HapS.accepts (harletTake_cellsOnly port _).hap

theorem acceptUsed_view (a : Accept) : (acceptUsed port a s).sessionView = s.sessionView :=
  (HapKept.of_eq (harletTake_cellsOnly port _).hap).view

theorem refuseOpen_hapKept (st : Status) : HapKept s (refuseOpen port peer st s) := transmit_hapKept _ _ _ _

theorem EventsOnly.accepts {s t : State} (h : EventsOnly s t) : t.hap.accepts = s.hap.accepts := by
  rw [show t = _ from h]

theorem sessionOpened_accepts (a : Accept) : (sessionOpened port peer a f s).hap.accepts = s.hap.accepts :=
  (raiseIf_eventsOnly _ _ _ _).accepts

/-- a session that subscribes to nothing gets no record. -/
theorem notify_unsubscribed {i p k : Nat} {x : Session} {s : State} (hx : sessionAt i s = some x) (hsubs : x.subs = []) :
    sessionAt i (notify p k s) = some x := by
  unfold sessionAt notify at *
  revert hx
  dsimp only
  generalize s.hap.sessions = m
  intro hx
  induction m with
  | nil => exact hx
  | cons e m ih =>
    rw [List.map_cons]
    by_cases he : e.1 = i
    · rw [SMap.find, if_pos he, Option.some.injEq] at hx
      have hno : e.2.wants p k = false := by rw [hx, Session.wants, hsubs]; rfl
      rw [if_neg (by rw [hno]; decide), SMap.find, if_pos he, hx]
    · rw [SMap.find, if_neg he] at hx
      have hkey : ¬ (if e.2.wants p k then (e.1, { e.2 with records := e.2.records ++ [eventRecord p (2 ^ k) s] }) else e).1 = i := by
        split <;> exact he
      rw [SMap.find, if_neg hkey]
      exact ih hx

theorem raise_unsubscribed {i p k : Nat} {x : Session} {s : State} (hx : sessionAt i s = some x) (hsubs : x.subs = []) :
    sessionAt i (raise p k s) = some x := by
  have hset : sessionAt i (setF p (HDR.EVENT k) 1 (latchFirst p k s)) = some x := by
    unfold sessionAt
    rwa [((latchFirst_regsOnly p k s).trans (setF_regsOnly _ _ _ _)).hap]
  unfold raise
  dsimp only
  split
  · exact notify_unsubscribed hset hsubs
  · exact hset

/-- the session that a confirm opens is there. -/
theorem sessionOpened_sessionAt (a : Accept) : sessionAt (newIndex s) (sessionOpened port peer a f s) =
    some (confirmedSession port peer a f s) := by
  have hput := putSession_sessionAt (newIndex s) (confirmedSession port peer a f s) s
  unfold sessionOpened raiseIf
  split
  · exact raise_unsubscribed hput rfl
  · exact hput

end

/-! ## Closing a session (R43, R45) -/

theorem lockSessionClosed_frame (i : Nat) (s : State) :
    (lockSessionClosed i s).hap = s.hap ∧ (lockSessionClosed i s).clk = s.clk := by
  unfold lockSessionClosed closeLock
  split
  · split
    · exact ⟨rfl, rfl⟩
    · exact ⟨rfl, rfl⟩
  · exact ⟨rfl, rfl⟩

theorem postWaitEnd_frame (q : Nat) (s : State) : (postWaitEnd q s).hap = s.hap ∧ (postWaitEnd q s).clk = s.clk := by
  unfold postWaitEnd
  split
  · exact ⟨rfl, rfl⟩
  · exact ⟨rfl, rfl⟩

/-- a session that closes leaves HAP, which keeps the rest, and no time passes. -/
theorem closeSession_frame (i : Nat) (s : State) :
    (closeSession i s).hap = { s.hap with sessions := SMap.drop i s.hap.sessions } ∧ (closeSession i s).clk = s.clk := by
  unfold closeSession
  extract_lets +onlyGivenNames mine _ _ _ s1
  have h1 : s1.hap = { s.hap with sessions := SMap.drop i s.hap.sessions } ∧ s1.clk = s.clk := lockSessionClosed_frame i _
  refine List.foldlRecOn (motive := fun u : State => u.hap = { s.hap with sessions := SMap.drop i s.hap.sessions } ∧ u.clk = s.clk)
    _ _ h1 fun u hu q _ => ?_
  obtain ⟨hhap, hclk⟩ := postWaitEnd_frame q u
  exact ⟨hhap.trans hu.1, hclk.trans hu.2⟩

theorem closeSession_sessionAt (i : Nat) (s : State) : sessionAt i (closeSession i s) = none := by
  unfold sessionAt
  rw [(closeSession_frame i s).1]
  exact (SMap.find_drop _ _ _).trans (if_pos rfl)

section
variable {port : HPort} {peer : Peer} {f : List Byte} {i : Fin 8} {x : Session} {s : State}

/-- a close frame with a new sequence and a good tag. -/
theorem sessionFrame_close (hkind : (frameHead f).kind = 7) (hlen : 40 ≤ f.length)
    (hnew : seqNew x.rxHigh x.rxSeen (frameHead f).seq = true) (htag : tagOk x.rxKey f = true) :
    sessionFrame i x port peer f s = closeSession i.val (harletTake port s) := by
  simp only [sessionFrame, Nat.not_lt.2 hlen, hnew, htag, hkind, Bool.not_true, Bool.or_self, Bool.false_eq_true, if_false, if_true]

end

/-! ## Timers of accepts and sessions (R43, R45) -/

theorem advanceTo_frame (t : Nat) (s : State) :
    advanceTo t s = { s with clk := (advanceTo t s).clk, tim := (advanceTo t s).tim } := passTicks_frame _ s

theorem advanceTo_hap (t : Nat) (s : State) : (advanceTo t s).hap = s.hap := by rw [advanceTo_frame]

theorem acceptExpiryOp_some {sid : Nat} {a : Accept} {s : State} (h : s.hap.accepts.find? (fun y => y.sid == sid) = some a) :
    acceptExpiryOp sid s = { advanceTo (a.born + tickS) s with hap := { s.hap with
      accepts := s.hap.accepts.filter (fun y => y.sid != sid) } } := by
  simp only [acceptExpiryOp, h, advanceTo_hap]

theorem idleTimeoutOp_some {i : Nat} {x : Session} {s : State} (h : sessionAt i s = some x) :
    idleTimeoutOp i s =
      closeSession i (advanceTo (x.lastFrame + max 1 (getF pgHAP HAP.IDLE_TIMEOUT_seconds s) * tickS) s) := by
  simp only [idleTimeoutOp, h]

section
variable {port : HPort} {peer : Peer} {f : List Byte} {s : State}

theorem exec_sessionOpen (h : State.hears port peer f s) (hkind : (frameHead f).kind = 4) :
    exec (.sessionOpen port peer f) s = .next (openFrame port peer f s) := by
  rw [← localFrame_open h.mode hkind, ← harletOp_hears h]
  exact congrArg Host.Outcome.next (if_pos hkind)

theorem exec_sessionConfirm (h : State.hears port peer f s) (hkind : (frameHead f).kind = 6) :
    exec (.sessionConfirm port peer f) s = .next (confirmFrame port peer f s) := by
  rw [← localFrame_confirm h.mode hkind, ← harletOp_hears h]
  exact congrArg Host.Outcome.next (if_pos hkind)

theorem exec_sessionClose {i : Fin 8} {x : Session} (h : State.hears port peer f s) (hkind : (frameHead f).kind = 7)
    (hsid : (frameHead f).sid ≠ domainSid) (hof : sessionOf (frameHead f).sid s = some i.val) (hat : sessionAt i.val s = some x) :
    exec (.sessionClose port peer f) s = .next (sessionFrame i x port peer f s) := by
  rw [← localFrame_session h.mode (.inr hkind) hsid hof hat, ← harletOp_hears h]
  exact congrArg Host.Outcome.next (if_pos hkind)

end

theorem confirmGood_keyed {a : Accept} {f key : List Byte} {s : State} (ha : a.keyIndex ≠ 0xFF)
    (hkey : SMap.find a.keyIndex s.fwl.keys = some key) :
    confirmGood a f s = Config.ecdsaOk key (Config.sha384 (a.transcript ++ f.take 28)) (f.drop 28) := by
  have hne : (a.keyIndex == 0xFF) = false := beq_eq_false_iff_ne.2 ha
  simp only [confirmGood, hne, hkey, Bool.false_eq_true, if_false]

theorem confirmGood_provisioning {a : Accept} {f : List Byte} {s : State} (ha : a.keyIndex = 0xFF)
    (hp : mayProvision a.port s = true) : confirmGood a f s = true := by
  rw [confirmGood, ha, if_pos (beq_self_eq_true 0xFF), hp]

/-- Settles O10, a clause for each frame and timer: `openFrame_accepts`, `confirmFrame_pending`, `sessionFrame_close`,
`acceptExpiryOp_some` and `idleTimeoutOp_some`. -/
theorem sessionsOpenAndClose : Obligations.SessionsOpenAndClose := by
  refine ⟨fun port peer f s h hkind hlen hsuite hkey hroom => ?_, fun port peer f a s h hkind hlen ha hkeyed hroom => ?_,
    fun port peer f a s h hkind hlen ha hprov hroom hmay => ?_, fun port peer f i x s h hkind hlen hsid hof hat hnew htag => ?_,
    fun sid a s ha => ?_, fun i x s hat => ?_⟩
  · obtain ⟨x, g, hopen, hindex, hport, hpeer⟩ := openFrame_accepts (peer := peer) hlen hsuite hkey hroom
    refine ⟨_, x, exec_sessionOpen h hkind, ?_, hindex, hport, hpeer⟩
    rw [hopen, (transmit_hapKept _ _ _ _).accepts]
    exact congrArg (fun u : HapS => u.accepts ++ [x]) (harletTake_cellsOnly port s).hap
  · have hconfirm := confirmFrame_pending (port := port) (peer := peer) hlen ha hroom
    refine ⟨_, exec_sessionConfirm h hkind, ?_, fun key hkey hok => ?_, fun key hkey hbad => ?_⟩
    · rw [hconfirm]
      split
      · rw [sessionOpened_accepts, acceptUsed_accepts]
      · rw [(refuseOpen_hapKept _).accepts, acceptUsed_accepts]
    · rw [hconfirm, confirmGood_keyed hkeyed hkey, if_pos hok]
      exact ⟨_, _, sessionOpened_sessionAt a, rfl, beq_eq_false_iff_ne.2 hkeyed, rfl, rfl, rfl, rfl⟩
    · rw [hconfirm, confirmGood_keyed hkeyed hkey, hbad, if_neg (by decide), (refuseOpen_hapKept _).view, acceptUsed_view]
  · refine ⟨_, newIndex (acceptUsed port a s), confirmedSession port peer a f (acceptUsed port a s),
      exec_sessionConfirm h hkind, ?_⟩
    rw [confirmFrame_pending hlen ha hroom, if_pos (confirmGood_provisioning hprov hmay)]
    have hraised : (a.keyIndex == 0xFF) = true := by rw [hprov]; rfl
    refine ⟨sessionOpened_sessionAt a, rfl, hraised, ?_⟩
    rw [sessionOpened, hraised]
    exact raise_event _ _ _
  · refine ⟨_, exec_sessionClose h hkind hsid hof hat, ?_⟩
    rw [sessionFrame_close hkind hlen hnew htag, closeSession_sessionAt]
  · refine ⟨acceptExpiryOp sid.toNat s, rfl, ?_⟩
    rw [acceptExpiryOp_some ha]
    refine ⟨rfl, (le_max_right _ _).trans_eq (advanceTo_clk _ s).symm, ?_⟩
    dsimp only
    rw [advanceTo_frame]
  · refine ⟨idleTimeoutOp i.val s, rfl, ?_⟩
    obtain ⟨hhap, hclk⟩ := closeSession_frame i.val
      (advanceTo (x.lastFrame + max 1 (getF pgHAP HAP.IDLE_TIMEOUT_seconds s) * tickS) s)
    rw [idleTimeoutOp_some hat, hhap, hclk, advanceTo_hap]
    exact ⟨closeSession_sessionAt _ _, (le_max_right _ _).trans_eq (advanceTo_clk _ s).symm, rfl, rfl⟩

end Sys2Proof.Machine
end

section
/-! # Requests of open sessions and of the domain session (R42, R47, R51, R52) -/

namespace Sys2Proof.Machine

section
variable {port : HPort} {peer : Peer} {f : List Byte} {i : Fin 8} {x : Session} {ops : List (List Byte)} {s : State}

theorem exec_harletFrame_session (h : State.hears port peer f s) (hkind : (frameHead f).kind = 1)
    (hsid : (frameHead f).sid ≠ domainSid) (hof : sessionOf (frameHead f).sid s = some i.val) (hat : sessionAt i.val s = some x) :
    exec (.harletFrame port peer f) s = .next (sessionFrame i x port peer f s) := by
  rw [← localFrame_session h.mode (.inl hkind) hsid hof hat, ← harletOp_hears h]
  rfl

/-! ## A session's request -/

/-- the session after a valid frame: its window moved, its idle time restarted, the sender's port and address taken (R43, R47). -/
def heardSession (port : HPort) (peer : Peer) (f : List Byte) (x : Session) (s : State) : Session :=
  { x with
    rxHigh := (seqTake x.rxHigh x.rxSeen (frameHead f).seq).1
    rxSeen := (seqTake x.rxHigh x.rxSeen (frameHead f).seq).2
    lastFrame := s.clk
    port := port
    peer := peer }

/-- the state in which a request's operations begin. -/
def requestTaken (i : Fin 8) (x : Session) (port : HPort) (peer : Peer) (f : List Byte) (s : State) : State :=
  harletTake port (putSession i.val (heardSession port peer f x s) s)

theorem sessionFrame_request (hkind : (frameHead f).kind = 1) (hlen : 40 ≤ f.length)
    (hnew : seqNew x.rxHigh x.rxSeen (frameHead f).seq = true) (htag : tagOk x.rxKey f = true) (hops : requestOps f = some ops) :
    sessionFrame i x port peer f s = if ops.isEmpty then sendFrame i.val 2 0 [] (requestTaken i x port peer f s) else
      sendResponses i.val (runOps (.session i) (frameHead f).ops 0 ops (requestTaken i x port peer f s)) := by
  simp only [sessionFrame, Nat.not_lt.2 hlen, hnew, htag, hkind, hops, Bool.not_true, Bool.or_self, Bool.false_eq_true, if_false,
    ne_eq, not_true_eq_false, OfNat.one_ne_ofNat]
  rfl

theorem sessionFrame_refused (hlen : 40 ≤ f.length) (hbad : (seqNew x.rxHigh x.rxSeen (frameHead f).seq && tagOk x.rxKey f) = false) :
    sessionFrame i x port peer f s = harletDrop port 4 s := by
  have hor : (!seqNew x.rxHigh x.rxSeen (frameHead f).seq || !tagOk x.rxKey f) = true := by
    rw [← Bool.not_and, hbad]; rfl
  simp only [sessionFrame, Nat.not_lt.2 hlen, hor, if_false, if_true]

theorem requestTaken_sessionAt (j : Nat) : sessionAt j (requestTaken i x port peer f s) =
    if j = i.val then some (heardSession port peer f x s) else sessionAt j s :=
  ((harletTake_cellsOnly port _).sessionAt j).trans (sessionAt_putSession _ _ _ _)

/-- before the operations run only registers, the cell pool and the sessions have changed. -/
theorem requestTaken_frame : requestTaken i x port peer f s = { s with
    regs := (requestTaken i x port peer f s).regs, stk := (requestTaken i x port peer f s).stk
    hap := { s.hap with sessions := (requestTaken i x port peer f s).hap.sessions } } := by
  have hcells : CellsOnly _ (requestTaken i x port peer f s) := harletTake_cellsOnly port _
  have hhap := hcells.hap
  rw [hhap]
  exact hcells

/-! ## An empty request -/

theorem requestOps_empty (hlen : f.length = 40) (hops : (frameHead f).ops = 0) (hlength : (frameHead f).length = 0) :
    requestOps f = some [] := by
  have hnone : sub 24 (f.length - 40) f = [] := by rw [hlen]; rfl
  unfold requestOps
  simp only [hnone, hops, hlength]
  rfl

/-- the places of a page where no subport is shown. -/
def OffSubports : Nat → Prop := OffPlaces [ETH.SUBPORTS_up.loc]

theorem offSubports {p : Nat} {g : Fld} (hg : g.loc < 2 ^ 20) (hne : g.loc ∉ [ETH.SUBPORTS_up.loc]) : OffSubports (g.key p) :=
  offPlaces_of hg hne

theorem popPkt_offSubports {q : Nat} {k : StkPkt} {t : State} (h : popPkt q s = some (k, t)) : WritesIn OffSubports s t := by
  unfold popPkt at h
  extract_lets y at h
  split at h
  · cases h
  · split at h
    · cases h
    · cases h
      refine WritesIn.trans (WritesIn.trans (WritesIn.trans (.of_eq rfl) (subF_writesIn ?_)) (addF_writesIn ?_)) (addF_writesIn ?_)
      · exact offSubports (by decide) (by decide)
      · exact offSubports (by decide) (by decide)
      · exact offSubports (by decide) (by decide)

theorem takeIn_offSubports (n ctl : Nat) : WritesIn OffSubports s (takeIn n ctl s) := by
  have hreceived : WritesIn OffSubports s (ethReceived n s) := addF_writesIn (offSubports (by decide) (by decide))
  have hflight : ∀ u, WritesIn OffSubports u (subF (pgETH n) ETH.INFLIGHT_frames 1 u) := fun _ =>
    subF_writesIn (offSubports (by decide) (by decide))
  unfold takeIn
  split
  · exact .ite hreceived (hflight s)
  · split
    · next hpop => exact (popPkt_offSubports hpop).trans (hflight _)
    · exact hreceived

/-- taking a frame leaves which subports are up. -/
theorem harletTake_portUp (n : Nat) : portUp n (harletTake port s) = portUp n s := by
  have htake : WritesIn OffSubports s (harletTake port s) :=
    .ite (.refl s) ((takeIn_offSubports _ _).trans (addF_writesIn (offSubports (by decide) (by decide))))
  unfold portUp
  rw [htake.getF (not_offPlaces (by decide) (by decide))]

/-- what leaves with a frame: the peer's addresses and the frame's bytes. -/
def sentHarlet (port : HPort) (peer : Peer) (g : List Byte) : Output :=
  ⟨.harlet, portNum port, [peer.form, peer.mac.toNat, peer.udp.toNat, peer.ip.toNat] ++ nats g⟩

/-- a frame leaves a port whose link is up. -/
theorem transmit_up {g : List Byte} (hport : port ≠ .izt) (hup : portUp (portNum port) s = true) :
    (transmit port peer g s).out = s.out ++ [sentHarlet port peer g] ∧ (transmit port peer g s).hap = s.hap := by
  rw [transmit, if_neg hport, if_pos hup]
  exact ⟨rfl, rfl⟩

theorem sendFrame_some {j k n : Nat} {y : Session} {b : List Byte} (h : sessionAt j s = some y) :
    sendFrame j k n b s = transmit y.port y.peer (frameBytes k n y b) (putSession j { y with txNext := y.txNext + 1 } s) := by
  simp only [sendFrame, h]

/-- the empty response to an empty request: it leaves with the session's next sequence. -/
theorem requestTaken_answered (hport : port ≠ .izt) (hup : portUp (portNum port) s = true) :
    sessionAt i.val (sendFrame i.val 2 0 [] (requestTaken i x port peer f s)) =
        some { heardSession port peer f x s with txNext := x.txNext + 1 } ∧
      (sendFrame i.val 2 0 [] (requestTaken i x port peer f s)).out.getLast? = some (sentHarlet port peer (frameBytes 2 0 x [])) := by
  have hat := (requestTaken_sessionAt (port := port) (peer := peer) (f := f) (i := i) (x := x) (s := s) i.val).trans (if_pos rfl)
  have hlink : portUp (portNum port) (putSession i.val { heardSession port peer f x s with txNext := x.txNext + 1 }
      (requestTaken i x port peer f s)) = true :=
    (harletTake_portUp (s := putSession i.val (heardSession port peer f x s) s) (portNum port)).trans hup
  obtain ⟨hout, hhap⟩ := transmit_up (peer := peer) (g := frameBytes 2 0 x []) hport hlink
  rw [sendFrame_some hat]
  constructor
  · unfold sessionAt
    exact (congrArg (fun h : HapS => SMap.find i.val h.sessions) hhap).trans (putSession_sessionAt _ _ _)
  · exact (congrArg List.getLast? hout).trans List.getLast?_concat

/-! ## A request of the domain session -/

/-- the state in which the operations of a domain request begin: the domain window moved (R47, R52). -/
def domainTaken (port : HPort) (f : List Byte) (s : State) : State :=
  harletTake port { s with hap := { s.hap with
    domHigh := (seqTake s.hap.domHigh s.hap.domSeen (frameHead f).seq).1
    domSeen := (seqTake s.hap.domHigh s.hap.domSeen (frameHead f).seq).2 } }

theorem domainFrame_request {key : Nat} (hdkey : s.hap.dkey = some key) (hkind : (frameHead f).kind = 1)
    (hnew : seqNew s.hap.domHigh s.hap.domSeen (frameHead f).seq = true) (htag : tagOk (beBytes 32 key) f = true)
    (hops : requestOps f = some ops) : domainFrame port f s = runOps .domain (frameHead f).ops 0 ops (domainTaken port f s) := by
  simp only [domainFrame, domainTaken, hdkey, hnew, htag, hkind, hops, Bool.not_true, Bool.or_self, Bool.false_eq_true, if_false,
    ne_eq, not_true_eq_false]

theorem exec_harletFrame_domain (h : State.hearsDomain port peer f s) (hlen : 40 ≤ f.length) :
    exec (.harletFrame port peer f) s = .next (domainFrame port f (broadcastCopies port peer f s)) := by
  obtain ⟨hreset, hup, haddr, hopen, hhead, hmode, hsid, hme⟩ := h
  refine congrArg Host.Outcome.next ((harletOp_local hreset hup haddr hopen hhead hme).trans ?_)
  simp only [localFrame, hmode, hsid, Nat.not_lt.2 hlen, ne_eq, not_true_eq_false, not_false_eq_true, if_true, if_false]

end

/-- Settles O11: `sessionFrame_request`, `requestTaken_answered`, `domainFrame_request` and `sessionFrame_refused`. -/
theorem emptyRequestIsAnswered : Obligations.EmptyRequestIsAnswered := by
  refine ⟨fun port peer f i x ops s h hkind hlen hsid hof hat hnew htag hops => ?_,
    fun port peer f i x s h hport hkind hlen hnone hlength hsid hof hat hnew htag => ?_,
    fun port peer f key ops s h hdkey hkind hlen hnew htag hops => ?_,
    fun port peer f i x s h hlen hkind hsid hof hat hbad => ?_⟩
  · refine ⟨requestTaken i x port peer f s, heardSession port peer f x s, (requestTaken_sessionAt _).trans (if_pos rfl), rfl, rfl, rfl,
      fun j hj => (requestTaken_sessionAt _).trans (if_neg hj), requestTaken_frame, ?_⟩
    rw [exec_harletFrame_session h hkind hsid hof hat, sessionFrame_request hkind hlen hnew htag hops]
  · obtain ⟨-, hup, -⟩ := id h
    obtain ⟨hses, hout⟩ := requestTaken_answered (i := i) (x := x) (peer := peer) (f := f) hport (hup.resolve_left hport)
    refine ⟨_, { heardSession port peer f x s with txNext := x.txNext + 1 }, ?_, hses, rfl, rfl, rfl, rfl, rfl, hout⟩
    rw [exec_harletFrame_session h hkind hsid hof hat,
      sessionFrame_request hkind hlen.ge hnew htag (requestOps_empty hlen hnone hlength)]
    rfl
  · have hcopies := broadcastCopies_hapKept port peer f s
    have hhap : (domainTaken port f (broadcastCopies port peer f s)).hap = _ := (harletTake_cellsOnly port _).hap
    refine ⟨domainTaken port f (broadcastCopies port peer f s), ?_, ?_, ?_⟩
    · rw [hhap]
      exact congrArg (fun n => max n (frameHead f).seq) hcopies.domHigh
    · rw [hhap]
      exact hcopies.dkey.trans hdkey
    · rw [exec_harletFrame_domain h hlen, domainFrame_request (hcopies.dkey.trans hdkey) hkind
        (by rwa [hcopies.domHigh, hcopies.domSeen]) htag hops]
  · exact ⟨_, exec_harletFrame_session h hkind hsid hof hat, by rw [sessionFrame_refused hlen hbad]; exact harletDrop_cellsOnly _ _ _⟩

end Sys2Proof.Machine
end

section
/-! # Provenance, keys and parts (R46, R423 to R441) -/

namespace Sys2Proof.Machine

/-! ## A FW_SESSION operation that is served (R430) -/

section
variable {i : Fin 8} {tag : BitVec 16} {s : State}

theorem opStart_session {c addr : Nat} {k : State → State} {x : Session} (hx : sessionAt i.val s = some x)
    (hprov : x.provisioning = false) (hroom : x.outstanding + x.unsent < 64) : opStart ⟨.session i, tag⟩ c addr k s = k s := by
  simp only [opStart, hx, hprov, Nat.not_le.2 hroom, Bool.false_eq_true, if_false]

theorem fwOp_session {addr : Nat} {op : State → Status × List Byte × State} {x : Session} (hstage : s.fwl.stage ≠ 0)
    (hx : sessionAt i.val s = some x) (hprov : x.provisioning = false) (hroom : x.outstanding + x.unsent < 64) :
    fwOp ⟨.session i, tag⟩ addr op s = reply ⟨.session i, tag⟩ 0x89 addr (op s).1 (op s).2.1 (op s).2.2 := by
  unfold fwOp
  rw [opStart_session hx hprov hroom, if_neg hstage]

theorem fwOp_served {addr : Nat} {op : State → Status × List Byte × State} (h : State.fwLets i.val s) :
    fwOp ⟨.session i, tag⟩ addr op s = reply ⟨.session i, tag⟩ 0x89 addr (op s).1 (op s).2.1 (op s).2.2 := by
  obtain ⟨hstage, x, hx, hprov, hroom⟩ := h
  exact fwOp_session hstage hx hprov hroom

/-! ## Quotes (R424, R425) -/

theorem attestOp_waits {nonce : List Byte} {x : Session} (h : State.fwLets i.val s) (hx : sessionAt i.val s = some x) :
    attestOp ⟨.session i, tag⟩ 0 nonce s = putSession i.val { x with outstanding := x.outstanding + 1 }
      { s with fwl := { s.fwl with quotes := s.fwl.quotes ++ [(⟨.session i, tag⟩, 0, nonce)] } } := by
  obtain ⟨hstage, y, hy, hprov, hroom⟩ := h
  have hat : sessionAt i.val { s with fwl := { s.fwl with quotes := s.fwl.quotes ++ [(⟨.session i, tag⟩, 0, nonce)] } } = some x := hx
  unfold attestOp
  rw [opStart_session hy hprov hroom, if_neg hstage]
  simp only [holdOp, hat]

theorem exec_quoteComplete (s : State) : exec .quoteComplete s = .next (quoteCompleteOp s) := rfl

/-- the oldest quote leaves the queue, counted. -/
def quoteSigned (l : List (Req × Nat × List Byte)) (s : State) : State :=
  addF pgFWL FWL.ATTESTS 1 { s with fwl := { s.fwl with quotes := l } }

theorem quoteSigned_quotes (l : List (Req × Nat × List Byte)) : (quoteSigned l s).fwl.quotes = l := by
  rw [quoteSigned, addF_fwl]

theorem quoteSigned_count (l : List (Req × Nat × List Byte)) :
    getF pgFWL FWL.ATTESTS (quoteSigned l s) = (getF pgFWL FWL.ATTESTS s + 1) % 2 ^ 32 := getF_addF_same pgFWL FWL.ATTESTS 1 _

theorem quoteSigned_writesIn (l : List (Req × Nat × List Byte)) :
    WritesIn (AtFields pgFWL [FWL.ATTESTS]) s (quoteSigned l s) :=
  addF_writesIn (s := { s with fwl := { s.fwl with quotes := l } }) (atFields_of_mem List.mem_cons_self)

theorem quoteCompleteOp_cons {r : Req} {addr : Nat} {nonce : List Byte} {l : List (Req × Nat × List Byte)}
    (h : s.fwl.quotes = (r, addr, nonce) :: l) : quoteCompleteOp s = lateReply r 0x88 addr .success
      (quoteBody nonce s ++ Config.identitySign (Config.sha384 (quoteBody nonce s))) (quoteSigned l s) := by
  simp only [quoteCompleteOp, h]
  rfl

/-! ## Parts (R425, R439, R441) -/

/-- a part answers with its bytes, a part that there is not with invalid-value. -/
theorem reply_partReply (r : Req) (addr k : Nat) (l : List Byte) (s : State) :
    reply r 0x89 addr (partReply k l s).1 (partReply k l s).2.1 (partReply k l s).2.2 =
      match partOf k l with
      | some b => reply r 0x89 addr .success b s
      | none => reply r 0x89 addr .invalidValue [] s := by
  unfold partReply
  cases partOf k l <;> rfl

/-- nothing has no parts. -/
theorem partOf_nil (k : Nat) : partOf k [] = none := by
  unfold partOf
  exact if_neg (Nat.not_lt_zero k)

theorem catReadOp_none {k : Nat} (h : newestSlot [] s = none) : catReadOp k s = partReply k [] s := by
  simp only [catReadOp, h]

theorem catReadOp_some {j k : Nat} {x : CatSlot} (h : newestSlot [] s = some (j, x)) : catReadOp k s = partReply k (catBytes x) s := by
  simp only [catReadOp, h]

/-- the folio formed anew, and counted. -/
def folioFormed (s : State) : State :=
  addF pgFWL FWL.FOLIO_exports 1 { s with fwl := { s.fwl with
    exported := s.fwl.folio ++ Config.identitySign (Config.sha384
      (beBytes 2 (deviceNumber s) ++ beBytes 1 Config.stepping ++ quoteStamp s ++ s.fwl.folio)) } }

theorem folioExportOp_zero : folioExportOp 0 s = partReply 0 (folioFormed s).fwl.exported (folioFormed s) := rfl

theorem folioExportOp_later {k : Nat} (h : k ≠ 0) : folioExportOp k s = partReply k s.fwl.exported s := by
  simp only [folioExportOp, h, if_false]

/-! ## Floors (R423, R429) -/

/-- the floor of a type raised, measured and told. -/
def floorRaised (kind svn : Nat) (s : State) : State :=
  raise pgFWL 7 (measureFloors (storeWritten 64 (setF pgFWL (floorField kind) svn s)))

theorem raiseFloorOp_invalid {kind : Nat} (h : kind = 0 ∨ 3 < kind) : raiseFloorOp kind s = (.invalidValue, [], s) :=
  if_pos (by omega)

theorem raiseFloorOp_installed {kind : Nat} {x : StoredImage} (hlow : 1 ≤ kind) (hhigh : kind ≤ 3)
    (hx : installedImage kind s = some x) :
    raiseFloorOp kind s = (.success, beBytes 4 (max (getF pgFWL (floorField kind) s) (hdrSvn x.header)),
      if getF pgFWL (floorField kind) s < hdrSvn x.header then floorRaised kind (hdrSvn x.header) s else s) := by
  unfold raiseFloorOp
  rw [if_neg (by omega), hx]
  by_cases h : getF pgFWL (floorField kind) s < hdrSvn x.header
  · simp only [max_eq_right h.le, h, if_true]
    rfl
  · simp only [max_eq_left (Nat.not_lt.1 h), h, lt_irrefl, if_false]

/-- the floors lie beyond the page header, and are 32 bits wide. -/
theorem floorField_spec (kind : Nat) : 0x100 * 8 ≤ (floorField kind).loc ∧ (floorField kind).loc < 2 ^ 20 ∧
    (floorField kind).width = 32 := by
  unfold floorField
  split_ifs <;> decide

theorem floorRaised_floor (kind svn : Nat) : getF pgFWL (floorField kind) (floorRaised kind svn s) = svn % 2 ^ 32 := by
  obtain ⟨hhigh, -, hwidth⟩ := floorField_spec kind
  have hset : getF pgFWL (floorField kind) (measureFloors (storeWritten 64 (setF pgFWL (floorField kind) svn s))) = svn % 2 ^ 32 :=
    (getF_setF_same pgFWL (floorField kind) svn s).trans (by rw [hwidth])
  unfold floorRaised
  rw [raise_getF _ _ _ _ ?_ ?_ ?_ ?_, hset]
  · rw [event_loc]; omega
  · have hloc : HDR.FIRST_index.loc < 0x100 * 8 := by decide
    omega
  · have hloc : HDR.FIRST_valid.loc < 0x100 * 8 := by decide
    omega
  · have hloc : HDR.FIRST_time_us.loc < 0x100 * 8 := by decide
    omega

theorem floorRaised_regsBut (kind svn : Nat) : State.regsBut [pgFWL] s (floorRaised kind svn s) := by
  obtain ⟨-, hlow, -⟩ := floorField_spec kind
  have hset : State.regsBut [pgFWL] s (measureFloors (storeWritten 64 (setF pgFWL (floorField kind) svn s))) :=
    setF_regsBut pgFWL (floorField kind) svn s hlow
  exact hset.trans (raise_regsBut _ _ _ (by decide))

/-! ## Controller keys (R436) -/

/-- the keys that are set, by slot. -/
def keyMask (m : SMap (List Byte)) : Nat := m.foldl (fun n e => n + 2 ^ e.1) 0

/-- a key stored, measured and told. -/
def keyStored (k : Nat) (key : List Byte) (s : State) : State :=
  raise pgFWL 8 (measureKeys (storeWritten 128 (setF pgFWL FWL.KEYS_slots (keyMask (SMap.put k key s.fwl.keys))
    { s with fwl := { s.fwl with keys := SMap.put k key s.fwl.keys } })))

theorem keySetOp_invalid {k : Nat} {key : List Byte} (h : 8 ≤ k ∨ (key.length ≠ 97 ∧ key.length ≠ 0)) :
    keySetOp k key s = (.invalidValue, [], s) := if_pos h

theorem keySetOp_stores {k : Nat} {key : List Byte} (hk : k < 8) (hlen : key.length = 97) :
    keySetOp k key s = (.success, [], keyStored k key s) := by
  have hkey : key.isEmpty = false := by
    cases key with
    | nil => cases hlen
    | cons b l => rfl
  unfold keySetOp
  rw [if_neg (by omega), hkey]
  rfl

theorem EventsOnly.fwl {s t : State} (h : EventsOnly s t) : t.fwl = s.fwl := by rw [show t = _ from h]

theorem keyStored_key (k : Nat) (key : List Byte) : SMap.find k (keyStored k key s).fwl.keys = some key := by
  unfold keyStored
  rw [(raise_eventsOnly _ _ _).fwl]
  exact (SMap.find_put _ _ _ _).trans (if_pos rfl)

theorem keyStored_regsBut (k : Nat) (key : List Byte) : State.regsBut [pgFWL] s (keyStored k key s) := by
  have hset : State.regsBut [pgFWL] s (measureKeys (storeWritten 128 (setF pgFWL FWL.KEYS_slots (keyMask (SMap.put k key s.fwl.keys))
      { s with fwl := { s.fwl with keys := SMap.put k key s.fwl.keys } }))) :=
    setF_regsBut pgFWL FWL.KEYS_slots _ { s with fwl := { s.fwl with keys := SMap.put k key s.fwl.keys } } (by decide)
  exact hset.trans (raise_regsBut _ _ _ (by decide))

/-- KEY_SET runs in a provisioning session too (R46). -/
theorem keySetRun_served {k : Nat} {key : List Byte} {x : Session} (hstage : s.fwl.stage ≠ 0) (hx : sessionAt i.val s = some x)
    (hmay : x.provisioning = true ∨ x.outstanding + x.unsent < 64) :
    keySetRun ⟨.session i, tag⟩ 9 k key s =
      reply ⟨.session i, tag⟩ 0x89 9 (keySetOp k key s).1 (keySetOp k key s).2.1 (keySetOp k key s).2.2 := by
  have hrun : (s.fwl.stage != 0) = true := bne_iff_ne.2 hstage
  unfold keySetRun
  simp only [hx, hrun, Bool.and_true]
  cases hprov : x.provisioning with
  | true => rfl
  | false =>
    rw [hprov] at hmay
    exact fwOp_session hstage hx hprov (hmay.resolve_left (by decide))

/-! ## EXTEND (R423) -/

theorem provSlot_extendSlot (n m : Nat) (v : List Byte) : provSlot n (extendSlot m v s) =
    if n = m then Config.sha384 (provSlot m s ++ v) else provSlot n s := SMap.get_put _ _ _ _ _

theorem extendOp_extends {v : List Byte} (h : v.length = 48) : extendOp v s = (.success, provSlot 7 (extendSlot 7 v s), extendSlot 7 v s) :=
  if_neg (not_not.2 h)

theorem extendOp_invalid {v : List Byte} (h : v.length ≠ 48) : extendOp v s = (.invalidValue, [], s) := if_pos h

/-! ## CAT_DISCARD (R439) -/

theorem catDiscardOp_unavailable (h : s.fwl.stage ≠ 6) : catDiscardOp s = (.unavailable, [], s) := if_pos h

theorem catDiscardOp_writes (h : s.fwl.stage = 6) : catDiscardOp s = (.success, [], endQuarantine (writeSlot (nextSlot [] s) s)) :=
  if_neg (not_not.2 h)

/-- what the write of a slot shows. -/
def slotFields : List Fld := [FWL.CAT_SLOT_slot, FWL.CAT_GEN_generation, FWL.CAT_SCHEMA_found]

theorem writeSlot_writesIn (x : CatSlot) : WritesIn (AtFields pgFWL slotFields) s (writeSlot x s) := by
  have hset : ∀ (f : Fld) (v : Nat) (u : State), f ∈ slotFields → WritesIn (AtFields pgFWL slotFields) u (setF pgFWL f v u) :=
    fun _ _ _ hf => setF_writesIn (atFields_of_mem hf)
  unfold writeSlot
  extract_lets +onlyGivenNames k _ s1
  have hstored : WritesIn (AtFields pgFWL slotFields) s s1 := .of_eq rfl
  have hshown := ((hstored.trans (hset FWL.CAT_SCHEMA_found x.schema s1 (by simp [slotFields]))).trans
    (hset FWL.CAT_GEN_generation x.gen _ (by simp [slotFields]))).trans (hset FWL.CAT_SLOT_slot k _ (by simp [slotFields]))
  exact hshown.trans (.of_eq rfl)

theorem writeSlot_find (x : CatSlot) : ∃ k, SMap.find k (writeSlot x s).fwl.catalogue = some x :=
  ⟨_, (SMap.find_put _ _ _ _).trans (if_pos rfl)⟩

/-- what a change of the boot state shows. -/
def bootFields : List Fld := [FWL.BOOT_state, FWL.ST_quarantine, FWL.ST_recovery]

/-- the boot state shown, before a change is measured. -/
def bootShown (n : Nat) (s : State) : State :=
  setF pgFWL FWL.BOOT_state n (setF pgFWL FWL.ST_quarantine (n == 1).toNat (setF pgFWL FWL.ST_recovery (n == 2).toNat s))

theorem setBootState_regs (n : Nat) : (setBootState n s).regs = (bootShown n s).regs := by
  unfold setBootState
  dsimp only
  split
  · rfl
  · rfl

theorem setBootState_catalogue (n : Nat) : (setBootState n s).fwl.catalogue = s.fwl.catalogue := by
  unfold setBootState
  dsimp only
  split
  · rfl
  · rfl

theorem setBootState_writesIn (n : Nat) : WritesIn (AtFields pgFWL bootFields) s (setBootState n s) := by
  have hset : ∀ (f : Fld) (v : Nat) (u : State), f ∈ bootFields → WritesIn (AtFields pgFWL bootFields) u (setF pgFWL f v u) :=
    fun _ _ _ hf => setF_writesIn (atFields_of_mem hf)
  have hshown : WritesIn (AtFields pgFWL bootFields) s (bootShown n s) :=
    ((hset FWL.ST_recovery _ s (by simp [bootFields])).trans (hset FWL.ST_quarantine _ _ (by simp [bootFields]))).trans
      (hset FWL.BOOT_state _ _ (by simp [bootFields]))
  exact hshown.trans (.of_eq (setBootState_regs n))

theorem setBootState_bootState {n : Nat} (h : n < 4) : bootState (setBootState n s) = n :=
  (getF_congr _ _ _ _ (setBootState_regs n)).trans ((getF_setF_same _ _ _ _).trans (Nat.mod_eq_of_lt h))

/-- quarantine has ended: the boot state is normal, and EVENT bit 2 tells it. -/
def quarantineEnded (s : State) : State := raise pgFWL 2 (setF pgFWL HDR.ACT_reason 0 (setBootState 0 s))

theorem endQuarantine_eq : endQuarantine s = if bootState s = 1 then quarantineEnded s else s := rfl

theorem quarantineEnded_bootState : bootState (quarantineEnded s) = 0 := by
  unfold quarantineEnded bootState
  rw [raise_getF _ _ _ _ (by decide) (by decide) (by decide) (by decide), getF_setF_field _ _ _ _ _ (by decide)]
  exact setBootState_bootState (by decide)

theorem endQuarantine_regsBut : State.regsBut [pgFWL] s (endQuarantine s) :=
  .ite (((setBootState_writesIn 0).onPage (by decide)).trans
    ((setF_regsBut pgFWL HDR.ACT_reason 0 _ (by decide)).trans (raise_regsBut _ _ _ (by decide)))) (.refl _ s)

theorem endQuarantine_catalogue : (endQuarantine s).fwl.catalogue = s.fwl.catalogue := by
  rw [endQuarantine_eq]
  split
  · rw [quarantineEnded, (raise_eventsOnly _ _ _).fwl, setF_fwl, setBootState_catalogue]
  · rfl

end

/-- Settles O48, a clause for each operation: what it answers once it is served (`fwOp_served`, `keySetRun_served`), and what it stores. -/
theorem provenanceKeysAndParts : Obligations.ProvenanceKeysAndParts := by
  refine ⟨fun i tag nonce x s h hx => ?_, fun r addr nonce l s h => ?_, fun i tag part s h => ⟨?_, fun k x hslot => ?_, fun hslot => ?_⟩,
    fun i tag kind s h => ⟨fun x hlow hhigh himage => ⟨fun hlt => ?_, fun hle => ?_⟩, fun hkind => ?_⟩,
    fun i tag slot key x s hstage hx hmay => ⟨fun hslot hlen => ?_, fun hbad => ?_⟩,
    fun i tag v s h => ⟨fun hlen => ?_, fun hlen => ?_⟩, fun i tag s h => ⟨fun hmain => ?_, fun hmain => ?_⟩,
    fun i tag s h => ?_, fun i tag part s h hpart => ?_⟩
  · exact ⟨_, congrArg Host.Outcome.next (attestOp_waits h hx), rfl, putSession_sessionAt _ _ _, rfl⟩
  · refine ⟨quoteSigned l s, ?_, quoteSigned_quotes l, quoteSigned_count l, quoteSigned_writesIn l⟩
    rw [exec_quoteComplete, quoteCompleteOp_cons h]
  · refine congrArg Host.Outcome.next ((fwOp_served h).trans ?_)
    refine (reply_partReply _ _ _ _ _).trans ?_
    cases partOf part.toNat Config.certificate <;> rfl
  · refine congrArg Host.Outcome.next ((fwOp_served h).trans ?_)
    rw [catReadOp_some hslot]
    exact reply_partReply _ _ _ _ _
  · refine congrArg Host.Outcome.next ((fwOp_served h).trans ?_)
    rw [catReadOp_none hslot, reply_partReply, partOf_nil]
  · refine ⟨floorRaised kind.toNat (hdrSvn x.header) s, congrArg Host.Outcome.next ((fwOp_served h).trans ?_),
      floorRaised_floor _ _, raise_event _ _ _, floorRaised_regsBut _ _⟩
    rw [raiseFloorOp_installed hlow hhigh himage, max_eq_right hlt.le, if_pos hlt]
  · refine congrArg Host.Outcome.next ((fwOp_served h).trans ?_)
    rw [raiseFloorOp_installed hlow hhigh himage, max_eq_left hle, if_neg (Nat.not_lt.2 hle)]
  · refine congrArg Host.Outcome.next ((fwOp_served h).trans ?_)
    rw [raiseFloorOp_invalid hkind]
  · refine ⟨keyStored slot.toNat key s, congrArg Host.Outcome.next ((keySetRun_served hstage hx hmay).trans ?_),
      keyStored_key _ _, raise_event _ _ _, keyStored_regsBut _ _⟩
    rw [keySetOp_stores hslot hlen]
  · refine congrArg Host.Outcome.next ((keySetRun_served hstage hx hmay).trans ?_)
    rw [keySetOp_invalid hbad]
  · refine ⟨extendSlot 7 v s, congrArg Host.Outcome.next ((fwOp_served h).trans ?_), (provSlot_extendSlot 7 7 v).trans (if_pos rfl),
      fun n hn => (provSlot_extendSlot n 7 v).trans (if_neg hn), rfl⟩
    rw [extendOp_extends hlen]
  · refine congrArg Host.Outcome.next ((fwOp_served h).trans ?_)
    rw [extendOp_invalid hlen]
  · have hstate : bootState (writeSlot (nextSlot [] s) s) = bootState s :=
      (writeSlot_writesIn _).getF (not_atFields (by decide))
    refine ⟨endQuarantine (writeSlot (nextSlot [] s) s), congrArg Host.Outcome.next ((fwOp_served h).trans ?_), fun hq => ?_, ?_,
      ((writeSlot_writesIn _).onPage (by decide)).trans endQuarantine_regsBut⟩
    · rw [catDiscardOp_writes hmain]
    · rw [endQuarantine_eq, if_pos (hstate.trans hq)]
      exact ⟨quarantineEnded_bootState, raise_event _ _ _⟩
    · rw [endQuarantine_catalogue]
      exact writeSlot_find _
  · refine congrArg Host.Outcome.next ((fwOp_served h).trans ?_)
    rw [catDiscardOp_unavailable hmain]
  · exact ⟨folioFormed s, congrArg Host.Outcome.next ((fwOp_served h).trans (reply_partReply _ _ _ _ _)), getF_addF_same _ _ _ _,
      fieldsBut_iff.2 (setF_writesIn (s := { s with fwl := (folioFormed s).fwl }) (atFields_of_mem List.mem_cons_self))⟩
  · have hlater : part.toNat ≠ 0 := fun h0 => hpart (BitVec.eq_of_toNat_eq h0)
    refine congrArg Host.Outcome.next ((fwOp_served h).trans ?_)
    rw [folioExportOp_later hlater]
    exact reply_partReply _ _ _ _ _

end Sys2Proof.Machine
end


section

/-! # WINDOW_CLOSE where TIME stands still (O16) -/

namespace Sys2Proof.Machine

/-- A row of picture 0 with no work, released, its window open until 10 ns. -/
def rowWithOpenWindow : EchRow where
  pic := 0
  row := 0
  budget := 0
  floor := 0
  feed := 0
  stamp := 0
  wraps := 0
  release := 0
  close := 10
  depart := 0
  source := 0
  qp := 0
  effort := 0
  qpMin := 0
  qpMax := 0
  conflict := false
  kind := 0
  refs := 0
  refresh := none
  closed := []
  charges := []
  phys := []
  filler := 0
  released := true
  windowClosed := false
  late := false
  allFloor := false
  overQp := false
  forced := []
  idr := false
  join := false
  fromLead := false
  settled := false

/-- TIMEREF is lost, noted at a tick that is still to come, and the row's window is open on channel 0. -/
def openWindowStoppedAhead : State :=
  { setF pgTIM TIM.ST_state 4 State.reset with
    tim := { TimS.reset with stopAt := 1000 }
    ech := [(0, { EchS.reset with rows := [rowWithOpenWindow] })] }

/-- Refutes O16: where the stop of TIME lies ahead of the tick count, the PTP time as FAB carries it stands still (`fabNs`), and the
window's close at 10 ns is not reached, while the row is marked closed. No run leads to such a state; the statement speaks of every
state. -/
theorem not_rowLifeInAnEncodeChannel : ¬ Obligations.RowLifeInAnEncodeChannel := by
  rintro ⟨-, -, -, hclose⟩
  have hpending : pendingGen (pgOUT 0) openWindowStoppedAhead = false := by decide
  have hdue : dueClose (0 : Fin 32).val openWindowStoppedAhead = some rowWithOpenWindow := by decide
  obtain ⟨t, ht, hreached, -⟩ := hclose 0 [] rowWithOpenWindow openWindowStoppedAhead hpending hdue
  cases (show Host.Outcome.next (windowCloseOp 0 [] openWindowStoppedAhead) = .next t from ht)
  have hstill : ¬ rowWithOpenWindow.close ≤ fabNs (windowCloseOp 0 [] openWindowStoppedAhead) := by decide
  exact hstill hreached

end Sys2Proof.Machine

end

section
/-! # Merge windows and deadlines of an input page (R81 to R84, R206, R249) -/

namespace Sys2Proof.Machine

/-! ## Pages, slots and the passage of time -/

theorem ingOf_modIng_ne {i j : Nat} (h : j ≠ i) (f : IngS → IngS) (s : State) : ingOf j (modIng i f s) = ingOf j s := by
  unfold ingOf modIng modAt
  exact (SMap.get_put _ _ _ _ _).trans (if_neg h)

theorem dchOf_modDch (i : Nat) (f : DchS → DchS) (s : State) : dchOf i (modDch i f s) = f (dchOf i s) := by
  unfold dchOf modDch modAt
  exact (SMap.get_put _ _ _ _ _).trans (if_pos rfl)

theorem reachNs_frame (t : Nat) (s : State) :
    reachNs t s = { s with clk := (reachNs t s).clk, tim := (reachNs t s).tim } := advanceToNs_frame t s

theorem reachNs_regs (t : Nat) (s : State) : (reachNs t s).regs = s.regs := advanceToNs_regs t s

theorem ingOf_reachNs (i t : Nat) (s : State) : ingOf i (reachNs t s) = ingOf i s := ingOf_congr i (advanceToNs_ing t s)

theorem ingOf_advanceTo (i t : Nat) (s : State) : ingOf i (advanceTo t s) = ingOf i s :=
  ingOf_congr i (by rw [advanceTo_frame])

theorem ingLines_reachNs (i t : Nat) (s : State) : ingLines i (reachNs t s) = ingLines i s := by
  rw [reachNs_frame]; rfl

theorem asksLead_reachNs (pg t : Nat) (s : State) : asksLead pg (reachNs t s) = asksLead pg s := by
  rw [reachNs_frame]; rfl

/-- a change of a picture's slot that keeps its key is what a search for the key finds. -/
theorem slotOf_modSlot {f : RingSlot → RingSlot} (hf : ∀ t, (f t).key = t.key) (key : Nat) (x : IngS) :
    slotOf key (modSlot key f x) = (slotOf key x).map f := by
  unfold slotOf modSlot
  induction x.ring with
  | nil => rfl
  | cons t l ih =>
    by_cases h : t.key = key
    · simp [h, hf]
    · simpa [h] using ih

/-- From `s` to `t` no time passes, and no input page but `i` changes. -/
structure IngOnly (i : Nat) (s t : State) : Prop where
  clk : t.clk = s.clk
  others : ∀ j, j ≠ i → ingOf j t = ingOf j s

section
variable {i : Nat} {s t u : State}

theorem IngOnly.refl (s : State) : IngOnly i s s := ⟨rfl, fun _ _ => rfl⟩

theorem IngOnly.trans (h : IngOnly i s t) (k : IngOnly i t u) : IngOnly i s u :=
  ⟨k.clk.trans h.clk, fun j hj => (k.others j hj).trans (h.others j hj)⟩

theorem IngOnly.foldl {α : Type} {g : State → α → State} (hg : ∀ u x, IngOnly i u (g u x)) (l : List α) (s : State) :
    IngOnly i s (l.foldl g s) :=
  List.foldlRecOn (motive := IngOnly i s) l g (.refl s) fun u hu x _ => hu.trans (hg u x)

/-- the page's own state changes, and beside it nothing of the input pages. -/
theorem IngOnly.of_modIng {f : IngS → IngS} (hclk : t.clk = s.clk) (hing : t.ing = (modIng i f s).ing) : IngOnly i s t :=
  ⟨hclk, fun j hj => (ingOf_congr j hing).trans (ingOf_modIng_ne hj f s)⟩

theorem IngOnly.of_eq (hclk : t.clk = s.clk) (hing : t.ing = s.ing) : IngOnly i s t :=
  ⟨hclk, fun j _ => ingOf_congr j hing⟩

/-! ## The end of merge windows (R81) -/

theorem setIngMerge_ingOnly (k : FlowKind) (m : Merge) (s : State) : IngOnly i s (setIngMerge i k m s) := .of_modIng rfl rfl

theorem ingMerge_setIngMerge (k : FlowKind) (m : Merge) (s : State) : ingMerge i k (setIngMerge i k m s) = m := by
  unfold ingMerge setIngMerge
  rw [ingOf_modIng]
  exact (SMap.get_put _ _ _ _ _).trans (if_pos rfl)

theorem concealMissing_ingOnly (k : FlowKind) (e : Undecided) (s : State) : IngOnly i s (concealMissing i k e s) := by
  unfold concealMissing
  split
  · exact .of_modIng (by rw [raise_clk, addF_clk]; rfl) (by rw [raise_ing, addF_ing])
  · exact .refl s

theorem ingMerge_concealMissing (k l : FlowKind) (e : Undecided) (s : State) :
    ingMerge i l (concealMissing i k e s) = ingMerge i l s := by
  unfold concealMissing
  split
  · unfold ingMerge
    rw [ingOf_congr i (raise_ing _ _ _), ingOf_congr i (addF_ing _ _ _ _), ingOf_modIng]
  · rfl

theorem ingExpire_ingOnly (k : FlowKind) (s : State) : IngOnly i s (ingExpire i k s) := by
  unfold ingExpire
  dsimp only
  split
  · exact .refl s
  · exact (setIngMerge_ingOnly k _ s).trans (.foldl (fun u (e : Nat × Undecided) => concealMissing_ingOnly k e.2 u) _ _)

/-- the numbers that stay undecided are those whose windows last. -/
theorem ingExpire_expiry (k : FlowKind) (s : State) :
    (ingMerge i k (ingExpire i k s)).expiry = (ingMerge i k s).expiry.filter (fun e => decide (s.clk < e.2.end_)) := by
  unfold ingExpire
  dsimp only
  split
  next hgone =>
    rw [List.isEmpty_iff, List.filter_eq_nil_iff] at hgone
    refine (List.filter_eq_self.2 fun e he => ?_).symm
    simpa using hgone e he
  next =>
    rw [foldl_keeps (fun u => ingMerge i k u) _ (fun u (e : Nat × Undecided) => ingMerge_concealMissing k k e.2 u), ingMerge_setIngMerge]

/-- MERGE_WINDOW_EXPIRY at a page that declares its numbers missing itself. -/
theorem mergeWindowExpiryOp_ing {k : FlowKind} {n at_ : Nat} {i : Fin 64} (hnext : (ingMerge i.val k s).next = some (n, at_))
    (hasks : asksLead (pgING i.val) s = false) :
    mergeWindowExpiryOp (.ing i k) s = ingExpire i.val k (advanceTo at_ s) := by
  simp only [mergeWindowExpiryOp, hnext, hasks, Bool.false_eq_true, if_false, ingMissing]

theorem mergeWindowExpiryOp_ing_asks {k : FlowKind} {n at_ : Nat} {i : Fin 64} (hnext : (ingMerge i.val k s).next = some (n, at_))
    (hasks : asksLead (pgING i.val) s = true) :
    mergeWindowExpiryOp (.ing i k) s = askLead i.val (kindIdx k) [n] (advanceTo at_ s) := by
  simp only [mergeWindowExpiryOp, hnext, hasks, if_true]

theorem mergeWindowExpiryOp_dch {n at_ : Nat} {i : Fin 16} (hnext : (dchOf i.val s).merge.next = some (n, at_))
    (hasks : asksLead (pgDCH i.val) s = false) :
    mergeWindowExpiryOp (.dch i) s = dchExpire i.val (advanceTo at_ s) := by
  simp only [mergeWindowExpiryOp, hnext, hasks, Bool.false_eq_true, if_false, dchMissing]

theorem mergeWindowExpiryOp_dch_asks {n at_ : Nat} {i : Fin 16} (hnext : (dchOf i.val s).merge.next = some (n, at_))
    (hasks : asksLead (pgDCH i.val) s = true) :
    mergeWindowExpiryOp (.dch i) s = askLead (0x80 + i.val) 0 [n] (advanceTo at_ s) := by
  simp only [mergeWindowExpiryOp, hnext, hasks, if_true]

theorem dchExpire_expiry (i : Nat) (s : State) :
    (dchOf i (dchExpire i s)).merge.expiry = (dchOf i s).merge.expiry.filter (fun e => decide (s.clk < e.2.end_)) := by
  unfold dchExpire
  rw [dchOf_modDch]

/-- after a filter on it, a window's end lies ahead. -/
theorem ahead_of_mem_filter {l : SMap Undecided} {now : Nat} {e : Nat × Undecided}
    (h : e ∈ l.filter (fun e => decide (now < e.2.end_))) : now < e.2.end_ := of_decide_eq_true (List.mem_filter.1 h).2

/-! ## The deadline of a band (R81, R83, R84) -/

/-- what concealment and the capture of a slate write of the page's registers. -/
def bandFields : List Fld :=
  [FCNT.conceal (fcBase .video), SYNC.map_ovf, ING.ST_slate_valid] ++ (eventFields 4 ++ (eventFields 10 ++ eventFields 11))

/-- how far the picture's lines are due and final. -/
def slotLines (key : Nat) (x : IngS) : Option (Nat × Nat) := (slotOf key x).map fun t => (t.dueLines, t.finalLines)

/-- From `s` to `t` only page `i` changes, of its registers those of a band, and the lines of picture `key` are due and final as before. -/
structure BandKept (i key : Nat) (s t : State) : Prop where
  only : IngOnly i s t
  lines : slotLines key (ingOf i t) = slotLines key (ingOf i s)
  regs : WritesIn (AtFields (pgING i) bandFields) s t

variable {key : Nat}

theorem BandKept.refl (s : State) : BandKept i key s s := ⟨.refl s, rfl, .refl s⟩

theorem BandKept.trans (h : BandKept i key s t) (k : BandKept i key t u) : BandKept i key s u :=
  ⟨h.only.trans k.only, k.lines.trans h.lines, h.regs.trans k.regs⟩

theorem BandKept.foldl {α : Type} {g : State → α → State} (hg : ∀ u x, BandKept i key u (g u x)) (l : List α) (s : State) :
    BandKept i key s (l.foldl g s) :=
  List.foldlRecOn (motive := BandKept i key s) l g (.refl s) fun u hu x _ => hu.trans (hg u x)

/-- a change of the page's own state that leaves the lines as they are. -/
theorem BandKept.of_modIng {f : IngS → IngS} (hf : ∀ x, slotLines key (f x) = slotLines key x) (s : State) :
    BandKept i key s (modIng i f s) :=
  ⟨.of_modIng rfl rfl, by rw [ingOf_modIng, hf], modIng_writesIn _ _ _⟩

/-- a count or an event of the page's own. -/
theorem BandKept.of_regs (hclk : t.clk = s.clk) (hing : t.ing = s.ing) (hregs : WritesIn (AtFields (pgING i) bandFields) s t) :
    BandKept i key s t :=
  ⟨.of_eq hclk hing, by rw [ingOf_congr i hing], hregs⟩

theorem bandKept_addF {f : Fld} (hf : f ∈ bandFields) (n : Nat) (s : State) : BandKept i key s (addF (pgING i) f n s) :=
  .of_regs rfl rfl (addF_writesIn (atFields_of_mem hf))

theorem bandKept_setF {f : Fld} (hf : f ∈ bandFields) (v : Nat) (s : State) : BandKept i key s (setF (pgING i) f v s) :=
  .of_regs rfl rfl (setF_writesIn (atFields_of_mem hf))

theorem bandKept_raise {k : Nat} (hk : eventFields k ⊆ bandFields) (s : State) : BandKept i key s (raise (pgING i) k s) :=
  .of_regs (raise_clk _ _ _) (raise_ing _ _ _) (raise_atFields hk s)

theorem slotLines_modSlot {f : RingSlot → RingSlot} (hf : ∀ t, (f t).key = t.key)
    (hlines : ∀ t, ((f t).dueLines, (f t).finalLines) = (t.dueLines, t.finalLines)) (x : IngS) :
    slotLines key (modSlot key f x) = slotLines key x := by
  unfold slotLines
  rw [slotOf_modSlot hf, Option.map_map]
  exact congrArg (Option.map · (slotOf key x)) (funext hlines)

theorem concealRegion_bandKept (cause : Nat) (reg : Nat × Nat) (s : State) : BandKept i key s (concealRegion i key cause reg s) := by
  have hmap : ∀ pix map full u, BandKept i key u (modIng i (modSlot key fun t => { t with pix := pix, map := map, mapFull := full }) u) :=
    fun pix map full u => .of_modIng (slotLines_modSlot (fun _ => by rfl) fun _ => by rfl) u
  have hregion : ∀ pix map full n u, BandKept i key u (raise (pgING i) 4 (addF (pgING i) (FCNT.conceal (fcBase .video)) n
      (modIng i (modSlot key fun t => { t with pix := pix, map := map, mapFull := full }) u))) := fun pix map full n u =>
    ((hmap pix map full u).trans (bandKept_addF (by decide) n _)).trans (bandKept_raise (by decide) _)
  have hfull : ∀ u, BandKept i key u (raise (pgING i) 11 (addF (pgING i) SYNC.map_ovf 1 u)) := fun u =>
    (bandKept_addF (by decide) 1 u).trans (bandKept_raise (by decide) _)
  unfold concealRegion
  split
  · exact .refl s
  · split
    · exact .refl s
    · dsimp only
      split
      · exact (hregion _ _ _ _ s).trans (hfull _)
      · exact hregion _ _ _ _ s

theorem storeSlate_bandKept (s : State) : BandKept i key s (storeSlate i s) := by
  unfold storeSlate
  split
  · exact .refl s
  · split
    · exact .of_modIng (fun _ => by rfl) s
    · exact ((BandKept.of_modIng (fun _ => by rfl) s).trans (bandKept_setF (by decide) 1 _)).trans (bandKept_raise (by decide) _)

theorem settleSlate_bandKept (s : State) : BandKept i key s (settleSlate i s) := by
  unfold settleSlate
  split
  · exact .refl s
  · split
    · split
      · exact storeSlate_bandKept s
      · exact .refl s
    · exact .refl s

theorem setIngMerge_bandKept (k : FlowKind) (m : Merge) (s : State) : BandKept i key s (setIngMerge i k m s) :=
  .of_modIng (fun _ => by rfl) s

/-- the lines of picture `key` above line `n` are due and final. -/
def finalTo (n : Nat) (t : RingSlot) : RingSlot := { t with dueLines := max t.dueLines n, finalLines := max t.finalLines n }

/-- A deadline conceals, makes the band's lines final, and settles what waits on them. -/
theorem ingestDeadlineOp_some {first lines : Nat} {slot : RingSlot} (h : slotOf key (ingOf i s) = some slot) :
    ∃ u, BandKept i key s u ∧
      BandKept i key (modIng i (modSlot key (finalTo (first + min lines (ingLines i s - first)))) u)
        (ingestDeadlineOp i key first lines s) := by
  unfold ingestDeadlineOp
  rw [h]
  exact ⟨_, .foldl (fun u reg => concealRegion_bandKept 0 reg u) _ s, (setIngMerge_bandKept _ _ _).trans (settleSlate_bandKept _)⟩

theorem ingestDeadlineOp_none {first lines : Nat} (h : slotOf key (ingOf i s) = none) : ingestDeadlineOp i key first lines s = s := by
  unfold ingestDeadlineOp
  rw [h]

theorem ingestDeadlineOp_writesIn (first lines : Nat) (s : State) :
    WritesIn (AtFields (pgING i) bandFields) s (ingestDeadlineOp i key first lines s) := by
  cases h : slotOf key (ingOf i s) with
  | none => rw [ingestDeadlineOp_none h]; exact .refl s
  | some slot =>
    obtain ⟨u, hconceals, hsettles⟩ := ingestDeadlineOp_some (first := first) (lines := lines) h
    exact (hconceals.regs.trans (modIng_writesIn _ _ u)).trans hsettles.regs

theorem ingestDeadlineOp_others (first lines : Nat) (s : State) {j : Nat} (hj : j ≠ i) :
    ingOf j (ingestDeadlineOp i key first lines s) = ingOf j s := by
  cases h : slotOf key (ingOf i s) with
  | none => rw [ingestDeadlineOp_none h]
  | some slot =>
    obtain ⟨u, hconceals, hsettles⟩ := ingestDeadlineOp_some (first := first) (lines := lines) h
    rw [hsettles.only.others j hj, ingOf_modIng_ne hj, hconceals.only.others j hj]

/-- the picture's lines are due and final to the end of the band. -/
theorem ingestDeadlineOp_slotLines {first lines : Nat} {slot : RingSlot} (h : slotOf key (ingOf i s) = some slot) :
    slotLines key (ingOf i (ingestDeadlineOp i key first lines s)) =
      some (max slot.dueLines (first + min lines (ingLines i s - first)), max slot.finalLines (first + min lines (ingLines i s - first))) := by
  obtain ⟨u, hconceals, hsettles⟩ := ingestDeadlineOp_some (first := first) (lines := lines) h
  have hbefore : slotLines key (ingOf i u) = some (slot.dueLines, slot.finalLines) := by
    rw [hconceals.lines, slotLines, h, Option.map_some]
  obtain ⟨v, hv, hlines⟩ := Option.map_eq_some_iff.1 hbefore
  obtain ⟨hdue, hfinal⟩ := Prod.mk.inj hlines
  rw [hsettles.lines, ingOf_modIng, slotLines, slotOf_modSlot (f := finalTo _) (fun _ => rfl), hv, Option.map_some, Option.map_some]
  simp only [finalTo, hdue, hfinal]

theorem slotLines_eq_some {x : IngS} {due final : Nat} (h : slotLines key x = some (due, final)) :
    ∃ slot, slotOf key x = some slot ∧ slot.finalLines = final ∧ slot.dueLines = due := by
  obtain ⟨slot, hslot, hlines⟩ := Option.map_eq_some_iff.1 h
  obtain ⟨hdue, hfinal⟩ := Prod.mk.inj hlines
  exact ⟨slot, hslot, hfinal, hdue⟩

theorem bandDue_declares {b : Band} (h : asksLead (pgING i) s = false) : bandDue i b s = ingestDeadlineOp i b.key b.first b.lines s := by
  simp only [bandDue, h, Bool.false_eq_true, if_false]

theorem ingestDeadline_next {b : Band} (h : nextBand i s = some b) :
    ingestDeadline i b.first b.lines s = bandDue i b (reachNs b.at_ s) := by
  simp only [ingestDeadline, h, and_self, if_true]

theorem ingestDeadline_other {b : Band} {first lines : Nat} (h : nextBand i s = some b) (hne : first ≠ b.first ∨ lines ≠ b.lines) :
    ingestDeadline i first lines s = s := by
  have hother : ¬ (b.first = first ∧ b.lines = lines) := fun ⟨hf, hl⟩ => hne.elim (· hf.symm) (· hl.symm)
  simp only [ingestDeadline, h, hother, if_false]

end

/-! ## The legs (R97, R221) -/

/-- the status bit of a leg and the count of lost legs lie apart from one another and from event `k`. -/
def LegFieldsApart (k : Nat) (up e : Fld) : Prop :=
  k < 32 ∧ up.loc ≠ e.loc ∧ ∀ f ∈ [up, e], f.loc < 2 ^ 20 ∧ f.loc ∉ (eventFields k).map Fld.loc

/-- the leg's status bit is cleared, its loss counted, and the event raised (R97). -/
def legDown (p k : Nat) (up e : Fld) (s : State) : State := raise p k (addF p e 1 (setF p up 0 s))

theorem legLostOp_up {p timeout : Nat} {legB : Bool} {up e : Fld} {at_ : Option Nat} {s : State} (h : isF p up s = true) :
    legLostOp p timeout legB up e at_ s = legDown p (if legB then 6 else 5) up e (advanceTo (at_.getD s.clk + timeout) s) := by
  simp only [legLostOp, h, Bool.not_true, Bool.false_eq_true, if_false]
  rfl

section
variable {p k : Nat} {up e : Fld}

theorem legDown_up (h : LegFieldsApart k up e) (s : State) : isF p up (legDown p k up e s) = false := by
  obtain ⟨-, hne, hfields⟩ := h
  obtain ⟨-, hevent⟩ := hfields up (by simp)
  unfold isF legDown
  rw [(raise_atFields (List.Subset.refl _) _).getF (not_atFields hevent), getF_addF_field _ _ _ _ _ hne, getF_setF_same, Nat.zero_mod]
  rfl

theorem legDown_count (h : LegFieldsApart k up e) (s : State) :
    getF p e (legDown p k up e s) = (getF p e s + 1) % 2 ^ e.width := by
  obtain ⟨-, hne, hfields⟩ := h
  obtain ⟨-, hevent⟩ := hfields e (by simp)
  unfold legDown
  rw [(raise_atFields (List.Subset.refl _) _).getF (not_atFields hevent), getF_addF_same, getF_setF_field _ _ _ _ _ hne.symm]

theorem legDown_regsBut (h : LegFieldsApart k up e) (s : State) : State.regsBut [p] s (legDown p k up e s) := by
  obtain ⟨hk, -, hfields⟩ := h
  obtain ⟨hup, -⟩ := hfields up (by simp)
  obtain ⟨he, -⟩ := hfields e (by simp)
  exact ((setF_regsBut p up 0 s hup).trans (addF_regsBut p e 1 _ he)).trans (raise_regsBut p k _ hk)

/-- LEG_LOST of a leg that is up. -/
theorem legLostOp_lost {timeout : Nat} {legB : Bool} {at_ : Option Nat} {s t : State}
    (hlost : legLostOp p timeout legB up e at_ s = t) (hup : isF p up s = true)
    (h : LegFieldsApart (if legB then 6 else 5) up e) :
    isF p up t = false ∧ getF p e t = (getF p e s + 1) % 2 ^ e.width ∧ getF p (HDR.EVENT (if legB then 6 else 5)) t = 1 ∧
      t.ing = s.ing ∧ t.dch = s.dch ∧ State.regsBut [p] s t := by
  rw [legLostOp_up hup] at hlost
  subst hlost
  refine ⟨legDown_up h _, ?_, raise_event _ _ _, ?_, ?_, (State.regsBut.of_eq (advanceTo_regs _ s)).trans (legDown_regsBut h _)⟩
  · rw [legDown_count h, getF_congr _ _ _ _ (advanceTo_regs _ s)]
  · rw [legDown, raise_ing, addF_ing, setF_ing, advanceTo_frame]
  · rw [legDown, raise_dch, addF_dch, setF_dch, advanceTo_frame]

end

theorem ingLegs_apart (legB : Bool) :
    LegFieldsApart (if legB then 6 else 5) (if legB then ING.ST_leg_b_up else ING.ST_leg_a_up) SYNC.leg_losses := by
  unfold LegFieldsApart
  cases legB <;> decide

theorem dchLegs_apart (legB : Bool) :
    LegFieldsApart (if legB then 6 else 5) (if legB then DCH.ST_leg_b_up else DCH.ST_leg_a_up) SYNC.leg_losses := by
  unfold LegFieldsApart
  cases legB <;> decide

/-! ## The slate (R94) -/

/-- the slate has been copied. -/
def slateCopied (i source : Nat) (s : State) : State :=
  raise (pgING i) 10 (setF (pgING i) ING.ST_slate_valid 1 (modIng i (fun x => { x with slate := (ingOf source s).slate }) s))

theorem getF_copyFrom (i p v : Nat) (f : Fld) (s : State) (hf : f.loc < 2 ^ 20) (hne : f.loc ≠ ING.SLATE_copy_from.loc) :
    getF p f (setF (pgING i) ING.SLATE_copy_from v s) = getF p f s := by
  refine getF_setF_ne _ _ _ _ _ _ fun hkey => hne ?_
  rw [← key_mod (p := p) hf, hkey, key_mod (by decide)]

/-- copy_from is no part of a page's format, nor of its slate. -/
theorem copyable_copyFrom (i j source v : Nat) (s : State) :
    (sameFormat i j (setF (pgING i) ING.SLATE_copy_from v s) && isF (pgING source) ING.ST_slate_valid (setF (pgING i) ING.SLATE_copy_from v s)) =
      (sameFormat i j s && isF (pgING source) ING.ST_slate_valid s) := by
  simp (disch := decide) only [sameFormat, isF, List.all_cons, List.all_nil, getF_copyFrom]

theorem slateCopyOp_copies {i j : Nat} {s : State} (h : (sameFormat i j s && isF (pgING j) ING.ST_slate_valid s) = true) :
    slateCopyOp i j s = slateCopied i j s := if_pos (Bool.and_eq_true_iff.1 h)

theorem slateCopyOp_differs {i j : Nat} {s : State} (h : (sameFormat i j s && isF (pgING j) ING.ST_slate_valid s) = false) :
    slateCopyOp i j s = raise (pgING i) 12 s :=
  if_neg fun hboth => Bool.eq_false_iff.1 h (Bool.and_eq_true_iff.2 hboth)

theorem slateCopied_slate (i source : Nat) (s : State) : (ingOf i (slateCopied i source s)).slate = (ingOf source s).slate := by
  rw [slateCopied, ingOf_congr i (raise_ing _ _ _), ingOf_congr i (setF_ing _ _ _ _), ingOf_modIng]

theorem slateCopied_valid (i source : Nat) (s : State) : isF (pgING i) ING.ST_slate_valid (slateCopied i source s) = true := by
  unfold isF slateCopied
  rw [raise_getF _ _ _ _ (by decide) (by decide) (by decide) (by decide), getF_setF_same]
  rfl

theorem slateCopied_regsBut (i source : Nat) (s : State) : State.regsBut [pgING i] s (slateCopied i source s) :=
  ((State.regsBut.of_eq rfl).trans (setF_regsBut _ _ 1 _ (by decide))).trans (raise_regsBut _ _ _ (by decide))

theorem copyFrom_regsBut (i v : Nat) (s : State) : State.regsBut [pgING i] s (setF (pgING i) ING.SLATE_copy_from v s) :=
  setF_regsBut _ _ v s (by decide)

/-! ## The commands -/

/-- Settles O14, a clause for each command and kind of page. -/
theorem mergeLegsAndSlate : Obligations.MergeLegsAndSlate := by
  refine ⟨fun i k n at_ s hnext => ⟨fun hasks => ?_, fun hasks => ?_⟩, fun i n at_ s hnext => ⟨fun hasks => ?_, fun hasks => ?_⟩,
    fun i b s hb => ⟨?_, fun first lines hne => ?_⟩, fun i b slot s hb hslot hasks => ?_, fun i k legB s hup => ?_,
    fun i legB s hup => ?_, fun r i s h => ?_, fun r i source s h => ⟨fun hcopy => ?_, fun hcopy => ?_⟩⟩
  · have honly := ingExpire_ingOnly (i := i.val) k (advanceTo at_ s)
    have hclk := advanceTo_clk at_ s
    refine ⟨_, congrArg Host.Outcome.next (mergeWindowExpiryOp_ing hnext hasks), ?_, fun e he => ?_, fun j hj => ?_⟩
    · rw [honly.clk, hclk]; exact le_max_right _ _
    · rw [ingExpire_expiry] at he
      rw [honly.clk]
      exact ahead_of_mem_filter he
    · rw [honly.others j hj, ingOf_advanceTo]
  · exact congrArg Host.Outcome.next (mergeWindowExpiryOp_ing_asks hnext hasks)
  · refine ⟨_, congrArg Host.Outcome.next (mergeWindowExpiryOp_dch hnext hasks), ?_, fun e he => ?_, ?_⟩
    · exact (le_max_right s.clk at_).trans (advanceTo_clk at_ s).ge
    · rw [dchExpire_expiry] at he
      exact ahead_of_mem_filter he
    · rw [advanceTo_frame]; rfl
  · exact congrArg Host.Outcome.next (mergeWindowExpiryOp_dch_asks hnext hasks)
  · exact congrArg Host.Outcome.next (ingestDeadline_next hb)
  · exact congrArg Host.Outcome.next (ingestDeadline_other hb hne)
  · have hslot' : slotOf b.key (ingOf i.val (reachNs b.at_ s)) = some slot := by rw [ingOf_reachNs, hslot]
    have hlines := ingestDeadlineOp_slotLines (first := b.first) (lines := b.lines) hslot'
    rw [ingLines_reachNs] at hlines
    obtain ⟨slot', hfound, hfinal, hdue⟩ := slotLines_eq_some hlines
    refine ⟨_, slot', congrArg Host.Outcome.next ((ingestDeadline_next hb).trans
      (bandDue_declares ((asksLead_reachNs _ _ s).trans hasks))), hfound, hfinal, hdue, fun j hj => ?_, ?_⟩
    · rw [ingestDeadlineOp_others _ _ _ hj, ingOf_reachNs]
    · exact (State.regsBut.of_eq (reachNs_regs _ s)).trans ((ingestDeadlineOp_writesIn _ _ _).onPage (by decide))
  · obtain ⟨hbit, hcount, hevent, hing, -, hregs⟩ := legLostOp_lost rfl hup (ingLegs_apart legB)
    exact ⟨_, rfl, hbit, hcount, hevent, hing, hregs⟩
  · obtain ⟨hbit, hcount, hevent, -, hdch, hregs⟩ := legLostOp_lost rfl hup (dchLegs_apart legB)
    exact ⟨_, rfl, hbit, hcount, hevent, hdch, hregs⟩
  · refine ⟨slateCaptureOp i.val s, congrArg Host.Outcome.next (asWrite_runs _ _ _ _ _ h), ?_, rfl, fun j hj => ingOf_modIng_ne hj _ s⟩
    rw [slateCaptureOp, ingOf_modIng]
  · have hcopy' := (copyable_copyFrom i.val source.val source.val source.val s).trans hcopy
    refine ⟨slateCopied i.val source.val (setF (pgING i.val) ING.SLATE_copy_from source.val s),
      congrArg Host.Outcome.next ((asWrite_runs _ _ _ _ _ h).trans ?_), slateCopied_slate _ _ _, slateCopied_valid _ _ _,
      raise_event _ _ _, (copyFrom_regsBut _ _ s).trans (slateCopied_regsBut _ _ _)⟩
    rw [slateCopyOp_copies hcopy']
  · have hcopy' := (copyable_copyFrom i.val source.val source.val source.val s).trans hcopy
    refine ⟨raise (pgING i.val) 12 (setF (pgING i.val) ING.SLATE_copy_from source.val s),
      congrArg Host.Outcome.next ((asWrite_runs _ _ _ _ _ h).trans ?_), ?_, raise_event _ _ _,
      (copyFrom_regsBut _ _ s).trans (raise_regsBut _ _ _ (by decide))⟩
    · rw [slateCopyOp_differs hcopy']
    · rw [raise_ing, setF_ing]

end Sys2Proof.Machine
end

section
/-! # Rows of the conditioning outputs, and their LUT banks (R99, R101, R104, R105) -/

namespace Sys2Proof.Machine

/-! ## What deadlines leave of an output's settings -/

/-- the places of an output's row width and depth in their page. -/
def outputPlaces (m : Fin 16) : List Nat := [(CND.OCTL_depth_out m.val).loc, (CND.ODIM_width m.val).loc]

section
variable {K : Nat → Prop} {s : State}

/-- a message that a client hands to a link writes at most the count and the event of a refused one (R340). -/
theorem izlPost_writesIn {j vl : Nat} {msg : List Byte} (hlost : K (IZL.MSG_LOST_count.key (pgIZL j)))
    (hevent : ∀ f ∈ eventFields 5, K (f.key (pgIZL j))) : WritesIn K s (izlPost j vl msg s) :=
  .ite (.refl s) (.ite ((addF_writesIn hlost).trans (raise_writesIn hevent)) (.of_eq rfl))

theorem setSourceMerge_regs (src f : Nat) (m : Merge) (s : State) : (setSourceMerge src f m s).regs = s.regs := by
  unfold setSourceMerge
  split <;> rfl

theorem askLead_writesIn {src f : Nat} {seqs : List Nat} (hreq : K (TWN.C_patch_req.key pgTWN))
    (hlost : ∀ j, K (IZL.MSG_LOST_count.key (pgIZL j))) (hevent : ∀ j, ∀ f ∈ eventFields 5, K (f.key (pgIZL j))) :
    WritesIn K s (askLead src f seqs s) := by
  have hpatches : ∀ (l : List (Nat × Nat)) (u : State), WritesIn K u (modTwn (fun x => { x with patches := x.patches ++ l }) u) :=
    fun _ _ => .of_eq rfl
  have hsend : ∀ (body : List Byte) (u : State), WritesIn K u (twinSend 0x10 0 0xFF 0 0 body u) := fun _ u =>
    (WritesIn.of_eq (emit_regs _ _ _ u)).trans (izlPost_writesIn (hlost _) (hevent _))
  exact ((WritesIn.of_eq (setSourceMerge_regs _ _ _ s)).trans (hpatches _ _)).trans ((hsend _ _).trans (addF_writesIn hreq))

theorem bandDue_writesIn {i : Nat} {b : Band} (hband : ∀ f ∈ bandFields, K (f.key (pgING i)))
    (hreq : K (TWN.C_patch_req.key pgTWN)) (hlost : ∀ j, K (IZL.MSG_LOST_count.key (pgIZL j)))
    (hevent : ∀ j, ∀ f ∈ eventFields 5, K (f.key (pgIZL j))) : WritesIn K s (bandDue i b s) := by
  unfold bandDue
  split
  · exact (modIng_writesIn _ _ s).trans (.foldl (fun _ _ _ => askLead_writesIn hreq hlost hevent) _)
  · refine (ingestDeadlineOp_writesIn _ _ s).mono fun k hk => ?_
    obtain ⟨f, hf, rfl⟩ := List.mem_map.1 hk
    exact hband f hf

end

/-- all that a deadline writes of registers, whatever its page and link. -/
def deadlineFields : List Fld := bandFields ++ (eventFields 5 ++ [TWN.C_patch_req, IZL.MSG_LOST_count])

theorem deadlineFields_offOutput (m : Fin 16) (p : Nat) : ∀ f ∈ deadlineFields, OffPlaces (outputPlaces m) (f.key p) := by
  have hplaces : ∀ f ∈ deadlineFields, f.loc < 2 ^ 20 ∧ ∀ m : Fin 16, f.loc ∉ outputPlaces m := by decide
  intro f hf
  obtain ⟨hlow, hoff⟩ := hplaces f hf
  exact offPlaces_of hlow (hoff m)

theorem bandDue_offOutput (m : Fin 16) (i : Nat) (b : Band) (s : State) : WritesIn (OffPlaces (outputPlaces m)) s (bandDue i b s) :=
  bandDue_writesIn (fun f hf => deadlineFields_offOutput m _ f (List.mem_append_left _ hf))
    (deadlineFields_offOutput m _ _ (by simp [deadlineFields])) (fun _ => deadlineFields_offOutput m _ _ (by simp [deadlineFields]))
    fun _ f hf => deadlineFields_offOutput m _ f (List.mem_append_right _ (List.mem_append_left _ hf))

theorem bandsDue_offOutput (m : Fin 16) (i fuel : Nat) (s : State) : WritesIn (OffPlaces (outputPlaces m)) s (bandsDue i fuel s) := by
  induction fuel generalizing s with
  | zero => exact .refl s
  | succ fuel ih =>
    unfold bandsDue
    split
    · exact .refl s
    · exact .ite ((bandDue_offOutput m i _ s).trans (ih _)) (.refl s)

theorem allBandsDue_offOutput (m : Fin 16) (s : State) : WritesIn (OffPlaces (outputPlaces m)) s (allBandsDue s) :=
  .foldl (fun u i _ => bandsDue_offOutput m i _ u) s

/-- the state in which an output forms its row: its path has read the last source line that the row needs, and every deadline that
has come by then has taken effect. -/
def rowRead (u m row : Nat) (s : State) : State :=
  allBandsDue (reachNs (pathReadNs u (getF (pgCND u) (CND.OCTL_path m) s) (rowTick u m row s) (rowNeeds u m row s) s) s)

theorem rowRead_offOutput (u : Nat) (m : Fin 16) (row : Nat) (s : State) :
    WritesIn (OffPlaces (outputPlaces m)) s (rowRead u m.val row s) :=
  (WritesIn.of_eq (reachNs_regs _ s)).trans (allBandsDue_offOutput m _)

theorem rowRead_width (u : Nat) (m : Fin 16) (row : Nat) (s : State) :
    getF (pgCND u) (CND.ODIM_width m.val) (rowRead u m.val row s) = getF (pgCND u) (CND.ODIM_width m.val) s := by
  have hlow : ∀ m : Fin 16, (CND.ODIM_width m.val).loc < 2 ^ 20 := by decide
  exact (rowRead_offOutput u m row s).getF (not_offPlaces (hlow m) (by simp [outputPlaces]))

theorem rowRead_black (u : Nat) (m : Fin 16) (row : Nat) (s : State) : cndBlack u m.val (rowRead u m.val row s) = cndBlack u m.val s := by
  have hlow : ∀ m : Fin 16, (CND.OCTL_depth_out m.val).loc < 2 ^ 20 := by decide
  unfold cndBlack
  rw [(rowRead_offOutput u m row s).isF (not_offPlaces (hlow m) (by simp [outputPlaces]))]

/-! ## CND_OUTPUT_ROW (R99, R105) -/

theorem doneWith_cnd (pg who n : Nat) (s : State) : (doneWith pg who n s).cnd = s.cnd := by
  unfold doneWith
  split <;> rfl

theorem doneWith_regs (pg who n : Nat) (s : State) : (doneWith pg who n s).regs = s.regs := by
  unfold doneWith
  split <;> rfl

/-- the samples that an output gives as a row: its stages' where they are ready, else black (R105). -/
def outputSamples (u m row : Nat) (ready : Bool) (f : Feed) (s : State) : List Nat :=
  if ready then cndSamples u m row f s else List.replicate (getF (pgCND u) (CND.ODIM_width m) s) (cndBlack u m s)

/-- the row is in the unit's buffer, with the event of one that was not ready. -/
def rowGiven (u m n row : Nat) (ready : Bool) (f : Feed) (s : State) : State :=
  raiseIf (!ready) (pgCND u) 2 (putRow u m n row (outputSamples u m row ready f s) s)

theorem giveRow_eq (u m n row : Nat) (ready : Bool) (f : Feed) (s : State) :
    giveRow u m n row ready f s =
      if pathDone u (getF (pgCND u) (CND.OCTL_path m) s) n (rowGiven u m n row ready f s) then
        doneWith (pathSource u (getF (pgCND u) (CND.OCTL_path m) s) (rowGiven u m n row ready f s))
          (0x2000 + 8 * u + getF (pgCND u) (CND.OCTL_path m) s) n (rowGiven u m n row ready f s)
      else rowGiven u m n row ready f s := rfl

/-- that the path has read its picture concerns the source alone. -/
theorem giveRow_cnd (u m n row : Nat) (ready : Bool) (f : Feed) (s : State) :
    (giveRow u m n row ready f s).cnd = (rowGiven u m n row ready f s).cnd := by
  rw [giveRow_eq]
  split
  · exact doneWith_cnd _ _ _ _
  · rfl

theorem giveRow_regs (u m n row : Nat) (ready : Bool) (f : Feed) (s : State) :
    (giveRow u m n row ready f s).regs = (rowGiven u m n row ready f s).regs := by
  rw [giveRow_eq]
  split
  · exact doneWith_regs _ _ _ _
  · rfl

theorem putRow_row (u m n row : Nat) (smp : List Nat) (s : State) :
    SMap.find (cndRowKey m n row) (cndOf u (putRow u m n row smp s)).rows = some ⟨n, smp⟩ := by
  unfold cndOf putRow modCnd modAt
  rw [SMap.get_put, if_pos rfl]
  exact (SMap.find_put _ _ _ _).trans (if_pos rfl)

theorem giveRow_row (u m n row : Nat) (ready : Bool) (f : Feed) (s : State) :
    SMap.find (cndRowKey m n row) (cndOf u (giveRow u m n row ready f s)).rows = some ⟨n, outputSamples u m row ready f s⟩ := by
  rw [cndOf, giveRow_cnd, rowGiven, raiseIf_cnd]
  exact putRow_row u m n row _ s

theorem giveRow_late (u m n row : Nat) (f : Feed) (s : State) : getF (pgCND u) (HDR.EVENT 2) (giveRow u m n row false f s) = 1 := by
  rw [getF_congr _ _ _ _ (giveRow_regs u m n row false f s)]
  exact raise_event _ _ _

theorem cndRowOp_gives {u m row : Nat} {ready : Bool} {f : Feed} {s : State} (hen : isF (pgCND u) (CND.OCTL_en m) s = true)
    (hrow : row < outLines u m s) (havail : cndAvailable u m s = true)
    (hfeed : feedOf (pathSource u (getF (pgCND u) (CND.OCTL_path m) s) (rowRead u m row s)) (rowTick u m row s) (rowRead u m row s) = some f) :
    cndRowOp u m row ready s = giveRow u m (rowTick u m row s) row ready f (rowRead u m row s) := by
  unfold rowRead at hfeed
  simp only [cndRowOp, hen, Nat.not_le.2 hrow, havail, hfeed, Bool.not_true, Bool.false_or, decide_false, Bool.false_eq_true, if_false]
  rfl

/-- an output whose source does not run gives no row (R105). -/
theorem cndRowOp_dark {u m row : Nat} {ready : Bool} {s : State} (hen : isF (pgCND u) (CND.OCTL_en m) s = true)
    (hrow : row < outLines u m s) (hpath : isF (pgCND u) (CND.PATH_en (getF (pgCND u) (CND.OCTL_path m) s)) s = true)
    (hsrc : act (pathSource u (getF (pgCND u) (CND.OCTL_path m) s) s) s ≠ stRUNNING) :
    cndRowOp u m row ready s = raise (pgCND u) 0 s := by
  have hidle : (act (pathSource u (getF (pgCND u) (CND.OCTL_path m) s) s) s == stRUNNING) = false := beq_eq_false_iff_ne.2 hsrc
  have havail : cndAvailable u m s = false := by simp only [cndAvailable, hidle, Bool.and_false]
  have hdark : pathDark u (getF (pgCND u) (CND.OCTL_path m) s) s = true := by
    simp only [pathDark, hpath, bne, hidle, Bool.not_false, Bool.and_true]
  simp only [cndRowOp, hen, Nat.not_le.2 hrow, havail, hdark, Bool.not_true, Bool.not_false, Bool.false_or, decide_false,
    Bool.false_eq_true, if_false, if_true, raiseIf]

/-! ## LUT_WRITE (R104) -/

/-- the entry that LUT_DATA0 and a write of LUT_DATA1 with `b` spell. -/
def lutValue (u b : Nat) (s : State) : Nat :=
  (getF (pgCND u) CND.LUT_DATA0_r s * 2 ^ 16 + getF (pgCND u) CND.LUT_DATA0_g s) * 2 ^ 16 + b

/-- the entry that LUT_ADDR names, among those of the unit's banks. -/
def lutPlace (u : Nat) (s : State) : Nat := getF (pgCND u) CND.LUT_ADDR_bank s * 35937 + getF (pgCND u) CND.LUT_ADDR_index s

/-- the entry is stored, and LUT_ADDR names the next one, the first after the last. -/
def lutStored (u b : Nat) (s : State) : State :=
  setF (pgCND u) CND.LUT_ADDR_index
    (if getF (pgCND u) CND.LUT_ADDR_index s = 35936 then 0 else getF (pgCND u) CND.LUT_ADDR_index s + 1)
    (setF (pgCND u) CND.LUT_DATA1_b b (modCnd u (fun x => { x with lut := SMap.set 0 (lutPlace u s) (lutValue u b s) x.lut }) s))

section
variable {u b : Nat} {s : State}

theorem lutWriteOp_stores (h : bankInUse u (getF (pgCND u) CND.LUT_ADDR_bank s) s = false) :
    lutWriteOp u b s = (.success, lutStored u b s) := by
  simp only [lutWriteOp, h, Bool.false_eq_true, if_false]
  rfl

theorem lutWriteOp_inUse (h : bankInUse u (getF (pgCND u) CND.LUT_ADDR_bank s) s = true) :
    lutWriteOp u b s = (.invalidValue, raise (pgCND u) 1 s) := by
  simp only [lutWriteOp, h, if_true]

theorem lutStored_entry : SMap.get 0 (lutPlace u s) (cndOf u (lutStored u b s)).lut = lutValue u b s := by
  unfold lutStored
  rw [cndOf, setF_cnd, setF_cnd, modCnd, modAt, SMap.get_put, if_pos rfl]
  exact (SMap.get_set _ _ _ _ _).trans (if_pos rfl)

theorem lutStored_index (h : getF (pgCND u) CND.LUT_ADDR_index s ≤ 35936) :
    getF (pgCND u) CND.LUT_ADDR_index (lutStored u b s) = (getF (pgCND u) CND.LUT_ADDR_index s + 1) % 35937 := by
  have hwidth : CND.LUT_ADDR_index.width = 16 := rfl
  rw [lutStored, getF_setF_same, hwidth]
  split <;> omega

theorem lutStored_writesIn : WritesIn (AtFields (pgCND u) [CND.LUT_ADDR_index, CND.LUT_DATA1_b]) s (lutStored u b s) :=
  ((WritesIn.of_eq rfl).trans (setF_writesIn (atFields_of_mem (by simp)))).trans (setF_writesIn (atFields_of_mem (by simp)))

end

/-! ## The commands -/

/-- Settles O15: the rows of an output (`cndRowOp_gives`, `giveRow_row`, `cndRowOp_dark`), then the loading of a bank (`lutWriteOp_stores`,
`lutWriteOp_inUse`). -/
theorem conditioningRowsAndLuts : Obligations.ConditioningRowsAndLuts := by
  refine ⟨fun u m row ready f s hen hrow havail hfeed => ?_, fun u m row ready s hen hrow hpath hsrc => ?_,
    fun r u b s h => ⟨fun hfree hindex => ?_, fun huse => ?_⟩⟩
  · refine ⟨_, congrArg Host.Outcome.next (cndRowOp_gives hen hrow havail hfeed), rfl, ?_, fun hlate => ?_⟩
    · rw [giveRow_row, outputSamples, rowRead_width, rowRead_black]
      rfl
    · rw [hlate]
      exact giveRow_late _ _ _ _ _ _
  · exact ⟨_, congrArg Host.Outcome.next (cndRowOp_dark hen hrow hpath hsrc), raise_cnd _ _ _, raise_event _ _ _⟩
  · refine ⟨lutStored u.val b.toNat s, congrArg Host.Outcome.next ((asWrite_runs _ _ _ _ _ h).trans ?_), lutStored_entry,
      lutStored_index hindex, rfl, fieldsBut_iff.2 lutStored_writesIn⟩
    rw [lutWriteOp_stores hfree]
  · refine ⟨raise (pgCND u.val) 1 s, congrArg Host.Outcome.next ((asWrite_runs _ _ _ _ _ h).trans ?_), raise_cnd _ _ _, raise_event _ _ _⟩
    rw [lutWriteOp_inUse huse]

end Sys2Proof.Machine
end

section
/-! # A channel that waits in STARTING with a refused command's reason (R24, R142) -/

namespace Sys2Proof.Machine

/-- Encode channel 0 waits in STARTING, its reason still that of a refused command (R24), and TIM has no first lock. -/
def refusedStarting : State := setF (pgECH 0) HDR.ACT_reason 0x0C (setF (pgECH 0) HDR.ACT_state stSTARTING State.reset)

/-- Refutes O21: while a page's state stays, the reason 0x0C of a refused command stays with it (R24, `setAct_of_eq`), so a channel that is
not ready goes on waiting with that reason and not with 0x05. COMMIT leaves 0x0C to a RUNNING channel only; the statement speaks of every
state. -/
theorem not_channelStartStopAndFigures : ¬ Obligations.ChannelStartStopAndFigures := by
  rintro ⟨hstart, -⟩
  have hact : act (pgECH (0 : Fin 32).val) refusedStarting = stSTARTING := by decide
  obtain ⟨-, hwaits⟩ := hstart 0 refusedStarting hact (by decide) (by decide)
  obtain ⟨t, ht, -, hreason, -⟩ := hwaits (by decide)
  cases (show Host.Outcome.next (channelStartOp 0 refusedStarting) = .next t from ht)
  have hstays : getF (pgECH 0) HDR.ACT_reason (channelStartOp 0 refusedStarting) = 0x0C := by decide
  exact absurd (hstays.symm.trans hreason) (by decide)

end Sys2Proof.Machine
end

section
/-! # A rotation step (R138, R446) -/

namespace Sys2Proof.Machine

/-! ## What the mapping of the cores is read from -/

section
variable {s t : State}

theorem reachNs_rot (n : Nat) (s : State) : (reachNs n s).rot = s.rot := by rw [reachNs_frame]

theorem isF_congr (p : Nat) (f : Fld) (h : t.regs = s.regs) : isF p f t = isF p f s := congrArg (· == 1) (getF_congr p f s t h)

theorem physOf_congr (h : t.regs = s.regs) (l : Nat) : physOf l t = physOf l s := by
  simp only [physOf, getF_congr _ _ s t h]

theorem spareOf_congr (h : t.regs = s.regs) : spareOf t = spareOf s := by
  simp only [spareOf, isF_congr _ _ h, act_congr h]

theorem nextLogical_congr (h : t.regs = s.regs) (l : Nat) : nextLogical l t = nextLogical l s := by
  simp only [nextLogical, physOf_congr h]

/-- the fields of an ECH page that say which logical cores carry the channel. -/
def placeFields : List Fld := [HDR.ACT_state, ECH.ALLOC_dedicated, ECH.ALLOC_n_cols, ECH.ALLOC_core]

theorem chansOn_congr (h : ∀ c, ∀ f ∈ placeFields, getF (pgECH c) f t = getF (pgECH c) f s) (l : Nat) : chansOn l t = chansOn l s := by
  have hact : ∀ c, act (pgECH c) t = act (pgECH c) s := fun c => h c _ (by simp [placeFields])
  have halloc : ∀ c, allocCores getF c t = allocCores getF c s := fun c => by
    simp only [allocCores, colCount, h c ECH.ALLOC_dedicated (by simp [placeFields]), h c ECH.ALLOC_n_cols (by simp [placeFields]),
      h c ECH.ALLOC_core (by simp [placeFields])]
  simp only [chansOn, hact, halloc]

theorem chansOn_congr_regs (h : t.regs = s.regs) (l : Nat) : chansOn l t = chansOn l s :=
  chansOn_congr (fun _ _ _ => getF_congr _ _ s t h) l

/-- logical core `l` carries a RUNNING channel. -/
def carriesRunning (l : Nat) (s : State) : Bool := (chansOn l s).any (fun c => act (pgECH c) s == stRUNNING)

theorem carriesRunning_congr (h : t.regs = s.regs) (l : Nat) : carriesRunning l t = carriesRunning l s := by
  simp only [carriesRunning, chansOn_congr_regs h, act_congr h]

end

/-- a core change's event leaves every channel where it is. -/
theorem raise_placeFields (p c : Nat) (s : State) : ∀ f ∈ placeFields, getF (pgECH c) f (raise p 6 s) = getF (pgECH c) f s := by
  intro f hf
  have hoff : f.loc < 2 ^ 20 ∧ f.loc ∉ (eventFields 6).map Fld.loc := by revert f; decide
  exact (raise_atFields (List.Subset.refl _) s).getF (not_atFields_off (eventFields_loc (by decide)) hoff.1 hoff.2)

/-! ## The interval elapses (R446) -/

/-- the time of the step, from which the next interval counts. -/
def intervalPassed (s : State) : State :=
  let u := advanceTo (s.rot.lastStep + getF pgHLT HLT.ROT_interval_s s * tickS) s
  { u with rot := { u.rot with lastStep := u.clk } }

theorem intervalPassed_regs (s : State) : (intervalPassed s).regs = s.regs := advanceTo_regs _ s

theorem intervalPassed_phase (s : State) : (intervalPassed s).rot.phase = s.rot.phase := by
  unfold intervalPassed; rw [advanceTo_frame]

/-- A rotation step may begin: rotation runs, no step is under way, and neither a throttle nor a test request stands against it. -/
structure StepMayBegin (s : State) : Prop where
  mainRun : s.pwr.mainRun = true
  enabled : isF pgHLT HLT.ROT_en s = true
  noStep : s.rot.phase = 0
  cool : isF pgHLT HLT.ST_throttle s = false
  noTest : isF pgHLT HLT.TRES_pending s = false

/-- the logical core whose turn it is. -/
def turnOf (s : State) : Nat := nextLogical (getF pgHLT HLT.ROT_STAT_next s) s

/-- the step of logical core `l` from `x` to `q`, before its shadow phase. -/
def stepBegun (l x q : Nat) (s : State) : State :=
  { s with rot := { s.rot with phase := 1, logical := l, x := x, sp := q, mismatch := none, moved := [] } }

/-- what an interval that elapses does, by the spare there is and the core whose turn it is. -/
theorem rotationStepOp_cases {s : State} (h : StepMayBegin s) :
    (spareOf s = none → rotationStepOp s = raise pgHLT 7 (setF pgHLT HLT.ROT_STAT_last 2 (intervalPassed s))) ∧
    ∀ q x, spareOf s = some q → physOf (turnOf s) s = some x → carriesRunning (turnOf s) s = true →
      rotationStepOp s = stepBegun (turnOf s) x q (intervalPassed s) := by
  have hregs := intervalPassed_regs s
  have hgo : ¬ (isF pgHLT HLT.ST_throttle (intervalPassed s) || (intervalPassed s).rot.phase != 0) = true := by
    rw [isF_congr _ _ hregs, h.cool, intervalPassed_phase, h.noStep]
    decide
  have hwant : ¬ (isF pgHLT HLT.TRES_pending (intervalPassed s) = true ∧ (intervalPassed s).hlt.testKind = 0) := by
    rw [isF_congr _ _ hregs, h.noTest]
    exact fun hc => Bool.false_ne_true hc.1
  have hturn : nextLogical (getF pgHLT HLT.ROT_STAT_next (intervalPassed s)) (intervalPassed s) = turnOf s := by
    rw [nextLogical_congr hregs, getF_congr _ _ s _ hregs, turnOf]
  have hspare := spareOf_congr hregs
  have hphys := physOf_congr hregs (turnOf s)
  unfold rotationStepOp
  rw [if_neg (by simp [h.mainRun, h.enabled])]
  extract_lets s0 _ s1 want l _
  have hs1 : s1 = intervalPassed s := rfl
  have hl : l = turnOf s := by
    have hnone : want = 31 := if_neg hwant
    exact (if_neg (by rw [hnone]; decide)).trans hturn
  rw [hs1, if_neg hgo, hl]
  refine ⟨fun hnone => ?_, fun q x hq hx hbusy => ?_⟩
  · simp only [hspare, hnone]
  · have hcarries := (carriesRunning_congr (t := stepBegun (turnOf s) x q (intervalPassed s)) hregs (turnOf s)).trans hbusy
    simp only [hspare, hphys, hq, hx]
    exact if_pos hcarries

/-! ## Shadowing and the switch (R138) -/

/-- the picture start at which shadowing begins, and the picture at which it ends. -/
theorem shadowStartOp_begins {c : Nat} {s : State} (hphase : s.rot.phase = 1) (hc : stepChannel s = some c) :
    ∃ u : State, shadowStartOp s = setF (pgENC s.rot.sp) ENC.ST_shadowing 1 u ∧ u.rot.phase = 2 ∧ u.regs = s.regs := by
  unfold shadowStartOp
  rw [if_neg (not_not.2 hphase), hc]
  exact ⟨_, rfl, rfl, reachNs_regs _ s⟩

theorem shadowEndOp_ends {s : State} (hphase : s.rot.phase = 2) :
    ∃ u : State, shadowEndOp s = setF (pgENC s.rot.sp) ENC.ST_shadowing 0 u ∧ u.rot.phase = 3 ∧ u.rot.moved = [] ∧ u.regs = s.regs := by
  unfold shadowEndOp
  rw [if_neg (not_not.2 hphase)]
  refine ⟨_, rfl, rfl, rfl, ?_⟩
  dsimp only
  split
  · rfl
  · exact reachNs_regs _ s

/-- another RUNNING channel has still to move. -/
def othersToMove (c : Nat) (s : State) : Bool :=
  !(chansOn s.rot.logical s).all (fun d => d == c || s.rot.moved.contains d || act (pgECH d) s != stRUNNING)

/-- channel `c` is with S. -/
def withMoved (c : Nat) (s : State) : State := { s with rot := { s.rot with moved := c :: s.rot.moved } }

theorem withMoved_rot {c : Nat} {s u : State} (h : u.rot = s.rot) : (withMoved c u).rot = { s.rot with moved := c :: s.rot.moved } := by
  rw [withMoved, h]

theorem coreSwitchOp_goesOn {c : Nat} {s : State} (hphase : s.rot.phase = 3) (hon : (chansOn s.rot.logical s).contains c = true)
    (hstays : s.rot.moved.contains c = false) (hothers : othersToMove c s = true) :
    ∃ u : State, coreSwitchOp c s = raise (pgECH c) 6 u ∧ u.rot = { s.rot with moved := c :: s.rot.moved } ∧ u.regs = s.regs := by
  have hmoves : ∃ u : State, u.rot = { s.rot with moved := c :: s.rot.moved } ∧ u.regs = s.regs ∧
      coreSwitchOp c s = finishRotation (raise (pgECH c) 6 u) := by
    unfold coreSwitchOp
    rw [if_neg (by rw [hphase, hon, hstays]; decide)]
    split
    · exact ⟨withMoved c (reachNs _ s), withMoved_rot (reachNs_rot _ s), reachNs_regs _ s, rfl⟩
    · exact ⟨withMoved c s, withMoved_rot rfl, rfl, rfl⟩
  obtain ⟨u, hrot, hregs, hop⟩ := hmoves
  refine ⟨u, hop.trans (if_neg ?_), hrot, hregs⟩
  rintro ⟨-, hall, -⟩
  have hfields : ∀ d, ∀ f ∈ placeFields, getF (pgECH d) f (raise (pgECH c) 6 u) = getF (pgECH d) f s := fun d f hf =>
    (raise_placeFields _ _ _ f hf).trans (getF_congr _ _ s _ hregs)
  have hact : ∀ d, act (pgECH d) (raise (pgECH c) 6 u) = act (pgECH d) s := fun d => hfields d _ (by simp [placeFields])
  simp only [raise_rot, hrot, chansOn_congr hfields, hact, List.contains_cons] at hall
  rw [othersToMove, hall] at hothers
  exact absurd hothers (by decide)

/-- Settles O20: the interval that elapses (`rotationStepOp_cases`), the shadow phase (`shadowStartOp_begins`, `shadowEndOp_ends`) and a
channel that moves while another has still to (`coreSwitchOp_goesOn`). -/
theorem coreRotation : Obligations.CoreRotation := by
  refine ⟨fun s hrun hen hphase hcool htest => ?_, fun c s hphase hc => ?_, fun s hphase => ?_,
    fun ch s hphase hon hstays hothers => ?_⟩
  · obtain ⟨hskips, hbegins⟩ := rotationStepOp_cases ⟨hrun, hen, hphase, hcool, htest⟩
    refine ⟨fun hnone => ⟨_, congrArg Host.Outcome.next (hskips hnone), ?_, raise_event _ _ _, ?_⟩, fun q x hq hx hbusy =>
      ⟨_, congrArg Host.Outcome.next (hbegins q x hq hx hbusy), rfl, rfl, rfl, intervalPassed_regs s⟩⟩
    · rw [raise_getF _ _ _ _ (by decide) (by decide) (by decide) (by decide), getF_setF_same]
      rfl
    · rw [raise_rot, setF_rot, intervalPassed_phase, hphase]
  · obtain ⟨u, hop, hstep, hregs⟩ := shadowStartOp_begins hphase hc
    refine ⟨_, congrArg Host.Outcome.next hop, hstep, congrArg (· == 1) (getF_setF_same _ _ _ _), ?_⟩
    rw [setF, setF, hregs]
  · obtain ⟨u, hop, hstep, hmoved, hregs⟩ := shadowEndOp_ends hphase
    exact ⟨_, congrArg Host.Outcome.next hop, hstep, hmoved, congrArg (· == 1) (getF_setF_same _ _ _ _),
      fieldsBut_iff.2 ((WritesIn.of_eq hregs).trans (setF_writesIn (atFields_of_mem List.mem_cons_self)))⟩
  · have htogo : othersToMove ch.val s = true := by rw [othersToMove, hothers]; rfl
    obtain ⟨u, hop, hrot, hregs⟩ := coreSwitchOp_goesOn hphase hon hstays htogo
    refine ⟨_, congrArg Host.Outcome.next hop, ?_, ?_, raise_event _ _ _,
      (State.regsBut.of_eq hregs).trans (raise_regsBut _ _ _ (by decide))⟩
    · rw [raise_rot, hrot, hphase]
    · rw [raise_rot, hrot]

end Sys2Proof.Machine
end

section
/-! # What a core's fault leaves alone: the core's own page (R140, R141, R143, R173)

Once core `q` is in FAULT, whatever its fault makes of the channels and of the other cores writes no register of its page:
`CoreRests`. As for `Calm`, each operation `f` has one lemma `f_rests`, whose proof is the body of `f` with each operation replaced by
its lemma. -/

namespace Sys2Proof.Machine

/-- The page of core `q` is in FAULT, and `s` has its registers as `a` has them. -/
structure CoreRests (q : Fin 17) (a s : State) : Prop where
  fault : act (pgENC q) s = stFAULT
  regs : WritesIn (fun k => k / 2 ^ 20 ≠ pgENC q) a s

section
variable {q : Fin 17} {a s t : State}

theorem offCore {p : Nat} {f : Fld} (hp : p ≠ pgENC q) (hf : f.loc < 2 ^ 20) : f.key p / 2 ^ 20 ≠ pgENC q := by rwa [key_div hf]

theorem onCore {f : Fld} (hf : f.loc < 2 ^ 20) : ¬ f.key (pgENC q) / 2 ^ 20 ≠ pgENC q := not_not.2 (key_div hf)

theorem CoreRests.refl (h : act (pgENC q) s = stFAULT) : CoreRests q s s := ⟨h, .refl s⟩

theorem CoreRests.of_writesIn (h : CoreRests q a s) (hw : WritesIn (fun k => k / 2 ^ 20 ≠ pgENC q) s t) : CoreRests q a t :=
  ⟨(hw.act (onCore (by decide))).trans h.fault, h.regs.trans hw⟩

theorem CoreRests.of_regs (h : CoreRests q a s) (hregs : t.regs = s.regs) : CoreRests q a t := h.of_writesIn (.of_eq hregs)

theorem CoreRests.getF (h : CoreRests q a s) {f : Fld} (hf : f.loc < 2 ^ 20) :
    Machine.getF (pgENC q) f s = Machine.getF (pgENC q) f a := h.regs.getF (onCore hf)

theorem CoreRests.ite {c : Prop} [Decidable c] (h : CoreRests q a s) (k : CoreRests q a t) : CoreRests q a (if c then s else t) := by
  split <;> assumption

theorem CoreRests.foldl {α : Type} (g : State → α → State) (l : List α) (hg : ∀ u, ∀ x ∈ l, CoreRests q a u → CoreRests q a (g u x))
    (h : CoreRests q a s) : CoreRests q a (l.foldl g s) :=
  List.foldlRecOn (motive := CoreRests q a) l g h fun u hu x hx => hg u x hx hu

/-! ## Pages that are no core's -/

theorem ne_pgENC {p : Nat} (hp : p < 0xB0 ∨ 0xC1 ≤ p) : p ≠ pgENC q := by
  unfold pgENC; omega

theorem pgCND_ne_pgENC {u : Nat} (hu : u < 4) : pgCND u ≠ pgENC q := ne_pgENC (.inl (by unfold pgCND; omega))

theorem pgECH_ne_pgENC (c : Nat) : pgECH c ≠ pgENC q := ne_pgENC (.inr (by unfold pgECH; omega))

theorem pgMUX_ne_pgENC (g : Nat) : pgMUX g ≠ pgENC q := ne_pgENC (.inr (by unfold pgMUX; omega))

theorem pgOUT_ne_pgENC (c : Nat) : pgOUT c ≠ pgENC q := ne_pgENC (.inr (by unfold pgOUT; omega))

theorem pgENC_ne_pgENC {b : Nat} (hb : b ≠ q) : pgENC b ≠ pgENC q := by
  unfold pgENC; omega

/-! ## The shared operations -/

theorem setF_rests (h : CoreRests q a s) {p : Nat} (hp : p ≠ pgENC q) (f : Fld) (v : Nat) (hf : f.loc < 2 ^ 20) :
    CoreRests q a (setF p f v s) := h.of_writesIn (setF_writesIn (offCore hp hf))

theorem addF_rests (h : CoreRests q a s) {p : Nat} (hp : p ≠ pgENC q) (f : Fld) (n : Nat) (hf : f.loc < 2 ^ 20) :
    CoreRests q a (addF p f n s) := setF_rests h hp f _ hf

theorem subF_rests (h : CoreRests q a s) {p : Nat} (hp : p ≠ pgENC q) (f : Fld) (n : Nat) (hf : f.loc < 2 ^ 20) :
    CoreRests q a (subF p f n s) := setF_rests h hp f _ hf

theorem raise_rests (h : CoreRests q a s) {p k : Nat} (hp : p ≠ pgENC q) (hk : k < 32) : CoreRests q a (raise p k s) :=
  h.of_writesIn (raise_writesIn fun f hf => offCore hp (eventFields_loc hk f hf))

theorem raiseIf_rests (h : CoreRests q a s) (c : Bool) {p k : Nat} (hp : p ≠ pgENC q) (hk : k < 32) :
    CoreRests q a (raiseIf c p k s) := .ite (raise_rests h hp hk) h

theorem setAct_rests (h : CoreRests q a s) {p : Nat} (hp : p ≠ pgENC q) (st r : Nat) : CoreRests q a (setAct p st r s) := by
  have hact : ∀ f ∈ actFields, f.loc < 2 ^ 20 := by decide
  exact h.of_writesIn (setAct_writesIn (fun f hf => offCore hp (hact f hf)) (offCore (ne_pgENC (by decide)) (by decide))
    fun u hu f hf => offCore (pgCND_ne_pgENC hu) (eventFields_loc (by decide) f hf))

theorem takeGen_rests (h : CoreRests q a s) {p : Nat} (hp : p ≠ pgENC q) : CoreRests q a (takeGen p s) :=
  h.of_writesIn (takeGen_writesIn (fun f hf => offCore hp (rwcRows_low f hf)) (offCore hp (by decide))
    fun f hf => offCore hp (eventFields_loc (by decide) f hf))

theorem toFault_rests (h : CoreRests q a s) {p : Nat} (hp : p ≠ pgENC q) (r : Nat) : CoreRests q a (toFault p r s) :=
  takeGen_rests (setAct_rests h hp _ _) hp

theorem clearFields_rests (h : CoreRests q a s) {p : Nat} (hp : p ≠ pgENC q) (l : List Fld) (hl : ∀ f ∈ l, f.loc < 2 ^ 20) :
    CoreRests q a (clearFields p l s) := .foldl _ _ (fun _ f hf hu => setF_rests hu hp f _ (hl f hf)) h

theorem plainCommand_rests (h : CoreRests q a s) {p : Nat} (hp : p ≠ pgENC q) : CoreRests q a (plainCommand p s) :=
  .ite h (.ite h (setAct_rests h hp _ _))

theorem takeAfterStop_rests (h : CoreRests q a s) {p : Nat} (hp : p ≠ pgENC q) (cmd : State → State)
    (hc : ∀ u, CoreRests q a u → CoreRests q a (cmd u)) : CoreRests q a (takeAfterStop p cmd s) :=
  .ite (.ite (takeGen_rests h hp) (hc _ (takeGen_rests h hp))) h

/-- a unit in FAULT follows no work. -/
theorem followWork_fault {p : Nat} (h : act p s = stFAULT) (busy gated : Bool) : followWork p busy gated s = s := by
  unfold followWork
  rw [h]
  cases busy <;> rfl

theorem followWork_rests (h : CoreRests q a s) (p : Nat) (busy gated : Bool) : CoreRests q a (followWork p busy gated s) := by
  by_cases hp : p = pgENC q
  · rw [followWork_fault (hp ▸ h.fault)]
    exact h
  · exact .ite (.ite (setAct_rests h hp _ _) h) (.ite (setAct_rests h hp _ _) h)

/-! ## Messages (R170, R347) -/

/-- a message is posted on a link that runs, and core `q` does not. -/
theorem izlPost_rests (h : CoreRests q a s) (j vl : Nat) (m : List Byte) : CoreRests q a (izlPost j vl m s) := by
  by_cases hrun : act (pgIZL j) s = stRUNNING
  · have hp : pgIZL j ≠ pgENC q := fun he => absurd (hrun.symm.trans (he ▸ h.fault)) (by decide)
    exact .ite h (.ite (raise_rests (addF_rests h hp _ _ (by decide)) hp (by decide)) (h.of_regs (by rfl)))
  · rw [izlPost, if_pos hrun]
    exact h

theorem sendManagement_rests (h : CoreRests q a s) (k hops d : Nat) (peer : Peer) (b : List Byte) :
    CoreRests q a (sendManagement k hops d peer b s) := by
  unfold sendManagement
  split
  · exact izlPost_rests h _ _ _
  · exact h

/-! ## The pages that follow the channels (R110, R145, R176) -/

theorem cndRefreshAll_rests (h : CoreRests q a s) : CoreRests q a (cndRefreshAll s) :=
  .foldl _ _ (fun _ _ _ hu => followWork_rests hu _ _ _) h

theorem encRefresh_rests (h : CoreRests q a s) (b : Nat) : CoreRests q a (encRefresh b s) := followWork_rests h _ _ _

theorem rclRefresh_rests (h : CoreRests q a s) : CoreRests q a (rclRefresh s) := by
  have hp : pgRCL ≠ pgENC q := ne_pgENC (by decide)
  exact .ite (takeGen_rests (setAct_rests h hp _ _) hp) (setAct_rests h hp _ _)

theorem echRefresh_rests (h : CoreRests q a s) : CoreRests q a (echRefresh s) :=
  cndRefreshAll_rests (rclRefresh_rests (.foldl _ _ (fun _ _ _ hu => encRefresh_rests hu _) h))

/-! ## Tokens (R151, R166, R170, R173) -/

theorem poolAdd_rests (h : CoreRests q a s) (g x : Nat) : CoreRests q a (poolAdd g x s) := by
  have hp := pgMUX_ne_pgENC (q := q) g
  exact .ite (raise_rests (addF_rests (addF_rests h hp _ _ (by decide)) hp _ _ (by decide)) hp (by decide)) (addF_rests h hp _ _ (by decide))

theorem lapse_rests (h : CoreRests q a s) (c x : Nat) : CoreRests q a (lapse c x s) := by
  have hc := pgECH_ne_pgENC (q := q) c
  have hown := addF_rests h hc ECH.RC_LAPSED_tokens x (by decide)
  exact raiseIf_rests (.ite (addF_rests hown (pgMUX_ne_pgENC _) _ _ (by decide)) hown) _ hc (by decide)

theorem sendLending_rests (h : CoreRests q a s) (dest kind g ch row ref pic tokens deadline : Nat) :
    CoreRests q a (sendLending dest kind g ch row ref pic tokens deadline s) := by
  have hp := pgMUX_ne_pgENC (q := q) g
  unfold sendLending
  extract_lets +onlyGivenNames m s1
  have hsent : CoreRests q a s1 :=
    addF_rests (sendManagement_rests (h.of_regs (by rfl)) _ _ _ _ _) (ne_pgENC (by decide)) _ _ (by decide)
  have htokens := addF_rests hsent hp MUX.SENT_tokens tokens (by decide)
  exact .ite (.ite htokens (raise_rests (addF_rests htokens hp _ _ (by decide)) hp (by decide))) hsent

theorem muxCommand_rests (h : CoreRests q a s) (g : Nat) : CoreRests q a (muxCommand g s) := by
  have hp := pgMUX_ne_pgENC (q := q) g
  have hplain := plainCommand_rests h hp
  exact .ite h (.ite (.ite h (.ite (setAct_rests h hp _ _) (setAct_rests h hp _ _)))
    (.ite (clearFields_rests (hplain.of_regs (by rfl)) hp _ (by decide)) hplain))

theorem accountLeaves_rests (h : CoreRests q a s) (c : Nat) : CoreRests q a (accountLeaves c s) := by
  have hc := pgECH_ne_pgENC (q := q) c
  unfold accountLeaves
  extract_lets +onlyGivenNames p x drop
  have hdrop : ∀ u, CoreRests q a u → CoreRests q a (drop u) := fun u hu =>
    setF_rests (setF_rests (hu.of_regs (by rfl)) hc _ _ (by decide)) hc _ _ (by decide)
  split
  · exact lapse_rests (hdrop s h) _ _
  · extract_lets +onlyGivenNames g grant s0 m s1
    have hreturned : CoreRests q a (addF p ECH.RC_RETURNED_tokens x (drop s0)) :=
      addF_rests (hdrop s0 (subF_rests h (pgMUX_ne_pgENC _) _ _ (by decide))) hc _ _ (by decide)
    have hgiven : CoreRests q a s1 := by
      unfold s1
      split
      · exact poolAdd_rests hreturned _ _
      · split
        · exact hreturned
        · exact sendLending_rests hreturned _ _ _ _ _ _ _ _ _
    exact .ite (takeAfterStop_rests (setAct_rests hgiven (pgMUX_ne_pgENC _) _ _) (pgMUX_ne_pgENC _) _ fun _ hu => muxCommand_rests hu _) hgiven

/-! ## A channel's fault (R143, R173) -/

theorem dropJoin_rests (h : CoreRests q a s) (c : Nat) : CoreRests q a (dropJoin c s) := by
  have hp : pgTWN ≠ pgENC q := ne_pgENC (by decide)
  exact setF_rests (setF_rests (setF_rests (h.of_regs (by rfl)) hp _ _ (by decide)) hp _ _ (by decide)) hp _ _ (by decide)

theorem discardSlices_rests (h : CoreRests q a s) (c : Nat) : CoreRests q a (discardSlices c s) := by
  have hp := pgOUT_ne_pgENC (q := q) c
  exact setF_rests (addF_rests (h.of_regs (by rfl)) hp _ _ (by decide)) hp _ _ (by decide)

theorem quitPage_regs (pg who : Nat) (s : State) : (quitPage pg who s).regs = s.regs := by
  unfold quitPage
  split <;> rfl

theorem stopReading_rests (h : CoreRests q a s) (c : Nat) : CoreRests q a (stopReading c s) :=
  .ite h (h.of_regs (quitPage_regs _ _ _))

theorem echFault_rests (h : CoreRests q a s) (c reason : Nat) : CoreRests q a (echFault c reason s) := by
  have hslices : CoreRests q a (discardSlices c (dropJobs c s)) := discardSlices_rests (h.of_regs (by rfl)) c
  have hstopped := stopReading_rests (accountLeaves_rests (toFault_rests hslices (pgECH_ne_pgENC c) reason) c) c
  exact echRefresh_rests (.ite (dropJoin_rests hstopped c) hstopped)

/-! ## The core's work goes elsewhere (R140, R141) -/

theorem mapCore_rests (h : CoreRests q a s) {b : Nat} (hb : b ≠ q) (l : Nat) : CoreRests q a (mapCore b l s) := by
  have hp := pgENC_ne_pgENC hb
  exact setF_rests (setF_rests (setF_rests (setF_rests h hp _ _ (by decide)) hp _ _ (by decide)) hp _ _ (by decide)) hp _ _ (by decide)

theorem coreChanged_rests (h : CoreRests q a s) (l : List Nat) : CoreRests q a (coreChanged l s) :=
  .foldl _ _ (fun _ _ _ hu => raise_rests hu (pgECH_ne_pgENC _) (by decide)) h

theorem floorHeld_rests (h : CoreRests q a s) (c x b : Nat) (r : EchRow) : CoreRests q a (floorHeld c x b r s) := by
  have hp := pgECH_ne_pgENC (q := q) c
  unfold floorHeld
  extract_lets +onlyGivenNames cols s1 s2
  have hpushed : CoreRests q a s2 := .foldl _ _ (fun _ _ _ hu => hu.of_regs (by rfl)) (h.of_regs (by rfl))
  exact .ite h (.ite (setF_rests (raise_rests (addF_rests hpushed hp _ _ (by decide)) hp (by decide)) hp _ _ (by decide)) hpushed)

theorem floorRows_rests (h : CoreRests q a s) (x b : Nat) : CoreRests q a (floorRows x b s) :=
  .foldl _ _ (fun _ _ _ hu => .foldl _ _ (fun _ _ _ hv => floorHeld_rests hv _ _ _ _) hu) (h.of_regs (by rfl))

theorem passRows_rests (h : CoreRests q a s) (x b : Nat) : CoreRests q a (passRows x b s) :=
  .foldl _ _ (fun _ _ _ hu => hu.of_regs (by rfl)) (h.of_regs (by rfl))

theorem shadowTakes_rests (h : CoreRests q a s) (x : Nat) {b : Nat} (hb : b ≠ q) (l : Nat) : CoreRests q a (shadowTakes x b l s) :=
  encRefresh_rests (coreChanged_rests (passRows_rests (mapCore_rests h hb l) x b) _) b

/-- a core that can take over waits in IDLE or runs golden vectors, so that it is no core in FAULT. -/
theorem standIn_act {b : Nat} (h : standIn s = some b) : act (pgENC b) s ≠ stFAULT := by
  unfold standIn at h
  extract_lets free at h
  split at h
  · next d hd =>
    have hidle := List.find?_some hd
    cases h
    simp only [Bool.and_eq_true, beq_iff_eq] at hidle
    rw [hidle.1.2]
    decide
  · have htest := List.find?_some h
    simp only [Bool.and_eq_true, beq_iff_eq] at htest
    rw [htest.2]
    decide

theorem takeOver_rests (h : CoreRests q a s) (l : Nat) : CoreRests q a (takeOver q l s) := by
  unfold takeOver
  split
  · next b hb =>
    have hne : b ≠ q := fun he => standIn_act hb (he ▸ h.fault)
    exact encRefresh_rests (coreChanged_rests (floorRows_rests (mapCore_rests (setAct_rests h (pgENC_ne_pgENC hne) _ _) hne l) _ _) _) b
  · exact .foldl _ _ (fun _ _ _ hu => echFault_rests hu _ _) (setF_rests h (ne_pgENC (by decide)) _ _ (by decide))

end

end Sys2Proof.Machine
end

section
/-! # A core's fault, an overdue row and the golden vectors (R140, R447) -/

namespace Sys2Proof.Machine

/-! ## What a core's page shows of its change of state -/

section
variable {p st r : Nat} {f : Fld} {s : State}

/-- a place of page `p` beside the events of R105 and HAP's count of scheduled writes shows the change itself. -/
theorem setAct_getF (h : act p s ≠ st) (hlow : f.loc < 2 ^ 20) (hevent : f.loc ∉ (eventFields 0).map Fld.loc)
    (hwat : f.loc ≠ HAP.WAT_PENDING_count.loc) : getF p f (setAct p st r s) = getF p f (enterAct p st r s) := by
  have hoff : ∀ {t u : State}, WritesIn (OffPlaces [f.loc]) t u → getF p f u = getF p f t := fun hw =>
    hw.getF (not_offPlaces hlow (List.mem_singleton.2 rfl))
  have hgone : ∀ t, getF p f (sourceGone p t) = getF p f t := fun t => hoff (sourceGone_writesIn fun u _ g hg =>
    offPlaces_of (eventFields_loc (by decide) g hg) fun hm => hevent (List.mem_singleton.1 hm ▸ List.mem_map_of_mem hg))
  have hleave : ∀ t, getF p f (watLeave p t) = getF p f t := fun t =>
    hoff (watLeave_writesIn (offPlaces_of (by decide) fun hm => hwat (List.mem_singleton.1 hm).symm))
  have hleaves : getF p f (leaveAct p st r s) = getF p f (enterAct p st r s) := by
    unfold leaveAct
    split
    · exact hgone _
    · rfl
  rw [setAct_of_ne h]
  split
  · exact hleaves
  · rw [hleave, hleaves]

theorem setAct_reason (h : act p s ≠ st) (hr : r < 256) : getF p HDR.ACT_reason (setAct p st r s) = r := by
  rw [setAct_getF h (by decide) (by decide) (by decide)]
  refine (getF_congr _ _ _ _ (settleTimer_regs _ _)).trans ?_
  change getF p HDR.ACT_reason (writeAct p st r s) = r
  rw [writeAct, getF_setF_field _ _ _ _ _ (by decide), getF_setF_field _ _ _ _ _ (by decide), getF_setF_same]
  exact Nat.mod_eq_of_lt hr

/-- a unit that is not RUNNING is no source: its change of state shows on its page, and on HAP by the writes withdrawn. -/
theorem setAct_regsBut_of_rest (h : act p s ≠ stRUNNING) : State.regsBut [p, pgHAP] s (setAct p st r s) := by
  have hown : ∀ g ∈ actFields, g.key p / 2 ^ 20 ∈ [p, pgHAP] := fun g hg => by
    have hlow : g.loc < 2 ^ 20 := by revert g; decide
    exact (key_div hlow).symm ▸ List.mem_cons_self
  by_cases hst : act p s = st
  · rw [setAct_of_eq hst]
    exact .ite (.refl _ s) (setF_writesIn (hown _ (by simp [actFields])))
  · rw [setAct_of_ne hst, leaveAct, if_neg h]
    have hwat : HAP.WAT_PENDING_count.key pgHAP / 2 ^ 20 ∈ [p, pgHAP] :=
      (key_div (p := pgHAP) (f := HAP.WAT_PENDING_count) (by decide)).symm ▸ by simp
    exact WritesIn.ite (enterAct_writesIn hown) ((enterAct_writesIn hown).trans (watLeave_writesIn hwat))

theorem takeGen_regsBut (p : Nat) (s : State) : State.regsBut [p] s (takeGen p s) := by
  have hkey : ∀ {g : Fld}, g.loc < 2 ^ 20 → g.key p / 2 ^ 20 ∈ [p] := fun hg => List.mem_singleton.2 (key_div hg)
  exact takeGen_writesIn (fun g hg => hkey (rwcRows_low g hg)) (hkey (by decide)) fun g hg => hkey (eventFields_loc (by decide) g hg)

theorem toFault_regsBut_of_rest (h : act p s ≠ stRUNNING) : State.regsBut [p, pgHAP] s (toFault p r s) :=
  (setAct_regsBut_of_rest h).trans ((takeGen_regsBut p _).mono (by simp))

end

section
variable {q : Fin 17} {s : State}

/-- what STATUS shows of a core's place in the mapping and of its tests. -/
def statusFields : List Fld := [ENC.ST_logical, ENC.ST_spare, ENC.ST_golden, ENC.ST_shadowing]

theorem setAct_status {p st r : Nat} {f : Fld} (hf : f ∈ statusFields) : getF p f (setAct p st r s) = getF p f s := by
  have hlow : f.loc < 2 ^ 20 := by revert f; decide
  have hoff : ∀ g ∈ HAP.WAT_PENDING_count :: (actFields ++ eventFields 0), g.loc < 2 ^ 20 ∧ g.loc ∉ [f.loc] := by revert f; decide
  have hkeys : ∀ g ∈ HAP.WAT_PENDING_count :: (actFields ++ eventFields 0), ∀ p, OffPlaces [f.loc] (g.key p) := fun g hg p =>
    offPlaces_of (hoff g hg).1 (hoff g hg).2
  exact (setAct_writesIn (K := OffPlaces [f.loc]) (fun g hg => hkeys g (by simp [hg]) p) (hkeys _ (by simp) _)
    fun _ _ g hg => hkeys g (by simp [hg]) _).getF (not_offPlaces hlow (by simp))

/-- an encode core has no configuration of its own. -/
theorem rwcRows_enc : ∀ q : Fin 17, rwcRows (pgENC q) = [HDR.CMD_state] := by decide

theorem takeGen_enc {f : Fld} (hf : f ∈ HDR.ACT_state :: HDR.ACT_reason :: statusFields) :
    getF (pgENC q) f (takeGen (pgENC q) s) = getF (pgENC q) f s := by
  have hlow : f.loc < 2 ^ 20 := by revert f; decide
  have hoff : ∀ g ∈ HDR.CMD_state :: HDR.gen_applied :: eventFields 30, g.loc < 2 ^ 20 ∧ g.loc ∉ [f.loc] := by revert f; decide
  have hkeys : ∀ g ∈ HDR.CMD_state :: HDR.gen_applied :: eventFields 30, OffPlaces [f.loc] (g.key (pgENC q)) := fun g hg =>
    offPlaces_of (hoff g hg).1 (hoff g hg).2
  refine (takeGen_writesIn (K := OffPlaces [f.loc]) (fun g hg => hkeys g ?_) (hkeys _ (by simp)) fun g hg => hkeys g (by simp [hg])).getF
    (not_offPlaces hlow (by simp))
  rw [rwcRows_enc, List.mem_singleton] at hg
  simp [hg]

theorem toFault_act : act (pgENC q) (toFault (pgENC q) r s) = stFAULT :=
  (takeGen_enc (by simp)).trans (setAct_act (by decide))

theorem toFault_reason {r : Nat} (h : act (pgENC q) s ≠ stFAULT) (hr : r < 256) :
    getF (pgENC q) HDR.ACT_reason (toFault (pgENC q) r s) = r := (takeGen_enc (by simp)).trans (setAct_reason h hr)

theorem toFault_status {r : Nat} {f : Fld} (hf : f ∈ statusFields) : getF (pgENC q) f (toFault (pgENC q) r s) = getF (pgENC q) f s :=
  (takeGen_enc (by simp [hf])).trans (setAct_status hf)

/-! ## The fault itself (R140, R141) -/

/-- core `q` serves no logical core and is under no test. -/
def leftMapping (q : Nat) (s : State) : State :=
  setF (pgENC q) ENC.ST_logical 31 (setF (pgENC q) ENC.ST_spare 0 (setF (pgENC q) ENC.ST_golden 0 (setF (pgENC q) ENC.ST_shadowing 0 s)))

theorem leftMapping_act (b : Nat) (s : State) : act (pgENC b) (leftMapping b s) = act (pgENC b) s :=
  (((getF_setF_field _ _ _ _ _ (by decide)).trans (getF_setF_field _ _ _ _ _ (by decide))).trans
    (getF_setF_field _ _ _ _ _ (by decide))).trans (getF_setF_field _ _ _ _ _ (by decide))

/-- core `q` has left its logical core for FAULT. -/
def faultedCore (q reason : Nat) (s : State) : State := raise (pgENC q) 1 (toFault (pgENC q) reason (leftMapping q s))

theorem faultedCore_act (reason : Nat) (s : State) : act (pgENC q) (faultedCore q reason s) = stFAULT :=
  (raise_getF _ _ _ _ (by decide) (by decide) (by decide) (by decide)).trans toFault_act

theorem faultedCore_reason {reason : Nat} (h : act (pgENC q) s ≠ stFAULT) (hr : reason < 256) :
    getF (pgENC q) HDR.ACT_reason (faultedCore q reason s) = reason := by
  rw [← leftMapping_act] at h
  exact (raise_getF _ _ _ _ (by decide) (by decide) (by decide) (by decide)).trans (toFault_reason h hr)

theorem faultedCore_logical (reason : Nat) (s : State) : getF (pgENC q) ENC.ST_logical (faultedCore q reason s) = 31 := by
  rw [faultedCore, raise_getF _ _ _ _ (by decide) (by decide) (by decide) (by decide), toFault_status (by decide), leftMapping, getF_setF_same]
  rfl

/-- outside a step, what follows a core's fault leaves the core's page as the fault made it; the spare that a mismatch gives the logical
core to is another core. -/
theorem coreFaultOp_rests {reason : Nat} (hphase : s.rot.phase = 0) (hspare : mismatchNow s = true → s.rot.x ≠ s.rot.sp)
    (hact : act (pgENC q) s ∈ [stIDLE, stRUNNING, stTEST]) :
    CoreRests q (faultedCore q reason s) (coreFaultOp q reason s) := by
  have hfault : CoreRests q (faultedCore q reason s) (faultedCore q reason s) := .refl (faultedCore_act _ _)
  have hserves : ¬ (!([stIDLE, stRUNNING, stTEST].contains (act (pgENC q) s))) = true := by
    rw [List.contains_iff_mem.2 hact]
    decide
  unfold coreFaultOp
  rw [if_neg hserves]
  extract_lets l r s1 left
  have hnone : r.phase = 0 := hphase
  rw [if_neg (by simp [hnone]), if_neg (by simp [hnone])]
  split
  · next h =>
    obtain ⟨hmismatch, hx, -, -⟩ := h
    have hsp : r.sp ≠ q := fun he => hspare hmismatch (hx.trans he.symm)
    have hp := pgENC_ne_pgENC hsp
    exact shadowTakes_rests (setAct_rests (setF_rests hfault hp _ _ (by decide)) hp _ _) _ hsp l
  · rw [if_neg (by simp [hnone]), if_neg (show ¬ (r.phase = 1 ∨ r.phase = 2) by simp [hnone])]
    exact .ite (takeOver_rests hfault l) hfault

theorem ne_fault_of_serves (h : act (pgENC q) s ∈ [stIDLE, stRUNNING, stTEST]) : act (pgENC q) s ≠ stFAULT := by
  intro he
  rw [he] at h
  revert h
  decide

theorem coreFaultOp_shows {reason : Nat} (hphase : s.rot.phase = 0) (hspare : mismatchNow s = true → s.rot.x ≠ s.rot.sp)
    (hact : act (pgENC q) s ∈ [stIDLE, stRUNNING, stTEST]) (hr : reason < 256) :
    act (pgENC q) (coreFaultOp q reason s) = stFAULT ∧ getF (pgENC q) HDR.ACT_reason (coreFaultOp q reason s) = reason ∧
      getF (pgENC q) ENC.ST_logical (coreFaultOp q reason s) = 31 ∧ getF (pgENC q) (HDR.EVENT 1) (coreFaultOp q reason s) = 1 := by
  have hrests := coreFaultOp_rests (reason := reason) hphase hspare hact
  exact ⟨hrests.fault, (hrests.getF (by decide)).trans (faultedCore_reason (ne_fault_of_serves hact) hr),
    (hrests.getF (by decide)).trans (faultedCore_logical _ _), (hrests.getF (by decide)).trans (raise_event _ _ _)⟩

theorem mismatchNow_reachNs (t : Nat) (s : State) : mismatchNow (reachNs t s) = mismatchNow s := by
  rw [reachNs_frame]
  rfl

/-! ## Golden vectors (R447) -/

theorem isF_of_zero {p : Nat} {f : Fld} (h : getF p f s = 0) : isF p f s = false := congrArg (· == 1) h

/-- core `q` runs golden vectors no more, and is not the spare. -/
def clearedRun (q : Nat) (s : State) : State := setF (pgENC q) ENC.ST_spare 0 (setF (pgENC q) ENC.ST_golden 0 s)

theorem clearedRun_act (b : Nat) (s : State) : act (pgENC b) (clearedRun b s) = act (pgENC b) s :=
  (getF_setF_field _ _ _ _ _ (by decide)).trans (getF_setF_field _ _ _ _ _ (by decide))

theorem clearedRun_golden (b : Nat) (s : State) : getF (pgENC b) ENC.ST_golden (clearedRun b s) = 0 :=
  (getF_setF_field _ _ _ _ _ (by decide)).trans (getF_setF_same _ _ _ _)

theorem clearedRun_regsBut (b : Nat) (s : State) : State.regsBut [pgENC b] s (clearedRun b s) :=
  (setF_regsBut _ _ _ _ (by decide)).trans (setF_regsBut _ _ _ _ (by decide))

/-- the golden vectors have failed on core `q`, which goes to FAULT. -/
def failedRun (q : Nat) (s : State) : State := toFault (pgENC q) 7 (clearedRun q s)

/-- the health page's verdict of a run that failed. -/
def failedVerdict (s : State) : State := raise pgHLT 2 (satF pgHLT HLT.ROT_STAT_golden_fail 1 (setF pgHLT HLT.ROT_STAT_last 3 s))

theorem failedVerdict_regsBut (s : State) : State.regsBut [pgHLT] s (failedVerdict s) :=
  ((setF_regsBut _ _ _ _ (by decide)).trans (setF_regsBut _ _ _ _ (by decide))).trans (raise_regsBut _ _ _ (by decide))

theorem failedVerdict_getF (f : Fld) (hf : f.loc < 2 ^ 20) (s : State) : getF (pgENC q) f (failedVerdict s) = getF (pgENC q) f s := by
  have hpage : pgENC q ≠ pgHLT := pgENC_ne_pgHLT q.isLt
  refine (regsBut_iff.1 (failedVerdict_regsBut s)).getF ?_
  rwa [key_div hf, List.mem_singleton]

theorem failedVerdict_last (s : State) : getF pgHLT HLT.ROT_STAT_last (failedVerdict s) = 3 := by
  rw [failedVerdict, raise_getF _ _ _ _ (by decide) (by decide) (by decide) (by decide), satF, getF_setF_field _ _ _ _ _ (by decide),
    getF_setF_same]
  rfl

theorem goldenVectorDoneOp_fails (h : isF (pgENC q) ENC.ST_golden s = true) :
    goldenVectorDoneOp q false s = failedVerdict (failedRun q s) := by
  simp [goldenVectorDoneOp, h, failedVerdict, failedRun, clearedRun]

/-- a core that leaves its golden-vector run for FAULT is out of service all the time: no reader loses a source. -/
theorem failedRun_regsBut (h : act (pgENC q) s = stTEST) : State.regsBut [pgENC q, pgHLT, pgHAP] s (failedRun q s) := by
  have hrest : act (pgENC q) (clearedRun q s) ≠ stRUNNING := by
    rw [clearedRun_act, h]
    decide
  exact ((clearedRun_regsBut q s).mono (by simp)).trans ((toFault_regsBut_of_rest hrest).mono (by simp))

/-- where no logical core is absent, a core that passes is the spare. -/
theorem goldenVectorDoneOp_passes (h : isF (pgENC q) ENC.ST_golden s = true) (habsent : getF pgHLT HLT.ABSENT_logical s = 0) :
    goldenVectorDoneOp q true s = setAct (pgENC q) stIDLE 0 (setF (pgENC q) ENC.ST_spare 1 (setF (pgENC q) ENC.ST_golden 0 s)) := by
  have hnone : (List.range 16).find? (fun l => (getF pgHLT HLT.ABSENT_logical s).testBit l) = none := by
    simp [habsent]
  simp [goldenVectorDoneOp, h, offerCore, hnone]

end

/-- Settles O19: what follows a core's fault leaves its page as the fault made it (`coreFaultOp_shows`), an overdue row is such a fault
at its time, and the golden vectors end as `goldenVectorDoneOp_fails` and `goldenVectorDoneOp_passes` say. -/
theorem encodeCoreFaults : Obligations.EncodeCoreFaults := by
  refine ⟨fun core stateError s hphase hspare hact => ?_, fun ch r col core s hphase hrow hcol hcore hspare hact => ?_,
    fun core s hgolden hact => ⟨?_, fun habsent => ?_⟩⟩
  · refine ⟨_, rfl, ?_⟩
    have hreason : (if stateError then 8 else 7) < 256 := by split <;> decide
    exact coreFaultOp_shows hphase hspare hact hreason
  · obtain ⟨t, hop⟩ : ∃ t, overdueRowOp ch.val s = coreFaultOp core 7 (reachNs t s) := by
      unfold overdueRowOp
      simp only [hrow, hcol, hcore]
      exact ⟨_, rfl⟩
    have hact' : act (pgENC core) (reachNs t s) ∈ [stIDLE, stRUNNING, stTEST] := by rwa [act_congr (reachNs_regs t s)]
    obtain ⟨hfault, hreason, -, -⟩ := coreFaultOp_shows (reason := 7) (by rw [reachNs_rot, hphase])
      (by rwa [mismatchNow_reachNs, reachNs_rot]) hact' (by decide)
    exact ⟨_, congrArg Host.Outcome.next hop, hfault, hreason⟩
  · have hgoes : act (pgENC core) (clearedRun core s) ≠ stFAULT := by
      rw [clearedRun_act, hact]
      decide
    refine ⟨_, congrArg Host.Outcome.next (goldenVectorDoneOp_fails hgolden), ?_, ?_, ?_, failedVerdict_last _, raise_event _ _ _,
      (failedRun_regsBut hact).trans ((failedVerdict_regsBut _).mono (by simp))⟩
    · exact (failedVerdict_getF _ (by decide) _).trans toFault_act
    · exact (failedVerdict_getF _ (by decide) _).trans (toFault_reason hgoes (by decide))
    · exact isF_of_zero ((failedVerdict_getF _ (by decide) _).trans ((toFault_status (by decide)).trans (clearedRun_golden _ _)))
  · refine ⟨_, congrArg Host.Outcome.next (goldenVectorDoneOp_passes hgolden habsent), setAct_act (by decide), ?_, ?_⟩
    · exact congrArg (· == 1) ((setAct_status (f := ENC.ST_spare) (by decide)).trans (getF_setF_same _ _ _ _))
    · refine isF_of_zero ((setAct_status (by decide)).trans ?_)
      exact (getF_setF_field _ _ _ _ _ (by decide)).trans (getF_setF_same _ _ _ _)

end Sys2Proof.Machine
end

section
/-! # What follows a slice's close leaves its figures (R36, R60, R66)

Once a slice has closed, nothing of what the device then does with it — the core's counts, the picture's end, a step of the rotation, the
twin, copy-out — counts another slice as coded, overrun or without source, or takes back the event of an overrun or of a source that is
gone: `Tallies`. As for `Calm`, each operation `f` has one lemma `f_tallies`, whose proof is the body of `f` with each operation replaced
by its lemma. -/

namespace Sys2Proof.Machine

/-- the counts of slices coded, of overruns, and of re-codes whose source is gone. -/
def tallyFields : List Fld := [OUT.C_coded, OUT.C_overrun, OUT.C_src_gone]

/-- the places of these counts and of the events of an overrun (0) and of a gone source (3). -/
def tallyPlaces : List Nat := (tallyFields ++ [HDR.EVENT 0, HDR.EVENT 3]).map Fld.loc

/-- From `s` to `t` no count of `tallyFields` changes on any page, and the two events stay set where they are. -/
structure Tallies (s t : State) : Prop where
  counts : WritesIn (OffPlaces (tallyFields.map Fld.loc)) s t
  events : ∀ p, ∀ k ∈ [0, 3], getF p (HDR.EVENT k) s = 1 → getF p (HDR.EVENT k) t = 1

section
variable {a s t : State}

theorem Tallies.refl (s : State) : Tallies s s := ⟨.refl s, fun _ _ _ h => h⟩

theorem Tallies.trans {u : State} (h : Tallies s t) (k : Tallies t u) : Tallies s u :=
  ⟨h.counts.trans k.counts, fun p n hn hs => k.events p n hn (h.events p n hn hs)⟩

theorem Tallies.ite {c : Prop} [Decidable c] (h : Tallies a s) (k : Tallies a t) : Tallies a (if c then s else t) := by
  split <;> assumption

theorem Tallies.foldl {α : Type} {g : State → α → State} {l : List α} (hg : ∀ u, ∀ x ∈ l, Tallies a u → Tallies a (g u x))
    (h : Tallies a s) : Tallies a (l.foldl g s) :=
  List.foldlRecOn (motive := Tallies a) l g h fun u hu x hx => hg u x hx hu

theorem Tallies.count (h : Tallies s t) {p : Nat} {f : Fld} (hf : f ∈ tallyFields) : getF p f t = getF p f s := by
  have hlow : f.loc < 2 ^ 20 := by revert f; decide
  exact h.counts.getF (not_offPlaces hlow (List.mem_map_of_mem hf))

/-- an operation that writes neither the counts nor the events. -/
theorem Tallies.of_writesIn (h : Tallies a s) (hw : WritesIn (OffPlaces tallyPlaces) s t) : Tallies a t := by
  have hcounts : ∀ n ∈ tallyFields.map Fld.loc, n ∈ tallyPlaces := by decide
  have hevents : ∀ k ∈ [0, 3], (HDR.EVENT k).loc < 2 ^ 20 ∧ (HDR.EVENT k).loc ∈ tallyPlaces := by decide
  refine h.trans ⟨hw.mono fun _ hk hm => hk (hcounts _ hm), fun p k hk hs => ?_⟩
  obtain ⟨hlow, hmem⟩ := hevents k hk
  exact (hw.getF (not_offPlaces hlow hmem)).trans hs

/-- an update that leaves the registers alone. -/
theorem Tallies.frame (h : Tallies a s) (e : t.regs = s.regs) : Tallies a t := h.of_writesIn (.of_eq e)

/-! ## The shared operations -/

theorem setF_tallies (h : Tallies a s) (p : Nat) (f : Fld) (v : Nat) (hf : f.loc < 2 ^ 20 ∧ f.loc ∉ tallyPlaces := by decide) :
    Tallies a (setF p f v s) := h.of_writesIn (setF_writesIn (offPlaces_of hf.1 hf.2))

theorem addF_tallies (h : Tallies a s) (p : Nat) (f : Fld) (n : Nat) (hf : f.loc < 2 ^ 20 ∧ f.loc ∉ tallyPlaces := by decide) :
    Tallies a (addF p f n s) := setF_tallies h p f _ hf

theorem subF_tallies (h : Tallies a s) (p : Nat) (f : Fld) (n : Nat) (hf : f.loc < 2 ^ 20 ∧ f.loc ∉ tallyPlaces := by decide) :
    Tallies a (subF p f n s) := setF_tallies h p f _ hf

theorem eventFields_offTallies : ∀ k < 32, ∀ f ∈ eventFields k, f.loc ∉ tallyFields.map Fld.loc := by decide

/-- an event's own places besides its bit. -/
theorem latchFirst_tallies (h : Tallies a s) (p k : Nat) : Tallies a (latchFirst p k s) :=
  .ite h (setF_tallies (setF_tallies (setF_tallies h _ _ _) _ _ _) _ _ _)

/-- an event that is raised takes none back. -/
theorem raise_tallies (h : Tallies a s) (p k : Nat) (hk : k < 32 := by decide) : Tallies a (raise p k s) := by
  have hset : Tallies a (setF p (HDR.EVENT k) 1 (latchFirst p k s)) := by
    refine (latchFirst_tallies h p k).trans ⟨setF_writesIn (offPlaces_of ?_ ?_), fun _ _ _ => event_stays⟩
    · exact eventFields_loc hk _ List.mem_cons_self
    · exact eventFields_offTallies k hk _ List.mem_cons_self
  exact .ite (hset.frame (by rfl)) hset

theorem raiseIf_tallies (h : Tallies a s) (c : Bool) (p k : Nat) (hk : k < 32 := by decide) : Tallies a (raiseIf c p k s) :=
  .ite (raise_tallies h p k hk) h

theorem enterAct_tallies (h : Tallies a s) (p st r : Nat) : Tallies a (enterAct p st r s) := by
  have hfields : ∀ f ∈ actFields, f.loc < 2 ^ 20 ∧ f.loc ∉ tallyPlaces := by decide
  exact h.of_writesIn (enterAct_writesIn fun f hf => offPlaces_of (hfields f hf).1 (hfields f hf).2)

theorem setAct_tallies (h : Tallies a s) (p st r : Nat) : Tallies a (setAct p st r s) := by
  by_cases hst : act p s = st
  · rw [setAct_of_eq hst]
    exact .ite h (setF_tallies h _ _ _)
  · have hleave : Tallies a (leaveAct p st r s) :=
      .ite (.foldl (fun _ _ _ hu => raiseIf_tallies hu _ _ _) (enterAct_tallies h p st r)) (enterAct_tallies h p st r)
    rw [setAct_of_ne hst]
    exact .ite hleave (hleave.of_writesIn (watLeave_writesIn (offPlaces_of (by decide) (by decide))))

theorem followWork_tallies (h : Tallies a s) (p : Nat) (busy gated : Bool) : Tallies a (followWork p busy gated s) :=
  .ite (.ite (setAct_tallies h _ _ _) h) (.ite (setAct_tallies h _ _ _) h)

theorem rclTakeGen_tallies (h : Tallies a s) : Tallies a (takeGen pgRCL s) := by
  have hrows : ∀ f ∈ rwcRows pgRCL ++ HDR.gen_applied :: eventFields 30, f.loc < 2 ^ 20 ∧ f.loc ∉ tallyPlaces := by decide
  have hkey : ∀ f ∈ rwcRows pgRCL ++ HDR.gen_applied :: eventFields 30, OffPlaces tallyPlaces (f.key pgRCL) := fun f hf =>
    offPlaces_of (hrows f hf).1 (hrows f hf).2
  exact h.of_writesIn (takeGen_writesIn (fun f hf => hkey f (List.mem_append_left _ hf)) (hkey _ (by simp))
    fun f hf => hkey f (List.mem_append_right _ (List.mem_cons_of_mem _ hf)))

theorem encRefresh_tallies (h : Tallies a s) (q : Nat) : Tallies a (encRefresh q s) := followWork_tallies h _ _ _

theorem rclRefresh_tallies (h : Tallies a s) : Tallies a (rclRefresh s) :=
  .ite (rclTakeGen_tallies (setAct_tallies h _ _ _)) (setAct_tallies h _ _ _)

theorem echRefresh_tallies (h : Tallies a s) : Tallies a (echRefresh s) :=
  .foldl (fun _ _ _ hu => followWork_tallies hu _ _ _) (rclRefresh_tallies (.foldl (fun _ _ _ hu => encRefresh_tallies hu _) h))

/-! ## Counts of a channel and messages to its twin (R149, R241, R250) -/

theorem countTokens_tallies (h : Tallies a s) (c x : Nat) (own group : Fld)
    (hown : own.loc < 2 ^ 20 ∧ own.loc ∉ tallyPlaces := by decide)
    (hgroup : group.loc < 2 ^ 20 ∧ group.loc ∉ tallyPlaces := by decide) : Tallies a (countTokens c x own group s) :=
  .ite (addF_tallies (addF_tallies h _ _ _ hown) _ _ _ hgroup) (addF_tallies h _ _ _ hown)

theorem lapse_tallies (h : Tallies a s) (c x : Nat) : Tallies a (lapse c x s) :=
  raiseIf_tallies (countTokens_tallies h _ _ _ _) _ _ _

theorem twinSend_tallies (h : Tallies a s) (kind flags ch row pic : Nat) (body : List Byte) :
    Tallies a (twinSend kind flags ch row pic body s) := by
  have hout : ∀ j m, Tallies a (emit .twin j m s) := fun _ _ => h.frame (by rfl)
  exact .ite (hout _ _) (.ite (raise_tallies (addF_tallies (hout _ _) _ _ _) _ _) (h.frame (by rfl)))

theorem setJoin_tallies (h : Tallies a s) (c : Nat) (j : Join) : Tallies a (setJoin c j s) :=
  setF_tallies (setF_tallies (setF_tallies (h.frame (by rfl)) _ _ _) _ _ _) _ _ _

theorem withhold_tallies (h : Tallies a s) (c : Nat) (e : RingEntry) : Tallies a (withhold c e s) :=
  (addF_tallies (subF_tallies h (pgOUT c) OUT.C_pending 1) (pgOUT c) OUT.C_withheld 1).frame (by rfl)

theorem muteChannel_tallies (h : Tallies a s) (c reason : Nat) (j : Join) : Tallies a (muteChannel c reason j s) := by
  unfold muteChannel
  extract_lets +onlyGivenNames p s1 left s2
  have h1 : Tallies a s1 := .foldl (fun _ _ _ hu => .ite hu (withhold_tallies hu _ _)) h
  have h2 : Tallies a s2 := setF_tallies (setF_tallies (h1.frame (by rfl)) _ _ _) _ _ _
  have hframe : ∀ {u}, Tallies a u → ∀ f g, Tallies a (modTwn f (modOut c g u)) := fun hu _ _ => hu.frame rfl
  have h3 := hframe (lapse_tallies h2 c left)
  exact echRefresh_tallies (raise_tallies (setJoin_tallies (setAct_tallies (h3 _ _) _ _ _) _ _) _ _)

theorem diverge_tallies (h : Tallies a s) (c : Nat) : Tallies a (diverge c s) :=
  raise_tallies (addF_tallies (twinSend_tallies (muteChannel_tallies h _ _ _) _ _ _ _ _ _) _ _ _) _ _

theorem settleJoin_tallies (h : Tallies a s) (c : Nat) : Tallies a (settleJoin c s) :=
  .ite (echRefresh_tallies (addF_tallies (raise_tallies (setAct_tallies (setJoin_tallies h _ _) _ _ _) _ _) _ _ _)) h

theorem comparePics_tallies (h : Tallies a s) (c n : Nat) : Tallies a (comparePics c n s) :=
  .ite (.ite (diverge_tallies h _) h) (.ite (settleJoin_tallies (h.frame (by rfl)) _) h)

theorem twinSlice_tallies (h : Tallies a s) (c col : Nat) (r : EchRow) (e : RingEntry) (replace : Bool) :
    Tallies a (twinSlice c col r e replace s) := by
  unfold twinSlice
  extract_lets +onlyGivenNames lastRow
  split
  · extract_lets +onlyGivenNames s1 s2
    have h1 : Tallies a s1 := .ite h (twinSend_tallies h _ _ _ _ _ _)
    have h2 : Tallies a s2 := .ite (twinSend_tallies h1 _ _ _ _ _ _) h1
    split
    · exact .ite (twinSend_tallies (h2.frame (by rfl)) _ _ _ _ _ _) h2
    · exact h2
  · split
    · extract_lets +onlyGivenNames s1
      have h1 : Tallies a s1 := .ite (comparePics_tallies (h.frame (by rfl)) _ _) h
      split
      · exact .ite (diverge_tallies h1 _) h1
      · exact h1
    · exact h

/-! ## The core that coded the slice, and the rotation (R138, R145) -/

theorem coreCounts_tallies (h : Tallies a s) (c col : Nat) (run : SliceRun) (r : EchRow) : Tallies a (coreCounts c col run r s) := by
  unfold coreCounts
  split
  · exact h
  · extract_lets +onlyGivenNames p t s1
    have h1 : Tallies a s1 := addF_tallies (addF_tallies (raiseIf_tallies h _ _ _) _ _ _) _ _ _
    exact .ite (raise_tallies (addF_tallies h1 _ _ _) _ _) (setF_tallies h1 _ _ _)

theorem pictureCompletes_tallies (h : Tallies a s) (c n : Nat) : Tallies a (pictureCompletes c n s) := by
  have hpics : ∀ f m, Tallies a (addF (pgECH c) ECH.PICS_pictures m (modEch c f s)) := fun _ _ =>
    addF_tallies (h.frame (by rfl)) _ _ _
  exact .ite (hpics _ _) ((hpics _ _).frame (doneWith_regs _ _ _ _))

theorem rowCompletes_tallies (h : Tallies a s) (c : Nat) (r : EchRow) : Tallies a (rowCompletes c r s) := by
  unfold rowCompletes
  extract_lets +onlyGivenNames p fl s1 s2
  have h1 : Tallies a s1 := setF_tallies (addF_tallies h _ _ _) _ _ _
  have h2 : Tallies a s2 := .ite (raiseIf_tallies (addF_tallies h1 _ _ _) _ _ _) h1
  exact .ite h2 (pictureCompletes_tallies h2 _ _)

theorem startGolden_tallies (h : Tallies a s) (q : Nat) : Tallies a (startGolden q s) := setAct_tallies (setF_tallies h _ _ _) _ _ _

theorem endStep_tallies (h : Tallies a s) (last : Nat) : Tallies a (endStep last s) := setF_tallies (h.frame (by rfl)) _ _ _

theorem mapCore_tallies (h : Tallies a s) (q l : Nat) : Tallies a (mapCore q l s) :=
  setF_tallies (setF_tallies (setF_tallies (setF_tallies h _ _ _) _ _ _) _ _ _) _ _ _

theorem completeStep_tallies (h : Tallies a s) : Tallies a (completeStep s) := by
  unfold completeStep
  extract_lets +onlyGivenNames l x q s1 s2 s3
  have hmoved : ∀ m, Tallies a (coreChanged m s) := fun _ => .foldl (fun _ _ _ hu => raise_tallies hu _ _) h
  have h1 : Tallies a s1 := mapCore_tallies (setF_tallies (setF_tallies (hmoved _) _ _ _) _ _ _) _ _
  have h2 : Tallies a s2 := raise_tallies (raise_tallies h1 _ _) _ _
  have h3 : Tallies a s3 := addF_tallies (setF_tallies h2 _ _ _) _ _ _
  exact endStep_tallies (encRefresh_tallies (startGolden_tallies (setAct_tallies h3 _ _ _) _) _) _

theorem finishRotation_tallies (h : Tallies a s) : Tallies a (finishRotation s) := .ite (completeStep_tallies h) h

theorem shadowCompare_tallies (h : Tallies a s) (c col : Nat) (r : EchRow) (slice : List Byte) (diff : List (Nat × Byte)) :
    Tallies a (shadowCompare c col r slice diff s) := by
  unfold shadowCompare
  extract_lets +onlyGivenNames l
  split
  · exact h
  · extract_lets +onlyGivenNames x q note s1
    have hnote : ∀ {u}, Tallies a u → ∀ pg, Tallies a (note pg u) := fun hu _ =>
      addF_tallies (raise_tallies (raise_tallies hu _ _) _ _) _ _ _
    have h1 : Tallies a s1 := hnote (hnote (endStep_tallies h _) _) _
    clear_value s1
    exact startGolden_tallies (setF_tallies (setF_tallies (h1.frame (by rfl)) _ _ _) _ _ _) _

end

section
variable {c : Fin 32} {a s : State}

/-! ## Copy-out (R185, R190 to R192) -/

/-- a packet that a leg takes concerns the cell pool, one that it drops the leg's own count and event. -/
theorem legTakes_tallies (h : Tallies a s) {leg : Nat} (hleg : leg ∈ [0, 1]) (tag : Nat) (dropping : Bool) (rtp payload : List Nat) :
    Tallies a (legTakes (pgOUT c) leg tag dropping rtp payload s) := by
  have hcommit : ∀ q k, Tallies a (commitPkt q k s) := fun q k => h.of_writesIn <| (commitPkt_writesIn q k s).mono fun _ hk => by
    have hfields : ∀ f ∈ commitFields, f.loc < 2 ^ 20 ∧ f.loc ∉ tallyPlaces := by decide
    obtain ⟨f, hf, rfl⟩ := List.mem_map.1 hk
    exact offPlaces_of (hfields f hf).1 (hfields f hf).2
  have hdrop : Tallies a (legDrops (pgOUT c) leg 1 s) := by
    have hout : pgOUT c < Block.first .snd := by simp only [pgOUT, Block.first]; omega
    have hplaces : ∀ leg ∈ [0, 1], 5 + leg < 32 ∧ (if leg = 0 then OUT.C_leg_drop_a else OUT.C_leg_drop_b).loc < 2 ^ 20 ∧
        (if leg = 0 then OUT.C_leg_drop_a else OUT.C_leg_drop_b).loc ∉ tallyPlaces := by decide
    obtain ⟨hevent, hcount⟩ := hplaces leg hleg
    rw [legDrops, if_pos hout]
    exact raise_tallies (addF_tallies h _ _ _ hcount) _ _ hevent
  exact .ite h (.ite hdrop (.ite (hcommit _ _) (h.frame (by rfl))))

theorem queuePacket_tallies (h : Tallies a s) (tag : Nat) (marker : Bool) (pt ts : Nat) (payload : List Nat) :
    Tallies a (queuePacket c tag marker pt ts payload s) :=
  .frame (.foldl (fun _ _ hleg hu => legTakes_tallies hu hleg _ _ _ _) h) (by rfl)

theorem tsSend_tallies (h : Tallies a s) (tag ts pid : Nat) (start : Bool) (pcr : Option Nat) (l : List Nat) :
    Tallies a (tsSend c tag ts pid start pcr l s) :=
  .ite (h.frame (by rfl)) (queuePacket_tallies (h.frame (by rfl)) _ _ _ _ _)

theorem tsData_tallies (h : Tallies a s) (tag ts pid : Nat) (start : Bool) (pcr : Option Nat) (l : List Nat) :
    Tallies a (tsData c tag ts pid start pcr l s) :=
  .foldl (fun _ _ _ hu => tsSend_tallies hu _ _ _ _ _ _) (tsSend_tallies h _ _ _ _ _ _)

theorem tsAudio_tallies (h : Tallies a s) (tag n ts pts : Nat) : Tallies a (tsAudio c tag n ts pts s) :=
  .ite h (.foldl (fun _ _ _ hu => tsData_tallies hu _ _ _ _ _ _) h)

theorem tsSlice_tallies (h : Tallies a s) (tag : Nat) (e : RingEntry) : Tallies a (tsSlice c tag e s) := by
  unfold tsSlice
  extract_lets +onlyGivenNames p vvc video x pts due s1
  have h1 : Tallies a s1 := .ite (tsSend_tallies (tsSend_tallies (h.frame (by rfl)) _ _ _ _ _ _) _ _ _ _ _ _) h
  exact .ite (tsAudio_tallies (tsData_tallies h1 _ _ _ _ _ _) _ _ _ _) (tsData_tallies h1 _ _ _ _ _ _)

theorem sendSlice_tallies (h : Tallies a s) (tag : Nat) (ends : Bool) (e : RingEntry) : Tallies a (sendSlice c tag ends e s) :=
  .ite (tsSlice_tallies h _ _) (.foldl (fun _ _ _ hu => queuePacket_tallies hu _ _ _ _ _) h)

theorem sendFiller_tallies (h : Tallies a s) (tag : Nat) (ends : Bool) (f : Filler) : Tallies a (sendFiller c tag ends f s) :=
  .ite (tsData_tallies h _ _ _ _ _ _) (.foldl (fun _ _ _ hu => queuePacket_tallies hu _ _ _ _ _) h)

theorem copyOut_tallies (h : Tallies a s) (e : RingEntry) : Tallies a (copyOut c e s) := by
  have hsent : ∀ tag ends f, Tallies a (sendSlice c tag ends e (modOut c f s)) := fun _ _ _ =>
    sendSlice_tallies (h.frame (by rfl)) _ _ _
  have hevents : ∀ n tag ends f g seqNo, Tallies a
      (raiseIf n (pgOUT c) 6 (raiseIf n (pgOUT c) 5 (modEntry c seqNo g (sendSlice c tag ends e (modOut c f s))))) := fun _ _ _ _ _ _ =>
    raiseIf_tallies (raiseIf_tallies ((hsent _ _ _).frame (by rfl)) _ _ _) _ _ _
  exact .foldl (fun _ _ _ hu => hu.frame (by rfl)) (hevents _ _ _ _ _ _)

theorem sendFillers_tallies (h : Tallies a s) (sent : Bool) : Tallies a (sendFillers c sent s) :=
  .foldl (fun _ _ _ hu => .ite (sendFiller_tallies (hu.frame (by rfl)) _ _ _) (hu.frame (by rfl))) h

theorem checkOnly_tallies (h : Tallies a s) (bad : Bool) : Tallies a (checkOnly c bad s) :=
  .ite (raise_tallies (addF_tallies h _ _ _) _ _) h

theorem leadCopy_tallies (h : Tallies a s) (rd : ReadBack) (e : RingEntry) : Tallies a (leadCopy c rd e s).2 := by
  unfold leadCopy
  extract_lets +onlyGivenNames p ring table
  split
  · dsimp only
    exact copyOut_tallies (checkOnly_tallies (.ite h (h.frame (by rfl))) _) _
  · dsimp only
    exact raise_tallies (addF_tallies (addF_tallies (subF_tallies (h.frame (by rfl)) _ _ _) _ _ _) _ _ _) _ _

theorem followerCopy_tallies (h : Tallies a s) (rd : ReadBack) (e : RingEntry) : Tallies a (followerCopy c rd e s).2 := by
  unfold followerCopy
  extract_lets +onlyGivenNames p
  split
  · split
    · exact withhold_tallies h _ _
    · exact h.frame (by rfl)
  · extract_lets +onlyGivenNames s1
    have h1 : Tallies a s1 := h.frame (by rfl)
    split
    · exact withhold_tallies h1 _ _
    · split
      · dsimp only
        exact copyOut_tallies (checkOnly_tallies h1 _) _
      · split
        · dsimp only
          exact raise_tallies (addF_tallies (withhold_tallies h1 _ _) _ _ _) _ _
        · dsimp only
          exact diverge_tallies h1 _

theorem copyEntry_tallies (h : Tallies a s) (rd : ReadBack) (e : RingEntry) : Tallies a (copyEntry c rd e s).2 := by
  unfold copyEntry
  split
  · exact followerCopy_tallies h _ _
  · exact leadCopy_tallies h _ _

theorem copyRow_tallies (h : Tallies a s) (r : EchRow) (depart : Nat) (l : List (RingEntry × ReadBack)) :
    Tallies a (copyRow c r depart l s) := by
  have hcopied : ∀ n : Nat, Tallies a (l.foldl (fun (b : Nat × State) x =>
      (b.1 + (copyEntry c x.2 x.1 b.2).1.toNat, (copyEntry c x.2 x.1 b.2).2)) (n, s)).2 := fun n =>
    List.foldlRecOn (motive := fun b : Nat × State => Tallies a b.2) l _ h fun _ hb _ _ => copyEntry_tallies hb _ _
  exact .ite (sendFillers_tallies (hcopied _) _) ((sendFillers_tallies (hcopied _) _).frame (by rfl))

theorem storeCtus_regs (c col : Nat) (r : EchRow) (code : SliceCode) (s : State) : (storeCtus c col r code s).regs = s.regs := rfl

/-- All that an entry's close sets going, once the entry stands in its segment. -/
theorem slotSlice_tallies (col kind depart : Nat) (z : SliceOf) (run : SliceRun) (r : EchRow) (s : State) :
    Tallies (closeSlice c (sliceEntry c col kind z.charge depart r z.nals s) s) (slotSlice c col kind depart z run r s) := by
  unfold slotSlice
  extract_lets +onlyGivenNames e s1 excess r1 s2 s3 s4
  have hstored : ∀ code, Tallies (closeSlice c e s) (storeCtus c col r code (closeSlice c e s)) := fun _ =>
    .frame (.refl _) (storeCtus_regs _ _ _ _ _)
  have h1 : Tallies (closeSlice c e s) s1 := countTokens_tallies (coreCounts_tallies (hstored _) _ _ _ _) _ _ _ _
  clear_value s1
  have h2 : Tallies (closeSlice c e s) s2 := h1.frame rfl
  have h3 : Tallies (closeSlice c e s) s3 := .ite (rowCompletes_tallies h2 _ _) h2
  have h4 : Tallies (closeSlice c e s) s4 :=
    finishRotation_tallies (shadowCompare_tallies (twinSlice_tallies h3 _ _ _ _ _) _ _ _ _ _)
  exact .ite (copyRow_tallies h4 _ _ _) h4

end

end Sys2Proof.Machine
end

section
/-! # Slices into the ring: closes, stalls, overruns and re-codes (R180 to R186) -/

namespace Sys2Proof.Machine

section
variable {c : Fin 32} {col : Nat} {s t : State}

/-! ## What a command reads of its page and segment -/

theorem segOf_congr (c col : Nat) (h : t.outs = s.outs) : segOf c col t = segOf c col s := by
  unfold segOf outOf
  rw [h]

theorem segOf_modSeg (c col : Nat) (f : Seg → Seg) (s : State) : segOf c col (modSeg c col f s) = f (segOf c col s) := by
  simp [segOf, outOf, modSeg, modOut, modAt, SMap.get_put]

theorem smallRing_congr (c : Nat) (h : t.regs = s.regs) : smallRing c t = smallRing c s := by
  have hseg : segBytes getF c t = segBytes getF c s := by simp only [segBytes, colCount, getF_congr _ _ s t h]
  have hcap : sliceCap getF c t = sliceCap getF c s := by simp only [sliceCap, getF_congr _ _ s t h]
  rw [smallRing, smallRing, hseg, hcap]

theorem outBoundary_settled (h : pendingGen (pgOUT c) s = false) : outBoundary c s = s := by
  simp [outBoundary, h]

/-! ## The core's work on the slice (R118, R127) -/

theorem finishJob_frame (ch q n k stall : Nat) (s : State) :
    (finishJob ch q n k stall s).regs = s.regs ∧ (finishJob ch q n k stall s).outs = s.outs := by
  unfold finishJob
  extract_lets j d s1
  split
  · rw [reachNs_frame]
    exact ⟨rfl, rfl⟩
  · exact ⟨rfl, rfl⟩

theorem finishSlice_frame (c col stall : Nat) (r : EchRow) (s : State) :
    (finishSlice c col stall r s).regs = s.regs ∧ (finishSlice c col stall r s).outs = s.outs := by
  unfold finishSlice
  split
  · exact ⟨rfl, rfl⟩
  · exact finishJob_frame _ _ _ _ _ s

/-! ## SLICE_CLOSE (R180 to R184) -/

/-- What becomes of the slice of an open row once its core is done, at `u`: it waits for its overrun, stalls the core, or closes. -/
theorem sliceCloseOp_open {run : SliceRun} {r : EchRow} {u : State} (hrow : openRow c col s = some r)
    (hgen : pendingGen (pgOUT c) s = false) (hcol : col < colCount getF c s) (hgo : (segOf c col s).stalled = none)
    (hu : u = finishSlice c col run.stall r s) :
    sliceCloseOp c col run s =
      if segBytes getF c u ≤ entryBytes (codeSlice c col r u).nals ∧ (segOf c col u).used = 0 then u
      else if segFull c col (entryBytes (codeSlice c col r u).nals) u || tableFull c u then
        stallSeg c col (entryBytes (codeSlice c col r u).nals) u
      else slotSlice c col (codeSlice c col r u).code.floor.toNat r.depart (codeSlice c col r u) run r u := by
  have hgoes : ¬ (colCount getF c s ≤ col ∨ (segOf c col s).stalled.isSome = true) := by
    rw [hgo]
    simp only [Option.isSome_none, Bool.false_eq_true, or_false, not_le]
    exact hcol
  have hseg : segOf c col u = segOf c col s := segOf_congr _ _ (hu ▸ (finishSlice_frame _ _ _ _ _).2)
  unfold sliceCloseOp
  simp only [hrow]
  rw [if_neg hgoes, outBoundary_settled hgen, ← hu, hseg]

/-- what a stall does: the segment takes the time of it and what there is room for, and BP_EVENTS and EVENT bit 4 say so (R182). -/
theorem stallSeg_spec (len : Nat) (s : State) :
    (segOf c col (stallSeg c col len s)).stalled = some s.clk ∧
      getF (pgOUT c) OUT.C_coded (stallSeg c col len s) = getF (pgOUT c) OUT.C_coded s ∧
      getF (pgOUT c) OUT.C_bp_events (stallSeg c col len s) =
        (getF (pgOUT c) OUT.C_bp_events s + 1) % 2 ^ OUT.C_bp_events.width ∧
      getF (pgOUT c) (HDR.EVENT 4) (stallSeg c col len s) = 1 ∧ State.regsBut [pgOUT c] s (stallSeg c col len s) := by
  obtain ⟨f, hf, hop⟩ : ∃ f : Seg → Seg, (∀ g, (f g).stalled = some s.clk) ∧
      stallSeg c col len s = addF (pgOUT c) OUT.C_bp_events 1 (raise (pgOUT c) 4 (modSeg c col f s)) := ⟨_, fun _ => rfl, rfl⟩
  have hregs : State.regsBut [pgOUT c] s (modSeg c col f s) := .of_eq rfl
  have hraise : ∀ g : Fld, g.loc ∉ (eventFields 4).map Fld.loc →
      getF (pgOUT c) g (raise (pgOUT c) 4 (modSeg c col f s)) = getF (pgOUT c) g s := fun g hg =>
    (raise_atFields (List.Subset.refl _) _).getF (not_atFields hg)
  rw [hop]
  refine ⟨?_, ?_, ?_, ?_, (hregs.trans (raise_regsBut _ _ _ (by decide))).trans (addF_regsBut _ _ _ _ (by decide))⟩
  · rw [segOf_congr (s := modSeg c col f s) _ _ (by rw [addF_outs, raise_outs]), segOf_modSeg, hf]
  · rw [getF_addF_field _ _ _ _ _ (by decide), hraise _ (by decide)]
  · rw [getF_addF_same, hraise _ (by decide)]
  · rw [getF_addF_field _ _ _ _ _ (by decide), raise_event]

/-- what an entry's close writes of registers: slice_seq, CODED and PENDING (R36, R180). -/
theorem closeSlice_writesIn (e : RingEntry) (s : State) :
    WritesIn (AtFields (pgOUT c) [OUT.SLICE_SEQ_next, OUT.C_coded, OUT.C_pending]) s (closeSlice c e s) := by
  have hring : ∀ f g, WritesIn (AtFields (pgOUT c) [OUT.SLICE_SEQ_next, OUT.C_coded, OUT.C_pending]) s
      (modOut c f (modSeg c e.col g s)) := fun _ _ => .of_eq rfl
  exact (((hring _ _).trans (addF_writesIn (atFields_of_mem (by simp)))).trans (addF_writesIn (atFields_of_mem (by simp)))).trans
    (addF_writesIn (atFields_of_mem (by simp)))

theorem closeSlice_coded (e : RingEntry) (s : State) :
    getF (pgOUT c) OUT.C_coded (closeSlice c e s) = (getF (pgOUT c) OUT.C_coded s + 1) % 2 ^ OUT.C_coded.width := by
  rw [closeSlice, getF_addF_field _ _ _ _ _ (by decide), getF_addF_same, getF_addF_field _ _ _ _ _ (by decide)]
  rfl

theorem slotSlice_coded (kind depart : Nat) (z : SliceOf) (run : SliceRun) (r : EchRow) (s : State) :
    getF (pgOUT c) OUT.C_coded (slotSlice c col kind depart z run r s) =
      (getF (pgOUT c) OUT.C_coded s + 1) % 2 ^ OUT.C_coded.width :=
  ((slotSlice_tallies _ _ _ _ _ _ s).count (by decide)).trans (closeSlice_coded _ _)

/-! ## RING_RESUME (R182) -/

theorem ringResumeOp_resumes {at_ : Nat} (hstall : (segOf c col s).stalled = some at_)
    (hroom : (segOf c col s).used + (segOf c col s).written (max 1 (segBytes getF c s)) < max 1 (segBytes getF c s))
    (htable : tableFull c s = false) :
    segOf c col (ringResumeOp c col s) = { segOf c col s with stalled := none } ∧ (ringResumeOp c col s).clk = s.clk := by
  have hgoes : ¬ (max 1 (segBytes getF c s) ≤ (segOf c col s).used + (segOf c col s).written (max 1 (segBytes getF c s)) ∨
      tableFull c s = true) := by
    rw [htable]
    simp only [Bool.false_eq_true, or_false, not_le]
    exact hroom
  have hseg := segOf_modSeg c col (fun g => { g with stalled := none }) s
  unfold ringResumeOp
  simp only [hstall]
  rw [if_neg hgoes]
  split
  · exact ⟨hseg, rfl⟩
  · exact ⟨(segOf_congr _ _ rfl).trans hseg, rfl⟩

/-! ## BOOKMARK_OVERRUN (R183, R187) -/

/-- an overrun in OUT's counts: the entry that vanishes counts as coded and replaced (R36). -/
def overrunCounted (c : Nat) (s : State) : State :=
  raise (pgOUT c) 0 (addF (pgOUT c) OUT.C_overrun 1 (addF (pgOUT c) OUT.C_replaced 1 (addF (pgOUT c) OUT.C_coded 1 s)))

theorem overrunCounted_overrun (s : State) :
    getF (pgOUT c) OUT.C_overrun (overrunCounted c s) = (getF (pgOUT c) OUT.C_overrun s + 1) % 2 ^ OUT.C_overrun.width := by
  rw [overrunCounted, raise_getF _ _ _ _ (by decide) (by decide) (by decide) (by decide), getF_addF_same,
    getF_addF_field _ _ _ _ _ (by decide), getF_addF_field _ _ _ _ _ (by decide)]

theorem bookmarkOverrunOp_overruns {read : ReadFault} {r : EchRow} {u : State} (hrow : openRow c col s = some r)
    (hgen : pendingGen (pgOUT c) s = false) (hu : u = finishSlice c col 0 r s) (hcol : col < colCount getF c s)
    (hsmall : smallRing c s = true) (hlen : segBytes getF c u ≤ entryBytes (codeSlice c col r u).nals)
    (hused : (segOf c col u).used = 0) :
    ∃ v depart z, v.regs = s.regs ∧
      bookmarkOverrunOp c col read s = slotSlice c col 3 depart z ⟨0, false, [], read⟩ r (overrunCounted c v) := by
  have hregs : u.regs = s.regs := hu ▸ (finishSlice_frame _ _ _ _ _).1
  have hgoes : ¬ (colCount getF c s ≤ col ∨ (!smallRing c u) = true ∨
      entryBytes (codeSlice c col r u).nals < segBytes getF c u ∨ (segOf c col u).used ≠ 0) := by
    rw [smallRing_congr _ hregs, hsmall, hused]
    simp only [Bool.not_true, Bool.false_eq_true, ne_eq, not_true_eq_false, or_false, false_or, not_or, not_le, not_lt]
    exact ⟨hcol, hlen⟩
  unfold bookmarkOverrunOp
  simp only [hrow]
  rw [outBoundary_settled hgen, ← hu, if_neg hgoes]
  refine ⟨_, _, _, ?_, rfl⟩
  split
  · exact hregs
  · exact (reachNs_regs _ _).trans hregs

/-! ## RECODE (R185 to R187) -/

theorem recodeTime_regs (c col : Nat) (s : State) : (recodeTime c col s).regs = s.regs := by
  unfold recodeTime
  split
  · rfl
  · exact reachNs_regs _ _

/-- a re-code in OUT's counts: SRC_GONE and its event where the source rows are no longer held (R186). -/
def recodeCounted (c : Nat) (gone : Bool) (s : State) : State :=
  raiseIf gone (pgOUT c) 3 (addF (pgOUT c) OUT.C_src_gone gone.toNat s)

theorem recodeCounted_getF (gone : Bool) {f : Fld} (hf : f.loc ∉ (OUT.C_src_gone :: eventFields 3).map Fld.loc) (s : State) :
    getF (pgOUT c) f (recodeCounted c gone s) = getF (pgOUT c) f s := by
  have hw : WritesIn (AtFields (pgOUT c) (OUT.C_src_gone :: eventFields 3)) s (recodeCounted c gone s) :=
    (addF_writesIn (atFields_of_mem (by simp))).trans (raiseIf_writesIn fun _ hg => atFields_of_mem (List.mem_cons_of_mem _ hg))
  exact hw.getF (not_atFields hf)

/-- a re-code without its source shows as such. -/
theorem recodeCounted_gone (s : State) :
    getF (pgOUT c) OUT.C_src_gone (recodeCounted c true s) = (getF (pgOUT c) OUT.C_src_gone s + 1) % 2 ^ OUT.C_src_gone.width ∧
      getF (pgOUT c) (HDR.EVENT 3) (recodeCounted c true s) = 1 := by
  refine ⟨?_, raise_event _ _ _⟩
  exact (raise_getF _ _ _ _ (by decide) (by decide) (by decide) (by decide)).trans (getF_addF_same _ _ _ _)

/-- a re-code closes its entry, counts, and goes to the twin and out. -/
theorem recodeOp_tallies {read : ReadFault} {x : Recode} (hx : (outOf c s).recodes.find? (fun y => y.entry.col == col) = some x) :
    ∃ e u v, u.regs = s.regs ∧ v.regs = (closeSlice c e u).regs ∧
      Tallies (recodeCounted c (!sourceHeld c x.entry.pic x.entry.row (recodeTime c col s)) v) (recodeOp c col read s) := by
  obtain ⟨w, hw⟩ : ∃ w, w = recodeTime c col s := ⟨_, rfl⟩
  have hregs : ∀ f, (modOut c f w).regs = s.regs := fun _ => hw ▸ recodeTime_regs c col s
  unfold recodeOp
  simp only [hx]
  rw [← hw]
  exact ⟨_, _, _, hregs _, storeCtus_regs _ _ _ _ _, copyRow_tallies (twinSlice_tallies (.refl _) _ _ _ _ _) _ _ _⟩

end

/-- Settles O17: SLICE_CLOSE by what becomes of the slice (`sliceCloseOp_open`), and the counts by what closes the entry, since all that
follows an entry's close leaves them and their events (`slotSlice_tallies`, `recodeOp_tallies`). -/
theorem slicesIntoTheRing : Obligations.SlicesIntoTheRing := by
  refine ⟨fun ch col run r s u hrow hgen hcol hgo hu => ?_, fun ch col at_ s hstall hroom htable => ?_,
    fun ch col read r s u hrow hgen _ hu hcol hsmall hlen hused => ?_, fun ch col read x s hx _ => ?_⟩
  · have hregs : u.regs = s.regs := hu ▸ (finishSlice_frame _ _ _ _ _).1
    have hop := sliceCloseOp_open hrow hgen hcol hgo hu
    refine ⟨fun hlen hused => congrArg Host.Outcome.next (hop.trans (if_pos ⟨hlen, hused⟩)), fun hfits htable hlen => ?_,
      fun hfull hroom => ?_⟩
    · have hcloses := (hop.trans (if_neg fun hc => Nat.not_le.2 hlen hc.1)).trans (if_neg (by rw [hfits, htable]; decide))
      refine ⟨congrArg Host.Outcome.next hcloses, fun _ => ⟨_, congrArg Host.Outcome.next hcloses, ?_⟩⟩
      rw [slotSlice_coded, getF_congr _ _ _ _ hregs]
    · have hstalls := (hop.trans (if_neg fun hc => hroom.elim (Nat.not_lt.2 hc.1) fun hne => hne hc.2)).trans (if_pos hfull)
      obtain ⟨hsince, hcoded, hstopped, hbit, hpages⟩ :=
        stallSeg_spec (c := ch) (col := col) (entryBytes (codeSlice ch col r u).nals) u
      rw [getF_congr _ _ _ _ hregs] at hcoded hstopped
      exact ⟨_, congrArg Host.Outcome.next hstalls, hsince, hcoded, hstopped, hbit, (State.regsBut.of_eq hregs).trans hpages⟩
  · exact ⟨_, rfl, ringResumeOp_resumes hstall hroom htable⟩
  · obtain ⟨v, depart, z, hregs, hop⟩ := bookmarkOverrunOp_overruns (read := read) hrow hgen hu hcol hsmall hlen hused
    have hrest := slotSlice_tallies (c := ch) col 3 depart z ⟨0, false, [], read⟩ r (overrunCounted ch v)
    refine ⟨_, congrArg Host.Outcome.next hop, ?_, hrest.events _ 0 (by simp) ?_⟩
    · rw [hrest.count (by decide), (closeSlice_writesIn _ _).getF (not_atFields (by decide)), overrunCounted_overrun,
        getF_congr _ _ _ _ hregs]
    · rw [(closeSlice_writesIn _ _).getF (not_atFields (by decide))]
      exact raise_event _ _ _
  · obtain ⟨e, u, v, hu, hv, hrest⟩ := recodeOp_tallies (read := read) hx
    refine ⟨_, rfl, ?_, fun hgone => ?_⟩
    · refine (hrest.count (by decide)).trans ?_
      rw [recodeCounted_getF _ (by decide), getF_congr _ _ _ _ hv, closeSlice_coded, getF_congr _ _ _ _ hu]
    · rw [hgone] at hrest
      obtain ⟨hcount, hevent⟩ := recodeCounted_gone (c := ch) v
      refine ⟨(hrest.count (by decide)).trans ?_, hrest.events _ 3 (by simp) hevent⟩
      rw [Bool.not_false, hcount, getF_congr _ _ _ _ hv, (closeSlice_writesIn _ _).getF (not_atFields (by decide)),
        getF_congr _ _ _ _ hu]

end Sys2Proof.Machine
end

section
/-! # Messages between the two devices of a pair (R241, R242) -/

namespace Sys2Proof.Machine

/-! ## Places, whatever the page -/

/-- the keys whose place in their page is that of one of these fields. -/
def AtPlaces (l : List Fld) (k : Nat) : Prop := k % 2 ^ 20 ∈ l.map Fld.loc

theorem atPlaces_of_mem {l : List Fld} {f : Fld} (hlow : f.loc < 2 ^ 20) (h : f ∈ l) (p : Nat) : AtPlaces l (f.key p) := by
  unfold AtPlaces
  rw [key_mod hlow]
  exact List.mem_map_of_mem h

theorem not_atPlaces {l : List Fld} {f : Fld} (h : f.loc < 2 ^ 20 ∧ f.loc ∉ l.map Fld.loc) (p : Nat) : ¬ AtPlaces l (f.key p) := by
  unfold AtPlaces
  rw [key_mod h.1]
  exact h.2

/-! ## A message that has come (R242, R339) -/

/-- once a message is taken up, its frames have left the link's receiver. -/
def afterMsg (m : TwinMsg) (s : State) : State := takeMsg (getF pgTWN TWN.CFG_link s) (twinLane m.kind.toNat) s

/-- what the taking up of a message writes: the frames that its lane still holds (R338). -/
def creditFields : List Fld := [0, 1, 3].map IZL.CREDIT_held

theorem afterMsg_writesIn (m : TwinMsg) (s : State) : WritesIn (AtPlaces creditFields) s (afterMsg m s) := by
  have hlow : ∀ f ∈ creditFields, f.loc < 2 ^ 20 := by decide
  have hlane : IZL.CREDIT_held (twinLane m.kind.toNat) ∈ creditFields := by
    refine List.mem_map_of_mem ?_
    unfold twinLane
    split
    · decide
    · split <;> decide
  unfold afterMsg takeMsg
  split
  · exact .refl s
  · exact (WritesIn.of_eq rfl).trans (subF_writesIn (atPlaces_of_mem (hlow _ hlane) hlane _))

/-- beside the link's own state and its registers, the device is as it was. -/
theorem afterMsg_frame (m : TwinMsg) (s : State) :
    afterMsg m s = { s with regs := (afterMsg m s).regs, izl := (afterMsg m s).izl } := by
  unfold afterMsg takeMsg
  split <;> rfl

section
variable (m : TwinMsg) (s : State)

theorem afterMsg_getF (p : Nat) (f : Fld) (hf : f.loc < 2 ^ 20 ∧ f.loc ∉ creditFields.map Fld.loc := by decide) :
    getF p f (afterMsg m s) = getF p f s := (afterMsg_writesIn m s).getF (not_atPlaces hf p)

@[simp] theorem afterMsg_clk : (afterMsg m s).clk = s.clk := by rw [afterMsg_frame]
@[simp] theorem afterMsg_tim : (afterMsg m s).tim = s.tim := by rw [afterMsg_frame]
@[simp] theorem afterMsg_out : (afterMsg m s).out = s.out := by rw [afterMsg_frame]
@[simp] theorem afterMsg_twn : (afterMsg m s).twn = s.twn := by rw [afterMsg_frame]
@[simp] theorem afterMsg_ech : (afterMsg m s).ech = s.ech := by rw [afterMsg_frame]
@[simp] theorem afterMsg_outs : (afterMsg m s).outs = s.outs := by rw [afterMsg_frame]
@[simp] theorem afterMsg_ing : (afterMsg m s).ing = s.ing := by rw [afterMsg_frame]
@[simp] theorem afterMsg_dch : (afterMsg m s).dch = s.dch := by rw [afterMsg_frame]

theorem afterMsg_act (p : Nat) : act p (afterMsg m s) = act p s := afterMsg_getF m s p HDR.ACT_state

@[simp] theorem afterMsg_twinRole : twinRole (afterMsg m s) = twinRole s := afterMsg_getF m s pgTWN TWN.ROLE_role

@[simp] theorem afterMsg_mirrored (c : Nat) : mirrored c (afterMsg m s) = mirrored c s := by
  unfold mirrored
  rw [afterMsg_act, afterMsg_getF m s pgTWN TWN.CHANS_chans]

@[simp] theorem afterMsg_follows (c : Nat) : follows c (afterMsg m s) = follows c s := by
  unfold follows
  rw [afterMsg_twinRole, afterMsg_mirrored, afterMsg_twn]

@[simp] theorem afterMsg_leads (c : Nat) : leads c (afterMsg m s) = leads c s := by
  unfold leads
  rw [afterMsg_twinRole, afterMsg_mirrored]

@[simp] theorem afterMsg_joinOf (c : Nat) : joinOf c (afterMsg m s) = joinOf c s := by
  unfold joinOf
  rw [afterMsg_twn]

@[simp] theorem afterMsg_followsRows (c : Nat) : followsRows c (afterMsg m s) = followsRows c s := by
  unfold followsRows
  rw [afterMsg_joinOf]

@[simp] theorem afterMsg_echOf (c : Nat) : echOf c (afterMsg m s) = echOf c s := by
  unfold echOf
  rw [afterMsg_ech]

@[simp] theorem afterMsg_outOf (c : Nat) : outOf c (afterMsg m s) = outOf c s := by
  unfold outOf
  rw [afterMsg_outs]

@[simp] theorem afterMsg_entriesOf (c : Nat) : entriesOf c (afterMsg m s) = entriesOf c s := by
  unfold entriesOf
  rw [afterMsg_outOf]

/-- a message that the page takes acts on it once its frames have left the receiver. -/
theorem twinIn_takes {m : TwinMsg} {s : State} (h : State.twinTakes m s) (f : State → State) : twinIn m f s = f (afterMsg m s) := by
  obtain ⟨hrun, hepoch⟩ := h
  have hact : act pgTWN (afterMsg m s) = stRUNNING := (afterMsg_act m s _).trans hrun
  have hown : getF pgTWN TWN.EPOCH_epoch (afterMsg m s) = getF pgTWN TWN.EPOCH_epoch s := afterMsg_getF m s _ _
  have htaken : ¬ (m.epoch.toNat ≠ getF pgTWN TWN.EPOCH_epoch (afterMsg m s) ∧ (!anyEpoch m.kind.toNat) = true) := by
    rw [hown]
    rintro ⟨hother, hchecked⟩
    rcases hepoch with hsame | hany
    · exact hother hsame
    · simp [hany] at hchecked
  exact (if_neg (not_not.2 hact)).trans (if_neg htaken)

end

/-! ## A message that leaves (R241) -/

section
variable (kind flags ch row pic : Nat) (body : List Byte) (s : State)

theorem izlPost_out (j vl : Nat) (l : List Byte) : (izlPost j vl l s).out = s.out := by
  unfold izlPost
  split
  · rfl
  · split
    · rw [raise_out, addF_out]
    · rfl

theorem izlPost_twn (j vl : Nat) (l : List Byte) : (izlPost j vl l s).twn = s.twn := by
  unfold izlPost
  split
  · rfl
  · split
    · rw [raise_twn, addF_twn]
    · rfl

/-- a message that the link can carry writes no register (R340). -/
theorem izlPost_regs (j vl : Nat) (l : List Byte) (hlen : l.length ≤ 4096) : (izlPost j vl l s).regs = s.regs := by
  unfold izlPost
  split
  · rfl
  · rw [if_neg (Nat.not_lt.2 hlen)]
    rfl

@[simp] theorem twinSend_twn : (twinSend kind flags ch row pic body s).twn = s.twn := izlPost_twn _ _ _ _

/-- one message leaves on the twin link, and its first byte is its kind. -/
theorem twinSend_sends (hkind : kind < 256) :
    ∃ d, (twinSend kind flags ch row pic body s).out = s.out ++ [⟨.twin, getF pgTWN TWN.CFG_link s, d⟩] ∧ d.head? = some kind := by
  refine ⟨_, izlPost_out _ _ _ _, ?_⟩
  simp [nats, twinBytes, beBytes, Nat.mod_eq_of_lt hkind]

theorem twinBytes_length (epoch : Nat) : (twinBytes kind flags ch row epoch pic body).length = 16 + body.length := by
  simp only [twinBytes, List.length_append, beBytes_length]

theorem twinSend_regs (hlen : body.length ≤ 4080) : (twinSend kind flags ch row pic body s).regs = s.regs :=
  (izlPost_regs _ _ _ _ (by rw [twinBytes_length]; omega)).trans (emit_regs _ _ _ s)

end

end Sys2Proof.Machine
end

section
/-! # What a channel's muting, restart and copy-out leave of the pair (R235, R253, R257)

Whatever the device does with one channel of a pair — muting it, starting it afresh, sending what it holds — its role, what it shows of
the partner and the joins that failed stay, and so do the events of a dead partner and of a failed join: `PairStays`. Each operation `f`
has one lemma `f_pairStays`, whose proof is the body of `f` with each operation replaced by its lemma. -/

namespace Sys2Proof.Machine

/-- the role, what is shown of the partner, the joins that failed, and the events of a dead partner (3) and of a failed join (8). -/
def pairFields : List Fld :=
  [TWN.ROLE_role, TWN.ROLE_partner_valid, TWN.ST_link_up, TWN.C_join_fail, HDR.EVENT 3, HDR.EVENT 8]

/-- the places of these fields in their page. -/
def pairPlaces : List Nat := pairFields.map Fld.loc

/-- from `s` to `t` no field at one of these places is written, on any page. -/
def PairStays (s t : State) : Prop := WritesIn (OffPlaces pairPlaces) s t

section
variable {a s t : State}

theorem PairStays.refl (s : State) : PairStays s s := WritesIn.refl s

theorem PairStays.ite {c : Prop} [Decidable c] (h : PairStays a s) (k : PairStays a t) : PairStays a (if c then s else t) := by
  split <;> assumption

theorem PairStays.foldl {α : Type} {g : State → α → State} {l : List α} (hg : ∀ u, ∀ x ∈ l, PairStays a u → PairStays a (g u x))
    (h : PairStays a s) : PairStays a (l.foldl g s) :=
  List.foldlRecOn (motive := PairStays a) l g h fun u hu x hx => hg u x hx hu

theorem PairStays.of_writesIn (h : PairStays a s) (hw : WritesIn (OffPlaces pairPlaces) s t) : PairStays a t := h.trans hw

/-- an operation that writes some fields off these places, on whatever page. -/
theorem PairStays.of_fields {l : List Fld} (h : PairStays a s) (hw : ∀ {K : Nat → Prop}, (∀ f ∈ l, ∀ p, K (f.key p)) → WritesIn K s t)
    (hl : ∀ f ∈ l, f.loc < 2 ^ 20 ∧ f.loc ∉ pairPlaces := by decide) : PairStays a t :=
  h.of_writesIn (hw fun f hf _ => offPlaces_of (hl f hf).1 (hl f hf).2)

/-- an update that leaves the registers alone. -/
theorem PairStays.frame (h : PairStays a s) (e : t.regs = s.regs) : PairStays a t := h.of_writesIn (.of_eq e)

theorem PairStays.getF (h : PairStays s t) {f : Fld} (hf : f ∈ pairFields) (p : Nat) : getF p f t = getF p f s := by
  have hlow : f.loc < 2 ^ 20 := by revert f; decide
  exact WritesIn.getF h (not_offPlaces hlow (List.mem_map_of_mem hf))

/-! ## The shared operations -/

theorem setF_pairStays (h : PairStays a s) (p : Nat) (f : Fld) (v : Nat) (hf : f.loc < 2 ^ 20 ∧ f.loc ∉ pairPlaces := by decide) :
    PairStays a (setF p f v s) := h.of_writesIn (setF_writesIn (offPlaces_of hf.1 hf.2))

theorem addF_pairStays (h : PairStays a s) (p : Nat) (f : Fld) (n : Nat) (hf : f.loc < 2 ^ 20 ∧ f.loc ∉ pairPlaces := by decide) :
    PairStays a (addF p f n s) := setF_pairStays h p f _ hf

theorem subF_pairStays (h : PairStays a s) (p : Nat) (f : Fld) (n : Nat) (hf : f.loc < 2 ^ 20 ∧ f.loc ∉ pairPlaces := by decide) :
    PairStays a (subF p f n s) := setF_pairStays h p f _ hf

theorem raise_pairStays (h : PairStays a s) (p k : Nat) (hk : ∀ f ∈ eventFields k, f.loc < 2 ^ 20 ∧ f.loc ∉ pairPlaces := by decide) :
    PairStays a (raise p k s) := h.of_fields (fun hK => raise_writesIn fun f hf => hK f hf p) hk

theorem raiseIf_pairStays (h : PairStays a s) (c : Bool) (p k : Nat)
    (hk : ∀ f ∈ eventFields k, f.loc < 2 ^ 20 ∧ f.loc ∉ pairPlaces := by decide) : PairStays a (raiseIf c p k s) :=
  .ite (raise_pairStays h p k hk) h

theorem setAct_pairStays (h : PairStays a s) (p st r : Nat) : PairStays a (setAct p st r s) :=
  h.of_fields (l := HAP.WAT_PENDING_count :: eventFields 0 ++ actFields) fun hK =>
    setAct_writesIn (fun f hf => hK f (List.mem_append_right _ hf) p) (hK _ List.mem_cons_self _)
      fun _ _ f hf => hK f (List.mem_append_left _ (List.mem_cons_of_mem _ hf)) _

theorem followWork_pairStays (h : PairStays a s) (p : Nat) (busy gated : Bool) : PairStays a (followWork p busy gated s) :=
  .ite (.ite (setAct_pairStays h _ _ _) h) (.ite (setAct_pairStays h _ _ _) h)

theorem rclTakeGen_pairStays (h : PairStays a s) : PairStays a (takeGen pgRCL s) :=
  h.of_fields (l := HDR.gen_applied :: eventFields 30 ++ rwcRows pgRCL) fun hK =>
    takeGen_writesIn (fun f hf => hK f (List.mem_append_right _ hf) _) (hK _ List.mem_cons_self _)
      fun f hf => hK f (List.mem_append_left _ (List.mem_cons_of_mem _ hf)) _

theorem echRefresh_pairStays (h : PairStays a s) : PairStays a (echRefresh s) := by
  have hencs : PairStays a ((List.range 17).foldl (fun u p => encRefresh p u) s) :=
    .foldl (fun _ _ _ hu => followWork_pairStays hu _ _ _) h
  have hrcl : ∀ {u}, PairStays a u → PairStays a (rclRefresh u) := fun hu =>
    .ite (rclTakeGen_pairStays (setAct_pairStays hu _ _ _)) (setAct_pairStays hu _ _ _)
  exact .foldl (fun _ _ _ hu => followWork_pairStays hu _ _ _) (hrcl hencs)

/-! ## A channel is muted (R24, R251) -/

theorem lapse_pairStays (h : PairStays a s) (c x : Nat) : PairStays a (lapse c x s) :=
  raiseIf_pairStays (.ite (addF_pairStays (addF_pairStays h _ _ _) _ _ _) (addF_pairStays h _ _ _)) _ _ _

theorem twinSend_pairStays (h : PairStays a s) (kind flags ch row pic : Nat) (body : List Byte) :
    PairStays a (twinSend kind flags ch row pic body s) := by
  have hout : ∀ j m, PairStays a (emit .twin j m s) := fun _ _ => h.frame (by rfl)
  exact .ite (hout _ _) (.ite (raise_pairStays (addF_pairStays (hout _ _) _ _ _) _ _) (h.frame (by rfl)))

theorem showJoins_pairStays (h : PairStays a s) : PairStays a (showJoins s) :=
  setF_pairStays (setF_pairStays (setF_pairStays h _ _ _) _ _ _) _ _ _

theorem setJoin_pairStays (h : PairStays a s) (c : Nat) (j : Join) : PairStays a (setJoin c j s) := showJoins_pairStays (h.frame (by rfl))

theorem dropJoin_pairStays (h : PairStays a s) (c : Nat) : PairStays a (dropJoin c s) := showJoins_pairStays (h.frame (by rfl))

theorem withhold_pairStays (h : PairStays a s) (c : Nat) (e : RingEntry) : PairStays a (withhold c e s) :=
  (addF_pairStays (subF_pairStays h (pgOUT c) OUT.C_pending 1) (pgOUT c) OUT.C_withheld 1).frame (by rfl)

theorem muteChannel_pairStays (h : PairStays a s) (c reason : Nat) (j : Join) : PairStays a (muteChannel c reason j s) := by
  unfold muteChannel
  extract_lets +onlyGivenNames p s1 left s2
  have h1 : PairStays a s1 := .foldl (fun _ _ _ hu => .ite hu (withhold_pairStays hu _ _)) h
  have h2 : PairStays a s2 := setF_pairStays (setF_pairStays (h1.frame (by rfl)) _ _ _) _ _ _
  have hframe : ∀ {u}, PairStays a u → ∀ f g, PairStays a (modTwn f (modOut c g u)) := fun hu _ _ => hu.frame rfl
  have h3 := hframe (lapse_pairStays h2 c left)
  exact echRefresh_pairStays (raise_pairStays (setJoin_pairStays (setAct_pairStays (h3 _ _) _ _ _) _ _) _ _)

theorem diverge_pairStays (h : PairStays a s) (c : Nat) : PairStays a (diverge c s) :=
  raise_pairStays (addF_pairStays (twinSend_pairStays (muteChannel_pairStays h _ _ _) _ _ _ _ _ _) _ _ _) _ _

theorem restartChannel_pairStays (h : PairStays a s) (c : Nat) : PairStays a (restartChannel c s) := by
  have hframe : ∀ {u}, PairStays a u → ∀ f, PairStays a (modOut c f u) := fun hu _ => hu.frame rfl
  exact setAct_pairStays (setF_pairStays (hframe (dropJoin_pairStays (muteChannel_pairStays h _ _ _) _) _) _ _ _) _ _ _

end

section
variable {c : Fin 32} {a s : State}

/-! ## What a channel holds is sent (R185, R190 to R192, R253) -/

theorem legTakes_pairStays (h : PairStays a s) {leg : Nat} (hleg : leg ∈ [0, 1]) (tag : Nat) (dropping : Bool) (rtp payload : List Nat) :
    PairStays a (legTakes (pgOUT c) leg tag dropping rtp payload s) := by
  have hcommit : ∀ q k, PairStays a (commitPkt q k s) := fun q k => h.of_fields (l := commitFields) fun hK =>
    (commitPkt_writesIn q k s).mono fun _ hk => by
      obtain ⟨f, hf, rfl⟩ := List.mem_map.1 hk
      exact hK f hf _
  have hdrop : PairStays a (legDrops (pgOUT c) leg 1 s) := by
    have hout : pgOUT c < Block.first .snd := by simp only [pgOUT, Block.first]; omega
    have hplaces : ∀ leg ∈ [0, 1], (∀ f ∈ eventFields (5 + leg), f.loc < 2 ^ 20 ∧ f.loc ∉ pairPlaces) ∧
        (if leg = 0 then OUT.C_leg_drop_a else OUT.C_leg_drop_b).loc < 2 ^ 20 ∧
        (if leg = 0 then OUT.C_leg_drop_a else OUT.C_leg_drop_b).loc ∉ pairPlaces := by decide
    obtain ⟨hevent, hcount⟩ := hplaces leg hleg
    rw [legDrops, if_pos hout]
    exact raise_pairStays (addF_pairStays h _ _ _ hcount) _ _ hevent
  exact .ite h (.ite hdrop (.ite (hcommit _ _) (h.frame (by rfl))))

theorem queuePacket_pairStays (h : PairStays a s) (tag : Nat) (marker : Bool) (pt ts : Nat) (payload : List Nat) :
    PairStays a (queuePacket c tag marker pt ts payload s) :=
  .frame (.foldl (fun _ _ hleg hu => legTakes_pairStays hu hleg _ _ _ _) h) (by rfl)

theorem tsSend_pairStays (h : PairStays a s) (tag ts pid : Nat) (start : Bool) (pcr : Option Nat) (l : List Nat) :
    PairStays a (tsSend c tag ts pid start pcr l s) :=
  .ite (h.frame (by rfl)) (queuePacket_pairStays (h.frame (by rfl)) _ _ _ _ _)

theorem tsData_pairStays (h : PairStays a s) (tag ts pid : Nat) (start : Bool) (pcr : Option Nat) (l : List Nat) :
    PairStays a (tsData c tag ts pid start pcr l s) :=
  .foldl (fun _ _ _ hu => tsSend_pairStays hu _ _ _ _ _ _) (tsSend_pairStays h _ _ _ _ _ _)

theorem tsAudio_pairStays (h : PairStays a s) (tag n ts pts : Nat) : PairStays a (tsAudio c tag n ts pts s) :=
  .ite h (.foldl (fun _ _ _ hu => tsData_pairStays hu _ _ _ _ _ _) h)

theorem tsSlice_pairStays (h : PairStays a s) (tag : Nat) (e : RingEntry) : PairStays a (tsSlice c tag e s) := by
  unfold tsSlice
  extract_lets +onlyGivenNames p vvc video x pts due s1
  have h1 : PairStays a s1 := .ite (tsSend_pairStays (tsSend_pairStays (h.frame (by rfl)) _ _ _ _ _ _) _ _ _ _ _ _) h
  exact .ite (tsAudio_pairStays (tsData_pairStays h1 _ _ _ _ _ _) _ _ _ _) (tsData_pairStays h1 _ _ _ _ _ _)

theorem sendSlice_pairStays (h : PairStays a s) (tag : Nat) (ends : Bool) (e : RingEntry) : PairStays a (sendSlice c tag ends e s) :=
  .ite (tsSlice_pairStays h _ _) (.foldl (fun _ _ _ hu => queuePacket_pairStays hu _ _ _ _ _) h)

theorem sendFiller_pairStays (h : PairStays a s) (tag : Nat) (ends : Bool) (f : Filler) : PairStays a (sendFiller c tag ends f s) :=
  .ite (tsData_pairStays h _ _ _ _ _ _) (.foldl (fun _ _ _ hu => queuePacket_pairStays hu _ _ _ _ _) h)

theorem copyOut_pairStays (h : PairStays a s) (e : RingEntry) : PairStays a (copyOut c e s) := by
  have hsent : ∀ tag ends f, PairStays a (sendSlice c tag ends e (modOut c f s)) := fun _ _ _ =>
    sendSlice_pairStays (h.frame (by rfl)) _ _ _
  have hevents : ∀ n tag ends f g seqNo, PairStays a
      (raiseIf n (pgOUT c) 6 (raiseIf n (pgOUT c) 5 (modEntry c seqNo g (sendSlice c tag ends e (modOut c f s))))) := fun _ _ _ _ _ _ =>
    raiseIf_pairStays (raiseIf_pairStays ((hsent _ _ _).frame (by rfl)) _ _ _) _ _ _
  exact .foldl (fun _ _ _ hu => hu.frame (by rfl)) (hevents _ _ _ _ _ _)

theorem checkOnly_pairStays (h : PairStays a s) (bad : Bool) : PairStays a (checkOnly c bad s) :=
  .ite (raise_pairStays (addF_pairStays h _ _ _) _ _) h

theorem leadCopy_pairStays (h : PairStays a s) (rd : ReadBack) (e : RingEntry) : PairStays a (leadCopy c rd e s).2 := by
  unfold leadCopy
  extract_lets +onlyGivenNames p ring table
  split
  · exact copyOut_pairStays (checkOnly_pairStays (.ite h (h.frame (by rfl))) _) _
  · exact raise_pairStays (addF_pairStays (addF_pairStays (subF_pairStays (h.frame (by rfl)) _ _ _) _ _ _) _ _ _) _ _

theorem followerCopy_pairStays (h : PairStays a s) (rd : ReadBack) (e : RingEntry) : PairStays a (followerCopy c rd e s).2 := by
  unfold followerCopy
  extract_lets +onlyGivenNames p
  split
  · split
    · exact withhold_pairStays h _ _
    · exact h.frame (by rfl)
  · extract_lets +onlyGivenNames s1
    have h1 : PairStays a s1 := h.frame (by rfl)
    split
    · exact withhold_pairStays h1 _ _
    · split
      · exact copyOut_pairStays (checkOnly_pairStays h1 _) _
      · split
        · exact raise_pairStays (addF_pairStays (withhold_pairStays h1 _ _) _ _ _) _ _
        · dsimp only
          exact diverge_pairStays h1 _

theorem copyEntry_pairStays (h : PairStays a s) (rd : ReadBack) (e : RingEntry) : PairStays a (copyEntry c rd e s).2 := by
  unfold copyEntry
  split
  · exact followerCopy_pairStays h _ _
  · exact leadCopy_pairStays h _ _

theorem copyRow_pairStays (h : PairStays a s) (r : EchRow) (depart : Nat) (l : List (RingEntry × ReadBack)) :
    PairStays a (copyRow c r depart l s) := by
  have hcopied : ∀ n : Nat, PairStays a (l.foldl (fun (b : Nat × State) x =>
      (b.1 + (copyEntry c x.2 x.1 b.2).1.toNat, (copyEntry c x.2 x.1 b.2).2)) (n, s)).2 := fun n =>
    List.foldlRecOn (motive := fun b : Nat × State => PairStays a b.2) l _ h fun _ hb _ _ => copyEntry_pairStays hb _ _
  have hfillers : ∀ {u}, PairStays a u → ∀ sent, PairStays a (sendFillers c sent u) := fun hu _ =>
    .foldl (fun _ _ _ hv => .ite (sendFiller_pairStays (hv.frame (by rfl)) _ _ _) (hv.frame (by rfl))) hu
  exact .ite (hfillers (hcopied _) _) ((hfillers (hcopied _) _).frame (by rfl))

theorem sendHeld_pairStays (h : PairStays a s) : PairStays a (sendHeld c s) := by
  unfold sendHeld
  refine .foldl (fun u e _ hu => ?_) h
  split
  · split
    · exact hu
    · exact copyRow_pairStays hu _ _ _
  · exact hu

end

end Sys2Proof.Machine
end

section
/-! # The claim line and the roles of a pair (R236 to R240, R253) -/

namespace Sys2Proof.Machine

section
variable {s : State}

/-! ## The role and the epoch (R236, R238) -/

theorem setRole_getF (r : Nat) {f : Fld} (hf : f.loc ≠ TWN.ROLE_role.loc) (s : State) : getF pgTWN f (setRole r s) = getF pgTWN f s :=
  (getF_setF_field _ _ _ _ _ hf).trans (getF_congr _ _ _ _ rfl)

theorem setEpoch_epoch (e : Nat) (s : State) : getF pgTWN TWN.EPOCH_epoch (setEpoch e s) = e % 2 ^ 32 :=
  (getF_setF_page pgDEV pgTWN _ _ _ _ (by decide) (by decide) (by decide)).trans (getF_setF_same _ _ _ _)

theorem setEpoch_getF (e : Nat) {f : Fld} (hlow : f.loc < 2 ^ 20) (hf : f.loc ≠ TWN.EPOCH_epoch.loc) (s : State) :
    getF pgTWN f (setEpoch e s) = getF pgTWN f s :=
  (getF_setF_page pgDEV pgTWN _ _ _ _ (by decide) (by decide) hlow).trans (getF_setF_field _ _ _ _ _ hf)

theorem takeLead_role (s : State) : twinRole (takeLead s) = 2 := getF_setF_same _ _ _ _

/-! ## Claim frames (R236) -/

theorem claimFrameSendOp_sends (hclaim : getF pgTWN TWN.CFG_claim s ≠ 0) (hreset : s.pwr.inReset = false)
    (hvio : isF pgDEV DEV.ST_vio_ok s = true) : claimFrameSendOp s = emit .claim 0 (nats (claimFrame s)) (passTicks (32 * tickUs) s) := by
  refine if_neg ?_
  rw [hreset, hvio]
  simpa using hclaim

theorem beNat_lt (l : List Byte) : beNat l < 256 ^ l.length := by
  induction l using List.reverseRecOn with
  | nil => exact Nat.one_pos
  | append_singleton l b ih =>
    have hb : b.toNat < 256 := b.isLt
    rw [beNat, List.foldl_append, List.length_append, List.length_singleton, Nat.pow_succ]
    change beNat l * 256 + b.toNat < _
    omega

/-- a field of `len` bytes is below 256 to the `len`. -/
theorem fieldAt_lt (off len : Nat) (l : List Byte) : fieldAt off len l < 256 ^ len :=
  Nat.lt_of_lt_of_le (beNat_lt _) (Nat.pow_le_pow_right (by decide) (List.length_take_le _ _))

section
variable {frame : Word}

theorem claimFrameReceivedOp_bad (hvio : isF pgDEV DEV.ST_vio_ok s = true) (hsync : fieldAt 0 1 (beBytes 4 frame.toNat) = 0xB4)
    (hbad : fieldAt 3 1 (beBytes 4 frame.toNat) ≠ crc crc8 (sub 1 2 (beBytes 4 frame.toNat))) :
    claimFrameReceivedOp frame s = addF pgTWN TWN.C_claim_bad 1 s := by
  simp only [claimFrameReceivedOp, hvio, hsync, hbad, ne_eq, not_true_eq_false, not_false_eq_true, Bool.not_true, Bool.false_eq_true,
    or_self, if_false, if_true]

theorem claimFrameReceivedOp_good (hvio : isF pgDEV DEV.ST_vio_ok s = true) (hsync : fieldAt 0 1 (beBytes 4 frame.toNat) = 0xB4)
    (hgood : fieldAt 3 1 (beBytes 4 frame.toNat) = crc crc8 (sub 1 2 (beBytes 4 frame.toNat)))
    (hclaim : fieldAt 1 1 (beBytes 4 frame.toNat) ≠ 0) :
    claimFrameReceivedOp frame s = takeClaim (fieldAt 1 1 (beBytes 4 frame.toNat)) (fieldAt 2 1 (beBytes 4 frame.toNat) / 64)
      (fieldAt 2 1 (beBytes 4 frame.toNat) % 64) s := by
  simp only [claimFrameReceivedOp, hvio, hsync, hgood, hclaim, ne_eq, not_true_eq_false, Bool.not_true, Bool.false_eq_true, or_self,
    if_false]

end

/-- what a good frame shows of the partner. -/
def partnerShown (claim role e6 : Nat) (s : State) : State :=
  setF pgTWN TWN.ROLE_partner_valid 1 (setF pgTWN TWN.ROLE_partner_epoch e6
    (setF pgTWN TWN.ROLE_partner_claim claim (setF pgTWN TWN.ROLE_partner_role role
      (modTwn (fun t => { t with
        claimAt := some s.clk, heardEpoch := epochFrom6 (max t.heardEpoch (getF pgTWN TWN.EPOCH_epoch s)) e6,
        wasLead := t.wasLead || role == 2, notLead := if role = 2 then 0 else t.notLead + 1 }) s))))

/-- the fields that show the partner. -/
def partnerFields : List Fld := [TWN.ROLE_partner_valid, TWN.ROLE_partner_epoch, TWN.ROLE_partner_claim, TWN.ROLE_partner_role]

theorem partnerShown_writesIn (claim role e6 : Nat) (s : State) :
    WritesIn (AtFields pgTWN partnerFields) s (partnerShown claim role e6 s) := by
  have hwrites : ∀ {f : Fld}, f ∈ partnerFields → ∀ v u, WritesIn (AtFields pgTWN partnerFields) u (setF pgTWN f v u) := fun hf _ _ =>
    setF_writesIn (atFields_of_mem hf)
  unfold partnerShown
  refine .trans (.trans (.trans (.trans (.of_eq ?_) (hwrites ?_ _ _)) (hwrites ?_ _ _)) (hwrites ?_ _ _)) (hwrites ?_ _ _)
  · rfl
  all_goals simp [partnerFields]

/-- a lead with another claim number makes a page without a role the follower. -/
theorem takeClaim_follower {claim e6 : Nat} (hrun : act pgTWN s = stRUNNING) (hrole : twinRole s = 0)
    (hother : claim ≠ getF pgTWN TWN.CFG_claim s) :
    takeClaim claim 2 e6 s = setRole 1 (setF pgTWN TWN.ST_claim_conflict 0 (partnerShown claim 2 e6 s)) := by
  have hkept := partnerShown_writesIn claim 2 e6 s
  have hact : act pgTWN (partnerShown claim 2 e6 s) = stRUNNING := (hkept.getF (not_atFields (by decide))).trans hrun
  have hnone : twinRole (partnerShown claim 2 e6 s) = 0 := (hkept.getF (not_atFields (by decide))).trans hrole
  have hown : getF pgTWN TWN.CFG_claim (partnerShown claim 2 e6 s) = getF pgTWN TWN.CFG_claim s := hkept.getF (not_atFields (by decide))
  exact (if_neg (not_not.2 hact)).trans ((if_pos hnone).trans ((if_neg fun h => hother (h.trans hown)).trans (if_pos rfl)))

/-- a page that is the follower now shows its partner, and of the other pages nothing has changed. -/
theorem follower_shows {claim e6 : Nat} (hclaim : claim < 256) :
    let t := setRole 1 (setF pgTWN TWN.ST_claim_conflict 0 (partnerShown claim 2 e6 s))
    twinRole t = 1 ∧ getF pgTWN TWN.ROLE_partner_valid t = 1 ∧ getF pgTWN TWN.ROLE_partner_role t = 2 ∧
      getF pgTWN TWN.ROLE_partner_claim t = claim ∧ State.regsBut [pgTWN] s t := by
  have hkept : ∀ f ∈ partnerFields, getF pgTWN f (setRole 1 (setF pgTWN TWN.ST_claim_conflict 0 (partnerShown claim 2 e6 s))) =
      getF pgTWN f (partnerShown claim 2 e6 s) := by
    intro f hf
    have hplaces : ∀ f ∈ partnerFields, f.loc ≠ TWN.ROLE_role.loc ∧ f.loc ≠ TWN.ST_claim_conflict.loc := by decide
    exact (setRole_getF _ (hplaces f hf).1 _).trans (getF_setF_field _ _ _ _ _ (hplaces f hf).2)
  refine ⟨getF_setF_same _ _ _ _, ?_, ?_, ?_, ?_⟩
  · rw [hkept _ (by simp [partnerFields])]
    exact getF_setF_same _ _ _ _
  · rw [hkept _ (by simp [partnerFields]), partnerShown, getF_setF_field _ _ _ _ _ (by decide), getF_setF_field _ _ _ _ _ (by decide),
      getF_setF_field _ _ _ _ _ (by decide)]
    exact getF_setF_same _ _ _ _
  · rw [hkept _ (by simp [partnerFields]), partnerShown, getF_setF_field _ _ _ _ _ (by decide), getF_setF_field _ _ _ _ _ (by decide),
      getF_setF_same]
    exact Nat.mod_eq_of_lt hclaim
  · have hshown : State.regsBut [pgTWN] s (partnerShown claim 2 e6 s) :=
      regsBut_iff.2 ((partnerShown_writesIn claim 2 e6 s).mono fun _ hk => List.mem_singleton.2 (div_of_atFields (by decide) hk))
    have hconflict : State.regsBut [pgTWN] s (setF pgTWN TWN.ST_claim_conflict 0 (partnerShown claim 2 e6 s)) :=
      hshown.trans (setF_regsBut _ _ _ _ (by decide))
    exact (hconflict.trans (.of_eq rfl)).trans (setF_regsBut _ _ _ _ (by decide))

/-! ## A role is taken (R238) -/

theorem roleTakenOp_unheard (hrun : act pgTWN s = stRUNNING) (hrole : twinRole s = 0)
    (hconflict : isF pgTWN TWN.ST_claim_conflict s = false) (hunheard : s.twn.claimAt = none) :
    roleTakenOp s = setF pgTWN TWN.ST_solo 1 (takeLead (advanceTo (s.twn.listenAt + deadTicks s) s)) := by
  have hnone : (advanceTo (s.twn.listenAt + deadTicks s) s).twn.claimAt = none := by rw [advanceTo_frame]; exact hunheard
  unfold roleTakenOp
  simp only [hrun, hrole, hconflict, hnone, ne_eq, not_true_eq_false, Bool.false_eq_true, or_self, if_false, Bool.true_or, if_true]

/-- a page that is lead now is solo, in the epoch after all it has heard of. -/
theorem lead_shows {u : State} (hregs : u.regs = s.regs) (hheard : u.twn.heardEpoch = s.twn.heardEpoch) :
    let t := setF pgTWN TWN.ST_solo 1 (takeLead u)
    twinRole t = 2 ∧ isF pgTWN TWN.ST_solo t = true ∧
      getF pgTWN TWN.EPOCH_epoch t = (max (getF pgTWN TWN.EPOCH_epoch s) s.twn.heardEpoch + 1) % 2 ^ 32 ∧
      State.regsBut [pgTWN, pgDEV] s t := by
  refine ⟨(getF_setF_field _ _ _ _ _ (by decide)).trans (takeLead_role _), ?_, ?_, ?_⟩
  · rw [isF, getF_setF_same]
    rfl
  · rw [getF_setF_field _ _ _ _ _ (by decide), takeLead, setRole_getF _ (by decide), setEpoch_epoch, hheard, getF_congr _ _ _ _ hregs]
  · have htwn : ∀ (f : Fld) (v : Nat) (w : State), f.loc < 2 ^ 20 → State.regsBut [pgTWN, pgDEV] w (setF pgTWN f v w) :=
      fun f v w hf => (setF_regsBut _ f v w hf).mono (by simp)
    have hepoch := (State.regsBut.of_eq (l := [pgTWN, pgDEV]) hregs).trans
      (htwn TWN.EPOCH_epoch (max (getF pgTWN TWN.EPOCH_epoch u) u.twn.heardEpoch + 1) u (by decide))
    have hvalid := hepoch.trans ((setF_regsBut pgDEV DEV.ST_rws_valid 1 _ (by decide)).mono (by simp))
    exact ((hvalid.trans (.of_eq rfl)).trans (htwn TWN.ROLE_role 2 _ (by decide))).trans (htwn _ _ _ (by decide))

/-! ## A dead partner (R240, R253) -/

/-- the state in which a page that took a claim frame at tick `t` last has waited for the next one long enough. -/
def partnerUnseen (t : Nat) (s : State) : State :=
  modTwn (fun x => { x with wasLead := false, notLead := 0 }) (setF pgTWN TWN.ROLE_partner_valid 0 (advanceTo (t + deadTicks s) s))

/-- a lead counts the failure of its partner's claim line. -/
def claimFaulted (s : State) : State := if twinRole s = 2 then raise pgTWN 9 (addF pgTWN TWN.C_claim_fault 1 s) else s

/-- the partner is shown dead. -/
def partnerLost (s : State) : State := raise pgTWN 3 (setF pgTWN TWN.ST_link_up 0 (claimFaulted s))

theorem heartbeats_of_none (h : s.twn.hbAt = none) : heartbeats s = false := by
  unfold heartbeats
  rw [h]

theorem claimFaulted_twn (s : State) : (claimFaulted s).twn = s.twn := by
  unfold claimFaulted
  split
  · rw [raise_twn, addF_twn]
  · rfl

theorem claimFaulted_pairStays (s : State) : PairStays s (claimFaulted s) :=
  .ite (raise_pairStays (addF_pairStays (.refl s) _ _ _) _ _) (.refl s)

theorem partnerDeadOp_silent {t : Nat} (hrun : act pgTWN s = stRUNNING) (hrole : twinRole s ≠ 0) (hquit : s.twn.wasLead = false)
    (hclaim : s.twn.claimAt = some t) (hhb : s.twn.hbAt = none) :
    partnerDeadOp s = if twinRole (partnerLost (partnerUnseen t s)) = 1 then promote (partnerLost (partnerUnseen t s))
      else partnerLost (partnerUnseen t s) := by
  have hunseen : (partnerUnseen t s).twn.hbAt = none := by
    unfold partnerUnseen modTwn
    rw [setF_twn, advanceTo_frame]
    exact hhb
  have hsilent : heartbeats (partnerUnseen t s) = false := heartbeats_of_none hunseen
  have hstill : heartbeats (claimFaulted (partnerUnseen t s)) = false := heartbeats_of_none (by rw [claimFaulted_twn, hunseen])
  have hfault : (if twinRole (partnerUnseen t s) = 2 ∨ (heartbeats (partnerUnseen t s) ∧ (partnerUnseen t s).twn.hbRole = 2)
      then raise pgTWN 9 (addF pgTWN TWN.C_claim_fault 1 (partnerUnseen t s)) else partnerUnseen t s) =
      claimFaulted (partnerUnseen t s) := by
    simp only [hsilent, Bool.false_eq_true, false_and, or_false, claimFaulted]
  unfold partnerDeadOp
  simp only [hrun, hrole, hquit, hclaim, ne_eq, not_true_eq_false, or_self, Bool.false_and, Bool.false_eq_true, if_false]
  rw [← partnerUnseen, hfault, hstill]
  rfl

theorem partnerLost_fields (t : Nat) (s : State) :
    getF pgTWN (HDR.EVENT 3) (partnerLost (partnerUnseen t s)) = 1 ∧ getF pgTWN TWN.ST_link_up (partnerLost (partnerUnseen t s)) = 0 ∧
      getF pgTWN TWN.ROLE_partner_valid (partnerLost (partnerUnseen t s)) = 0 ∧
      twinRole (partnerLost (partnerUnseen t s)) = twinRole s := by
  have hfault := claimFaulted_pairStays (partnerUnseen t s)
  have hvalid : getF pgTWN TWN.ROLE_partner_valid (partnerUnseen t s) = 0 :=
    getF_setF_same pgTWN TWN.ROLE_partner_valid 0 (advanceTo (t + deadTicks s) s)
  have hrole : twinRole (partnerUnseen t s) = twinRole s :=
    (getF_setF_field pgTWN TWN.ROLE_partner_valid TWN.ROLE_role 0 _ (by decide)).trans (getF_congr _ _ _ _ (advanceTo_regs _ _))
  have hlost : ∀ {f : Fld}, f.loc < 2 ^ 20 ∧ f.loc ∉ (eventFields 3).map Fld.loc → getF pgTWN f (partnerLost (partnerUnseen t s)) =
      getF pgTWN f (setF pgTWN TWN.ST_link_up 0 (claimFaulted (partnerUnseen t s))) := fun hf =>
    WritesIn.getF (K := AtFields pgTWN (eventFields 3)) (raise_writesIn fun f hf => atFields_of_mem hf) (not_atFields hf.2)
  refine ⟨raise_event _ _ _, (hlost (by decide)).trans (getF_setF_same _ _ _ _), ?_, ?_⟩
  · rw [hlost (by decide), getF_setF_field _ _ _ _ _ (by decide), hfault.getF (by simp [pairFields]), hvalid]
  · refine (hlost (by decide)).trans ?_
    rw [getF_setF_field _ _ _ _ _ (by decide), hfault.getF (by simp [pairFields])]
    exact hrole

/-- the new lead does with its channels what leaves its role and what it shows of the partner. -/
theorem promote_pairStays (s : State) :
    PairStays (takeLead (modTwn (fun t => { t with yield := none, doubtAt := none }) s)) (promote s) := by
  unfold promote
  extract_lets +onlyGivenNames chans joined s1 s2 others s3 groups s4
  have h2 : PairStays s1 s2 := .foldl (fun u c hc hu => by
    have hlt : c < 32 := List.mem_range.1 (List.mem_filter.1 (List.mem_filter.1 hc).1).1
    exact sendHeld_pairStays (c := ⟨c, hlt⟩) (dropJoin_pairStays hu c)) (.refl s1)
  have h3 : PairStays s1 s3 := .foldl (fun _ _ _ hu => restartChannel_pairStays hu _) h2
  have h4 : PairStays s1 s4 := .foldl (fun _ _ _ hu => setF_pairStays (addF_pairStays hu _ _ _) _ _ _) h3
  exact raise_pairStays (addF_pairStays (setF_pairStays (setF_pairStays (setF_pairStays (showJoins_pairStays h4) _ _ _) _ _ _) _ _ _)
    _ _ _) _ _

theorem promote_event (s : State) : getF pgTWN (HDR.EVENT 0) (promote s) = 1 := raise_event _ _ _

theorem takeLead_getF {f : Fld} (hf : f ∈ [TWN.ROLE_partner_valid, TWN.ST_link_up, HDR.EVENT 3]) (s : State) :
    getF pgTWN f (takeLead s) = getF pgTWN f s := by
  have hplaces : ∀ f ∈ [TWN.ROLE_partner_valid, TWN.ST_link_up, HDR.EVENT 3],
      f.loc < 2 ^ 20 ∧ f.loc ≠ TWN.ROLE_role.loc ∧ f.loc ≠ TWN.EPOCH_epoch.loc := by decide
  obtain ⟨hlow, hrole, hepoch⟩ := hplaces f hf
  exact (setRole_getF _ hrole _).trans (setEpoch_getF _ hlow hepoch _)

theorem promote_getF {f : Fld} (hf : f ∈ [TWN.ROLE_partner_valid, TWN.ST_link_up, HDR.EVENT 3]) (s : State) :
    getF pgTWN f (promote s) = getF pgTWN f s := by
  have hpair : ∀ f ∈ [TWN.ROLE_partner_valid, TWN.ST_link_up, HDR.EVENT 3], f ∈ pairFields := by simp [pairFields]
  exact ((promote_pairStays s).getF (hpair f hf) _).trans (takeLead_getF hf _)

theorem promote_role (s : State) : twinRole (promote s) = 2 :=
  ((promote_pairStays s).getF (by simp [pairFields]) _).trans (takeLead_role _)

end

/-- Settles O25, an operation in each clause; a follower that finds its lead dead has shown it so before it is promoted
(`partnerLost_fields`), and what the new lead does with its channels leaves that (`promote_pairStays`). -/
theorem claimLineAndRoles : Obligations.ClaimLineAndRoles := by
  refine ⟨fun s hclaim hreset hvio => ?_, fun frame s hvio hsync hbad => ?_,
    fun frame s hvio hsync hgood hclaim hother hlead hrun hrole => ?_, fun s hrun hrole hconflict hunheard => ?_,
    fun s hrun hrole hquit hclaim hhb => ?_⟩
  · refine ⟨_, congrArg Host.Outcome.next (claimFrameSendOp_sends hclaim hreset hvio), ?_, passTicks_clk _ _, ?_⟩
    · exact congrArg (· ++ _) (passTicks_out _ _)
    · rw [emit, passTicks_frame]
  · exact ⟨_, congrArg Host.Outcome.next (claimFrameReceivedOp_bad hvio hsync hbad), rfl, getF_addF_same _ _ _ _,
      fieldsBut_iff.2 (addF_writesIn (atFields_of_mem (by simp)))⟩
  · have hop := claimFrameReceivedOp_good hvio hsync hgood hclaim
    rw [hlead, takeClaim_follower hrun hrole hother] at hop
    exact ⟨_, congrArg Host.Outcome.next hop, follower_shows (fieldAt_lt 1 1 (beBytes 4 frame.toNat))⟩
  · exact ⟨_, congrArg Host.Outcome.next (roleTakenOp_unheard hrun hrole hconflict hunheard),
      lead_shows (advanceTo_regs _ _) (by rw [advanceTo_frame])⟩
  · obtain ⟨t, ht⟩ := Option.ne_none_iff_exists'.1 hclaim
    obtain ⟨hevent, hlink, hvalid, hstays⟩ := partnerLost_fields t s
    have hop := partnerDeadOp_silent hrun hrole hquit ht hhb
    by_cases hfollower : twinRole s = 1
    · rw [if_pos (hstays.trans hfollower)] at hop
      exact ⟨_, congrArg Host.Outcome.next hop, (promote_getF (by simp) _).trans hevent,
        isF_of_zero ((promote_getF (by simp) _).trans hlink), isF_of_zero ((promote_getF (by simp) _).trans hvalid),
        fun _ => ⟨promote_role _, promote_event _⟩⟩
    · rw [if_neg (hstays ▸ hfollower)] at hop
      exact ⟨_, congrArg Host.Outcome.next hop, hevent, isF_of_zero hlink, isF_of_zero hvalid, fun h => absurd h hfollower⟩

end Sys2Proof.Machine
end

section
/-! # A muted channel with a refused command's reason (R24, R247) -/

namespace Sys2Proof.Machine

/-- A follower codes channel 1 muted, as in settling, its page's reason still that of a refused command (R24); the lead's last heartbeat
was sent after the channel's next record was due. -/
def refusedFollower : State :=
  modTwn (fun x => { x with join := [(1, .settling)], hbSent := 10 ^ 12 }) (modEch 1 (fun x => { x with live := true })
    (setF (pgECH 1) HDR.ACT_reason 0x0C (setF (pgECH 1) HDR.ACT_state stMUTED (setF pgTWN HDR.ACT_state stRUNNING
      (setF pgTWN TWN.ROLE_role 1 (setF pgTWN TWN.CHANS_chans 2 State.reset))))))

/-- Refutes O26: while a page's state stays, the reason 0x0C of a refused command stays with it (R24, `setAct_of_eq`), so a channel that
is muted already keeps it when its record does not come, and does not take reason 0x03. COMMIT leaves 0x0C to a RUNNING channel only; the
statement speaks of every state. -/
theorem not_heartbeatsRecordsAcks : ¬ Obligations.HeartbeatsRecordsAcks := by
  rintro ⟨-, -, -, -, -, hwait, -⟩
  obtain ⟨halive, -⟩ := hwait 1 refusedFollower (by decide) (by decide) (by decide) (by decide) (by decide)
  obtain ⟨t, ht, -, hreason, -⟩ := halive (by decide +kernel)
  have hop : recordWaitExpiryOp 1 refusedFollower = t := Host.Outcome.next.inj ht
  have hstays : getF (pgECH 1) HDR.ACT_reason (recordWaitExpiryOp 1 refusedFollower) = 0x0C := by decide +kernel
  rw [hop] at hstays
  exact absurd (hstays.symm.trans hreason) (by decide)

end Sys2Proof.Machine
end

section
/-! # Lockstep between the two devices (R185, R250 to R252) -/

namespace Sys2Proof.Machine

section
variable {m : TwinMsg} {s : State}

/-! ## CHECK (R250, R251) -/

theorem outOf_modOut (c : Nat) (f : OutS → OutS) (s : State) : outOf c (modOut c f s) = f (outOf c s) := by
  unfold outOf modOut modAt
  exact (SMap.get_put _ _ _ _ _).trans (if_pos rfl)

/-- the check that a CHECK brings. -/
def msgCheck (m : TwinMsg) : TwCheck := ⟨msgChan m, fieldAt 0 1 m.body, fieldAt 4 4 m.body, fieldAt 8 4 m.body, m.flags.toNat.testBit 0⟩

/-- the check is kept with those before it. -/
def keepCheck (m : TwinMsg) (s : State) : State := modTwn (fun t => { t with checks := t.checks ++ [msgCheck m] }) s

/-- this follower codes the channel of the message. -/
def codes (m : TwinMsg) (s : State) : Prop := follows (msgChan m) s = true ∧ followsRows (msgChan m) s = true

theorem codes_afterMsg (h : codes m s) : codes m (afterMsg m s) := by
  unfold codes
  rwa [afterMsg_follows, afterMsg_followsRows]

theorem checkOp_early (hc : codes m s) (hlen : m.body.length = 16) (hflag : m.flags.toNat.testBit 0 = false)
    (hnone : entriesOf (msgChan m) s = []) : checkOp m s = keepCheck m s := by
  have hkept : ∀ f, entriesOf (msgChan m) (modTwn f s) = [] := fun _ => hnone
  simp only [checkOp, hc.1, hc.2, hlen, hflag, hkept, Bool.and_self, Bool.not_true, bne_self_eq_false, Bool.or_self, Bool.false_eq_true,
    if_false, List.find?_nil, keepCheck, msgCheck]

/-- the replace mark has the region coded again here, as the entry that closed it, or as a new one (R186). -/
theorem checkOp_replaces (hc : codes m s) (hlen : m.body.length = 16) (hflag : m.flags.toNat.testBit 0 = true) :
    ∃ x : Recode, x.entry.col = fieldAt 0 1 m.body ∧
      checkOp m s = modOut (msgChan m) (fun y => { y with recodes := y.recodes ++ [x] }) (keepCheck m s) := by
  have hcol : ∀ (p : RingEntry → Bool) (l : List RingEntry) (blank : RingEntry), blank.col = fieldAt 0 1 m.body →
      ((l.find? fun e => p e && e.col == fieldAt 0 1 m.body).getD blank).col = fieldAt 0 1 m.body := by
    intro p l blank hblank
    cases hf : l.find? fun e => p e && e.col == fieldAt 0 1 m.body with
    | none => exact hblank
    | some e =>
      have he := List.find?_some hf
      simp only [Bool.and_eq_true, beq_iff_eq] at he
      exact he.2
  unfold checkOp
  simp only [hc.1, hc.2, hlen, hflag, Bool.and_self, Bool.not_true, bne_self_eq_false, Bool.or_self, Bool.false_eq_true, if_false, if_true]
  simp only [keepCheck, msgCheck, hflag]
  refine ⟨_, ?_, rfl⟩
  exact hcol _ _ _ rfl

/-! ## PICCHECK (R251) -/

/-- every channel has a tile column. -/
theorem colCount_pos (g : Nat → Fld → State → Nat) (c : Nat) (s : State) : 0 < colCount g c s := by
  unfold colCount
  split
  · exact Nat.le_max_left 1 _
  · exact Nat.one_pos

/-- without a check of its own for the picture this device has nothing to compare. -/
theorem comparePics_waits {c n : Nat} (h : ∀ k, SMap.find (picKey c n k) s.twn.ownPic = none) : comparePics c n s = s := by
  have hcols : List.range (colCount getF c s) ≠ [] := by
    rw [Ne, List.range_eq_nil]
    exact Nat.ne_of_gt (colCount_pos _ _ _)
  have hown : ((List.range (colCount getF c s)).map fun k => SMap.find (picKey c n k) s.twn.ownPic).all Option.isSome = false := by
    obtain ⟨k, hk⟩ := List.exists_mem_of_ne_nil _ hcols
    rw [List.all_eq_false]
    exact ⟨_, List.mem_map_of_mem hk, by rw [h k]; decide⟩
  unfold comparePics
  simp only [hown]
  simp only [h, Bool.false_and, Bool.false_eq_true, if_false]
  exact if_neg (by simp)

theorem piccheckOp_early (hc : codes m s) (hlen : m.body.length = 8)
    (hown : ∀ k, SMap.find (picKey (msgChan m) m.picture.toNat k) s.twn.ownPic = none) :
    piccheckOp m s = modTwn (fun t => { t with
      leadPic := SMap.put (picKey (msgChan m) m.picture.toNat (fieldAt 0 1 m.body)) (fieldAt 4 4 m.body) t.leadPic }) s := by
  unfold piccheckOp
  simp only [hc.1, hc.2, hlen, Bool.and_self, Bool.not_true, bne_self_eq_false, Bool.or_self, Bool.false_eq_true, if_false]
  exact comparePics_waits hown

/-! ## MUTE_NOTE (R251) -/

theorem testBit_cleared (w c : Nat) : (if w.testBit c then w - 2 ^ c else w).testBit c = false := by
  split
  case isTrue h => exact testBit_sub_two_pow h
  case isFalse h => simpa using h

theorem unpair_joined (c : Nat) (s : State) : (getF pgTWN TWN.JOINED_chans (unpair c s)).testBit c = false := by
  unfold unpair
  rw [getF_setF_same, Nat.testBit_mod_two_pow, testBit_cleared, Bool.and_false]

theorem unpair_twn (c : Nat) (s : State) : (unpair c s).twn = { s.twn with
    paired := s.twn.paired.filter (· != c), awaits := s.twn.awaits.filter (fun a => a.1 != c), snaps := SMap.drop c s.twn.snaps } := rfl

/-! ## LOCKSTEP_TIMEOUT (R251, R252) -/

/-- what a withheld slice writes. -/
theorem withhold_writesIn (c : Nat) (e : RingEntry) (s : State) :
    WritesIn (AtFields (pgOUT c) [OUT.C_pending, OUT.C_withheld]) s (withhold c e s) :=
  ((subF_writesIn (atFields_of_mem (by simp))).trans (addF_writesIn (atFields_of_mem (by simp)))).trans (.of_eq rfl)

theorem withhold_counts (c : Nat) (e : RingEntry) (s : State) :
    getF (pgOUT c) OUT.C_withheld (withhold c e s) = (getF (pgOUT c) OUT.C_withheld s + 1) % 2 ^ OUT.C_withheld.width := by
  refine (getF_addF_same _ _ _ _).trans ?_
  rw [subF, getF_setF_field _ _ _ _ _ (by decide)]

theorem enterDoubt_fresh {n : Nat} (h : s.twn.doubtAt = none) :
    (enterDoubt n s).twn.doubtAt.isSome = true ∧ getF pgTWN (HDR.EVENT 17) (enterDoubt n s) = 1 ∧ (enterDoubt n s).outs = s.outs := by
  have hdoubts : enterDoubt n s =
      raise pgTWN 17 (setF pgTWN TWN.ST_doubt 1 (modTwn (fun t => { t with doubtAt := some s.clk, doubtNs := n }) s)) :=
    if_neg (by rw [h]; decide)
  rw [hdoubts]
  refine ⟨?_, raise_event _ _ _, ?_⟩
  · rw [raise_twn]
    rfl
  · rw [raise_outs]
    rfl

end

/-- the state at the end of a held slice's wait for its CHECK. -/
def lockstepEnd (e : RingEntry) (s : State) : State := reachNs (e.depart + getF pgTWN TWN.TIMING_lockstep_us s * 1000) s

theorem lockstepTimeoutOp_held {c : Nat} {e : RingEntry} {s : State}
    (he : (entriesOf c s).find? (fun e => e.read.isSome && !e.copied) = some e) (hf : follows c s = true) :
    lockstepTimeoutOp c s =
      if e.depart ≤ s.twn.hbSent then raise pgTWN 15 (addF pgTWN TWN.C_chk_to 1 (withhold c e (lockstepEnd e s)))
      else enterDoubt e.depart (lockstepEnd e s) := by
  have htwn : (lockstepEnd e s).twn = s.twn := by rw [lockstepEnd, reachNs_frame]
  unfold lockstepTimeoutOp
  simp only [he, hf, Bool.not_true, Bool.false_eq_true, if_false]
  rw [← htwn]
  rfl

/-- a slice withheld at the end of its wait counts on its channel's output and on TWN, with EVENT bit 15. -/
theorem lockstep_withholds (ch : Fin 32) (e : RingEntry) {s u : State} (hu : u.regs = s.regs) :
    let t := raise pgTWN 15 (addF pgTWN TWN.C_chk_to 1 (withhold ch e u))
    getF pgTWN (HDR.EVENT 15) t = 1 ∧ getF pgTWN TWN.C_chk_to t = (getF pgTWN TWN.C_chk_to s + 1) % 2 ^ TWN.C_chk_to.width ∧
      getF (pgOUT ch) OUT.C_withheld t = (getF (pgOUT ch) OUT.C_withheld s + 1) % 2 ^ OUT.C_withheld.width := by
  have hpage : pgOUT ch ≠ pgTWN := by simp only [pgOUT, pgTWN]; omega
  have hout : getF pgTWN TWN.C_chk_to (withhold ch e u) = getF pgTWN TWN.C_chk_to s := by
    refine ((withhold_writesIn _ e u).getF fun hk => hpage ?_).trans (getF_congr _ _ _ _ hu)
    rw [← div_of_atFields (by decide) hk, key_div (by decide)]
  have htwn : State.regsBut [pgTWN] (withhold ch e u) (raise pgTWN 15 (addF pgTWN TWN.C_chk_to 1 (withhold ch e u))) :=
    (addF_regsBut _ _ _ _ (by decide)).trans (raise_regsBut _ _ _ (by decide))
  refine ⟨raise_event _ _ _, ?_, ?_⟩
  · rw [raise_getF _ _ _ _ (by decide) (by decide) (by decide) (by decide), getF_addF_same, hout]
  · rw [(regsBut_iff.1 htwn).getF (by rwa [key_div (by decide), List.mem_singleton]), withhold_counts, getF_congr _ _ _ _ hu]

/-- Settles O27, a clause for each message as its operation takes it (`checkOp_early`, `checkOp_replaces`, `piccheckOp_early`, `unpair`)
once its frames have left the link's receiver (`twinIn_takes`), and LOCKSTEP_TIMEOUT by whether the lead has been heard since. -/
theorem lockstepChecks : Obligations.LockstepChecks := by
  refine ⟨fun m s htakes hf hr hlen hflag hnone => ?_, fun m s htakes hf hr hlen hflag => ?_, fun m s htakes hf hr hlen hown _ => ?_,
    fun m s htakes hrole => ?_, fun ch e s he hf => ⟨fun halive => ?_, fun hold hcalm => ?_⟩⟩
  · have hop := (twinIn_takes htakes (checkOp m)).trans
      (checkOp_early (codes_afterMsg ⟨hf, hr⟩) hlen hflag ((afterMsg_entriesOf _ _ _).trans hnone))
    refine ⟨_, msgCheck m, congrArg Host.Outcome.next hop, ?_, rfl, rfl, rfl, afterMsg_outs m s⟩
    rw [keepCheck, modTwn, afterMsg_twn]
  · obtain ⟨x, hx, hreplaces⟩ := checkOp_replaces (codes_afterMsg ⟨hf, hr⟩) hlen hflag
    refine ⟨_, x, congrArg Host.Outcome.next ((twinIn_takes htakes (checkOp m)).trans hreplaces), ?_, hx, ?_⟩
    · rw [outOf_modOut]
      exact congrArg (fun o => OutS.recodes o ++ [x]) (afterMsg_outOf m s _)
    · exact (congrArg TwnS.recs (afterMsg_twn m s) :)
  · have hop := (twinIn_takes htakes (piccheckOp m)).trans
      (piccheckOp_early (codes_afterMsg ⟨hf, hr⟩) hlen (by rwa [afterMsg_twn]))
    exact ⟨_, congrArg Host.Outcome.next hop, (SMap.find_put _ _ _ _).trans (if_pos rfl), afterMsg_ech m s⟩
  · have hop := (twinIn_takes htakes fun s => if twinRole s = 2 then unpair (msgChan m) s else s).trans
      (if_pos ((afterMsg_twinRole m s).trans hrole))
    refine ⟨_, congrArg Host.Outcome.next hop, unpair_joined _ _, ?_, ?_, afterMsg_ech m s⟩
    · rw [unpair_twn]
      simp
    · rw [unpair_twn]
      simp
  · have hop := (lockstepTimeoutOp_held he hf).trans (if_pos halive)
    exact ⟨_, congrArg Host.Outcome.next hop, lockstep_withholds ch e (reachNs_regs _ _)⟩
  · have hop := (lockstepTimeoutOp_held he hf).trans (if_neg (Nat.not_le.2 hold))
    obtain ⟨hdoubt, hevent, houts⟩ := enterDoubt_fresh (n := e.depart) (s := lockstepEnd e s) (by rwa [lockstepEnd, reachNs_frame])
    exact ⟨_, congrArg Host.Outcome.next hop, hdoubt, hevent, houts.trans (by rw [lockstepEnd, reachNs_frame])⟩

end Sys2Proof.Machine
end

section
/-! # Joins of a twin pair (R255 to R258) -/

namespace Sys2Proof.Machine

section
variable {s t : State}

/-! ## A channel's own pages while the others follow it (R176) -/

/-- the keys off the channels' own pages. -/
def OffChannels (k : Nat) : Prop := k / 2 ^ 20 < 0x100 ∨ 0x120 ≤ k / 2 ^ 20

theorem not_offChannels {c : Nat} (hc : c < 32) {f : Fld} (hf : f.loc < 2 ^ 20) : ¬ OffChannels (f.key (pgECH c)) := by
  unfold OffChannels
  rw [key_div hf, pgECH]
  omega

/-- an operation on pages that are no channel's. -/
theorem offChannels_of_regsBut {l : List Nat} (h : State.regsBut l s t) (hl : ∀ p ∈ l, p < 0x100 ∨ 0x120 ≤ p) : WritesIn OffChannels s t :=
  (regsBut_iff.1 h).mono fun _ hk => hl _ hk

theorem setAct_offChannels {p : Nat} (hp : p < 0x100 ∨ 0x120 ≤ p) (st r : Nat) (s : State) : WritesIn OffChannels s (setAct p st r s) := by
  refine offChannels_of_regsBut (setAct_regsBut p st r s) fun q hq => ?_
  rcases List.mem_cons.1 hq with rfl | hq
  · exact hp
  · exact Or.inl ((by decide : ∀ q ∈ [pgHAP, pgCND 0, pgCND 1, pgCND 2, pgCND 3], q < 0x100) q hq)

theorem followWork_offChannels {p : Nat} (hp : p < 0x100 ∨ 0x120 ≤ p) (busy gated : Bool) (s : State) :
    WritesIn OffChannels s (followWork p busy gated s) :=
  .ite (.ite (setAct_offChannels hp _ _ _) (.refl s)) (.ite (setAct_offChannels hp _ _ _) (.refl s))

/-- the cores, RCL and conditioning follow a channel's state; no channel's page changes with them. -/
theorem echRefresh_offChannels (s : State) : WritesIn OffChannels s (echRefresh s) := by
  have hencs : WritesIn OffChannels s ((List.range 17).foldl (fun u p => encRefresh p u) s) :=
    .foldl (fun u p hp => followWork_offChannels (Or.inl (by
      have := List.mem_range.1 hp
      simp only [pgENC]
      omega)) _ _ u) s
  have hrcl : ∀ u, WritesIn OffChannels u (rclRefresh u) := fun u =>
    .ite ((setAct_offChannels (Or.inr (by decide)) _ _ u).trans (offChannels_of_regsBut (takeGen_regsBut _ _) (by simp [pgRCL])))
      (setAct_offChannels (Or.inr (by decide)) _ _ u)
  have hcnd : ∀ u, WritesIn OffChannels u (cndRefreshAll u) := fun u =>
    .foldl (fun v n hn => followWork_offChannels (Or.inl (by
      have := List.mem_range.1 hn
      simp only [pgCND]
      omega)) _ _ v) u
  exact (hencs.trans (hrcl _)).trans (hcnd _)

theorem echRefresh_act {c : Nat} (hc : c < 32) (s : State) : act (pgECH c) (echRefresh s) = act (pgECH c) s :=
  (echRefresh_offChannels s).getF (not_offChannels hc (by decide))

theorem followWork_twn (p : Nat) (busy gated : Bool) (s : State) : (followWork p busy gated s).twn = s.twn := by
  unfold followWork
  split
  · split
    · exact setAct_twn _ _ _ _
    · rfl
  · split
    · exact setAct_twn _ _ _ _
    · rfl

theorem rclRefresh_twn (s : State) : (rclRefresh s).twn = s.twn := by
  unfold rclRefresh
  dsimp only
  split
  · rw [takeGen_twn, setAct_twn]
  · rw [setAct_twn]

theorem echRefresh_twn (s : State) : (echRefresh s).twn = s.twn := by
  unfold echRefresh cndRefreshAll
  rw [foldl_keeps (fun u => u.twn) (fun u p => cndRefresh p u) (fun u _ => followWork_twn _ _ _ u), rclRefresh_twn,
    foldl_keeps (fun u => u.twn) (fun u p => encRefresh p u) (fun u _ => followWork_twn _ _ _ u)]

/-! ## Join states (R235) -/

theorem showJoins_twn (s : State) : (showJoins s).twn = s.twn := by
  unfold showJoins
  rw [setF_twn, setF_twn, setF_twn]

theorem setJoin_twn (c : Nat) (j : Join) (s : State) : (setJoin c j s).twn = { s.twn with join := SMap.put c j s.twn.join } :=
  showJoins_twn _

theorem dropJoin_twn (c : Nat) (s : State) : (dropJoin c s).twn = { s.twn with join := SMap.drop c s.twn.join } := showJoins_twn _

theorem joinOf_put {c : Nat} {j : Join} {l : SMap Join} (h : t.twn.join = SMap.put c j l) : joinOf c t = some j := by
  unfold joinOf
  rw [h, SMap.find_put, if_pos rfl]

/-- the registers that show the join states. -/
def joinFields : List Fld := [TWN.JOINED_chans, TWN.SETTLING_chans, TWN.WAITING_chans]

theorem showJoins_writesIn (s : State) : WritesIn (AtFields pgTWN joinFields) s (showJoins s) :=
  ((setF_writesIn (atFields_of_mem (by simp [joinFields]))).trans (setF_writesIn (atFields_of_mem (by simp [joinFields])))).trans
    (setF_writesIn (atFields_of_mem (by simp [joinFields])))

theorem setJoin_writesIn (c : Nat) (j : Join) (s : State) : WritesIn (AtFields pgTWN joinFields) s (setJoin c j s) :=
  (WritesIn.of_eq (by rfl)).trans (showJoins_writesIn _)

theorem setJoin_out (c : Nat) (j : Join) (s : State) : (setJoin c j s).out = s.out := by
  unfold setJoin showJoins
  rw [setF_out, setF_out, setF_out]
  rfl

/-! ## A channel is muted -/

/-- what TWN alone writes leaves a channel's state. -/
theorem act_of_twnOnly (h : State.regsBut [pgTWN] s t) (c : Nat) : act (pgECH c) t = act (pgECH c) s := by
  refine (regsBut_iff.1 h).getF ?_
  rw [key_div (by decide), List.mem_singleton]
  simp only [pgECH, pgTWN]
  omega

theorem setJoin_act (c : Nat) (j : Join) (s : State) : act (pgECH c) (setJoin c j s) = act (pgECH c) s :=
  act_of_twnOnly (regsBut_iff.2 ((setJoin_writesIn c j s).mono fun _ hk => List.mem_singleton.2 (div_of_atFields (by decide) hk))) c

theorem countTokens_twn (c x : Nat) (own group : Fld) (s : State) : (countTokens c x own group s).twn = s.twn := by
  unfold countTokens
  dsimp only
  split <;> simp

/-- what a muted channel's page reads, and its join state. -/
theorem muteChannel_shows {c : Nat} (hc : c < 32) (reason : Nat) (j : Join) (s : State) :
    act (pgECH c) (muteChannel c reason j s) = stMUTED ∧ joinOf c (muteChannel c reason j s) = some j := by
  unfold muteChannel
  extract_lets +onlyGivenNames p s1 left s2 s3
  have hraise : ∀ u, act (pgECH c) (raise pgTWN 6 u) = act (pgECH c) u := fun u => act_of_twnOnly (raise_regsBut _ _ _ (by decide)) c
  constructor
  · rw [echRefresh_act hc, hraise, setJoin_act, setAct_act (by decide)]
  · unfold joinOf
    rw [echRefresh_twn, raise_twn, setJoin_twn, SMap.find_put, if_pos rfl]

/-! ## A join that fails (R257) -/

theorem joinFails_follower {c : Nat} (hrole : twinRole s ≠ 2) :
    joinFails c s = twinSend 6 0 c 0 0 (beBytes 4 2) (muteChannel c 2 .waiting (raise pgTWN 8 (addF pgTWN TWN.C_join_fail 1 s))) := by
  have hkept : twinRole (raise pgTWN 8 (addF pgTWN TWN.C_join_fail 1 s)) = twinRole s :=
    (raise_getF _ _ _ _ (by decide) (by decide) (by decide) (by decide)).trans (getF_addF_field _ _ _ _ _ (by decide))
  exact if_neg (by rwa [hkept])

/-- a follower's channel whose join fails waits, muted, and the failure is counted. -/
theorem joinFails_waits {c : Nat} (hc : c < 32) (hrole : twinRole s ≠ 2) :
    joinOf c (joinFails c s) = some .waiting ∧ act (pgECH c) (joinFails c s) = stMUTED ∧ getF pgTWN (HDR.EVENT 8) (joinFails c s) = 1 ∧
      getF pgTWN TWN.C_join_fail (joinFails c s) = (getF pgTWN TWN.C_join_fail s + 1) % 2 ^ TWN.C_join_fail.width := by
  obtain ⟨u, hu⟩ : ∃ u, u = raise pgTWN 8 (addF pgTWN TWN.C_join_fail 1 s) := ⟨_, rfl⟩
  have hevent : getF pgTWN (HDR.EVENT 8) u = 1 := by rw [hu, raise_event]
  have hcount : getF pgTWN TWN.C_join_fail u = (getF pgTWN TWN.C_join_fail s + 1) % 2 ^ TWN.C_join_fail.width := by
    rw [hu, raise_getF _ _ _ _ (by decide) (by decide) (by decide) (by decide), getF_addF_same]
  obtain ⟨hact, hjoin⟩ := muteChannel_shows hc 2 .waiting u
  have hstays : PairStays u (muteChannel c 2 .waiting u) := muteChannel_pairStays (.refl u) _ _ _
  have hregs : (twinSend 6 0 c 0 0 (beBytes 4 2) (muteChannel c 2 .waiting u)).regs = (muteChannel c 2 .waiting u).regs :=
    twinSend_regs _ _ _ _ _ _ _ (by rw [beBytes_length]; decide)
  rw [joinFails_follower hrole, ← hu]
  refine ⟨?_, (act_congr hregs).trans hact, ?_, ?_⟩
  · exact (congrArg (fun x : TwnS => SMap.find c x.join) (twinSend_twn _ _ _ _ _ _ _)).trans hjoin
  · rw [getF_congr _ _ _ _ hregs, hstays.getF (by simp [pairFields]), hevent]
  · rw [getF_congr _ _ _ _ hregs, hstays.getF (by simp [pairFields]), hcount]

theorem snapAbort_fails {m : TwinMsg} (htakes : State.twinTakes m s) (hj : joinOf (msgChan m) s = some .joining) :
    exec (.snapAbort m) s = .next (joinFails (msgChan m) (afterMsg m s)) := by
  have hop := twinIn_takes htakes fun u =>
    if joinOf (msgChan m) u = some .joining then joinFails (msgChan m) u
    else if (SMap.find (msgChan m) u.twn.snaps).isSome then unpair (msgChan m) u else u
  rw [if_pos ((afterMsg_joinOf m s _).trans hj)] at hop
  exact congrArg Host.Outcome.next hop

theorem joinDeadlineOp_fails {c : Nat} {x : TwSnap} (hsnap : SMap.find c s.twn.snaps = some x) (hj : joinOf c s = some .joining) :
    joinDeadlineOp c s = joinFails c (reachNs (recordNs c x.pic 1 s) s) := by
  unfold joinDeadlineOp
  rw [hsnap]
  exact if_pos hj

/-! ## A join is asked for, and noted (R255, R256) -/

/-- a follower's channel that has asked to join. -/
def joinRequested (c : Nat) (s : State) : State := twinSend 7 0 c 0 0 [] (setAct (pgECH c) stMUTED 2 (setJoin c .waiting s))

theorem joinReqSendOp_waiting {c : Nat} (hf : follows c s = true) (hj : joinOf c s = some .waiting) (hact : act (pgECH c) s = stMUTED)
    (hcmd : cmdOf (pgECH c) s = stRUNNING) (hlink : isF pgTWN TWN.ST_link_up s = true) (hfw : isF pgTWN TWN.ST_fw_match s = true) :
    joinReqSendOp c s = joinRequested c s := by
  simp only [joinReqSendOp, hf, hj, hact, hcmd, hlink, hfw, Bool.not_true, bne_self_eq_false, Bool.or_self, Bool.false_eq_true, if_false,
    joinRequested]

/-- one message has left, and the channel waits, muted. -/
theorem joinRequested_waits {c : Nat} (hc : c < 32) (s : State) :
    ∃ d, (joinRequested c s).out = s.out ++ [⟨.twin, getF pgTWN TWN.CFG_link s, d⟩] ∧ d.head? = some 7 ∧
      joinOf c (joinRequested c s) = some .waiting ∧ act (pgECH c) (joinRequested c s) = stMUTED := by
  have hoff : pgTWN ∉ actPages (pgECH c) := by
    intro hp
    rcases List.mem_cons.1 hp with hp | hp
    · simp only [pgECH, pgTWN] at hp
      omega
    · exact absurd hp (by decide)
  have hlink : getF pgTWN TWN.CFG_link (setAct (pgECH c) stMUTED 2 (setJoin c .waiting s)) = getF pgTWN TWN.CFG_link s := by
    refine ((regsBut_iff.1 (setAct_regsBut _ _ _ _)).getF ?_).trans ((setJoin_writesIn _ _ _).getF (not_atFields (by decide)))
    rwa [key_div (by decide)]
  obtain ⟨d, hout, hd⟩ := twinSend_sends 7 0 c 0 0 [] (setAct (pgECH c) stMUTED 2 (setJoin c .waiting s)) (by decide)
  refine ⟨d, ?_, hd, joinOf_put (l := s.twn.join) ?_, ?_⟩
  · rw [joinRequested, hout, hlink, setAct_out, setJoin_out]
  · rw [joinRequested, twinSend_twn, setAct_twn, setJoin_twn]
  · rw [joinRequested, act_congr (twinSend_regs _ _ _ _ _ _ _ (by decide)), setAct_act (by decide)]

theorem joinReqOp_joinReqs {c : Nat} (h : leads c s = true) : SMap.find c (joinReqOp c s).twn.joinReqs = some (joinPicture c s) := by
  have hput : SMap.find c (SMap.put c (joinPicture c s) s.twn.joinReqs) = some (joinPicture c s) :=
    (SMap.find_put _ _ _ _).trans (if_pos rfl)
  unfold joinReqOp
  rw [h, if_neg (by decide)]
  dsimp only
  split <;> exact hput

/-- the registers of a channel by which its rows keep time (R125, R129). -/
def scheduleFields : List Fld := [ECH.DIM_height, ECH.FMT_field, ECH.FMT_ctu128, ECH.LAT_frame_plus]

theorem recordNs_afterMsg (m : TwinMsg) (c n k : Nat) (s : State) : recordNs c n k (afterMsg m s) = recordNs c n k s := by
  have hplaces : ∀ f ∈ scheduleFields, f.loc < 2 ^ 20 ∧ f.loc ∉ creditFields.map Fld.loc := by decide
  have hread : ∀ f ∈ scheduleFields, getF (pgECH c) f (afterMsg m s) = getF (pgECH c) f s := fun f hf =>
    afterMsg_getF m s _ f (hplaces f hf)
  have hlines : codedLines getF c (afterMsg m s) = codedLines getF c s := by
    unfold codedLines
    rw [hread _ (by simp [scheduleFields]), hread ECH.FMT_field (by simp [scheduleFields])]
  have hctu : ctuSize getF c (afterMsg m s) = ctuSize getF c s := by
    unfold ctuSize
    rw [hread _ (by simp [scheduleFields])]
  unfold recordNs rowEndAt tickOf spanNs plusLines linesTo isF
  rw [hlines, hctu, afterMsg_echOf, hread _ (by simp [scheduleFields])]

theorem joinPicture_afterMsg (m : TwinMsg) (c : Nat) (s : State) : joinPicture c (afterMsg m s) = joinPicture c s := by
  unfold joinPicture timeNs
  simp only [afterMsg_echOf, afterMsg_twn, afterMsg_tim, recordNs_afterMsg]

/-! ## The snapshot (R256, R257) -/

/-- the lead keeps the snapshot that it has sent, pairs with the channel and has answered its request. -/
def snapshotKept (c : Nat) (b : List Byte) (s : State) : State :=
  modTwn (fun t => { t with
    snaps := SMap.put c ⟨(echOf c s).nextPic, b, false⟩ t.snaps,
    joinReqs := SMap.drop c t.joinReqs, paired := c :: t.paired.filter (· != c) }) (sendParts c (echOf c s).nextPic b s)

/-- what has left with a snapshot: the record of the row too, and the lead is no longer solo. -/
def snapshotSent (c n : Nat) (body : List Byte) (s : State) : State :=
  addF pgTWN TWN.C_rec_tx 1 (setF pgTWN TWN.ST_solo 0 (twinSend 1 0 c 0 n body s))

theorem snapshotTakeOp_joins {c n : Nat} (hstays : c ∉ s.twn.leaving) (hreq : SMap.find c s.twn.joinReqs = some n) (hl : leads c s = true)
    (hrow : (echOf c s).nextRow = 1) (hjoin : (echOf c s).curJoin = true) (hpic : n ≤ (echOf c s).nextPic) :
    ∃ b body, snapshotTakeOp c s = snapshotSent c (echOf c s).nextPic body (snapshotKept c b s) := by
  have hleaving : ¬ s.twn.leaving.contains c = true := by simpa using hstays
  have hpoint : ¬ ((!leads c s) = true ∨ (echOf c s).nextRow ≠ 1 ∨ (!(echOf c s).curJoin) = true ∨ (echOf c s).nextPic < n) := by
    rw [hl, hrow, hjoin]
    simpa using hpic
  unfold snapshotTakeOp
  rw [if_neg hleaving]
  split
  next hnone => rw [hreq] at hnone; cases hnone
  next n' hsome =>
    obtain rfl : n = n' := Option.some.inj (hreq.symm.trans hsome)
    rw [if_neg hpoint]
    exact ⟨_, _, rfl⟩

theorem snapshotSent_pairs (c n : Nat) (b body : List Byte) (s : State) :
    let t := snapshotSent c n body (snapshotKept c b s)
    c ∈ t.twn.paired ∧ SMap.find c t.twn.joinReqs = none ∧ (SMap.find c t.twn.snaps).isSome = true ∧ isF pgTWN TWN.ST_solo t = false := by
  have htwn : (snapshotSent c n body (snapshotKept c b s)).twn = (snapshotKept c b s).twn := by
    rw [snapshotSent, addF_twn, setF_twn, twinSend_twn]
  dsimp only
  rw [htwn]
  refine ⟨List.mem_cons_self, (SMap.find_drop _ _ _).trans (if_pos rfl),
    congrArg Option.isSome ((SMap.find_put _ _ _ _).trans (if_pos rfl)), isF_of_zero ?_⟩
  rw [snapshotSent, getF_addF_field _ _ _ _ _ (by decide), getF_setF_same]
  rfl

theorem snapPartOp_first {m : TwinMsg} (hm : mirrored (msgChan m) s = true) (hj : joinOf (msgChan m) s = some .waiting)
    (hact : act (pgECH (msgChan m)) s = stMUTED) (hnone : SMap.find (msgChan m) s.twn.snaps = none) (hpart : snapWhole m.body = false) :
    snapPartOp m s = setAct (pgECH (msgChan m)) stMUTED 2 (setJoin (msgChan m) .joining
      (modTwn (fun t => { t with snaps := SMap.put (msgChan m) ⟨m.picture.toNat, m.body, false⟩ t.snaps }) s)) := by
  simp only [snapPartOp, hm, hj, hact, hnone, hpart, List.nil_append, Bool.not_true, Bool.not_false, bne_self_eq_false, Bool.or_self,
    Bool.false_eq_true, if_false, if_true]

theorem settleTail_twn (c : Nat) (b body : List Byte) (s : State) : (settleTail c b body s).twn = s.twn := by
  unfold settleTail
  dsimp only
  rw [countTokens_twn, addF_twn, addF_twn]
  rfl

theorem settleTail_role (c : Nat) (b body : List Byte) (s : State) : twinRole (settleTail c b body s) = twinRole s := by
  have hframe : ∀ f, PairStays s (modEch c f s) := fun _ => (PairStays.refl s).frame rfl
  have hcount : ∀ {u}, PairStays s u → ∀ x, PairStays s (countTokens c x ECH.RC_ACCRUED_tokens MUX.RECV_tokens u) := fun hu _ =>
    .ite (addF_pairStays (addF_pairStays hu _ _ _) _ _ _) (addF_pairStays hu _ _ _)
  exact (hcount (addF_pairStays (addF_pairStays (hframe _) _ _ _) _ _ _) _).getF (by simp [pairFields]) pgTWN

/-- a commit that verifies in time drops the snapshot and settles what it left open; a new lead's channel runs then. -/
theorem snapCommitOp_verifies {m : TwinMsg} {x : TwSnap} (hsnap : SMap.find (msgChan m) s.twn.snaps = some x)
    (hj : joinOf (msgChan m) s = some .joining) (hpic : x.pic = m.picture.toNat) (hlen : fieldAt 0 4 m.body = x.bytes.length)
    (hcheck : fieldAt 4 4 m.body = crc crc32c x.bytes) (hwhole : snapWhole x.bytes = true)
    (htime : timeNs s < recordNs (msgChan m) x.pic 1 s) (hrole : twinRole s = 2) :
    snapCommitOp m s = echRefresh (setAct (pgECH (msgChan m)) stRUNNING 0 (dropJoin (msgChan m)
      (settleTail (msgChan m) x.bytes m.body (modTwn (fun t => { t with snaps := SMap.drop (msgChan m) t.snaps }) s)))) := by
  obtain ⟨u, hu⟩ : ∃ u, u = settleTail (msgChan m) x.bytes m.body (modTwn (fun t => { t with snaps := SMap.drop (msgChan m) t.snaps }) s) :=
    ⟨_, rfl⟩
  have hlead : twinRole u = 2 := by rw [hu, settleTail_role]; exact hrole
  simp only [snapCommitOp, hsnap, hj, hpic, hlen, hcheck, hwhole, Nat.not_le.2 (hpic ▸ htime), ne_eq, not_true_eq_false, Bool.not_true,
    Bool.false_eq_true, or_self, if_false]
  rw [← hu, if_pos hlead]

end

/-- Settles O28: an operation in each clause once its message is taken up (`twinIn_takes`), and for a follower's join that fails what
muting it shows (`joinFails_waits`). -/
theorem joinsOfATwinPair : Obligations.JoinsOfATwinPair := by
  have hchan : ∀ m : TwinMsg, msgChan m < 32 := fun m => Nat.mod_lt _ (by decide)
  refine ⟨fun ch s hf hj hact hcmd hlink hfw => ?_, fun m s htakes hl => ?_, fun ch n s hstays hreq hl hrow hjoin hpic => ?_,
    fun m s htakes hm hj hact hnone hpart => ?_, fun m x s htakes hsnap hj hpic hlen hcheck hwhole htime hrole => ?_,
    fun m s htakes hj hrole => ?_, fun ch x s hsnap hj hrole => ?_⟩
  · obtain ⟨d, hout, hd, hj', hact'⟩ := joinRequested_waits ch.isLt s
    exact ⟨_, d, congrArg Host.Outcome.next (joinReqSendOp_waiting hf hj hact hcmd hlink hfw), hout, hd, hj', hact'⟩
  · refine ⟨_, congrArg Host.Outcome.next (twinIn_takes htakes (joinReqOp (msgChan m))), ?_⟩
    rw [joinReqOp_joinReqs ((afterMsg_leads m s _).trans hl), joinPicture_afterMsg]
  · obtain ⟨b, body, hop⟩ := snapshotTakeOp_joins hstays hreq hl hrow hjoin hpic
    exact ⟨_, congrArg Host.Outcome.next ((if_pos rfl).trans hop), snapshotSent_pairs _ _ _ _ _⟩
  · have hop := (twinIn_takes htakes (snapPartOp m)).trans (snapPartOp_first ((afterMsg_mirrored m s _).trans hm)
      ((afterMsg_joinOf m s _).trans hj) ((afterMsg_act m s _).trans hact) (by rwa [afterMsg_twn]) hpart)
    refine ⟨_, congrArg Host.Outcome.next hop, joinOf_put (l := (afterMsg m s).twn.join) ?_, ?_, setAct_act (by decide)⟩
    · rw [setAct_twn, setJoin_twn]
      rfl
    · rw [setAct_twn, setJoin_twn]
      exact (SMap.find_put _ _ _ _).trans (if_pos rfl)
  · have hop := (twinIn_takes htakes (snapCommitOp m)).trans (snapCommitOp_verifies (by rwa [afterMsg_twn])
      ((afterMsg_joinOf m s _).trans hj) hpic hlen hcheck hwhole (by rwa [recordNs_afterMsg, timeNs, afterMsg_tim]) ((afterMsg_twinRole m s).trans hrole))
    refine ⟨_, congrArg Host.Outcome.next hop, ?_, ?_, ?_⟩
    · rw [echRefresh_act (hchan m), setAct_act (by decide)]
    · rw [joinOf, echRefresh_twn, setAct_twn, dropJoin_twn]
      exact (SMap.find_drop _ _ _).trans (if_pos rfl)
    · rw [echRefresh_twn, setAct_twn, dropJoin_twn, settleTail_twn]
      exact (SMap.find_drop _ _ _).trans (if_pos rfl)
  · obtain ⟨hwaits, hmuted, hevent, hcount⟩ := joinFails_waits (hchan m) (s := afterMsg m s) (by rwa [afterMsg_twinRole])
    refine ⟨_, snapAbort_fails htakes hj, hwaits, hmuted, hevent, hcount.trans ?_⟩
    rw [afterMsg_getF m s _ TWN.C_join_fail]
  · have hfails := joinDeadlineOp_fails hsnap hj
    have hrole' : twinRole (reachNs (recordNs ch.val x.pic 1 s) s) ≠ 2 := by rwa [twinRole, getF_congr _ _ _ _ (reachNs_regs _ _)]
    obtain ⟨hwaits, hmuted, hevent, -⟩ := joinFails_waits ch.isLt hrole'
    exact ⟨_, congrArg Host.Outcome.next hfails, hwaits, hmuted, hevent⟩

end Sys2Proof.Machine
end

section
/-! # Packets that one device of a pair asks of the other (R249) -/

namespace Sys2Proof.Machine

/-! ## A merge that takes a packet, or gives one up (R84, R97) -/

theorem find_filter_of_none {α : Type} {k : Nat} {m : SMap α} (P : Nat × α → Bool) (h : SMap.find k m = none) :
    SMap.find k (m.filter P) = none := by
  induction m with
  | nil => rfl
  | cons e m ih =>
    obtain ⟨j, v⟩ := e
    by_cases hj : j = k
    · simp [SMap.find, hj] at h
    · rw [SMap.find, if_neg hj] at h
      rw [List.filter_cons]
      split
      · rw [SMap.find, if_neg hj, ih h]
      · exact ih h

section
variable (limit window now step u key line media : Nat) (m : Merge)

theorem deliver_got : (SMap.find u (m.deliver limit window now step u key line media).1.got).isSome = true := by
  unfold Merge.deliver
  rw [SMap.find_put, if_pos rfl]
  rfl

/-- the number delivered waits no more: the numbers passed over are all below it. -/
theorem deliver_expiry : SMap.find u (m.deliver limit window now step u key line media).1.expiry = none := by
  unfold Merge.deliver
  refine find_filter_of_none _ (List.foldlRecOn (motive := fun e => SMap.find u e = none) _ _ ?_ fun e he v hv => ?_)
  · rw [SMap.find_drop, if_pos rfl]
  · obtain ⟨k, hk, rfl⟩ := List.mem_map.1 hv
    rw [List.mem_range] at hk
    rw [SMap.find_put, if_neg (by omega), he]

end

theorem lose_expiry (u : Nat) (m : Merge) : SMap.find u (m.lose u).expiry = none := (SMap.find_drop _ _ _).trans (if_pos rfl)

/-! ## The merge of a packet's source -/

section
variable {src f : Nat} {s : State}

theorem sourceMerge_congr {t : State} (hdch : t.dch = s.dch) (hing : t.ing = s.ing) : sourceMerge src f t = sourceMerge src f s := by
  unfold sourceMerge dchOf ingMerge ingOf
  rw [hdch, hing]

theorem sourceMerge_setSourceMerge (m : Merge) (s : State) : sourceMerge src f (setSourceMerge src f m s) = m := by
  unfold sourceMerge setSourceMerge
  split
  · rw [dchOf_modDch]
  · exact ingMerge_setIngMerge _ _ _

theorem dchOf_congr {t : State} (i : Nat) (h : t.dch = s.dch) : dchOf i t = dchOf i s := by
  unfold dchOf
  rw [h]

theorem sourceMerge_dchStore (hsrc : 128 ≤ src) (pkt : MediaPkt) (s : State) :
    sourceMerge src f (dchStore (src % 16) pkt s) = sourceMerge src f s := by
  unfold sourceMerge dchStore
  rw [if_pos hsrc, if_pos hsrc, dchOf_congr _ (addF_dch _ _ _ _), dchOf_modDch]

theorem setSourceMerge_twn (m : Merge) (s : State) : (setSourceMerge src f m s).twn = s.twn := by
  unfold setSourceMerge
  split <;> rfl

/-- a patch that a decode channel asked for, and that is still undecided, is delivered to its merge. -/
theorem storePatch_delivers {u : Nat} (pkt : MediaPkt) (hsrc : 128 ≤ src) (hopen : (sourceMerge src f s).undecided (2 ^ 15) s.clk u = true) :
    let t := storePatch src f u pkt s
    (SMap.find u (sourceMerge src f t).got).isSome = true ∧ SMap.find u (sourceMerge src f t).expiry = none ∧ t.twn = s.twn ∧
      ∀ g : Fld, g.loc < 2 ^ 20 → getF pgTWN g t = getF pgTWN g s := by
  unfold storePatch
  simp only [if_pos hsrc, hopen, Bool.not_true, Bool.false_eq_true, if_false]
  rw [sourceMerge_dchStore hsrc, sourceMerge_setSourceMerge]
  refine ⟨deliver_got _ _ _ _ _ _ _ _ _, deliver_expiry _ _ _ _ _ _ _ _ _, setSourceMerge_twn _ _, fun g hg => ?_⟩
  rw [(dchStore_writesIn _ _ _).getF fun hk => ?_, getF_congr _ _ _ _ (setSourceMerge_regs _ _ _ _)]
  have hpage := div_of_atFields (by decide) hk
  rw [key_div hg] at hpage
  simp only [pgTWN, pgDCH] at hpage
  omega

/-! ## A packet asked for that is given up -/

theorem sourceMerge_concealMissing (hsrc : ¬ 128 ≤ src) (e : Undecided) (s : State) :
    sourceMerge src f (concealMissing (src % 64) (flowKind f) e s) = sourceMerge src f s := by
  unfold sourceMerge
  rw [if_neg hsrc, if_neg hsrc, ingMerge_concealMissing]

theorem concealMissing_twn (i : Nat) (k : FlowKind) (e : Undecided) (s : State) : (concealMissing i k e s).twn = s.twn := by
  unfold concealMissing
  split
  · rw [raise_twn, addF_twn]
    rfl
  · rfl

theorem concealMissing_regsBut (i : Nat) (k : FlowKind) (e : Undecided) (s : State) : State.regsBut [pgING i] s (concealMissing i k e s) := by
  unfold concealMissing
  refine .ite (State.regsBut.trans ?_ (raise_regsBut _ 9 _ (by decide))) (.refl _ _)
  exact State.regsBut.trans (t := modIng i _ s) (.of_eq rfl) (addF_regsBut _ _ _ _ (by cases k <;> decide))

/-- the pages of the ingest channels. -/
def ingPages : List Nat := (List.range 64).map pgING

/-- a packet given up is asked for no more, its merge waits for it no more, and registers of ingest pages alone may change. -/
structure GivesUp (e : Nat × Nat) (s t : State) : Prop where
  expiry : SMap.find e.2 (sourceMerge (e.1 / 8) (e.1 % 8) t).expiry = none
  patches : t.twn.patches = s.twn.patches.filter (· != e)
  regs : State.regsBut ingPages s t

theorem loseAsked_givesUp (e : Nat × Nat) (s : State) : GivesUp e s (loseAsked e s) := by
  have hdropped : GivesUp e s
      (setSourceMerge (e.1 / 8) (e.1 % 8) ((sourceMerge (e.1 / 8) (e.1 % 8) s).lose e.2) (dropPatch e s)) := by
    refine ⟨?_, congrArg TwnS.patches (setSourceMerge_twn _ _), .of_eq (setSourceMerge_regs _ _ _ _)⟩
    rw [sourceMerge_setSourceMerge, lose_expiry]
  unfold loseAsked
  dsimp only
  split
  · split
    · exact hdropped
    next hsrc =>
      refine ⟨?_, ?_, hdropped.regs.trans ((concealMissing_regsBut _ _ _ _).mono fun p hp => ?_)⟩
      · rw [sourceMerge_concealMissing hsrc, hdropped.expiry]
      · rw [concealMissing_twn, hdropped.patches]
      · rw [List.mem_singleton.1 hp]
        exact List.mem_map_of_mem (List.mem_range.2 (Nat.mod_lt _ (by decide)))
  · exact hdropped

theorem foldl_loseAsked_patches (l : List (Nat × Nat)) (s : State) :
    (l.foldl (fun u e => loseAsked e u) s).twn.patches = s.twn.patches.filter (· ∉ l) := by
  induction l generalizing s with
  | nil => simp
  | cons e l ih =>
    rw [List.foldl_cons, ih, (loseAsked_givesUp e s).patches, List.filter_filter]
    refine List.filter_congr fun x _ => ?_
    by_cases hx : x = e <;> simp [hx]

theorem foldl_loseAsked_regsBut (l : List (Nat × Nat)) (s : State) :
    State.regsBut ingPages s (l.foldl (fun u e => loseAsked e u) s) :=
  .foldl _ (fun u e => (loseAsked_givesUp e u).regs) l s

theorem getF_of_ingPages {t : State} {g : Fld} (h : State.regsBut ingPages s t) (hg : g.loc < 2 ^ 20) : getF pgTWN g t = getF pgTWN g s := by
  refine (regsBut_iff.1 h).getF ?_
  rw [key_div hg]
  decide

/-- what a channel codes from is read in the pages of its path, which lie above those of ingest. -/
theorem echRoot_of_regsBut {t : State} (h : State.regsBut (pgTWN :: ingPages) s t) (c : Nat) : echRoot getF c t = echRoot getF c s := by
  have hread : ∀ (p : Nat) (g : Fld), 0x0A0 ≤ p → getF p g t = getF p g s := by
    intro p g hp
    refine (regsBut_iff.1 h).getF fun hk => ?_
    simp only [ingPages, pgTWN, pgING, List.mem_cons, List.mem_map, List.mem_range, Fld.key] at hk
    omega
  have hpath : ∀ n, cndRoot n t = cndRoot n s := by
    intro n
    have hunit : 0x0A0 ≤ pgCND (cndUnit n) := Nat.le_add_right _ _
    unfold cndRoot pathSource isF
    rw [hread _ _ hunit, hread _ _ hunit, hread _ _ hunit]
  have hch : 0x0A0 ≤ pgECH c := Nat.le_trans (by decide) (Nat.le_add_right 0x100 c)
  unfold echRoot
  rw [hread _ _ hch, hread _ _ hch]
  split
  · rfl
  · exact hpath _
  · rfl

end

/-! ## The four operations -/

section
variable {m : TwinMsg} {s : State}

/-- one packet is asked for: one message answers, with the packet or to say that there is none. -/
theorem patchReqOp_one {packets : List (List Byte)} (hrole : twinRole s = 2) (hn : fieldAt 2 2 m.body = 1) :
    ∃ kind body, patchReqOp m packets s = twinSend kind 0 0xFF 0 0 body s ∧
      kind = if (SMap.find ((sourceMerge (fieldAt 0 1 m.body) (fieldAt 1 1 m.body) s).place
            (sourceBits (fieldAt 0 1 m.body) (fieldAt 1 1 m.body))
            (fieldAt 4 4 m.body % 2 ^ sourceBits (fieldAt 0 1 m.body) (fieldAt 1 1 m.body)))
            (sourceMerge (fieldAt 0 1 m.body) (fieldAt 1 1 m.body) s).got).isSome ∧ packets ≠ []
        then 0x11 else 0x12 := by
  unfold patchReqOp
  simp only [hrole, hn, ne_eq, not_true_eq_false, if_false, show min 8 1 = 1 from rfl, List.range_one, List.foldl_cons, List.foldl_nil,
    Nat.mul_zero, Nat.add_zero]
  cases packets with
  | nil => exact ⟨_, _, rfl, by simp⟩
  | cons p rest =>
    dsimp only
    split
    next hheld => exact ⟨_, _, rfl, by simp [hheld]⟩
    next hnot => exact ⟨_, _, rfl, by simp [hnot]⟩

theorem patchAsked_afterMsg : patchAsked m (afterMsg m s) = patchAsked m s := by
  unfold patchAsked
  rw [afterMsg_twn]

theorem patchOp_asked {e : Nat × Nat} (pkt : MediaPkt) (h : patchAsked m s = some e) :
    patchOp m pkt s =
      addF pgTWN TWN.C_patch_rx 1 (storePatch (e.1 / 8) (e.1 % 8) e.2 { pkt with seq := fieldAt 4 4 m.body } (dropPatch e s)) := by
  unfold patchOp
  rw [h]

theorem patchNoneOp_asked {e : Nat × Nat} (h : patchAsked m s = some e) :
    patchNoneOp m s = addF pgTWN TWN.C_patch_none 1 (loseAsked e s) := by
  unfold patchNoneOp
  rw [h]

end

/-- the last moment for a channel's row, by the record that releases it (R249). -/
def patchDeadline (c : Nat) (s : State) : Nat :=
  let r := ((dueRelease c s).map fun r => (r.pic, r.row)).getD ((echOf c s).nextPic, (echOf c s).nextRow)
  recordNs c r.1 r.2 s + ackNs s

theorem patchWaitExpiryOp_waits {c : Nat} {s : State} (hf : follows c s = true) (hl : patchesOf c s ≠ []) :
    patchWaitExpiryOp c s = raise pgTWN 16 (addF pgTWN TWN.C_patch_late 1
      ((patchesOf c s).foldl (fun u e => loseAsked e u) (reachNs (patchDeadline c s) s))) := by
  refine if_neg ?_
  rw [hf, List.isEmpty_iff]
  simpa using hl

/-- Settles O29: a request is answered by one message (`patchReqOp_one`), a patch is delivered to its merge (`storePatch_delivers`), and
what is asked for and does not come is given up, one packet or all that a row still waits for (`loseAsked_givesUp`). -/
theorem patchesOfATwinPair : Obligations.PatchesOfATwinPair := by
  refine ⟨fun m packets s htakes hrole hn => ?_, fun m pkt e s htakes hasked hsrc hopen => ?_, fun m e s htakes hasked => ?_,
    fun ch s hf hl => ?_⟩
  · obtain ⟨kind, body, hop, hkind⟩ := patchReqOp_one (packets := packets) ((afterMsg_twinRole m s).trans hrole) hn
    obtain ⟨d, hout, hd⟩ := twinSend_sends kind 0 0xFF 0 0 body (afterMsg m s) (by rw [hkind]; split <;> decide)
    refine ⟨_, d, congrArg Host.Outcome.next ((twinIn_takes htakes (patchReqOp m packets)).trans hop), ?_, ?_⟩
    · rw [hout, afterMsg_out, afterMsg_getF m s _ TWN.CFG_link]
    · rw [hd, hkind, sourceMerge_congr (afterMsg_dch m s) (afterMsg_ing m s)]
  · have hmerge : sourceMerge (e.1 / 8) (e.1 % 8) (dropPatch e (afterMsg m s)) = sourceMerge (e.1 / 8) (e.1 % 8) s :=
      sourceMerge_congr (afterMsg_dch m s) (afterMsg_ing m s)
    obtain ⟨hgot, hexpiry, htwn, hreg⟩ := storePatch_delivers (u := e.2) (s := dropPatch e (afterMsg m s))
      { pkt with seq := fieldAt 4 4 m.body } hsrc (by
        rw [hmerge]
        exact (congrArg (fun k => Merge.undecided (2 ^ 15) k e.2 _) (afterMsg_clk m s)).trans hopen)
    refine ⟨_, congrArg Host.Outcome.next ((twinIn_takes htakes (patchOp m pkt)).trans (patchOp_asked pkt (patchAsked_afterMsg.trans hasked))),
      ?_, hgot, hexpiry, ?_⟩
    · rw [addF_twn, htwn]
      exact (congrArg (fun t : TwnS => t.patches.filter (· != e)) (afterMsg_twn m s) :)
    · rw [getF_addF_same, hreg _ (by decide)]
      exact congrArg (fun n => (n + 1) % _) (afterMsg_getF m s pgTWN TWN.C_patch_rx)
  · have hgone := loseAsked_givesUp e (afterMsg m s)
    refine ⟨_, congrArg Host.Outcome.next ((twinIn_takes htakes (patchNoneOp m)).trans (patchNoneOp_asked (patchAsked_afterMsg.trans hasked))),
      ?_, hgone.expiry, ?_⟩
    · rw [addF_twn, hgone.patches, afterMsg_twn]
    · rw [getF_addF_same, getF_of_ingPages hgone.regs (by decide), afterMsg_getF m s _ TWN.C_patch_none]
  · obtain ⟨u, hu⟩ : ∃ u, u = reachNs (patchDeadline ch.val s) s := ⟨_, rfl⟩
    have hpatches : u.twn.patches = s.twn.patches := by rw [hu, reachNs_frame]
    have hregs : u.regs = s.regs := by rw [hu, reachNs_regs]
    have hgone := foldl_loseAsked_regsBut (patchesOf ch.val s) u
    have hbut : State.regsBut (pgTWN :: ingPages) s (patchWaitExpiryOp ch.val s) := by
      rw [patchWaitExpiryOp_waits hf hl, ← hu]
      refine ((State.regsBut.of_eq hregs).trans (hgone.mono fun p hp => List.mem_cons_of_mem _ hp)).trans
        (((addF_regsBut _ _ _ _ (by decide)).trans (raise_regsBut _ 16 _ (by decide))).mono fun p hp => ?_)
      exact List.mem_singleton.1 hp ▸ List.mem_cons_self
    have hasked : (patchWaitExpiryOp ch.val s).twn.patches = s.twn.patches.filter (· ∉ patchesOf ch.val s) := by
      rw [patchWaitExpiryOp_waits hf hl, ← hu, raise_twn, addF_twn, foldl_loseAsked_patches, hpatches]
    refine ⟨_, rfl, ?_, ?_, ?_, hbut⟩
    · unfold patchesOf
      rw [hasked, echRoot_of_regsBut hbut, List.filter_eq_nil_iff]
      intro e he hsource
      obtain ⟨hmem, hnot⟩ := List.mem_filter.1 he
      simp [patchesOf, hmem] at hnot hsource
      exact hnot hsource
    · rw [patchWaitExpiryOp_waits hf hl]
      exact raise_event _ _ _
    · rw [patchWaitExpiryOp_waits hf hl, ← hu, raise_getF _ _ _ _ (by decide) (by decide) (by decide) (by decide), getF_addF_same,
        getF_of_ingPages hgone (by decide), getF_congr _ _ _ _ hregs]

end Sys2Proof.Machine
end

section
/-! # What steers the time counter, and what it leaves of TIM (R271, R275 to R282, R288)

The choice of the governing port, the servo, a step of the counter and the grandmaster that a port shows write registers of TIM, but
neither its counters of messages and jumps nor its path guards: `Steers`. As for `Calm`, each operation `f` has one lemma `f_steers`,
whose proof is the body of `f` with each operation replaced by its lemma. -/

namespace Sys2Proof.Machine

/-- the places in TIM of what only the messages of a port and its path guard write: their counters, the guards and their events. -/
def messagePlaces : List Nat :=
  [0, 1].flatMap (fun i => [(TIM.PORT_sync_rx i).loc, (TIM.PORT_delay_tx i).loc, (TIM.PORT_ann_rx i).loc, (TIM.PORT_jumps i).loc]) ++
    [TIM.ST_guard_a.loc, TIM.ST_guard_b.loc, (HDR.EVENT 5).loc, (HDR.EVENT 6).loc, (HDR.EVENT 7).loc]

/-- the registers of TIM at other places. -/
def OffMessages (k : Nat) : Prop := k / 2 ^ 20 = pgTIM ∧ OffPlaces messagePlaces k

theorem offMessages_of {f : Fld} (h : f.loc < 2 ^ 20 ∧ f.loc ∉ messagePlaces) : OffMessages (f.key pgTIM) :=
  ⟨key_div h.1, offPlaces_of h.1 h.2⟩

/-- From `s` to `t` the time counter is steered: of the registers only TIM's at other places than `messagePlaces` are written, and the
ports' own state and the scheduled writes stay. -/
structure Steers (s t : State) : Prop where
  regs : WritesIn OffMessages s t
  ports : t.tim.ports = s.tim.ports
  wats : t.hap.wats = s.hap.wats

section
variable {a s t u : State}

theorem Steers.refl (s : State) : Steers s s := ⟨.refl s, rfl, rfl⟩

theorem Steers.trans (h : Steers s t) (k : Steers t u) : Steers s u :=
  ⟨h.regs.trans k.regs, k.ports.trans h.ports, k.wats.trans h.wats⟩

theorem Steers.ite {c : Prop} [Decidable c] (h : Steers a s) (k : Steers a t) : Steers a (if c then s else t) := by
  split <;> assumption

/-- an update that leaves the registers, the ports and the scheduled writes alone. -/
theorem Steers.frame (h : Steers a s) (e : (t.regs, t.tim.ports, t.hap.wats) = (s.regs, s.tim.ports, s.hap.wats)) : Steers a t := by
  simp only [Prod.mk.injEq] at e
  obtain ⟨hregs, hports, hwats⟩ := e
  exact h.trans ⟨.of_eq hregs, hports, hwats⟩

theorem Steers.getF (h : Steers s t) {f : Fld} (hf : f.loc < 2 ^ 20 ∧ f.loc ∈ messagePlaces) : getF pgTIM f t = getF pgTIM f s :=
  h.regs.getF fun hk => not_offPlaces hf.1 hf.2 hk.2

theorem Steers.regsBut (h : Steers s t) : State.regsBut [pgTIM] s t := h.regs.mono fun _ hk => List.mem_singleton.2 hk.1

theorem setF_steers (h : Steers a s) (f : Fld) (v : Nat) (hf : f.loc < 2 ^ 20 ∧ f.loc ∉ messagePlaces := by decide) :
    Steers a (setF pgTIM f v s) := h.trans ⟨setF_writesIn (offMessages_of hf), rfl, rfl⟩

theorem raise_steers (h : Steers a s) (k : Nat) (hk : ∀ f ∈ eventFields k, f.loc < 2 ^ 20 ∧ f.loc ∉ messagePlaces := by decide) :
    Steers a (raise pgTIM k s) :=
  h.trans ⟨raise_writesIn fun f hf => offMessages_of (hk f hf), congrArg TimS.ports (raise_tim _ _ _),
    (congrArg HapS.wats (raise_hapKept pgTIM k s).hap).trans rfl⟩

theorem raiseIf_steers (h : Steers a s) (c : Bool) (k : Nat)
    (hk : ∀ f ∈ eventFields k, f.loc < 2 ^ 20 ∧ f.loc ∉ messagePlaces := by decide) : Steers a (raiseIf c pgTIM k s) :=
  .ite (raise_steers h k hk) h

theorem setTim_steers {m : TimS} (h : Steers a s) (hm : m.ports = s.tim.ports) : Steers a (setTim m s) :=
  h.trans ⟨.of_eq rfl, hm, rfl⟩

/-! ## The governing port (R275, R282) -/

theorem governBy_steers {i : Nat} (h : Steers a s) : Steers a (governBy i s) :=
  .ite h (raise_steers (setF_steers (setTim_steers h (by rfl)) _ _) _)

theorem noteA_steers (h : Steers a s) : Steers a (noteA s) :=
  .ite (setTim_steers h (by rfl)) (.ite (setTim_steers h (by rfl)) h)

theorem choosePort_steers (h : Steers a s) : Steers a (choosePort s) :=
  .ite (setF_steers (governBy_steers h) _ _) (.ite (governBy_steers (setF_steers (governBy_steers h) _ _))
    (.ite (setF_steers (governBy_steers h) _ _) (.ite (governBy_steers h) (setF_steers (governBy_steers h) _ _))))

theorem reselect_steers (h : Steers a s) : Steers a (reselect s) := noteA_steers (choosePort_steers h)

/-! ## Holdover and pulses (R277, R285) -/

theorem setPulse_steers {n v : Nat} (h : Steers a s) : Steers a (setPulse n v s) := h.frame (by rfl)

theorem settlePulse_steers {old : State} {n : Nat} (h : Steers a s) : Steers a (settlePulse old n s) :=
  .ite (setPulse_steers h) (.ite (setPulse_steers h) h)

theorem settlePulses_steers {old : State} (h : Steers a s) : Steers a (settlePulses old s) :=
  settlePulse_steers (settlePulse_steers h)

theorem setFreq_steers {f : Int} (h : Steers a s) : Steers a (setFreq f s) := setTim_steers h (by rfl)

theorem holdFreq_steers (h : Steers a s) : Steers a (holdFreq s) := setTim_steers (setFreq_steers h) (by rfl)

theorem holdoverIf_steers (h : Steers a s) : Steers a (holdoverIf s) :=
  .ite (settlePulses_steers (raise_steers (setF_steers (holdFreq_steers h) _ _) _)) h

/-! ## The servo, and a solution of the governing port (R271, R276 to R280) -/

theorem stepCounter_steers {ns : Int} (h : Steers a s) : Steers a (stepCounter ns s) :=
  raise_steers (setF_steers (setF_steers (setF_steers (setTim_steers h (by rfl)) _ _) _ _) _ _) _

theorem servo_steers {offset : Int} {age : Nat} (h : Steers a s) : Steers a (servo offset age s) :=
  raiseIf_steers (setTim_steers (setFreq_steers (setTim_steers h (by rfl))) (by rfl)) _ _

theorem countLock_steers {offset : Int} (h : Steers a s) : Steers a (countLock offset s) :=
  .ite (setTim_steers h (by rfl)) (setTim_steers h (by rfl))

theorem alarmOffset_steers {offset : Int} (h : Steers a s) : Steers a (alarmOffset offset s) :=
  raiseIf_steers (setTim_steers h (by rfl)) _ _

theorem crossCheck_steers (h : Steers a s) : Steers a (crossCheck s) :=
  .ite (.ite (setTim_steers h (by rfl)) (setTim_steers h (by rfl))) h

theorem withdrawGrant_steers (h : Steers a s) : Steers a (withdrawGrant s) :=
  .ite (raise_steers (setF_steers h _ _) _) h

theorem expireGrant_steers (h : Steers a s) : Steers a (expireGrant s) := .ite h (withdrawGrant_steers h)

theorem governSolution_steers {offset : Int} {age : Nat} (h : Steers a s) : Steers a (governSolution offset age s) := by
  unfold governSolution
  extract_lets +onlyGivenNames s0
  have h0 : Steers a s0 := expireGrant_steers (alarmOffset_steers (setF_steers h _ _))
  have hservo : Steers a (countLock offset (servo offset age s0)) := countLock_steers (servo_steers h0)
  exact .ite (stepCounter_steers (setF_steers h0 _ _))
    (.ite (.ite (setTim_steers h0 (by rfl)) (setF_steers (setF_steers (stepCounter_steers (setTim_steers h0 (by rfl))) _ _) _ _))
      (.ite (setF_steers hservo _ _) hservo))

/-! ## The grandmaster that a port shows (R273, R290) -/

/-- what a port shows of its grandmaster. -/
def masterFields (i : Nat) : List Fld :=
  [TIM.PORT_gm_id i, TIM.PORT_priority1 i, TIM.PORT_clock_class i, TIM.PORT_steps_removed i]

theorem masterFields_offMessages : ∀ i < 2, ∀ f ∈ masterFields i, f.loc < 2 ^ 20 ∧ f.loc ∉ messagePlaces := by decide

theorem showMaster_steers {i : Nat} (hi : i < 2) (gm : Announce) (h : Steers a s) : Steers a (showMaster i gm s) := by
  have hoff := masterFields_offMessages i hi
  have hshown : Steers a (setF pgTIM (TIM.PORT_gm_id i) (gm.gmId.toNat % 2 ^ 32 * 2 ^ 32 + gm.gmId.toNat / 2 ^ 32)
      (setF pgTIM (TIM.PORT_priority1 i) gm.priority1.toNat (setF pgTIM (TIM.PORT_clock_class i) gm.clockClass.toNat
        (setF pgTIM (TIM.PORT_steps_removed i) gm.stepsRemoved.toNat s)))) :=
    setF_steers (setF_steers (setF_steers (setF_steers h _ _ (hoff _ (by simp [masterFields]))) _ _ (hoff _ (by simp [masterFields])))
      _ _ (hoff _ (by simp [masterFields]))) _ _ (hoff _ (by simp [masterFields]))
  exact .ite (setF_steers (setF_steers hshown _ _) _ _) hshown

end

end Sys2Proof.Machine
end

section
/-! # Messages of the PTP ports, and the path guard (R273, R274, R281, R286) -/

namespace Sys2Proof.Machine

/-! ## A port's own state -/

section
variable {i ctl : Nat} {s t : State}

theorem timPort_modTimPort (i : Nat) (f : TimPort → TimPort) (s : State) : timPort i (modTimPort i f s) = f (timPort i s) := by
  unfold timPort modTimPort modAt
  exact (SMap.get_put _ _ _ _ _).trans (if_pos rfl)

theorem modTimPort_getF (i : Nat) (f : TimPort → TimPort) (p : Nat) (g : Fld) (s : State) :
    getF p g (modTimPort i f s) = getF p g s := getF_congr _ _ _ _ rfl

theorem timPort_congr (i : Nat) (h : t.tim.ports = s.tim.ports) : timPort i t = timPort i s := by
  unfold timPort; rw [h]

theorem Steers.timPort (h : Steers s t) (i : Nat) : timPort i t = Machine.timPort i s := timPort_congr i h.ports

/-- the status bit of a port's path guard. -/
def guardField (i : Nat) : Fld := if i = 0 then TIM.ST_guard_a else TIM.ST_guard_b

theorem guardOpen_eq (i : Nat) (s : State) : guardOpen i s = isF pgTIM (guardField i) s := rfl

/-! ## A message is taken up (R35, R327) -/

theorem CellsOnly.tim (h : CellsOnly s t) : t.tim = s.tim := by rw [show t = { s with regs := t.regs, stk := t.stk } from h]

theorem popPkt_regsBut {q : Nat} {k : StkPkt} (h : popPkt q s = some (k, t)) : State.regsBut [pgSTK] s t := by
  unfold popPkt at h
  extract_lets x at h
  split at h
  · cases h
  · split at h
    · cases h
    · cases h
      exact popped_regsBut

theorem takeIn_regsBut (i ctl : Nat) (s : State) : State.regsBut [pgETH i, pgSTK] s (takeIn i ctl s) := by
  have hport : ∀ {u v : State}, State.regsBut [pgETH i] u v → State.regsBut [pgETH i, pgSTK] u v := fun h => h.mono (by simp)
  have hflight : ∀ u, State.regsBut [pgETH i, pgSTK] u (subF (pgETH i) ETH.INFLIGHT_frames 1 u) := fun u =>
    hport (setF_regsBut _ ETH.INFLIGHT_frames _ u (by decide))
  have hreceived : State.regsBut [pgETH i, pgSTK] s (ethReceived i s) := hport (addF_regsBut _ _ _ s (by decide))
  unfold takeIn
  split
  · exact .ite hreceived (hflight s)
  · split
    · next hpop => exact ((popPkt_regsBut hpop).mono (by simp)).trans (hflight _)
    · exact hreceived

theorem acceptIn_cellsOnly (i ctl : Nat) (s : State) : CellsOnly s (acceptIn i ctl s) :=
  (takeIn_cellsOnly i ctl s).trans (setF_regsOnly _ _ _ _).cellsOnly

theorem acceptIn_regsBut (i ctl : Nat) (s : State) : State.regsBut [pgETH i, pgSTK] s (acceptIn i ctl s) :=
  (takeIn_regsBut i ctl s).trans ((addF_regsBut (pgETH i) ETH.DELIV_frames 1 _ (by decide)).mono (by simp))

theorem acceptIn_getF (hi : i < 2) {f : Fld} (hf : f.loc < 2 ^ 20) : getF pgTIM f (acceptIn i ctl s) = getF pgTIM f s := by
  refine (regsBut_iff.1 (acceptIn_regsBut i ctl s)).getF ?_
  rw [key_div hf]
  simp only [pgTIM, pgETH, pgSTK, List.mem_cons, List.not_mem_nil, or_false]
  omega

theorem acceptIn_timPort (j : Nat) : timPort j (acceptIn i ctl s) = timPort j s :=
  timPort_congr j (congrArg TimS.ports (acceptIn_cellsOnly i ctl s).tim)

end

/-! ## The counters of a port and its guard -/

/-- what the messages of port `i` and its path guard write. -/
def portFields (i : Nat) : List Fld :=
  [TIM.PORT_sync_rx i, TIM.PORT_delay_tx i, TIM.PORT_ann_rx i, TIM.PORT_jumps i, guardField i, HDR.EVENT (5 + i), HDR.EVENT 7]

theorem portFields_messages : ∀ i < 2, ∀ f ∈ portFields i, f.loc < 2 ^ 20 ∧ f.loc ∈ messagePlaces := by decide

/-- what steers the counter leaves these of a port alone. -/
theorem Steers.portField {s t : State} (h : Steers s t) {i : Nat} (hi : i < 2) {f : Fld} (hf : f ∈ portFields i) :
    Machine.getF pgTIM f t = Machine.getF pgTIM f s := h.getF (portFields_messages i hi f hf)

/-- a message's taking up leaves the counters and the guard to what follows. -/
theorem acceptIn_portField {i : Nat} (hi : i < 2) {f : Fld} (hf : f ∈ portFields i) (ctl : Nat) (s : State) :
    getF pgTIM f (acceptIn i ctl s) = getF pgTIM f s := acceptIn_getF hi (portFields_messages i hi f hf).1

theorem guardField_width (i : Nat) : (guardField i).width = 1 := by
  unfold guardField; split <;> rfl

/-- the guard's bit is none of its events' fields nor its port's count of jumps or mean path delay. -/
theorem guardField_apart : ∀ i < 2, (guardField i).loc ∉ (eventFields (5 + i)).map Fld.loc ∧
    (guardField i).loc ∉ (eventFields 7).map Fld.loc ∧ (guardField i).loc ≠ (TIM.PORT_jumps i).loc ∧
    (guardField i).loc ≠ (TIM.PORT_mpd_ns i).loc ∧ (guardField i).loc < 2 ^ 20 := by decide

theorem portJumps_apart : ∀ i < 2, (TIM.PORT_jumps i).loc ∉ (eventFields (5 + i)).map Fld.loc ∧
    (TIM.PORT_jumps i).loc < 2 ^ 20 := by decide

theorem portMpd_low : ∀ i < 2, (TIM.PORT_mpd_ns i).loc < 2 ^ 20 := by decide

theorem raise_getF_apart {p k : Nat} {f : Fld} (h : f.loc ∉ (eventFields k).map Fld.loc) (s : State) :
    getF p f (raise p k s) = getF p f s := (raise_atFields (List.Subset.refl _) s).getF (not_atFields h)

section
variable {port : Fin 2} {domain : Byte} {s : State}

/-! ## SYNC (R273, R274) -/

/-- the Sync is taken up, its offset shown and itself counted. -/
def syncCounted (i : Nat) (offset : Int) (s : State) : State :=
  addF pgTIM (TIM.PORT_sync_rx i) 1 (setF pgTIM (TIM.PORT_offset_ns i) (satTwos 32 offset) (acceptIn i 0 s))

theorem syncCounted_rx (port : Fin 2) (offset : Int) (s : State) :
    getF pgTIM (TIM.PORT_sync_rx port.val) (syncCounted port.val offset s) =
      (getF pgTIM (TIM.PORT_sync_rx port.val) s + 1) % 2 ^ 32 := by
  unfold syncCounted
  rw [getF_addF_same, getF_setF_field _ _ _ _ _ (by simp only [Fld.loc, TIM.PORT_sync_rx, TIM.PORT_offset_ns]; omega),
    acceptIn_portField port.isLt (by simp [portFields])]
  rfl

theorem syncOp_steers {i dom age : Nat} {offset : Int} (hup : portUp i s = true) (htakes : ptpTakes i s = true)
    (hdom : dom = getF pgTIM TIM.PTP_CFG_domain s) (husable : usable i s = true) :
    Steers (syncCounted i offset s) (syncOp i dom offset age s) := by
  unfold syncOp
  rw [if_neg (by simp [hup]), if_neg (by simp [htakes, hdom]), if_neg (by simp [husable])]
  exact .ite (.refl _) (governSolution_steers (crossCheck_steers (.refl _)))

theorem syncOp_wats {i dom age : Nat} {offset : Int} (hup : portUp i s = true) (htakes : ptpTakes i s = true)
    (hdom : dom = getF pgTIM TIM.PTP_CFG_domain s) (husable : usable i s = true) :
    (syncOp i dom offset age s).hap.wats = s.hap.wats :=
  (syncOp_steers hup htakes hdom husable).wats.trans (congrArg HapS.wats (acceptIn_cellsOnly i 0 s).hap)

/-! ## DELAY_RESP while the guard is open (R281) -/

/-- the sample is kept for the new mean. -/
def sampleHeld (sample : Int) (p : TimPort) : TimPort := { p with holdSamples := p.holdSamples ++ [sample] }

theorem guardOpen_taken (port : Fin 2) (s : State) :
    guardOpen port.val (drainTx port.val (acceptIn port.val 0 s)) = guardOpen port.val s :=
  congrArg (· == 1) (acceptIn_portField port.isLt (f := guardField port.val) (by simp [portFields]) 0 s)

theorem execDelayResp_held {sample : Int} (hup : portUp port.val s = true) (htakes : ptpTakes port.val s = true)
    (hdom : domain.toNat = getF pgTIM TIM.PTP_CFG_domain s) (hwhole : (timPort port.val s).abandoned = false)
    (hopen : guardOpen port.val s = true) :
    execDelayResp port (domain, sample) s =
      .next (modTimPort port.val (sampleHeld sample) (drainTx port.val (acceptIn port.val 0 s))) := by
  unfold execDelayResp
  extract_lets i x p d u
  rw [if_neg (by simp [i, hup]), if_neg (by simp [i, htakes, hdom]), if_neg (by simp [p, i, hwhole]),
    if_pos ((guardOpen_taken port s).trans hopen)]
  rfl

/-! ## ANNOUNCE and its timeout (R274, R277) -/

/-- the grandmaster is the port's, until its announce receipt timeout. -/
def masterChosen (gm : Announce) (now : Nat) (p : TimPort) : TimPort :=
  { p with chosen := some gm, annEnd := now + gm.timeoutMs * tickMs }

/-- the Announce is taken up and counted, and its grandmaster chosen. -/
def announced (i : Nat) (gm : Announce) (s : State) : State :=
  modTimPort i (masterChosen gm s.clk) (addF pgTIM (TIM.PORT_ann_rx i) 1 (acceptIn i 0 s))

theorem announced_rx (port : Fin 2) (gm : Announce) (s : State) :
    getF pgTIM (TIM.PORT_ann_rx port.val) (announced port.val gm s) =
      (getF pgTIM (TIM.PORT_ann_rx port.val) s + 1) % 2 ^ 32 := by
  unfold announced
  rw [modTimPort_getF, getF_addF_same, acceptIn_portField port.isLt (by simp [portFields])]
  rfl

theorem execAnnounce_first {gm : Announce} (hup : portUp port.val s = true) (htakes : ptpTakes port.val s = true)
    (hdom : domain.toNat = getF pgTIM TIM.PTP_CFG_domain s) (hnone : (timPort port.val s).chosen = none) :
    ∃ t, execAnnounce port domain gm s = .next t ∧ Steers (announced port.val gm s) t := by
  have hclk : (acceptIn port.val 0 s).clk = s.clk := (acceptIn_cellsOnly _ _ s).clk
  have hnone' : (timPort port.val (acceptIn port.val 0 s)).chosen = none := by rw [acceptIn_timPort, hnone]
  unfold execAnnounce
  extract_lets i u s1 take shown changed s2
  rw [if_neg (by simp [i, hup]), if_neg (by simp [i, htakes, hdom]), if_pos (by simp only [take, u, i, hnone'])]
  refine ⟨_, rfl, reselect_steers (raiseIf_steers (raiseIf_steers (showMaster_steers port.isLt gm ?_) _ _) _ _)⟩
  unfold announced
  rw [← hclk]
  exact .refl _

theorem execAnnounceTimeout_steers {gm : Announce} (h : (timPort port.val s).chosen = some gm) :
    ∃ t, execAnnounceTimeout port s = .next t ∧
      Steers (modTimPort port.val (fun p => { p with chosen := none }) (advanceTo (timPort port.val s).annEnd s)) t := by
  unfold execAnnounceTimeout
  simp only [h]
  exact ⟨_, rfl, holdoverIf_steers (reselect_steers (.refl _))⟩

/-! ## Stamped messages: DELAY_REQ_SEND and PDELAY_REQ (R273, R286, R290) -/

/-- the entry of a message sent now, with the board's correction (R323). -/
def txStamped (i ident : Nat) (s : State) : TxEntry :=
  ⟨ident, ((timeNs s : Int) + ofTwos 16 (getF (pgETH i) ETH.TS_CORR_tx_ns s)).toNat⟩

/-- the state with that entry in the queue of port `i`. -/
def txPushed (i ident : Nat) (s : State) : State :=
  let s1 := modTimPort i (fun p => { p with txq := (timPort i s).txq ++ [txStamped i ident s] }) s
  setF pgTIM (TIM.PORT_txq_hwm i) (max (getF pgTIM (TIM.PORT_txq_hwm i) s1) ((timPort i s).txq.length + 1)) s1

theorem pushTx_room {i ident : Nat} (h : (timPort i s).txq.length < 64) : pushTx i ident s = (true, txPushed i ident s) := if_pos h

theorem txPushed_txq (i ident : Nat) (s : State) :
    (timPort i (txPushed i ident s)).txq = (timPort i s).txq ++ [txStamped i ident s] :=
  congrArg TimPort.txq (timPort_modTimPort i _ s)

theorem txPushed_delayTx (i ident : Nat) (s : State) :
    getF pgTIM (TIM.PORT_delay_tx i) (txPushed i ident s) = getF pgTIM (TIM.PORT_delay_tx i) s :=
  getF_setF_field _ _ _ _ _ (by simp only [Fld.loc, TIM.PORT_delay_tx, TIM.PORT_txq_hwm]; omega)

theorem ptpSent_getF {i n : Nat} (hi : i < 2) {f : Fld} (hf : f.loc < 2 ^ 20) (u : State) :
    getF pgTIM f (ptpSent i n u) = getF pgTIM f u := by
  refine (regsBut_iff.1 (ethSent_regsBut i 1 _ u)).getF ?_
  rw [key_div hf, List.mem_singleton]
  unfold pgTIM pgETH
  omega

/-- a PTP message has left port `i`. -/
def ptpLeft (i n : Nat) (d : List Nat) (s : State) : State := emit .ptp i d (ptpSent i n s)

theorem ptpLeft_timPort (i n : Nat) (d : List Nat) (s : State) : timPort i (ptpLeft i n d s) = timPort i s := timPort_congr i rfl

theorem ptpLeft_out (i n : Nat) (d : List Nat) (s : State) : (ptpLeft i n d s).out = s.out ++ [⟨.ptp, i, d⟩] := rfl

theorem ptpLeft_getF {i n : Nat} (hi : i < 2) {f : Fld} (hf : f.loc < 2 ^ 20) (d : List Nat) (s : State) :
    getF pgTIM f (ptpLeft i n d s) = getF pgTIM f s := ptpSent_getF hi hf s

/-- a Delay_Req, or Pdelay_Req, has left the port. -/
def delayReqSent (i ident : Nat) (s : State) : State :=
  let p2p := getF pgTIM TIM.PTP_CFG_delay_p2p s
  ptpLeft i (44 + 10 * p2p) [p2p, ident] (addF pgTIM (TIM.PORT_delay_tx i) 1
    (modTimPort i (fun p => { p with abandoned := false }) (txPushed i ident s)))

theorem execDelayReqSend_sent {ident : BitVec 16} (hruns : ptpRuns s = true) (husable : usable port.val s = true)
    (hroom : (timPort port.val s).txq.length < 64) :
    execDelayReqSend port ident s = .next (delayReqSent port.val ident.toNat s) := by
  unfold execDelayReqSend
  extract_lets i p2p r
  rw [if_pos (by simp [i, hruns, husable]), show r = _ from pushTx_room hroom]
  rfl

theorem delayReqSent_txq (i ident : Nat) (s : State) :
    (timPort i (delayReqSent i ident s)).txq = (timPort i s).txq ++ [txStamped i ident s] := by
  unfold delayReqSent
  extract_lets p2p
  rw [ptpLeft_timPort, timPort_congr i (congrArg TimS.ports (addF_tim _ _ _ _)), timPort_modTimPort]
  exact txPushed_txq i ident s

theorem delayReqSent_out (i ident : Nat) (s : State) :
    (delayReqSent i ident s).out = s.out ++ [⟨.ptp, i, [getF pgTIM TIM.PTP_CFG_delay_p2p s, ident]⟩] := by
  unfold delayReqSent
  extract_lets p2p
  rw [ptpLeft_out, addF_out]
  rfl

theorem delayReqSent_count (port : Fin 2) (ident : Nat) (s : State) :
    getF pgTIM (TIM.PORT_delay_tx port.val) (delayReqSent port.val ident s) =
      (getF pgTIM (TIM.PORT_delay_tx port.val) s + 1) % 2 ^ 32 := by
  have hlow := (portFields_messages port.val port.isLt (TIM.PORT_delay_tx port.val) (by simp [portFields])).1
  unfold delayReqSent
  extract_lets p2p
  rw [ptpLeft_getF port.isLt hlow, getF_addF_same, modTimPort_getF, txPushed_delayTx]
  rfl

/-- a Pdelay_Req has been answered by its two messages. -/
def pdelayAnswered (i ident : Nat) (s : State) : State :=
  ptpLeft i 54 [3, ident] (drainTx i (acceptIn i 0 (ptpLeft i 54 [2, ident] (txPushed i ident s))))

theorem execPdelayReq_answered {ident : BitVec 16} (hup : portUp port.val s = true) (htakes : ptpTakes port.val s = true)
    (hp2p : isF pgTIM TIM.PTP_CFG_delay_p2p s = true) (hdom : domain.toNat = getF pgTIM TIM.PTP_CFG_domain s)
    (hroom : (timPort port.val s).txq.length < 64) :
    execPdelayReq port (domain, ident) s = .next (pdelayAnswered port.val ident.toNat s) := by
  unfold execPdelayReq
  dsimp only
  rw [if_neg (by simp [hup]), if_pos (by simp [htakes, hp2p, hdom]), pushTx_room hroom, if_pos rfl]
  rfl

theorem drainTx_out (i : Nat) (s : State) : (drainTx i s).out = s.out := rfl

theorem pdelayAnswered_out (i ident : Nat) (s : State) :
    (pdelayAnswered i ident s).out = s.out ++ [⟨.ptp, i, [2, ident]⟩, ⟨.ptp, i, [3, ident]⟩] := by
  unfold pdelayAnswered
  rw [ptpLeft_out, drainTx_out, (acceptIn_cellsOnly i 0 _).out, ptpLeft_out, List.append_assoc]
  rfl

theorem pdelayAnswered_txq (i ident : Nat) (s : State) : (timPort i (pdelayAnswered i ident s)).txq = [] := by
  unfold pdelayAnswered drainTx
  rw [ptpLeft_timPort, timPort_modTimPort]

/-! ## The path guard (R281, R282) -/

/-- the port's state when its guard opens: the count of jumps ended, the hold begun. -/
def holdBegun (until_ : Nat) (p : TimPort) : TimPort := { p with jumps := 0, guardEnd := until_, holdSamples := [] }

/-- the guard of port `i` is open. -/
def guardOpened (i : Nat) (s : State) : State :=
  raise pgTIM (5 + i) (addF pgTIM (TIM.PORT_jumps i) 1 (setF pgTIM (guardField i) 1
    (modTimPort i (holdBegun (s.clk + getF pgTIM TIM.GUARD_hold_s s * tickS)) s)))

theorem execPathGuardOpen_opens (hclosed : guardOpen port.val s = false)
    (hjumps : getF pgTIM TIM.GUARD_jump_count s ≤ (timPort port.val s).jumps) :
    execPathGuardOpen port s = .next (reselect (guardOpened port.val s)) := by
  unfold execPathGuardOpen
  extract_lets i hold s1
  rw [if_pos (by simp [i, hclosed, hjumps])]
  rfl

theorem guardOpened_guard (port : Fin 2) (s : State) : getF pgTIM (guardField port.val) (guardOpened port.val s) = 1 := by
  obtain ⟨hevent, -, hcount, -, -⟩ := guardField_apart port.val port.isLt
  unfold guardOpened
  rw [raise_getF_apart hevent, getF_addF_field _ _ _ _ _ hcount, getF_setF_same, guardField_width]
  rfl

theorem guardOpened_jumps (port : Fin 2) (s : State) :
    getF pgTIM (TIM.PORT_jumps port.val) (guardOpened port.val s) =
      (getF pgTIM (TIM.PORT_jumps port.val) s + 1) % 2 ^ (TIM.PORT_jumps port.val).width := by
  obtain ⟨-, -, hguard, -, -⟩ := guardField_apart port.val port.isLt
  unfold guardOpened
  rw [raise_getF_apart (portJumps_apart port.val port.isLt).1, getF_addF_same, getF_setF_field _ _ _ _ _ hguard.symm]
  rfl

theorem guardOpened_regsBut (port : Fin 2) (s : State) : State.regsBut [pgTIM] s (guardOpened port.val s) := by
  obtain ⟨-, -, -, -, hguard⟩ := guardField_apart port.val port.isLt
  have hbegun : State.regsBut [pgTIM] s (modTimPort port.val (holdBegun (s.clk + getF pgTIM TIM.GUARD_hold_s s * tickS)) s) := .of_eq rfl
  exact ((hbegun.trans (setF_regsBut _ _ _ _ hguard)).trans (addF_regsBut _ _ _ _ (portJumps_apart port.val port.isLt).2)).trans
    (raise_regsBut _ _ _ (by omega))

/-- the samples of the path that the port takes as its own when the guard closes. -/
def newSamples (p : TimPort) : List Int := if p.holdSamples = [] then p.samples else p.holdSamples

/-- the port's state when its guard closes: the new path accepted, with what the port held of it. -/
def pathAccepted (held : TimPort) (p : TimPort) : TimPort :=
  { p with samples := (newSamples held).take 16, holdSamples := [], jumps := 0 }

/-- the guard of port `i` is closed, its hold over. -/
def guardClosed (i : Nat) (s : State) : State :=
  raise pgTIM 7 (setF pgTIM (TIM.PORT_mpd_ns i) (toTwos 32 (meanOf (newSamples (timPort i s)))) (setF pgTIM (guardField i) 0
    (modTimPort i (pathAccepted (timPort i s)) (advanceTo (timPort i s).guardEnd s))))

theorem execPathGuardClose_closes (hopen : guardOpen port.val s = true) :
    execPathGuardClose port s = .next (reselect (guardClosed port.val s)) := by
  unfold execPathGuardClose
  extract_lets i p l s0 s1
  rw [if_pos hopen]
  rfl

theorem guardClosed_guard (port : Fin 2) (s : State) : getF pgTIM (guardField port.val) (guardClosed port.val s) = 0 := by
  obtain ⟨-, hevent, -, hmean, -⟩ := guardField_apart port.val port.isLt
  unfold guardClosed
  rw [raise_getF_apart hevent, getF_setF_field _ _ _ _ _ hmean, getF_setF_same, Nat.zero_mod]

theorem guardClosed_timPort (i : Nat) (s : State) : (timPort i (guardClosed i s)).holdSamples = [] := by
  unfold guardClosed
  rw [timPort_congr i (congrArg TimS.ports (raise_tim _ _ _))]
  exact congrArg TimPort.holdSamples (timPort_modTimPort i _ _)

theorem guardClosed_clk (i : Nat) (s : State) : (guardClosed i s).clk = max s.clk (timPort i s).guardEnd := by
  unfold guardClosed
  rw [raise_clk]
  exact advanceTo_clk _ s

theorem guardClosed_regsBut (port : Fin 2) (s : State) : State.regsBut [pgTIM] s (guardClosed port.val s) := by
  obtain ⟨-, -, -, -, hguard⟩ := guardField_apart port.val port.isLt
  have hpassed : State.regsBut [pgTIM] s (modTimPort port.val (pathAccepted (timPort port.val s))
      (advanceTo (timPort port.val s).guardEnd s)) :=
    .of_eq (advanceTo_regs _ s)
  exact ((hpassed.trans (setF_regsBut _ _ _ _ hguard)).trans
    (setF_regsBut _ _ _ _ (portMpd_low port.val port.isLt))).trans (raise_regsBut _ 7 _ (by decide))

end

/-! ## The commands -/

/-- Settles O31: each message or guard does its own part on its port, and what follows only steers the counter (`Steers`), which leaves
the port's state, its counters and its guard as they are. -/
theorem timePortsAndMessages : Obligations.TimePortsAndMessages := by
  refine ⟨fun port domain offset age s hw hup htakes hdom husable => ?_, fun port domain sample s hup htakes hdom hwhole hopen => ?_,
    fun port domain gm s hup htakes hdom hnone => ?_, fun port gm s hchosen => ?_, fun port ident s hruns husable hroom => ?_,
    fun port domain ident s hup htakes hp2p hdom hroom => ?_, fun port s hclosed hjumps => ?_, fun port s hopen => ?_⟩
  · have hnone : (syncOp port.val domain.toNat offset age s).hap.wats = [] := (syncOp_wats hup htakes hdom husable).trans hw
    refine ⟨_, congrArg Host.Outcome.next (fireAll_none hnone), ?_⟩
    rw [(syncOp_steers hup htakes hdom husable).portField port.isLt (by simp [portFields])]
    exact syncCounted_rx port offset s
  · have hport := timPort_modTimPort port.val (sampleHeld sample) (drainTx port.val (acceptIn port.val 0 s))
    have hdrained : timPort port.val (drainTx port.val (acceptIn port.val 0 s)) = { timPort port.val s with txq := [] } := by
      refine (timPort_modTimPort _ _ _).trans ?_
      rw [acceptIn_timPort]
    refine ⟨_, execDelayResp_held hup htakes hdom hwhole hopen, ?_, ?_⟩
    · rw [hport, hdrained]; rfl
    · rw [hport, hdrained]; rfl
  · obtain ⟨t, ht, hsteers⟩ := execAnnounce_first (gm := gm) hup htakes hdom hnone
    refine ⟨t, ht, ?_, ?_⟩
    · rw [hsteers.timPort, announced, timPort_modTimPort]; rfl
    · rw [hsteers.portField port.isLt (by simp [portFields]), announced_rx]
  · obtain ⟨t, ht, hsteers⟩ := execAnnounceTimeout_steers hchosen
    refine ⟨t, ht, ?_, ?_⟩
    · rw [hsteers.timPort, timPort_modTimPort]
    · have htime : State.regsBut [pgTIM] s (advanceTo (timPort port.val s).annEnd s) := .of_eq (advanceTo_regs _ s)
      exact (htime.trans (.of_eq rfl)).trans hsteers.regsBut
  · exact ⟨_, execDelayReqSend_sent hruns husable hroom, delayReqSent_txq port.val ident.toNat s,
      delayReqSent_count port ident.toNat s, delayReqSent_out port.val ident.toNat s⟩
  · exact ⟨_, _, execPdelayReq_answered hup htakes hp2p hdom hroom, pdelayAnswered_out port.val ident.toNat s, rfl,
      pdelayAnswered_txq port.val ident.toNat s⟩
  · have hsteers := reselect_steers (.refl (guardOpened port.val s))
    refine ⟨_, execPathGuardOpen_opens hclosed hjumps, ?_, ?_, ?_, (guardOpened_regsBut port s).trans hsteers.regsBut⟩
    · rw [guardOpen_eq, isF, hsteers.portField port.isLt (by simp [portFields]), guardOpened_guard]; rfl
    · rw [hsteers.portField port.isLt (by simp [portFields])]
      exact raise_event _ _ _
    · rw [hsteers.portField port.isLt (by simp [portFields]), guardOpened_jumps]
  · have hsteers := reselect_steers (.refl (guardClosed port.val s))
    refine ⟨_, execPathGuardClose_closes hopen, ?_, ?_, ?_, ?_, (guardClosed_regsBut port s).trans hsteers.regsBut⟩
    · rw [guardOpen_eq, isF, hsteers.portField port.isLt (by simp [portFields]), guardClosed_guard]; rfl
    · rw [hsteers.portField port.isLt (by simp [portFields])]
      exact raise_event _ _ _
    · rw [hsteers.timPort, guardClosed_timPort]
    · rw [(reselect_calm (.refl (guardClosed port.val s))).clk, guardClosed_clk]
      exact Nat.le_max_right _ _

end Sys2Proof.Machine
end

section
/-! # Registers of TIM, frame clocks, captures and pulses (R272, R283 to R286, R289) -/

namespace Sys2Proof.Machine

/-! ## The counter reaches a moment (R270, R271) -/

section
variable {s : State}

/-- adj at the slower of the rates that run until a moment is reached: with the phase term, or once its amount has been removed. -/
def slowAdj (s : State) : Int := min (adjNow s) (clampAdj s.tim.freq)

/-- what the counter gains at least in a TIME cycle, in 2⁻³² ns. -/
def slowRate (s : State) : Int := (2 ^ 32 : Nat) + slowAdj s

theorem clampAdj_ge (i : Int) : -858993 ≤ clampAdj i := Int.le_max_left _ _

theorem slowRate_pos (s : State) : 0 < slowRate s := by
  have hadj : -858993 ≤ slowAdj s := le_min (clampAdj_ge _) (clampAdj_ge _)
  unfold slowRate
  omega

/-- of `n` cycles some run with the phase term and the rest without. -/
theorem runTime_count (n : Nat) (s : State) : (s.tim.count : Int) + n * slowRate s ≤ ((runTime n s).count : Int) := by
  unfold runTime
  extract_lets t ph need m step
  have hm : m ≤ n := Nat.min_le_left _ _
  have hwith : (m : Int) * slowAdj s ≤ m * clampAdj (t.freq + ph) :=
    Int.mul_le_mul_of_nonneg_left (min_le_left _ _) (Int.natCast_nonneg m)
  have hwithout : ((n - m : Nat) : Int) * slowAdj s ≤ (n - m : Nat) * clampAdj t.freq :=
    Int.mul_le_mul_of_nonneg_left (min_le_right _ _) (Int.natCast_nonneg _)
  have hsplit : (m : Int) * slowAdj s + (n - m : Nat) * slowAdj s = n * slowAdj s := by
    rw [← Int.add_mul]
    congr 1
    omega
  have hcycles : ((n * 2 ^ 32 : Nat) : Int) = n * (2 ^ 32 : Nat) := Int.natCast_mul _ _
  have hstep : n * slowRate s ≤ step := by
    simp only [step, slowRate, Int.mul_add, hcycles]
    omega
  exact (Int.add_le_add_left hstep _).trans (Int.self_le_toNat _)

/-- while TIMEREF is there, the counter is at or past the moment that time passes to. -/
theorem advanceToNs_reaches (h : timSt s ≠ 4) (t : Int) : t ≤ timeNs (advanceToNs t s) := by
  unfold advanceToNs
  rw [if_neg h]
  extract_lets gap rate
  obtain ⟨n, hn⟩ : ∃ n, n = (gap + 5 * rate.toNat - 1) / (5 * rate.toNat) := ⟨_, rfl⟩
  rw [← hn]
  have hrate : rate = slowRate s := rfl
  have hpos : 0 < rate := hrate ▸ slowRate_pos s
  have hgap : gap ≤ 5 * rate.toNat * n := by
    have hdiv := Nat.div_add_mod (gap + 5 * rate.toNat - 1) (5 * rate.toNat)
    have hmod := Nat.mod_lt (gap + 5 * rate.toNat - 1) (show 0 < 5 * rate.toNat by omega)
    rw [← hn] at hdiv
    omega
  have hticks : (passTicks n s).tim = runTime (5 * n) s := by unfold passTicks; rw [if_neg h]
  have hcount : s.tim.count + 5 * rate.toNat * n ≤ (passTicks n s).tim.count := by
    have hrun := runTime_count (5 * n) s
    rw [← hticks, ← hrate] at hrun
    have hcycles : ((5 * n : Nat) : Int) * rate = ((5 * rate.toNat * n : Nat) : Int) := by
      have hnat : (rate.toNat : Int) = rate := Int.toNat_of_nonneg (Int.le_of_lt hpos)
      push_cast
      rw [hnat]
      ring
    omega
  have hreached : t.toNat * 2 ^ 32 ≤ (passTicks n s).tim.count := by omega
  have hns : t.toNat ≤ timeNs (passTicks n s) := (Nat.le_div_iff_mul_le (by decide)).2 hreached
  omega

end

/-! ## Words latched for a session (R20, R272) -/

/-- from `s` to `t` only the sessions change. -/
def SessionsOnly (s t : State) : Prop := t = { s with hap := { s.hap with sessions := t.hap.sessions } }

section
variable {i : Fin 8} {tag : BitVec 16} {r : Req} {x : Session} {s t u : State}

theorem SessionsOnly.refl (s : State) : SessionsOnly s s := rfl

theorem SessionsOnly.trans (h : SessionsOnly s t) (k : SessionsOnly t u) : SessionsOnly s u :=
  Eq.trans k (congrArg (fun y : State => { y with hap := { y.hap with sessions := u.hap.sessions } }) (show t = _ from h))

theorem SessionsOnly.tim (h : SessionsOnly s t) : t.tim = s.tim := by
  rw [show t = { s with hap := { s.hap with sessions := t.hap.sessions } } from h]

theorem SessionsOnly.regs (h : SessionsOnly s t) : t.regs = s.regs := by
  rw [show t = { s with hap := { s.hap with sessions := t.hap.sessions } } from h]

theorem putSession_sessionsOnly (j : Nat) (x : Session) (s : State) : SessionsOnly s (putSession j x s) := rfl

theorem latchWord_sessionsOnly (r : Req) (a v : Nat) (s : State) : SessionsOnly s (latchWord r a v s) := by
  unfold latchWord
  split
  · split
    · exact .refl s
    · exact putSession_sessionsOnly _ _ s
  · exact .refl s

/-- several words are latched, each at its address. -/
def latchWords (r : Req) (l : List Nat) (addr word : Nat → Nat) (s : State) : State :=
  l.foldl (fun t o => latchWord r (addr o) (word o) t) s

theorem latchWords_sessionsOnly (r : Req) (l : List Nat) (addr word : Nat → Nat) (s : State) :
    SessionsOnly s (latchWords r l addr word s) :=
  List.foldlRecOn (motive := SessionsOnly s) l _ (.refl s) fun _ hu _ _ => hu.trans (latchWord_sessionsOnly _ _ _ _)

/-- the words that a session holds after them. -/
theorem latchWords_sessionAt (l : List Nat) (addr word : Nat → Nat) (hx : sessionAt i.val s = some x) :
    sessionAt i.val (latchWords ⟨.session i, tag⟩ l addr word s) =
      some { x with latched := l.foldl (fun m o => SMap.put (addr o) (word o) m) x.latched } := by
  unfold latchWords
  induction l generalizing s x with
  | nil => exact hx
  | cons o l ih =>
    have hlatch : latchWord ⟨.session i, tag⟩ (addr o) (word o) s =
        putSession i.val { x with latched := SMap.put (addr o) (word o) x.latched } s := by simp only [latchWord, hx]
    rw [List.foldl_cons, hlatch, ih (putSession_sessionAt _ _ _)]
    rfl

/-! ## READs with an action of their own (R9, R272, R284, R286) -/

theorem readReg_action {p off : Nat} {e : Nat × State} (h : readAction r p off s = some e) : readReg r p off s = e := by
  simp only [readReg, h]

/-- a READ of a register with such an action answers with its word and does it. -/
theorem readOp_action {p off v : Nat} (hoff : off < 4096) (hlets : State.lets r 1 p off s) (ha : readAction r p off s = some (v, u)) :
    readOp r (regAddr p off) s = reply r 0x81 (regAddr p off) .success (beBytes 4 v) u := by
  have hpage : regAddr p off / 4096 = p := by unfold regAddr; omega
  have hplace : regAddr p off % 4096 = off := by unfold regAddr; omega
  unfold readOp
  rw [hpage, hplace, asRead_runs _ _ _ _ _ hlets, readReg_action ha]

theorem blockOf_pgTIM : blockOf pgTIM = some .tim := by decide

/-- the READ of NOW_NS latches the other three words of its moment (R272). -/
theorem readAction_now : readAction r pgTIM 0x120 s = some (regWord pgTIM 0x120 s,
    latchWords r [0x124, 0x128, 0x12C] (regAddr pgTIM) (fun o => regWord pgTIM o s) s) := by
  simp only [readAction, blockOf_pgTIM, if_true]
  rfl

/-- the READ of TXQ ends its high-water mark (R286, R290). -/
theorem readAction_txq (port : Fin 2) : readAction r pgTIM (0x1A8 + 0x40 * port.val) s =
    some (regWord pgTIM (0x1A8 + 0x40 * port.val) s, setF pgTIM (TIM.PORT_txq_hwm port.val) 0 s) := by
  simp only [readAction, blockOf_pgTIM]
  match port with
  | 0 => rfl
  | 1 => rfl

/-- the oldest capture of input `n` is taken from its queue. -/
def captureTaken (n : Nat) (s : State) : State := setTim { s.tim with caps := SMap.set [] n (capsOf n s).tail s.tim.caps } s

/-- the READ of CAPn_NS takes the oldest capture and latches its other words (R284). -/
theorem readAction_capture (n : Fin 4) : readAction r pgTIM (0x204 + 0x10 * n.val) s =
    some (regWord pgTIM (0x204 + 0x10 * n.val) s,
      latchWords r [0x204 + 0x10 * n.val + 4, 0x204 + 0x10 * n.val + 8] (regAddr pgTIM) (fun o => regWord pgTIM o s)
        (captureTaken n.val s)) := by
  have hfind : (List.range 4).find? (fun k => 0x204 + 0x10 * n.val == 0x204 + 0x10 * k) = some n.val := by
    revert n; decide
  simp only [readAction, blockOf_pgTIM, hfind]
  rw [if_neg (by omega), if_neg (by omega), if_neg (by omega)]
  rfl

theorem captureTaken_caps (n : Nat) (s : State) : capsOf n (captureTaken n s) = (capsOf n s).tail :=
  (SMap.get_set _ _ _ _ _).trans (if_pos rfl)

end

/-! ## Frame clocks (R29, R283) -/

/-- the places of the mismatch event and of EVENT_FIRST, on any page. -/
def MismatchKeys (k : Nat) : Prop := k % 2 ^ 20 ∈ (eventFields 31).map Fld.loc

theorem mismatchTick_writesIn (p : Nat) (s : State) : WritesIn MismatchKeys s (mismatchTick p s) := by
  refine .ite (.refl s) (WritesIn.trans (.of_eq rfl) (raiseIf_writesIn fun f hf => ?_))
  unfold MismatchKeys
  rw [key_mod (eventFields_loc (by decide) f hf)]
  exact List.mem_map_of_mem hf

theorem tickClock_writesIn (k : Option Nat) (s : State) : WritesIn MismatchKeys s (tickClock k s) :=
  .foldl (fun u p _ => mismatchTick_writesIn p u) s

/-- the number of the tick after the last one (R283). -/
def nextTick (f : Nat) (s : State) : Nat :=
  tickIndex (getF pgTIM (TIM.FCLK_rate f) s) (phaseNs (getF pgTIM (TIM.FCLK_phase_ns f) s)) (timeNs s) + 1

theorem fclkTickOp_picture (f : Nat) (s : State) : getF pgTIM (TIM.FCLK_picture f) (fclkTickOp f s) = nextTick f s % 2 ^ 32 :=
  getF_setF_same _ _ _ _

theorem fclkTickOp_writesIn (f : Nat) (s : State) : WritesIn (AtFields pgTIM [TIM.FCLK_picture f]) s (fclkTickOp f s) :=
  WritesIn.trans (.of_eq (advanceToNs_regs _ s)) (setF_writesIn (atFields_of_mem List.mem_cons_self))

theorem tickClock_picture (k : Option Nat) (s : State) :
    getF pgTIM (TIM.FCLK_picture 0) (tickClock k s) = getF pgTIM (TIM.FCLK_picture 0) s :=
  (tickClock_writesIn k s).getF (by unfold MismatchKeys; decide)

section
variable {s : State}

theorem execFclkTick_zero (h : timSt s ≠ 4) : execFclkTick 0 s = .next (tickClock none (fclkTickOp 0 s)) := by
  unfold execFclkTick
  rw [if_neg h, if_pos rfl]

theorem execFclkTick_other {f : Fin 4} (h : timSt s ≠ 4) (hf : f ≠ 0) : execFclkTick f s = .next (fclkTickOp f.val s) := by
  unfold execFclkTick
  rw [if_neg h, if_neg hf]

/-! ## Captures (R284) -/

/-- the edge is captured with the present count. -/
def edgeCaptured (n : Nat) (rising : Bool) (sub : Nat) (s : State) : State :=
  setTim { s.tim with caps := SMap.set [] n (capsOf n s ++ [⟨s.tim.count, sub, rising⟩]) s.tim.caps } s

/-- the edge is lost. -/
def edgeLost (n : Nat) (s : State) : State := raise pgTIM 13 (satF pgTIM (TIM.CAP_OVF n) 1 s)

theorem execTcapEdge_selected {n : Fin 4} {rising : Bool} {sub : Fin 8} {stable gap : Nat} (hst : timSt s ≠ 4) (hvio : vioOk s = true)
    (hsel : (getF pgTIM (TIM.CAP_edge n.val) s).testBit (if rising then 0 else 1) = true) (hstable : 2 ≤ stable) :
    execTcapEdge n rising sub stable gap s =
      .next (if gap < 4 ∨ 16 ≤ (capsOf n.val s).length then edgeLost n.val s else edgeCaptured n.val rising sub.val s) := by
  unfold execTcapEdge
  extract_lets sel
  have hedge : (if rising = true then sel.testBit 0 else sel.testBit 1) = true := by
    cases rising
    · exact hsel
    · exact hsel
  rw [hvio, hedge, if_neg (by simp [hst, Nat.not_lt.2 hstable])]
  split <;> rfl

theorem edgeCaptured_caps (n : Nat) (rising : Bool) (sub : Nat) (s : State) :
    capsOf n (edgeCaptured n rising sub s) = capsOf n s ++ [⟨s.tim.count, sub, rising⟩] :=
  (SMap.get_set _ _ _ _ _).trans (if_pos rfl)

theorem edgeLost_caps (n m : Nat) (s : State) : capsOf m (edgeLost n s) = capsOf m s := by
  unfold capsOf edgeLost
  rw [raise_tim]
  rfl

/-! ## Pulses (R285) -/

theorem setPulse_pulses (n v : Nat) (s : State) : SMap.get 0 n (setPulse n v s).tim.pulses = v :=
  (SMap.get_set _ _ _ _ _).trans (if_pos rfl)

/-- the pulse begins, its end `width` ns later. -/
def pulseBegun (n width : Nat) (s : State) : State :=
  setPulse n 1 (setTim { s.tim with pulseEnd := SMap.set 0 n (s.clk + (width + 4) / 5) s.tim.pulseEnd } s)

theorem pulseBegun_end (n width : Nat) (s : State) :
    SMap.get 0 n (pulseBegun n width s).tim.pulseEnd = (pulseBegun n width s).clk + (width + 4) / 5 :=
  (SMap.get_set _ _ _ _ _).trans (if_pos rfl)

theorem pulseBegun_timeNs (n width : Nat) (s : State) : timeNs (pulseBegun n width s) = timeNs s := rfl

/-- beside the time that has passed, the pulse changes only TIM's own state and the pin. -/
theorem pulseBegun_frame {n width : Nat} {u : State} (h : u = { s with clk := u.clk, tim := u.tim }) :
    pulseBegun n width u =
      { s with clk := (pulseBegun n width u).clk, tim := (pulseBegun n width u).tim, out := (pulseBegun n width u).out } := by
  obtain ⟨k, m, rfl⟩ : ∃ k m, u = { s with clk := k, tim := m } := ⟨_, _, h⟩
  rfl

theorem execPulseEdge_begins {n : Fin 2} (hst : timSt s ≠ 4) (hen : isF pgTIM (TIM.PLS_en n.val) s = true)
    (hgate : pulseGate n.val (advanceToNs (nextEdge n.val s) s) = true) :
    execPulseEdge n s =
      .next (pulseBegun n.val (getF pgTIM (TIM.PLS_width_ns n.val) s) (advanceToNs (nextEdge n.val s) s)) := by
  unfold execPulseEdge
  rw [if_neg (by simp [hst, hen])]
  extract_lets s1 fall
  rw [if_pos hgate, ← getF_congr pgTIM (TIM.PLS_width_ns n.val) s _ (advanceToNs_regs (nextEdge n.val s) s)]
  rfl

theorem execPulseWidthEnd_ends {n : Fin 2} (h : SMap.get 0 n.val s.tim.pulses = 1) :
    execPulseWidthEnd n s = .next (setPulse n.val 0 (advanceTo (SMap.get 0 n.val s.tim.pulseEnd) s)) := if_pos h

/-! ## The whole second (R289) -/

/-- the next whole second of the counter, in ns. -/
def nextSecond (s : State) : Nat := (timeNs s / 10 ^ 9 + 1) * 10 ^ 9

theorem wholeSecondOp_unpending (hst : timSt s ≠ 4) (hgen : pendingGen pgTIM s = false) :
    wholeSecondOp s = advanceToNs (nextSecond s : Int) s := by
  have hstill : pendingGen pgTIM (advanceToNs (nextSecond s : Int) s) = false := by
    unfold pendingGen at hgen ⊢
    rw [getF_congr _ _ _ _ (advanceToNs_regs _ s), getF_congr _ _ _ _ (advanceToNs_regs _ s), hgen]
  unfold wholeSecondOp
  rw [if_neg hst]
  exact if_neg (ne_true_of_eq_false hstill)

theorem execWholeSecond_reaches (hst : timSt s ≠ 4) (hgen : pendingGen pgTIM s = false) (hw : s.hap.wats = []) :
    execWholeSecond s = .next (advanceToNs (nextSecond s : Int) s) := by
  have hwats : (advanceToNs (nextSecond s : Int) s).hap.wats = [] := (congrArg HapS.wats (advanceToNs_hap _ s)).trans hw
  unfold execWholeSecond
  rw [wholeSecondOp_unpending hst hgen]
  exact congrArg Host.Outcome.next (fireAll_none hwats)

end

/-! ## The commands -/

/-- Settles O33: the READs by what their registers' actions do (`readAction_now` and the like), the clocks, pulses and seconds by the
counter's reaching the moment that time passes to (`advanceToNs_reaches`). -/
theorem timeRegistersClocksAndPins : Obligations.TimeRegistersClocksAndPins := by
  refine ⟨fun i tag x s hlets hx => ?_, fun r n s hlets => ?_, fun r port s hlets => ?_, fun f s hst => ?_,
    fun n rising sub stable gap s hst hvio hsel hstable => ⟨fun hgap hroom => ?_, fun hgap => ?_⟩, fun n s hst hen hgate => ?_,
    fun n s hon => ?_, fun s hst hgen hw => ?_⟩
  · have hsession := latchWords_sessionAt (tag := tag) [0x124, 0x128, 0x12C] (regAddr pgTIM) (fun o => regWord pgTIM o s) hx
    have hread := readOp_action (by decide) hlets readAction_now
    rw [reply_session _ _ _ _ _ _ _ _ hsession] at hread
    refine ⟨_, _, congrArg Host.Outcome.next hread, putSession_sessionAt _ _ _, rfl, fun off hoff => ?_,
      (latchWords_sessionsOnly _ _ _ _ s).trans (putSession_sessionsOnly _ _ _)⟩
    simp only [List.mem_cons, List.not_mem_nil, or_false] at hoff
    rcases hoff with rfl | rfl | rfl <;> simp [SMap.find_put, regAddr]
  · have hkept := latchWords_sessionsOnly r [0x204 + 0x10 * n.val + 4, 0x204 + 0x10 * n.val + 8] (regAddr pgTIM)
      (fun o => regWord pgTIM o s) (captureTaken n.val s)
    refine ⟨_, congrArg Host.Outcome.next (readOp_action (by omega) hlets (readAction_capture n)), ?_, hkept.regs⟩
    refine Eq.trans ?_ (captureTaken_caps n.val s)
    unfold capsOf
    rw [hkept.tim]
  · exact ⟨_, congrArg Host.Outcome.next (readOp_action (by omega) hlets (readAction_txq port)), getF_setF_same _ _ _ _, rfl,
      setF_writesIn (atFields_of_mem List.mem_cons_self)⟩
  · by_cases hf : f = 0
    · subst hf
      refine ⟨_, execFclkTick_zero hst, ?_, fun h => absurd rfl h, fun _ => rfl⟩
      exact (tickClock_picture _ _).trans (fclkTickOp_picture 0 s)
    · exact ⟨_, execFclkTick_other hst hf, fclkTickOp_picture f.val s, fun _ => fclkTickOp_writesIn f.val s,
        fun h => absurd (Fin.ext h) hf⟩
  · refine ⟨_, (execTcapEdge_selected hst hvio hsel hstable).trans (congrArg Host.Outcome.next (if_neg (by omega))),
      edgeCaptured_caps n.val rising sub.val s, rfl⟩
  · exact ⟨_, (execTcapEdge_selected hst hvio hsel hstable).trans (congrArg Host.Outcome.next (if_pos (.inl hgap))),
      edgeLost_caps n.val n.val s, raise_event _ _ _⟩
  · refine ⟨_, execPulseEdge_begins hst hen hgate, setPulse_pulses _ _ _, ?_, pulseBegun_end _ _ _,
      pulseBegun_frame (advanceToNs_frame _ s)⟩
    rw [pulseBegun_timeNs]
    exact advanceToNs_reaches hst _
  · refine ⟨_, execPulseWidthEnd_ends hon, setPulse_pulses _ _ _, ?_, advanceTo_regs _ s⟩
    exact (Nat.le_max_right _ _).trans_eq (advanceTo_clk _ s).symm
  · have hreached := advanceToNs_reaches hst (nextSecond s : Int)
    exact ⟨_, execWholeSecond_reaches hst hgen hw, Int.ofNat_le.1 hreached, advanceToNs_frame _ s⟩

end Sys2Proof.Machine
end

section
/-! # What a lane's loss of lock makes of its port or link (R303, R325, R342, R344)

The owner answers on its own pages, and with its clients and timers; no register of a lane is among what it writes (`OffLanes`). -/

namespace Sys2Proof.Machine

/-- the pages that are no lane's. -/
abbrev BesideLanes (p : Nat) : Prop := p < pgLNE 0 ∨ pgLNE 32 < p

/-- the keys on such pages. -/
def OffLanes (k : Nat) : Prop := BesideLanes (k / 2 ^ 20)

theorem offLanes_key {p : Nat} {f : Fld} (hp : BesideLanes p) (hf : f.loc < 2 ^ 20) : OffLanes (f.key p) := by
  unfold OffLanes
  rwa [key_div hf]

theorem offLanes_of_regsBut {l : List Nat} {s t : State} (h : State.regsBut l s t) (hl : ∀ p ∈ l, BesideLanes p) : WritesIn OffLanes s t :=
  (regsBut_iff.1 h).mono fun _ hk => hl _ hk

theorem besideLanes_pgETH {i : Nat} (hi : i < 3) : BesideLanes (pgETH i) := by unfold BesideLanes pgETH pgLNE; omega

theorem besideLanes_pgIZL (j : Nat) : BesideLanes (pgIZL j) := by unfold BesideLanes pgIZL pgLNE; omega

theorem besideLanes_pgMUX (g : Nat) : BesideLanes (pgMUX g) := by unfold BesideLanes pgMUX pgLNE; omega

section
variable {p i j : Nat} {s : State}

theorem raise_offLanes {k : Nat} (hp : BesideLanes p) (hk : k < 32) : WritesIn OffLanes s (raise p k s) :=
  raise_writesIn fun f hf => offLanes_key hp (eventFields_loc hk f hf)

theorem setAct_offLanes {st r : Nat} (hp : BesideLanes p) : WritesIn OffLanes s (setAct p st r s) := by
  refine offLanes_of_regsBut (setAct_regsBut p st r s) fun q hq => ?_
  rcases List.mem_cons.1 hq with rfl | hq
  · exact hp
  · exact (by decide : ∀ q ∈ [pgHAP, pgCND 0, pgCND 1, pgCND 2, pgCND 3], BesideLanes q) q hq

/-! ## A port -/

theorem endStalls_offLanes {side : Nat} (hside : side < 6) (q : Nat) (s : State) : WritesIn OffLanes s (endStalls side q s) := by
  have hcount : ∀ t u, WritesIn OffLanes u (countStall side t u) := fun t u =>
    (countStall_writesIn side t u).mono fun k hk => by
      obtain ⟨f, hf, rfl⟩ := List.mem_map.1 hk
      cases List.mem_singleton.1 hf
      exact offLanes_key (by decide) (by simp only [Fld.loc, STK.WSTALL_cycles]; omega)
  unfold endStalls
  extract_lets +onlyGivenNames stalls rest
  clear_value stalls
  split
  · exact .refl s
  · exact .ite ((WritesIn.of_eq rfl).trans (hcount _ _)) (.of_eq rfl)

theorem legsDown_offLanes (pg : Nat) (s : State) : WritesIn OffLanes s (legsDown pg s) := by
  have hside : legSide pg < 6 := by unfold legSide; split <;> omega
  exact .foldl (fun u leg _ => .ite (.refl u) (endStalls_offLanes hside _ u)) s

theorem releaseCopied_offLanes (c : Nat) (s : State) : WritesIn OffLanes s (releaseCopied c s) :=
  WritesIn.foldl (g := fun u e => passEntry c e u) (fun _ _ _ => .of_eq rfl) s

theorem legsOfPortDown_offLanes : WritesIn OffLanes s (legsOfPortDown i s) :=
  .ite (.refl s) ((WritesIn.foldl (fun u c _ => (legsDown_offLanes (pgOUT c) u).trans (releaseCopied_offLanes c _)) s).trans
    (.foldl (fun u n _ => legsDown_offLanes (pgSND n) u) _))

theorem ptpAfterPort_offLanes : WritesIn OffLanes s (ptpAfterPort i s) :=
  .ite (.refl s) (offLanes_of_regsBut (holdoverIf_steers (reselect_steers (.refl s))).regsBut (by decide))

theorem modEth_writesIn {K : Nat → Prop} (i : Nat) (f : EthS → EthS) (s : State) : WritesIn K s (modEth i f s) := .of_eq rfl

theorem emit_writesIn {K : Nat → Prop} (k : OutKind) (p : Nat) (d : List Nat) (s : State) : WritesIn K s (emit k p d s) := .of_eq rfl

theorem subportDown_offLanes (hi : i < 3) (k : Nat) : WritesIn OffLanes s (subportDown i k s) := by
  have hp := besideLanes_pgETH hi
  have hraise : ∀ n < 32, ∀ u, WritesIn OffLanes u (raise (pgETH i) n u) := fun n hn u => raise_offLanes hp hn
  unfold subportDown
  extract_lets +onlyGivenNames p s0
  split
  · exact modEth_writesIn _ _ s
  · extract_lets +onlyGivenNames up s1
    have hcounted : WritesIn OffLanes s0 (addF p ETH.LINK_DOWNS_count 1 (setF p ETH.SUBPORTS_up up s0)) :=
      (setF_writesIn (offLanes_key hp (by decide))).trans (addF_writesIn (offLanes_key hp (by decide)))
    have h1 : WritesIn OffLanes s s1 :=
      (((modEth_writesIn _ _ s).trans hcounted).trans (hraise 2 (by decide) _)).trans (emit_writesIn _ _ _ _)
    clear_value s1
    have h2 : WritesIn OffLanes s (raise p 1 s1) := h1.trans (hraise 1 (by decide) s1)
    exact .ite h1 (((WritesIn.ite (h2.trans (setAct_offLanes hp)) h2).trans legsOfPortDown_offLanes).trans ptpAfterPort_offLanes)

/-! ## A link -/

theorem settleSpare_offLanes (j : Nat) (s : State) : WritesIn OffLanes s (settleSpare j s) :=
  setF_writesIn (offLanes_key (besideLanes_pgIZL j) (by decide))

theorem settleRoutes_offLanes (j : Nat) (s : State) : WritesIn OffLanes s (settleRoutes j s) := by
  have hraise : ∀ n < 32, ∀ u, WritesIn OffLanes u (raise (pgIZL j) n u) := fun n hn u => raise_offLanes (besideLanes_pgIZL j) hn
  unfold settleRoutes
  extract_lets +onlyGivenNames l kept fresh now s1
  have hchanged : WritesIn OffLanes s { s with routes := now } := .of_eq rfl
  have h1 : WritesIn OffLanes s s1 := .ite (.refl s) (hchanged.trans (hraise 6 (by decide) _))
  exact h1.trans (.ite (hraise 7 (by decide) _) (.refl _))

theorem countDoubt_offLanes (l : List (Nat × Nat)) (s : State) : WritesIn OffLanes s (countDoubt l s) :=
  .foldl (fun _ e _ => (addF_writesIn (offLanes_key (besideLanes_pgMUX e.1) (by decide))).trans
    (raise_offLanes (besideLanes_pgMUX e.1) (by decide))) s

theorem setAll_writesIn {K : Nat → Prop} {l : List (Fld × Nat)} (h : ∀ e ∈ l, K (e.1.key p)) : WritesIn K s (setAll p l s) :=
  .foldl (fun _ e he => setF_writesIn (h e he)) s

theorem modIzl_writesIn {K : Nat → Prop} (j : Nat) (f : IzlS → IzlS) (s : State) : WritesIn K s (modIzl j f s) := .of_eq rfl

theorem izlDown_offLanes {st r : Nat} : WritesIn OffLanes s (izlDown j st r s) := by
  have hp := besideLanes_pgIZL j
  have hraise : ∀ n < 32, ∀ u, WritesIn OffLanes u (raise (pgIZL j) n u) := fun n hn u => raise_offLanes hp hn
  have hlost : ∀ f ∈ [IZL.LINK_DOWNS_count, IZL.MSG_LOST_count], ∀ u n, WritesIn OffLanes u (addF (pgIZL j) f n u) := fun f hf u n =>
    addF_writesIn (offLanes_key hp (by revert f; decide))
  unfold izlDown
  extract_lets +onlyGivenNames p
  split
  · exact .refl s
  · extract_lets +onlyGivenNames n _ s1 s2 s3
    have h1 : WritesIn OffLanes s s1 := modIzl_writesIn _ _ s
    clear_value s1
    have h2 : WritesIn OffLanes s s2 := h1.trans (setAll_writesIn fun e he =>
      offLanes_key hp ((by decide : ∀ f ∈ _, Fld.loc f < 2 ^ 20) e.1 (List.mem_map_of_mem he)))
    have h3 : WritesIn OffLanes s s3 :=
      ((h2.trans (setAct_offLanes hp)).trans (hlost _ (by simp) _ _)).trans (hraise 1 (by decide) _)
    have h4 : WritesIn OffLanes s (raiseIf (decide (0 < n)) p 5 (addF p IZL.MSG_LOST_count n s3)) :=
      (h3.trans (hlost _ (by simp) _ _)).trans (.ite (hraise 5 (by decide) _) (.refl _))
    exact (h4.trans (countDoubt_offLanes _ _)).trans (settleRoutes_offLanes j _)

theorem narrowOp_offLanes (bad : List Nat) : WritesIn OffLanes s (narrowOp j bad s) := by
  have hp := besideLanes_pgIZL j
  refine .ite (.refl s) (.ite (settleSpare_offLanes j s) (.ite izlDown_offLanes ?_))
  exact (((modIzl_writesIn _ _ s).trans (addF_writesIn (offLanes_key hp (by decide)))).trans (raise_offLanes hp (by decide))).trans
    (settleSpare_offLanes j _)

end

end Sys2Proof.Machine
end

section
/-! # Lanes: training, loss of lock, calibration and REFCLK (R299 to R309) -/

namespace Sys2Proof.Machine

/-! ## A lane's own registers -/

/-- the fields `fs` of lane `l`, and all that is no lane's. -/
def LaneKeys (l : Nat) (fs : List Fld) (k : Nat) : Prop := AtFields (pgLNE l) fs k ∨ OffLanes k

section
variable {l m : Nat} {fs gs : List Fld} {s t : State}

theorem laneKeys_of_mem {f : Fld} (h : f ∈ fs) : LaneKeys l fs (f.key (pgLNE l)) := .inl (atFields_of_mem h)

theorem WritesIn.laneKeys (h : WritesIn OffLanes s t) : WritesIn (LaneKeys l fs) s t := h.mono fun _ => Or.inr

theorem WritesIn.laneMono (h : WritesIn (LaneKeys l fs) s t) (hfs : fs ⊆ gs) : WritesIn (LaneKeys l gs) s t :=
  h.mono fun _ hk => hk.imp_left (atFields_mono hfs)

theorem not_offLanes {f : Fld} (hl : l < 33) (hf : f.loc < 2 ^ 20) : ¬ OffLanes (f.key (pgLNE l)) := by
  unfold OffLanes
  rw [key_div hf]
  unfold BesideLanes pgLNE
  omega

/-- a field of the lane that is not among `fs` keeps its value. -/
theorem WritesIn.ownField (h : WritesIn (LaneKeys l fs) s t) (hl : l < 33) {f : Fld}
    (hf : f.loc < 2 ^ 20 ∧ f.loc ∉ fs.map Fld.loc := by decide) :
    Machine.getF (pgLNE l) f t = Machine.getF (pgLNE l) f s :=
  h.getF fun hk => hk.elim (not_atFields hf.2) (not_offLanes hl hf.1)

theorem pgLNE_ne (h : m ≠ l) : pgLNE m ≠ pgLNE l := fun he => h (Nat.add_left_cancel he)

/-- every field of another lane keeps its value. -/
theorem WritesIn.otherLane (h : WritesIn (LaneKeys l fs) s t) (hm : m < 33) (hne : m ≠ l) (hfs : ∀ f ∈ fs, f.loc < 2 ^ 20) {f : Fld}
    (hf : f.loc < 2 ^ 20) : Machine.getF (pgLNE m) f t = Machine.getF (pgLNE m) f s :=
  h.getF fun hk => hk.elim (not_atFields_page (pgLNE_ne hne) hfs hf) (not_offLanes hm hf)

theorem setF_lane {f : Fld} {v : Nat} (h : f ∈ fs) : WritesIn (LaneKeys l fs) s (setF (pgLNE l) f v s) := setF_writesIn (laneKeys_of_mem h)

theorem raise_lane {k : Nat} (h : eventFields k ⊆ fs) : WritesIn (LaneKeys l fs) s (raise (pgLNE l) k s) :=
  raise_writesIn fun _ hf => laneKeys_of_mem (h hf)

theorem setAct_lane {st r : Nat} (h : actFields ⊆ fs) : WritesIn (LaneKeys l fs) s (setAct (pgLNE l) st r s) :=
  setAct_writesIn (fun _ hf => laneKeys_of_mem (h hf)) (.inr (offLanes_key (by decide) (by decide))) fun u hu f hf =>
    .inr (offLanes_key (by unfold BesideLanes pgCND pgLNE; omega) (eventFields_loc (by decide) f hf))

theorem laneOf_modLane (l : Nat) (f : LneS → LneS) (s : State) : laneOf l (modLane l f s) = f (laneOf l s) :=
  (SMap.get_put _ _ _ _ _).trans (if_pos rfl)

theorem modLane_writesIn {K : Nat → Prop} (l : Nat) (f : LneS → LneS) (s : State) : WritesIn K s (modLane l f s) := .of_eq rfl

theorem laneOf_congr (h : t.lne = s.lne) : laneOf l t = laneOf l s := by unfold laneOf; rw [h]

/-! ## Coefficients (R296, R299, R302) -/

/-- the fields in which a lane shows its coefficients. -/
def tapFields : List Fld := firApplied ++ [LNE.RXEQ_ctle, LNE.RXEQ_dfe] ++ (List.range 16).map LNE.FFE_APPLIED

theorem tapFields_low : ∀ f ∈ tapFields, f.loc < 2 ^ 20 := by decide

theorem fir_mem_tapFields {f : Fld} (h : f ∈ firApplied) : f ∈ tapFields := by simp [tapFields, h]

theorem ffe_mem_tapFields {n : Nat} (h : n < 16) : LNE.FFE_APPLIED n ∈ tapFields :=
  List.mem_append_right _ (List.mem_map_of_mem (List.mem_range.2 h))

section
variable {K : Nat → Prop}

/-- pins write the stages that are pinned. -/
theorem applyPins_pinned (h : ∀ f ∈ tapFields, (f = LNE.RXEQ_ctle → isF (pgLNE l) LNE.PIN_ctle s = true) → K (f.key (pgLNE l))) :
    WritesIn K s (applyPins l s) := by
  unfold applyPins
  extract_lets p s1 s2 s3
  have h1 : WritesIn K s s1 := .ite (setAll_writesIn fun e he =>
    h e.1 (fir_mem_tapFields (List.of_mem_zip he).1) (by
      have hne : ∀ f ∈ firApplied, f ≠ LNE.RXEQ_ctle := by decide
      exact fun heq => absurd heq (hne _ (List.of_mem_zip he).1))) (.refl s)
  have h2 : WritesIn K s s2 := by
    unfold s2
    split
    · next hpin => exact h1.trans (setF_writesIn (h _ (by simp [tapFields]) fun _ => hpin))
    · exact h1
  have h3 : WritesIn K s s3 := .ite (h2.trans (setAll_writesIn fun e he => by
    obtain ⟨n, hn, rfl⟩ := List.mem_map.1 he
    exact h _ (ffe_mem_tapFields (List.mem_range.1 hn)) fun heq => by
      have hoff := congrArg Fld.off heq
      simp only [LNE.FFE_APPLIED, LNE.RXEQ_ctle] at hoff
      omega)) h2
  exact .ite (h3.trans (setF_writesIn (h _ (by simp [tapFields]) fun heq => absurd heq (by decide)))) h3

theorem applyPins_writesIn (h : ∀ f ∈ tapFields, K (f.key (pgLNE l))) : WritesIn K s (applyPins l s) :=
  applyPins_pinned fun f hf _ => h f hf

theorem setFfe_writesIn {taps : List Int} (h : ∀ n < 16, K ((LNE.FFE_APPLIED n).key (pgLNE l))) : WritesIn K s (setFfe l taps s) :=
  setAll_writesIn fun e he => by
    obtain ⟨x, hx, rfl⟩ := List.mem_map.1 he
    exact h _ (List.mem_range.1 (List.of_mem_zip (List.mem_filter.1 hx).1).1)

theorem applyEq_writesIn {e : Equaliser} (h : ∀ f ∈ tapFields, K (f.key (pgLNE l))) : WritesIn K s (applyEq l e s) := by
  have hfir : ∀ m, (∀ x ∈ m, Prod.fst x ∈ firApplied) → WritesIn K s (setAll (pgLNE l) m s) := fun m hm =>
    setAll_writesIn fun x hx => h _ (fir_mem_tapFields (hm x hx))
  refine ((((hfir _ fun x hx => ?_).trans (setF_writesIn (h _ (by simp [tapFields])))).trans
    (setF_writesIn (h _ (by simp [tapFields])))).trans (setFfe_writesIn fun n hn => h _ (ffe_mem_tapFields hn))).trans
    (applyPins_writesIn h)
  obtain ⟨y, hy, rfl⟩ := List.mem_map.1 hx
  exact (List.of_mem_zip hy).1

end

/-! ## Training succeeds (R299, R300, R303) -/

/-- the counter of re-acquisitions lies at none of the places that training writes, on this lane or on the others of its link. -/
theorem finishTraining_retrains (x : Trained) :
    getF (pgLNE l) LNE.RETRAINS_count (finishTraining l x s) = getF (pgLNE l) LNE.RETRAINS_count s := by
  have hkey : ∀ {f : Fld}, f.loc < 2 ^ 20 → f.loc ∉ [LNE.RETRAINS_count.loc] → ∀ p, OffPlaces [LNE.RETRAINS_count.loc] (f.key p) :=
    fun hlow hf p => offPlaces_of hlow hf
  have hset : ∀ {f : Fld}, f.loc < 2 ^ 20 → f.loc ∉ [LNE.RETRAINS_count.loc] → ∀ p v u,
      WritesIn (OffPlaces [LNE.RETRAINS_count.loc]) u (setF p f v u) := fun hlow hf p _ _ => setF_writesIn (hkey hlow hf p)
  have hraise : ∀ k ∈ [7, 8], ∀ c p u, WritesIn (OffPlaces [LNE.RETRAINS_count.loc]) u (raiseIf c p k u) := fun k hk c p u =>
    raiseIf_writesIn fun f hf => hkey (eventFields_loc ((by decide : ∀ k ∈ [7, 8], k < 32) k hk) f hf)
      ((by decide : ∀ k ∈ [7, 8], ∀ f ∈ eventFields k, f.loc ∉ [LNE.RETRAINS_count.loc]) k hk f hf) p
  have heq : WritesIn (OffPlaces [LNE.RETRAINS_count.loc]) s (applyEq l x.eq s) :=
    applyEq_writesIn fun f hf => hkey (tapFields_low f hf) (by revert f; decide) _
  have hcode : ∀ u, WritesIn (OffPlaces [LNE.RETRAINS_count.loc]) u (setPrecode l x.precodeTx x.precodeRx u) := fun u =>
    (hset (by decide) (by decide) _ _ _).trans (hset (by decide) (by decide) _ _ _)
  have hsync : ∀ u, WritesIn (OffPlaces [LNE.RETRAINS_count.loc]) u (applySync l x.inverted x.reversed u) := fun u => by
    refine .ite (.refl u) (.trans (.ite ((hset (by decide) (by decide) _ _ _).trans (hraise _ (by decide) _ _ _))
      (hset (by decide) (by decide) _ _ _)) (.foldl (fun v m _ => ?_) _))
    exact ((hset (by decide) (by decide) _ _ _).trans (hraise _ (by decide) _ _ _)).trans
      (.ite (.refl _) (hset (by decide) (by decide) _ _ _))
  have hall : WritesIn (OffPlaces [LNE.RETRAINS_count.loc]) s (finishTraining l x s) :=
    ((((((heq.trans (hcode _)).trans (hsync _)).trans (hset (by decide) (by decide) _ _ _)).trans
      (hset (by decide) (by decide) _ _ _)).trans (hset (by decide) (by decide) _ _ _)).trans
      (hset (by decide) (by decide) _ _ _)).trans (.of_eq rfl)
  exact hall.getF (not_offPlaces (by decide) (by decide))

/-- the status of a lane that has trained, as the page shows it. -/
def trainedShown (l snr : Nat) (s : State) : State :=
  setF (pgLNE l) LNE.ST_trained 1 (setF (pgLNE l) LNE.ST_signal 1 (setF (pgLNE l) LNE.ST_cdr_lock 1
    (setF (pgLNE l) LNE.FOM_snr (min 255 snr) s)))

theorem finishTraining_eq (x : Trained) (s : State) : finishTraining l x s =
    modLane l (fun y => { y with step := 0, fast := false, lost := false, failAt := none, badRun := 0 })
      (trainedShown l x.snr (applySync l x.inverted x.reversed (setPrecode l x.precodeTx x.precodeRx (applyEq l x.eq s)))) := rfl

theorem modLane_getF (p : Nat) (f : Fld) (g : LneS → LneS) : getF p f (modLane l g s) = getF p f s := rfl

theorem finishTraining_trained (x : Trained) (s : State) : getF (pgLNE l) LNE.ST_trained (finishTraining l x s) = 1 := by
  rw [finishTraining_eq, modLane_getF]
  exact getF_setF_same _ _ _ _

theorem finishTraining_snr (x : Trained) (s : State) : getF (pgLNE l) LNE.FOM_snr (finishTraining l x s) = min 255 x.snr := by
  rw [finishTraining_eq, modLane_getF, trainedShown, getF_setF_field _ _ _ _ _ (by decide), getF_setF_field _ _ _ _ _ (by decide),
    getF_setF_field _ _ _ _ _ (by decide), getF_setF_same]
  exact Nat.mod_eq_of_lt (by simp only [LNE.FOM_snr]; omega)

/-- the owner of a lane that has come up changes its state at most. -/
theorem ownerTakes_writesIn (s : State) : WritesIn (LaneKeys l actFields) s (ownerTakes l s) := by
  have hact : ∀ u, WritesIn (LaneKeys l actFields) u (setAct (pgLNE l) stRUNNING 0 u) := fun _ => setAct_lane fun _ h => h
  have hport : ∀ u, WritesIn (LaneKeys l actFields) u (portLaneUp l u) := fun u => .ite (modEth_writesIn _ _ u) (.refl u)
  unfold ownerTakes
  extract_lets +onlyGivenNames p
  split
  · extract_lets +onlyGivenNames j s1
    have h1 : WritesIn (LaneKeys l actFields) s s1 := modIzl_writesIn _ _ s
    clear_value s1
    exact .ite ((h1.trans (hact _)).trans (settleSpare_offLanes _ _).laneKeys) h1
  · exact (hact s).trans (hport _)

/-- and so does device state D2. -/
theorem sleepInD2_writesIn (s : State) : WritesIn (LaneKeys l actFields) s (sleepInD2 l s) :=
  .ite ((modLane_writesIn _ _ s).trans (setAct_lane fun _ h => h)) (.refl s)

/-- the lane as the training and event `k` leave it, once its owner has taken it. -/
theorem laneUp_shows (hl : l < 33) {k : Nat} (hk : k ∈ [1, 5]) (u : State) :
    getF (pgLNE l) (HDR.EVENT k) (sleepInD2 l (ownerTakes l (raise (pgLNE l) k u))) = 1 ∧
      ∀ f ∈ [LNE.ST_trained, LNE.FOM_snr, LNE.RETRAINS_count],
        getF (pgLNE l) f (sleepInD2 l (ownerTakes l (raise (pgLNE l) k u))) = getF (pgLNE l) f u := by
  have hup : WritesIn (LaneKeys l actFields) (raise (pgLNE l) k u) (sleepInD2 l (ownerTakes l (raise (pgLNE l) k u))) :=
    (ownerTakes_writesIn _).trans (sleepInD2_writesIn _)
  have hraise : WritesIn (LaneKeys l (eventFields k)) u (raise (pgLNE l) k u) := raise_lane fun _ h => h
  have hevent : ∀ k ∈ [1, 5], (HDR.EVENT k).loc < 2 ^ 20 ∧ (HDR.EVENT k).loc ∉ actFields.map Fld.loc := by decide
  have hplaces : ∀ k ∈ [1, 5], ∀ f ∈ [LNE.ST_trained, LNE.FOM_snr, LNE.RETRAINS_count], f.loc < 2 ^ 20 ∧
      f.loc ∉ actFields.map Fld.loc ∧ f.loc ∉ (eventFields k).map Fld.loc := by decide
  refine ⟨(hup.ownField hl (hevent k hk)).trans (raise_event _ _ _), fun f hf => ?_⟩
  obtain ⟨hlow, hact, hoff⟩ := hplaces k hk f hf
  exact (hup.ownField hl ⟨hlow, hact⟩).trans (hraise.ownField hl ⟨hlow, hoff⟩)

theorem laneTrainedOp_takes {x : Trained} (hact : act (pgLNE l) s = stSTARTING) (href : laneHasRef l s = true)
    (hnot : laneTrained l s = false) (hfail : (laneOf l s).failAt = none) (hlost : (laneOf l s).lost = false)
    (hsnr : getF (pgLNE l) LNE.THRESH_lol_fom s ≤ x.snr) :
    laneTrainedOp l x s = sleepInD2 l (ownerTakes l (raise (pgLNE l) 5 (finishTraining l x s))) :=
  if_neg (by simp [hact, href, hnot, hfail, hlost, Nat.not_lt.2 hsnr])

theorem reacquiredOp_takes {x : Trained} (hact : act (pgLNE l) s = stSTARTING) (href : laneHasRef l s = true)
    (hfail : (laneOf l s).failAt = none) (hlost : (laneOf l s).lost = true) (hsnr : getF (pgLNE l) LNE.THRESH_lol_fom s ≤ x.snr) :
    reacquiredOp l x s = sleepInD2 l (ownerTakes l (raise (pgLNE l) 1
      (annalsAdd (42 + l) 1 (addF (pgLNE l) LNE.RETRAINS_count 1 (finishTraining l x s))))) :=
  if_neg (by simp [hact, href, hfail, hlost, Nat.not_lt.2 hsnr])

/-! ## Training fails, and starts again (R299) -/

theorem trainFailedOp_check (hact : act (pgLNE l) s = stSTARTING) (hnot : laneTrained l s = false) :
    trainFailedOp l .check s = failLane l s := if_neg (by simp [hact, hnot])

theorem failLane_waits (hfast : (laneOf l s).fast = false) : (laneOf l (failLane l s)).failAt = some s.clk := by
  have hlane := laneOf_congr (l := l) (raise_lne (pgLNE l) 6 (modLane l (fun x => { x with
    step := 2, fast := false, failAt := if (laneOf l s).fast then none else some s.clk }) (setF (pgLNE l) LNE.ST_trained 0 s)))
  rw [laneOf_modLane, hfast] at hlane
  unfold failLane
  rw [hfast, hlane]
  rfl

theorem failLane_regsBut : State.regsBut [pgLNE l] s (failLane l s) :=
  ((setF_regsBut _ LNE.ST_trained _ s (by decide)).trans (.of_eq rfl)).trans (raise_regsBut _ _ _ (by decide))

theorem execTrainRetry_starts {n : Fin 33} {at_ : Nat} (hfail : (laneOf n.val s).failAt = some at_) (hwants : ownerWants n.val s = true) :
    execTrainRetry n s =
      .next (modLane n.val (fun x => { x with step := 2, failAt := none }) (advanceTo (at_ + 10 * tickMs) s)) := by
  unfold execTrainRetry
  rw [hfail]
  exact congrArg Host.Outcome.next (if_pos hwants)

/-! ## Loss of lock (R303, R307) -/

/-- the lane shows its lock no more; the loss is counted and raised. -/
def lockDropped (l : Nat) (s : State) : State :=
  raise (pgLNE l) 0 (addF (pgLNE l) LNE.LOL_COUNT_count 1 (setF (pgLNE l) LNE.ST_trained 0 (setF (pgLNE l) LNE.ST_cdr_lock 0 s)))

/-- it starts again, unless it stands in TEST. -/
def lockRestarted (l step : Nat) (fast : Bool) (s : State) : State :=
  if act (pgLNE l) s = stTEST then lockDropped l s
  else setAct (pgLNE l) stSTARTING 1
    (modLane l (fun x => { x with step := step, fast := fast, lost := true, failAt := none, badRun := 0 }) (lockDropped l s))

/-- a swap that was due is skipped (R307). -/
def swapSkipped (l : Nat) (due : Bool) (s : State) : State :=
  if due then raise (pgLNE l) 10 (addF (pgLNE l) LNE.CAL_COUNT_skipped 1 (satF pgHLT HLT.PAUSE_STAT_lane_skips 1
    (modLane l (fun x => { x with swapDue := false }) s))) else s

/-- the owner does without the lane. -/
def ownerLoses (l : Nat) (s : State) : State :=
  if 16 ≤ l ∧ l < 32 then
    narrowOp ((l - 16) / 4) [] (modIzl ((l - 16) / 4) (fun x => { x with
      goodSince := SMap.drop (getF (pgLNE l) LNE.ST_logical_lane s) x.goodSince }) s)
  else subportDown (laneOwner l - pgETH 0) (subportOfLane l s) s

theorem loseLock_eq (l step : Nat) (fast : Bool) (s : State) :
    loseLock l step fast s = ownerLoses l (swapSkipped l (laneOf l s).swapDue (lockRestarted l step fast s)) := rfl

/-- what a skipped swap writes on the lane's page. -/
def skipFields : List Fld := LNE.CAL_COUNT_skipped :: eventFields 10

theorem swapSkipped_writesIn (due : Bool) (s : State) : WritesIn (LaneKeys l skipFields) s (swapSkipped l due s) := by
  have hcount : WritesIn (LaneKeys l skipFields) s (addF (pgLNE l) LNE.CAL_COUNT_skipped 1 (satF pgHLT HLT.PAUSE_STAT_lane_skips 1
      (modLane l (fun x => { x with swapDue := false }) s))) :=
    ((modLane_writesIn _ _ s).trans (satF_writesIn (.inr (offLanes_key (by decide) (by decide))))).trans (setF_lane (by simp [skipFields]))
  exact .ite (hcount.trans (raise_lane (List.subset_cons_self _ _))) (.refl s)

theorem ownerLoses_offLanes (hl : l < 33) (s : State) : WritesIn OffLanes s (ownerLoses l s) := by
  unfold ownerLoses
  split
  · exact (modIzl_writesIn _ _ s).trans (narrowOp_offLanes _)
  · next hport =>
    refine subportDown_offLanes ?_ _
    unfold laneOwner pgETH
    split
    · omega
    · rw [if_neg (by omega)]
      omega

theorem loseLock_afterRestart (hl : l < 33) (step : Nat) (fast : Bool) (s : State) :
    WritesIn (LaneKeys l skipFields) (lockRestarted l step fast s) (loseLock l step fast s) :=
  (swapSkipped_writesIn _ _).trans (ownerLoses_offLanes hl _).laneKeys

/-- what follows the loss on the lane's page. -/
def restartFields : List Fld := actFields ++ skipFields

theorem loseLock_afterDrop (hl : l < 33) (step : Nat) (fast : Bool) (s : State) :
    WritesIn (LaneKeys l restartFields) (lockDropped l s) (loseLock l step fast s) := by
  have hrestart : WritesIn (LaneKeys l restartFields) (lockDropped l s) (lockRestarted l step fast s) :=
    .ite (.refl _) ((modLane_writesIn _ _ _).trans (setAct_lane (List.subset_append_left _ _)))
  exact hrestart.trans ((loseLock_afterRestart hl step fast s).laneMono (List.subset_append_right _ _))

/-- all that a loss of lock writes on the lane's page. -/
def lossFields : List Fld := [LNE.ST_cdr_lock, LNE.ST_trained, LNE.LOL_COUNT_count] ++ eventFields 0 ++ restartFields

theorem loseLock_writesIn (hl : l < 33) (step : Nat) (fast : Bool) (s : State) :
    WritesIn (LaneKeys l lossFields) s (loseLock l step fast s) := by
  have hdrop : WritesIn (LaneKeys l lossFields) s (lockDropped l s) :=
    (((setF_lane (by simp [lossFields])).trans (setF_lane (by simp [lossFields]))).trans (setF_lane (by simp [lossFields]))).trans
      (raise_lane fun _ h => by simp [lossFields, h])
  exact hdrop.trans ((loseLock_afterDrop hl step fast s).laneMono (List.subset_append_right _ _))

theorem lockDropped_trained : getF (pgLNE l) LNE.ST_trained (lockDropped l s) = 0 := by
  unfold lockDropped
  rw [raise_getF _ _ _ _ (by decide) (by decide) (by decide) (by decide), getF_addF_field _ _ _ _ _ (by decide)]
  exact getF_setF_same _ _ _ _

theorem lockDropped_count :
    getF (pgLNE l) LNE.LOL_COUNT_count (lockDropped l s) = (getF (pgLNE l) LNE.LOL_COUNT_count s + 1) % 2 ^ 32 := by
  unfold lockDropped
  rw [raise_getF _ _ _ _ (by decide) (by decide) (by decide) (by decide), getF_addF_same, getF_setF_field _ _ _ _ _ (by decide),
    getF_setF_field _ _ _ _ _ (by decide)]
  rfl

theorem loseLock_act (hl : l < 33) {step : Nat} {fast : Bool} (h : act (pgLNE l) s ≠ stTEST) :
    act (pgLNE l) (loseLock l step fast s) = stSTARTING := by
  refine ((loseLock_afterRestart hl step fast s).ownField hl).trans ?_
  unfold lockRestarted
  rw [if_neg h]
  exact setAct_act (by decide)

theorem execLossOfLock_loses {n : Fin 33} (hact : act (pgLNE n.val) s = stRUNNING ∨ act (pgLNE n.val) s = stLOW)
    (hbad : 4 ≤ (laneOf n.val s).badRun) : execLossOfLock n s = .next (loseLock n.val 2 true s) :=
  congrArg Host.Outcome.next (if_pos ⟨hact, hbad⟩)

/-! ## RETRAIN (R309) -/

/-- no conditioning path reads a lane's page, whatever its source field says. -/
theorem unitReads_lane (hl : l < 33) (u : Nat) (s : State) : unitReads u (pgLNE l) s = false := by
  unfold unitReads
  refine List.any_eq_false.2 fun k _ => ?_
  have hpage : ∀ c : Bool, ∀ a b, ((if c then pgDCH a else pgING b) == pgLNE l) = false := fun c a b => by
    refine beq_eq_false_iff_ne.2 ?_
    unfold pgDCH pgING pgLNE
    split <;> omega
  rw [hpage, Bool.and_false]
  exact Bool.false_ne_true

theorem sourceGone_lane (hl : l < 33) (s : State) : sourceGone (pgLNE l) s = s :=
  List.foldlRecOn (motive := (· = s)) _ _ rfl fun u hu n _ => by
    rw [unitReads_lane hl]
    exact hu

theorem leaveAct_lane (hl : l < 33) (st r : Nat) (s : State) : leaveAct (pgLNE l) st r s = enterAct (pgLNE l) st r s := by
  unfold leaveAct
  split
  · exact sourceGone_lane hl _
  · rfl

/-- a lane's change of state shows on its page, and on HAP by the writes withdrawn. -/
theorem setAct_laneRegsBut (hl : l < 33) (st r : Nat) (s : State) : State.regsBut [pgLNE l, pgHAP] s (setAct (pgLNE l) st r s) := by
  have hown : ∀ f ∈ actFields, f.key (pgLNE l) / 2 ^ 20 ∈ [pgLNE l, pgHAP] := fun f hf =>
    (key_div (p := pgLNE l) (f := f) (by revert f; decide)).symm ▸ List.mem_cons_self
  have hwat : HAP.WAT_PENDING_count.key pgHAP / 2 ^ 20 ∈ [pgLNE l, pgHAP] :=
    (key_div (p := pgHAP) (f := HAP.WAT_PENDING_count) (by decide)).symm ▸ by simp
  by_cases heq : act (pgLNE l) s = st
  · rw [setAct_of_eq heq]
    exact .ite (.refl _ s) (setF_writesIn (hown _ (by simp [actFields])))
  · rw [setAct_of_ne heq, leaveAct_lane hl]
    exact WritesIn.ite (enterAct_writesIn hown) ((enterAct_writesIn hown).trans (watLeave_writesIn hwat))

/-- the lane at `step`, before it enters STARTING. -/
def bringUpBegun (l step : Nat) (s : State) : State :=
  setF (pgLNE l) LNE.ST_trained 0 (setF (pgLNE l) LNE.ST_signal 0 (setF (pgLNE l) LNE.ST_cdr_lock 0
    (modLane l (fun x => { x with step := step, fast := false, lost := false, failAt := none, badRun := 0 }) s)))

theorem laneBringUp_eq (l step r : Nat) (s : State) : laneBringUp l step r s = setAct (pgLNE l) stSTARTING r (bringUpBegun l step s) := rfl

theorem laneBringUp_regsBut (hl : l < 33) (step r : Nat) (s : State) : State.regsBut [pgLNE l, pgHAP] s (laneBringUp l step r s) := by
  have hset : ∀ f : Fld, f.loc < 2 ^ 20 → ∀ u, State.regsBut [pgLNE l, pgHAP] u (setF (pgLNE l) f 0 u) := fun f hf u =>
    (setF_regsBut _ f 0 u hf).mono (by simp)
  have hbegun : State.regsBut [pgLNE l, pgHAP] s (bringUpBegun l step s) :=
    (((modLane_writesIn _ _ s).trans (hset _ (by decide) _)).trans (hset _ (by decide) _)).trans (hset _ (by decide) _)
  exact hbegun.trans (setAct_laneRegsBut hl _ _ _)

theorem laneBringUp_untrained (hl : l < 33) (step r : Nat) (s : State) : laneTrained l (laneBringUp l step r s) = false := by
  have hzero : getF (pgLNE l) LNE.ST_trained (laneBringUp l step r s) = 0 :=
    ((setAct_lane (fs := actFields) fun _ h => h).ownField hl).trans (getF_setF_same _ _ _ _)
  exact beq_eq_false_iff_ne.2 (by rw [hzero]; decide)

theorem laneBringUp_step (l step r : Nat) (s : State) : (laneOf l (laneBringUp l step r s)).step = step := by
  rw [laneBringUp_eq, laneOf_congr (setAct_lne _ _ _ _)]
  exact congrArg LneS.step (laneOf_modLane l (fun x => { x with step := step, fast := false, lost := false, failAt := none, badRun := 0 }) s)

theorem retrainOp_starts (howner : act (laneOwner l) s ≠ stRUNNING) (hoff : act (pgLNE l) s ≠ stOFF) (hreset : act (pgLNE l) s ≠ stRESET) :
    retrainOp l s = (.success, laneBringUp l 2 1 s) := by
  unfold retrainOp
  rw [if_neg howner, if_neg (not_or.2 ⟨hoff, hreset⟩)]

theorem execRetrain_runs {r : Req} {n : Fin 33} (h : State.lets r 3 (pgLNE n.val) 0x12C s) :
    execRetrain r n s = .next (reply r 0x83 (regAddr (pgLNE n.val) 0x12C) (retrainOp n.val s).1 [] (retrainOp n.val s).2) :=
  congrArg Host.Outcome.next (asWrite_runs _ _ _ _ _ h)

/-! ## Calibration (R301, R306) -/

/-- the lane's window is run: it ends 16 µs later, with a swap due or not. -/
def windowRun (l : Nat) (due : Bool) (from_ s : State) : State :=
  modLane l (fun x => { x with calEnd := from_.clk + calWindow, swapDue := due }) s

theorem windowRun_swapDue (due : Bool) (u : State) : (laneOf l (windowRun l due u s)).swapDue = due := by
  unfold windowRun
  rw [laneOf_modLane]

theorem windowRun_getF (p : Nat) (f : Fld) (due : Bool) (u : State) : getF p f (windowRun l due u s) = getF p f s := rfl

theorem act_window : act (pgLNE l) (advanceTo (nextWindow l s) s) = act (pgLNE l) s := act_congr (advanceTo_regs _ s)

theorem isF_window (f : Fld) : isF (pgLNE l) f (advanceTo (nextWindow l s) s) = isF (pgLNE l) f s := isF_congr _ f (advanceTo_regs _ s)

theorem calibrationOp_due (hact : act (pgLNE l) s = stRUNNING) (hcal : isF (pgLNE l) LNE.CAL_cal_en s = true) :
    calibrationOp l s = windowRun l true (advanceTo (nextWindow l s) s) (advanceTo (nextWindow l s) s) :=
  if_pos ⟨act_window.trans hact, (isF_window _).trans hcal⟩

/-- a window that is skipped: counted, here and in HLT, and raised (R306). -/
def windowSkipped (l : Nat) (s : State) : State :=
  raise (pgLNE l) 10 (addF (pgLNE l) LNE.CAL_COUNT_skipped 1 (satF pgHLT HLT.PAUSE_STAT_lane_skips 1 s))

theorem calibrationOp_skips (hact : act (pgLNE l) s = stRUNNING) (hcal : isF (pgLNE l) LNE.CAL_cal_en s = false) :
    calibrationOp l s = windowRun l false (advanceTo (nextWindow l s) s) (windowSkipped l (advanceTo (nextWindow l s) s)) := by
  unfold calibrationOp
  extract_lets p s1 run
  rw [if_neg (fun h => Bool.false_ne_true ((hcal.symm.trans (isF_window _).symm).trans h.2)), if_pos (.inl (act_window.trans hact))]
  rfl

theorem windowSkipped_count (hl : l < 33) : getF (pgLNE l) LNE.CAL_COUNT_skipped (windowSkipped l s) =
    (getF (pgLNE l) LNE.CAL_COUNT_skipped s + 1) % 2 ^ 16 := by
  unfold windowSkipped
  rw [raise_getF _ _ _ _ (by decide) (by decide) (by decide) (by decide), getF_addF_same, satF,
    getF_setF_page _ _ _ _ _ _ (by unfold pgLNE pgHLT; omega) (by decide) (by decide)]
  rfl

/-! ## The reference clock (R293, R304) -/

/-- From `s` to `t` lane `l`'s registers and the power block stay. -/
structure LaneRests (l : Nat) (s t : State) : Prop where
  pwr : t.pwr = s.pwr
  getF : ∀ f : Fld, f.loc < 2 ^ 20 → getF (pgLNE l) f t = getF (pgLNE l) f s

theorem LaneRests.refl (l : Nat) (s : State) : LaneRests l s s := ⟨rfl, fun _ _ => rfl⟩

theorem LaneRests.trans {u : State} (h : LaneRests l s t) (k : LaneRests l t u) : LaneRests l s u :=
  ⟨k.pwr.trans h.pwr, fun f hf => (k.getF f hf).trans (h.getF f hf)⟩

/-- A pass over the lanes comes to lane `l` with its registers as at the start, and leaves it with its registers as after its turn, if
the turns of the others leave it alone. -/
theorem lanes_inTurn {g : State → Nat → State} {n : Nat} (hl : l < n) (hg : ∀ u, ∀ m < n, m ≠ l → LaneRests l u (g u m)) (s : State) :
    ∃ u, LaneRests l s u ∧ LaneRests l (g u l) ((List.range n).foldl g s) := by
  obtain ⟨a, b, hsplit⟩ := List.append_of_mem (List.mem_range.2 hl)
  have hnodup : (a ++ l :: b).Nodup := hsplit ▸ List.nodup_range
  have hlt : ∀ m ∈ a ++ l :: b, m < n := fun m hm => List.mem_range.1 (hsplit ▸ hm)
  have hrests : ∀ c : List Nat, (∀ m ∈ c, m < n ∧ m ≠ l) → ∀ u, LaneRests l u (c.foldl g u) := fun c hc u =>
    List.foldlRecOn (motive := LaneRests l u) c g (.refl l u) fun v hv m hm => hv.trans (hg v m (hc m hm).1 (hc m hm).2)
  have hla : l ∉ a ∧ l ∉ b := by
    obtain ⟨-, hcons, hdisjoint⟩ := List.nodup_append.1 hnodup
    exact ⟨fun h => hdisjoint l h l List.mem_cons_self rfl, (List.nodup_cons.1 hcons).1⟩
  refine ⟨a.foldl g s, hrests a (fun m hm => ⟨hlt m (by simp [hm]), fun h => hla.1 (h ▸ hm)⟩) s, ?_⟩
  rw [hsplit, List.foldl_append, List.foldl_cons]
  exact hrests b (fun m hm => ⟨hlt m (by simp [hm]), fun h => hla.2 (h ▸ hm)⟩) _

/-- lane `l` shows that its reference has gone, with its event. -/
def refclkShownLost (l : Nat) (s : State) : State :=
  setF (pgLNE l) LNE.ST_refclk_ok 0 (raiseIf (isF (pgLNE l) LNE.ST_refclk_ok s) (pgLNE l) 9 s)

/-- and it loses its lock, or starts its bring-up anew. -/
def refclkTaken (s : State) (l : Nat) : State :=
  if laneTrained l s = true ∨ act (pgLNE l) s = stTEST then loseLock l 1 false (refclkShownLost l s)
  else if act (pgLNE l) (refclkShownLost l s) = stSTARTING then modLane l (fun x => { x with step := 1 }) (refclkShownLost l s)
  else refclkShownLost l s

/-- lane 32 has TIMEREF besides (R293). -/
def refclkTaken32 (s : State) : State :=
  if timSt (setF (pgLNE 32) LNE.ST_refclk_ok 0 s) = 4 ∧ laneTrained 32 (setF (pgLNE 32) LNE.ST_refclk_ok 0 s) = true then
    loseLock 32 1 false (setF (pgLNE 32) LNE.ST_refclk_ok 0 s)
  else setF (pgLNE 32) LNE.ST_refclk_ok 0 s

theorem refclkLostOp_eq (h : s.pwr.mainRun = true) : refclkLostOp s = refclkTaken32 ((List.range 32).foldl refclkTaken s) := by
  unfold refclkLostOp
  rw [if_pos h]
  rfl

/-- after its own turn lane `l` only loses its lock. -/
theorem refclkTaken_afterShown (hl : l < 33) (s : State) : WritesIn (LaneKeys l lossFields) (refclkShownLost l s) (refclkTaken s l) :=
  .ite (loseLock_writesIn hl _ _ _) (.ite (.of_eq rfl) (.refl _))

/-- what the loss of REFCLK writes on a lane's page. -/
def refclkFields : List Fld := LNE.ST_refclk_ok :: (eventFields 9 ++ lossFields)

theorem refclkFields_low : ∀ f ∈ refclkFields, f.loc < 2 ^ 20 := by decide

theorem loseLock_pwr (l step : Nat) (fast : Bool) (s : State) : (loseLock l step fast s).pwr = s.pwr := (loseLock_calm (.refl s)).pwr

theorem refclkTaken_pwr (l : Nat) (s : State) : (refclkTaken s l).pwr = s.pwr := by
  have hshown : (refclkShownLost l s).pwr = s.pwr := (setF_pwr _ _ _ _).trans (raiseIf_calm (.refl s) _ _ _).pwr
  unfold refclkTaken
  split
  · rw [loseLock_pwr, hshown]
  · split
    · exact hshown
    · exact hshown

theorem refclkTaken_rests (hl : l < 33) (hm : m < 33) (hne : m ≠ l) (s : State) : LaneRests l s (refclkTaken s m) := by
  have hshown : WritesIn (LaneKeys m refclkFields) s (refclkShownLost m s) :=
    (raiseIf_writesIn fun f hf => laneKeys_of_mem (by simp [refclkFields, hf])).trans (setF_lane (by simp [refclkFields]))
  have hall := hshown.trans ((refclkTaken_afterShown hm s).laneMono fun f hf => by simp [refclkFields, hf])
  exact ⟨refclkTaken_pwr m s, fun f hf => hall.otherLane hl (Ne.symm hne) refclkFields_low hf⟩

theorem refclkTaken32_getF (hl : l < 32) (s : State) {f : Fld} (hf : f.loc < 2 ^ 20) :
    getF (pgLNE l) f (refclkTaken32 s) = getF (pgLNE l) f s := by
  have hshown : WritesIn (LaneKeys 32 refclkFields) s (setF (pgLNE 32) LNE.ST_refclk_ok 0 s) := setF_lane (by simp [refclkFields])
  have hall : WritesIn (LaneKeys 32 refclkFields) s (refclkTaken32 s) :=
    .ite (hshown.trans ((loseLock_writesIn (by decide) _ _ _).laneMono fun f hf => by simp [refclkFields, hf])) hshown
  exact hall.otherLane (by omega) (by omega) refclkFields_low hf

theorem refclkLostOp_lane (h : s.pwr.mainRun = true) (hl : l < 32) : isF (pgLNE l) LNE.ST_refclk_ok (refclkLostOp s) = false ∧
    (isF (pgLNE l) LNE.ST_refclk_ok s = true → getF (pgLNE l) (HDR.EVENT 9) (refclkLostOp s) = 1) := by
  obtain ⟨u, hbefore, hafter⟩ := lanes_inTurn (g := refclkTaken) hl
    (fun v m hm hne => refclkTaken_rests (by omega) (by omega) hne v) s
  have hkept : ∀ f : Fld, f.loc < 2 ^ 20 ∧ f.loc ∉ lossFields.map Fld.loc →
      getF (pgLNE l) f (refclkLostOp s) = getF (pgLNE l) f (refclkShownLost l u) := fun f hf => by
    rw [refclkLostOp_eq h, refclkTaken32_getF hl _ hf.1, hafter.getF f hf.1]
    exact (refclkTaken_afterShown (by omega) u).ownField (by omega) hf
  constructor
  · have hzero : getF (pgLNE l) LNE.ST_refclk_ok (refclkLostOp s) = 0 := (hkept _ (by decide)).trans (getF_setF_same _ _ _ _)
    exact beq_eq_false_iff_ne.2 (by rw [hzero]; decide)
  · intro hwas
    have hset : isF (pgLNE l) LNE.ST_refclk_ok u = true := (congrArg (· == 1) (hbefore.getF _ (by decide))).trans hwas
    refine (hkept _ (by decide)).trans ?_
    unfold refclkShownLost
    rw [getF_setF_field _ _ _ _ _ (by decide), hset]
    exact raise_event _ _ _

/-- lane `m` has its reference again; one that waits for it re-acquires from step 1 (R304). -/
def refclkGiven (s : State) (m : Nat) : State :=
  if m = 32 ∨ s.pwr.mainRun = true then
    if act (pgLNE m) s = stSTARTING ∧ (!laneHasRef m s) = true then
      modLane m (fun x => { x with step := 1, failAt := none }) (setF (pgLNE m) LNE.ST_refclk_ok 1 s)
    else setF (pgLNE m) LNE.ST_refclk_ok 1 s
  else s

theorem execRefclkReturn_passes (h : isF (pgLNE 32) LNE.ST_refclk_ok s = false) :
    execRefclkReturn s = .next ((List.range 33).foldl refclkGiven (passTicks tickMs s)) := by
  unfold execRefclkReturn
  rw [if_neg (ne_true_of_eq_false h)]
  rfl

theorem refclkGiven_writesIn (m : Nat) (s : State) : WritesIn (LaneKeys m [LNE.ST_refclk_ok]) s (refclkGiven s m) := by
  have hset : WritesIn (LaneKeys m [LNE.ST_refclk_ok]) s (setF (pgLNE m) LNE.ST_refclk_ok 1 s) := setF_lane List.mem_cons_self
  exact .ite (.ite (hset.trans (.of_eq rfl)) hset) (.refl s)

theorem refclkGiven_clkPwr (m : Nat) (s : State) : (refclkGiven s m).clk = s.clk ∧ (refclkGiven s m).pwr = s.pwr := by
  unfold refclkGiven
  split
  · split <;> exact ⟨rfl, rfl⟩
  · exact ⟨rfl, rfl⟩

theorem refclkGiven_ok (h : s.pwr.mainRun = true) : getF (pgLNE l) LNE.ST_refclk_ok (refclkGiven s l) = 1 := by
  unfold refclkGiven
  rw [if_pos (.inr h)]
  split <;> exact getF_setF_same _ _ _ _

theorem refclkReturn_lane (h : s.pwr.mainRun = true) (hl : l < 33) :
    isF (pgLNE l) LNE.ST_refclk_ok ((List.range 33).foldl refclkGiven (passTicks tickMs s)) = true := by
  obtain ⟨u, hbefore, hafter⟩ := lanes_inTurn (g := refclkGiven) hl
    (fun v m hm hne => ⟨(refclkGiven_clkPwr m v).2, fun f hf =>
      (refclkGiven_writesIn m v).otherLane hl (Ne.symm hne) (by decide) hf⟩) (passTicks tickMs s)
  have hrun : u.pwr.mainRun = true := (congrArg PwrS.mainRun (hbefore.pwr.trans (passTicks_pwr _ s))).trans h
  exact beq_iff_eq.2 ((hafter.getF _ (by decide)).trans (refclkGiven_ok hrun))

theorem refclkReturn_clk : ((List.range 33).foldl refclkGiven (passTicks tickMs s)).clk = s.clk + tickMs :=
  List.foldlRecOn (motive := fun u => u.clk = s.clk + tickMs) _ refclkGiven (passTicks_clk _ s)
    fun u hu m _ => (refclkGiven_clkPwr m u).1.trans hu

end

/-! ## The commands -/

/-- Settles O34, a clause for each command: a lane that comes up by `laneUp_shows`, a loss of lock by what follows it on the lane's page
(`loseLock_afterDrop`), the reference clock by a pass over the lanes (`lanes_inTurn`). -/
theorem laneTrainingAndLock : Obligations.LaneTrainingAndLock := by
  refine ⟨fun l x s hact href hnot hfail hlost hsnr => ?_, fun l s hact hnot hfast => ?_, fun l at_ s hfail hwants => ?_,
    fun l s hact hbad => ?_, fun l x s hact href hfail hlost hsnr => ?_,
    fun r l s hlets => ⟨fun howner hoff hreset => ?_, fun howner => ?_⟩,
    fun l s hact => ⟨fun hcal => ?_, fun hcal => ?_⟩, fun s hrun => ⟨?_, fun hgone => ?_⟩⟩
  · obtain ⟨hevent, hkept⟩ := laneUp_shows l.isLt (k := 5) (by decide) (finishTraining l.val x s)
    exact ⟨_, congrArg Host.Outcome.next (laneTrainedOp_takes hact href hnot hfail hlost hsnr),
      beq_iff_eq.2 ((hkept _ (by simp)).trans (finishTraining_trained x s)), (hkept _ (by simp)).trans (finishTraining_snr x s), hevent⟩
  · exact ⟨_, congrArg Host.Outcome.next (trainFailedOp_check hact hnot), failLane_waits hfast, raise_event _ _ _, failLane_regsBut⟩
  · refine ⟨_, execTrainRetry_starts hfail hwants, congrArg LneS.failAt (laneOf_modLane _ _ _),
      congrArg LneS.step (laneOf_modLane _ _ _), ?_, advanceTo_regs _ s⟩
    exact (Nat.le_max_right _ _).trans_eq (advanceTo_clk _ s).symm
  · have hdrop := loseLock_afterDrop l.isLt 2 true s
    have hnotTest : act (pgLNE l.val) s ≠ stTEST := by rcases hact with h | h <;> rw [h] <;> decide
    refine ⟨_, execLossOfLock_loses hact hbad, beq_eq_false_iff_ne.2 ?_, (hdrop.ownField l.isLt).trans (raise_event _ _ _),
      (hdrop.ownField l.isLt).trans lockDropped_count, fun _ => loseLock_act l.isLt hnotTest⟩
    rw [hdrop.ownField l.isLt, lockDropped_trained]
    decide
  · obtain ⟨hevent, hkept⟩ := laneUp_shows l.isLt (k := 1) (by decide) (annalsAdd (42 + l.val) 1
      (addF (pgLNE l.val) LNE.RETRAINS_count 1 (finishTraining l.val x s)))
    refine ⟨_, congrArg Host.Outcome.next (reacquiredOp_takes hact href hfail hlost hsnr), beq_iff_eq.2 ((hkept _ (by simp)).trans ?_),
      hevent, (hkept _ (by simp)).trans ?_⟩
    · exact (getF_addF_field _ _ _ _ _ (by decide)).trans (finishTraining_trained x s)
    · exact (getF_addF_same _ _ _ _).trans (by rw [finishTraining_retrains]; rfl)
  · have hexec := execRetrain_runs hlets
    rw [retrainOp_starts howner hoff hreset] at hexec
    exact ⟨_, hexec, setAct_act (by decide), laneBringUp_untrained l.isLt _ _ s, laneBringUp_step _ _ _ _, laneBringUp_regsBut l.isLt _ _ s⟩
  · exact (execRetrain_runs hlets).trans (by rw [retrainOp, if_pos howner])
  · exact ⟨_, congrArg Host.Outcome.next (calibrationOp_due hact hcal), windowRun_swapDue _ _, advanceTo_regs _ s⟩
  · refine ⟨_, congrArg Host.Outcome.next (calibrationOp_skips hact hcal), windowRun_swapDue _ _, ?_,
      (windowRun_getF _ _ _ _).trans (raise_event _ _ _)⟩
    refine (windowRun_getF _ _ _ _).trans ((windowSkipped_count l.isLt).trans ?_)
    rw [getF_congr _ _ _ _ (advanceTo_regs _ s)]
  · exact ⟨_, rfl, fun l hl => refclkLostOp_lane hrun hl⟩
  · exact ⟨_, execRefclkReturn_passes hgone, refclkReturn_clk, fun l hl => refclkReturn_lane hrun hl⟩

end Sys2Proof.Machine
end

section
/-! # Lanes: what a block shows, adaptation, figures of merit and the PRBS checker (R297, R298, R301, R305, R309) -/

namespace Sys2Proof.Machine

section
variable {l : Nat} {s : State}

/-! ## A block's end (R297, R298, R301) -/

theorem setAll_lne (p : Nat) (m : List (Fld × Nat)) (s : State) : (setAll p m s).lne = s.lne :=
  List.foldlRecOn (motive := fun u : State => u.lne = s.lne) m _ rfl fun _ hu _ _ => hu

theorem applyPins_lne (l : Nat) (s : State) : (applyPins l s).lne = s.lne := by
  unfold applyPins
  extract_lets p s1 s2 s3
  have h1 : s1.lne = s.lne := by unfold s1; split; exacts [setAll_lne _ _ _, rfl]
  have h2 : s2.lne = s.lne := by unfold s2; split <;> exact h1
  have h3 : s3.lne = s.lne := by unfold s3; split; exacts [(setAll_lne _ _ _).trans h2, h2]
  split <;> exact h3

/-- the block's signal and lock, and its figures, as the page shows them (R297, R298). -/
def blockShown (l : Nat) (b : LaneBlock) (s : State) : State :=
  let p := pgLNE l
  let s1 := setF p LNE.ST_signal b.signal.toNat (setF p LNE.ST_cdr_lock (b.signal && b.cdr && laneHasRef l s).toNat s)
  setF p LNE.FOM_snr (min 255 b.snr) (setF p LNE.FOM_ber_est (min 255 b.ber)
    (setF p LNE.FOM_snr_min (min (min 255 b.snr) (getF p LNE.FOM_snr_min s1)) s1))

/-- a lane's runs of blocks after this one, by the thresholds of `s` (R298, R303). -/
def countRuns (l : Nat) (b : LaneBlock) (s : State) (x : LneS) : LneS :=
  let snr := min 255 b.snr
  let warn := getF (pgLNE l) LNE.THRESH_warn_fom s
  let alarm := getF (pgLNE l) LNE.THRESH_alarm_fom s
  { x with
    blocks := (laneOf l s).blocks + 1
    warnLow := runOf (decide (snr < warn)) x.warnLow, warnHigh := runOf (decide (warn + 10 ≤ snr)) x.warnHigh
    alarmLow := runOf (decide (snr < alarm)) x.alarmLow, alarmHigh := runOf (decide (alarm + 10 ≤ snr)) x.alarmHigh
    badRun := runOf (!(b.signal && b.cdr && laneHasRef l s) || decide (snr < getF (pgLNE l) LNE.THRESH_lol_fom s)) x.badRun }

/-- an Iztaub lane below its alarm threshold has been good since now only. -/
def goodAnew (l : Nat) (low : Prop) [Decidable low] (s : State) : State :=
  if 16 ≤ l ∧ l < 32 ∧ low then
    modIzl ((l - 16) / 4) (fun x => { x with goodSince := x.goodSince.map (fun (e : Nat × Nat) =>
      if e.1 = getF (pgLNE l) LNE.ST_logical_lane s then (e.1, s.clk) else e) }) s
  else s

/-- adaptation's taps, but for the pinned stages (R301, R302). -/
def blockAdapted (l : Nat) (b : LaneBlock) (s : State) : State :=
  applyPins l (setFfe l b.ffe (setF (pgLNE l) LNE.RXEQ_dfe (toTwos 8 b.dfe) s))

/-- the lane after the block, its taps still to be adapted. -/
def blockCounted (l : Nat) (b : LaneBlock) (s : State) : State :=
  goodAnew l (min 255 b.snr < getF (pgLNE l) LNE.THRESH_alarm_fom s) (modLane l (countRuns l b s) (blockShown l b s))

/-- the fields that show a block. -/
def blockFields : List Fld := [LNE.ST_cdr_lock, LNE.ST_signal, LNE.FOM_snr_min, LNE.FOM_ber_est, LNE.FOM_snr]

theorem goodAnew_regs {low : Prop} [Decidable low] (u : State) : (goodAnew l low u).regs = u.regs := by
  unfold goodAnew; split <;> rfl

theorem goodAnew_lne {low : Prop} [Decidable low] (u : State) : (goodAnew l low u).lne = u.lne := by
  unfold goodAnew; split <;> rfl

theorem blockCounted_writesIn (b : LaneBlock) : WritesIn (AtFields (pgLNE l) blockFields) s (blockCounted l b s) := by
  have hset : ∀ f ∈ blockFields, ∀ v u, WritesIn (AtFields (pgLNE l) blockFields) u (setF (pgLNE l) f v u) := fun f hf v u =>
    setF_writesIn (atFields_of_mem hf)
  have hshown : WritesIn (AtFields (pgLNE l) blockFields) s (blockShown l b s) :=
    ((((hset _ (by simp [blockFields]) _ _).trans (hset _ (by simp [blockFields]) _ _)).trans
      (hset _ (by simp [blockFields]) _ _)).trans (hset _ (by simp [blockFields]) _ _)).trans (hset _ (by simp [blockFields]) _ _)
  exact hshown.trans (.of_eq (goodAnew_regs _))

theorem blockAdapted_writesIn (b : LaneBlock) : WritesIn (AtFields (pgLNE l) tapFields) s (blockAdapted l b s) :=
  ((setF_writesIn (atFields_of_mem (by simp [tapFields]))).trans
    (setFfe_writesIn fun _ hn => atFields_of_mem (ffe_mem_tapFields hn))).trans (applyPins_writesIn fun _ hf => atFields_of_mem hf)

theorem blockAdapted_lne (b : LaneBlock) : (blockAdapted l b s).lne = s.lne := (applyPins_lne _ _).trans (setAll_lne _ _ _)

theorem blockCounted_lane (b : LaneBlock) : laneOf l (blockCounted l b s) = countRuns l b s (laneOf l s) :=
  (laneOf_congr (goodAnew_lne _)).trans (laneOf_modLane _ _ _)

theorem blockCounted_snr (b : LaneBlock) : getF (pgLNE l) LNE.FOM_snr (blockCounted l b s) = min 255 b.snr := by
  have hlow : min 255 b.snr < 2 ^ LNE.FOM_snr.width := by simp only [LNE.FOM_snr]; omega
  unfold blockCounted
  rw [getF_congr _ _ _ _ (goodAnew_regs _), modLane_getF, blockShown, getF_setF_same, Nat.mod_eq_of_lt hlow]

/-- A block of a RUNNING lane, with no generation to take and no swap due, is shown and counted, and adapts the taps. -/
theorem blockEndOp_running {b : LaneBlock} (hact : act (pgLNE l) s = stRUNNING) (hgen : pendingGen (pgLNE l) s = false)
    (hdue : (laneOf l s).swapDue = false) : blockEndOp l b s = blockAdapted l b (blockCounted l b s) := by
  have hcounted : act (pgLNE l) (blockCounted l b s) = stRUNNING :=
    ((blockCounted_writesIn b).act (not_atFields (by decide))).trans hact
  have hadapted : act (pgLNE l) (blockAdapted l b (blockCounted l b s)) = stRUNNING :=
    ((blockAdapted_writesIn b).act (not_atFields (by decide))).trans hcounted
  have hlane : laneGen l s = s := if_pos (by rw [hgen]; rfl)
  unfold blockEndOp
  rw [hlane]
  extract_lets p a s0 swap locked s1 snr n low shown s2 warn alarm bad s3 s4 s5
  have hswap : swap = false := by unfold swap; rw [hdue]; rfl
  have hs1 : s1 = setF p LNE.ST_signal b.signal.toNat (setF p LNE.ST_cdr_lock locked.toNat s) := by unfold s1; rw [hswap]; rfl
  have hlow : low = false := by
    have hkept : act p s1 = stRUNNING := by
      rw [hs1]
      exact ((getF_setF_field _ _ _ _ _ (by decide)).trans (getF_setF_field _ _ _ _ _ (by decide))).trans hact
    unfold low
    rw [hkept]
    rfl
  have hshown : shown = true := by unfold shown; rw [hswap, hlow]; rfl
  have hs2 : s2 = blockShown l b s := by unfold s2; rw [hshown, hs1]; rfl
  have hs3 : s3 = modLane l (countRuns l b s) (blockShown l b s) := by unfold s3; rw [hswap, hs2]; unfold n; rw [hs1]; rfl
  have hs4 : s4 = blockCounted l b s := by unfold s4; rw [hs3]; rfl
  have hs5 : s5 = blockAdapted l b (blockCounted l b s) := by
    unfold s5
    rw [hs4, if_pos hcounted]
    rfl
  rw [if_neg (by unfold a p; rw [hact]; decide), hs5, if_neg fun h => absurd (hadapted.symm.trans h.1) (by decide),
    if_neg fun h => absurd (hadapted.symm.trans h.1) (by decide)]

/-! ## CTLE (R301) -/

/-- the CTLE setting after a re-evaluation. -/
def ctleNext (now wanted : Nat) : Nat := min 31 (max (now - 1) (min (now + 1) wanted))

/-- the lane re-evaluated, its pinned stages still to be set. -/
def ctleMoved (l ctle : Nat) (ffe : List Int) (s : State) : State :=
  setFfe l ffe (setF (pgLNE l) LNE.RXEQ_ctle (ctleNext (getF (pgLNE l) LNE.RXEQ_ctle s) ctle)
    (modLane l (fun x => { x with blocks := 0 }) s))

theorem ctleOp_moves {ctle : Nat} {ffe : List Int} (hact : act (pgLNE l) s = stRUNNING) (hblocks : 1024 ≤ (laneOf l s).blocks) :
    ctleOp l ctle ffe s = applyPins l (ctleMoved l ctle ffe s) := if_neg (by simp [hact, Nat.not_lt.2 hblocks])

theorem ffe_notCtle {n : Nat} : (LNE.FFE_APPLIED n).loc ∉ [LNE.RXEQ_ctle.loc] := by
  simp only [Fld.loc, LNE.FFE_APPLIED, LNE.RXEQ_ctle, List.mem_singleton]
  omega

theorem ctleMoved_ctle (ctle : Nat) (ffe : List Int) : getF (pgLNE l) LNE.RXEQ_ctle (ctleMoved l ctle ffe s) =
    ctleNext (getF (pgLNE l) LNE.RXEQ_ctle s) ctle := by
  have hffe : ∀ u, getF (pgLNE l) LNE.RXEQ_ctle (setFfe l ffe u) = getF (pgLNE l) LNE.RXEQ_ctle u := fun u =>
    (setFfe_writesIn (K := OffPlaces [LNE.RXEQ_ctle.loc]) fun n hn => offPlaces_of (tapFields_low _ (ffe_mem_tapFields hn))
      ffe_notCtle).getF (not_offPlaces (by decide) (by decide))
  refine (hffe _).trans ((getF_setF_same _ _ _ _).trans (Nat.mod_eq_of_lt ?_))
  simp only [ctleNext, LNE.RXEQ_ctle]
  omega

theorem ctleMoved_writesIn (ctle : Nat) (ffe : List Int) : WritesIn (AtFields (pgLNE l) tapFields) s (ctleMoved l ctle ffe s) :=
  ((WritesIn.of_eq rfl).trans (setF_writesIn (atFields_of_mem (by simp [tapFields])))).trans
    (setFfe_writesIn fun _ hn => atFields_of_mem (ffe_mem_tapFields hn))

theorem ctleMoved_blocks (ctle : Nat) (ffe : List Int) : (laneOf l (ctleMoved l ctle ffe s)).blocks = 0 := by
  have hlne : (ctleMoved l ctle ffe s).lne = (modLane l (fun x => { x with blocks := 0 }) s).lne := setAll_lne _ _ _
  rw [laneOf_congr hlne, laneOf_modLane]

/-- where CTLE is not pinned, the pins leave it. -/
theorem applyPins_ctle (hpin : isF (pgLNE l) LNE.PIN_ctle s = false) :
    getF (pgLNE l) LNE.RXEQ_ctle (applyPins l s) = getF (pgLNE l) LNE.RXEQ_ctle s := by
  have hplaces : ∀ f ∈ tapFields, f ≠ LNE.RXEQ_ctle → f.loc ∉ [LNE.RXEQ_ctle.loc] := by decide
  have hpins : WritesIn (OffPlaces [LNE.RXEQ_ctle.loc]) s (applyPins l s) := applyPins_pinned fun f hf honly =>
    offPlaces_of (tapFields_low f hf) (hplaces f hf fun heq => Bool.false_ne_true (hpin.symm.trans (honly heq)))
  exact hpins.getF (not_offPlaces (by decide) (by decide))

/-! ## Warnings and alarms (R298) -/

/-- the warning and the alarm flag. -/
def fomFlags : List Fld := [LNE.ST_fom_warn, LNE.ST_fom_alarm]

/-- a flag written with its event. -/
theorem flagWritten {f : Fld} (hf : f ∈ fomFlags) {k : Nat} (hk : k ∈ [2, 3, 4]) (v : Nat) (u : State) :
    getF (pgLNE l) f (raise (pgLNE l) k (setF (pgLNE l) f v u)) = v % 2 ∧
      getF (pgLNE l) (HDR.EVENT k) (raise (pgLNE l) k (setF (pgLNE l) f v u)) = 1 ∧
      State.regsBut [pgLNE l] u (raise (pgLNE l) k (setF (pgLNE l) f v u)) := by
  have hplaces : ∀ f ∈ fomFlags, ∀ k ∈ [2, 3, 4], f.loc ∉ (eventFields k).map Fld.loc := by decide
  have hwidth : ∀ f ∈ fomFlags, f.width = 1 ∧ f.loc < 2 ^ 20 := by decide
  have hkept := (raise_writesIn fun _ hg => atFields_of_mem hg : WritesIn (AtFields (pgLNE l) (eventFields k)) (setF (pgLNE l) f v u) _).getF
    (not_atFields (hplaces f hf k hk))
  refine ⟨hkept.trans ((getF_setF_same _ _ _ _).trans (by rw [(hwidth f hf).1, pow_one])), raise_event _ _ _,
    (setF_regsBut _ f v u (hwidth f hf).2).trans (raise_regsBut _ _ _ ((by decide : ∀ k ∈ [2, 3, 4], k < 32) k hk))⟩

theorem fomWarnOp_due (hrun : 64 ≤ (laneOf l s).warnLow) (hclear : isF (pgLNE l) LNE.ST_fom_warn s = false) :
    fomWarnOp l s = raise (pgLNE l) 2 (setF (pgLNE l) LNE.ST_fom_warn 1 s) := if_pos (by simp [hrun, hclear])

theorem fomWarnOp_regsBut : State.regsBut [pgLNE l] s (fomWarnOp l s) :=
  .ite (flagWritten (by simp [fomFlags]) (by simp) 1 s).2.2 (.refl _ s)

theorem execFomAlarm_due {n : Fin 33} (hrun : 64 ≤ (laneOf n.val s).alarmLow) (hclear : isF (pgLNE n.val) LNE.ST_fom_alarm s = false) :
    execFomAlarm n s = .next (raise (pgLNE n.val) 3 (setF (pgLNE n.val) LNE.ST_fom_alarm 1 (fomWarnOp n.val s))) :=
  congrArg Host.Outcome.next (if_pos (by simp [hrun, hclear]))

theorem execFomRecovered_alarm {n : Fin 33} (hrun : 1024 ≤ (laneOf n.val s).alarmHigh) (hset : isF (pgLNE n.val) LNE.ST_fom_alarm s = true) :
    execFomRecovered n true s = .next (raise (pgLNE n.val) 4 (setF (pgLNE n.val) LNE.ST_fom_alarm 0 s)) :=
  congrArg Host.Outcome.next ((if_pos rfl).trans (if_pos ⟨hrun, hset⟩))

theorem execFomRecovered_warn {n : Fin 33} (hrun : 1024 ≤ (laneOf n.val s).warnHigh) :
    execFomRecovered n false s = .next (setF (pgLNE n.val) LNE.ST_fom_warn 0 s) :=
  congrArg Host.Outcome.next ((if_neg Bool.false_ne_true).trans (if_pos hrun))

/-! ## The FOM word and the PRBS checker (R305, R309) -/

theorem execFomRead_runs {r : Req} {n : Fin 33} (h : State.lets r 1 (pgLNE n.val) 0x124 s) :
    execFomRead r n s = .next (reply r 0x81 (regAddr (pgLNE n.val) 0x124) .success (beBytes 4 (fomWord n.val s))
      (setF (pgLNE n.val) LNE.FOM_snr_min 0xFF s)) :=
  congrArg Host.Outcome.next (asRead_runs _ _ _ _ _ h)

theorem execPrbsResync_counts {n : Fin 33} {symbols errors : Nat} (hact : act (pgLNE n.val) s = stTEST)
    (hchk : isF (pgLNE n.val) LNE.PRBS_chk_en s = true) (hlock : isF (pgLNE n.val) LNE.ST_cdr_lock s = true) :
    execPrbsResync n symbols errors s =
      .next (addF (pgLNE n.val) LNE.PRBS_SYM_symbols symbols (addF (pgLNE n.val) LNE.PRBS_ERR_errors errors s)) :=
  congrArg Host.Outcome.next (if_pos ⟨hact, hchk, hlock⟩)

end

/-! ## The commands -/

/-- Settles O35: the block by its stages (`blockEndOp_running`), CTLE by what pins leave (`applyPins_ctle`), the flags by `flagWritten`,
the read and the checker by what they write. -/
theorem laneFiguresAndAdaptation : Obligations.LaneFiguresAndAdaptation := by
  refine ⟨fun l b s hact hgen hdue => ?_, fun l ctle ffe s hact hblocks hpin => ?_,
    fun l s => ⟨fun hrun hclear => ?_, fun hrun hclear => ?_, fun hrun hset => ?_, fun hrun => ?_⟩, fun r l s hlets => ?_,
    fun l symbols errors s hact hchk hlock => ?_⟩
  · have hcounted := blockCounted_writesIn (l := l.val) (s := s) b
    have hadapted := blockAdapted_writesIn (l := l.val) (s := blockCounted l.val b s) b
    have hlane : laneOf l.val (blockAdapted l.val b (blockCounted l.val b s)) = countRuns l.val b s (laneOf l.val s) :=
      (laneOf_congr (blockAdapted_lne b)).trans (blockCounted_lane b)
    refine ⟨_, congrArg Host.Outcome.next (blockEndOp_running hact hgen hdue),
      (hadapted.getF (not_atFields (by decide))).trans (blockCounted_snr b), congrArg LneS.blocks hlane,
      (congrArg LneS.badRun hlane).trans ?_, (congrArg LneS.alarmLow hlane).trans ?_,
      (hcounted.onPage (by decide)).trans (hadapted.onPage tapFields_low)⟩
    · simp [countRuns, runOf, or_assoc]
    · simp [countRuns, runOf]
  · have hmoved := ctleMoved_writesIn (l := l.val) (s := s) ctle ffe
    have hpinned : WritesIn (AtFields (pgLNE l.val) tapFields) _ (applyPins l.val (ctleMoved l.val ctle ffe s)) :=
      applyPins_writesIn fun _ hf => atFields_of_mem hf
    refine ⟨_, congrArg Host.Outcome.next (ctleOp_moves hact hblocks),
      (congrArg LneS.blocks (laneOf_congr (applyPins_lne _ _))).trans (ctleMoved_blocks ctle ffe), ?_,
      (hmoved.onPage tapFields_low).trans (hpinned.onPage tapFields_low)⟩
    exact (applyPins_ctle ((hmoved.isF (not_atFields (by decide))).trans hpin)).trans (ctleMoved_ctle ctle ffe)
  · obtain ⟨hflag, hevent, hregs⟩ := flagWritten (l := l.val) (f := LNE.ST_fom_warn) (by simp [fomFlags]) (k := 2) (by simp) 1 s
    exact ⟨_, congrArg Host.Outcome.next (fomWarnOp_due hrun hclear), beq_iff_eq.2 hflag, hevent, hregs⟩
  · obtain ⟨hflag, hevent, hregs⟩ := flagWritten (l := l.val) (f := LNE.ST_fom_alarm) (by simp [fomFlags]) (k := 3) (by simp) 1
      (fomWarnOp l.val s)
    exact ⟨_, execFomAlarm_due hrun hclear, beq_iff_eq.2 hflag, hevent, fomWarnOp_regsBut.trans hregs⟩
  · obtain ⟨hflag, hevent, hregs⟩ := flagWritten (l := l.val) (f := LNE.ST_fom_alarm) (by simp [fomFlags]) (k := 4) (by simp) 0 s
    exact ⟨_, execFomRecovered_alarm hrun hset, beq_eq_false_iff_ne.2 (by rw [hflag]; decide), hevent, hregs⟩
  · exact ⟨_, execFomRecovered_warn hrun, beq_eq_false_iff_ne.2 (by rw [getF_setF_same]; decide),
      setF_writesIn (atFields_of_mem List.mem_cons_self)⟩
  · exact ⟨_, execFomRead_runs hlets, getF_setF_same _ _ _ _, rfl, setF_writesIn (atFields_of_mem List.mem_cons_self)⟩
  · refine ⟨_, execPrbsResync_counts hact hchk hlock, ?_, ?_,
      (addF_writesIn (atFields_of_mem (by simp))).trans (addF_writesIn (atFields_of_mem (by simp)))⟩
    · rw [getF_addF_same, getF_addF_field _ _ _ _ _ (by decide)]
      rfl
    · rw [getF_addF_field _ _ _ _ _ (by decide), getF_addF_same]
      rfl

end Sys2Proof.Machine
end
